-- ==== Sys2Proof/Word.lean ====
section
/-! DEFINITION. Bytes and words: little-endian packing (R4) and the plainest two's complement arithmetic. -/

namespace Sys2Proof

/-- `n` little-endian bytes of `v` (R4, R502). -/
def leBytes : Nat → Nat → List Nat
  | 0, _ => []
  | n + 1, v => v % 256 :: leBytes n (v / 256)

/-- The number that little-endian bytes stand for. -/
def ofLeBytes : List Nat → Nat
  | [] => 0
  | b :: bs => b % 256 + 256 * ofLeBytes bs

/-- Bits `[lo + w - 1 : lo]` of `v`. -/
def bitsOf (v lo w : Nat) : Nat := v / 2 ^ lo % 2 ^ w

/-- Signed `w`-bit value of the low `w` bits of `v`. -/
def toSigned (w v : Nat) : Int :=
  if v % 2 ^ w < 2 ^ (w - 1) then (v % 2 ^ w : Nat) else (v % 2 ^ w : Nat) - 2 ^ w

/-- Two's complement of `i` in `w` bits. -/
def ofSigned (w : Nat) (i : Int) : Nat := (i % (2 ^ w : Nat)).toNat

end Sys2Proof
end

