-- ==== Sys2Proof/Syntax.lean ====
section
/-! DEFINITION. The commands that the block takes: the operand types, and `Instr` with one constructor for each row of
the opcode table. An operand is what the row's sender supplies: the bits at a port, the arguments of a Talnum command,
or the outside fact (a measured value, an observed edge) that the row reports. -/

namespace Sys2Proof

/-- What the supply monitors report (Table 18-2): rail lost, rail over voltage, or an order code (01h-05h, 30h). -/
inductive SupplyEv where
  | lost (rail : Fin 14)
  | overV (rail : Fin 14)
  | order (code : Fin 64)
deriving DecidableEq, Repr

/-- A failure found by a self-test slice (Table 19-4): `spare` is the spare that would cover it, if any; `extra` counts
bit errors of `LANES` and names the data pin of `BULK`. (DEDUCED, assumption 198) -/
structure FailEntry where
  slice : Nat
  bit : Nat
  addr : Nat
  spare : Option Nat
  extra : Nat
deriving DecidableEq, Repr

/-- What a slice produced (R554): executed count, programmed count of `VERT` (whose groups the manual does not count),
signature and whether it matches, failures, elapsed time, and whether the last pattern completed at the edge of the
budget's expiry. -/
structure SliceOutcome where
  exec : Nat
  prog : Nat
  sigOk : Bool
  sig : Nat
  fails : List FailEntry
  elapsedUs : Nat
  lastAtEdge : Bool
deriving DecidableEq, Repr

/-- A Gray FIFO of the device, by its owner: hit stream port of a bank, cache port of a region, receive buffer of a
lane, NoC port of a region, cache far path from die `a` to die `b` (R85). -/
inductive FifoId where
  | hitPort (b : Fin 32)
  | cachePort (r : Fin 128)
  | laneRx (l : Fin 96)
  | nocPort (r : Fin 128)
  | farPath (a b : Fin 4)
deriving DecidableEq, Repr

/-- Inputs of one cell: `A1` to `A6` (bit 0 is `A1`), `DA` and `DB` (R133). -/
structure CellIn where
  cell : Fin 16
  a : BitVec 6
  da : Bool
  db : Bool
deriving DecidableEq, Repr

/-- Inputs of one cluster (tier × 3,136 + cluster number): the clock-enable and set/reset inputs of its control sets, the
control sets whose asynchronous set/reset falls within t_REC or t_REM of the edge (R140), and its cells. -/
structure CluIn where
  cluster : Fin 6272
  ce : BitVec 4
  sr : BitVec 4
  hazard : BitVec 4
  cells : List CellIn
deriving DecidableEq, Repr

/-- What a pillar's drivers are given: enable and value of LL (bit 0) and LU (bit 1) (R173). -/
structure PilIn where
  cluster : Fin 3136
  pillar : Fin 32
  en : BitVec 2
  val : BitVec 2
deriving DecidableEq, Repr

/-- What the routing of a region brings at an edge or between edges: the inputs of its clusters, the outputs that change at
its border cells, seam stages and interface cells (by border address) and on the routing wires that plume probes show (2^28 +
region × 2^21 + wire), and the pillars that change. -/
structure FabIn where
  clu : List CluIn
  outs : List (Nat × Bool)
  pil : List PilIn
deriving DecidableEq, Repr

/-- An active clock edge: of a region clock net as its source makes it (`falling` = its falling edge); of a cluster's local
clock wire (`narrow` = a pulse below t_CKPW, R162; `via` = the border address that the wire crosses, R161); of the tree of a
seam port, with outputs that change at its launch stages (R189); or no edge, where asynchronous set/resets and outputs
change between edges (R139). -/
inductive FfEdge where
  | net (n : Fin 2048) (falling : Bool) (i : FabIn)
  | wire (r : Fin 128) (cluster : Fin 6272) (falling narrow : Bool) (via : Option Nat) (i : FabIn)
  | seam (p : Fin 24) (launch : List (Nat × Bool))
  | between (r : Fin 128) (i : FabIn)
deriving DecidableEq, Repr

/-- Inputs of one block-memory port at an edge of its clock (Table 7-3). -/
structure BmIn where
  en : Bool
  we : BitVec 4
  addr : BitVec 12
  din : BitVec 52
  oce : Bool
  clr : Bool
deriving DecidableEq, Repr

/-- Inputs of an arithmetic block at an edge of its clock (Table 7-5). -/
structure AbIn where
  a : BitVec 24
  d : BitVec 24
  b : BitVec 24
  c : BitVec 48
  preSub : Bool
  neg : Bool
  zsel : Fin 4
  ceI : Bool
  ceD : Bool
  ceM : Bool
  ceP : Bool
  rst : Bool
deriving DecidableEq, Repr

/-- A request at a region cache port (Table 9-2): `op` 0 read, 1 write, 2 spill mark, 3 release. -/
structure CpReq where
  op : Fin 4
  bank : Fin 256
  row : BitVec 14
  le : BitVec 128
  wdata : BitVec 1664
  tag : BitVec 6
deriving DecidableEq, Repr

/-- What a TDC core sees of an edge: whether its stamp lies in the tick before the present one, the coarse count and the
raw bin. -/
structure CoreIn where
  prev : Bool
  coarse : Nat
  raw : Nat
deriving DecidableEq, Repr

/-- An edge at a TDC channel: polarity, picoseconds since the last recorded edge, the input delay in taps that the edge has
passed (R108), and what the primary and the spare core see. -/
structure TdcIn where
  falling : Bool
  sincePs : Nat
  tap : Nat
  core : CoreIn
  spare : CoreIn
deriving DecidableEq, Repr

/-- One housekeeping reading: channel, value in the unit of Table 4-11, valid, input beyond range. -/
structure HkpRd where
  ch : Nat
  val : Int
  valid : Bool
  beyond : Bool
deriving DecidableEq, Repr

/-- What a vertical group carries (Table 18-6). -/
inductive VertLoad where
  | region (r : Fin 128)
  | cachePort (r : Fin 128)
  | bankPath (b : Fin 256)
  | farPath (d1 d2 : Fin 4)
  | seam (port : Fin 24) (border : List Nat)
  | join (router : Fin 128) (stop : Fin 32)
  | hitStream (b : Fin 32)
  | trigger (l : Fin 96)
deriving DecidableEq, Repr

/-- A vertical group: its address (Table 1-6) and what it carries. -/
structure VertGroup where
  addr : Nat
  carries : VertLoad
deriving DecidableEq, Repr

/-- A NoC packet (Table 13-3) with its route and age (R412); `data` are its payload bytes. -/
structure Pkt where
  typ : Nat
  vc : Nat
  cls : Nat
  len : Nat
  dhops : Nat
  status : Nat
  seq : Nat
  reqSeq : Nat
  tick : Nat
  srcDev : Nat
  srcEp : Nat
  dev : Nat
  ep : Nat
  off : Nat
  unwr : Bool
  late : Bool
  hold : Bool
  errinfo : Nat
  data : List Nat
  route : Nat
  age : Nat
deriving DecidableEq, Repr

/-- A TP_REQ request of a pulse-output pin enters its pulse crossing, or the crossing's acknowledge phase ends (`ack`), at
which a pending pulse is delivered (R90). -/
structure TpReq where
  pin : Fin 1536
  ack : Bool
deriving DecidableEq, Repr

/-- A pulse-output pin, with the picoseconds since the last edge that its own channel recorded. -/
structure TpFire where
  pin : Fin 1536
  sincePs : Nat
deriving DecidableEq, Repr

/-- The fields `COUNT` and `VC` of `PKT_S` (Table 12-1). -/
structure PktHead where
  count : Nat
  vc : Nat
deriving DecidableEq, Repr

/-- The value of a register write; `acked` = the handshakes into its function are acknowledged before the next command, else
the write waits in a crossing (R88). -/
structure RegWrite where
  val : BitVec 32
  acked : Bool
deriving DecidableEq, Repr

/-- An Align block as its receiver measures it: the local tick at the write, the block's `TICK16`, and the side block-clock cycle
of the write within the tick (R352). -/
structure AlignRd where
  tick : Nat
  tick16 : BitVec 16
  cycle : Nat
deriving DecidableEq, Repr

/-- What a received trigger slot holds (R375). -/
inductive SlotBlk where
  | word (w : BitVec 64)
  | empty
  | safe (sender : BitVec 20) (cause : BitVec 4)
  | error (payload : BitVec 64)
deriving DecidableEq, Repr

/-- An `ANNOUNCE` message (Table 12-3). -/
structure Announce where
  hops : Nat
  prio : Nat
  crown : Nat
  m : Nat
  kdiv : Nat
  hold : Bool
deriving DecidableEq, Repr

/-- The commands of the block: one constructor for each row of the opcode table, with its operands. A `Talnum` command
carries the mailbox `mb` that holds its frame, then its arguments in the order of its table. -/
inductive Instr where
  /-- VAON_PRESENT (R38): VAON comes within limits and the device goes from Off to Standby. -/
  | vaonPresent (notOff : Nat)
  /-- VAON_LOST (R524): VAON falls below 90 % for 4 AON cycles, or below 10 % at once, and the device goes to Off. -/
  | vaonLost
  /-- RAIL_PRESENT (R524): A rail stays within its tolerance for 16 AON cycles, and the supply-order monitors judge it. -/
  | railPresent (rail : Fin 14) (notOff : Nat)
  /-- SUPPLY_FAULT (R528): A rail is lost, is over voltage or breaks the supply order; STBY_FAULT is set and Standby is committed. -/
  | supplyFault (ev : SupplyEv)
  /-- RAIL_OFF (R527): A rail falls during power-down and is judged against the reverse order. -/
  | railOff (rail : Fin 14) (notOff : Nat)
  /-- RESET_N_LOW (R39): RESET_N low for t_RSTL or longer takes the device to Standby and holds every function outside AON in reset. -/
  | resetNLow (short : Bool)
  /-- RESET_N_RISE (R39): RESET_N rises with all rails in order; the straps are sampled and Boot starts. -/
  | resetNRise
  /-- QUICK_CHECK_END (R565): The 40 ms quick check ends; BOOT_READY is raised and Boot proceeds to Load or to Safe by the straps and the test policy. -/
  | quickCheckEnd (exec prog : Nat) (fails : List FailEntry)
  /-- WAKE_N_LOW (R47): WAKE_N low for at least t_WAKEL is a wake source in Quiescent. -/
  | wakeNLow (short : Bool)
  /-- TAMPER_ASSERT (R469): TAMPER_N low for at least t_TAMP zeroises the key material and sets TAMPERED. -/
  | tamperAssert (short : Bool)
  /-- VIO_PRESENT (R102): A VIO group stays at or above 0.95 V for 16 AON cycles and becomes present. -/
  | vioPresent (g : Fin 8)
  /-- VIO_LOSS (R106): A bank's VIO falls below 90 % of its declared value; the bank's outputs go hi-Z and its channels stop. -/
  | vioLoss (b : Fin 32)
  /-- VIO_RESTORE (R106): VIO has been back within 5 % for 1.024 ms, and the bank returns to its configuration. -/
  | vioRestore (b : Fin 32)
  /-- QUIESCENT_COMMIT (R48): Quiescent entry reaches its commit point, MODE becomes 6h and the stop gates close. -/
  | quiescentCommit
  /-- WAKE_COMPLETE (R47): The wake from Quiescent completes and the device returns to its run-class mode, or to Limit. -/
  | wakeComplete
  /-- PAIRING_TIMEOUT (R42): The Twin pairing timeout expires at the end of Blocking, and the device enters Run with TWIN_ALONE set. -/
  | pairingTimeout
  /-- MCLK_MEASURE (R69): The MCLK frequency is measured against the reference every 1.024 ms. `srcKHz` = frequency of the
  source in that interval: the MCLK pin, or the recovered block rate of the timing lane (R68); 0 = no edge. -/
  | mclkMeasure (srcKHz : Nat)
  /-- MCLK_LOSS (R70): No MCLK edge arrives within t_MLOSS, or the frequency deviates; the device enters holdover. -/
  | mclkLoss
  /-- MCLK_RETURN (R72): MCLK has run for 1,024 periods within limits; the device relocks and leaves holdover. -/
  | mclkReturn (srcKHz : Nat)
  /-- TICK_BOUNDARY (R74): The tick counter increments at each tick boundary. -/
  | tickBoundary
  /-- TICK_LOAD (R78): A loaded tick value takes effect at its boundary; schedule entries that it skips are removed. -/
  | tickLoad
  /-- SCHED_ENTRY_FIRE (R80): A tick schedule entry fires at the boundary that begins its tick and performs its action. -/
  | schedEntryFire (h : Fin 256)
  /-- SYNTH_LOCK (R67): A synthesizer relocks after a change of its setting or source, and its CLK_LOCK bit becomes 1. -/
  | synthLock (d : Fin 25)
  /-- SYNTH_UNLOCK (R67): A synthesized domain loses lock without a host request; CLK_LOST is set and CLK_UNLOCK is raised. -/
  | synthUnlock (d : Fin 25)
  /-- HANDSHAKE_TIMEOUT (R89): A handshake crossing into function `f` times out 65,536 source cycles after its request, or its
  acknowledge arrives at that edge and the transfer completes late. -/
  | handshakeTimeout (f : Fin 256) (ackAtEdge : Bool)
  /-- POINTER_RESYNC_DONE (R87): A Gray FIFO pointer resynchronisation completes when its acknowledge arrives. -/
  | pointerResyncDone (fifo : FifoId)
  /-- FLIP_FLOP_EDGE (R139): A flip-flop takes its next value at an active clock edge, by precedence. -/
  | flipFlopEdge (e : FfEdge)
  /-- CLOCK_SWITCH_COMPLETE (R151): A region clock net completes a change of source select; SW_DEAD is set if the old source was dead. -/
  | clockSwitchComplete (n : Fin 2048) (sel : Bool) (dead : Bool)
  /-- CLOCK_ENABLE_CHANGE (R152): A region clock net samples its enable from the design and stops or runs. -/
  | clockEnableChange (n : Fin 2048) (en : Bool)
  /-- FAB_SOURCE_LOST (R153): The selected source of a net is lost; the net stays low and FAB_CLK is raised. -/
  | fabSourceLost (n : Fin 2048)
  /-- FAB_SOURCE_RETURN (R153): The source of a net returns and the net resumes on its first rising edge. -/
  | fabSourceReturn (n : Fin 2048)
  /-- SHED_PASS_UPDATE (R156): A new pass value P takes effect at the wrap of the shed gate's phase counter. -/
  | shedPassUpdate (n : Fin 2048)
  /-- PILLAR_CONTENTION (R174): Both enables of a bidirectional pillar stay on longer than t_PFILT, and the arbiter disables both drivers. -/
  | pillarContention (r : Fin 128) (cluster : Fin 3136) (k : Fin 8) (released : Bool)
  /-- SEAM_CLOCK_LOST (R192): The tree of a seam port loses lock; the seam registers hold their values and FAB_CLK is raised. -/
  | seamClockLost (p : Fin 24)
  /-- BM_PORT_ACCESS (R200): A block memory port reads and writes the addressed lanes at an edge with EN = 1. -/
  | bmPortAccess (m : Fin 12288) (pa pb : Option BmIn)
  /-- BM_CLR_INPUT (R205): CLR at a port A edge starts a bulk clear of the BM. -/
  | bmClrInput (m : Fin 12288)
  /-- BM_BULK_CLEAR_DONE (R205): A bulk clear of a BM completes within t_BMCLR. -/
  | bmBulkClearDone (m : Fin 12288)
  /-- AB_EDGE (R212): An arithmetic block computes and loads its registers at a clock edge. -/
  | abEdge (r : Fin 128) (ab : Fin 160) (i : AbIn)
  /-- SWAP_EDGE (R231): An accepted swap request is sampled at a context-clock edge; the state is saved and restored and the new plane drives.
  `port` = the plane that the region's port asks for; `delivered` = requests of the host, and those of swap sets where the context
  clock is not tick-aligned, have crossed into the context clock by this edge (R240, R242). -/
  | swapEdge (r : Fin 128) (port : Option (Fin 4)) (delivered : Bool)
  /-- SWAP_CYCLE_END (R583): The swap cycle ends at c1, and the border cells and suppression release. -/
  | swapCycleEnd (r : Fin 128)
  /-- HOST_SWAP_TIMEOUT (R240): No context-clock edge samples a host swap within 1 ms; the request is withdrawn and the command returns TIMEOUT. -/
  | hostSwapTimeout (r : Fin 128) (ackAtEdge : Bool)
  /-- SWAP_MEMBER_TIMEOUT (R242): A set member has no swap edge within 16 ticks of the boundary and is reported with reason 7. -/
  | swapMemberTimeout (r : Fin 128)
  /-- ROTATION_EDGE (R248): A rotating region swaps to the next plane of its order at each context-clock edge, and stops at the end of a round when asked.
  `delivered` = the request to start or to stop has crossed into the context clock by this edge (R250). -/
  | rotationEdge (r : Fin 128) (delivered : Bool)
  /-- CAPTURE_EDGE (R251): A capture of the active plane is taken into the capture buffer at one context-clock edge.
  `race` = flip-flops of an unrelated clock that have an edge within t_SWG, with the value that the capture shows (R252). -/
  | captureEdge (r : Fin 128) (portReq atSwap : Bool) (race : List (Fin 200704 × Bool))
  /-- HOOD_CLAIM_GRANT (R227): A hood load's claim on a plane is granted or refused at a context-clock edge. -/
  | hoodClaimGrant (r : Fin 128) (p : Fin 4) (swapTarget : Bool)
  /-- OW_RELOAD_COMMIT (R255): An overwrite-active reload commits at a context-clock edge; border cause 010b begins and the region set/reset is applied. -/
  | owReloadCommit (r : Fin 128)
  /-- OW_COPY_DONE (R255): The frame copy of an overwrite-active reload ends, or fails by R257, and the state shadow is set to INIT. -/
  | owCopyDone (r : Fin 128) (landingError : Bool)
  /-- OW_REGION_RELEASE (R255): The region set/reset is released after an overwrite-active reload, and the border cause ends. -/
  | owRegionRelease (r : Fin 128)
  /-- CACHE_PORT_REQUEST (R263): A region cache port accepts a request at an edge with CP_REQ and CP_RDY both 1. -/
  | cachePortRequest (r : Fin 128) (q : CpReq)
  /-- BANK_CYCLE (R275): A bank serves the waiting request of highest priority, with the courtesy slot every 16th cycle. -/
  | bankCycle (b : Fin 256)
  /-- CACHE_PORT_RESPONSE (R264): A cache response is presented to the region port with its tag, plane and status. -/
  | cachePortResponse (r : Fin 128)
  /-- HANDOVER_COMMIT (R272): A handover request is delivered to the bank; PEND becomes 1 and the old owner is refused. -/
  | handoverCommit (b : Fin 256)
  /-- HANDOVER_COMPLETE (R272): The old owner's requests have drained; OWNER takes NEXT and CACHE_HANDED is raised. -/
  | handoverComplete (b : Fin 256)
  /-- FULL_PAGE_BREAK (R282): A full-page write in page code breaks off after 64 bank cycles without its next row. -/
  | fullPageBreak (b : Fin 256)
  /-- BANK_CLEAR_DONE (R285): A bank bulk clear completes, and the held requests are served. -/
  | bankClearDone (b : Fin 256)
  /-- BANK_POWER_CHANGE_DONE (R288): A bank completes entry to Retention or Off, or its return to On. -/
  | bankPowerChangeDone (b : Fin 256)
  /-- BANK_WAKE (R287): The first request to a bank in Retention wakes it within t_BWAKE. -/
  | bankWake (b : Fin 256)
  /-- SPILL_COPY (R290): The cache agent copies marked rows to the spill ring and moves P to W. -/
  | spillCopy (b : Fin 256)
  /-- CACHE_LINE_FILL (R293): A cache-mode group fills or evicts a 2 KiB line to serve an access. -/
  | cacheLineFill (d : Fin 4) (line : Nat)
  /-- BULK_PAGE_ACCESS (R311): A Bulk Store controller performs one page access, as a full-page write or a read-modify-write. -/
  | bulkPageAccess (k : Fin 2)
  /-- BULK_FULL_PAGE_TIMEOUT (R309): The parts of a full-page write are more than 64 BLK cycles apart, so the write becomes partial. -/
  | bulkFullPageTimeout (k : Fin 2)
  /-- SEGMENT_CLEAR_DONE (R313): A Bulk Store segment clear completes, and the waiting requests are served. -/
  | segmentClearDone (s : Fin 48)
  /-- SCRUB_UNIT (R320): The scrubber reads and checks one unit, and makes a conditional write-back. -/
  | scrubUnit (t : Fin 7)
  /-- BG_SCRUB_TICK (R324): Background scrub processes units at its set rate per millisecond. -/
  | bgScrubTick (t : Fin 7)
  /-- TDC_EDGE (R115): An enabled channel records an edge into its 16-entry FIFO, or loses the hit when the FIFO is full. -/
  | tdcEdge (n : Fin 1536) (e : TdcIn)
  /-- HIT_ARBITER (R117): The bank arbiter moves one hit per TDC period from a channel FIFO into the port FIFO. -/
  | hitArbiter (b : Fin 32)
  /-- WATERMARK_EMIT (R118): The bank emits a watermark for tick T once no earlier hit remains. -/
  | watermarkEmit (b : Fin 32)
  /-- HIT_PORT_TRANSFER (R112): A hit word passes to the design at an HS_CLK edge with HS_VALID and HS_READY both 1. -/
  | hitPortTransfer (b : Fin 32) (hsReady : Bool)
  /-- TDC_CAL_SWITCH (R121): At switch tick S the channel is served by the spare, and the primary runs its code-density test. -/
  | tdcCalSwitch (n : Fin 1536)
  /-- TDC_CODE_DENSITY_DONE (R121): The code-density test ends and the core's new table is computed, or the core fails by R123. -/
  | tdcCodeDensityDone (core : Fin 1632) (counts : List Nat)
  /-- TDC_CAL_SWITCH_BACK (R121): At tick S2 the channel returns to its primary, the spare is released and TDC_CAL_DONE is raised. -/
  | tdcCalSwitchBack (n : Fin 1536)
  /-- TDC_ROTATION_TURN (R122): A group's spare takes the next turn of the continuous recalibration rotation. -/
  | tdcRotationTurn (b : Fin 32) (g : Fin 3)
  /-- TP_REQ_PULSE (R124): A TP_REQ request delivered by its pulse crossing fires at the next tick boundary. -/
  | tpReqPulse (p : TpReq)
  /-- TEST_PULSE_FIRE (R124): A pulse-output pin emits a pulse at the requested tick with its set delay and width. -/
  | testPulseFire (p : TpFire)
  /-- IDELAY_STEP (R108): The input delay moves one tap toward its written value every 256 TDC periods. -/
  | idelayStep (n : Fin 1536)
  /-- DAC_LOAD_APPLY (R126): Loads of one DAC that arrive at one HKP edge are ranked, and the winner is applied. -/
  | dacLoadApply (k : Fin 16)
  /-- HKP_ROUND_END (R127): A housekeeping round ends and every result, with TMAX, is published at one HKP edge. -/
  | hkpRoundEnd (rds : List HkpRd)
  /-- GRACE_EXPIRY (R537): The grace timer expires, the thermal state enters Limit and COND_LIMIT becomes 1. -/
  | graceExpiry
  /-- SENSOR_ROUND_MISSING (R536): No round is published for 4.096 ms; SENS_LOST is set and the device enters Safe. -/
  | sensorRoundMissing
  /-- LIFE_RECORD_WRITE (R545): Firmware writes the life record every 24 powered hours. -/
  | lifeRecordWrite
  /-- LINK_MONITOR_VISIT (R547): A link monitor compares both ends of the signals of a vertical group. -/
  | linkMonitorVisit (g : VertGroup) (bad : List Nat)
  /-- VERT_REMAP (R548): A failed vertical signal is remapped onto a free spare of its group. -/
  | vertRemap (g : VertGroup) (pos : Nat)
  /-- POUNCE_FRAME_SLOT (R476): Pounce checks one frame in its slot, corrects what it can and classifies the outcome. -/
  | pounceFrameSlot (r : Fin 128) (upsets : List Nat) (paths : List (VertGroup × Nat))
  /-- REPAIR_LOAD_START (R481): Firmware starts a repair load of queued frames from the plane's source record. -/
  | repairLoadStart
  /-- REPAIR_LOAD_END (R481): A repair load authenticates and writes the kept frames, or fails. -/
  | repairLoadEnd
  /-- CFG_PORT_WORD (R441): The configuration port takes one stream word from two valid cycles. -/
  | cfgPortWord (w : BitVec 64)
  /-- CFG_STREAM_PACKET (R442): A PWRITE packet to endpoint 0A1h delivers stream bytes from a lane or a NoC source. -/
  | cfgStreamPacket (p : Pkt)
  /-- SEGMENT_HEADER (R432): The controller checks a segment header, and forwards, refuses or accepts the segment. -/
  | segmentHeader
  /-- SEGMENT_FORWARD (R444): A segment for another position is forwarded on CFGO with HOP raised by 1. -/
  | segmentForward (words : Nat)
  /-- SEGMENT_RECORD (R433): One record of the payload is parsed and held where it has no effect. -/
  | segmentRecord
  /-- SEGMENT_END (R434): The END record triggers the completeness checks of the segment. -/
  | segmentEnd
  /-- SEGMENT_TAG_CHECK (R462): The GCM tag of the trailer is checked. -/
  | segmentTagCheck
  /-- SIGNATURE_VERIFY (R462): The ECDSA signature verifies or fails within t_SIGVER of its last byte. -/
  | signatureVerify
  /-- LOAD_COMMIT (R436): An authenticated first Load or full reload commits in its steps, and MODE becomes 4h. -/
  | loadCommit
  /-- LOAD_TIMEOUT (R446): The load input stays idle past the load timeout, and the load ends with SHORT_STREAM. -/
  | loadTimeout (wordAtEdge : Bool)
  /-- BLOCKING_LOCK_DONE (R451): The LOCK step completes when every synthesized domain in use is locked. -/
  | blockingLockDone
  /-- LOCK_TIMEOUT (R453): LOCK does not complete within LOCK_TO, and the device enters Safe with cause 6h. -/
  | lockTimeout
  /-- BLOCKING_DELAY_END (R451): A Blocking step's delay ends and the next step (GSR, WREN or OUT), or the end of Blocking, follows. -/
  | blockingDelayEnd
  /-- FELTING_FILL_END (R452): Felting fill of the BMs, the cache and the Bulk Store ends. -/
  | feltingFillEnd
  /-- IMAGE_REFRESH_START (R440): Firmware refreshes a slot whose powered age reaches 8,760 hours, unit by unit. -/
  | imageRefreshStart (slot : Fin 5)
  /-- RDBK_END (R486): A read-back completes and RDBK_DONE is raised; a capture read-back empties the buffer. -/
  | rdbkEnd
  /-- NP_TX_PACKET (R424): The region network interface gathers a whole packet from the design and injects it. -/
  | npTxPacket (r : Fin 128) (p : Pkt) (aborted : Bool)
  /-- ROUTER_HOP (R413): A router or ring stop acts on hop 0 of a head flit and shifts ROUTE. -/
  | routerHop (n : Fin 160) (port : Fin 6)
  /-- WORM_AGE (R417): AGE of a waiting head flit increments every 128 NOC cycles. -/
  | wormAge (n : Fin 160) (port : Fin 6)
  /-- NOC_RESPONSE_RX (R418): A response reaches its requesting interface and is matched by REQ_SEQ. -/
  | nocResponseRx (ep : Fin 1024)
  /-- TXN_TIMEOUT (R422): A non-posted request has no response within TXN_TO and completes with TIMEOUT. -/
  | txnTimeout (ep : Fin 1024) (seq : Nat) (respAtEdge : Bool)
  /-- NP_RX_STALL (R424): A received header is left undelivered for 65,536 NOC cycles and is answered with REGION_DOWN. -/
  | npRxStall (r : Fin 128)
  /-- DOOR_PACKET_ARRIVAL (R425): A header reaches a door and is delivered, or is held and raises wake. -/
  | doorPacketArrival (ep : Fin 1024) (p : Pkt)
  /-- ROUTER_DRAIN_END (R426): The last tail leaves a draining router, and the staged configuration takes effect. -/
  | routerDrainEnd (n : Fin 160)
  /-- ROUTER_DRAIN_TIMEOUT (R426): A drain exceeds 2 µs; the old configuration stays and DRAIN_TO is set. -/
  | routerDrainTimeout (n : Fin 160) (tailAtEdge : Bool)
  /-- MESH_RESET_DRAIN_END (R427): After 1 µs of reset drain, the quadrant routers enter reset and unfinished worms are cut. -/
  | meshResetDrainEnd (q : Fin 5)
  /-- LANE_SIGNAL_DETECT (R338): A lane in Acquire detects signal and locks its clock recovery. -/
  | laneSignalDetect (l : Fin 96)
  /-- BLOCK_LOCK (R340): A receiver gains block lock after 64 valid headers, and corrects polarity if needed. `senders` = lane
  numbers that the training blocks of its quad name (R339). -/
  | blockLock (l : Fin 96) (ofs : Nat) (complement : Bool) (senders : List Nat)
  /-- TRAINING_BLOCK_RX (R345): A received training block carries tap requests, statuses and steps that the lane acts on. -/
  | trainingBlockRx (l : Fin 96) (payload : BitVec 64)
  /-- TAP_REQUEST_TIMEOUT (R345): A tap request is unanswered after 2 ms; it is repeated, or the lane fails after three retries. -/
  | tapRequestTimeout (l : Fin 96) (ackAtEdge : Bool)
  /-- TRAIN_DONE (R346): A lane leaves Train after exchanging 16 Train done blocks. -/
  | trainDone (l : Fin 96)
  /-- BIT_SLIP (R351): One bit-slip completes and HDR_OFS falls by 1. -/
  | bitSlip (l : Fin 96)
  /-- ALIGN_MEASURE_DONE (R352): 256 Align blocks are measured, L_MEAS is set and Align done is sent. -/
  | alignMeasureDone (l : Fin 96) (reads : List AlignRd)
  /-- LANE_ENTER_UP (R353): A lane enters Up after the Align done exchange, and FL_LAT is applied or falls back. -/
  | laneEnterUp (l : Fin 96)
  /-- BRINGUP_TIMEOUT (R342): A lane does not reach Up within the bring-up time; it enters Fail and LANE_FAIL is raised. -/
  | bringupTimeout (l : Fin 96) (upAtEdge : Bool)
  /-- LANE_DOWN_EVENT (R343): An Up lane loses lock or signal, or meets a buffer fault, reset or clock loss; it goes down and retrains or idles. -/
  | laneDownEvent (l : Fin 96) (reason : Nat)
  /-- RX_BUFFER_FILL_CHECK (R355): A fixed-mode buffer fill outside ±2 of its expected value sets FL_SLIP. -/
  | rxBufferFillCheck (l : Fin 96) (fill : Nat)
  /-- ELASTIC_ADJUST (R357): The elastic buffer deletes or inserts one idle block to keep its fill near 32. -/
  | elasticAdjust (l : Fin 96) (idlePasses : Bool)
  /-- ADAPT_FREEZE (R348): Adaptation freezes after 8,192 control blocks and resumes at the first data block. -/
  | adaptFreeze (l : Fin 96) (dataBlock : Bool)
  /-- LANE_NOTICE_RX (R358): A receiver takes a Doze or Sleep notice and enters the same state in its receive half. -/
  | laneNoticeRx (l : Fin 96) (sleep : Bool)
  /-- LANE_SIGNAL_WAKE (R360): Signal detect wakes a lane from Doze or Sleep and LANE_WAKE is raised. -/
  | laneSignalWake (l : Fin 96)
  /-- LANE_DOZE_EXIT_DONE (R359): A lane completes its exit from Doze or Sleep and returns to Up. -/
  | laneDozeExitDone (l : Fin 96) (hdrOfs lMeas : Nat)
  /-- PRBS_CHECK (R363): The PRBS checker locks after 1,024 error-free bits, and counts errors while locked. `rx` = received
  bits in Test; `headers` = invalid headers of a lane in another state. -/
  | prbsCheck (l : Fin 96) (rx : List Bool) (headers : Nat)
  /-- SLICER_CAL_TURN (R366): The spare slicer takes over one slicer in turn so that it can be trimmed. -/
  | slicerCalTurn (l : Fin 96)
  /-- EYE_SCAN_END (R365): An eye scan completes its points and returns the spare slicer. -/
  | eyeScanEnd (l : Fin 96) (counts : List Nat)
  /-- TICK_MARKER_RX (R373): A tick marker that physical lane `l` receives is checked for TCRC and its tick; TICK_MIS is set on
  a mismatch. `skew` = blocks between the first and the last marker of this tick on the lanes of the bundle (R371). -/
  | tickMarkerRx (l : Fin 96) (tick : Nat) (hold : Bool) (tcrc : Nat) (skew : Nat)
  /-- TRIGGER_SLOT_TX (R374): The trigger port samples TRG_TD and TRG_TV for a slot and sends a data or EMPTY block. -/
  | triggerSlotTx (l : Fin 96) (slot : Nat) (td : BitVec 64) (tv : Bool)
  /-- TRIGGER_SLOT_RX (R375): A received trigger slot is presented on the trigger port with its flags. -/
  | triggerSlotRx (l : Fin 96) (slot : Nat) (blk : SlotBlk)
  /-- SAFE_BLOCK_RX (R377): SAFE blocks from the far device set TRG_RSAFE and PEER_SAFE and raise LINK_PEER_SAFE. -/
  | safeBlockRx (l : Fin 96) (sender cause : Nat) (active : Bool)
  /-- PKT_RX (R379): A link packet is judged good or bad; it is delivered in order or NAKed. `badBlocks` = stream blocks
  since the last packet that were block errors (R372). -/
  | pktRx (l : Fin 96) (lseqS lseqE : Nat) (h : PktHead) (pcrc : BitVec 32) (flits : List (BitVec 256)) (badBlocks : Nat)
  /-- ACK_RX (R381): An ACK frees replay entries and credits, or a NAK starts a replay. -/
  | ackRx (l : Fin 96) (next : Nat) (nak : Bool) (credits : List Nat)
  /-- ACK_TIMEOUT (R381): The oldest packet waits ACK_TO without acknowledgement, and the sender replays. -/
  | ackTimeout (l : Fin 96) (ackAtEdge : Bool)
  /-- BUNDLE_DOWN_TIMEOUT (R383): A bundle is not Up again within 10 ms, and its packet channel becomes Blocked. -/
  | bundleDownTimeout (l : Fin 96)
  /-- INIT_RX (R383): An INIT exchange at entry to Up resumes replay, or resets LSEQ and credits. -/
  | initRx (l : Fin 96) (epoch dev role : Nat)
  /-- BRIDGE_FORWARD (R385): A bridge routes a packet to a local endpoint, forwards it to an exit bundle or broadcasts it. -/
  | bridgeForward (l : Fin 96) (fromLink : Bool)
  /-- ANNOUNCE_TX (R389): A device sends ANNOUNCE on every timing link every 1,024 ticks. -/
  | announceTx
  /-- ANNOUNCE_RX (R389): A received ANNOUNCE updates the crown election and the parent choice. -/
  | announceRx (l : Fin 96) (a : Announce)
  /-- PARENT_TIMEOUT (R390): A parent silent for 8 announce periods is dropped. -/
  | parentTimeout
  /-- MEAS_RX (R392): The MEAS exchange gives the child its offset to the parent. -/
  | measRx (l : Fin 96) (lMeas fine ownFine : Nat) (valid : Bool)
  /-- SYNC_ALIGN_STEP (R393): A child applies the offset as a tick load and a phase delay, and repeats until aligned. -/
  | syncAlignStep (parentTime : Nat) (delta : Int)
  /-- ALIGNED_RX (R393): The parent's ALIGNED message lets the child start its own alignment. -/
  | alignedRx (l : Fin 96) (hops : Nat) (aligned : Bool)
  /-- PAIR_ID_RX (R397): The partner's PAIR_ID is compared with the image identity for pairing. -/
  | pairIdRx (id : Nat)
  /-- PAIR_GO_RX (R397): PAIR_GO sets the start tick of the Twin pair, and the secondary echoes it. -/
  | pairGoRx (tick : Nat)
  /-- PAIR_START_TICK (R397): At the start tick both members set COND_TWIN. -/
  | pairStartTick
  /-- DIGEST_TX (R398): Each member sends the digest of its trigger words for the previous tick. -/
  | digestTx
  /-- DIGEST_RX (R398): A received digest is compared with the member's own; a mismatch applies the Twin policy. -/
  | digestRx (tick16 : Nat) (digest : BitVec 32)
  /-- DIGEST_MISSING (R400): No DIGEST arrives for 16 ticks; the member clears COND_TWIN and runs alone. -/
  | digestMissing
  /-- MGMT_FRAME_RX (R395): A management frame is checked by CRC and passed to its mailbox. -/
  | mgmtFrameRx (l : Fin 96) (bytes : List Nat)
  /-- MAILBOX_MSG_PACKET (R504): A MSG packet to endpoint 0A0h posts a command frame or an abort to a mailbox. -/
  | mailboxMsgPacket (p : Pkt)
  /-- IMG_DATA_PACKET (R455): A PWRITE to endpoint 0A2h streams bytes into an image-store slot. -/
  | imgDataPacket (p : Pkt)
  /-- MILLINER_START (R491): Milliner starts the verified firmware copy of higher version, or the recovery service. -/
  | millinerStart (cause : Fin 3)
  /-- WATCHDOG_EXPIRY (R493): The watchdog expires; the device enters Safe with cause 7h and Milliner is reset. -/
  | watchdogExpiry
  /-- LOCKSTEP_MISMATCH (R492): The lockstep comparator finds a mismatch; both cores stop and the device enters Safe with cause 8h. -/
  | lockstepMismatch
  /-- MAILBOX_TAKE (R501): Firmware takes a Posted mailbox in posting order, and the mailbox becomes Busy. -/
  | mailboxTake (m : Fin 16)
  /-- MAILBOX_COMPLETE (R503): Firmware writes the completion frame, and the mailbox becomes Done. -/
  | mailboxComplete (m : Fin 16)
  /-- MAILBOX_TIMEOUT (R506): A mailbox timeout expires and TIMEOUT with MBTO is written. -/
  | mailboxTimeout (m : Fin 16) (doneAtEdge : Bool)
  /-- SLICE_END (R554): A self-test slice ends and is judged; the next slice starts, or Test ends with Standby. -/
  | sliceEnd (o : SliceOutcome)
  /-- SLICE_BUDGET_EXPIRY (R554): A slice's budget expires before its patterns complete. -/
  | sliceBudgetExpiry (o : SliceOutcome)
  /-- FUNC_RESET_DRAIN_DONE (R515): A function reaches its held state after its drain, and RST_ACT becomes 1. -/
  | funcResetDrainDone (f : Fin 256)
  /-- EXPERT_WRITE_DELIVER (R499): A posted expert write reaches its register, or is discarded if its function is locked. -/
  | expertWriteDeliver
  /-- REGISTER_WRITE (R5): A write to a register without behaviour of its own acts by its access codes. -/
  | registerWrite (addr : BitVec 16) (w : RegWrite)
  /-- TICK_LO_READ (R79): A read of TICK_LO captures the tick and HOLD snapshot. -/
  | tickLoRead
  /-- DEV_MODE_WAKE (R47): A write of 1 to DEV_MODE.WAKE wakes the device from Quiescent. -/
  | devModeWake
  /-- DEV_CTL_RESTART (R497): DEV_CTL.RESTART with KEY A5h restarts the device without Milliner. -/
  | devCtlRestart (key : BitVec 8) (alsoSafe : Bool)
  /-- DEV_CTL_SAFE (R497): DEV_CTL.SAFE with KEY A5h enters Safe with cause 1h. -/
  | devCtlSafe (key : BitVec 8)
  /-- RST_FUNC_WRITE (R515): A write of RST_FUNC holds or releases per-function resets in hardware. -/
  | rstFuncWrite (i : Fin 8) (val : BitVec 32)
  /-- EXPERT_WINDOW_WRITE (R499): An FCB write to the expert page is posted, or dropped when 16 writes are pending. -/
  | expertWindowWrite (addr : BitVec 16) (val : BitVec 32)
  /-- MB_CTL_GO (R501): GO posts an Idle mailbox's command frame, or sets COLLIDE. -/
  | mbCtlGo (m : Fin 16)
  /-- MB_CTL_DONE_CLEAR (R501): A write of 1 to DONE returns the mailbox to Idle. -/
  | mbCtlDoneClear (m : Fin 16)
  /-- MB_CTL_ABORT (R507): ABORT requests cancellation of the mailbox's command before it commits. -/
  | mbCtlAbort (m : Fin 16)
  /-- MB_CTL_EVT_POP (R508): EVT_POP removes the head event record of the mailbox's queue. -/
  | mbCtlEvtPop (m : Fin 16)
  /-- PLUME_SEL_WRITE (R488): A write of PLUME_SEL selects a probe for a plume pin, subject to protection. -/
  | plumeSelWrite (k : Fin 16) (val : BitVec 32)
  /-- BANK_OWN_GO (R272): GO in BANK_OWN starts a handover of the bank to NEXT. -/
  | bankOwnGo (b : Fin 256)
  /-- BANK_STAT_CLR (R285): BANK_STAT.CLR starts a bulk clear of the bank. -/
  | bankStatClr (b : Fin 256)
  /-- BM_STAT_CLR (R205): BM_STAT.CLR starts a bulk clear of the BM unless the active plane uses it. -/
  | bmStatClr (m : Fin 12288)
  /-- SEG_CFG_CLR (R313): SEG_CFG.CLR starts a segment clear. -/
  | segCfgClr (s : Fin 48)
  /-- SPLIT_CTL_GO (R327): SPLIT_CTL.GO performs a raw read or write of one unit, or sets DENIED. -/
  | splitCtlGo
  /-- RT_ACC_GO (R414): RT_ACC.GO reads or writes one route-table entry, refusing lists that break R415. -/
  | rtAccGo
  /-- RTR_CFG_APPLY (R426): RTR_CFG.APPLY starts DRAIN of a router or stop. -/
  | rtrCfgApply (n : Fin 160)
  /-- TDC_CFG_CAL_REQ (R122): CAL_REQ requests a calibration of the channel through the group's spare. -/
  | tdcCfgCalReq (n : Fin 1536)
  /-- IDELAY_WRITE (R108): A write of IDELAY starts or redirects the tap walk. -/
  | idelayWrite (n : Fin 1536) (taps : BitVec 9)
  /-- DAC_CODE_WRITE (R126): A write of DAC_CODE loads a code into the DAC. -/
  | dacCodeWrite (k : Fin 16) (code : BitVec 12)
  /-- SWAP_TGT_WRITE (R241): A write of SWAP_TGT sets a swap set's targets, or is dropped while the set is armed. -/
  | swapTgtWrite (s : Fin 16) (w : Fin 16) (val : BitVec 32)
  /-- THERM_CFG_WRITE (R540): A THERM_CFG write takes effect at the next round, or is rejected with CFG_REJ. -/
  | thermCfgWrite (val : BitVec 32)
  /-- FCBACC_UPDATE (R519): Update-DR of FCBACC performs one access on the FCB address space. -/
  | fcbaccUpdate (dr : BitVec 49)
  /-- UNKNOWN_COMMAND (R512): A command code that is not assigned completes with BAD_CMD. -/
  | unknownCommand (mb : Fin 16)
  /-- ID_GET (R513): Returns the device identity and the firmware in use. -/
  | idGet (mb : Fin 16)
  /-- FW_INFO (R513): Returns the state of both firmware copies. -/
  | fwInfo (mb : Fin 16)
  /-- FW_WRITE (R514): Writes bytes of a firmware copy after marking it invalid. -/
  | fwWrite (mb : Fin 16) (copy off : Nat) (bytes : List Nat)
  /-- FW_COMMIT (R514): Verifies and commits a firmware copy. -/
  | fwCommit (mb : Fin 16) (copy : Nat)
  /-- EXPERT_UNLOCK (R500): Unlocks functions for expert writes. -/
  | expertUnlock (mb : Fin 16) (first count : Nat)
  /-- EXPERT_LOCK (R500): Locks functions against expert writes. -/
  | expertLock (mb : Fin 16) (first count : Nat)
  /-- FUNC_RESET (R513): Holds, releases or pulses the reset of a function. -/
  | funcReset (mb : Fin 16) (func action : Nat)
  /-- EVENT_CFG (R509): Sets a mailbox's event mask and event path. -/
  | eventCfg (mb : Fin 16) (box mask : Nat)
  /-- MB_CONFIG (R506): Sets a mailbox's timeout. -/
  | mbConfig (mb : Fin 16) (box timeout : Nat)
  /-- MODE_GET (R54): Returns DEV_MODE and STRAP_LATCH. -/
  | modeGet (mb : Fin 16)
  /-- MODE_SAFE (R46): Enters Safe with cause 1h. -/
  | modeSafe (mb : Fin 16)
  /-- MODE_RESUME (R46): Leaves Safe through a Blocking pass where the Safe causes allow it. -/
  | modeResume (mb : Fin 16)
  /-- MODE_QUIESCE (R52): Starts entry to Quiescent with lanes in Doze or Sleep and an optional wake tick. -/
  | modeQuiesce (mb : Fin 16) (sleep wakeTick : Nat)
  /-- MODE_WAKE (R47): Wakes the device from Quiescent. -/
  | modeWake (mb : Fin 16)
  /-- MODE_SHUTDOWN (R59): Shuts down to Standby, with or without Test. -/
  | modeShutdown (mb : Fin 16) (test mask budget : Nat)
  /-- MODE_RESTART (R39): Holds every function outside AON in reset for 13 AON cycles and restarts Boot. -/
  | modeRestart (mb : Fin 16)
  /-- MODE_BOOT_GO (R54): Starts the first load from a named source in Boot or in Safe with cause 2h. -/
  | modeBootGo (mb : Fin 16) (source num : Nat)
  /-- CFG_LOAD (R448): Starts a load of the given kind from the given source. -/
  | cfgLoad (mb : Fin 16) (kind source num off ep timeout : Nat)
  /-- CFG_STATUS (R455): Returns the configuration and Blocking status. -/
  | cfgStatus (mb : Fin 16)
  /-- CFG_ABORT (R449): Ends a running load before its commit edge. -/
  | cfgAbort (mb : Fin 16)
  /-- IMG_INFO (R439): Returns, and optionally verifies, the directory entry of a slot. -/
  | imgInfo (mb : Fin 16) (slot verify : Nat)
  /-- IMG_WRITE (R439): Marks a slot invalid and erases it for writing. -/
  | imgWrite (mb : Fin 16) (slot len : Nat)
  /-- IMG_DATA (R455): Streams bytes into a slot at the next offset. -/
  | imgData (mb : Fin 16) (slot off : Nat) (bytes : List Nat)
  /-- IMG_COMMIT (R439): Checks a written slot and marks it valid. -/
  | imgCommit (mb : Fin 16) (slot : Nat)
  /-- IMG_BOOT (R455): Sets the boot slot. -/
  | imgBoot (mb : Fin 16) (slot : Nat)
  /-- IMG_REFRESH (R440): Starts a refresh of a slot. -/
  | imgRefresh (mb : Fin 16) (slot : Nat)
  /-- CFG_SOURCE (R437): Returns the source record of a region plane. -/
  | cfgSource (mb : Fin 16) (r p : Nat)
  /-- CTX_STATUS (R259): Returns the context registers of a region. -/
  | ctxStatus (mb : Fin 16) (r : Nat)
  /-- CTX_SWAP (R240): Requests a swap of a region, or schedules a swap set at a tick. -/
  | ctxSwap (mb : Fin 16) (isSet num plane tick : Nat)
  /-- CTX_SET_DEF (R259): Defines a swap set's members, targets and ATOMIC option. -/
  | ctxSetDef (mb : Fin 16) (set atomic mask planes : Nat)
  /-- CTX_DISCARD (R259): Makes a Hood plane Empty. -/
  | ctxDiscard (mb : Fin 16) (r p : Nat)
  /-- CTX_ROTATE (R248): Starts or stops rotation of a region. -/
  | ctxRotate (mb : Fin 16) (r start : Nat) (order : List (Fin 4)) (arg : Nat)
  /-- CTX_CAPTURE (R251): Requests a capture of a plane. -/
  | ctxCapture (mb : Fin 16) (r p : Nat)
  /-- CTX_CAP_FREE (R254): Empties the capture buffer of a region. -/
  | ctxCapFree (mb : Fin 16) (r : Nat)
  /-- CACHE_GET (R301): Returns the registers of cache banks. -/
  | cacheGet (mb : Fin 16) (first count : Nat)
  /-- CACHE_OWN (R272): Hands over a bank now, or arms it for release. -/
  | cacheOwn (mb : Fin 16) (bank owner arm : Nat)
  /-- CACHE_CODE (R283): Changes a bank's code and bulk-clears the bank. -/
  | cacheCode (mb : Fin 16) (bank code pageT : Nat)
  /-- CACHE_CLEAR (R285): Bulk-clears a bank. -/
  | cacheClear (mb : Fin 16) (bank : Nat)
  /-- CACHE_POWER (R288): Changes a bank's power state. -/
  | cachePower (mb : Fin 16) (bank state : Nat)
  /-- CACHE_WIN (R301): Sets a NoC window and the NOC_ACC of listed banks. -/
  | cacheWin (mb : Fin 16) (win dev ep acc : Nat) (banks : List Nat)
  /-- CACHE_MODE (R292): Enters or leaves cache mode for a bank group. -/
  | cacheMode (mb : Fin 16) (die group seg count : Nat)
  /-- CACHE_FLUSH (R293): Writes back the dirty lines of a cache-mode group. -/
  | cacheFlush (mb : Fin 16) (die inv : Nat)
  /-- CACHE_SPILL (R290): Sets or disables a bank's spill ring. -/
  | cacheSpill (mb : Fin 16) (bank base size : Nat)
  /-- CACHE_REPAIR (R301): Returns a bank's spare-column repairs. -/
  | cacheRepair (mb : Fin 16) (bank : Nat)
  /-- BULK_GET (R329): Returns segment and stack status. -/
  | bulkGet (mb : Fin 16) (first count : Nat)
  /-- BULK_CODE (R315): Changes a segment's T or ACC. -/
  | bulkCode (mb : Fin 16) (seg t acc : Nat)
  /-- BULK_CLEAR (R313): Clears a segment. -/
  | bulkClear (mb : Fin 16) (seg : Nat)
  /-- SCRUB_START (R323): Queues a host scrub pass and returns its handle. -/
  | scrubStart (mb : Fin 16) (target first last rowFirst rowLast : Nat)
  /-- SCRUB_STATUS (R324): Returns, and optionally zeroes, a scrub summary. -/
  | scrubStatus (mb : Fin 16) (handle clear : Nat)
  /-- SCRUB_ABORT (R323): Ends a scrub pass with state Cut. -/
  | scrubAbort (mb : Fin 16) (handle : Nat)
  /-- SCRUB_BG (R324): Sets the background scrub rate of a target. -/
  | scrubBg (mb : Fin 16) (target rate : Nat)
  /-- SPLIT_GO (R327): Performs a raw split-write access on one unit. -/
  | splitGo (mb : Fin 16) (kind unit op : Nat) (bytes : List Nat)
  /-- BM_CLEAR (R222): Bulk-clears one BM, or every allowed BM of a region. -/
  | bmClear (mb : Fin 16) (r bm : Nat)
  /-- BM_GET (R222): Returns BM_STAT values. -/
  | bmGet (mb : Fin 16) (r first count : Nat)
  /-- AB_FLAGS (R222): Returns, and optionally clears, a region's AB flags. -/
  | abFlags (mb : Fin 16) (r clear : Nat)
  /-- LANE_GET (R368): Returns the lane registers. -/
  | laneGet (mb : Fin 16) (l : Nat)
  /-- LANE_UP (R368): Brings up the named lanes and reports each lane's outcome. -/
  | laneUp (mb : Fin 16) (mask time : Nat)
  /-- LANE_DOWN (R368): Takes the named lanes down. -/
  | laneDown (mb : Fin 16) (mask : Nat)
  /-- LANE_POWER (R358): Sets lanes to On, Doze or Sleep. -/
  | lanePower (mb : Fin 16) (mask state : Nat)
  /-- LANE_FL_SET (R353): Sets a lane's fixed latency. -/
  | laneFlSet (mb : Fin 16) (l lat : Nat)
  /-- LANE_SLIP (R351): Slips a lane's word boundary in Align. -/
  | laneSlip (mb : Fin 16) (l count : Nat)
  /-- LANE_TEST (R364): Sets a PRBS pattern and a loopback on a lane. -/
  | laneTest (mb : Fin 16) (l pattern invert loopback : Nat)
  /-- LANE_ERR (R368): Returns, and optionally clears, the error counters of a lane. -/
  | laneErr (mb : Fin 16) (l clear : Nat)
  /-- LANE_EYE (R365): Runs an eye scan with the spare slicer. -/
  | laneEye (mb : Fin 16) (l phase0 phase1 ofs0 ofs1 e : Nat)
  /-- LANE_EQ_SET (R347): Sets a lane's presets, equaliser values and adaptation. -/
  | laneEqSet (mb : Fin 16) (l pre post ctle : Nat) (dfe : List Nat) (adapt : Nat)
  /-- LINK_GET (R403): Returns the link registers and totals of a bundle. -/
  | linkGet (mb : Fin 16) (l : Nat)
  /-- DRT_SET (R386): Writes a device route table entry. -/
  | drtSet (mb : Fin 16) (entry mtch mask bundle valid : Nat)
  /-- DRT_GET (R403): Returns device route table entries. -/
  | drtGet (mb : Fin 16) (first count : Nat)
  /-- LINK_ID_SET (R388): Assigns the device ID. -/
  | linkIdSet (mb : Fin 16) (dev : Nat)
  /-- TWIN_GET (R403): Returns the Twin status. -/
  | twinGet (mb : Fin 16)
  /-- TWIN_POLICY (R42): Sets the Twin policy and the pairing timeout. -/
  | twinPolicy (mb : Fin 16) (policy timeout : Nat)
  /-- TIME_GET (R99): Returns the tick snapshot and the clock status. -/
  | timeGet (mb : Fin 16)
  /-- SCHED_ADD (R81): Adds a tick schedule entry and returns its handle. -/
  | schedAdd (mb : Fin 16) (tick action target arg : Nat)
  /-- SCHED_CANCEL (R84): Cancels a pending schedule entry and reports its state. -/
  | schedCancel (mb : Fin 16) (handle : Nat)
  /-- SCHED_LIST (R99): Lists schedule entries. -/
  | schedList (mb : Fin 16) (first count : Nat)
  /-- CLK_SET (R66): Changes a synthesizer setting in the permitted modes. -/
  | clkSet (mb : Fin 16) (domain mode mult div : Nat)
  /-- CLK_GET (R66): Returns a domain's setting, frequency and lock state. -/
  | clkGet (mb : Fin 16) (domain : Nat)
  /-- TIME_SET (R100): Loads the tick counter at a named boundary. -/
  | timeSet (mb : Fin 16) (tick boundary : Nat)
  /-- SYNC_ROLE (R389): Sets the device's crown priority. -/
  | syncRole (mb : Fin 16) (prio : Nat)
  /-- SYNC_GET (R403): Returns the synchronisation status. -/
  | syncGet (mb : Fin 16)
  /-- SYNC_ALIGN (R393): Runs tick alignment to the parent. -/
  | syncAlign (mb : Fin 16)
  /-- LINK_ASYM (R392): Sets a timing link's asymmetry correction. -/
  | linkAsym (mb : Fin 16) (l : Nat) (ps : Int)
  /-- PIN_GET (R129): Returns a pin's configuration and TDC state. -/
  | pinGet (mb : Fin 16) (n : Nat)
  /-- PIN_SET (R129): Changes a pin's adjustable fields. -/
  | pinSet (mb : Fin 16) (n val : Nat)
  /-- TDC_SET (R129): Writes a channel's TDC_CFG. -/
  | tdcSet (mb : Fin 16) (n val : Nat)
  /-- TDC_CAL (R122): Requests a calibration of a channel through the spare. -/
  | tdcCal (mb : Fin 16) (n : Nat)
  /-- TDC_STAT (R129): Returns a channel's calibration state. -/
  | tdcStat (mb : Fin 16) (n : Nat)
  /-- TP_ARM (R124): Arms test pulses of pins for a named tick. -/
  | tpArm (mb : Fin 16) (first count tick : Nat)
  /-- DAC_SET (R126): Loads a code into a DAC. -/
  | dacSet (mb : Fin 16) (k code : Nat)
  /-- ADC_GET (R129): Returns an ADC result. -/
  | adcGet (mb : Fin 16) (input : Nat)
  /-- HKP_READ (R129): Returns housekeeping results. -/
  | hkpRead (mb : Fin 16) (first count : Nat)
  /-- HKP_MASK (R128): Masks housekeeping channels. -/
  | hkpMask (mb : Fin 16) (mask : Nat)
  /-- THERM_GET (R551): Returns the thermal registers and per-die maxima. -/
  | thermGet (mb : Fin 16)
  /-- THERM_SET (R540): Sets T_LIMIT, GRACE_MS and FLOOR. -/
  | thermSet (mb : Fin 16) (limit grace floor : Nat)
  /-- THERM_PEAK_CLR (R551): Resets TPEAK to the last TMAX. -/
  | thermPeakClr (mb : Fin 16)
  /-- LIFE_GET (R544): Returns the life bins and the slowdown of each die. -/
  | lifeGet (mb : Fin 16)
  /-- PWR_GET (R551): Returns the rail status and readings. -/
  | pwrGet (mb : Fin 16)
  /-- VERT_GET (R551): Returns the fences made since Boot. -/
  | vertGet (mb : Fin 16) (first count : Nat)
  /-- DIE_POWER (R532): Switches a quadrant's upper or memory unit on or off in Safe. -/
  | diePower (mb : Fin 16) (q unit off : Nat)
  /-- TEST_GET (R569): Returns the test status and slice results. -/
  | testGet (mb : Fin 16)
  /-- TEST_RESULTS (R559): Returns a self-test result record. -/
  | testResults (mb : Fin 16) (record first count : Nat)
  /-- TEST_RUN (R558): Runs one in-service slice on one unit. -/
  | testRun (mb : Fin 16) (slice unit budget : Nat)
  /-- TEST_POLICY (R566): Sets the Safe or Fence policy. -/
  | testPolicy (mb : Fin 16) (policy : Nat)
  /-- TEST_FENCE (R566): Fences the unrepairable units in Safe with cause 4h. -/
  | testFence (mb : Fin 16)
  /-- REPAIR_LIST (R569): Returns fuse or soft repair entries. -/
  | repairList (mb : Fin 16) (soft first count : Nat)
  /-- REPAIR_FUSE (R564): Copies soft repair entries into fuses. `vfuse` = VFUSE is present; `failed` = entries (by index of the
  soft list) whose fuses do not read back as written. -/
  | repairFuse (mb : Fin 16) (first count : Nat) (failed : List Nat) (vfuse : Bool)
  /-- REPAIR_RETIRE (R564): Retires a fuse repair entry. -/
  | repairRetire (mb : Fin 16) (entry : Nat) (vfuse : Bool)
  /-- SEC_STATUS (R473): Returns SEC_PROT and SEC_STAT. -/
  | secStatus (mb : Fin 16)
  /-- SEC_BBK_SET (R459): Stores a battery-backed key after checking its check value. -/
  | secBbkSet (mb : Fin 16) (key check replace : Nat)
  /-- SEC_ZEROISE (R469): Zeroises the key material on command. -/
  | secZeroise (mb : Fin 16)
  /-- SEC_FUSE_PROG (R472): Blows security fuses and reports those that failed. `vfuse` = VFUSE is present; `failed` = addresses
  of the fuses that do not blow. -/
  | secFuseProg (mb : Fin 16) (first count data : Nat) (vfuse : Bool) (failed : List Nat)
  /-- SEC_FUSE_READ (R472): Returns fuse values, except the key. -/
  | secFuseRead (mb : Fin 16) (first count : Nat)
  /-- SEC_PUBKEY_SET (R473): Stores a public key in slot 5. -/
  | secPubkeySet (mb : Fin 16) (idx key : Nat)
  /-- SEC_RESTRICT (R466): Narrows SEC_PROT and may raise MIN_SVN until the next Boot. -/
  | secRestrict (mb : Fin 16) (mask minSvn : Nat)
  /-- SEC_TAMPER_CLR (R469): Clears TAMPERED while TAMPER_N is high. -/
  | secTamperClr (mb : Fin 16)
  /-- POUNCE_SET (R489): Sets pounce EN, MODE and UNC_ACT. -/
  | pounceSet (mb : Fin 16) (en mode unc : Nat)
  /-- POUNCE_GET (R489): Returns, and optionally clears, the pounce counts. -/
  | pounceGet (mb : Fin 16) (r clear : Nat)
  /-- ESS_LOG (R483): Returns, and optionally removes, essential-error log entries. -/
  | essLog (mb : Fin 16) (first count clear : Nat)
  /-- CFG_REPAIR (R481): Starts a repair load of frames of a plane. -/
  | cfgRepair (mb : Fin 16) (r p frame : Nat)
  /-- RDBK_START (R484): Starts a read-back of a capture or of frames. -/
  | rdbkStart (mb : Fin 16) (kind r p first count path addr : Nat)
  /-- RDBK_ABORT (R486): Stops a running read-back. -/
  | rdbkAbort (mb : Fin 16)
  /-- PLUME_SET (R488): Selects a probe for a plume pin. -/
  | plumeSet (mb : Fin 16) (pin r probe en : Nat)
  /-- PLUME_GET (R489): Returns the plume selections. -/
  | plumeGet (mb : Fin 16)
  /-- NOC_RT_SET (R415): Writes a route-table entry after checking its form. -/
  | nocRtSet (mb : Fin 16) (ep entry hops valid : Nat)
  /-- NOC_RT_GET (R429): Returns route-table entries. -/
  | nocRtGet (mb : Fin 16) (ep first count : Nat)
  /-- NOC_RTR_SET (R426): Reconfigures a router through DRAIN. -/
  | nocRtrSet (mb : Fin 16) (n pen vc2 : Nat)
  /-- NOC_NI_SET (R429): Sets a network interface's timeout, class limit, hops and shedding. -/
  | nocNiSet (mb : Fin 16) (ep txnTo maxc dhops shed : Nat)
  /-- NOC_STATUS (R429): Returns router or interface status. -/
  | nocStatus (mb : Fin 16) (isEp n : Nat)
  /-- NOC_ERRLOG (R421): Returns, and optionally clears, the NoC error log. -/
  | nocErrlog (mb : Fin 16) (first count clear : Nat)
  /-- CAL_EXPORT (R521): Exports a calibration record. -/
  | calExport (mb : Fin 16) (scope dest num : Nat)
  /-- CAL_IMPORT (R521): Checks and imports a calibration record. -/
  | calImport (mb : Fin 16) (source num : Nat) (bytes : List Nat) (force : Nat)
  /-- CAL_LIST (R522): Lists the stored calibration records. -/
  | calList (mb : Fin 16)
  /-- CAL_SAVE (R522): Erases a record or names the boot calibration record. -/
  | calSave (mb : Fin 16) (setBoot num : Nat)
  /-- TAMPER_N_HIGH (R470): TAMPER_N returns high; TAMPER_NOW clears and SEC_BBK_SET, the battery-backed key and TAMPERED clearing become possible again. -/
  | tamperNHigh
  /-- VBAT_LOW (R458): VBAT falls below or returns above V_BATRET; VBAT_LOW follows it, and with VAON absent the battery-backed key is lost. -/
  | vbatLow (low : Bool)
  /-- VIO_ABSENT (R102): A VIO group's voltage falls below 0.95 V and the group becomes absent, so its pins go hi-Z without pulls in any mode. -/
  | vioAbsent (g : Fin 8)
  /-- TAP_UPDATE_IR (R518): The test access port updates its instruction register, selecting EXTEST, HIGHZ, CLAMP, BYPASS, IDCODE or FCBACC, with BYPASS for unlisted opcodes. -/
  | tapUpdateIr (opcode : BitVec 8)
  /-- NOC_PORT_RX_FLIT (R423): The design takes a received flit at a region NoC port edge with NP_RVALID and NP_RREADY both 1. -/
  | nocPortRxFlit (r : Fin 128) (ready : Bool)
  /-- BASE_R_RX_BLOCK (R402): A BASE-R lane in Up receives a block and presents it, with BR_RV and the BER monitor state, to the design through its Gray FIFO. -/
  | baseRRxBlock (l : Fin 96) (rd : BitVec 64) (rc : BitVec 8) (hiBer : Bool)
  /-- BASE_R_TX_BLOCK (R402): A BASE-R lane takes a block from BR_TD and BR_TC of the design through its Gray FIFO and sends it. -/
  | baseRTxBlock (l : Fin 96) (td : BitVec 64) (tc : BitVec 8)
  /-- STREAM_POSITION_TX (R384): At each stream position a Spaif lane sends the next waiting block in the order TIMING, ACK, DIGEST, MGMT, packet block, IDLE. -/
  | streamPositionTx (l : Fin 96)
deriving DecidableEq, Repr

end Sys2Proof
end

