-- ==== Sys2Proof/Decode.lean ====
section
/-! DEFINITION. Commands as words: no row of the opcode table gives bits (the commands come from many ports, each with a
form of its own), so no word spells one. -/

namespace Sys2Proof

/-- The command that a word of the table's bits spells: none, since no row has bits. -/
def decodeTableWord (_nbits _w : Nat) : Option Instr := none

end Sys2Proof
end

