-- ==== Sys2Proof/Machine/Crc.lean ====
section
/-! DEFINITION. The checks and sequences whose polynomials the manual gives: CRC-32 and TCRC (R373, R379), CRC-16 (R395), the
scrambler of the lanes (R336) and the PRBS patterns (R363). -/

namespace Sys2Proof.Machine

/-- The bits of `v`, bit 0 first. -/
def bitList : Nat → Nat → List Bool
  | 0, _ => []
  | n + 1, v => (v % 2 == 1) :: bitList n (v / 2)

/-- One bit of the CRC-32 of R379, in the reflected register that takes bit 0 first. -/
def crc32Bit (c : Nat) (b : Bool) : Nat :=
  let x := Nat.xor c (if b then 1 else 0)
  if x % 2 = 1 then Nat.xor (x / 2) 0xEDB88320 else x / 2

/-- CRC-32 of a bit list (R379). -/
def crc32Bits (l : List Bool) : Nat := Nat.xor (l.foldl crc32Bit 0xFFFFFFFF) 0xFFFFFFFF

/-- CRC-32 of bytes. -/
def crc32 (l : List Nat) : Nat := crc32Bits (l.flatMap (bitList 8))

/-- One bit of the CRC-16 of R395 (polynomial 1021h, most significant bit of a byte first). -/
def crc16Bit (c : Nat) (b : Bool) : Nat :=
  let c2 := c * 2 % 65536
  if (decide (32768 ≤ c)) != b then Nat.xor c2 0x1021 else c2

/-- CRC-16 of bytes (R395). -/
def crc16 (l : List Nat) : Nat := (l.flatMap fun b => (bitList 8 b).reverse).foldl crc16Bit 0xFFFF

/-- One bit of `TCRC` (R373): polynomial x^8 + x^2 + x + 1. -/
def crc8Bit (c : Nat) (b : Bool) : Nat :=
  let c2 := c * 2 % 256
  if (decide (128 ≤ c)) != b then Nat.xor c2 7 else c2

/-- A bit list as a number, first bit least significant. -/
def bitsNat (l : List Bool) : Nat := l.foldr (fun b a => 2 * a + if b then 1 else 0) 0

/-- The line bits before a register that holds the last 58 of them, the newest in bit 0: x^58 + x^39 + 1 (R336). -/
def scramTap (r : Nat) : Bool := r.testBit 38 != r.testBit 57

/-- The register after line bit `b`. -/
def scramShift (r : Nat) (b : Bool) : Nat := (2 * r + if b then 1 else 0) % 2 ^ 58

/-- The register after line bits. -/
def scramEnter (r : Nat) (l : List Bool) : Nat := l.foldl scramShift r

/-- The scrambler: line bits and the register after them (R336). -/
def scramble : Nat → List Bool → List Bool × Nat
  | r, [] => ([], r)
  | r, b :: l =>
    let o := b != scramTap r
    let x := scramble (scramShift r o) l
    (o :: x.1, x.2)

/-- The descrambler: payload bits of line bits (R336). -/
def descramble : Nat → List Bool → List Bool
  | _, [] => []
  | r, b :: l => (b != scramTap r) :: descramble (scramShift r b) l

/-- Taps of a PRBS pattern of degree 7, 15, 23 or 31 (R363). -/
def prbsTaps : Nat → Nat × Nat
  | 7 => (6, 5) | 15 => (14, 13) | 23 => (22, 17) | _ => (30, 27)

/-- The next bit of pattern `p` after a register that holds its last bits, the newest in bit 0. -/
def prbsNext (p r : Nat) : Bool := r.testBit (prbsTaps p).1 != r.testBit (prbsTaps p).2

/-- The register of pattern `p` after bit `b`. -/
def prbsShift (p r : Nat) (b : Bool) : Nat := (2 * r + if b then 1 else 0) % 2 ^ p

/-- `n` bits of pattern `p` from register `r`, and the register after them. -/
def prbsRun (p : Nat) : Nat → Nat → List Bool × Nat
  | r, 0 => ([], r)
  | r, n + 1 =>
    let b := prbsNext p r
    let x := prbsRun p (prbsShift p r b) n
    (b :: x.1, x.2)

/-- `TCRC` of the 64-bit payloads of an interval, payload bit 0 first. -/
def tcrc (l : List Nat) : Nat := (l.flatMap (bitList 64)).foldl crc8Bit 0

end Sys2Proof.Machine
end

