-- ==== Sys2Proof/Config.lean ====
section
/-! DEFINITION. What the manual leaves free: every constant here has no body, so nothing can evaluate it. -/

namespace Sys2Proof

/-! ## What the frames of a plane configure -/

/-- The configuration of a cell (Tables 5-3 to 5-6): table and its mode; carry mode 0 Off, 1 Dual, 2 Series; carry-in
source 0 previous cell, 1 constant 0, 2 constant 1, 3 `DB`; source of `OX` 0 `O6`, 1 `X`, 2 `S0`, 3 `CO0` and of `OY` 0
`Y`, 1 `S1`, 2 `CX`; FFA data from `DA`, FFB data from `DB`; control set and `SRVAL` of FFA and FFB. -/
structure CellCfg where
  used : Bool
  table : BitVec 64
  fractured : Bool
  carry : Fin 3
  cin : Fin 4
  ox : Fin 4
  oy : Fin 3
  daA : Bool
  dbB : Bool
  csA : Fin 4
  csB : Fin 4
  srvA : Bool
  srvB : Bool
deriving DecidableEq, Repr, Inhabited

/-- The configuration of a control set (Table 5-6): clock 0–15 a region clock net, 16 the local clock wire; polarity;
clock enable tied to 1; set/reset tied to 0; asynchronous set/reset. -/
structure CtlCfg where
  clk : Fin 17
  falling : Bool
  ceOne : Bool
  srZero : Bool
  async : Bool
deriving DecidableEq, Repr, Inhabited

/-- The configuration of a block-memory port (R196, R198, R200, R201): its net and polarity, lanes per access as a power of
two, write mode 0 read-first, 1 write-first, 2 no-change, and `OREG`. -/
structure BmCfg where
  net : Fin 16
  falling : Bool
  lanes : Fin 3
  mode : Fin 3
  oreg : Bool
deriving DecidableEq, Repr, Inhabited

/-- The configuration of an arithmetic block (R215, R258): in use, its net and polarity, `PRE_EN`, `SAT` and the registers
present. -/
structure AbCfg where
  used : Bool
  net : Fin 16
  falling : Bool
  preEn : Bool
  sat : Bool
  ireg : Bool
  dreg : Bool
  mreg : Bool
deriving DecidableEq, Repr, Inhabited

/-- The cell with a number (tier × 50,176 + cluster × 16 + cell) under a plane's frames; Efxel's assignment of frame bits is
not part of the device interface (R137). (DESIGN CHOICE, assumption 53) -/
opaque Config.cell : List (Nat × Nat) → Nat → CellCfg

/-- Control set `k` (cluster × 4 + set, over both tiers) under a plane's frames. (DESIGN CHOICE, assumption 53) -/
opaque Config.ctl : List (Nat × Nat) → Nat → CtlCfg

/-- Port `k` (BM × 2, + 1 for port B) of a region's block memories under a plane's frames. (DESIGN CHOICE, assumption 53) -/
opaque Config.bmPort : List (Nat × Nat) → Nat → BmCfg

/-- Arithmetic block `k` of a region under a plane's frames. (DESIGN CHOICE, assumption 53) -/
opaque Config.ab : List (Nat × Nat) → Nat → AbCfg

/-- A plane's frames drive the border cell, seam stage or interface cell with a border address (R177, R187), and the plane
that Efxel marks as its driver in rotation (R249). (DESIGN CHOICE, assumption 53) -/
opaque Config.planeDrives : List (Nat × Nat) → Nat → Bool
opaque Config.borderPlane : List (Nat × Nat) → Nat → Nat

/-- Enable of a tier's driver (0 LL, 1 LU) of a bidirectional pillar, by its address: 0 constant 0, 1 constant 1, else a
routing signal (R173). (DESIGN CHOICE, assumption 53) -/
opaque Config.pillarEn : List (Nat × Nat) → Nat → Nat → Nat

/-- Net that clocks the cache port of a region, and the plane that drives the port in rotation (R237, R249, R263).
(DESIGN CHOICE, assumption 53) -/
opaque Config.cachePort : List (Nat × Nat) → Fin 16 × Fin 4

/-- Net that clocks the NoC port of a region (R423). (DESIGN CHOICE, assumption 53) -/
opaque Config.nocPort : List (Nat × Nat) → Fin 16

/-! ## Free values and what the manual leaves to an implementation -/

/-- The free values: value number `n` of the run. The manual names each place that takes one "not defined".
(DESIGN CHOICE, assumption 8) -/
opaque Config.freeValue : Nat → Nat

/-- Check bits that the page code with `t` gives `data`; the manual gives the code's strength and not its polynomial.
(DESIGN CHOICE, assumption 89) -/
opaque Config.pageCode : Nat → List Nat → Nat

/-- SEC-DED check bits of strong words of the block memories and cache; only the code's distance is given.
(DESIGN CHOICE, assumption 60) -/
opaque Config.secDed : Nat → Nat → Nat

/-- Check bits of a frame's words; only what the check corrects and finds is given. (DESIGN CHOICE, assumption 158) -/
opaque Config.frameCode : Nat → Nat

/-- Normalised ageing reading of a die at 85 °C (R546): die, reading, die temperature, rail reading. (DESIGN CHOICE,
assumption 187) -/
opaque Config.ageNormal : Nat → Int → Int → Int → Int

/-- Measured frequency in kHz of a domain for which the manual gives a bound only (Table 3-1). (DESIGN CHOICE,
assumption 34) -/
opaque Config.clockKHz : Nat → Nat

/-- Frequency in kHz at which a pin, a lane or a routing wire drives a region clock net, by net. (DESIGN CHOICE, assumption
213) -/
opaque Config.userKHz : Nat → Nat

/-- Mode, N and D that `CLK_GET` shows for a domain whose frequency is fixed (field 0, 1, 2); the manual gives none.
(DESIGN CHOICE, assumption 34) -/
opaque Config.clockSetting : Nat → Nat → Nat

/-- What Efxel's assignment of frame bits (R137) makes of a plane's frames: the `INIT` of flip-flop `i` (R138).
(DESIGN CHOICE, assumption 53) -/
opaque Config.ffInit : List (Nat × Nat) → Nat → Bool

/-- Context-clock net that a plane's frames choose (R229). (DESIGN CHOICE, assumption 53) -/
opaque Config.planeCtxNet : List (Nat × Nat) → Nat

/-- Settings `RCN_CFG` [9:0] of a region clock net under a plane's frames (R235). (DESIGN CHOICE, assumption 53) -/
opaque Config.planeNet : List (Nat × Nat) → Nat → Nat

/-- Global tree, or 7, that a plane's frames choose for a seam port (R228). -/
opaque Config.planeSeam : List (Nat × Nat) → Nat → Nat

/-- `PORT_EN` of a plane (R239). -/
opaque Config.planePort : List (Nat × Nat) → Bool

/-- A plane's frames define probe candidate `k` (R487). -/
opaque Config.planeProbe : List (Nat × Nat) → Nat → Bool

/-- What probe candidate `k` is: flip-flop `i` of the region, or routing wire `200704 + w` (R487). (DESIGN CHOICE, assumption
53) -/
opaque Config.probeAt : List (Nat × Nat) → Nat → Nat

/-- The 16-bit checksum of a bin table that `TDC_STAT` returns; the manual does not give its rule. (DESIGN CHOICE,
assumption 51) -/
opaque Config.binChecksum : List Nat → Nat

/-- What a vertical group of the interfaces B-M and M-CL carries, as kind × 2^16 + index (Table 18-6), and the border
addresses of the seam signals in it; the manual leaves the assignment to the device. (DEDUCED, assumption 148) -/
opaque Config.vertCarries : Nat → Nat
opaque Config.vertBorder : Nat → List Nat

/-- The vertical group that carries the seam signal with a border address. -/
opaque Config.seamGroup : Nat → Nat

/-- Virtual channel of the posted writes that a block of the device sends by itself, as an index into 0, 2, 3, and the
class of its packets; the manual gives neither. (DESIGN CHOICE, assumption 129) -/
opaque Config.ownVc : Nat → Nat
opaque Config.ownClass : Nat → Nat

/-- A Bulk Store stack refreshes at the raised rate at a temperature in 1/16 °C; the manual gives no threshold.
(DESIGN CHOICE, assumption 97) -/
opaque Config.hotRefresh : Int → Bool

/-- Signature of a firmware copy with given bytes: 0 = does not verify, else 1 + its version; the manual gives no
layout. (DESIGN CHOICE, assumption 170) -/
opaque Config.firmware : List (Nat × Nat) → Nat

/-- Words that the input buffer of the configuration port holds beyond the 16 of `CFG_READY` (R441). (DEDUCED,
assumption 146) -/
opaque Config.cfgBuffer : Nat

end Sys2Proof
end

