-- ==== Sys2Proof/Machine/SMap.lean ====
section
/-! DEFINITION. Sparse maps from numbers to data: one list in one canonical form (keys strictly rising), used for
every indexed store of the block. -/

namespace Sys2Proof.Machine

/-- A sparse map: the keys rise strictly. A key that is not listed has the value its reader states. -/
abbrev SMap (α : Type) := List (Nat × α)

/-- The value at key `k`, if one is listed. -/
def lookup {α : Type} : SMap α → Nat → Option α
  | [], _ => none
  | (k', v) :: m, k => if k = k' then some v else lookup m k

/-- The value at key `k`, or `d` where none is listed. -/
def at' {α : Type} (m : SMap α) (k : Nat) (d : α) : α := (lookup m k).getD d

/-- `m` with value `v` at key `k`, kept in rising order. -/
def put {α : Type} : SMap α → Nat → α → SMap α
  | [], k, v => [(k, v)]
  | (k', v') :: m, k, v =>
    if k < k' then (k, v) :: (k', v') :: m
    else if k = k' then (k, v) :: m
    else (k', v') :: put m k v

/-- `m` with no entry at key `k`. -/
def del {α : Type} (m : SMap α) (k : Nat) : SMap α := m.filter fun e => e.1 != k

/-- `m` with value `v` at key `k`, where a key that is not listed reads as `d`: writing `d` removes the entry. -/
def putD {α : Type} [DecidableEq α] (m : SMap α) (k : Nat) (d v : α) : SMap α :=
  if v = d then del m k else put m k v

/-- `m` without the entries whose keys meet `p`. -/
def dropKeys {α : Type} (m : SMap α) (p : Nat → Bool) : SMap α := m.filter fun e => !p e.1

/-- The canonical form: every key lies above the keys before it. -/
def sorted {α : Type} : SMap α → Bool
  | [] => true
  | [_] => true
  | (k, _) :: (k', v') :: m => decide (k < k') && sorted ((k', v') :: m)

/-- Whether a key is listed. -/
def has {α : Type} (m : SMap α) (k : Nat) : Bool := (lookup m k).isSome

end Sys2Proof.Machine
end

