-- ==== Sys2Proof/Machine/Cards.lean ====
section
/-! DEFINITION. The register cards of the manual, one `Fld` for each field of each card: address, lowest bit,
width, access code (Table 0-2) and reset value, as the card's table gives them. An address below 1_0000h is an
offset of the FCB immediate window (R496); `w * 10_0000h + o` is offset `o` of expert window `w` (Table 17-7). -/

namespace Sys2Proof.Machine

/-- Access codes of Table 0-2 (R5). -/
inductive Acc where
  | rw | ro | w1c | wo | sc | rwl
deriving DecidableEq, Repr

/-- One field of a register card. -/
structure Fld where
  addr : Nat
  lsb : Nat
  w : Nat
  acc : Acc
  rst : Nat
deriving DecidableEq, Repr

/-- Key of a field in the register store; no card is wider than 64 bits. -/
def Fld.key (f : Fld) : Nat := f.addr * 64 + f.lsb

/-- Mesh router `n` (row `n / 16`, column `n % 16`) joins the Hatband, by Table 13-1. (DEDUCED, assumption 131) -/
def isJoinRouter (n : Nat) : Bool :=
  [1, 5, 10, 14, 31, 63, 79, 111, 126, 122, 117, 113, 96, 64, 48, 16].contains n

/-- The ports that exist at router or stop `n` (R404, R405), as a mask N/cw, E/acw, S, W, local, join. (DEDUCED,
assumption 131) -/
def portMask (n : Nat) : Nat :=
  if n < 128 then
    (if n / 16 = 0 then 0 else 1) + (if n % 16 = 15 then 0 else 2) + (if n / 16 = 7 then 0 else 4)
      + (if n % 16 = 0 then 0 else 8) + 16 + (if isJoinRouter n then 32 else 0)
  else 1 + 2 + (if (n - 128) % 2 = 1 then 16 else 32)

/-- `DEV_MODE` [3:0]: Current mode, by Table 2-1 -/
def R.DEV_MODE.MODE : Fld := ⟨0x4, 0, 4, .ro, 0x1⟩
/-- `DEV_MODE` [7:4]: Mode before the last committed change -/
def R.DEV_MODE.PREV_MODE : Fld := ⟨0x4, 4, 4, .ro, 0x0⟩
/-- `DEV_MODE` [8]: Twin pair formed -/
def R.DEV_MODE.COND_TWIN : Fld := ⟨0x4, 8, 1, .ro, 0x0⟩
/-- `DEV_MODE` [9]: At least one region in overwrite-active reload or swap -/
def R.DEV_MODE.COND_REBLOCK : Fld := ⟨0x4, 9, 1, .ro, 0x0⟩
/-- `DEV_MODE` [10]: Thermal enforcement active -/
def R.DEV_MODE.COND_LIMIT : Fld := ⟨0x4, 10, 1, .ro, 0x0⟩
/-- `DEV_MODE` [11]: Twin strapped, pair not yet formed -/
def R.DEV_MODE.TWIN_ALONE : Fld := ⟨0x4, 11, 1, .ro, 0x0⟩
/-- `DEV_MODE` [15:12]: Cause of the current or last Safe entry, by Table 2-6 -/
def R.DEV_MODE.SAFE_CAUSE : Fld := ⟨0x4, 12, 4, .ro, 0x0⟩
/-- `DEV_MODE` [23:16]: Supply-order fault code; 00h = none. Codes are in "Supplies, Heat and Service Life" -/
def R.DEV_MODE.STBY_FAULT : Fld := ⟨0x4, 16, 8, .ro, 0x0⟩
/-- `DEV_MODE` [24]: Set at every committed change of `MODE` -/
def R.DEV_MODE.MODE_CHG : Fld := ⟨0x4, 24, 1, .w1c, 0x0⟩
/-- `DEV_MODE` [25]: 1 = `MODE_CHG` asserts `FCB_INT_N` -/
def R.DEV_MODE.MODE_IE : Fld := ⟨0x4, 25, 1, .rw, 0x0⟩
/-- `DEV_MODE` [26]: 1 wakes the device from Quiescent; reads 1 until the wake completes -/
def R.DEV_MODE.WAKE : Fld := ⟨0x4, 26, 1, .sc, 0x0⟩
/-- `STRAP_LATCH` [1:0]: `STRAP_BOOT[1:0]` -/
def R.STRAP_LATCH.BOOT : Fld := ⟨0x8, 0, 2, .ro, 0x0⟩
/-- `STRAP_LATCH` [2]: `STRAP_FIRST` -/
def R.STRAP_LATCH.FIRST : Fld := ⟨0x8, 2, 1, .ro, 0x0⟩
/-- `STRAP_LATCH` [4:3]: `STRAP_PULL[1:0]` -/
def R.STRAP_LATCH.PULL : Fld := ⟨0x8, 3, 2, .ro, 0x0⟩
/-- `STRAP_LATCH` [5]: `STRAP_MCLK` -/
def R.STRAP_LATCH.MCLK_SRC : Fld := ⟨0x8, 5, 1, .ro, 0x0⟩
/-- `STRAP_LATCH` [7:6]: `STRAP_TWIN[1:0]` -/
def R.STRAP_LATCH.TWIN : Fld := ⟨0x8, 6, 2, .ro, 0x0⟩
/-- `STRAP_LATCH` [8]: `STRAP_FELT` -/
def R.STRAP_LATCH.FELT : Fld := ⟨0x8, 8, 1, .ro, 0x0⟩
/-- `STRAP_LATCH` [9]: `STRAP_SAFE` -/
def R.STRAP_LATCH.SAFE : Fld := ⟨0x8, 9, 1, .ro, 0x0⟩
/-- `STRAP_LATCH` [10]: `STRAP_FCB` -/
def R.STRAP_LATCH.FCB_EN : Fld := ⟨0x8, 10, 1, .ro, 0x0⟩
/-- `STRAP_LATCH` [11]: `STRAP_JTAGSEL` -/
def R.STRAP_LATCH.JTAGSEL : Fld := ⟨0x8, 11, 1, .ro, 0x0⟩
/-- `STRAP_LATCH` [12]: 1 = an invalid strap combination was sampled -/
def R.STRAP_LATCH.STRAP_ERR : Fld := ⟨0x8, 12, 1, .ro, 0x0⟩
/-- `CLK_LOCK` [24:0]: Bit i for domain index i. For a synthesized domain, 1 = locked. For MCLK, CFG, FCB and TCK, 1 = edges present within the last t_XACT. AON reads 1. -/
def R.CLK_LOCK.LOCK : Fld := ⟨0x48, 0, 25, .ro, 0x1⟩
/-- `CLK_LOST` [24:0]: Bit i set when domain i lost lock or edges without a host request -/
def R.CLK_LOST.LOST : Fld := ⟨0x4C, 0, 25, .w1c, 0x0⟩
/-- `CLK_LOST` [31]: 1 = any set `LOST` bit asserts `FCB_INT_N` -/
def R.CLK_LOST.LOST_IE : Fld := ⟨0x4C, 31, 1, .rw, 0x0⟩
/-- `MCLK_STAT` [0]: Copy of `STRAP_MCLK` -/
def R.MCLK_STAT.SRC : Fld := ⟨0x50, 0, 1, .ro, 0x0⟩
/-- `MCLK_STAT` [1]: 1 = MCLK edges present and within 1,000 ppm -/
def R.MCLK_STAT.PRESENT : Fld := ⟨0x50, 1, 1, .ro, 0x0⟩
/-- `MCLK_STAT` [2]: 1 = tick-aligned domains in holdover -/
def R.MCLK_STAT.HOLD : Fld := ⟨0x50, 2, 1, .ro, 0x0⟩
/-- `MCLK_STAT` [3]: Set at each loss by R70 -/
def R.MCLK_STAT.LOSS : Fld := ⟨0x50, 3, 1, .w1c, 0x0⟩
/-- `MCLK_STAT` [4]: Set at each relock by R72 -/
def R.MCLK_STAT.RELOCK : Fld := ⟨0x50, 4, 1, .w1c, 0x0⟩
/-- `MCLK_STAT` [5]: Set when the tick counter is loaded -/
def R.MCLK_STAT.STEP : Fld := ⟨0x50, 5, 1, .w1c, 0x0⟩
/-- `MCLK_STAT` [6]: 1 = `LOSS`, `RELOCK` or `STEP` asserts `FCB_INT_N` -/
def R.MCLK_STAT.MCLK_IE : Fld := ⟨0x50, 6, 1, .rw, 0x0⟩
/-- `MCLK_STAT` [27:8]: Last MCLK measurement in kHz -/
def R.MCLK_STAT.FREQ_KHZ : Fld := ⟨0x50, 8, 20, .ro, 0x0⟩
/-- `TICK_LO` [31:0]: Tick [31:0]; the read captures the snapshot -/
def R.TICK_LO.TICK_L : Fld := ⟨0x40, 0, 32, .ro, 0x0⟩
/-- `TICK_HI` [15:0]: Tick [47:32] of the snapshot -/
def R.TICK_HI.TICK_H : Fld := ⟨0x44, 0, 16, .ro, 0x0⟩
/-- `TICK_HI` [16]: `HOLD` at the snapshot -/
def R.TICK_HI.SNAP_HOLD : Fld := ⟨0x44, 16, 1, .ro, 0x0⟩
/-- `TICK_HI` [17]: 1 = the counter was running at the snapshot -/
def R.TICK_HI.VALID : Fld := ⟨0x44, 17, 1, .ro, 0x0⟩
/-- `XING_OVR` [0]: Region interfaces -/
def R.XING_OVR.OVR_REGION : Fld := ⟨0x54, 0, 1, .ro, 0x0⟩
/-- `XING_OVR` [1]: Lanes -/
def R.XING_OVR.OVR_LANE : Fld := ⟨0x54, 1, 1, .ro, 0x0⟩
/-- `XING_OVR` [2]: Shared cache and cache agent -/
def R.XING_OVR.OVR_CACHE : Fld := ⟨0x54, 2, 1, .ro, 0x0⟩
/-- `XING_OVR` [3]: Bulk Store controllers -/
def R.XING_OVR.OVR_BULK : Fld := ⟨0x54, 3, 1, .ro, 0x0⟩
/-- `XING_OVR` [4]: Mesh, Hatband and doors -/
def R.XING_OVR.OVR_NOC : Fld := ⟨0x54, 4, 1, .ro, 0x0⟩
/-- `XING_OVR` [5]: I/O banks and TDCs -/
def R.XING_OVR.OVR_IO : Fld := ⟨0x54, 5, 1, .ro, 0x0⟩
/-- `XING_OVR` [6]: Housekeeping and analogue -/
def R.XING_OVR.OVR_HKP : Fld := ⟨0x54, 6, 1, .ro, 0x0⟩
/-- `XING_OVR` [7]: Configuration controller and pounce -/
def R.XING_OVR.OVR_CFG : Fld := ⟨0x54, 7, 1, .ro, 0x0⟩
/-- `XING_OVR` [8]: Milliner and mailboxes -/
def R.XING_OVR.OVR_MGT : Fld := ⟨0x54, 8, 1, .ro, 0x0⟩
/-- `XING_OVR` [9]: At least one handshake crossing has its `LATE` flag set, by R89 -/
def R.XING_OVR.LATE_ANY : Fld := ⟨0x54, 9, 1, .ro, 0x0⟩
/-- `PIN_CFG` [2:0]: Standard by Table 4-1; 000b = unused; 110b–111b not used -/
def R.PIN_CFG.STD (n : Nat) : Fld := ⟨0xA00000 + 4 * n, 0, 3, .ro, 0x0⟩
/-- `PIN_CFG` [4:3]: 00b input; 01b output; 10b bidirectional, enable from fabric; 11b pulse output -/
def R.PIN_CFG.DIR (n : Nat) : Fld := ⟨0xA00000 + 4 * n, 3, 2, .ro, 0x0⟩
/-- `PIN_CFG` [6:5]: 00b none; 01b pull-down; 10b pull-up; 11b keeper -/
def R.PIN_CFG.PULL (n : Nat) : Fld := ⟨0xA00000 + 4 * n, 5, 2, .rw, 0x0⟩
/-- `PIN_CFG` [8:7]: Slew step, 0 slowest to 3 fastest; single-ended outputs only -/
def R.PIN_CFG.SLEW (n : Nat) : Fld := ⟨0xA00000 + 4 * n, 7, 2, .rw, 0x0⟩
/-- `PIN_CFG` [10:9]: Drive step 0–3 (2, 4, 8 and 12 mA); single-ended outputs only -/
def R.PIN_CFG.DRIVE (n : Nat) : Fld := ⟨0xA00000 + 4 * n, 9, 2, .rw, 0x0⟩
/-- `PIN_CFG` [11]: 1 = 100 Ω differential termination; even pin of a differential input only -/
def R.PIN_CFG.TERM (n : Nat) : Fld := ⟨0xA00000 + 4 * n, 11, 1, .rw, 0x0⟩
/-- `PIN_CFG` [20:12]: Input delay, 0–511 taps of 2.5 ps -/
def R.PIN_CFG.IDELAY (n : Nat) : Fld := ⟨0xA00000 + 4 * n, 12, 9, .rw, 0x0⟩
/-- `PIN_CFG` [22:21]: Safe value: 00b hi-Z with `PULL`; 01b drive 0; 10b drive 1; 11b hold last -/
def R.PIN_CFG.SAFE (n : Nat) : Fld := ⟨0xA00000 + 4 * n, 21, 2, .ro, 0x0⟩
/-- `TDC_CFG` [0]: 1 = channel records -/
def R.TDC_CFG.EN (n : Nat) : Fld := ⟨0xA02000 + 4 * n, 0, 1, .rw, 0x0⟩
/-- `TDC_CFG` [2:1]: 00b none; 01b rising; 10b falling; 11b both -/
def R.TDC_CFG.EDGE (n : Nat) : Fld := ⟨0xA02000 + 4 * n, 1, 2, .rw, 0x0⟩
/-- `TDC_CFG` [3]: 1 = core takes part in the continuous recalibration rotation -/
def R.TDC_CFG.CAL_AUTO (n : Nat) : Fld := ⟨0xA02000 + 4 * n, 3, 1, .rw, 0x1⟩
/-- `TDC_CFG` [4]: 1 requests calibration through the spare -/
def R.TDC_CFG.CAL_REQ (n : Nat) : Fld := ⟨0xA02000 + 4 * n, 4, 1, .sc, 0x0⟩
/-- `TDC_CFG` [5]: 1 = the spare core serves the channel -/
def R.TDC_CFG.ON_SPARE (n : Nat) : Fld := ⟨0xA02000 + 4 * n, 5, 1, .ro, 0x0⟩
/-- `TDC_CFG` [6]: 1 = primary core failed calibration; spare assigned permanently -/
def R.TDC_CFG.CORE_FAIL (n : Nat) : Fld := ⟨0xA02000 + 4 * n, 6, 1, .ro, 0x0⟩
/-- `TDC_CFG` [7]: Set at each lost hit -/
def R.TDC_CFG.LOSS (n : Nat) : Fld := ⟨0xA02000 + 4 * n, 7, 1, .w1c, 0x0⟩
/-- `TDC_CFG` [15:8]: Pulse delay in TDC bins, 0–255 -/
def R.TDC_CFG.P_FINE (n : Nat) : Fld := ⟨0xA02000 + 4 * n, 8, 8, .rw, 0x0⟩
/-- `TDC_CFG` [22:16]: Pulse delay in TDC reference periods; values of N_T or more act as N_T − 1 -/
def R.TDC_CFG.P_COARSE (n : Nat) : Fld := ⟨0xA02000 + 4 * n, 16, 7, .rw, 0x0⟩
/-- `TDC_CFG` [28:23]: Pulse width, 1–63 TDC reference periods; 0 = no pulse -/
def R.TDC_CFG.P_WIDTH (n : Nat) : Fld := ⟨0xA02000 + 4 * n, 23, 6, .rw, 0x0⟩
/-- `TDC_LOST` [31:0]: Hits lost to a full channel FIFO; wraps; exact by R91 -/
def R.TDC_LOST.LOST (n : Nat) : Fld := ⟨0xA04000 + 4 * n, 0, 32, .ro, 0x0⟩
/-- `BANK_CTL` [0]: 1 = VIO within 5 % of the declared value -/
def R.BANK_CTL.VIO_OK (b : Nat) : Fld := ⟨0xA06000 + 4 * b, 0, 1, .ro, 0x0⟩
/-- `BANK_CTL` [1]: 1 = bank held unconfigured by R105 -/
def R.BANK_CTL.VIO_MISMATCH (b : Nat) : Fld := ⟨0xA06000 + 4 * b, 1, 1, .ro, 0x0⟩
/-- `BANK_CTL` [2]: Set at each loss by R106 -/
def R.BANK_CTL.VIO_LOSS (b : Nat) : Fld := ⟨0xA06000 + 4 * b, 2, 1, .w1c, 0x0⟩
/-- `BANK_CTL` [3]: Port entries discarded by R113 -/
def R.BANK_CTL.PORT_RESYNC (b : Nat) : Fld := ⟨0xA06000 + 4 * b, 3, 1, .w1c, 0x0⟩
/-- `BANK_CTL` [4]: Port FIFO reached full -/
def R.BANK_CTL.STREAM_FULL (b : Nat) : Fld := ⟨0xA06000 + 4 * b, 4, 1, .w1c, 0x0⟩
/-- `BANK_CTL` [7:5]: Bit g = spare of group g in use -/
def R.BANK_CTL.SPARE_BUSY (b : Nat) : Fld := ⟨0xA06000 + 4 * b, 5, 3, .ro, 0x0⟩
/-- `BANK_CTL` [10:8]: Bit g = spare of group g permanently assigned -/
def R.BANK_CTL.SPARE_GONE (b : Nat) : Fld := ⟨0xA06000 + 4 * b, 8, 3, .ro, 0x0⟩
/-- `BANK_CTL` [12:11]: Declared VIO: 00b 1.0 V; 01b 1.2 V; 10b 1.5 V; 11b 1.8 V -/
def R.BANK_CTL.VIO_DECL (b : Nat) : Fld := ⟨0xA06000 + 4 * b, 11, 2, .ro, 0x0⟩
/-- `BANK_CTL` [20:13]: Watermark period in ticks; 0 = none -/
def R.BANK_CTL.WMARK_PER (b : Nat) : Fld := ⟨0xA06000 + 4 * b, 13, 8, .rw, 0x0⟩
/-- `DAC_CODE` [11:0]: Code applied; reads the code in force -/
def R.DAC_CODE.CODE (k : Nat) : Fld := ⟨0xB00000 + 4 * k, 0, 12, .rw, 0x0⟩
/-- `DAC_CODE` [12]: 1 = output enabled -/
def R.DAC_CODE.DRIVEN (k : Nat) : Fld := ⟨0xB00000 + 4 * k, 12, 1, .ro, 0x0⟩
/-- `DAC_STAT` [15:0]: Bit k set when a load of DAC k was discarded by R126 -/
def R.DAC_STAT.COLLIDE : Fld := ⟨0xB00040, 0, 16, .w1c, 0x0⟩
/-- `HKP_RES` [15:0]: Result in the unit of Table 4-11 -/
def R.HKP_RES.VALUE (c : Nat) : Fld := ⟨0xB00400 + 4 * c, 0, 16, .ro, 0x0⟩
/-- `HKP_RES` [16]: 1 = result from the round named in `ROUND` -/
def R.HKP_RES.VALID (c : Nat) : Fld := ⟨0xB00400 + 4 * c, 16, 1, .ro, 0x0⟩
/-- `HKP_RES` [17]: 1 = input beyond range -/
def R.HKP_RES.OVR (c : Nat) : Fld := ⟨0xB00400 + 4 * c, 17, 1, .ro, 0x0⟩
/-- `HKP_RES` [31:24]: Round count [7:0] of the result -/
def R.HKP_RES.ROUND (c : Nat) : Fld := ⟨0xB00400 + 4 * c, 24, 8, .ro, 0x0⟩
/-- `RCN_CFG` [3:0]: Source for select 0, by Table 5-10; set by the image -/
def R.RCN_CFG.SRC_A (n : Nat) : Fld := ⟨0x100000 + 4 * n, 0, 4, .ro, 0xF⟩
/-- `RCN_CFG` [7:4]: Source for select 1; set by the image -/
def R.RCN_CFG.SRC_B (n : Nat) : Fld := ⟨0x100000 + 4 * n, 4, 4, .ro, 0xF⟩
/-- `RCN_CFG` [8]: 1 = select taken from the design -/
def R.RCN_CFG.SW_EN (n : Nat) : Fld := ⟨0x100000 + 4 * n, 8, 1, .ro, 0x0⟩
/-- `RCN_CFG` [9]: 1 = enable taken from the design -/
def R.RCN_CFG.CE_EN (n : Nat) : Fld := ⟨0x100000 + 4 * n, 9, 1, .ro, 0x0⟩
/-- `RCN_CFG` [10]: 1 = region not marked critical -/
def R.RCN_CFG.SHEDDABLE (n : Nat) : Fld := ⟨0x100000 + 4 * n, 10, 1, .ro, 0x0⟩
/-- `RCN_CFG` [15:11]: P of R155, 4–16; set by thermal enforcement -/
def R.RCN_CFG.SHED_PASS (n : Nat) : Fld := ⟨0x100000 + 4 * n, 11, 5, .ro, 0x10⟩
/-- `RCN_CFG` [16]: Source in use: 0 = A; 1 = B -/
def R.RCN_CFG.ACT_SRC (n : Nat) : Fld := ⟨0x100000 + 4 * n, 16, 1, .ro, 0x0⟩
/-- `RCN_CFG` [17]: 1 = net made an edge within the last 4,096 HKP cycles -/
def R.RCN_CFG.RUNNING (n : Nat) : Fld := ⟨0x100000 + 4 * n, 17, 1, .ro, 0x0⟩
/-- `RCN_CFG` [18]: Set at each loss by R153 -/
def R.RCN_CFG.SRC_LOST (n : Nat) : Fld := ⟨0x100000 + 4 * n, 18, 1, .w1c, 0x0⟩
/-- `RCN_CFG` [19]: Set when a switch completed on a dead source by R151 -/
def R.RCN_CFG.SW_DEAD (n : Nat) : Fld := ⟨0x100000 + 4 * n, 19, 1, .w1c, 0x0⟩
/-- `FAB_CTL` [0]: 1 = GSR held -/
def R.FAB_CTL.GSR_HELD : Fld := ⟨0x102000, 0, 1, .ro, 0x1⟩
/-- `FAB_CTL` [1]: 1 = local clock wires frozen by R160 -/
def R.FAB_CTL.WIRE_FROZEN : Fld := ⟨0x102000, 1, 1, .ro, 0x0⟩
/-- `FAB_CTL` [2]: 1 = any set `SRC_LOST` or `SW_DEAD` asserts `FCB_INT_N` -/
def R.FAB_CTL.CLK_IE : Fld := ⟨0x102000, 2, 1, .rw, 0x0⟩
/-- `FAB_CTL` [3]: 1 = at least one `SRC_LOST` or `SW_DEAD` is set -/
def R.FAB_CTL.CLK_ANY : Fld := ⟨0x102000, 3, 1, .ro, 0x0⟩
/-- `PIL_STAT` [0]: Set at each contention episode by R174 -/
def R.PIL_STAT.PIL_CONT : Fld := ⟨0x102004, 0, 1, .w1c, 0x0⟩
/-- `PIL_STAT` [1]: 1 = `PIL_CONT` asserts `FCB_INT_N` -/
def R.PIL_STAT.PIL_IE : Fld := ⟨0x102004, 1, 1, .rw, 0x0⟩
/-- `PIL_STAT` [2]: 1 = at least one pillar is now disabled by its arbiter -/
def R.PIL_STAT.PIL_ACTIVE : Fld := ⟨0x102004, 2, 1, .ro, 0x0⟩
/-- `PIL_STAT` [23:8]: Episodes since reset; saturates at FFFFh -/
def R.PIL_STAT.PIL_COUNT : Fld := ⟨0x102004, 8, 16, .ro, 0x0⟩
/-- `PIL_LAST` [31:0]: Pillar address of the last episode, by Table 6-3 -/
def R.PIL_LAST.ADDR : Fld := ⟨0x102008, 0, 32, .ro, 0x0⟩
/-- `BORDER_STAT` [0]: 1 = a cause of Table 6-7 holds -/
def R.BORDER_STAT.HOLDING (r : Nat) : Fld := ⟨0x102200 + 4 * r, 0, 1, .ro, 0x0⟩
/-- `BORDER_STAT` [3:1]: Highest cause that holds, by Table 6-7 -/
def R.BORDER_STAT.CAUSE (r : Nat) : Fld := ⟨0x102200 + 4 * r, 1, 3, .ro, 0x0⟩
/-- `BORDER_STAT` [4]: 1 = the region is fenced; stays 1 until the fence ends by Table 6-7: at the next Boot, or for a `DIE_POWER` fence at step 5 of R436 in the next full reload, by R532 -/
def R.BORDER_STAT.FENCED (r : Nat) : Fld := ⟨0x102200 + 4 * r, 4, 1, .ro, 0x0⟩
/-- `SEAM_CFG` [2:0]: 000b–011b = FG0–FG3; 111b = port off; other values not used; set by the image -/
def R.SEAM_CFG.SEAM_CLK (p : Nat) : Fld := ⟨0x102100 + 4 * p, 0, 3, .ro, 0x7⟩
/-- `SEAM_CFG` [3]: 1 = the tree made an edge within the last 4,096 HKP cycles -/
def R.SEAM_CFG.RUNNING (p : Nat) : Fld := ⟨0x102100 + 4 * p, 3, 1, .ro, 0x0⟩
/-- `SEAM_CFG` [4]: 1 = at least one signal of the port is fenced -/
def R.SEAM_CFG.FENCED (p : Nat) : Fld := ⟨0x102100 + 4 * p, 4, 1, .ro, 0x0⟩
/-- `SEAM_CFG` [5]: Set at each loss by R192 -/
def R.SEAM_CFG.CLK_LOST (p : Nat) : Fld := ⟨0x102100 + 4 * p, 5, 1, .w1c, 0x0⟩
/-- `SEAM_CFG` [19:6]: Fenced signals, both directions together, 0–8,192 -/
def R.SEAM_CFG.FENCE_CNT (p : Nat) : Fld := ⟨0x102100 + 4 * p, 6, 14, .ro, 0x0⟩
/-- `BM_STAT` [1:0]: Code in force, by Table 7-1 -/
def R.BM_STAT.CODE (m : Nat) : Fld := ⟨0x200000 + 4 * m, 0, 2, .ro, 0x3⟩
/-- `BM_STAT` [5:2]: Bit k = plane k uses the BM -/
def R.BM_STAT.PLANES (m : Nat) : Fld := ⟨0x200000 + 4 * m, 2, 4, .ro, 0x0⟩
/-- `BM_STAT` [6]: 1 = bulk clear running -/
def R.BM_STAT.CLR_BUSY (m : Nat) : Fld := ⟨0x200000 + 4 * m, 6, 1, .ro, 0x0⟩
/-- `BM_STAT` [7]: 1 starts a bulk clear; ignored while the active plane uses the BM and the region clocks run -/
def R.BM_STAT.CLR (m : Nat) : Fld := ⟨0x200000 + 4 * m, 7, 1, .sc, 0x0⟩
/-- `BM_STAT` [8]: A read reported `COR`; clearing also clears `COR_CNT` -/
def R.BM_STAT.COR (m : Nat) : Fld := ⟨0x200000 + 4 * m, 8, 1, .w1c, 0x0⟩
/-- `BM_STAT` [9]: A read reported `UNC`; clearing also clears `UNC_CNT` -/
def R.BM_STAT.UNC (m : Nat) : Fld := ⟨0x200000 + 4 * m, 9, 1, .w1c, 0x0⟩
/-- `BM_STAT` [10]: A collision by R208 -/
def R.BM_STAT.COLL (m : Nat) : Fld := ⟨0x200000 + 4 * m, 10, 1, .w1c, 0x0⟩
/-- `BM_STAT` [23:16]: Reads with `COR`; saturates at FFh -/
def R.BM_STAT.COR_CNT (m : Nat) : Fld := ⟨0x200000 + 4 * m, 16, 8, .ro, 0x0⟩
/-- `BM_STAT` [31:24]: Reads with `UNC`; saturates at FFh -/
def R.BM_STAT.UNC_CNT (m : Nat) : Fld := ⟨0x200000 + 4 * m, 24, 8, .ro, 0x0⟩
/-- `AB_FLAG` [31:0]: Bit i set when AB 32 × w + i of region r reported `OVF` or `PRE_SAT` -/
def R.AB_FLAG.FLAG (r : Nat) (w : Nat) : Fld := ⟨0x20C000 + 20 * r + 4 * w, 0, 32, .w1c, 0x0⟩
/-- `CTX_CFG` [3:0]: Context-clock net, RCN0–RCN15; set by the image -/
def R.CTX_CFG.CTX_NET (r : Nat) : Fld := ⟨0x300000 + 4 * r, 0, 4, .ro, 0x0⟩
/-- `CTX_CFG` [4]: 1 = active plane uses `CTX_REQ` and `CAP_REQ` -/
def R.CTX_CFG.PORT_EN (r : Nat) : Fld := ⟨0x300000 + 4 * r, 4, 1, .ro, 0x0⟩
/-- `CTX_CFG` [5]: 1 = rotation set up by `CTX_ROTATE`, running or armed -/
def R.CTX_CFG.ROT_EN (r : Nat) : Fld := ⟨0x300000 + 4 * r, 5, 1, .ro, 0x0⟩
/-- `CTX_CFG` [7:6]: Planes in the rotation order minus 1 -/
def R.CTX_CFG.ROT_LEN (r : Nat) : Fld := ⟨0x300000 + 4 * r, 6, 2, .ro, 0x0⟩
/-- `CTX_CFG` [15:8]: Planes in order, 2 bits each from bit 8 -/
def R.CTX_CFG.ROT_ORDER (r : Nat) : Fld := ⟨0x300000 + 4 * r, 8, 8, .ro, 0x0⟩
/-- `CTX_CFG` [16]: 1 = `CTX_STAT.NACK` asserts `FCB_INT_N` -/
def R.CTX_CFG.SWAP_IE (r : Nat) : Fld := ⟨0x300000 + 4 * r, 16, 1, .rw, 0x0⟩
/-- `CTX_STAT` [1:0]: Active plane; meaningful when its state reads 11b -/
def R.CTX_STAT.ACTIVE (r : Nat) : Fld := ⟨0x300200 + 4 * r, 0, 2, .ro, 0x0⟩
/-- `CTX_STAT` [3:2]: State of plane 0, by Table 8-1 -/
def R.CTX_STAT.PS0 (r : Nat) : Fld := ⟨0x300200 + 4 * r, 2, 2, .ro, 0x0⟩
/-- `CTX_STAT` [5:4]: State of plane 1 -/
def R.CTX_STAT.PS1 (r : Nat) : Fld := ⟨0x300200 + 4 * r, 4, 2, .ro, 0x0⟩
/-- `CTX_STAT` [7:6]: State of plane 2 -/
def R.CTX_STAT.PS2 (r : Nat) : Fld := ⟨0x300200 + 4 * r, 6, 2, .ro, 0x0⟩
/-- `CTX_STAT` [9:8]: State of plane 3 -/
def R.CTX_STAT.PS3 (r : Nat) : Fld := ⟨0x300200 + 4 * r, 8, 2, .ro, 0x0⟩
/-- `CTX_STAT` [10]: 1 = rotation running -/
def R.CTX_STAT.ROTATING (r : Nat) : Fld := ⟨0x300200 + 4 * r, 10, 1, .ro, 0x0⟩
/-- `CTX_STAT` [11]: 1 = a plane is claimed by a load -/
def R.CTX_STAT.CLAIMED (r : Nat) : Fld := ⟨0x300200 + 4 * r, 11, 1, .ro, 0x0⟩
/-- `CTX_STAT` [12]: 1 = overwrite-active copy failed by R257; cleared by the next reload or swap -/
def R.CTX_STAT.OW_FAIL (r : Nat) : Fld := ⟨0x300200 + 4 * r, 12, 1, .ro, 0x0⟩
/-- `CTX_STAT` [13]: Set at each refusal by R245 -/
def R.CTX_STAT.NACK (r : Nat) : Fld := ⟨0x300200 + 4 * r, 13, 1, .w1c, 0x0⟩
/-- `CTX_STAT` [18:16]: Reason of the last refusal, by Table 8-5 -/
def R.CTX_STAT.REASON (r : Nat) : Fld := ⟨0x300200 + 4 * r, 16, 3, .ro, 0x0⟩
/-- `CTX_STAT` [31:19]: Swaps performed; wraps; exact by R91 -/
def R.CTX_STAT.SWAP_CNT (r : Nat) : Fld := ⟨0x300200 + 4 * r, 19, 13, .ro, 0x0⟩
/-- `SWAP_TGT` [4i+1:4i]: Target plane of region 8 × w + i -/
def R.SWAP_TGT.PLANE (s : Nat) (w : Nat) (i : Nat) : Fld := ⟨0x301000 + 64 * s + 4 * w, 4 * i, 2, .rw, 0x0⟩
/-- `SWAP_TGT` [4i+3]: 1 = region 8 × w + i is a member of set s -/
def R.SWAP_TGT.MEMBER (s : Nat) (w : Nat) (i : Nat) : Fld := ⟨0x301000 + 64 * s + 4 * w, 4 * i + 3, 1, .rw, 0x0⟩
/-- `SWAP_CTL` [0]: 1 = all members or none, by R243; ignored while armed -/
def R.SWAP_CTL.ATOMIC (s : Nat) : Fld := ⟨0x301400 + 4 * s, 0, 1, .rw, 0x0⟩
/-- `SWAP_CTL` [1]: 1 = a pending schedule entry names the set -/
def R.SWAP_CTL.ARMED (s : Nat) : Fld := ⟨0x301400 + 4 * s, 1, 1, .ro, 0x0⟩
/-- `SWAP_CTL` [2]: Set when at least one member swapped at a firing -/
def R.SWAP_CTL.FIRED (s : Nat) : Fld := ⟨0x301400 + 4 * s, 2, 1, .w1c, 0x0⟩
/-- `SWAP_CTL` [3]: Set when at least one member did not swap at a firing -/
def R.SWAP_CTL.FAILED (s : Nat) : Fld := ⟨0x301400 + 4 * s, 3, 1, .w1c, 0x0⟩
/-- `SWAP_CTL` [4]: Set when a write to `SWAP_TGT` was ignored by R241 -/
def R.SWAP_CTL.WR_DROP (s : Nat) : Fld := ⟨0x301400 + 4 * s, 4, 1, .w1c, 0x0⟩
/-- `SWAP_CTL` [15:8]: Members that did not swap at the last firing -/
def R.SWAP_CTL.FAIL_CNT (s : Nat) : Fld := ⟨0x301400 + 4 * s, 8, 8, .ro, 0x0⟩
/-- `CAP_STAT` [0]: 1 = buffer holds a capture -/
def R.CAP_STAT.FULL (r : Nat) : Fld := ⟨0x300400 + 4 * r, 0, 1, .ro, 0x0⟩
/-- `CAP_STAT` [2:1]: Plane captured -/
def R.CAP_STAT.PLANE (r : Nat) : Fld := ⟨0x300400 + 4 * r, 1, 2, .ro, 0x0⟩
/-- `CAP_STAT` [3]: 1 = copy of an inactive plane's shadow, by R253 -/
def R.CAP_STAT.SHADOW (r : Nat) : Fld := ⟨0x300400 + 4 * r, 3, 1, .ro, 0x0⟩
/-- `CAP_STAT` [4]: 1 = taken at a swap edge -/
def R.CAP_STAT.AT_SWAP (r : Nat) : Fld := ⟨0x300400 + 4 * r, 4, 1, .ro, 0x0⟩
/-- `CAP_STAT` [5]: Set at each refusal by R254 -/
def R.CAP_STAT.REFUSED (r : Nat) : Fld := ⟨0x300400 + 4 * r, 5, 1, .w1c, 0x0⟩
/-- `CAP_STAT` [31:16]: Tick [15:0] at the capture; the full tick is in the header -/
def R.CAP_STAT.TICK_L (r : Nat) : Fld := ⟨0x300400 + 4 * r, 16, 16, .ro, 0x0⟩
/-- `BANK_CFG` [1:0]: Code, by Table 9-1 -/
def R.BANK_CFG.CODE (b : Nat) : Fld := ⟨0x400000 + 4 * b, 0, 2, .ro, 0x0⟩
/-- `BANK_CFG` [4:2]: Page strength, by R262 -/
def R.BANK_CFG.PAGE_T (b : Nat) : Fld := ⟨0x400000 + 4 * b, 2, 3, .ro, 0x0⟩
/-- `BANK_CFG` [6:5]: Power state, by Table 9-7 -/
def R.BANK_CFG.PWR (b : Nat) : Fld := ⟨0x400000 + 4 * b, 5, 2, .ro, 0x0⟩
/-- `BANK_CFG` [8:7]: Non-owner NoC access: 00b none; 01b read; 10b read and write; 11b acts as none -/
def R.BANK_CFG.NOC_ACC (b : Nat) : Fld := ⟨0x400000 + 4 * b, 7, 2, .rw, 0x0⟩
/-- `BANK_CFG` [9]: 1 = twin-port bank -/
def R.BANK_CFG.TWIN (b : Nat) : Fld := ⟨0x400000 + 4 * b, 9, 1, .ro, if b % 64 ≤ 3 then 1 else 0⟩
/-- `BANK_CFG` [10]: 1 = in a cache-mode group -/
def R.BANK_CFG.CMODE (b : Nat) : Fld := ⟨0x400000 + 4 * b, 10, 1, .ro, 0x0⟩
/-- `BANK_CFG` [11]: 1 = reserved as landing -/
def R.BANK_CFG.LAND (b : Nat) : Fld := ⟨0x400000 + 4 * b, 11, 1, .ro, 0x0⟩
/-- `BANK_CFG` [12]: 1 = bank offline by R297 or R298 -/
def R.BANK_CFG.OFFLINE (b : Nat) : Fld := ⟨0x400000 + 4 * b, 12, 1, .ro, 0x0⟩
/-- `BANK_OWN` [8:0]: Owner, by R268 -/
def R.BANK_OWN.OWNER (b : Nat) : Fld := ⟨0x400400 + 4 * b, 0, 9, .ro, 0x100⟩
/-- `BANK_OWN` [20:12]: Owner after the next handover -/
def R.BANK_OWN.NEXT (b : Nat) : Fld := ⟨0x400400 + 4 * b, 12, 9, .rw, 0x100⟩
/-- `BANK_OWN` [21]: 1 = a release by the owner hands over to `NEXT` -/
def R.BANK_OWN.ARM (b : Nat) : Fld := ⟨0x400400 + 4 * b, 21, 1, .rw, 0x0⟩
/-- `BANK_OWN` [22]: 1 starts a handover to `NEXT` -/
def R.BANK_OWN.GO (b : Nat) : Fld := ⟨0x400400 + 4 * b, 22, 1, .sc, 0x0⟩
/-- `BANK_OWN` [23]: 1 = handover committed, draining -/
def R.BANK_OWN.PEND (b : Nat) : Fld := ⟨0x400400 + 4 * b, 23, 1, .ro, 0x0⟩
/-- `BANK_OWN` [24]: Set at each completed handover -/
def R.BANK_OWN.HANDED (b : Nat) : Fld := ⟨0x400400 + 4 * b, 24, 1, .w1c, 0x0⟩
/-- `BANK_OWN` [25]: Set at each refused or cancelled handover -/
def R.BANK_OWN.REFUSED (b : Nat) : Fld := ⟨0x400400 + 4 * b, 25, 1, .w1c, 0x0⟩
/-- `BANK_STAT` [0]: A read corrected an error; clearing also clears `COR_CNT` -/
def R.BANK_STAT.COR (b : Nat) : Fld := ⟨0x400800 + 4 * b, 0, 1, .w1c, 0x0⟩
/-- `BANK_STAT` [1]: A read found an uncorrectable error; clearing also clears `UNC_CNT` -/
def R.BANK_STAT.UNC (b : Nat) : Fld := ⟨0x400800 + 4 * b, 1, 1, .w1c, 0x0⟩
/-- `BANK_STAT` [2]: A port B collision by R279 -/
def R.BANK_STAT.BUSY (b : Nat) : Fld := ⟨0x400800 + 4 * b, 2, 1, .w1c, 0x0⟩
/-- `BANK_STAT` [3]: A request was refused with `NOT_OWNER` -/
def R.BANK_STAT.NOT_OWN (b : Nat) : Fld := ⟨0x400800 + 4 * b, 3, 1, .w1c, 0x0⟩
/-- `BANK_STAT` [4]: 1 = bulk clear running -/
def R.BANK_STAT.CLR_BUSY (b : Nat) : Fld := ⟨0x400800 + 4 * b, 4, 1, .ro, 0x0⟩
/-- `BANK_STAT` [5]: 1 starts a bulk clear, subject to R285 -/
def R.BANK_STAT.CLR (b : Nat) : Fld := ⟨0x400800 + 4 * b, 5, 1, .sc, 0x0⟩
/-- `BANK_STAT` [8:6]: Spare columns in use, 0–4 -/
def R.BANK_STAT.SPARES (b : Nat) : Fld := ⟨0x400800 + 4 * b, 6, 3, .ro, 0x0⟩
/-- `BANK_STAT` [23:16]: Reads with `COR`; saturates at FFh -/
def R.BANK_STAT.COR_CNT (b : Nat) : Fld := ⟨0x400800 + 4 * b, 16, 8, .ro, 0x0⟩
/-- `BANK_STAT` [31:24]: Reads with `UNC`; saturates at FFh -/
def R.BANK_STAT.UNC_CNT (b : Nat) : Fld := ⟨0x400800 + 4 * b, 24, 8, .ro, 0x0⟩
/-- `NOC_WIN` [19:0]: Source device ID matched by window w -/
def R.NOC_WIN.DEVICE (w : Nat) : Fld := ⟨0x400C00 + 4 * w, 0, 20, .rw, 0x0⟩
/-- `NOC_WIN` [31:20]: Source endpoint matched by window w -/
def R.NOC_WIN.ENDPOINT (w : Nat) : Fld := ⟨0x400C00 + 4 * w, 20, 12, .rw, 0x0⟩
/-- `SPILL_STAT` [13:0]: Spill pointer P -/
def R.SPILL_STAT.PTR (b : Nat) : Fld := ⟨0x401000 + 4 * b, 0, 14, .ro, 0x0⟩
/-- `SPILL_STAT` [14]: 1 = spill ring set -/
def R.SPILL_STAT.EN (b : Nat) : Fld := ⟨0x401000 + 4 * b, 14, 1, .ro, 0x0⟩
/-- `SPILL_STAT` [15]: Set at each overrun by R291 -/
def R.SPILL_STAT.OVERRUN (b : Nat) : Fld := ⟨0x401000 + 4 * b, 15, 1, .w1c, 0x0⟩
/-- `SPILL_STAT` [29:16]: Last spill mark W -/
def R.SPILL_STAT.MARK (b : Nat) : Fld := ⟨0x401000 + 4 * b, 16, 14, .ro, 0x0⟩
/-- `CMODE_CFG` [0]: 1 = the group of die q is in cache mode -/
def R.CMODE_CFG.EN (q : Nat) : Fld := ⟨0x401400 + 4 * q, 0, 1, .ro, 0x0⟩
/-- `CMODE_CFG` [1]: 1 = flush in progress -/
def R.CMODE_CFG.FLUSHING (q : Nat) : Fld := ⟨0x401400 + 4 * q, 1, 1, .ro, 0x0⟩
/-- `CMODE_CFG` [3:2]: g of R292 -/
def R.CMODE_CFG.GROUP (q : Nat) : Fld := ⟨0x401400 + 4 * q, 2, 2, .ro, 0x0⟩
/-- `CMODE_CFG` [4]: 1 = at least one way withdrawn by R294 -/
def R.CMODE_CFG.WAY_LOST (q : Nat) : Fld := ⟨0x401400 + 4 * q, 4, 1, .ro, 0x0⟩
/-- `CMODE_CFG` [15:8]: First Bulk Store segment of the cached range -/
def R.CMODE_CFG.BASE_SEG (q : Nat) : Fld := ⟨0x401400 + 4 * q, 8, 8, .ro, 0x0⟩
/-- `CMODE_CFG` [21:16]: Segments in the cached range -/
def R.CMODE_CFG.SEG_CNT (q : Nat) : Fld := ⟨0x401400 + 4 * q, 16, 6, .ro, 0x0⟩
/-- `SPLIT_CTL` [1:0]: 00b cache row; 01b BM row; 10b Bulk Store page; 11b not used -/
def R.SPLIT_CTL.KIND : Fld := ⟨0x600000, 0, 2, .rw, 0x0⟩
/-- `SPLIT_CTL` [2]: 0 raw read; 1 raw write -/
def R.SPLIT_CTL.OP : Fld := ⟨0x600000, 2, 1, .rw, 0x0⟩
/-- `SPLIT_CTL` [3]: 1 performs the access on the unit in `SPLIT_ADDR` -/
def R.SPLIT_CTL.GO : Fld := ⟨0x600000, 3, 1, .sc, 0x0⟩
/-- `SPLIT_CTL` [4]: Set when `GO` was refused by R327 -/
def R.SPLIT_CTL.DENIED : Fld := ⟨0x600000, 4, 1, .w1c, 0x0⟩
/-- `SPLIT_ADDR` [35:0]: Unit address by R326 -/
def R.SPLIT_ADDR.UNIT : Fld := ⟨0x600008, 0, 36, .rw, 0x0⟩
/-- `SPLIT_BUF` [31:0]: Bytes 4i to 4i + 3 of the unit -/
def R.SPLIT_BUF.DATA (i : Nat) : Fld := ⟨0x600100 + 4 * i, 0, 32, .rw, 0x0⟩
/-- `SEG_CFG` [2:0]: Strength, by Table 10-3 -/
def R.SEG_CFG.T (s : Nat) : Fld := ⟨0x500000 + 4 * s, 0, 3, .ro, 0x1⟩
/-- `SEG_CFG` [4:3]: NoC access, by R316 -/
def R.SEG_CFG.ACC (s : Nat) : Fld := ⟨0x500000 + 4 * s, 3, 2, .ro, 0x0⟩
/-- `SEG_CFG` [5]: 1 = segment clear running -/
def R.SEG_CFG.CLR_BUSY (s : Nat) : Fld := ⟨0x500000 + 4 * s, 5, 1, .ro, 0x0⟩
/-- `SEG_CFG` [6]: 1 starts a segment clear -/
def R.SEG_CFG.CLR (s : Nat) : Fld := ⟨0x500000 + 4 * s, 6, 1, .sc, 0x0⟩
/-- `SEG_CFG` [7]: 1 = part of a cached range -/
def R.SEG_CFG.CACHED (s : Nat) : Fld := ⟨0x500000 + 4 * s, 7, 1, .ro, 0x0⟩
/-- `SEG_CFG` [8]: 1 = part of a spill ring -/
def R.SEG_CFG.SPILL (s : Nat) : Fld := ⟨0x500000 + 4 * s, 8, 1, .ro, 0x0⟩
/-- `SEG_CFG` [9]: 1 = 256 MiB segment -/
def R.SEG_CFG.PART (s : Nat) : Fld := ⟨0x500000 + 4 * s, 9, 1, .ro, if s = 23 ∨ s = 47 then 1 else 0⟩
/-- `SEG_CFG` [10]: A read corrected a page; clearing also clears `COR_CNT` -/
def R.SEG_CFG.COR (s : Nat) : Fld := ⟨0x500000 + 4 * s, 10, 1, .w1c, 0x0⟩
/-- `SEG_CFG` [11]: A read found an uncorrectable page; clearing also clears `UNC_CNT` -/
def R.SEG_CFG.UNC (s : Nat) : Fld := ⟨0x500000 + 4 * s, 11, 1, .w1c, 0x0⟩
/-- `SEG_CFG` [12]: A tag mismatch by R307 -/
def R.SEG_CFG.MISDIR (s : Nat) : Fld := ⟨0x500000 + 4 * s, 12, 1, .w1c, 0x0⟩
/-- `SEG_CFG` [23:16]: Reads with `COR`; saturates at FFh -/
def R.SEG_CFG.COR_CNT (s : Nat) : Fld := ⟨0x500000 + 4 * s, 16, 8, .ro, 0x0⟩
/-- `SEG_CFG` [31:24]: Reads with `UNC`; saturates at FFh -/
def R.SEG_CFG.UNC_CNT (s : Nat) : Fld := ⟨0x500000 + 4 * s, 24, 8, .ro, 0x0⟩
/-- `BULK_STAT` [0]: 1 = stack initialised and serving -/
def R.BULK_STAT.READY (k : Nat) : Fld := ⟨0x500100 + 4 * k, 0, 1, .ro, 0x0⟩
/-- `BULK_STAT` [1]: 1 = stack in self-refresh -/
def R.BULK_STAT.SELFREF (k : Nat) : Fld := ⟨0x500100 + 4 * k, 1, 1, .ro, 0x0⟩
/-- `BULK_STAT` [2]: 1 = refresh rate raised by the stack's temperature readout -/
def R.BULK_STAT.HOT_REF (k : Nat) : Fld := ⟨0x500100 + 4 * k, 2, 1, .ro, 0x0⟩
/-- `BULK_STAT` [3]: 1 = at least one read-modify-write in progress -/
def R.BULK_STAT.PG_BUSY (k : Nat) : Fld := ⟨0x500100 + 4 * k, 3, 1, .ro, 0x0⟩
/-- `BULK_STAT` [15:8]: Stack temperature, signed, 1 °C -/
def R.BULK_STAT.TEMP (k : Nat) : Fld := ⟨0x500100 + 4 * k, 8, 8, .ro, 0x0⟩
/-- `LANE_CFG` [0]: 1 = bring up at outputs release; set by the image -/
def R.LANE_CFG.EN (l : Nat) : Fld := ⟨0x700000 + 4 * l, 0, 1, .rw, 0x0⟩
/-- `LANE_CFG` [2:1]: 00b Spaif; 01b 10GBASE-R; 10b 25GBASE-R; 11b not used -/
def R.LANE_CFG.PROTO (l : Nat) : Fld := ⟨0x700000 + 4 * l, 1, 2, .ro, 0x0⟩
/-- `LANE_CFG` [4:3]: K: 00b 1; 01b 2; 10b 4; 11b 8 -/
def R.LANE_CFG.KDIV (l : Nat) : Fld := ⟨0x700000 + 4 * l, 3, 2, .ro, 0x0⟩
/-- `LANE_CFG` [5]: 1 = transmit inverted; set by the image -/
def R.LANE_CFG.TX_POL (l : Nat) : Fld := ⟨0x700000 + 4 * l, 5, 1, .ro, 0x0⟩
/-- `LANE_CFG` [6]: 1 = receive polarity corrected by R340 -/
def R.LANE_CFG.RX_POL_AUTO (l : Nat) : Fld := ⟨0x700000 + 4 * l, 6, 1, .rw, 0x1⟩
/-- `LANE_CFG` [7]: 1 = fixed mode when tick-aligned -/
def R.LANE_CFG.FL_EN (l : Nat) : Fld := ⟨0x700000 + 4 * l, 7, 1, .rw, 0x0⟩
/-- `LANE_CFG` [8]: 1 = firmware slips by R351 -/
def R.LANE_CFG.AUTO_ALIGN (l : Nat) : Fld := ⟨0x700000 + 4 * l, 8, 1, .rw, 0x1⟩
/-- `LANE_CFG` [9]: 1 = restart after a down -/
def R.LANE_CFG.AUTO_RETRAIN (l : Nat) : Fld := ⟨0x700000 + 4 * l, 9, 1, .rw, 0x1⟩
/-- `LANE_CFG` [10]: 1 = transmit half follows a signal-detect wake -/
def R.LANE_CFG.WAKE_TX (l : Nat) : Fld := ⟨0x700000 + 4 * l, 10, 1, .rw, 0x1⟩
/-- `LANE_CFG` [12:11]: By R347 -/
def R.LANE_CFG.ADAPT (l : Nat) : Fld := ⟨0x700000 + 4 * l, 11, 2, .rw, 0x0⟩
/-- `LANE_CFG` [13]: 1 = `DOWN`, `FL_SLIP` or `LATE` asserts `FCB_INT_N` -/
def R.LANE_CFG.LANE_IE (l : Nat) : Fld := ⟨0x700000 + 4 * l, 13, 1, .rw, 0x0⟩
/-- `LANE_STAT` [3:0]: By Table 11-2 -/
def R.LANE_STAT.STATE (l : Nat) : Fld := ⟨0x700200 + 4 * l, 0, 4, .ro, 0x0⟩
/-- `LANE_STAT` [4]: 1 = clock recovery locked -/
def R.LANE_STAT.CDR_LOCK (l : Nat) : Fld := ⟨0x700200 + 4 * l, 4, 1, .ro, 0x0⟩
/-- `LANE_STAT` [5]: 1 = block lock -/
def R.LANE_STAT.BLK_LOCK (l : Nat) : Fld := ⟨0x700200 + 4 * l, 5, 1, .ro, 0x0⟩
/-- `LANE_STAT` [6]: 1 = receive inversion applied -/
def R.LANE_STAT.RX_INV (l : Nat) : Fld := ⟨0x700200 + 4 * l, 6, 1, .ro, 0x0⟩
/-- `LANE_STAT` [7]: 1 = adaptation frozen by R348 -/
def R.LANE_STAT.FROZEN (l : Nat) : Fld := ⟨0x700200 + 4 * l, 7, 1, .ro, 0x0⟩
/-- `LANE_STAT` [14:8]: Header offset, 0–65 -/
def R.LANE_STAT.HDR_OFS (l : Nat) : Fld := ⟨0x700200 + 4 * l, 8, 7, .ro, 0x0⟩
/-- `LANE_STAT` [15]: By R353 -/
def R.LANE_STAT.FL_OK (l : Nat) : Fld := ⟨0x700200 + 4 * l, 15, 1, .ro, 0x0⟩
/-- `LANE_STAT` [19:16]: Last fail or down reason, by Table 11-3 -/
def R.LANE_STAT.REASON (l : Nat) : Fld := ⟨0x700200 + 4 * l, 16, 4, .ro, 0x0⟩
/-- `LANE_STAT` [20]: Set at each down -/
def R.LANE_STAT.DOWN (l : Nat) : Fld := ⟨0x700200 + 4 * l, 20, 1, .w1c, 0x0⟩
/-- `LANE_STAT` [21]: Set by R355 -/
def R.LANE_STAT.FL_SLIP (l : Nat) : Fld := ⟨0x700200 + 4 * l, 21, 1, .w1c, 0x0⟩
/-- `LANE_STAT` [22]: Set by R345 -/
def R.LANE_STAT.LATE (l : Nat) : Fld := ⟨0x700200 + 4 * l, 22, 1, .w1c, 0x0⟩
/-- `LANE_STAT` [23]: Set by R360 -/
def R.LANE_STAT.WOKE (l : Nat) : Fld := ⟨0x700200 + 4 * l, 23, 1, .w1c, 0x0⟩
/-- `LANE_STAT` [31:24]: Downs; saturates at FFh -/
def R.LANE_STAT.DOWN_CNT (l : Nat) : Fld := ⟨0x700200 + 4 * l, 24, 8, .ro, 0x0⟩
/-- `LANE_EQ` [3:0]: Own pre-cursor tap, 0–12 -/
def R.LANE_EQ.TX_PRE (l : Nat) : Fld := ⟨0x700400 + 4 * l, 0, 4, .ro, 0x2⟩
/-- `LANE_EQ` [8:4]: Own post-cursor tap, 0–24 -/
def R.LANE_EQ.TX_POST (l : Nat) : Fld := ⟨0x700400 + 4 * l, 4, 5, .ro, 0x6⟩
/-- `LANE_EQ` [14:9]: 63 − `TX_PRE` − `TX_POST` -/
def R.LANE_EQ.TX_MAIN (l : Nat) : Fld := ⟨0x700400 + 4 * l, 9, 6, .ro, 0x37⟩
/-- `LANE_EQ` [18:15]: Preset pre-cursor tap -/
def R.LANE_EQ.PRE_PRESET (l : Nat) : Fld := ⟨0x700400 + 4 * l, 15, 4, .rw, 0x2⟩
/-- `LANE_EQ` [23:19]: Preset post-cursor tap -/
def R.LANE_EQ.POST_PRESET (l : Nat) : Fld := ⟨0x700400 + 4 * l, 19, 5, .rw, 0x6⟩
/-- `LANE_EQ` [28:24]: Peaking code; written by R347 -/
def R.LANE_EQ.CTLE (l : Nat) : Fld := ⟨0x700400 + 4 * l, 24, 5, .rw, 0x0⟩
/-- `LANE_DFE` [8i+7:8i]: Signed tap, by R346; written by R347 -/
def R.LANE_DFE.TAP (l : Nat) (w : Nat) (i : Nat) : Fld := ⟨0x700600 + 16 * l + 4 * w, 8 * i, 8, .rw, 0x0⟩
/-- `LANE_FL` [15:0]: Fixed latency in side block-clock cycles, by R353 -/
def R.LANE_FL.FL_LAT (l : Nat) : Fld := ⟨0x700C00 + 4 * l, 0, 16, .rw, 0x0⟩
/-- `LANE_FL` [31:16]: Measured latency by R352; saturates at FFFFh -/
def R.LANE_FL.L_MEAS (l : Nat) : Fld := ⟨0x700C00 + 4 * l, 16, 16, .ro, 0x0⟩
/-- `LANE_FLS` [6:0]: Receive buffer fill, 0–64 lane blocks -/
def R.LANE_FLS.FILL (l : Nat) : Fld := ⟨0x700E00 + 4 * l, 0, 7, .ro, 0x0⟩
/-- `LANE_FLS` [15:8]: Measurement spread in cycles -/
def R.LANE_FLS.ARR_SPREAD (l : Nat) : Fld := ⟨0x700E00 + 4 * l, 8, 8, .ro, 0x0⟩
/-- `LANE_ERR` [31:0]: PRBS bit errors in Test; invalid headers in Up -/
def R.LANE_ERR.ERR_CNT (l : Nat) : Fld := ⟨0x701000 + 8 * l + 0, 0, 32, .ro, 0x0⟩
/-- `LANE_ERR` [30:0]: Compared bits ÷ 65,536 -/
def R.LANE_ERR.BIT_CNT (l : Nat) : Fld := ⟨0x701000 + 8 * l + 4, 0, 31, .ro, 0x0⟩
/-- `LANE_ERR` [31]: 1 = checker locked -/
def R.LANE_ERR.PRBS_LOCK (l : Nat) : Fld := ⟨0x701000 + 8 * l + 4, 31, 1, .ro, 0x0⟩
/-- `QUAD_STAT` [0]: 1 = order checked by R341; set by the image -/
def R.QUAD_STAT.GANG (q : Nat) : Fld := ⟨0x701400 + 4 * q, 0, 1, .ro, 0x0⟩
/-- `QUAD_STAT` [1]: 1 = reversal corrected -/
def R.QUAD_STAT.REVERSED (q : Nat) : Fld := ⟨0x701400 + 4 * q, 1, 1, .ro, 0x0⟩
/-- `QUAD_STAT` [2]: Set by R341 -/
def R.QUAD_STAT.ORDER_ERR (q : Nat) : Fld := ⟨0x701400 + 4 * q, 2, 1, .w1c, 0x0⟩
/-- `LINK_CFG` [1:0]: Bundle width: 00b 1; 01b 2; 10b 4 lanes; set by the image -/
def R.LINK_CFG.BW (l : Nat) : Fld := ⟨0x800000 + 4 * l, 0, 2, .ro, 0x0⟩
/-- `LINK_CFG` [7:2]: Trigger slots per marker interval -/
def R.LINK_CFG.TRIG_SLOTS (l : Nat) : Fld := ⟨0x800000 + 4 * l, 2, 6, .ro, 0x0⟩
/-- `LINK_CFG` [10:8]: Marker interval 2^`MK_DIV` ticks -/
def R.LINK_CFG.MK_DIV (l : Nat) : Fld := ⟨0x800000 + 4 * l, 8, 3, .ro, 0x0⟩
/-- `LINK_CFG` [11]: 1 = timing link -/
def R.LINK_CFG.TLINK (l : Nat) : Fld := ⟨0x800000 + 4 * l, 11, 1, .ro, 0x0⟩
/-- `LINK_CFG` [12]: 1 = management channel on -/
def R.LINK_CFG.MGMT_EN (l : Nat) : Fld := ⟨0x800000 + 4 * l, 12, 1, .rw, 0x0⟩
/-- `LINK_CFG` [13]: 1 = duplicate suppression by R401 -/
def R.LINK_CFG.DUP_EN (l : Nat) : Fld := ⟨0x800000 + 4 * l, 13, 1, .rw, 0x0⟩
/-- `LINK_CFG` [14]: 1 = trigger words enter the Twin digest -/
def R.LINK_CFG.DIG_EN (l : Nat) : Fld := ⟨0x800000 + 4 * l, 14, 1, .ro, 0x0⟩
/-- `LINK_CFG` [15]: 1 = `TICK_MIS`, `BLOCKED` or `SKEW_ERR` asserts `FCB_INT_N` -/
def R.LINK_CFG.LINK_IE (l : Nat) : Fld := ⟨0x800000 + 4 * l, 15, 1, .rw, 0x0⟩
/-- `LINK_CFG` [31:16]: Acknowledge timeout in µs, 1–65,535 -/
def R.LINK_CFG.ACK_TO (l : Nat) : Fld := ⟨0x800000 + 4 * l, 16, 16, .rw, 0x32⟩
/-- `LINK_STAT` [0]: 1 = bundle in Up -/
def R.LINK_STAT.LINK_UP (l : Nat) : Fld := ⟨0x800200 + 4 * l, 0, 1, .ro, 0x0⟩
/-- `LINK_STAT` [1]: 1 = packet channel Blocked by R382 -/
def R.LINK_STAT.BLOCKED (l : Nat) : Fld := ⟨0x800200 + 4 * l, 1, 1, .ro, 0x0⟩
/-- `LINK_STAT` [2]: Set by R373 -/
def R.LINK_STAT.TICK_MIS (l : Nat) : Fld := ⟨0x800200 + 4 * l, 2, 1, .w1c, 0x0⟩
/-- `LINK_STAT` [3]: 1 = far device sends `SAFE` -/
def R.LINK_STAT.PEER_SAFE (l : Nat) : Fld := ⟨0x800200 + 4 * l, 3, 1, .ro, 0x0⟩
/-- `LINK_STAT` [4]: Set by R371 -/
def R.LINK_STAT.SKEW_ERR (l : Nat) : Fld := ⟨0x800200 + 4 * l, 4, 1, .w1c, 0x0⟩
/-- `LINK_STAT` [5]: Set by R381 -/
def R.LINK_STAT.LATE (l : Nat) : Fld := ⟨0x800200 + 4 * l, 5, 1, .w1c, 0x0⟩
/-- `LINK_STAT` [6]: Set by R401 -/
def R.LINK_STAT.DUP_FULL (l : Nat) : Fld := ⟨0x800200 + 4 * l, 6, 1, .w1c, 0x0⟩
/-- `LINK_STAT` [15:8]: Failed `TCRC`; saturates at FFh -/
def R.LINK_STAT.TRG_ERR (l : Nat) : Fld := ⟨0x800200 + 4 * l, 8, 8, .ro, 0x0⟩
/-- `LINK_STAT` [23:16]: Block errors; saturates at FFh -/
def R.LINK_STAT.BLK_ERR (l : Nat) : Fld := ⟨0x800200 + 4 * l, 16, 8, .ro, 0x0⟩
/-- `LINK_STAT` [27:24]: Bad management frames; saturates at Fh -/
def R.LINK_STAT.MGMT_ERR (l : Nat) : Fld := ⟨0x800200 + 4 * l, 24, 4, .ro, 0x0⟩
/-- `LINK_STAT` [31:28]: Replays without progress of the oldest packet -/
def R.LINK_STAT.REPLAYS (l : Nat) : Fld := ⟨0x800200 + 4 * l, 28, 4, .ro, 0x0⟩
/-- `DRT` [19:0]: Device ID to match -/
def R.DRT.MATCH (i : Nat) : Fld := ⟨0x800400 + 8 * i, 0, 20, .rw, 0x0⟩
/-- `DRT` [39:20]: 1 = bit compared -/
def R.DRT.MASK (i : Nat) : Fld := ⟨0x800400 + 8 * i, 20, 20, .rw, 0x0⟩
/-- `DRT` [46:40]: First lane of the exit bundle -/
def R.DRT.BUNDLE (i : Nat) : Fld := ⟨0x800400 + 8 * i, 40, 7, .rw, 0x0⟩
/-- `DRT` [47]: 1 = entry in use -/
def R.DRT.VALID (i : Nat) : Fld := ⟨0x800400 + 8 * i, 47, 1, .rw, 0x0⟩
/-- `SYNC_STAT` [2:0]: 000b Off; 001b Electing; 010b Aligning; 011b Aligned; 100b Crown; 101b Holdover; 110b Untimed; 111b Error -/
def R.SYNC_STAT.STATE : Fld := ⟨0x801000, 0, 3, .ro, 0x0⟩
/-- `SYNC_STAT` [7:3]: Hops from the crown -/
def R.SYNC_STAT.HOPS : Fld := ⟨0x801000, 3, 5, .ro, 0x0⟩
/-- `SYNC_STAT` [14:8]: Parent bundle; 7Fh = none -/
def R.SYNC_STAT.PARENT : Fld := ⟨0x801000, 8, 7, .ro, 0x7F⟩
/-- `SYNC_STAT` [15]: Set by R391 -/
def R.SYNC_STAT.MK_ERR : Fld := ⟨0x801000, 15, 1, .w1c, 0x0⟩
/-- `SYNC_STAT` [23:16]: Own crown priority -/
def R.SYNC_STAT.PRIO : Fld := ⟨0x801000, 16, 8, .ro, 0xFF⟩
/-- `SYNC_STAT` [31:24]: Residual offset, signed fine steps; saturates -/
def R.SYNC_STAT.RESID : Fld := ⟨0x801000, 24, 8, .ro, 0x0⟩
/-- `SYNC_CROWN` [19:0]: Device ID of the crown in use -/
def R.SYNC_CROWN.CROWN : Fld := ⟨0x801004, 0, 20, .ro, 0x0⟩
/-- `TWIN_STAT` [1:0]: Copy of `STRAP_TWIN` -/
def R.TWIN_STAT.ROLE : Fld := ⟨0x801100, 0, 2, .ro, 0x0⟩
/-- `TWIN_STAT` [2]: 1 = pair formed -/
def R.TWIN_STAT.PAIRED : Fld := ⟨0x801100, 2, 1, .ro, 0x0⟩
/-- `TWIN_STAT` [3]: Set by R398 -/
def R.TWIN_STAT.DIVERGE : Fld := ⟨0x801100, 3, 1, .w1c, 0x0⟩
/-- `TWIN_STAT` [4]: Set by R400 -/
def R.TWIN_STAT.LOST : Fld := ⟨0x801100, 4, 1, .w1c, 0x0⟩
/-- `TWIN_STAT` [5]: 0 = continue; 1 = fail-silent -/
def R.TWIN_STAT.POLICY : Fld := ⟨0x801100, 5, 1, .rw, 0x0⟩
/-- `TWIN_STAT` [6]: 1 = this member entered Safe by R399 -/
def R.TWIN_STAT.SILENCED : Fld := ⟨0x801100, 6, 1, .ro, 0x0⟩
/-- `TWIN_STAT` [15:7]: Pairing timeout of R42 in units of 100 ms, 1–511; a write of 0 is ignored -/
def R.TWIN_STAT.PAIR_TO : Fld := ⟨0x801100, 7, 9, .rw, 0xA⟩
/-- `TWIN_STAT` [31:16]: Mismatched ticks; saturates at FFFFh -/
def R.TWIN_STAT.DIV_CNT : Fld := ⟨0x801100, 16, 16, .ro, 0x0⟩
/-- `DEV_ID` [19:0]: Device ID; written by `LINK_ID_SET` -/
def R.DEV_ID.ID : Fld := ⟨0x801200, 0, 20, .ro, 0xFFFFE⟩
/-- `NI_CFG` [15:0]: Transaction timeout in µs; 0 = none -/
def R.NI_CFG.TXN_TO (e : Nat) : Fld := ⟨0x900000 + 4 * e, 0, 16, .rw, 0x64⟩
/-- `NI_CFG` [18:16]: Highest `CLASS` passed, by R410; for endpoint 0A0h it resets to 7 and is RO -/
def R.NI_CFG.MAXCLASS (e : Nat) : Fld := ⟨0x900000 + 4 * e, 16, 3, (if e = 0xA0 then .ro else .rw), if e = 0xA0 then 7 else 3⟩
/-- `NI_CFG` [23:19]: `DHOPS` written into headers -/
def R.NI_CFG.DHOPS (e : Nat) : Fld := ⟨0x900000 + 4 * e, 19, 5, .rw, 0x18⟩
/-- `NI_CFG` [24]: 1 = slowed in Limit by R419 -/
def R.NI_CFG.SHED (e : Nat) : Fld := ⟨0x900000 + 4 * e, 24, 1, .rw, 0x1⟩
/-- `NI_CFG` [25]: 1 = interface present and serving -/
def R.NI_CFG.EN (e : Nat) : Fld := ⟨0x900000 + 4 * e, 25, 1, .ro, 0x0⟩
/-- `NI_STAT` [0]: A request completed with `TIMEOUT` -/
def R.NI_STAT.TIMEOUT (e : Nat) : Fld := ⟨0x901000 + 4 * e, 0, 1, .w1c, 0x0⟩
/-- `NI_STAT` [1]: Set by R422 -/
def R.NI_STAT.LATE (e : Nat) : Fld := ⟨0x901000 + 4 * e, 1, 1, .w1c, 0x0⟩
/-- `NI_STAT` [2]: A response after timeout was discarded -/
def R.NI_STAT.LATE_DROP (e : Nat) : Fld := ⟨0x901000 + 4 * e, 2, 1, .w1c, 0x0⟩
/-- `NI_STAT` [3]: Set by R410 -/
def R.NI_STAT.CLAMP (e : Nat) : Fld := ⟨0x901000 + 4 * e, 3, 1, .w1c, 0x0⟩
/-- `NI_STAT` [4]: Set by R424 -/
def R.NI_STAT.TX_ABORT (e : Nat) : Fld := ⟨0x901000 + 4 * e, 4, 1, .w1c, 0x0⟩
/-- `NI_STAT` [5]: Set by R424 -/
def R.NI_STAT.RX_STALL (e : Nat) : Fld := ⟨0x901000 + 4 * e, 5, 1, .w1c, 0x0⟩
/-- `NI_STAT` [6]: 1 = the door holds headers -/
def R.NI_STAT.HELD (e : Nat) : Fld := ⟨0x901000 + 4 * e, 6, 1, .ro, 0x0⟩
/-- `NI_STAT` [15:8]: Requests awaiting a response, 0–64 -/
def R.NI_STAT.OUTSTANDING (e : Nat) : Fld := ⟨0x901000 + 4 * e, 8, 8, .ro, 0x0⟩
/-- `NI_STAT` [31:16]: Timeouts; saturates at FFFFh -/
def R.NI_STAT.TO_CNT (e : Nat) : Fld := ⟨0x901000 + 4 * e, 16, 16, .ro, 0x0⟩
/-- `RT_ACC` [11:0]: Endpoint whose table is accessed -/
def R.RT_ACC.NI : Fld := ⟨0x902000, 0, 12, .rw, 0x0⟩
/-- `RT_ACC` [21:12]: Entry, 0–1,023 -/
def R.RT_ACC.ENTRY : Fld := ⟨0x902000, 12, 10, .rw, 0x0⟩
/-- `RT_ACC` [22]: 0 read into `RT_DATA`; 1 write from `RT_DATA` -/
def R.RT_ACC.OP : Fld := ⟨0x902000, 22, 1, .rw, 0x0⟩
/-- `RT_ACC` [23]: 1 performs the access -/
def R.RT_ACC.GO : Fld := ⟨0x902000, 23, 1, .sc, 0x0⟩
/-- `RT_ACC` [24]: A write was refused by R415; entry unchanged -/
def R.RT_ACC.BAD : Fld := ⟨0x902000, 24, 1, .w1c, 0x0⟩
/-- `RT_DATA` [31:0]: `ROUTE` bits [32w + 31 : 32w] -/
def R.RT_DATA.HOPS (w : Nat) : Fld := ⟨0x902004 + 4 * w, 0, 32, .rw, 0x0⟩
/-- `RT_DATA` [19:0]: `ROUTE` bits [83:64] -/
def R.RT_DATA.HOPS2 : Fld := ⟨0x90200C, 0, 20, .rw, 0x0⟩
/-- `RT_DATA` [31]: 1 = entry in use -/
def R.RT_DATA.VALID : Fld := ⟨0x90200C, 31, 1, .rw, 0x0⟩
/-- `RTR_CFG` [5:0]: Staged port enables: N or clockwise, E or anticlockwise, S, W, local, join -/
def R.RTR_CFG.PEN (n : Nat) : Fld := ⟨0x903000 + 4 * n, 0, 6, .rw, portMask n⟩
/-- `RTR_CFG` [11:6]: Staged: bit = 1 puts that port's link in 2-VC mode -/
def R.RTR_CFG.VC2 (n : Nat) : Fld := ⟨0x903000 + 4 * n, 6, 6, .rw, 0x0⟩
/-- `RTR_CFG` [12]: 1 starts DRAIN by R426 -/
def R.RTR_CFG.APPLY (n : Nat) : Fld := ⟨0x903000 + 4 * n, 12, 1, .sc, 0x0⟩
/-- `RTR_STAT` [5:0]: Port enables in force -/
def R.RTR_STAT.PEN_ACT (n : Nat) : Fld := ⟨0x903400 + 4 * n, 0, 6, .ro, 0x0⟩
/-- `RTR_STAT` [11:6]: VC modes in force -/
def R.RTR_STAT.VC2_ACT (n : Nat) : Fld := ⟨0x903400 + 4 * n, 6, 6, .ro, 0x0⟩
/-- `RTR_STAT` [13:12]: 00b Normal; 01b Drain; 10b Reset drain; 11b Reset -/
def R.RTR_STAT.STATE (n : Nat) : Fld := ⟨0x903400 + 4 * n, 12, 2, .ro, 0x0⟩
/-- `RTR_STAT` [14]: Set by R426 step 4 -/
def R.RTR_STAT.DRAIN_TO (n : Nat) : Fld := ⟨0x903400 + 4 * n, 14, 1, .w1c, 0x0⟩
/-- `RTR_STAT` [31:16]: `ROUTE_BROKEN` raised here; saturates at FFFFh -/
def R.RTR_STAT.BROKEN_CNT (n : Nat) : Fld := ⟨0x903400 + 4 * n, 16, 16, .ro, 0x0⟩
/-- `CFG_STAT` [2:0]: 000b Idle; 001b Header; 010b Payload; 011b Authenticating; 100b Committing; 101b Failed -/
def R.CFG_STAT.STATE : Fld := ⟨0xC00000, 0, 3, .ro, 0x0⟩
/-- `CFG_STAT` [4:3]: 00b image store; 01b port; 10b lane; 11b NoC -/
def R.CFG_STAT.SOURCE : Fld := ⟨0xC00000, 3, 2, .ro, 0x0⟩
/-- `CFG_STAT` [6:5]: Kind of the load, by Table 14-6 -/
def R.CFG_STAT.KIND : Fld := ⟨0xC00000, 5, 2, .ro, 0x0⟩
/-- `CFG_STAT` [11:7]: Chain position -/
def R.CFG_STAT.POSITION : Fld := ⟨0xC00000, 7, 5, .ro, 0x0⟩
/-- `CFG_STAT` [12]: 1 = position held, by R443 -/
def R.CFG_STAT.POS_VALID : Fld := ⟨0xC00000, 12, 1, .ro, 0x0⟩
/-- `CFG_STAT` [13]: 1 = forwarding a segment -/
def R.CFG_STAT.FWD : Fld := ⟨0xC00000, 13, 1, .ro, 0x0⟩
/-- `CFG_STAT` [14]: Set by R441 -/
def R.CFG_STAT.OVERRUN : Fld := ⟨0xC00000, 14, 1, .w1c, 0x0⟩
/-- `CFG_STAT` [15]: 1 = the committed image came from slot 0 by R447 -/
def R.CFG_STAT.FALLBACK : Fld := ⟨0xC00000, 15, 1, .ro, 0x0⟩
/-- `CFG_STAT` [31:16]: Talnum status of the last load -/
def R.CFG_STAT.LAST_STATUS : Fld := ⟨0xC00000, 16, 16, .ro, 0x0⟩
/-- `CFG_CTL` [13:0]: Load timeout in ms, 1–10,000, by R446 -/
def R.CFG_CTL.LOAD_TO : Fld := ⟨0xC00004, 0, 14, .rw, 0x64⟩
/-- `CFG_CTL` [14]: 1 = a change of `LAST_STATUS` asserts `FCB_INT_N` -/
def R.CFG_CTL.CFG_IE : Fld := ⟨0xC00004, 14, 1, .rw, 0x0⟩
/-- `CFG_ID` [31:0]: Image identity, by R432 -/
def R.CFG_ID.IMAGE_ID : Fld := ⟨0xC00008, 0, 32, .ro, 0x0⟩
/-- `BLK_SEQ` [5:0]: Three 2-bit slots from bit 0: 01b GSR; 10b WREN; 11b OUT; each code once; set by the image; 39h at reset gives GSR, then WREN, then OUT -/
def R.BLK_SEQ.ORDER : Fld := ⟨0xC00010, 0, 6, .ro, 0x39⟩
/-- `BLK_SEQ` [15:6]: LOCK timeout in units of 0.25 ms, 1–1,023; reset value 108.25 ms -/
def R.BLK_SEQ.LOCK_TO : Fld := ⟨0xC00010, 6, 10, .ro, 0x1B1⟩
/-- `BLK_DLY` [15:0]: Delay after LOCK, units of 10 µs -/
def R.BLK_DLY.D_LOCK : Fld := ⟨0xC00014, 0, 16, .ro, 0x0⟩
/-- `BLK_DLY` [31:16]: Delay after GSR -/
def R.BLK_DLY.D_GSR : Fld := ⟨0xC00014, 16, 16, .ro, 0x0⟩
/-- `BLK_DLY` [47:32]: Delay after WREN -/
def R.BLK_DLY.D_WREN : Fld := ⟨0xC00014, 32, 16, .ro, 0x0⟩
/-- `BLK_DLY` [63:48]: Delay after OUT -/
def R.BLK_DLY.D_OUT : Fld := ⟨0xC00014, 48, 16, .ro, 0x0⟩
/-- `BLK_STAT` [3:0]: Bit set per completed step: LOCK, GSR, WREN, OUT -/
def R.BLK_STAT.DONE : Fld := ⟨0xC0001C, 0, 4, .ro, 0x0⟩
/-- `BLK_STAT` [5:4]: Step running: 00b LOCK; 01b GSR; 10b WREN; 11b OUT -/
def R.BLK_STAT.CUR : Fld := ⟨0xC0001C, 4, 2, .ro, 0x0⟩
/-- `BLK_STAT` [6]: 1 = felting fill running -/
def R.BLK_STAT.FILLING : Fld := ⟨0xC0001C, 6, 1, .ro, 0x0⟩
/-- `BLK_STAT` [7]: 1 = LOCK timed out, by R453 -/
def R.BLK_STAT.FAIL : Fld := ⟨0xC0001C, 7, 1, .ro, 0x0⟩
/-- `SEC_PROT` [0]: 1 = protection locked for this power cycle -/
def R.SEC_PROT.LOCK : Fld := ⟨0x60, 0, 1, .ro, 0x0⟩
/-- `SEC_PROT` [1]: 1 = every segment must be signed -/
def R.SEC_PROT.SIG_REQ : Fld := ⟨0x60, 1, 1, .rwl, 0x0⟩
/-- `SEC_PROT` [2]: 1 = zero-key segments allowed -/
def R.SEC_PROT.ZK_OK : Fld := ⟨0x60, 2, 1, .rwl, 0x0⟩
/-- `SEC_PROT` [3]: 1 = battery-backed key usable; 0 on key-F devices -/
def R.SEC_PROT.BBK_OK : Fld := ⟨0x60, 3, 1, .rwl, 0x0⟩
/-- `SEC_PROT` [4]: 1 = split-write window DIAG may open, by R327 -/
def R.SEC_PROT.DIAG_OK : Fld := ⟨0x60, 4, 1, .rwl, 0x0⟩
/-- `SEC_PROT` [5]: 1 = `IMG_WRITE` of slot 0 allowed -/
def R.SEC_PROT.SLOT0_WR : Fld := ⟨0x60, 5, 1, .rwl, 0x0⟩
/-- `SEC_PROT` [6]: 1 = full test access port allowed -/
def R.SEC_PROT.JTAG_FULL : Fld := ⟨0x60, 6, 1, .rwl, 0x0⟩
/-- `SEC_PROT` [7]: 1 = expert control may be unlocked -/
def R.SEC_PROT.EXPERT_OK : Fld := ⟨0x60, 7, 1, .rwl, 0x0⟩
/-- `SEC_PROT` [8]: 1 = read-back and capture of protected planes allowed -/
def R.SEC_PROT.DBG_READ : Fld := ⟨0x60, 8, 1, .rwl, 0x0⟩
/-- `SEC_PROT` [9]: 1 = plume on protected planes allowed -/
def R.SEC_PROT.DBG_PLUME : Fld := ⟨0x60, 9, 1, .rwl, 0x0⟩
/-- `SEC_PROT` [10]: 1 = fuse key programmed, check good, not blocked -/
def R.SEC_PROT.FK_OK : Fld := ⟨0x60, 10, 1, .rwl, 0x0⟩
/-- `SEC_PROT` [11]: 1 = security fuses programmable -/
def R.SEC_PROT.SECFUSE_WR : Fld := ⟨0x60, 11, 1, .rwl, 0x0⟩
/-- `SEC_PROT` [15:12]: Minimum `SVN`, by R464 -/
def R.SEC_PROT.MIN_SVN : Fld := ⟨0x60, 12, 4, .rwl, 0x0⟩
/-- `SEC_PROT` [17:16]: Bit k = public key k usable, by R461 -/
def R.SEC_PROT.PK_OK : Fld := ⟨0x60, 16, 2, .rwl, 0x0⟩
/-- `SEC_STAT` [0]: 1 = key memory holds a key -/
def R.SEC_STAT.BBK_VALID : Fld := ⟨0x64, 0, 1, .ro, 0x0⟩
/-- `SEC_STAT` [1]: Set by R469; write ignored while `TAMPER_N` is low -/
def R.SEC_STAT.TAMPERED : Fld := ⟨0x64, 1, 1, .w1c, 0x0⟩
/-- `SEC_STAT` [2]: 1 = `TAMPER_N` low -/
def R.SEC_STAT.TAMPER_NOW : Fld := ⟨0x64, 2, 1, .ro, 0x0⟩
/-- `SEC_STAT` [3]: 1 = `VBAT` below V_BATRET -/
def R.SEC_STAT.VBAT_LOW : Fld := ⟨0x64, 3, 1, .ro, 0x0⟩
/-- `SEC_STAT` [4]: Set by R461 -/
def R.SEC_STAT.PK_MISMATCH : Fld := ⟨0x64, 4, 1, .ro, 0x0⟩
/-- `SEC_STAT` [5]: Set by R468 -/
def R.SEC_STAT.PLUME_CUT : Fld := ⟨0x64, 5, 1, .w1c, 0x0⟩
/-- `SEC_STAT` [6]: 1 = `TAMPERED` or `PLUME_CUT` asserts `FCB_INT_N` -/
def R.SEC_STAT.SEC_IE : Fld := ⟨0x64, 6, 1, .rw, 0x0⟩
/-- `SEC_STAT` [15:8]: `AUTH_FAIL` outcomes; saturates at FFh -/
def R.SEC_STAT.AUTH_CNT : Fld := ⟨0x64, 8, 8, .ro, 0x0⟩
/-- `SEC_STAT` [31:16]: Check value of the stored key; 0 when `BBK_VALID` = 0 -/
def R.SEC_STAT.BBK_KCV : Fld := ⟨0x64, 16, 16, .ro, 0x0⟩
/-- `PLUME_SEL` [6:0]: Region, 0–127 -/
def R.PLUME_SEL.REGION (k : Nat) : Fld := ⟨0x100 + 4 * k, 0, 7, .rw, 0x0⟩
/-- `PLUME_SEL` [14:7]: Candidate, 0–255 -/
def R.PLUME_SEL.PROBE (k : Nat) : Fld := ⟨0x100 + 4 * k, 7, 8, .rw, 0x0⟩
/-- `PLUME_SEL` [15]: 1 = pin presents the candidate -/
def R.PLUME_SEL.EN (k : Nat) : Fld := ⟨0x100 + 4 * k, 15, 1, .rw, 0x0⟩
/-- `PLUME_SEL` [17:16]: 00b off or undefined candidate; 01b presenting; 10b refused by protection; 11b cut at a swap, R468 -/
def R.PLUME_SEL.STATE (k : Nat) : Fld := ⟨0x100 + 4 * k, 16, 2, .ro, 0x0⟩
/-- `POUNCE_CTL` [0]: 1 = pounce runs, by R477 -/
def R.POUNCE_CTL.EN : Fld := ⟨0xD00000, 0, 1, .rw, 0x1⟩
/-- `POUNCE_CTL` [2:1]: 00b All; 01b Active; others act as 00b -/
def R.POUNCE_CTL.MODE : Fld := ⟨0xD00000, 1, 2, .rw, 0x0⟩
/-- `POUNCE_CTL` [4:3]: By R480; 10b and 11b act as 00b -/
def R.POUNCE_CTL.UNC_ACT : Fld := ⟨0xD00000, 3, 2, .rw, 0x0⟩
/-- `POUNCE_CTL` [5]: 1 = each new log entry asserts `FCB_INT_N` until `LOG_STAT.NEW` is cleared -/
def R.POUNCE_CTL.LOG_IE : Fld := ⟨0xD00000, 5, 1, .rw, 0x0⟩
/-- `POUNCE_STAT` [1:0]: 00b Stopped; 01b Running; 10b Paused; 11b Running slowed in Limit -/
def R.POUNCE_STAT.STATE : Fld := ⟨0xD00004, 0, 2, .ro, 0x0⟩
/-- `POUNCE_STAT` [3:2]: Pass within the round, 0–3 -/
def R.POUNCE_STAT.PASS : Fld := ⟨0xD00004, 2, 2, .ro, 0x0⟩
/-- `POUNCE_STAT` [7:4]: Repairs queued, saturates at Fh -/
def R.POUNCE_STAT.REPQ : Fld := ⟨0xD00004, 4, 4, .ro, 0x0⟩
/-- `POUNCE_STAT` [31:8]: Rounds completed since Boot; wraps -/
def R.POUNCE_STAT.ROUNDS : Fld := ⟨0xD00004, 8, 24, .ro, 0x0⟩
/-- `POUNCE_CNT` [15:0]: `BENIGN` corrections; saturates at FFFFh -/
def R.POUNCE_CNT.BEN_CNT (r : Nat) : Fld := ⟨0xD00100 + 4 * r, 0, 16, .ro, 0x0⟩
/-- `POUNCE_CNT` [23:16]: `ESSENTIAL` corrections; saturates at FFh -/
def R.POUNCE_CNT.ESS_CNT (r : Nat) : Fld := ⟨0xD00100 + 4 * r, 16, 8, .ro, 0x0⟩
/-- `POUNCE_CNT` [31:24]: Uncorrectable frame checks; saturates at FFh -/
def R.POUNCE_CNT.UNC_CNT (r : Nat) : Fld := ⟨0xD00100 + 4 * r, 24, 8, .ro, 0x0⟩
/-- `LOG_STAT` [8:0]: Entries held, 0–256 -/
def R.LOG_STAT.ENTRIES : Fld := ⟨0xD00400, 0, 9, .ro, 0x0⟩
/-- `LOG_STAT` [9]: Set at each entry -/
def R.LOG_STAT.NEW : Fld := ⟨0xD00400, 9, 1, .w1c, 0x0⟩
/-- `LOG_STAT` [31:16]: Entries overwritten; saturates at FFFFh -/
def R.LOG_STAT.OVF_CNT : Fld := ⟨0xD00400, 16, 16, .ro, 0x0⟩
/-- `ESS_TOTAL` [31:0]: Entries since Boot, by R483; wraps -/
def R.ESS_TOTAL.TOTAL : Fld := ⟨0xD00404, 0, 32, .ro, 0x0⟩
/-- `DEV_TYPE` [15:0]: Device type code, as in `DEVTYPE` of the segment header -/
def R.DEV_TYPE.TYPE : Fld := ⟨0x0, 0, 16, .ro, 0x4B39⟩
/-- `DEV_TYPE` [19:16]: Silicon revision -/
def R.DEV_TYPE.REV : Fld := ⟨0x0, 16, 4, .ro, 0x0⟩
/-- `DEV_TYPE` [20]: 0 = speed grade 1; 1 = speed grade 2 -/
def R.DEV_TYPE.SPEED : Fld := ⟨0x0, 20, 1, .ro, 0x0⟩
/-- `DEV_TYPE` [21]: 0 = C; 1 = I -/
def R.DEV_TYPE.TEMP : Fld := ⟨0x0, 21, 1, .ro, 0x0⟩
/-- `DEV_TYPE` [22]: 0 = F; 1 = B -/
def R.DEV_TYPE.KEY : Fld := ⟨0x0, 22, 1, .ro, 0x0⟩
/-- `DEV_CTL` [0]: 1 with `KEY` = A5h: the effect of `MODE_RESTART`, by R39 -/
def R.DEV_CTL.RESTART : Fld := ⟨0xC, 0, 1, .wo, 0x0⟩
/-- `DEV_CTL` [1]: 1 with `KEY` = A5h: Safe with cause 1h -/
def R.DEV_CTL.SAFE : Fld := ⟨0xC, 1, 1, .wo, 0x0⟩
/-- `DEV_CTL` [15:8]: Must be A5h in the same write; any other value makes the write ignored -/
def R.DEV_CTL.KEY : Fld := ⟨0xC, 8, 8, .wo, 0x0⟩
/-- `WDOG_STAT` [13:0]: Watchdog period in ms -/
def R.WDOG_STAT.PERIOD_MS : Fld := ⟨0x68, 0, 14, .ro, 0x3E8⟩
/-- `WDOG_STAT` [14]: Set at each expiry by R493 -/
def R.WDOG_STAT.EXPIRED : Fld := ⟨0x68, 14, 1, .w1c, 0x0⟩
/-- `WDOG_STAT` [15]: Set by R492 -/
def R.WDOG_STAT.LOCKSTEP : Fld := ⟨0x68, 15, 1, .w1c, 0x0⟩
/-- `WDOG_STAT` [31:24]: Milliner restarts since Boot, all causes; saturates at FFh -/
def R.WDOG_STAT.RESTARTS : Fld := ⟨0x68, 24, 8, .ro, 0x0⟩
/-- `INT_SUM` [0]: `DEV_MODE.MODE_CHG` with `MODE_IE` -/
def R.INT_SUM.I_MODE : Fld := ⟨0x30, 0, 1, .ro, 0x0⟩
/-- `INT_SUM` [1]: `CLK_LOST` with `LOST_IE`, or `MCLK_STAT` with `MCLK_IE` -/
def R.INT_SUM.I_CLK : Fld := ⟨0x30, 1, 1, .ro, 0x0⟩
/-- `INT_SUM` [2]: `FAB_CTL` with `CLK_IE`, or `PIL_STAT` with `PIL_IE` -/
def R.INT_SUM.I_FAB : Fld := ⟨0x30, 2, 1, .ro, 0x0⟩
/-- `INT_SUM` [3]: `CTX_STAT.NACK` with `SWAP_IE` -/
def R.INT_SUM.I_CTX : Fld := ⟨0x30, 3, 1, .ro, 0x0⟩
/-- `INT_SUM` [4]: `LANE_STAT` with `LANE_IE` -/
def R.INT_SUM.I_LANE : Fld := ⟨0x30, 4, 1, .ro, 0x0⟩
/-- `INT_SUM` [5]: `LINK_STAT` with `LINK_IE` -/
def R.INT_SUM.I_LINK : Fld := ⟨0x30, 5, 1, .ro, 0x0⟩
/-- `INT_SUM` [6]: `CFG_STAT.LAST_STATUS` change with `CFG_IE` -/
def R.INT_SUM.I_CFG : Fld := ⟨0x30, 6, 1, .ro, 0x0⟩
/-- `INT_SUM` [7]: `LOG_STAT.NEW` with `LOG_IE` -/
def R.INT_SUM.I_LOG : Fld := ⟨0x30, 7, 1, .ro, 0x0⟩
/-- `INT_SUM` [8]: `SEC_STAT` with `SEC_IE` -/
def R.INT_SUM.I_SEC : Fld := ⟨0x30, 8, 1, .ro, 0x0⟩
/-- `INT_SUM` [9]: Any `MB_CTL` with `DONE` and `IE_DONE`, or `EVT` and `IE_EVT` -/
def R.INT_SUM.I_MBOX : Fld := ⟨0x30, 9, 1, .ro, 0x0⟩
/-- `INT_SUM` [10]: As "Supplies, Heat and Service Life" states -/
def R.INT_SUM.I_THERM : Fld := ⟨0x30, 10, 1, .ro, 0x0⟩
/-- `INT_SUM` [11]: As "Self-Test and Repair" states -/
def R.INT_SUM.I_TEST : Fld := ⟨0x30, 11, 1, .ro, 0x0⟩
/-- `EXP_PAGE` [7:0]: Window of Table 17-7; 00h and unlisted values show no window -/
def R.EXP_PAGE.WINDOW : Fld := ⟨0x6C, 0, 8, .rw, 0x0⟩
/-- `EXP_PAGE` [11:8]: Base in 4 KiB units -/
def R.EXP_PAGE.BASE : Fld := ⟨0x6C, 8, 4, .rw, 0x0⟩
/-- `EXP_STAT` [0]: 1 = at least one posted write not yet delivered -/
def R.EXP_STAT.PEND : Fld := ⟨0x70, 0, 1, .ro, 0x0⟩
/-- `EXP_STAT` [1]: A write was discarded for lack of room -/
def R.EXP_STAT.WR_DROP : Fld := ⟨0x70, 1, 1, .w1c, 0x0⟩
/-- `EXP_STAT` [2]: A write to a locked function was discarded -/
def R.EXP_STAT.DENIED : Fld := ⟨0x70, 2, 1, .w1c, 0x0⟩
/-- `EXP_STAT` [3]: An access with `WINDOW` showing no window -/
def R.EXP_STAT.BAD_WIN : Fld := ⟨0x70, 3, 1, .w1c, 0x0⟩
/-- `EXP_STAT` [12:8]: Posted writes pending, 0–16 -/
def R.EXP_STAT.PEND_CNT : Fld := ⟨0x70, 8, 5, .ro, 0x0⟩
/-- `EXP_UNLK` [31:0]: Bit j = 1: function 32i + j unlocked for expert writes -/
def R.EXP_UNLK.UNLK (i : Nat) : Fld := ⟨0x800 + 4 * i, 0, 32, .ro, 0x0⟩
/-- `MB_CTL` [1:0]: 00b Idle; 01b Posted; 10b Busy; 11b Done -/
def R.MB_CTL.STATE (m : Nat) : Fld := ⟨0x200 + 4 * m, 0, 2, .ro, 0x0⟩
/-- `MB_CTL` [2]: 1 posts the command frame -/
def R.MB_CTL.GO (m : Nat) : Fld := ⟨0x200 + 4 * m, 2, 1, .wo, 0x0⟩
/-- `MB_CTL` [3]: 1 = completion present; clearing returns to Idle -/
def R.MB_CTL.DONE (m : Nat) : Fld := ⟨0x200 + 4 * m, 3, 1, .w1c, 0x0⟩
/-- `MB_CTL` [4]: 1 requests cancellation, by R507 -/
def R.MB_CTL.ABORT (m : Nat) : Fld := ⟨0x200 + 4 * m, 4, 1, .sc, 0x0⟩
/-- `MB_CTL` [5]: 1 = an event record is at the queue head -/
def R.MB_CTL.EVT (m : Nat) : Fld := ⟨0x200 + 4 * m, 5, 1, .ro, 0x0⟩
/-- `MB_CTL` [6]: 1 removes the head record -/
def R.MB_CTL.EVT_POP (m : Nat) : Fld := ⟨0x200 + 4 * m, 6, 1, .wo, 0x0⟩
/-- `MB_CTL` [7]: `GO` ignored, or a frame refused by R504 -/
def R.MB_CTL.COLLIDE (m : Nat) : Fld := ⟨0x200 + 4 * m, 7, 1, .w1c, 0x0⟩
/-- `MB_CTL` [8]: 1 = `DONE` sets `INT_SUM.I_MBOX` -/
def R.MB_CTL.IE_DONE (m : Nat) : Fld := ⟨0x200 + 4 * m, 8, 1, .rw, 0x0⟩
/-- `MB_CTL` [9]: 1 = `EVT` sets `INT_SUM.I_MBOX` -/
def R.MB_CTL.IE_EVT (m : Nat) : Fld := ⟨0x200 + 4 * m, 9, 1, .rw, 0x0⟩
/-- `MB_CTL` [22:16]: Records queued, 0–64 -/
def R.MB_CTL.EVT_CNT (m : Nat) : Fld := ⟨0x200 + 4 * m, 16, 7, .ro, 0x0⟩
/-- `MB_CTL` [31:24]: Records lost to a full queue; saturates at FFh; cleared by `EVENT_CFG` -/
def R.MB_CTL.EVT_LOST (m : Nat) : Fld := ⟨0x200 + 4 * m, 24, 8, .ro, 0x0⟩
/-- `THERM_CFG` [11:0]: `T_LIMIT` in 1/16 °C, 960–1,680 (60–105 °C); 100 °C at reset -/
def R.THERM_CFG.T_LIMIT : Fld := ⟨0x700, 0, 12, .rw, 0x640⟩
/-- `THERM_CFG` [24:12]: Grace time in ms, 10–5,000 -/
def R.THERM_CFG.GRACE_MS : Fld := ⟨0x700, 12, 13, .rw, 0xFA⟩
/-- `THERM_CFG` [28:25]: Lowest P, 4–15 -/
def R.THERM_CFG.FLOOR : Fld := ⟨0x700, 25, 4, .rw, 0x4⟩
/-- `THERM_CFG` [29]: By R543 -/
def R.THERM_CFG.THERM_IE : Fld := ⟨0x700, 29, 1, .rw, 0x0⟩
/-- `THERM_STAT` [1:0]: 00b Normal; 01b Request; 10b Limit; 11b Trip -/
def R.THERM_STAT.STATE : Fld := ⟨0x704, 0, 2, .ro, 0x0⟩
/-- `THERM_STAT` [7:3]: P in force on sheddable nets -/
def R.THERM_STAT.P : Fld := ⟨0x704, 3, 5, .ro, 0x10⟩
/-- `THERM_STAT` [8]: Set by R537 -/
def R.THERM_STAT.THERM_REQ : Fld := ⟨0x704, 8, 1, .w1c, 0x0⟩
/-- `THERM_STAT` [9]: Set by R541 -/
def R.THERM_STAT.TRIP : Fld := ⟨0x704, 9, 1, .w1c, 0x0⟩
/-- `THERM_STAT` [10]: Set by R535 -/
def R.THERM_STAT.SENS_FAIL : Fld := ⟨0x704, 10, 1, .w1c, 0x0⟩
/-- `THERM_STAT` [11]: Set by R536 -/
def R.THERM_STAT.SENS_LOST : Fld := ⟨0x704, 11, 1, .w1c, 0x0⟩
/-- `THERM_STAT` [12]: A `THERM_CFG` write was refused -/
def R.THERM_STAT.CFG_REJ : Fld := ⟨0x704, 12, 1, .w1c, 0x0⟩
/-- `THERM_STAT` [22:16]: Sensor giving TMAX, 0–95 -/
def R.THERM_STAT.HOT : Fld := ⟨0x704, 16, 7, .ro, 0x0⟩
/-- `THERM_TEMP` [15:0]: TMAX of the last round, signed, 1/16 °C -/
def R.THERM_TEMP.TMAX : Fld := ⟨0x708, 0, 16, .ro, 0x0⟩
/-- `THERM_TEMP` [31:16]: Highest TMAX since Boot or `THERM_PEAK_CLR`, signed, 1/16 °C; `THERM_PEAK_CLR` sets it to the TMAX of the last round, and each later round may raise it -/
def R.THERM_TEMP.TPEAK : Fld := ⟨0x708, 16, 16, .ro, 0x0⟩
/-- `PWR_STAT` [13:0]: Bit i = rail i of Table 18-1 present -/
def R.PWR_STAT.RAIL_OK : Fld := ⟨0x70C, 0, 14, .ro, 0x1⟩
/-- `LIFE_USED` [31:0]: Life used by R544, ppm -/
def R.LIFE_USED.PPM : Fld := ⟨0x710, 0, 32, .ro, 0x0⟩
/-- `VERT_STAT` [15:0]: Remaps since Boot by R548; saturates at FFFFh -/
def R.VERT_STAT.REMAPS : Fld := ⟨0x714, 0, 16, .ro, 0x0⟩
/-- `VERT_STAT` [23:16]: Groups fenced since Boot; saturates at FFh -/
def R.VERT_STAT.FENCED : Fld := ⟨0x714, 16, 8, .ro, 0x0⟩
/-- `VERT_STAT` [24]: By R543 -/
def R.VERT_STAT.VERT_IE : Fld := ⟨0x714, 24, 1, .rw, 0x0⟩
/-- `VERT_STAT` [25]: Set at each remap or fence -/
def R.VERT_STAT.VERT_NEW : Fld := ⟨0x714, 25, 1, .w1c, 0x0⟩
/-- `VERT_LAST` [31:0]: Vertical group address of the last fence, by Table 1-6 -/
def R.VERT_LAST.ADDR : Fld := ⟨0x718, 0, 32, .ro, 0x0⟩
/-- `TEST_STAT` [3:0]: Slice running; Fh = none -/
def R.TEST_STAT.SLICE : Fld := ⟨0x900, 0, 4, .ro, 0xF⟩
/-- `TEST_STAT` [4]: 1 = a Test or in-service run is in progress -/
def R.TEST_STAT.RUNNING : Fld := ⟨0x900, 4, 1, .ro, 0x0⟩
/-- `TEST_STAT` [5]: Set at the end of each slice -/
def R.TEST_STAT.SLICE_DONE : Fld := ⟨0x900, 5, 1, .w1c, 0x0⟩
/-- `TEST_STAT` [6]: 1 = `SLICE_DONE` sets `INT_SUM.I_TEST` -/
def R.TEST_STAT.TEST_IE : Fld := ⟨0x900, 6, 1, .rw, 0x0⟩
/-- `TEST_STAT` [7]: 1 = unrepairable entries not fenced -/
def R.TEST_STAT.UNREP : Fld := ⟨0x900, 7, 1, .ro, 0x0⟩
/-- `TEST_STAT` [8]: 0 Safe; 1 Fence -/
def R.TEST_STAT.POLICY : Fld := ⟨0x900, 8, 1, .ro, 0x0⟩
/-- `TEST_STAT` [9]: Set by R565 -/
def R.TEST_STAT.QUICK_FAIL : Fld := ⟨0x900, 9, 1, .ro, 0x0⟩
/-- `TEST_STAT` [10]: Set by R565 -/
def R.TEST_STAT.QUICK_INC : Fld := ⟨0x900, 10, 1, .ro, 0x0⟩
/-- `TEST_STAT` [31:16]: Remaining budget of the running slice; saturates at FFFFh -/
def R.TEST_STAT.REMAIN_MS : Fld := ⟨0x900, 16, 16, .ro, 0x0⟩
/-- `SLICE_RES` [2:0]: 000b Not run; 001b Pass; 010b Repaired; 011b Failed; 100b `INCOMPLETE` -/
def R.SLICE_RES.RESULT (s : Nat) : Fld := ⟨0x940 + 4 * s, 0, 3, .ro, 0x0⟩
/-- `SLICE_RES` [3]: By R554 -/
def R.SLICE_RES.LATE (s : Nat) : Fld := ⟨0x940 + 4 * s, 3, 1, .ro, 0x0⟩
/-- `SLICE_RES` [4]: 1 = result of `TEST_RUN` -/
def R.SLICE_RES.IN_SERVICE (s : Nat) : Fld := ⟨0x940 + 4 * s, 4, 1, .ro, 0x0⟩
/-- `SLICE_RES` [15:5]: Failures; saturates at 7FFh -/
def R.SLICE_RES.FAILS (s : Nat) : Fld := ⟨0x940 + 4 * s, 5, 11, .ro, 0x0⟩
/-- `SLICE_RES` [31:16]: Slice time in ms -/
def R.SLICE_RES.ELAPSED_MS (s : Nat) : Fld := ⟨0x940 + 4 * s, 16, 16, .ro, 0x0⟩
/-- `FUSE_LEFT` [8:0]: Free fuse entries, 0–285 -/
def R.FUSE_LEFT.FREE : Fld := ⟨0x980, 0, 9, .ro, 0x0⟩
/-- `FUSE_LEFT` [21:9]: Soft entries in use, 0–4,096 -/
def R.FUSE_LEFT.SOFT : Fld := ⟨0x980, 9, 13, .ro, 0x0⟩
/-- `FUSE_LEFT` [22]: Set by R561 -/
def R.FUSE_LEFT.SOFT_FULL : Fld := ⟨0x980, 22, 1, .ro, 0x0⟩
/-- `RST_FUNC[i]` (R515): bit j holds function 32i + j in reset. -/
def R.RST_FUNC.HOLD (i : Nat) : Fld := ⟨0x10 + 4 * i, 0, 32, .rw, 0⟩
/-- `RST_ACT[i]` (R515): bit j is 1 while the function is actually held. -/
def R.RST_ACT.ACT (i : Nat) : Fld := ⟨0x80 + 4 * i, 0, 32, .ro, 0⟩

/-- A group of cards of one layout: `size` bytes from `base`, one card every `unit` bytes. -/
structure Card where
  base : Nat
  size : Nat
  unit : Nat
  fields : Nat → List Fld

/-- Part of the card table. -/
def cardsPart0 : List Card :=
  [
    ⟨0x4, 4, 4, fun _ => [R.DEV_MODE.MODE, R.DEV_MODE.PREV_MODE, R.DEV_MODE.COND_TWIN, R.DEV_MODE.COND_REBLOCK, R.DEV_MODE.COND_LIMIT, R.DEV_MODE.TWIN_ALONE, R.DEV_MODE.SAFE_CAUSE, R.DEV_MODE.STBY_FAULT, R.DEV_MODE.MODE_CHG, R.DEV_MODE.MODE_IE, R.DEV_MODE.WAKE]⟩,
    ⟨0x8, 4, 4, fun _ => [R.STRAP_LATCH.BOOT, R.STRAP_LATCH.FIRST, R.STRAP_LATCH.PULL, R.STRAP_LATCH.MCLK_SRC, R.STRAP_LATCH.TWIN, R.STRAP_LATCH.FELT, R.STRAP_LATCH.SAFE, R.STRAP_LATCH.FCB_EN, R.STRAP_LATCH.JTAGSEL, R.STRAP_LATCH.STRAP_ERR]⟩,
    ⟨0x48, 4, 4, fun _ => [R.CLK_LOCK.LOCK]⟩,
    ⟨0x4C, 4, 4, fun _ => [R.CLK_LOST.LOST, R.CLK_LOST.LOST_IE]⟩,
    ⟨0x50, 4, 4, fun _ => [R.MCLK_STAT.SRC, R.MCLK_STAT.PRESENT, R.MCLK_STAT.HOLD, R.MCLK_STAT.LOSS, R.MCLK_STAT.RELOCK, R.MCLK_STAT.STEP, R.MCLK_STAT.MCLK_IE, R.MCLK_STAT.FREQ_KHZ]⟩,
    ⟨0x40, 4, 4, fun _ => [R.TICK_LO.TICK_L]⟩,
    ⟨0x44, 4, 4, fun _ => [R.TICK_HI.TICK_H, R.TICK_HI.SNAP_HOLD, R.TICK_HI.VALID]⟩,
    ⟨0x54, 4, 4, fun _ => [R.XING_OVR.OVR_REGION, R.XING_OVR.OVR_LANE, R.XING_OVR.OVR_CACHE, R.XING_OVR.OVR_BULK, R.XING_OVR.OVR_NOC, R.XING_OVR.OVR_IO, R.XING_OVR.OVR_HKP, R.XING_OVR.OVR_CFG, R.XING_OVR.OVR_MGT, R.XING_OVR.LATE_ANY]⟩,
    ⟨0xA00000, 6144, 4, fun k => [R.PIN_CFG.STD k, R.PIN_CFG.DIR k, R.PIN_CFG.PULL k, R.PIN_CFG.SLEW k, R.PIN_CFG.DRIVE k, R.PIN_CFG.TERM k, R.PIN_CFG.IDELAY k, R.PIN_CFG.SAFE k]⟩,
    ⟨0xA02000, 6144, 4, fun k => [R.TDC_CFG.EN k, R.TDC_CFG.EDGE k, R.TDC_CFG.CAL_AUTO k, R.TDC_CFG.CAL_REQ k, R.TDC_CFG.ON_SPARE k, R.TDC_CFG.CORE_FAIL k, R.TDC_CFG.LOSS k, R.TDC_CFG.P_FINE k, R.TDC_CFG.P_COARSE k, R.TDC_CFG.P_WIDTH k]⟩,
    ⟨0xA04000, 6144, 4, fun k => [R.TDC_LOST.LOST k]⟩,
    ⟨0xA06000, 128, 4, fun k => [R.BANK_CTL.VIO_OK k, R.BANK_CTL.VIO_MISMATCH k, R.BANK_CTL.VIO_LOSS k, R.BANK_CTL.PORT_RESYNC k, R.BANK_CTL.STREAM_FULL k, R.BANK_CTL.SPARE_BUSY k, R.BANK_CTL.SPARE_GONE k, R.BANK_CTL.VIO_DECL k, R.BANK_CTL.WMARK_PER k]⟩ ]

/-- Part of the card table. -/
def cardsPart1 : List Card :=
  [
    ⟨0xB00000, 64, 4, fun k => [R.DAC_CODE.CODE k, R.DAC_CODE.DRIVEN k]⟩,
    ⟨0xB00040, 4, 4, fun _ => [R.DAC_STAT.COLLIDE]⟩,
    ⟨0xB00400, 768, 4, fun k => [R.HKP_RES.VALUE k, R.HKP_RES.VALID k, R.HKP_RES.OVR k, R.HKP_RES.ROUND k]⟩,
    ⟨0x100000, 8192, 4, fun k => [R.RCN_CFG.SRC_A k, R.RCN_CFG.SRC_B k, R.RCN_CFG.SW_EN k, R.RCN_CFG.CE_EN k, R.RCN_CFG.SHEDDABLE k, R.RCN_CFG.SHED_PASS k, R.RCN_CFG.ACT_SRC k, R.RCN_CFG.RUNNING k, R.RCN_CFG.SRC_LOST k, R.RCN_CFG.SW_DEAD k]⟩,
    ⟨0x102000, 4, 4, fun _ => [R.FAB_CTL.GSR_HELD, R.FAB_CTL.WIRE_FROZEN, R.FAB_CTL.CLK_IE, R.FAB_CTL.CLK_ANY]⟩,
    ⟨0x102004, 4, 4, fun _ => [R.PIL_STAT.PIL_CONT, R.PIL_STAT.PIL_IE, R.PIL_STAT.PIL_ACTIVE, R.PIL_STAT.PIL_COUNT]⟩,
    ⟨0x102008, 4, 4, fun _ => [R.PIL_LAST.ADDR]⟩,
    ⟨0x102200, 512, 4, fun k => [R.BORDER_STAT.HOLDING k, R.BORDER_STAT.CAUSE k, R.BORDER_STAT.FENCED k]⟩,
    ⟨0x102100, 96, 4, fun k => [R.SEAM_CFG.SEAM_CLK k, R.SEAM_CFG.RUNNING k, R.SEAM_CFG.FENCED k, R.SEAM_CFG.CLK_LOST k, R.SEAM_CFG.FENCE_CNT k]⟩,
    ⟨0x200000, 49152, 4, fun k => [R.BM_STAT.CODE k, R.BM_STAT.PLANES k, R.BM_STAT.CLR_BUSY k, R.BM_STAT.CLR k, R.BM_STAT.COR k, R.BM_STAT.UNC k, R.BM_STAT.COLL k, R.BM_STAT.COR_CNT k, R.BM_STAT.UNC_CNT k]⟩,
    ⟨0x20C000, 2560, 4, fun k => [R.AB_FLAG.FLAG (k / 5) (k % 5)]⟩,
    ⟨0x300000, 512, 4, fun k => [R.CTX_CFG.CTX_NET k, R.CTX_CFG.PORT_EN k, R.CTX_CFG.ROT_EN k, R.CTX_CFG.ROT_LEN k, R.CTX_CFG.ROT_ORDER k, R.CTX_CFG.SWAP_IE k]⟩ ]

/-- Part of the card table. -/
def cardsPart2 : List Card :=
  [
    ⟨0x300200, 512, 4, fun k => [R.CTX_STAT.ACTIVE k, R.CTX_STAT.PS0 k, R.CTX_STAT.PS1 k, R.CTX_STAT.PS2 k, R.CTX_STAT.PS3 k, R.CTX_STAT.ROTATING k, R.CTX_STAT.CLAIMED k, R.CTX_STAT.OW_FAIL k, R.CTX_STAT.NACK k, R.CTX_STAT.REASON k, R.CTX_STAT.SWAP_CNT k]⟩,
    ⟨0x301000, 1024, 4, fun k => (List.range 8).flatMap fun i => [R.SWAP_TGT.PLANE (k / 16) (k % 16) i, R.SWAP_TGT.MEMBER (k / 16) (k % 16) i]⟩,
    ⟨0x301400, 64, 4, fun k => [R.SWAP_CTL.ATOMIC k, R.SWAP_CTL.ARMED k, R.SWAP_CTL.FIRED k, R.SWAP_CTL.FAILED k, R.SWAP_CTL.WR_DROP k, R.SWAP_CTL.FAIL_CNT k]⟩,
    ⟨0x300400, 512, 4, fun k => [R.CAP_STAT.FULL k, R.CAP_STAT.PLANE k, R.CAP_STAT.SHADOW k, R.CAP_STAT.AT_SWAP k, R.CAP_STAT.REFUSED k, R.CAP_STAT.TICK_L k]⟩,
    ⟨0x400000, 1024, 4, fun k => [R.BANK_CFG.CODE k, R.BANK_CFG.PAGE_T k, R.BANK_CFG.PWR k, R.BANK_CFG.NOC_ACC k, R.BANK_CFG.TWIN k, R.BANK_CFG.CMODE k, R.BANK_CFG.LAND k, R.BANK_CFG.OFFLINE k]⟩,
    ⟨0x400400, 1024, 4, fun k => [R.BANK_OWN.OWNER k, R.BANK_OWN.NEXT k, R.BANK_OWN.ARM k, R.BANK_OWN.GO k, R.BANK_OWN.PEND k, R.BANK_OWN.HANDED k, R.BANK_OWN.REFUSED k]⟩,
    ⟨0x400800, 1024, 4, fun k => [R.BANK_STAT.COR k, R.BANK_STAT.UNC k, R.BANK_STAT.BUSY k, R.BANK_STAT.NOT_OWN k, R.BANK_STAT.CLR_BUSY k, R.BANK_STAT.CLR k, R.BANK_STAT.SPARES k, R.BANK_STAT.COR_CNT k, R.BANK_STAT.UNC_CNT k]⟩,
    ⟨0x400C00, 64, 4, fun k => [R.NOC_WIN.DEVICE k, R.NOC_WIN.ENDPOINT k]⟩,
    ⟨0x401000, 1024, 4, fun k => [R.SPILL_STAT.PTR k, R.SPILL_STAT.EN k, R.SPILL_STAT.OVERRUN k, R.SPILL_STAT.MARK k]⟩,
    ⟨0x401400, 16, 4, fun k => [R.CMODE_CFG.EN k, R.CMODE_CFG.FLUSHING k, R.CMODE_CFG.GROUP k, R.CMODE_CFG.WAY_LOST k, R.CMODE_CFG.BASE_SEG k, R.CMODE_CFG.SEG_CNT k]⟩,
    ⟨0x600000, 4, 4, fun _ => [R.SPLIT_CTL.KIND, R.SPLIT_CTL.OP, R.SPLIT_CTL.GO, R.SPLIT_CTL.DENIED]⟩,
    ⟨0x600008, 8, 8, fun _ => [R.SPLIT_ADDR.UNIT]⟩ ]

/-- Part of the card table. -/
def cardsPart3 : List Card :=
  [
    ⟨0x600100, 2112, 4, fun k => [R.SPLIT_BUF.DATA k]⟩,
    ⟨0x500000, 192, 4, fun k => [R.SEG_CFG.T k, R.SEG_CFG.ACC k, R.SEG_CFG.CLR_BUSY k, R.SEG_CFG.CLR k, R.SEG_CFG.CACHED k, R.SEG_CFG.SPILL k, R.SEG_CFG.PART k, R.SEG_CFG.COR k, R.SEG_CFG.UNC k, R.SEG_CFG.MISDIR k, R.SEG_CFG.COR_CNT k, R.SEG_CFG.UNC_CNT k]⟩,
    ⟨0x500100, 8, 4, fun k => [R.BULK_STAT.READY k, R.BULK_STAT.SELFREF k, R.BULK_STAT.HOT_REF k, R.BULK_STAT.PG_BUSY k, R.BULK_STAT.TEMP k]⟩,
    ⟨0x700000, 384, 4, fun k => [R.LANE_CFG.EN k, R.LANE_CFG.PROTO k, R.LANE_CFG.KDIV k, R.LANE_CFG.TX_POL k, R.LANE_CFG.RX_POL_AUTO k, R.LANE_CFG.FL_EN k, R.LANE_CFG.AUTO_ALIGN k, R.LANE_CFG.AUTO_RETRAIN k, R.LANE_CFG.WAKE_TX k, R.LANE_CFG.ADAPT k, R.LANE_CFG.LANE_IE k]⟩,
    ⟨0x700200, 384, 4, fun k => [R.LANE_STAT.STATE k, R.LANE_STAT.CDR_LOCK k, R.LANE_STAT.BLK_LOCK k, R.LANE_STAT.RX_INV k, R.LANE_STAT.FROZEN k, R.LANE_STAT.HDR_OFS k, R.LANE_STAT.FL_OK k, R.LANE_STAT.REASON k, R.LANE_STAT.DOWN k, R.LANE_STAT.FL_SLIP k, R.LANE_STAT.LATE k, R.LANE_STAT.WOKE k, R.LANE_STAT.DOWN_CNT k]⟩,
    ⟨0x700400, 384, 4, fun k => [R.LANE_EQ.TX_PRE k, R.LANE_EQ.TX_POST k, R.LANE_EQ.TX_MAIN k, R.LANE_EQ.PRE_PRESET k, R.LANE_EQ.POST_PRESET k, R.LANE_EQ.CTLE k]⟩,
    ⟨0x700600, 1536, 4, fun k => if k % 4 = 3 then [] else (List.range 4).map (R.LANE_DFE.TAP (k / 4) (k % 4))⟩,
    ⟨0x700C00, 384, 4, fun k => [R.LANE_FL.FL_LAT k, R.LANE_FL.L_MEAS k]⟩,
    ⟨0x700E00, 384, 4, fun k => [R.LANE_FLS.FILL k, R.LANE_FLS.ARR_SPREAD k]⟩,
    ⟨0x701000, 768, 4, fun k => if k % 2 = 0 then [R.LANE_ERR.ERR_CNT (k / 2)] else [R.LANE_ERR.BIT_CNT (k / 2), R.LANE_ERR.PRBS_LOCK (k / 2)]⟩,
    ⟨0x701400, 96, 4, fun k => [R.QUAD_STAT.GANG k, R.QUAD_STAT.REVERSED k, R.QUAD_STAT.ORDER_ERR k]⟩,
    ⟨0x800000, 384, 4, fun k => [R.LINK_CFG.BW k, R.LINK_CFG.TRIG_SLOTS k, R.LINK_CFG.MK_DIV k, R.LINK_CFG.TLINK k, R.LINK_CFG.MGMT_EN k, R.LINK_CFG.DUP_EN k, R.LINK_CFG.DIG_EN k, R.LINK_CFG.LINK_IE k, R.LINK_CFG.ACK_TO k]⟩ ]

/-- Part of the card table. -/
def cardsPart4 : List Card :=
  [
    ⟨0x800200, 384, 4, fun k => [R.LINK_STAT.LINK_UP k, R.LINK_STAT.BLOCKED k, R.LINK_STAT.TICK_MIS k, R.LINK_STAT.PEER_SAFE k, R.LINK_STAT.SKEW_ERR k, R.LINK_STAT.LATE k, R.LINK_STAT.DUP_FULL k, R.LINK_STAT.TRG_ERR k, R.LINK_STAT.BLK_ERR k, R.LINK_STAT.MGMT_ERR k, R.LINK_STAT.REPLAYS k]⟩,
    ⟨0x800400, 2048, 8, fun k => [R.DRT.MATCH k, R.DRT.MASK k, R.DRT.BUNDLE k, R.DRT.VALID k]⟩,
    ⟨0x801000, 4, 4, fun _ => [R.SYNC_STAT.STATE, R.SYNC_STAT.HOPS, R.SYNC_STAT.PARENT, R.SYNC_STAT.MK_ERR, R.SYNC_STAT.PRIO, R.SYNC_STAT.RESID]⟩,
    ⟨0x801004, 4, 4, fun _ => [R.SYNC_CROWN.CROWN]⟩,
    ⟨0x801100, 4, 4, fun _ => [R.TWIN_STAT.ROLE, R.TWIN_STAT.PAIRED, R.TWIN_STAT.DIVERGE, R.TWIN_STAT.LOST, R.TWIN_STAT.POLICY, R.TWIN_STAT.SILENCED, R.TWIN_STAT.PAIR_TO, R.TWIN_STAT.DIV_CNT]⟩,
    ⟨0x801200, 4, 4, fun _ => [R.DEV_ID.ID]⟩,
    ⟨0x900000, 4096, 4, fun k => [R.NI_CFG.TXN_TO k, R.NI_CFG.MAXCLASS k, R.NI_CFG.DHOPS k, R.NI_CFG.SHED k, R.NI_CFG.EN k]⟩,
    ⟨0x901000, 4096, 4, fun k => [R.NI_STAT.TIMEOUT k, R.NI_STAT.LATE k, R.NI_STAT.LATE_DROP k, R.NI_STAT.CLAMP k, R.NI_STAT.TX_ABORT k, R.NI_STAT.RX_STALL k, R.NI_STAT.HELD k, R.NI_STAT.OUTSTANDING k, R.NI_STAT.TO_CNT k]⟩,
    ⟨0x902000, 4, 4, fun _ => [R.RT_ACC.NI, R.RT_ACC.ENTRY, R.RT_ACC.OP, R.RT_ACC.GO, R.RT_ACC.BAD]⟩,
    ⟨0x902004, 12, 4, fun k => if k < 2 then [R.RT_DATA.HOPS k] else [R.RT_DATA.HOPS2, R.RT_DATA.VALID]⟩,
    ⟨0x903000, 640, 4, fun k => [R.RTR_CFG.PEN k, R.RTR_CFG.VC2 k, R.RTR_CFG.APPLY k]⟩,
    ⟨0x903400, 640, 4, fun k => [R.RTR_STAT.PEN_ACT k, R.RTR_STAT.VC2_ACT k, R.RTR_STAT.STATE k, R.RTR_STAT.DRAIN_TO k, R.RTR_STAT.BROKEN_CNT k]⟩ ]

/-- Part of the card table. -/
def cardsPart5 : List Card :=
  [
    ⟨0xC00000, 4, 4, fun _ => [R.CFG_STAT.STATE, R.CFG_STAT.SOURCE, R.CFG_STAT.KIND, R.CFG_STAT.POSITION, R.CFG_STAT.POS_VALID, R.CFG_STAT.FWD, R.CFG_STAT.OVERRUN, R.CFG_STAT.FALLBACK, R.CFG_STAT.LAST_STATUS]⟩,
    ⟨0xC00004, 4, 4, fun _ => [R.CFG_CTL.LOAD_TO, R.CFG_CTL.CFG_IE]⟩,
    ⟨0xC00008, 4, 4, fun _ => [R.CFG_ID.IMAGE_ID]⟩,
    ⟨0xC00010, 4, 4, fun _ => [R.BLK_SEQ.ORDER, R.BLK_SEQ.LOCK_TO]⟩,
    ⟨0xC00014, 8, 8, fun _ => [R.BLK_DLY.D_LOCK, R.BLK_DLY.D_GSR, R.BLK_DLY.D_WREN, R.BLK_DLY.D_OUT]⟩,
    ⟨0xC0001C, 4, 4, fun _ => [R.BLK_STAT.DONE, R.BLK_STAT.CUR, R.BLK_STAT.FILLING, R.BLK_STAT.FAIL]⟩,
    ⟨0x60, 4, 4, fun _ => [R.SEC_PROT.LOCK, R.SEC_PROT.SIG_REQ, R.SEC_PROT.ZK_OK, R.SEC_PROT.BBK_OK, R.SEC_PROT.DIAG_OK, R.SEC_PROT.SLOT0_WR, R.SEC_PROT.JTAG_FULL, R.SEC_PROT.EXPERT_OK, R.SEC_PROT.DBG_READ, R.SEC_PROT.DBG_PLUME, R.SEC_PROT.FK_OK, R.SEC_PROT.SECFUSE_WR, R.SEC_PROT.MIN_SVN, R.SEC_PROT.PK_OK]⟩,
    ⟨0x64, 4, 4, fun _ => [R.SEC_STAT.BBK_VALID, R.SEC_STAT.TAMPERED, R.SEC_STAT.TAMPER_NOW, R.SEC_STAT.VBAT_LOW, R.SEC_STAT.PK_MISMATCH, R.SEC_STAT.PLUME_CUT, R.SEC_STAT.SEC_IE, R.SEC_STAT.AUTH_CNT, R.SEC_STAT.BBK_KCV]⟩,
    ⟨0x100, 64, 4, fun k => [R.PLUME_SEL.REGION k, R.PLUME_SEL.PROBE k, R.PLUME_SEL.EN k, R.PLUME_SEL.STATE k]⟩,
    ⟨0xD00000, 4, 4, fun _ => [R.POUNCE_CTL.EN, R.POUNCE_CTL.MODE, R.POUNCE_CTL.UNC_ACT, R.POUNCE_CTL.LOG_IE]⟩,
    ⟨0xD00004, 4, 4, fun _ => [R.POUNCE_STAT.STATE, R.POUNCE_STAT.PASS, R.POUNCE_STAT.REPQ, R.POUNCE_STAT.ROUNDS]⟩,
    ⟨0xD00100, 512, 4, fun k => [R.POUNCE_CNT.BEN_CNT k, R.POUNCE_CNT.ESS_CNT k, R.POUNCE_CNT.UNC_CNT k]⟩ ]

/-- Part of the card table. -/
def cardsPart6 : List Card :=
  [
    ⟨0xD00400, 4, 4, fun _ => [R.LOG_STAT.ENTRIES, R.LOG_STAT.NEW, R.LOG_STAT.OVF_CNT]⟩,
    ⟨0xD00404, 4, 4, fun _ => [R.ESS_TOTAL.TOTAL]⟩,
    ⟨0x0, 4, 4, fun _ => [R.DEV_TYPE.TYPE, R.DEV_TYPE.REV, R.DEV_TYPE.SPEED, R.DEV_TYPE.TEMP, R.DEV_TYPE.KEY]⟩,
    ⟨0xC, 4, 4, fun _ => [R.DEV_CTL.RESTART, R.DEV_CTL.SAFE, R.DEV_CTL.KEY]⟩,
    ⟨0x68, 4, 4, fun _ => [R.WDOG_STAT.PERIOD_MS, R.WDOG_STAT.EXPIRED, R.WDOG_STAT.LOCKSTEP, R.WDOG_STAT.RESTARTS]⟩,
    ⟨0x30, 4, 4, fun _ => [R.INT_SUM.I_MODE, R.INT_SUM.I_CLK, R.INT_SUM.I_FAB, R.INT_SUM.I_CTX, R.INT_SUM.I_LANE, R.INT_SUM.I_LINK, R.INT_SUM.I_CFG, R.INT_SUM.I_LOG, R.INT_SUM.I_SEC, R.INT_SUM.I_MBOX, R.INT_SUM.I_THERM, R.INT_SUM.I_TEST]⟩,
    ⟨0x6C, 4, 4, fun _ => [R.EXP_PAGE.WINDOW, R.EXP_PAGE.BASE]⟩,
    ⟨0x70, 4, 4, fun _ => [R.EXP_STAT.PEND, R.EXP_STAT.WR_DROP, R.EXP_STAT.DENIED, R.EXP_STAT.BAD_WIN, R.EXP_STAT.PEND_CNT]⟩,
    ⟨0x800, 32, 4, fun k => [R.EXP_UNLK.UNLK k]⟩,
    ⟨0x200, 64, 4, fun k => [R.MB_CTL.STATE k, R.MB_CTL.GO k, R.MB_CTL.DONE k, R.MB_CTL.ABORT k, R.MB_CTL.EVT k, R.MB_CTL.EVT_POP k, R.MB_CTL.COLLIDE k, R.MB_CTL.IE_DONE k, R.MB_CTL.IE_EVT k, R.MB_CTL.EVT_CNT k, R.MB_CTL.EVT_LOST k]⟩,
    ⟨0x700, 4, 4, fun _ => [R.THERM_CFG.T_LIMIT, R.THERM_CFG.GRACE_MS, R.THERM_CFG.FLOOR, R.THERM_CFG.THERM_IE]⟩,
    ⟨0x704, 4, 4, fun _ => [R.THERM_STAT.STATE, R.THERM_STAT.P, R.THERM_STAT.THERM_REQ, R.THERM_STAT.TRIP, R.THERM_STAT.SENS_FAIL, R.THERM_STAT.SENS_LOST, R.THERM_STAT.CFG_REJ, R.THERM_STAT.HOT]⟩ ]

/-- Part of the card table. -/
def cardsPart7 : List Card :=
  [
    ⟨0x708, 4, 4, fun _ => [R.THERM_TEMP.TMAX, R.THERM_TEMP.TPEAK]⟩,
    ⟨0x70C, 4, 4, fun _ => [R.PWR_STAT.RAIL_OK]⟩,
    ⟨0x710, 4, 4, fun _ => [R.LIFE_USED.PPM]⟩,
    ⟨0x714, 4, 4, fun _ => [R.VERT_STAT.REMAPS, R.VERT_STAT.FENCED, R.VERT_STAT.VERT_IE, R.VERT_STAT.VERT_NEW]⟩,
    ⟨0x718, 4, 4, fun _ => [R.VERT_LAST.ADDR]⟩,
    ⟨0x900, 4, 4, fun _ => [R.TEST_STAT.SLICE, R.TEST_STAT.RUNNING, R.TEST_STAT.SLICE_DONE, R.TEST_STAT.TEST_IE, R.TEST_STAT.UNREP, R.TEST_STAT.POLICY, R.TEST_STAT.QUICK_FAIL, R.TEST_STAT.QUICK_INC, R.TEST_STAT.REMAIN_MS]⟩,
    ⟨0x940, 64, 4, fun k => [R.SLICE_RES.RESULT k, R.SLICE_RES.LATE k, R.SLICE_RES.IN_SERVICE k, R.SLICE_RES.FAILS k, R.SLICE_RES.ELAPSED_MS k]⟩,
    ⟨0x980, 4, 4, fun _ => [R.FUSE_LEFT.FREE, R.FUSE_LEFT.SOFT, R.FUSE_LEFT.SOFT_FULL]⟩,
    ⟨0x10, 32, 4, fun k => [R.RST_FUNC.HOLD k]⟩,
    ⟨0x80, 32, 4, fun k => [R.RST_ACT.ACT k]⟩ ]

/-- Every card of the manual. -/
def cards : List Card :=
  cardsPart0 ++ cardsPart1 ++ cardsPart2 ++ cardsPart3 ++ cardsPart4 ++ cardsPart5 ++ cardsPart6 ++ cardsPart7

/-- The fields of the card that holds byte address `a`, and the word (0 low, 1 high) that `a` names in it; none
where no card is assigned. -/
def cardAt (a : Nat) : Option (List Fld × Nat) :=
  (cards.find? fun c => decide (c.base ≤ a ∧ a < c.base + c.size)).map fun c =>
    (c.fields ((a - c.base) / c.unit), (a - c.base) % c.unit / 4)

end Sys2Proof.Machine
end

