-- ==== Sys2Proof/Machine/State.lean ====
section
/-! DEFINITION. The state of the block as plain data: the register store (every field of every card), the internal
state that the chapters give each subsystem, and the queue of waiting commands. `State.reset` is the block in
Standby with VAON present, as the cards give it. -/

namespace Sys2Proof.Machine

/-- Why the block stops. No rule of the manual stops it, so no reason exists (safe: nothing is refused by it). -/
inductive Fault where
deriving DecidableEq, Repr

/-- Why a command has no meaning. -/
inductive Refusal where
  /-- Raised by `exec` for a command whose meaning is not written; safe, because nothing is claimed of it. -/
  | notModelled (mnemonic : String)
deriving DecidableEq, Repr

/-- State in the AON domain and of the board's pins that no card shows ("Operating Modes and Straps"). -/
structure Aon where
  /-- Silicon revision, `DEV_TYPE.REV` (Table 17-3). -/
  revision : Nat
  /-- Speed grade 2 (Table 0-1). -/
  fastGrade : Bool
  /-- Temperature field I (Table 0-1). -/
  tempI : Bool
  /-- Key field B (Table 0-1, R2). -/
  keyB : Bool
  /-- `DEV_SERIAL`, 16 bytes (Table 17-18). -/
  serial : Nat
  /-- Levels at the strap pins, in the order of `STRAP_LATCH` [11:0] (R55). -/
  strapPins : Nat
  /-- Filtered level of `RESET_N` (R39). -/
  resetHigh : Bool
  /-- Causes that arose during the present Safe entry (R46). -/
  safeCauses : List Nat
  /-- `BOOT_READY` raised since the last Boot (R54, R58). -/
  bootReady : Bool
  /-- An image has completed Blocking since the last Boot (R44). -/
  imageDone : Bool
  /-- Quiescent entry in progress before its commit point: 0 Doze, 1 Sleep (R48). -/
  quiesceReq : Option Nat
  /-- Lane state chosen for the present Quiescent: 0 Doze, 1 Sleep (R47). -/
  quiesceSleep : Nat
  /-- A wake source occurred and the wake is not complete (R47). -/
  waking : Bool
  /-- Commands that complete with the wake, by serial number (R47). -/
  wakeCmds : List Nat
  /-- A `MODE_RESTART` (true) or a `MODE_SHUTDOWN` without test (false) has been performed and takes effect once its
  command, by serial number, is answered (R54, R503). (DEDUCED, assumption 22) -/
  exitDue : Option (Nat × Bool)
  /-- The pairing wait at the end of Blocking runs (R42). -/
  pairWait : Bool
  /-- `STAT_TESTDONE` (R59). -/
  testDone : Bool
deriving DecidableEq, Repr

/-- An event record in a mailbox queue (Table 17-14). -/
structure EvRec where
  code : Nat
  hold : Bool
  lost : Bool
  tick : Nat
  eseq : Nat
  args : List Nat
deriving DecidableEq, Repr

/-- The outcome that firmware has reached for a command, before its completion frame is written (R503). -/
structure Outc where
  status : Nat
  late : Bool
  result : List Nat
deriving DecidableEq, Repr

/-- A mailbox (R501–R509), beside its `MB_CTL` card. (DESIGN CHOICE, assumption 12) -/
structure Mbox where
  /-- Bytes 0–127 of the data window. -/
  frame : List Nat
  /-- Bytes 128–255 of the data window. -/
  comp : List Nat
  /-- Path that posted the present frame: 0 FCB, 1 test access port, 2 management channel, 3 NoC. -/
  path : Nat
  /-- The path holds the mailbox until the command's final completion (R504). -/
  held : Bool
  /-- Lane of the management channel, or source device and endpoint of the NoC command. -/
  srcA : Nat
  srcB : Nat
  /-- Posting order (R505). -/
  postSeq : Nat
  /-- Serial number of the command in progress; 0 = none. -/
  serial : Nat
  /-- Code, tag and argument bytes of the command as collected from its frames (R503). -/
  cmd : Nat
  tag : Nat
  total : Nat
  args : List Nat
  /-- What the taken frame asks: 0 nothing, 1 argument frame with MORE, 2 perform, 3 next result frame. -/
  stage : Nat
  /-- The command has been started by its firmware meaning. -/
  started : Bool
  /-- The operation is committed, so an abort no longer cancels it (R507). -/
  committed : Bool
  /-- An abort request has reached firmware (R507). -/
  abortReq : Bool
  outcome : Option Outc
  /-- Result bytes still to be fetched with CONT, and the status that goes with them. -/
  rest : List Nat
  restTotal : Nat
  /-- Timeout in ms; 0 disables it (R506). -/
  timeoutMs : Nat
  /-- Event mask, path and its address (R509). -/
  mask : Nat
  evtPath : Nat
  evtA : Nat
  evtB : Nat
  queue : List EvRec
  eseq : Nat
  lostNext : Bool
deriving DecidableEq, Repr

/-- Mailbox `m` at a Milliner start (R509); the timeout default is R506's. -/
def Mbox.init (m : Nat) : Mbox :=
  { frame := [], comp := [], path := 0, held := false, srcA := 0, srcB := 0, postSeq := 0, serial := 0, cmd := 0,
    tag := 0, total := 0, args := [], stage := 0, started := false, committed := false, abortReq := false,
    outcome := none, rest := [], restTotal := 0, timeoutMs := 10000, mask := if m = 0 then 65535 else 0,
    evtPath := 0, evtA := 0, evtB := 0, queue := [], eseq := 0, lostNext := false }

/-- A command whose mailbox no longer waits for it (R506). (DEDUCED, assumption 165) -/
structure Orphan where
  serial : Nat
  cmd : Nat
  tag : Nat
deriving DecidableEq, Repr

/-- A message of a mailbox for the management channel or a NoC `MSG` (R504): path 2 or 3, its address, the mailbox, a
kind byte and bytes. -/
structure OutMsg where
  path : Nat
  a : Nat
  b : Nat
  box : Nat
  kind : Nat
  bytes : List Nat
deriving DecidableEq, Repr

/-- A firmware copy in the records area (R491). `bytes` are written by offset; `sigOk` = its signature verifies. -/
structure FwCopy where
  valid : Bool
  version : Nat
  length : Nat
  bytes : SMap Nat
deriving DecidableEq, Repr

/-- A calibration record of slot 5 (R520, R522). -/
structure CalRec where
  bytes : List Nat
deriving DecidableEq, Repr

/-- Milliner, the mailboxes, the FCB and the test access port ("Milliner, Mailboxes and the Fast Control Bus"). -/
structure Mgt where
  mbx : SMap Mbox
  nextSerial : Nat
  nextPost : Nat
  orphans : List Orphan
  /-- Milliner runs firmware (or its recovery service). -/
  running : Bool
  /-- The recovery service of R491 serves mailbox 0. -/
  recovery : Bool
  /-- Cores stopped by a lockstep mismatch (R492). -/
  lockstop : Bool
  /-- Milliner waits to start: cause 0 Boot, 1 function reset, 2 watchdog. -/
  startDue : Option Nat
  /-- Running copy: 0 A, 1 B. -/
  copy : Nat
  fw : SMap FwCopy
  /-- Expert writes accepted on the bus and not yet delivered, oldest first (R499). -/
  expWrites : List (Nat × Nat)
  /-- Functions 0–255 whose drain is in progress (R515). -/
  draining : List Nat
  /-- Data of the last `FCBACC` read (R519). -/
  fcbRead : Nat
  /-- Current test access port instruction (R518). -/
  tapIr : Nat
  cal : SMap CalRec
  /-- Boot calibration record; 255 = none (R522). -/
  calBoot : Nat
  /-- Messages that firmware has yet to send on the management channel or the NoC, oldest first. -/
  sent : List OutMsg
deriving DecidableEq, Repr

/-- A fence made in service (R549, R550). -/
structure FenceRec where
  addr : Nat
  element : Nat
  tick : Nat
deriving DecidableEq, Repr

/-- A vertical group that has had failures: consecutive disagreements per position, remapped positions with the
spare that each took (R20, R547–R549). -/
structure VGroup where
  bad : SMap Nat
  remapped : List (Nat × Nat)
  fenced : Bool
deriving DecidableEq, Repr

/-- Heat, life and vertical-connection state that no card shows ("Supplies, Heat and Service Life"). -/
structure Therm where
  /-- Consecutive rounds in which a stack sensor was out of range or not valid (R535). -/
  sensBad : SMap Nat
  sensFailed : List Nat
  /-- Highest reading of each die in the last round, in 1/16 °C (Table 18-14). -/
  dieMax : SMap Int
  /-- Thermal settings in force since the last round: `T_LIMIT`, `GRACE_MS`, `FLOOR` (R540). -/
  tLimit : Nat
  graceMs : Nat
  floor : Nat
  /-- Every valid stack sensor of the last round read below `T_LIMIT` − 2 °C (R541). -/
  cool : Bool
  /-- Powered rounds in bins A–D (R544), and those of the last life record. -/
  binA : Nat
  binB : Nat
  binC : Nat
  binD : Nat
  recA : Nat
  recB : Nat
  recC : Nat
  recD : Nat
  lifeWarned : Bool
  /-- Ageing baseline of each die in the life record (R546) and the present slowdown in 0.01 %. -/
  baseline : SMap Int
  slowdown : SMap Int
  ageWarned : Bool
  ageLimited : Bool
  vert : SMap VGroup
  fences : List FenceRec
  /-- Quadrants whose upper unit is off, whose memory unit is off, and whose regions stay fenced after power-on (R532). -/
  upperOff : List Nat
  memOff : List Nat
  powerFence : List Nat
  /-- Repair record entries made in service: group address and position (R548, R550). -/
  repairRec : List (Nat × Nat)
deriving DecidableEq, Repr

/-- Setting of a synthesizer (R63–R66): mode 0 Locked, 1 Free; `wait` = a host change has not relocked (R100);
`bad` = its product lies outside its limits, so it stays unlocked (R66); `trim` = loop trim (Table 17-22). -/
structure Synth where
  mode : Nat
  n : Nat
  d : Nat
  trim : Nat
  wait : Bool
  bad : Bool
deriving DecidableEq, Repr

/-- A handle of the tick schedule (R80, R84): `st` 0 free, 1 pending, 2 fired, 3 missed, 4 due at the boundary that
has begun its tick. -/
structure SchedEnt where
  st : Nat
  tick : Nat
  action : Nat
  target : Nat
  arg : Nat
deriving DecidableEq, Repr

/-- A register write on its way to the register's domain: path, address and value (R496). -/
structure XWrite where
  path : Nat
  addr : Nat
  val : Nat
deriving DecidableEq, Repr

/-- The crossings into one function (R88–R92): the value that a handshake holds until its acknowledge, the one in its
pending slot, the sticky `OVERRUN` and `LATE` flags, and whether a transfer has timed out. (DESIGN CHOICE, assumption
211) -/
structure Xing where
  req : Option XWrite
  pend : Option XWrite
  overrun : Bool
  late : Bool
  timedOut : Bool
deriving DecidableEq, Repr

/-- A crossing that holds nothing. -/
def Xing.init : Xing := { req := none, pend := none, overrun := false, late := false, timedOut := false }

/-- A pulse crossing (R90): in its acknowledge phase, and with a pulse pending. -/
structure PulseX where
  busy : Bool
  pend : Bool
deriving DecidableEq, Repr

/-- Clocks and time ("Machine Clock, Ticks and Clock-Domain Crossings"). -/
structure Clk where
  /-- The 48-bit tick counter, whether it runs, and whether it starts at the next MCLK edge (R74). -/
  tick : Nat
  running : Bool
  startDue : Bool
  /-- The measurement before the last one, and the one taken at the last lock, in kHz (R70, R74). -/
  prevMeas : Option Nat
  lockMeas : Option Nat
  /-- Accepted tick loads that wait: value and boundary tick, oldest first (R78, R100). (DESIGN CHOICE, assumption 41) -/
  loads : List (Nat × Nat)
  sched : SMap SchedEnt
  synth : SMap Synth
  xing : SMap Xing
  /-- Gray FIFOs in pointer resynchronisation (R87), by their number. -/
  resync : List Nat
  /-- Regions whose schedule strobe is high for the present tick (Table 3-8). -/
  strobe : List Nat
  /-- Phase delay of the tick boundary in fs, set by the system alignment (R393). -/
  phase : Int
deriving DecidableEq, Repr

/-- A TDC channel and its pin ("User Pins, Time-to-Digital Converters and Analogue Channels"). -/
structure TdcCh where
  /-- Hits that wait, oldest first: stamp + 2^64 × header (R116). -/
  fifo : List Nat
  lossNext : Bool
  /-- Input delay tap in force (R108). -/
  tap : Nat
  /-- The pulse crossing of `TP_REQ` (R90, R124). -/
  tp : PulseX
  /-- Calibration: 0 idle, 1 queued, 2 connected and waiting for the switch, 3 primary under test, 4 waiting for the
  switch back, 5 done, 6 failed; the switch tick; the tick of the last calibration (R121). -/
  cal : Nat
  switchTick : Nat
  calTick : Nat
  /-- Ticks of the requests, from `TP_REQ` or `TP_ARM`, that have not fired (R124). -/
  armed : List Nat
  /-- The last pulse: tick at whose end it starts, coarse, fine, width. -/
  pulse : Option (Nat × Nat × Nat × Nat)
  /-- Level at the pin since its last edge (R111). -/
  level : Bool
  /-- The primary's bin table before the calibration that now ends (R123). -/
  oldTable : Option (List Nat)
deriving DecidableEq, Repr

/-- A channel at reset. -/
def TdcCh.init : TdcCh :=
  { fifo := [], lossNext := false, tap := 0, tp := ⟨false, false⟩, cal := 0, switchTick := 0, calTick := 0, armed := [],
    pulse := none, level := false, oldTable := none }

/-- An I/O bank. -/
structure IoBank where
  /-- Words in the port FIFO, oldest first, and the word last passed to the design (R112). -/
  port : List Nat
  shown : Option Nat
  /-- Channel that the arbiter served last (R117). -/
  last : Nat
  /-- Tick of the last watermark decision (R118). -/
  wmTick : Option Nat
  /-- Outputs are hi-Z and channels stopped since a loss of VIO (R106). -/
  vioDown : Bool
deriving DecidableEq, Repr

/-- A bank at reset. -/
def IoBank.init : IoBank := { port := [], shown := none, last := 47, wmTick := none, vioDown := false }

/-- A calibration group: the next primary of the rotation (16 = the spare itself), requests that wait, the channel that
the spare serves and whether a request asked for it, and whether the rotation is stopped (R122, R123). -/
structure CalGroup where
  next : Nat
  queue : List Nat
  serving : Option Nat
  byReq : Bool
  stopped : Bool
deriving DecidableEq, Repr

/-- A load of a DAC that has reached the HKP domain: rank (0 schedule, 1 register, 2 command, 3 image), code, command
(R126). -/
structure DacLoad where
  rank : Nat
  code : Nat
  serial : Nat
deriving DecidableEq, Repr

/-- Pins, TDCs, DACs and housekeeping. -/
structure Io where
  ch : SMap TdcCh
  banks : SMap IoBank
  groups : SMap CalGroup
  /-- Bin tables by core (0–1,535 primaries, then bank × 3 + group spares); unlisted = a linear table. -/
  tables : SMap (List Nat)
  loads : SMap (List DacLoad)
  /-- Initial DAC codes of the last Load that gave them, not yet loaded (R125). -/
  initDac : SMap Nat
  /-- Outputs are released (R451), VIO groups present (R102). -/
  released : Bool
  vio : List Nat
  /-- Pin outputs and output enables, by border address, that were 1 at the last edge of the fabric clocks before Quiescent or
  Safe (R109, Table 4-3). -/
  pinHold : List Nat
  /-- DACs that have been loaded since Boot (R125). -/
  dacOn : List Nat
  hkpMask : Nat
  round : Nat
  /-- Gain and offset trim of each DAC as a calibration record holds them (Table 17-22). -/
  dacTrim : SMap Nat
  /-- Cores whose calibration step ends with an imported table (R521). -/
  tableKept : List Nat
deriving DecidableEq, Repr

/-- The stop gate of a region clock net (R159): open or closed, and the source edges seen since a change was asked. -/
structure Gate where
  isOpen : Bool
  edges : Nat
deriving DecidableEq, Repr

/-- Fabric clocking, seams and pillars ("Cells, Clusters and Fabric Clocking", "Routing in Three Dimensions and Region
Borders"). Nets are numbered region × 16 + net. -/
structure Fab where
  /-- The fabric clocks are asked to run (Table 5-11). -/
  clocksOn : Bool
  /-- Writes of the design are enabled (R450). -/
  writes : Bool
  gate : SMap Gate
  /-- Edges until a released set/reset leaves a net: 3 before c0, 1 before c2 (Table 5-8). -/
  rel : SMap Nat
  /-- Phase counters of the shed gates (R155). -/
  phase : SMap Nat
  /-- Nets whose sampled enable is 0 (R152), whose source is lost (R153), and whose source is switching since a swap or
  a reload (R235). -/
  ceLow : List Nat
  lost : List Nat
  switching : List Nat
  /-- Edges that an unrelated net still suppresses after c1, by net × 2, + 1 for falling edges (Table 8-3). -/
  skip : SMap Nat
  /-- Nets whose last rising edge was passed, so that their falling edge follows. -/
  high : List Nat
  /-- Nets whose last edge reached the flip-flops and hard blocks of their region, as net × 2, + 1 for a falling edge
  (R150, R196, R215). -/
  acts : List Nat
  /-- Present outputs of the regions that are 1, by border address (R177, R184, R191). -/
  out : SMap Nat
  /-- Outputs that were 1 just before the edge at which the present border causes of their region began, and in rotation
  the values that the planes drove at the ends of their cycles (R178, R182, R249). -/
  hold : SMap Nat
  /-- Border policies of the plane active when a reload committed (256 + region) or a fence began (512 + region)
  (Table 6-7). -/
  policy : SMap (SMap Nat)
  /-- What the drivers of each pillar are given, by pillar address: enables, then values, LL before LU (R173). -/
  pil : SMap Nat
  /-- Live flip-flops by region × 200,704 + index, value 0 or 1; an unlisted one holds the `INIT` of the active plane. -/
  ff : SMap Nat
  /-- Seam registers: (port × 8,192 + signal) × 4 + stage (R187); unlisted = 0. -/
  seam : SMap Nat
  /-- Seam signals fenced, by border address, and ports whose tree is lost or stopped (R192, R193). -/
  seamFenced : List Nat
  seamLost : List Nat
  /-- Pillars whose drivers the arbiter holds off, by pillar address (R174). -/
  pillarOff : List Nat
  /-- Lanes whose trigger channel a fence has cut, and banks whose hit streams it has cut (Table 18-6). -/
  cutLanes : List Nat
  cutHits : List Nat
deriving DecidableEq, Repr

/-- The registers of one block-memory port (R200): the last read result, and the output with its flags. -/
structure BmPort where
  rDout : Nat
  rUnwr : Bool
  rCor : Bool
  rUnc : Bool
  rColl : Bool
  dout : Nat
  unwr : Bool
  cor : Bool
  unc : Bool
  coll : Bool
deriving DecidableEq, Repr

/-- A port register that reads 0 with all flags 0 (R211). -/
def BmPort.zero : BmPort := ⟨0, false, false, false, false, 0, false, false, false, false⟩

/-- The registers of an arithmetic block (Tables 7-5 and 7-6): input registers as one record of bits, the operand after
the pre-adder with its `PRE_SAT`, the product, `P` and `OVF`. -/
structure AbReg where
  a : BitVec 24
  d : BitVec 24
  b : BitVec 24
  c : BitVec 48
  preSub : Bool
  neg : Bool
  zsel : Nat
  opnd : BitVec 24
  preSat : Bool
  m : BitVec 48
  p : BitVec 64
  ovf : Bool
deriving DecidableEq, Repr

/-- Cleared registers. -/
def AbReg.zero : AbReg := ⟨0, 0, 0, 0, false, false, 0, 0, false, 0, 0, false⟩

/-- Block memories and arithmetic blocks ("Block Memories and Arithmetic Blocks"). -/
structure Bm where
  /-- Rows whose valid bit is 1: BM × 1,024 + row, with the four data lanes packed at their code's width. -/
  rows : SMap Nat
  /-- Lanes stored by a raw write (R328): (BM × 1,024 + row) × 4 + lane, with 13 stored bits. -/
  inj : SMap Nat
  /-- Ports: BM × 2 + port. -/
  ports : SMap BmPort
  /-- Arithmetic blocks: region × 160 + AB. -/
  ab : SMap AbReg
deriving DecidableEq, Repr

/-- A plane of a region (R224, R437, R468). `bad` = stored bits in error that pounce has not corrected, by frame. -/
structure Plane where
  frames : SMap Nat
  essmap : SMap Nat
  /-- BM codes of `PLANE_INFO`, two bits each, and whether the record was taken. -/
  codes : Nat
  info : Bool
  critical : Bool
  /-- Border policies by border address; unlisted = hold-last (R178). -/
  border : SMap Nat
  /-- State shadow: value of each flip-flop saved; an unlisted one holds `INIT` (R141). -/
  shadow : SMap Nat
  prot : Bool
  source : Option (Nat × Nat)
  imageId : Nat
  bad : SMap (List Nat)
  /-- Frames whose map word fails its parity (R479). -/
  mapBad : List Nat
  /-- Frames whose repair failed: not repaired again without `CFG_REPAIR` (R482). -/
  noRetry : List Nat
  /-- Settings [9:0] of the region clock nets, and `PORT_EN`, under this plane (R235). -/
  nets : List Nat
  portEn : Bool
deriving DecidableEq, Repr

/-- An empty plane: every BM unused. -/
def Plane.empty : Plane :=
  { frames := [], essmap := [], codes := 2 ^ 192 - 1, info := false, critical := false, border := [], shadow := [],
    prot := false, source := none, imageId := 0, bad := [], mapBad := [], noRetry := [], nets := [], portEn := false }

/-- The capture buffer of a region (R251): `ffs` lists flip-flops, the others hold the `INIT` of the frames `base`. -/
structure Capture where
  plane : Nat
  isShadow : Bool
  atSwap : Bool
  tick : Nat
  prot : Bool
  imageId : Nat
  base : SMap Nat
  ffs : SMap Nat
deriving DecidableEq, Repr

/-- The context machinery of a region ("Contexts, Hoods and the One-Cycle Swap"). -/
structure CtxR where
  /-- A host request that waits for an edge: command and target (R240). -/
  host : Option (Nat × Nat)
  /-- Set members that wait for their edge: set, target, tick (R242). -/
  sets : List (Nat × Nat × Nat)
  /-- Between c0 and c1 of a swap, and the plane swapped from (R583). -/
  inSwap : Bool
  swapFrom : Nat
  /-- `CTX_NACK` and `CAP_DONE` as the last edge left them (Table 8-4). -/
  nack : Bool
  capDone : Bool
  /-- The last edge of the context clock left the shed gate, and no swap or rotation has used it (R229); and 1 where the
  swap cycle ended before its edge c1, 2 at c1 (R583). -/
  edge : Bool
  c1 : Nat
  /-- `PORT_EN` of the plane swapped from (R252). -/
  portWas : Bool
  /-- Plane-state changes that wait for a context-clock edge: plane, new state and command (R229). -/
  due : List (Nat × Nat × Nat)
  /-- Rotation: position in the order, final plane asked for with whether a round has begun since, and the tick at which an
  armed start is due; 0 = at the next edge (R248, R250). -/
  rotPos : Nat
  rotStop : Option (Nat × Bool)
  rotStart : Option Nat
  /-- A plane claimed by a load or a repair, and a claim that waits for an edge (R227). -/
  claim : Option Nat
  claimReq : Option Nat
  /-- A `CTX_CAPTURE` of the active plane that waits for an edge (R251). -/
  capReq : Option Nat
  cap : Option Capture
  /-- Overwrite-active reload: 0 none, 1 landing, 2 authenticated, 3 copying, 4 copy failed, 5 copied (Table 8-6). -/
  ow : Nat
  owPlane : Nat
  /-- Border cause 011b: 0 none, 1 begins at the next context edge, 2 holds (Table 6-7). -/
  rstCause : Nat
deriving DecidableEq, Repr

/-- A region with nothing in progress. -/
def CtxR.init : CtxR :=
  { host := none, sets := [], inSwap := false, swapFrom := 0, nack := false, capDone := false, edge := false,
    c1 := 0, portWas := false, due := [], rotPos := 0, rotStop := none, rotStart := none, claim := none, claimReq := none, capReq := none, cap := none, ow := 0,
    owPlane := 0, rstCause := 0 }

/-- Planes, by region × 4 + plane, and regions. -/
structure Ctx where
  planes : SMap Plane
  regions : SMap CtxR
  /-- Failures counted at the present firing of each swap set, and members not yet decided (R242). -/
  firing : SMap Nat
deriving DecidableEq, Repr

/-- A request at a region cache port that no bank has performed, with the plane that issued it (R263, R237). -/
structure CpWait where
  op : Nat
  bank : Nat
  row : Nat
  le : Nat
  wdata : Nat
  tag : Nat
  plane : Nat
  /-- A reset of the region has come since the bank accepted it: its response is discarded (R264). -/
  dead : Bool
deriving DecidableEq, Repr

/-- A response of a cache port (R264). -/
structure CpResp where
  tag : Nat
  plane : Nat
  stat : Nat
  data : Nat
deriving DecidableEq, Repr

/-- A cache port of a region: its waiting requests, the requests that a bank holds for a page write, the responses
that wait, and the response last presented. `drop` counts responses to discard after a reset (R264). -/
structure CpPort where
  reqs : List CpWait
  held : Nat
  resps : List CpResp
  shown : Option CpResp
  offline : Bool
deriving DecidableEq, Repr

/-- A full-page write in progress in a page-code bank (R282): the requester (region, or 1024 + 4096 × source device + source endpoint), the page, the
rows so far, and the requests that answer with it. -/
structure PageSeq where
  src : Nat
  page : Nat
  rows : List Nat
  tags : List (Nat × Nat)
  pkts : List Pkt
deriving DecidableEq, Repr

/-- A cache bank ("The Shared Cache Tier"). -/
structure Bank where
  /-- The free-running cycle counter (R276). -/
  cyc : Nat
  /-- Ports (region) and agent-slice endpoints whose request at the front the bank has accepted and not yet performed (R272,
  R288). -/
  acc : List Nat
  /-- A `GO` on its way to the bank, and the handover's source: 0 none, 1 host, 2 release (R272, R273). -/
  goDue : Bool
  /-- Power change in progress: its target (R288). -/
  pwrTo : Option Nat
  /-- Power state before Quiescent (R289). -/
  pwrWas : Nat
  seq : Option PageSeq
  /-- The page that the page buffer holds (R281). -/
  buf : Option Nat
  /-- Spill ring: base, size in 2 KiB units, write position in bytes (R290). -/
  ringBase : Nat
  ringSize : Nat
  ringPos : Nat
  /-- Rows marked and not yet copied (R290, R291). -/
  uncopied : Nat
  /-- Spare columns in use (R297). -/
  spares : List Nat
deriving DecidableEq, Repr

/-- A bank at reset. -/
def Bank.init : Bank :=
  { cyc := 0, acc := [], goDue := false, pwrTo := none, pwrWas := 0, seq := none, buf := none,
    ringBase := 0, ringSize := 0, ringPos := 0, uncopied := 0, spares := [] }

/-- The cache-mode group of a die (R292, R293): by set × 16 + way the tag, whether the line is dirty and its last use;
a use counter; ways withdrawn; an access that waits for its line (endpoint). -/
structure CMode where
  tags : SMap (Nat × Bool × Nat)
  uses : Nat
  lostWays : List Nat
deriving DecidableEq, Repr

/-- The shared cache. -/
structure Cache where
  /-- Rows whose valid bit is 1: bank × 16,384 + row, with the 128 data lanes packed at their code's width. -/
  rows : SMap Nat
  /-- Lanes stored by a raw write: (bank × 16,384 + row) × 128 + lane, with 13 stored bits. -/
  inj : SMap Nat
  banks : SMap Bank
  ports : SMap CpPort
  cmode : SMap CMode
  /-- Pairs of dies whose far path is offline, as 4 × lower + higher (R298). -/
  farOff : List Nat
deriving DecidableEq, Repr

/-- A full-page write in progress at a controller (R309): source device and endpoint, page, bytes so far, its
packets. -/
structure BulkSeq where
  srcDev : Nat
  srcEp : Nat
  page : Nat
  bytes : List Nat
  pkts : List Pkt
deriving DecidableEq, Repr

/-- A scrub pass or background scrub (Tables 10-4 and 10-5) of a target 0-6. `unit` = the next unit: bank x 2^14 + row,
device index x 2^10 + row, or page; `first` to `last` are banks, device indices or pages. -/
structure Scrub where
  handle : Nat
  target : Nat
  st : Nat
  first : Nat
  last : Nat
  rowFirst : Nat
  rowLast : Nat
  unit : Nat
  read : Nat
  corrected : Nat
  uncorr : Nat
  unwritten : Nat
  skipped : Nat
  firstFail : Option Nat
  maxCor : Nat
  endTick : Nat
  lastAddr : Nat
  events : Nat
  /-- Background rate in units per ms, and the part of a unit left over from earlier milliseconds, in 16ths. -/
  rate : Nat
  part : Nat
deriving DecidableEq, Repr

/-- The Bulk Store, the scrubber and the split-write window ("Bulk Store, Page Codes and Scrubbing"). -/
structure Bulk where
  /-- Valid pages: stack × 12,189,696 + page, with 2,048 data bytes as one number. -/
  pages : SMap Nat
  /-- Pages stored by a raw write: the 2,112 stored bytes as one number. -/
  inj : SMap Nat
  seqs : SMap BulkSeq
  passes : List Scrub
  bg : SMap Scrub
  /-- Page slots of each controller, modulo 16 (R317). -/
  slot : SMap Nat
deriving DecidableEq, Repr

/-- An eye scan in progress (R365): its points (phase, offset) as the command lists them, and its command. -/
structure EyeScan where
  points : List (Nat × Nat)
  exp : Nat
  serial : Nat
deriving DecidableEq, Repr

/-- Lane state that no card shows ("Serial Lanes"). -/
structure LaneSt where
  /-- Own tap request: sequence number, outstanding, repeats so far (R345). -/
  reqSeq : Nat
  reqPend : Bool
  retries : Nat
  /-- Sequence number of the last far request acted on, and the statuses returned (Table 11-4). -/
  ackSeq : Nat
  stPre : Nat
  stPost : Nat
  /-- Consecutive Train done and Align done blocks received (R346, R352). -/
  trainRx : Nat
  alignRx : Nat
  /-- Align done is being sent (R349, R352). -/
  alignTx : Bool
  /-- The host has sent `LANE_FL_SET` in this Align (R351). -/
  flSet : Bool
  /-- Bit-slips still to make, and the `LANE_SLIP` command that waits for them. -/
  slips : Nat
  slipCmd : Nat
  /-- Fixed latency that the buffer uses (R353). -/
  flUsed : Nat
  /-- Entry to Up decided at the edge of the bring-up timeout (R93). -/
  upLate : Bool
  /-- Receive half: 0 with the transmit half, 7 Doze, 8 Sleep (R358). -/
  rxHalf : Nat
  /-- An exit from Doze or Sleep is in progress (R359). -/
  exiting : Bool
  /-- Bring-up waits for the side domain to relock (R362). -/
  waitClk : Bool
  /-- Test: pattern, inversion, loopback, loopback slip, error-free bits before lock, errors in the window (R363). -/
  pattern : Nat
  invert : Bool
  loop : Nat
  lbSlip : Bool
  clean : Nat
  /-- Registers of the pattern sent and of the checker, and whether each of the last 1,024 bits checked was wrong, newest
  first (R363). -/
  gen : Nat
  chk : Nat
  hist : List Bool
  bits : Nat
  eye : Option EyeScan
  /-- Slicer that the spare takes next, 0–3 (R366). -/
  turn : Nat
  /-- Slicer offsets of data even, data odd, error even, error odd and spare (Table 17-22). -/
  slicer : List Int
  /-- The lane is used for loading (R364). -/
  loading : Bool
  /-- Bring-up time in ms (R342). -/
  upMs : Nat
  /-- Tick alignment lost through `CLK_SET`: every trigger slot presents `EMPTY` (R376). -/
  trgEmpty : Bool
  /-- Own tap requests of the request outstanding: pre-cursor and post-cursor codes (Table 11-4). -/
  reqPre : Nat
  reqPost : Nat
  /-- Bring-up leaves Sleep with kept equaliser values (R359). -/
  kept : Bool
  /-- Scrambler and descrambler: the last 58 line bits sent and received, and the last block sent, as header and line payload
  (R335, R336). -/
  scr : Nat
  dscr : Nat
  line : Option (Nat × Nat)
deriving DecidableEq, Repr

/-- A lane before any bring-up. -/
def LaneSt.init : LaneSt :=
  { reqSeq := 0, reqPend := false, retries := 0, ackSeq := 0, stPre := 0, stPost := 0, trainRx := 0, alignRx := 0,
    alignTx := false, flSet := false, slips := 0, slipCmd := 0, flUsed := 0, upLate := false, rxHalf := 0,
    exiting := false, waitClk := false, pattern := 0, invert := false, loop := 0, lbSlip := false, clean := 0,
    gen := 0, chk := 0, hist := [], bits := 0, eye := none, turn := 0, slicer := [0, 0, 0, 0, 0], loading := false,
    upMs := 500, trgEmpty := false, reqPre := 0, reqPost := 0, kept := false, scr := 0, dscr := 0, line := none }

/-- A `LANE_UP` command that runs: its lanes (R368). -/
structure LaneUp where
  serial : Nat
  mask : Nat
deriving DecidableEq, Repr

/-- The lanes. -/
structure Lane where
  lanes : SMap LaneSt
  ups : List LaneUp
deriving DecidableEq, Repr

/-- The trigger port of a lane as the design sees it (Table 12-2), and the intervals that `TCRC` covers. -/
structure TrgPort where
  rslot : Nat
  rd : Nat
  rv : Bool
  rerr : Bool
  rtick : Nat
  rbad : Bool
  rhold : Bool
  rsafe : Bool
  /-- Payloads of the present interval's slots, received and sent (R373). -/
  rxIv : List Nat
  txIv : List Nat
  /-- A marker is presented at this edge; the slot whose word was sampled last; the payload of the last marker sent (Tables
  12-1 and 12-2). -/
  rmark : Bool
  tslot : Nat
  txMark : Nat
  /-- The last block sent in a slot: 0 none, 1 data, 2 `EMPTY`, 3 `SAFE`; and its word. -/
  txKind : Nat
  txWord : Nat
deriving DecidableEq, Repr

/-- A Spaif bundle, by its first lane ("The Spaif Link and Systems of Many Devices"). -/
structure Bundle where
  /-- Next sequence numbers to send and to receive; a NAK is outstanding (R381). -/
  txSeq : Nat
  rxSeq : Nat
  nakked : Bool
  /-- Replay buffer: packets sent and not acknowledged, oldest first; how many of them wait to be sent again. -/
  replay : List (Nat × Pkt)
  resend : Nat
  /-- Credits held by virtual channel, and credits to return (R380). -/
  credits : List Nat
  giveBack : List Nat
  /-- An acknowledgement, or one with NAK, waits for a stream position. -/
  ackDue : Bool
  nakDue : Bool
  /-- Own epoch and the epochs seen at the last exchange (R383). -/
  epoch : Nat
  farEpoch : Option Nat
  ownAtLast : Nat
  /-- Timing messages that wait: code and fields of Table 12-3. -/
  timing : List (Nat × Nat)
  /-- Management bytes that wait, and frames that were sent. -/
  mgmt : List (List Nat)
  /-- A digest waits: tick [15:0] and value. -/
  digest : Option (Nat × Nat)
  /-- Last block sent in a stream position: 0 none, 1 `TIMING`, 2 `ACK`, 3 `DIGEST`, 4 `MGMT`, 5 packet, 6 `IDLE`,
  7 `SAFE`; and its content. -/
  lastKind : Nat
  lastVal : Nat
  /-- Duplicate suppression: the last 512 sequence numbers by source pair (R401). -/
  dup : SMap (List Nat)
  dupCnt : Nat
  replayTot : Nat
  /-- Last announcement heard, and periods without one (R389, R390). -/
  heard : Option Announce
  silent : Nat
  /-- Far measurement: `L_MEAS` and fine phase; own fine phase; asymmetry in ps (R392). -/
  farMeas : Option (Nat × Nat)
  ownFine : Nat
  asym : Int
  /-- The parent has sent `ALIGNED` with bit 17 = 1 (R393). -/
  aligned : Bool
  /-- `SAFE` blocks were reported for the present Safe entry of the far device (R377). -/
  safeSeen : Bool
  /-- Packets received and accepted, waiting at the entry bridge. -/
  rxPkts : List Pkt
  /-- BASE-R: the last block presented to the design, with the BER monitor state, and the last block sent (R402). -/
  brRx : Option (Nat × Nat × Bool)
  brTx : Option (Nat × Nat)
  /-- Stream blocks sent since the bundle entered Up (R371). -/
  txPos : Nat
  /-- The received stream is held after a skew error until the bundle next enters Up (R371). -/
  skewHold : Bool
deriving DecidableEq, Repr

/-- A bundle before its first `INIT`. -/
def Bundle.init : Bundle :=
  { txSeq := 0, rxSeq := 0, nakked := false, replay := [], resend := 0, credits := [0, 0, 0, 0],
    giveBack := [0, 0, 0, 0], ackDue := false, nakDue := false, epoch := 0, farEpoch := none, ownAtLast := 0,
    timing := [], mgmt := [], digest := none, lastKind := 0, lastVal := 0, dup := [], dupCnt := 0, replayTot := 0,
    heard := none, silent := 0, farMeas := none, ownFine := 0, asym := 0, aligned := false, safeSeen := false,
    rxPkts := [], brRx := none, brTx := none, txPos := 0, skewHold := false }

/-- Links, synchronisation and the Twin pair. -/
structure Link where
  trg : SMap TrgPort
  bundles : SMap Bundle
  /-- Last epoch given out, and the epoch of the present Boot (R383). -/
  epoch : Nat
  bootEpoch : Nat
  /-- Best crown known: priority and device ID; announce periods since it last changed (R389). -/
  crown : Option (Nat × Nat)
  stable : Nat
  /-- An alignment runs: the commands that wait for it, none where it started by itself; and the attempts made (R393). -/
  align : Option (List Nat)
  tries : Nat
  /-- An automatic alignment is still to run after Boot or a relock (R393). -/
  alignDue : Bool
  delta : Int
  /-- Timing lane values held in the records area: M and K code (R391). -/
  mkM : Nat
  mkK : Nat
  /-- Lane that MCLK is taken from with `STRAP_MCLK` = 1. -/
  mclkLane : Nat
  /-- Twin: pair ID, far role, far image identity, start tick, far `DEV_ID` (R397). -/
  pairId : Nat
  farRole : Option Nat
  farImage : Option Nat
  start : Option Nat
  farDev : Nat
  /-- Tick of the last `TICK_MIS` on the Twin bundle, and the last divergent tick (R397, R398). -/
  lastMis : Option Nat
  lastDiv : Nat
  /-- Trigger words of the present tick that enter the digest: lane, slot and word (R398). -/
  words : List (Nat × Nat × Nat)
  wordsTick : Nat
  /-- Own digests of recent ticks. -/
  digests : SMap Nat
deriving DecidableEq, Repr

/-- A packet waiting with its head at input `port` of mesh router `elem` (0–127) or ring stop `elem` − 128. -/
structure Worm where
  elem : Nat
  port : Nat
  /-- The endpoint whose table entry gave its route. -/
  tgt : Nat
  pkt : Pkt
deriving DecidableEq, Repr

/-- An entry of the NoC error log (R421). -/
structure NocErr where
  tick : Nat
  status : Nat
  srcDev : Nat
  srcEp : Nat
  dev : Nat
  ep : Nat
  off : Nat
  seq : Nat
  errinfo : Nat
deriving DecidableEq, Repr

/-- The NoC ("The Network on Chip and the Hatband"). -/
structure Noc where
  /-- Route tables: key endpoint × 1,024 + entry, value hop list + 2^84 × `VALID` (R414). -/
  rt : SMap Nat
  /-- Packets injected by each interface (R410). -/
  seq : SMap Nat
  /-- Requests awaiting a response, and requests waiting for room, by interface (R418). -/
  out : SMap (List Pkt)
  wait : SMap (List Pkt)
  /-- Packets in routers and stops, in order of arrival. -/
  worms : List Worm
  /-- Headers that have reached a door, and headers that it holds (R425), by endpoint. -/
  door : SMap (List Pkt)
  heldHdr : SMap (List Pkt)
  /-- Requests delivered to an endpoint and not yet served, and responses that reached a requester, by endpoint. -/
  rx : SMap (List Pkt)
  resp : SMap (List Pkt)
  /-- Flits of the packet at the head of a region's port that the design has taken (R423). -/
  rxFlit : SMap Nat
  log : List NocErr
  ovf : Nat
  /-- Port enables and VC modes in force where they differ from reset (R426). -/
  penAct : SMap Nat
  vc2Act : SMap Nat
  /-- Routers in Drain with the command that started it (R426). -/
  drain : SMap Nat
  /-- Quadrant meshes and the Hatband (4): 0 normal, 2 reset drain, 3 reset (R427, R428). -/
  rst : SMap Nat
  /-- Packets that left on a lane bundle's bridge for the link, by first lane. -/
  bridge : SMap (List Pkt)
  /-- Packets that interfaces hold back in Limit, and the part of a flit slot that each has saved for them, in 16ths (R419). -/
  shed : SMap (List Pkt)
  saved : SMap Nat
deriving DecidableEq, Repr

/-- A slot 0–4 of the image store with its directory entry (R438, R439). `bytes` are the bytes received, in order;
`writing` = an `IMG_WRITE` not yet committed; `declared` its length; `ageH` the powered age in hours. -/
structure ImgSlot where
  bytes : List Nat
  valid : Bool
  length : Nat
  declared : Nat
  imageId : Nat
  crc : Nat
  writes : Nat
  ageH : Nat
  writing : Bool
deriving DecidableEq, Repr

/-- A slot never written. -/
def ImgSlot.init : ImgSlot :=
  { bytes := [], valid := false, length := 0, declared := 0, imageId := 0, crc := 0, writes := 0, ageH := 0,
    writing := false }

/-- The load in progress ("Configuration Loading and Blocking"). -/
structure Load where
  kind : Nat
  /-- 0 image store, 1 port, 2 lane, 3 NoC; slot, lane or device ID; endpoint; next byte position in the slot or the
  stream. -/
  source : Nat
  num : Nat
  ep : Nat
  pos : Nat
  timeoutMs : Nat
  /-- Command that asked for the load; 0 = Boot. -/
  serial : Nat
  late : Bool
  /-- 0 header, 1 payload, 2 tag, 3 signature, 4 authenticated, 5 forwarding a segment of the slot. -/
  stage : Nat
  /-- Words of a lane or NoC source that wait. -/
  buf : List Nat
  /-- Header words, ciphertext words taken, and how many of their plaintext words have been parsed. -/
  hdr : List Nat
  body : List Nat
  parsed : Nat
  tag : Nat
  /-- Byte position of the segment in its slot (R437). -/
  segPos : Nat
  /-- The parse has stopped; `END` was seen; the completeness checks failed (R434). -/
  stopped : Bool
  ended : Bool
  incomplete : Bool
  /-- Region-planes (region × 4 + plane) that the load has claimed or put in Loading. -/
  planes : List Nat
  /-- Planes parsed for an overwrite-active reload, in the landing area (Table 14-4). -/
  staged : SMap Plane
  /-- Parked records in order of arrival, decrypted: header word and body (R435). -/
  parked : List (List Nat)
  landUsed : Nat
  /-- Words of a segment of the slot still to forward. -/
  skip : Nat
  /-- Landing banks reserved (R295). -/
  banks : List Nat
  /-- Regions whose overwrite-active reload has not ended (R255). -/
  owLeft : List Nat
  planesDone : Nat
deriving DecidableEq, Repr

/-- Blocking (R451): it runs; it is the pass of `MODE_RESUME`; the step in progress (0 LOCK, then slots 1–3; 4 after
the last); whether the step's delay runs; felting fill is due after LOCK. -/
structure Blk where
  active : Bool
  resume : Bool
  step : Nat
  delay : Bool
  fill : Bool
deriving DecidableEq, Repr

/-- Configuration loading. -/
structure Cfg where
  slots : SMap ImgSlot
  bootSlot : Nat
  /-- Refresh in progress: slot, erase unit, and whether it waits for a load (R440); open journal entries. -/
  refresh : Option (Nat × Nat)
  journal : List (Nat × Nat)
  load : Option Load
  /-- Load to start when a reset of B3h ends (R449). -/
  restart : Bool
  /-- Words in the input buffer of the port. -/
  input : List Nat
  /-- Port: words of a segment left to forward, words of a refused one left to skip, and input discarded until it has been
  idle for the load timeout (R432, R444); everything sent on `CFGO`. -/
  fwdLeft : Nat
  skipLeft : Nat
  discard : Bool
  cfgo : List Nat
  /-- The first load by Boot tries slot 0 (R447). -/
  golden : Bool
  /-- Bytes received by the present or last load (Table 14-14). -/
  received : Nat
  /-- `FELT` and `FILL` of the last committed Full segment. -/
  felt : Bool
  fillVal : Nat
  blk : Blk
  /-- `LAST_STATUS` has changed, and its interrupt is not yet answered (Table 14-9). -/
  statChanged : Bool
deriving DecidableEq, Repr

/-- Image security ("Image Security and Protection"). -/
structure Sec where
  /-- Blown fuses of 0000h–04FFh by address, value 1 (Table 15-7). -/
  fuses : SMap Nat
  /-- The battery-backed key. -/
  bbk : Option Nat
  /-- Public keys in slot 5: x and y, 96 bytes as one number (R461). -/
  pubKeys : SMap Nat
  /-- `VBAT` lies within V_BATRET (R458). -/
  vbatGood : Bool
deriving DecidableEq, Repr

/-- An essential-error log entry (Table 16-2). -/
structure EssEnt where
  tick : Nat
  kind : Nat
  flags : Nat
  addr : Nat
  bit : Nat
  wmask : Nat
  serial : Nat
  status : Nat
deriving DecidableEq, Repr

/-- A repair load (R481): its plane (region × 4 + plane), the frames it keeps, its command with the frames that earlier
loads wrote for it, and whether it claimed the plane. -/
structure Repair where
  key : Nat
  frames : List Nat
  serial : Nat
  done : Nat
  claimed : Bool
deriving DecidableEq, Repr

/-- A read-back (R484). -/
structure Rdbk where
  kind : Nat
  region : Nat
  plane : Nat
  first : Nat
  count : Nat
  path : Nat
  /-- The named address of the NoC path: offset, endpoint and device, as 32 + 12 + 20 bits. -/
  addr : Nat
deriving DecidableEq, Repr

/-- Integrity and observation ("Configuration Integrity and Observation"). -/
structure Integ where
  log : List EssEnt
  /-- Position of each region's engine: pass × 1,372 + frame; and its slot counter in Limit (R476, R477). -/
  pos : SMap Nat
  slot : SMap Nat
  /-- Frames queued for repair: region × 4 + plane, frame (R481). -/
  queue : List (Nat × Nat)
  /-- Commands `CFG_REPAIR` that wait: command, plane, frames written so far, frames left (R489). -/
  asks : List (Nat × Nat × Nat × List Nat)
  repair : Option Repair
  rdbk : Option Rdbk
  /-- Regions whose reset bit `UNC_ACT` = 01b set (R480). -/
  uncHeld : List Nat
  /-- `ESS_TOTAL` when the Twin pair formed (R483). -/
  pairTotal : Nat
  /-- Frame-path signals that disagreed at the last check of a frame, by region × 1,372 + frame: group address and
  position (R547). -/
  pathBad : SMap (List (Nat × Nat))
deriving DecidableEq, Repr

/-- A self-test slice that runs (R554, R556): kind 0 of Test, 2 in service; its units as Table 19-5 numbers them
(`PLANES`: region × 4 + plane), the programmed count, the budget in ms and the tick at the start. -/
structure TestRun where
  slice : Nat
  kind : Nat
  units : List Nat
  prog : Nat
  budget : Nat
  start : Nat
  serial : Nat
deriving DecidableEq, Repr

/-- A slice summary (Table 19-3). -/
structure SliceSum where
  result : Nat
  late : Bool
  fails : Nat
  prog : Nat
  exec : Nat
  sig : Nat
  elapsed : Nat
  first : Nat
deriving DecidableEq, Repr

/-- A result record (R559): start tick, total budget, mask and policy, the summaries by slice, and the failure entries,
each with its `HANDLING` and the spare used. -/
structure TestRec where
  tick : Nat
  budget : Nat
  mask : Nat
  policy : Nat
  sums : SMap SliceSum
  fails : List (Nat × FailEntry)
deriving DecidableEq, Repr

/-- A repair entry, fuse or soft (Table 19-6). -/
structure RepairEnt where
  kind : Nat
  unit : Nat
  pos : Nat
  spare : Nat
  valid : Bool
  retired : Bool
deriving DecidableEq, Repr

/-- Self-test and repair ("Self-Test and Repair"). -/
structure Test where
  /-- Units under a slice (R556): functions 00h–BFh, 256 + cache bank, 512 + image-store slot, 1,024 + region × 4 +
  plane. -/
  busy : List Nat
  run : Option TestRun
  /-- Slices of Test still to run, and its total budget, mask and start tick. -/
  queue : List Nat
  total : Nat
  /-- Result records: 0 the last Test, 1 the last quick check, 2 the last in-service run. -/
  recs : SMap TestRec
  /-- Fuse entries by index, and soft entries in record order. -/
  fuse : SMap RepairEnt
  soft : List RepairEnt
  /-- Entries in force since Boot (R563), and units withdrawn by a fence: slice, unit (R567). -/
  applied : List RepairEnt
  fenced : List (Nat × Nat)
  /-- The policy stored in the repair record: 0 Safe, 1 Fence (R566). -/
  policy : Nat
deriving DecidableEq, Repr

/-- The block. (DESIGN CHOICE, assumption 1) -/
structure State where
  /-- Commands that wait, first in first out. -/
  pending : List Instr
  /-- Fields of the register cards that differ from their reset values, by `Fld.key`. -/
  regs : SMap Nat
  /-- Number of free values used so far (the model's own field). -/
  free : Nat
  /-- Modes, straps and pins ("Operating Modes and Straps"). -/
  aon : Aon
  /-- Milliner, mailboxes and the FCB. -/
  mgt : Mgt
  /-- Supplies, heat and service life. -/
  therm : Therm
  /-- Clocks and time. -/
  clk : Clk
  /-- The network on chip. -/
  noc : Noc
  /-- The serial lanes. -/
  lane : Lane
  /-- Spaif links, synchronisation and Twin. -/
  link : Link
  /-- Self-test and repair. -/
  test : Test
  /-- Pins, TDCs, DACs and housekeeping. -/
  io : Io
  /-- Fabric clocking, seams and pillars. -/
  fab : Fab
  /-- Block memories and arithmetic blocks. -/
  bm : Bm
  /-- Planes and contexts. -/
  ctx : Ctx
  /-- The shared cache. -/
  cache : Cache
  /-- The Bulk Store and the scrubber. -/
  bulk : Bulk
  /-- Configuration loading. -/
  cfg : Cfg
  /-- Keys, fuses and protection. -/
  sec : Sec
  /-- Configuration integrity and observation. -/
  integ : Integ
deriving DecidableEq, Repr

/-- AON state at reset; the straps stand at their defaults of Table 2-8. (DESIGN CHOICE, assumptions 5, 16) -/
def Aon.reset : Aon :=
  { revision := 1, fastGrade := true, tempI := true, keyB := true, serial := 0, strapPins := 0x404, resetHigh := false,
    safeCauses := [], bootReady := false, imageDone := false, quiesceReq := none, quiesceSleep := 0, waking := false,
    wakeCmds := [], exitDue := none, pairWait := false, testDone := false }

/-- Management state at reset: Milliner held, mailboxes Idle, firmware copy A present and valid. (DESIGN CHOICE,
assumption 17) -/
def Mgt.reset : Mgt :=
  { mbx := [], nextSerial := 1, nextPost := 1, orphans := [], running := false, recovery := false, lockstop := false,
    startDue := none, copy := 0, fw := [(0, ⟨true, 1, 0, []⟩)], expWrites := [], draining := [], fcbRead := 0,
    tapIr := 2, cal := [], calBoot := 255, sent := [] }

/-- Heat and life state at reset: Normal, no round judged yet. -/
def Therm.reset : Therm :=
  { sensBad := [], sensFailed := [], dieMax := [], tLimit := 0x640, graceMs := 250, floor := 4, cool := true,
    binA := 0, binB := 0, binC := 0, binD := 0, recA := 0, recB := 0, recC := 0, recD := 0,
    lifeWarned := false, baseline := [], slowdown := [], ageWarned := false, ageLimited := false, vert := [],
    fences := [], upperOff := [], memOff := [], powerFence := [], repairRec := [] }

/-- Clocks at reset: MCLK not measured, counter stopped, no setting taken. -/
def Clk.reset : Clk :=
  { tick := 0, running := false, startDue := false, prevMeas := none, lockMeas := none, loads := [], sched := [],
    synth := [], xing := [], resync := [], strobe := [], phase := 0 }

/-- NoC at reset: empty, every route invalid. -/
def Noc.reset : Noc :=
  { rt := [], seq := [], out := [], wait := [], worms := [], door := [], heldHdr := [], rx := [], resp := [],
    rxFlit := [], log := [], ovf := 0, penAct := [], vc2Act := [], drain := [], rst := [], bridge := [], shed := [], saved := [] }

/-- Lanes at reset: none brought up. -/
def Lane.reset : Lane := { lanes := [], ups := [] }

/-- Links at reset: no exchange made, M = 16 and K = 1 for a timing lane (R391). -/
def Link.reset : Link :=
  { trg := [], bundles := [], epoch := 1, bootEpoch := 1, alignDue := false, crown := none, stable := 0, align := none, tries := 0, delta := 0, mkM := 16,
    mkK := 0, mclkLane := 0, pairId := 0, farRole := none, farImage := none, start := none, farDev := 0,
    lastMis := none, lastDiv := 0, words := [], wordsTick := 0, digests := [] }

/-- Self-test at reset: nothing run, no repair entry. -/
def Test.reset : Test :=
  { busy := [], run := none, queue := [], total := 2500, recs := [], fuse := [], soft := [], applied := [], fenced := [],
    policy := 0 }

/-- I/O at reset: no hit, no calibration, outputs not released. -/
def Io.reset : Io :=
  { ch := [], banks := [], groups := [], tables := [], loads := [], initDac := [], released := false, vio := [],
    pinHold := [], dacOn := [], hkpMask := 0, round := 0, dacTrim := [], tableKept := [] }

/-- Fabric at reset: clocks off, every gate closed, writes disabled. -/
def Fab.reset : Fab :=
  { clocksOn := false, writes := false, gate := [], rel := [], phase := [], ceLow := [], lost := [], switching := [],
    skip := [], high := [], acts := [], out := [], hold := [], policy := [], pil := [], ff := [], seam := [], seamFenced := [], seamLost := [], pillarOff := [], cutLanes := [], cutHits := [] }

/-- Block memories at reset: every row unwritten, every register 0. -/
def Bm.reset : Bm := { rows := [], inj := [], ports := [], ab := [] }

/-- Contexts at reset: every plane Empty. -/
def Ctx.reset : Ctx := { planes := [], regions := [], firing := [] }

/-- The cache at reset: every row unwritten. -/
def Cache.reset : Cache := { rows := [], inj := [], banks := [], ports := [], cmode := [], farOff := [] }

/-- The Bulk Store at reset: every page unwritten, no pass. -/
def Bulk.reset : Bulk := { pages := [], inj := [], seqs := [], passes := [], bg := [], slot := [] }

/-- Configuration at reset: an empty image store with boot slot 1 (R439). -/
def Cfg.reset : Cfg :=
  { slots := [], bootSlot := 1, refresh := none, journal := [], load := none, restart := false, input := [],
    fwdLeft := 0, skipLeft := 0, discard := false, cfgo := [], golden := false, received := 0, felt := false, fillVal := 0,
    blk := ⟨false, false, 0, false, false⟩, statChanged := false }

/-- Security at reset: no fuse blown, no key, VBAT good. -/
def Sec.reset : Sec := { fuses := [], bbk := none, pubKeys := [], vbatGood := true }

/-- Integrity at reset: empty log, no repair, no read-back. -/
def Integ.reset : Integ :=
  { log := [], pos := [], slot := [], queue := [], asks := [], repair := none, rdbk := none, uncHeld := [],
    pairTotal := 0, pathBad := [] }

/-- The block after reset: Standby with VAON present; every field at the value its card gives, every other value as the
assumption log names it. (DESIGN CHOICE, assumptions 4, 5, 6) -/
def State.reset : State :=
  { pending := [],
    regs := [],
    free := 0,
    aon := Aon.reset,
    mgt := Mgt.reset,
    therm := Therm.reset,
    clk := Clk.reset,
    noc := Noc.reset,
    lane := Lane.reset,
    link := Link.reset,
    test := Test.reset,
    io := Io.reset,
    fab := Fab.reset,
    bm := Bm.reset,
    ctx := Ctx.reset,
    cache := Cache.reset,
    bulk := Bulk.reset,
    cfg := Cfg.reset,
    sec := Sec.reset,
    integ := Integ.reset }

end Sys2Proof.Machine
end

