-- ==== Sys2Proof/Machine/Ops.lean ====
section
/-! DEFINITION. The operations that every family shares: reading and writing a register field, free values, events,
mode commits, time, and the start and completion of a Talnum command. -/

namespace Sys2Proof.Machine

/-- Outcome of a command. -/
abbrev Out := Host.Outcome State Fault Refusal

/-- Apply `f` where `c` holds. -/
def applyIf (c : Bool) (f : State → State) (s : State) : State := if c then f s else s

/-- Apply `f k` for every `k` of a list, in order. -/
def forEach {α : Type} (l : List α) (f : α → State → State) (s : State) : State := l.foldl (fun s k => f k s) s

/-! ## Register fields -/

/-- The value that field `f` holds. (DESIGN CHOICE, assumption 7) -/
def State.get (s : State) (f : Fld) : Nat := at' s.regs f.key f.rst

/-- Field `f` takes value `v`, cut to its width. (DESIGN CHOICE, assumption 7) -/
def State.set (s : State) (f : Fld) (v : Nat) : State :=
  { s with regs := putD s.regs f.key f.rst (v % 2 ^ f.w) }

/-- Field `f` is not 0. -/
def State.flag (s : State) (f : Fld) : Bool := s.get f != 0

/-- Field `f` takes 1 or 0. -/
def State.setB (s : State) (f : Fld) (b : Bool) : State := s.set f (if b then 1 else 0)

/-- Bit `i` of field `f`. -/
def State.bit (s : State) (f : Fld) (i : Nat) : Bool := (s.get f).testBit i

/-- Bit `i` of field `f` takes `b`. -/
def State.setBit (s : State) (f : Fld) (i : Nat) (b : Bool) : State :=
  if s.bit f i = b then s else s.set f (if b then s.get f + 2 ^ i else s.get f - 2 ^ i)

/-- Field `f` counts up by `n` and saturates at its greatest value. -/
def State.addSat (s : State) (f : Fld) (n : Nat) : State := s.set f (min (s.get f + n) (2 ^ f.w - 1))

/-- Field `f` counts up by 1 and saturates. -/
def State.inc (s : State) (f : Fld) : State := s.addSat f 1

/-- Field `f` counts up by 1 and wraps. -/
def State.incWrap (s : State) (f : Fld) : State := s.set f (s.get f + 1)

/-- Field `f` counts up by `n` and wraps (R91). -/
def State.incBy (s : State) (f : Fld) (n : Nat) : State := s.set f (s.get f + n)

/-- Field `f` returns to its reset value. -/
def State.clear (s : State) (f : Fld) : State := s.set f f.rst

/-- Fields of the register at address `a`; none where no card lies. -/
def fieldsAt (a : Nat) : List Fld :=
  match cardAt a with
  | some c => c.1
  | none => []

/-- The fields of a register composed into its value (R5). -/
def State.wordOf (s : State) (l : List Fld) : Nat := l.foldl (fun v f => v + s.get f * 2 ^ f.lsb) 0

/-- The register at address `a` as its fields stand. -/
def State.cardWord (s : State) (a : Nat) : Nat := s.wordOf (fieldsAt a)

/-- Bits of field `f` in a register value. -/
def fieldOf (f : Fld) (v : Nat) : Nat := bitsOf v f.lsb f.w

/-- A register write as the access codes take it (R5): RW fields take the value, a 1 clears a W1C bit, and every other
field is unchanged. Actions of SC and WO fields are their registers' own. -/
def writeFields (l : List Fld) (v : Nat) (s : State) : State :=
  forEach l (fun f s => match f.acc with
    | .rw => s.set f (fieldOf f v)
    | .w1c => s.set f (Nat.land (s.get f) (Nat.xor (fieldOf f v) (2 ^ f.w - 1)))
    | _ => s) s

/-! ## Free values -/

/-- The next free value, below `n`. (DESIGN CHOICE, assumption 8) -/
def State.freeBelow (s : State) (n : Nat) : Nat := Config.freeValue s.free % n

/-- The next free value, as a bit. -/
def State.freeBit (s : State) : Bool := Config.freeValue s.free % 2 = 1

/-- The free value is used up. (DESIGN CHOICE, assumption 8) -/
def State.useFree (s : State) : State := { s with free := s.free + 1 }

/-! ## Function resets -/

/-- `RST_FUNC` holds function `f` in reset (R515). -/
def State.held (s : State) (f : Nat) : Bool := s.bit (R.RST_FUNC.HOLD (f / 32)) (f % 32)

/-- Function `f` is actually held (R515). -/
def State.actHeld (s : State) (f : Nat) : Bool := s.bit (R.RST_ACT.ACT (f / 32)) (f % 32)

/-- Quadrant of region `r` (R15). -/
def quadOf (r : Nat) : Nat := (if r / 16 < 4 then 0 else 2) + (if r % 16 < 8 then 0 else 1)

/-- Edge region of bank `b` (Table 4-4). -/
def bankRegion (b : Nat) : Nat :=
  [1, 3, 5, 7, 8, 10, 12, 14, 15, 31, 47, 63, 79, 95, 111, 127, 126, 124, 122, 120, 119, 117, 115, 113, 112, 96, 80, 64,
   48, 32, 16, 0].getD b 0

/-- Edge region of a lane's trigger channel (Table 11-1). -/
def laneRegion (l : Nat) : Nat :=
  let i := l % 24
  let ns := i / 3 * 2 + (if i % 3 = 2 then 1 else 0)
  match l / 24 with
  | 0 => ns
  | 1 => 31 + 16 * (i / 4)
  | 2 => 127 - ns
  | _ => 96 - 16 * (i / 4)

/-! ## Modes -/

def mOff : Nat := 0
def mStandby : Nat := 1
def mBoot : Nat := 2
def mLoad : Nat := 3
def mBlocking : Nat := 4
def mRun : Nat := 5
def mQuiescent : Nat := 6
def mReblock : Nat := 7
def mTwin : Nat := 8
def mLimit : Nat := 9
def mSafe : Nat := 10
def mTest : Nat := 11

/-- The mode that `DEV_MODE.MODE` shows. -/
def State.mode (s : State) : Nat := s.get R.DEV_MODE.MODE

/-- Run-class modes of Table 2-1. -/
def isRunClass (m : Nat) : Bool := m == mRun || m == mReblock || m == mTwin || m == mLimit

def State.runClass (s : State) : Bool := isRunClass s.mode

/-- The device is out of Off and Standby. -/
def State.up (s : State) : Bool := decide (mBoot ≤ s.mode)

/-- The pins of the FCB reach the management bus (R37, R55). (DEDUCED, assumption 175) -/
def State.fcbOn (s : State) : Bool := s.up && s.flag R.STRAP_LATCH.FCB_EN

/-- The run-class mode of highest precedence that holds (R33). -/
def State.topMode (s : State) : Nat :=
  if s.flag R.DEV_MODE.COND_LIMIT then mLimit
  else if s.flag R.DEV_MODE.COND_REBLOCK then mReblock
  else if s.flag R.DEV_MODE.COND_TWIN then mTwin
  else mRun

/-! ## Time -/

/-- Ticks count modulo 2^48. -/
def tickMod : Nat := 2 ^ 48

/-- Tick `a` is later than tick `b` (R77). -/
def tickLater (a b : Nat) : Bool :=
  let d := (a + (tickMod - b % tickMod)) % tickMod
  decide (1 ≤ d) && decide (d < 2 ^ 47)

/-- A tick argument lies later than the current tick plus 16 (R81, R100). -/
def State.tickAhead (s : State) (t : Nat) : Bool := tickLater t ((s.clk.tick + 16) % tickMod)

/-- Domain `d` has its clock: a synthesizer without lock is gated off (R67). -/
def State.clocked (s : State) (d : Nat) : Bool := s.bit R.CLK_LOCK.LOCK d

/-- The holdover flag of time stamps (R71). -/
def State.hold (s : State) : Bool := s.flag R.MCLK_STAT.HOLD

/-- A Gray FIFO is in pointer resynchronisation: full to its write side, empty to its read side (R87). Numbers are
those of `fifoNum`. -/
def State.resyncing (s : State) (n : Nat) : Bool := s.clk.resync.contains n

/-- Start a pointer resynchronisation of FIFO number `n`. -/
def startResync (n : Nat) (s : State) : State :=
  if s.resyncing n then s else { s with clk := { s.clk with resync := n :: s.clk.resync } }

/-! ## Packing -/

/-- Fields packed little-endian, each in its number of bytes (R502). (DEDUCED, assumption 10) -/
def pack (l : List (Nat × Nat)) : List Nat := l.flatMap fun p => leBytes p.1 p.2

/-- Every field fits its number of bytes. (DEDUCED, assumption 10) -/
def packFits (l : List (Nat × Nat)) : Bool := l.all fun p => decide (p.2 < 256 ^ p.1)

/-- Bytes `[i, i + n)` of a byte list, missing bytes 0. -/
def bytesAt (l : List Nat) (i n : Nat) : List Nat := (List.range n).map fun k => l.getD (i + k) 0

/-- The number in bytes `[i, i + n)`. (DEDUCED, assumption 10) -/
def numAt (l : List Nat) (i n : Nat) : Nat := ofLeBytes (bytesAt l i n)

/-! ## Mailboxes and events -/

/-- Mailbox `m`. -/
def State.mbox (s : State) (m : Nat) : Mbox := at' s.mgt.mbx m (Mbox.init m)

/-- Mailbox `m` takes contents `b`. -/
def State.setMbox (s : State) (m : Nat) (b : Mbox) : State :=
  { s with mgt := { s.mgt with mbx := putD s.mgt.mbx m (Mbox.init m) b } }

/-- Change mailbox `m`. (DESIGN CHOICE, assumption 12) -/
def State.modMbox (s : State) (m : Nat) (f : Mbox → Mbox) : State := s.setMbox m (f (s.mbox m))

/-- A message waits to leave on the management channel or by NoC `MSG`. -/
def State.send (s : State) (o : OutMsg) : State := { s with mgt := { s.mgt with sent := s.mgt.sent ++ [o] } }

/-- The 32 bytes of an event record (Table 17-14). -/
def EvRec.bytes (e : EvRec) : List Nat :=
  leBytes 2 e.code ++ [(if e.hold then 1 else 0) + (if e.lost then 2 else 0), 0] ++ leBytes 6 e.tick
    ++ leBytes 2 e.eseq ++ bytesAt e.args 0 20

/-- The queue of mailbox `m` becomes `q`, and `EVT` and `EVT_CNT` follow it. (DEDUCED, assumption 172) -/
def State.setQueue (s : State) (m : Nat) (q : List EvRec) : State :=
  ((s.modMbox m fun b => { b with queue := q }).set (R.MB_CTL.EVT_CNT m) q.length).setB (R.MB_CTL.EVT m) (q != [])

/-- An event is offered to mailbox `m` (R508, R509): counted, placed, lost to a full queue, or sent on its path.
(DEDUCED, assumptions 29, 172) -/
def offerEvent (code : Nat) (args : List Nat) (m : Nat) (s : State) : State :=
  let b := s.mbox m
  if !b.mask.testBit (code / 256) then s
  else
    let n := (b.eseq + 1) % 65536
    if decide (64 ≤ b.queue.length) then
      (s.setMbox m { b with eseq := n, lostNext := true }).inc (R.MB_CTL.EVT_LOST m)
    else
      let e : EvRec := ⟨code, s.hold, b.lostNext, s.clk.tick, n, args⟩
      let s := s.setMbox m { b with eseq := n, lostNext := false }
      if decide (2 ≤ b.evtPath) && s.mgt.running then s.send ⟨b.evtPath, b.evtA, b.evtB, m, 3, e.bytes⟩
      else s.setQueue m (b.queue ++ [e])

/-- Raise an event: it is offered to every mailbox (R508). In Off and Standby no mailbox takes one. -/
def raise (code : Nat) (args : List (Nat × Nat)) (s : State) : State :=
  if s.up then forEach (List.range 16) (offerEvent code (pack args)) s else s

/-- The word of `DEV_MODE`, as an event carries it. -/
def State.devMode (s : State) : Nat :=
  s.get R.DEV_MODE.MODE + 2 ^ 4 * s.get R.DEV_MODE.PREV_MODE + 2 ^ 8 * s.get R.DEV_MODE.COND_TWIN
    + 2 ^ 9 * s.get R.DEV_MODE.COND_REBLOCK + 2 ^ 10 * s.get R.DEV_MODE.COND_LIMIT
    + 2 ^ 11 * s.get R.DEV_MODE.TWIN_ALONE + 2 ^ 12 * s.get R.DEV_MODE.SAFE_CAUSE
    + 2 ^ 16 * s.get R.DEV_MODE.STBY_FAULT + 2 ^ 24 * s.get R.DEV_MODE.MODE_CHG
    + 2 ^ 25 * s.get R.DEV_MODE.MODE_IE + 2 ^ 26 * s.get R.DEV_MODE.WAKE

/-- The mode controller commits mode `m` (R32): `PREV_MODE`, `MODE_CHG` and the event `MODE_CHANGED` follow a change. -/
def commitMode (m : Nat) (s : State) : State :=
  if s.mode = m then s
  else
    let s := ((s.set R.DEV_MODE.PREV_MODE s.mode).set R.DEV_MODE.MODE m).set R.DEV_MODE.MODE_CHG 1
    raise 0x0101 [(4, s.devMode)] s

/-- In a run-class mode, `MODE` follows the conditions (R33). -/
def refreshMode (s : State) : State := if s.runClass then commitMode s.topMode s else s

/-! ## Talnum commands -/

def stOk : Nat := 0
def stBusy : Nat := 1
def stBusyTest : Nat := 2
def stTimeout : Nat := 3
def stDenied : Nat := 4
def stBadArg : Nat := 5
def stNoResource : Nat := 6
def stForeign : Nat := 7
def stShort : Nat := 8
def stAuthFail : Nat := 9
def stBadCmd : Nat := 10
def stBadFrame : Nat := 11
def stCancelled : Nat := 12
def stMgtReset : Nat := 13

/-- What a command's firmware meaning answers: a completion with its state, or an operation that runs on. -/
inductive Ans where
  | done (status : Nat) (result : List Nat) (s : State)
  | runs (s : State)

/-- Completed with `OK` and no result. -/
def Ans.ok (s : State) : Ans := .done stOk [] s

/-- Completed with `OK` and packed results. -/
def Ans.ret (r : List (Nat × Nat)) (s : State) : Ans := .done stOk (pack r) s

/-- Default budgets of the self-test slices in ms (Table 19-1). -/
def sliceDefaults : List Nat := [300, 40, 400, 150, 150, 400, 120, 40, 200, 700]

/-- Budget of slice `i` in Test with total budget `b` (R553). -/
def sliceBudget (b i : Nat) : Nat := max 1 (sliceDefaults.getD i 0 * b / 2500)

/-- Remaining test time in µs, the result of `BUSY_TEST`: the running slice and the later ones of its run (R503, R556).
(DEDUCED, assumption 189) -/
def State.testLeft (s : State) : Nat :=
  min (2 ^ 32 - 1) (s.get R.TEST_STAT.REMAIN_MS * 1000
    + (s.test.queue.map fun i => 1000 * sliceBudget s.test.total i).sum)

/-- Completed with a failing status, which changes nothing; only `BUSY_TEST` carries a result (R503). -/
def Ans.fail (status : Nat) (s : State) : Ans :=
  .done status (if status = stBusyTest then leBytes 4 s.testLeft else []) s

/-- The command of mailbox `mb` has outcome `o`. -/
def setOutcome (mb : Nat) (o : Outc) (s : State) : State := s.modMbox mb fun b => { b with outcome := some o }

/-- Mailbox whose command has serial number `n`. -/
def State.mbOf (s : State) (n : Nat) : Option Nat :=
  if n = 0 then none
  else (List.range 16).find? fun m => (s.mbox m).serial == n && decide (s.get (R.MB_CTL.STATE m) = 2)

/-- The operation of command `n` ended: its mailbox gets the outcome, or it leaves as `CMD_ORPHAN` (R506). -/
def finishCmd (n : Nat) (status : Nat) (result : List Nat) (late : Bool) (s : State) : State :=
  match s.mbOf n with
  | some m => if (s.mbox m).outcome.isNone then setOutcome m ⟨status, late, result⟩ s else s
  | none =>
    match s.mgt.orphans.find? fun o => o.serial == n with
    | some o =>
      raise 0x0003 [(2, o.cmd), (1, o.tag), (2, status)]
        { s with mgt := { s.mgt with orphans := s.mgt.orphans.filter fun o => o.serial != n } }
    | none => s

/-- The operation of command `n` is committed, so an abort no longer cancels it (R507). -/
def commitCmd (n : Nat) (s : State) : State :=
  match s.mbOf n with
  | some m => s.modMbox m fun b => { b with committed := true }
  | none => s

/-- Serial number of the command in mailbox `mb`. -/
def State.serial (s : State) (mb : Nat) : Nat := (s.mbox mb).serial

/-- Commands that only read state, by code: an abort cancels them up to their completion (R507). -/
def readOnlyCodes : List Nat :=
  [0x0000, 0x0001, 0x0100, 0x0201, 0x0203, 0x0209, 0x0220, 0x0300, 0x0309, 0x0310, 0x0381, 0x0400, 0x040A, 0x0410,
   0x0412, 0x0414, 0x0500, 0x0503, 0x0505, 0x0511, 0x0600, 0x0604, 0x0607, 0x0608, 0x0700, 0x0703, 0x0704, 0x0705,
   0x0800, 0x0801, 0x0805, 0x0900, 0x0904, 0x0A07, 0x0B01, 0x0B04, 0x0C02]

/-- Command codes that Test serves (R505): groups 00h and 08h, `MODE_GET`, `SEC_STATUS` and `SEC_ZEROISE`. `MODE_RESTART` and
`MODE_SHUTDOWN`, which Table 2-4 lists for Test, answer `BUSY_TEST` with the rest. (DEDUCED, assumption 166; DESIGN CHOICE,
assumption 208) -/
def servedInTest (code : Nat) : Bool :=
  decide (code < 0x100) || (decide (0x800 ≤ code) && decide (code < 0x900)) || code == 0x100 || code == 0x900
    || code == 0x902

/-- Command codes that the recovery service accepts (R491). (DEDUCED, assumption 162) -/
def servedInRecovery (code : Nat) : Bool := [0x0000, 0x0001, 0x0002, 0x0003, 0x0106].contains code

/-- The mailbox holds a taken frame that asks for command `code`, not yet started, and Milliner has its clock (R67). -/
def State.cmdDue (s : State) (mb code : Nat) : Bool :=
  let b := s.mbox mb
  s.up && s.mgt.running && s.clocked 1 && decide (s.get (R.MB_CTL.STATE mb) = 2) && b.stage == 2 && b.cmd == code && !b.started
    && b.outcome.isNone

/-- Put an answer into the mailbox of command `mb`. (DESIGN CHOICE, assumption 13) -/
def settle (mb : Nat) : Ans → State
  | .done st r s => setOutcome mb ⟨st, false, r⟩ s
  | .runs s => s

/-- Firmware performs the command `code` of mailbox `mb`, whose arguments are packed as `args` (R502). A row whose
command the mailbox does not hold is not due and changes nothing. Arguments of another length are `BAD_ARG`.
(DESIGN CHOICE, assumptions 9, 11, 13) -/
def talnum (mb code : Nat) (args : List (Nat × Nat)) (f : State → Ans) (s : State) : State :=
  if !s.cmdDue mb code then s
  else
    let b := s.mbox mb
    let s1 := s.setMbox mb { b with started := true }
    if s.mgt.recovery && !servedInRecovery code then settle mb (.fail stBadCmd s1)
    else if decide (s.mode = mTest) && !servedInTest code then
      settle mb (.done stBusyTest (leBytes 4 s.testLeft) s1)
    else if b.args = pack args ∧ packFits args then settle mb (f s1)
    else if b.args.length ≠ (pack args).length then settle mb (.fail stBadArg s1)
    else s

/-- As `talnum`, for a command whose last argument is a run of `bytes` after fixed arguments. (DESIGN CHOICE, assumption
9) -/
def talnumBytes (mb code : Nat) (args : List (Nat × Nat)) (bytes : List Nat) (f : State → Ans) (s : State) : State :=
  if !s.cmdDue mb code then s
  else
    let b := s.mbox mb
    let s1 := s.setMbox mb { b with started := true }
    if s.mgt.recovery && !servedInRecovery code then settle mb (.fail stBadCmd s1)
    else if decide (s.mode = mTest) && !servedInTest code then
      settle mb (.done stBusyTest (leBytes 4 s.testLeft) s1)
    else if b.args.length < (pack args).length then settle mb (.fail stBadArg s1)
    else if b.args = pack args ++ bytes ∧ packFits args then settle mb (f s1)
    else s

/-- First failing check of a list, or the answer. (DESIGN CHOICE, assumption 11) -/
def checks (l : List (Bool × Nat)) (ok : State → Ans) (s : State) : Ans :=
  match l.find? fun p => p.1 with
  | some p => .fail p.2 s
  | none => ok s

end Sys2Proof.Machine
end

