-- ==== Sys2Proof/Machine/NocOps.lean ====
section
/-! DEFINITION. Operations of the NoC that other subsystems use: interfaces, routes, injection, responses and the
error log ("The Network on Chip and the Hatband"). -/

namespace Sys2Proof.Machine

/-- Change the NoC state. -/
def State.modNoc (s : State) (f : Noc → Noc) : State := { s with noc := f s.noc }

/-- Append to the list at key `k`. -/
def pushAt {α : Type} [DecidableEq α] (m : SMap (List α)) (k : Nat) (x : α) : SMap (List α) :=
  putD m k [] (at' m k [] ++ [x])

/-- Replace the list at key `k`. -/
def listAt {α : Type} [DecidableEq α] (m : SMap (List α)) (k : Nat) (l : List α) : SMap (List α) := putD m k [] l

/-- This device's ID. -/
def State.devId (s : State) : Nat := s.get R.DEV_ID.ID

/-- READ and WRITE await a response; every other packet is posted (Table 13-4). -/
def pktReq (p : Pkt) : Bool := p.typ == 0 || p.typ == 1

/-- A response (Table 13-4). -/
def pktResp (p : Pkt) : Bool := p.typ == 3 || p.typ == 4

/-- Flits of a packet (Table 13-4). -/
def pktFlits (p : Pkt) : Nat := if p.typ = 0 ∨ p.typ = 4 then 1 else 1 + (p.len + 31) / 32

/-- The header flit (Table 13-3). -/
def headerFlit (p : Pkt) : Nat :=
  p.typ + 2 ^ 4 * p.vc + 2 ^ 6 * p.cls + 2 ^ 9 * p.len + 2 ^ 19 * p.dhops + 2 ^ 24 * p.status + 2 ^ 32 * p.seq
    + 2 ^ 48 * p.reqSeq + 2 ^ 64 * p.tick + 2 ^ 112 * p.srcDev + 2 ^ 132 * p.srcEp + 2 ^ 144 * p.off + 2 ^ 176 * p.ep
    + 2 ^ 188 * p.dev + 2 ^ 208 * p.unwr.toNat + 2 ^ 209 * p.late.toNat + 2 ^ 210 * p.hold.toNat + 2 ^ 224 * p.errinfo

/-- The flits of a packet: the header, then 32 payload bytes in each data flit, with 0 beyond the last byte (Table 13-3). -/
def packetFlits (p : Pkt) : List Nat :=
  headerFlit p :: (List.range (pktFlits p - 1)).map fun j => ofLeBytes ((p.data.drop (32 * j)).take 32)

/-- The packet that flits carry; its route and age are those of a packet that a bridge takes from a lane (R409, R412). -/
def pktOf (flits : List Nat) : Pkt :=
  let h := flits.headD 0
  let len := bitsOf h 9 10
  { typ := bitsOf h 0 4, vc := bitsOf h 4 2, cls := bitsOf h 6 3, len := len, dhops := bitsOf h 19 5, status := bitsOf h 24 8,
    seq := bitsOf h 32 16, reqSeq := bitsOf h 48 16, tick := bitsOf h 64 48, srcDev := bitsOf h 112 20,
    srcEp := bitsOf h 132 12, dev := bitsOf h 188 20, ep := bitsOf h 176 12, off := bitsOf h 144 32, unwr := h.testBit 208,
    late := h.testBit 209, hold := h.testBit 210, errinfo := bitsOf h 224 32,
    data := ((flits.drop 1).flatMap (leBytes 32)).take len, route := 0, age := 0 }

/-- The response that packet `p` asks for (R411). -/
def pktAnswer (p : Pkt) (status errinfo : Nat) (data : List Nat) (unwr : Bool) : Pkt :=
  { typ := if p.typ = 0 then 3 else 4, vc := if p.vc = 3 then 3 else 1, cls := p.cls, len := data.length, dhops := 0,
    status := status, seq := 0, reqSeq := p.seq, tick := 0, srcDev := 0, srcEp := p.ep, dev := p.srcDev, ep := p.srcEp,
    off := 0, unwr := unwr, late := false, hold := false, errinfo := errinfo, data := data, route := 0, age := 0 }

/-- An error that a posted packet meets is logged (R421). (DEDUCED, assumption 126) -/
def logNoc (p : Pkt) (status errinfo : Nat) (s : State) : State :=
  let e : NocErr := ⟨s.clk.tick, status, p.srcDev, p.srcEp, p.dev, p.ep, p.off, p.seq, errinfo⟩
  let full := decide (64 ≤ s.noc.log.length)
  let s := s.modNoc fun n =>
    { n with log := (if full then n.log.drop 1 else n.log) ++ [e], ovf := n.ovf + if full then 1 else 0 }
  raise 0x0B01 [(1, status), (3, p.srcDev), (2, p.srcEp), (2, p.seq)] s

/-- First lane of the exit bundle that the device route table gives for device `d` (R386). -/
def State.exitBundle (s : State) (d : Nat) : Option Nat :=
  ((List.range 256).find? fun i => s.flag (R.DRT.VALID i) &&
    Nat.land (Nat.xor d (s.get (R.DRT.MATCH i))) (s.get (R.DRT.MASK i)) == 0).map fun i => s.get (R.DRT.BUNDLE i)

/-- A bundle that carries Spaif (R369, R386). -/
def State.isSpaif (s : State) (l : Nat) : Bool := decide (l < 96) && s.get (R.LANE_CFG.PROTO l) == 0

/-- Endpoint that has a network interface (Table 13-2). -/
def endpointExists (e : Nat) : Bool :=
  decide (e < 0x90) || (decide (0x90 ≤ e) && decide (e ≤ 0x9B)) || (decide (0xA0 ≤ e) && decide (e ≤ 0xA2))
    || (decide (0x100 ≤ e) && decide (e < 0x160))

/-- Stop of the bridges of a quad (Table 13-1). (DEDUCED, assumption 204) -/
def bridgeStop (l : Nat) : Nat :=
  match l / 12 with
  | 0 => 3 | 1 => 5 | 2 => 9 | 3 => 13 | 4 => 19 | 5 => 21 | 6 => 25 | _ => 29

/-- Router or stop (128 + number) to which interface `e` attaches; Bulk Store windows attach to port 0 of their
controller. (DEDUCED, assumption 204) -/
def endpointElem (e : Nat) : Nat :=
  if e < 0x80 then e
  else if e < 0x90 then
    let q := (e - 0x80) / 4
    (match (e - 0x80) % 4 with | 0 => 18 | 1 => 21 | 2 => 34 | _ => 37) + (if q % 2 = 1 then 8 else 0)
      + (if 2 ≤ q then 64 else 0)
  else if e < 0x9C then if e < 0x96 then 128 + 31 else 128 + 15
  else if e = 0xA2 then 128 + 23
  else if e < 0x100 then 128 + 27
  else 128 + bridgeStop (e - 0x100)

/-- Endpoints that element `n` can eject to (Tables 13-1 and 13-2). -/
def ejects (n e : Nat) : Bool :=
  endpointExists e &&
    (endpointElem e == n
      || (decide (0x90 ≤ e) && decide (e < 0x96) && n == 128 + 1)
      || (decide (0x96 ≤ e) && decide (e < 0x9C) && n == 128 + 17))

/-- A response reaches its requester on this device, or goes to the bridge toward its device (R420). (DEDUCED,
assumption 126) -/
def deliverResp (p : Pkt) (s : State) : State :=
  if p.dev = s.devId then s.modNoc fun n => { n with resp := pushAt n.resp p.ep p }
  else match s.exitBundle p.dev with
    | some l => s.modNoc fun n => { n with rx := pushAt n.rx (0x100 + l) p }
    | none => logNoc p 0x0A s.devId s

/-- An element that cannot perform a packet answers a request and logs anything posted (R420, R421). (DEDUCED,
assumption 126) -/
def refusePkt (p : Pkt) (status errinfo : Nat) (s : State) : State :=
  if pktReq p then deliverResp { pktAnswer p status errinfo [] false with srcDev := s.devId } s
  else logNoc p status errinfo s

/-- Route entry of interface `e` for endpoint `d` (R414). -/
def State.routeOf (s : State) (e d : Nat) : Option Nat :=
  let v := at' s.noc.rt (e * 1024 + d % 1024) 0
  if v / 2 ^ 84 = 1 then some (v % 2 ^ 84) else none

/-- A head for endpoint `tgt` enters the network at the local port of interface `e` with route `r`. -/
def enterNet (e tgt r : Nat) (p : Pkt) (s : State) : State :=
  s.modNoc fun n => { n with worms := n.worms ++ [⟨endpointElem e, 4, tgt, { p with route := r, age := 0 }⟩] }

/-- Timing links of the tree: the parent's, and those whose neighbour may have this device as its parent, by the hop
count it announced (R387, R389). (DEDUCED, assumption 111) -/
def State.treeLinks (s : State) : List Nat :=
  (List.range 96).filter fun k => s.flag (R.LINK_CFG.TLINK k) && (s.get R.SYNC_STAT.PARENT == k ||
    match (at' s.link.bundles k Bundle.init).heard with
    | some a => a.hops == s.get R.SYNC_STAT.HOPS + 1
    | none => true)

/-- Interface `e` looks up the route of `p` and sends it (R414); a broadcast goes to the bridge of every timing link of
the tree and to the local endpoint (R387). (DEDUCED, assumption 112) -/
def routeOut (e : Nat) (p : Pkt) (s : State) : State :=
  let noRoute := fun s => refusePkt p 0x0A s.devId s
  if p.dev = 0xFFFFF then
    if p.typ ≠ 2 then noRoute s
    else
      let s := match s.routeOf e p.ep with
        | some r => enterNet e p.ep r p s
        | none => noRoute s
      forEach s.treeLinks (fun l s =>
        match s.routeOf e (0x100 + l) with
        | some r => enterNet e (0x100 + l) r p s
        | none => noRoute s) s
  else if p.dev = s.devId then
    if endpointExists p.ep then
      match s.routeOf e p.ep with
      | some r => enterNet e p.ep r p s
      | none => noRoute s
    else noRoute s
  else match s.exitBundle p.dev with
    | some l =>
      if s.isSpaif l then
        match s.routeOf e (0x100 + l) with
        | some r => enterNet e (0x100 + l) r p s
        | none => noRoute s
      else noRoute s
    | none => noRoute s

/-- A source interface writes its fields over those supplied (R410) and injects the packet; at most 64 requests await a
response, and a further one waits (R418). (DEDUCED, assumption 128) -/
def niSend (e : Nat) (p : Pkt) (s : State) : State :=
  let n := (at' s.noc.seq e 0 + 1) % 65536
  let maxc := s.get (R.NI_CFG.MAXCLASS e)
  let s := applyIf (decide (maxc < p.cls)) (fun s => s.set (R.NI_STAT.CLAMP e) 1) s
  let src := if e < 0x80 ∧ p.typ = 2 ∧ s.flag R.DEV_MODE.COND_TWIN then s.link.pairId else s.devId
  let p := { p with cls := min p.cls maxc, seq := n, tick := s.clk.tick, hold := s.hold, srcDev := src, srcEp := e }
  let p := { p with dhops := s.get (R.NI_CFG.DHOPS e) }
  let s := s.modNoc fun m => { m with seq := putD m.seq e 0 n }
  if pktReq p then
    let l := at' s.noc.out e []
    if 64 ≤ l.length then s.modNoc fun m => { m with wait := pushAt m.wait e p }
    else
      let s := s.modNoc fun m => { m with out := pushAt m.out e p }
      routeOut e p (s.set (R.NI_STAT.OUTSTANDING e) (l.length + 1))
  else routeOut e p s

/-- Interface `e` slows packet `p`: in Limit, VC0 packets of class 0 or 1 of every interface but the cache agent's, with `SHED`
(R419). -/
def State.shedNi (s : State) (e : Nat) (p : Pkt) : Bool :=
  decide (s.mode = mLimit) && p.vc == 0 && decide (p.cls ≤ 1) && !(decide (0x80 ≤ e) && decide (e < 0x90))
    && s.flag (R.NI_CFG.SHED e)

/-- A packet for interface `e` to inject: at once, or when its share of the flit slots comes (R419). (DESIGN CHOICE, assumption
226) -/
def niInject (e : Nat) (p : Pkt) (s : State) : State :=
  if s.shedNi e p || at' s.noc.shed e [] != [] && p.vc == 0 then s.modNoc fun n => { n with shed := pushAt n.shed e p }
  else niSend e p s

/-- A flit slot of interface `e` goes by: the packet that it holds back saves P 16ths, and is injected once they make its flits
(R419). (DESIGN CHOICE, assumption 226) -/
def shedSlot (e : Nat) (s : State) : State :=
  match at' s.noc.shed e [] with
  | [] => s
  | p :: rest =>
    let v := at' s.noc.saved e 0 + (if s.shedNi e p then s.get R.THERM_STAT.P else 16 * pktFlits p)
    if 16 * pktFlits p ≤ v then
      niSend e p (s.modNoc fun n => { n with shed := listAt n.shed e rest, saved := putD n.saved e 0 0 })
    else s.modNoc fun n => { n with saved := putD n.saved e 0 v }

/-- An endpoint answers a request through its own interface (R411). -/
def answerPkt (p : Pkt) (status errinfo : Nat) (data : List Nat) (unwr : Bool) (s : State) : State :=
  if pktReq p then niInject p.ep (pktAnswer p status errinfo data unwr) s
  else if status = 0 then s
  else logNoc p status errinfo s

/-- The request at the head of endpoint `e`. -/
def State.rxHead (s : State) (e : Nat) : Option Pkt := (at' s.noc.rx e []).head?

/-- The request at the head of endpoint `e` is taken. -/
def popRx (e : Nat) (s : State) : State := s.modNoc fun n => { n with rx := listAt n.rx e ((at' n.rx e []).drop 1) }

/-- A posted write that block `e` of the device builds (R410); Milliner's are of class 7 (R417). (DESIGN CHOICE,
assumption 129) -/
def ownWrite (e dev ep off : Nat) (data : List Nat) : Pkt :=
  { typ := 2, vc := [0, 2, 3].getD (Config.ownVc e % 3) 0, cls := if e = 0xA0 then 7 else Config.ownClass e % 8, len := data.length, dhops := 0,
    status := 0, seq := 0, reqSeq := 0, tick := 0, srcDev := 0, srcEp := 0, dev := dev, ep := ep, off := off,
    unwr := false, late := false, hold := false, errinfo := 0, data := data, route := 0, age := 0 }

/-- Byte data sent from block `e` as posted writes of 512 bytes with consecutive offsets, the last one shorter. -/
def sendWrites (e dev ep : Nat) : Nat → Nat → List Nat → State → State
  | 0, _, _, s => s
  | n + 1, off, l, s =>
    if l = [] then s
    else sendWrites e dev ep n (off + 512) (l.drop 512) (niInject e (ownWrite e dev ep off (l.take 512)) s)

end Sys2Proof.Machine
end

