-- ==== Sys2Proof/Machine/Time.lean ====
section
/-! DEFINITION. MCLK, the tick counter, the tick schedule and the synthesizer settings ("Machine Clock, Ticks and
Clock-Domain Crossings"). -/

namespace Sys2Proof.Machine

/-! ## Measurement and lock of MCLK -/

/-- Two frequencies lie within 1,000 ppm of the second. -/
def within1000ppm (a b : Nat) : Bool := decide ((a - b + (b - a)) * 1000 ≤ b)

/-- A domain that `CLK_SET` may set: TDC, the four sides and the four FG trees (R66). -/
def settable (d : Nat) : Bool := d == 3 || (decide (17 ≤ d) && decide (d ≤ 24))

/-- A domain with a synthesizer (Table 3-1). -/
def synthesized (d : Nat) : Bool := d == 1 || (decide (3 ≤ d) && decide (d ≤ 12)) || (decide (16 ≤ d) && decide (d ≤ 24))

/-- Setting of domain `d`. -/
def State.synth (s : State) (d : Nat) : Synth := at' s.clk.synth d ⟨0, 0, 0, 0, false, false⟩

/-- Setting of domain `d` becomes `y`. -/
def State.setSynth (s : State) (d : Nat) (y : Synth) : State :=
  { s with clk := { s.clk with synth := putD s.clk.synth d ⟨0, 0, 0, 0, false, false⟩ y } }

/-- The timing lane has locked: its receiver has block lock (R68, R391). (DEDUCED, assumption 212) -/
def State.timingLocked (s : State) : Bool :=
  let st := s.get (R.LANE_STAT.STATE s.link.mclkLane)
  decide (3 ≤ st) && decide (st ≤ 7)

/-- MCLK in kHz from the frequency at its source: the pin, or the recovered block rate of the timing lane × K ÷ M (R68). -/
def State.mclkOf (s : State) (kHz : Nat) : Nat :=
  if s.flag R.STRAP_LATCH.MCLK_SRC then kHz * 2 ^ s.link.mkK / max s.link.mkM 1 else kHz

/-- The source of MCLK can give edges: the pin, or a timing lane that has locked (R68). -/
def State.mclkSource (s : State) : Bool := !s.flag R.STRAP_LATCH.MCLK_SRC || s.timingLocked

/-- Domain `d` runs from MCLK: TDC, or a side or tree in Locked mode (R62). -/
def State.tickAligned (s : State) (d : Nat) : Bool := settable d && (d == 3 || (s.synth d).mode == 0)

/-- Greatest frequency of a tree in kHz, by speed grade (`f_FG`, `f_RCN`). -/
def State.fgMax (s : State) : Nat := if s.aon.fastGrade then 1000000 else 850000

/-- Some seam port in use runs from tree `t` (R188). -/
def State.seamUses (s : State) (t : Nat) : Bool := (List.range 24).any fun p => s.get (R.SEAM_CFG.SEAM_CLK p) == t

/-- Frequency of a setting in kHz times its divisor, and the divisor. -/
def settingFreq (mode n d mclk : Nat) : Nat × Nat := if mode = 0 then (mclk * n, 1) else (100000 * n, d)

/-- The integer ranges of R63–R65. -/
def settingRange (dom mode n d : Nat) : Bool :=
  if dom = 3 then mode == 0 && decide (4 ≤ n) && decide (n ≤ 125)
  else if mode = 0 then decide (1 ≤ n) && decide (n ≤ if dom ≤ 20 then 84 else 100)
  else mode == 1 && decide (1 ≤ n) && decide (n ≤ 255) && decide (1 ≤ d) && decide (d ≤ 255)

/-- The frequency limits of R63–R65, R166 and R188; a Locked setting is judged only against a measured MCLK (R66). -/
def State.settingFreqOk (s : State) (dom mode n d : Nat) : Bool :=
  let mclk := s.get R.MCLK_STAT.FREQ_KHZ
  if mode = 0 ∧ mclk = 0 then true
  else
    let (f, q) := settingFreq mode n d mclk
    if dom = 3 then decide (800000 ≤ f) && decide (f ≤ 1250000)
    else if dom ≤ 20 then decide (18940 * q ≤ f) && decide (f ≤ 848480 * q)
    else decide (f ≤ s.fgMax * q) && (!s.seamUses (dom - 21) || decide (f ≤ 800000 * q))

/-- A setting that lies outside its limits leaves its domain unlocked, with `CLK_LOST` and `CLK_UNLOCK` (R66). It no longer
waits for lock, so that a later `CLK_SET` may mend it. (DESIGN CHOICE, assumption 35) -/
def judgeSetting (d : Nat) (s : State) : State :=
  let y := s.synth d
  if settingRange d y.mode y.n y.d && s.settingFreqOk d y.mode y.n y.d then s
  else raise 0x0501 [(1, d)]
    (((s.setSynth d { y with bad := true, wait := false }).setBit R.CLK_LOST.LOST d true).setBit R.CLK_LOCK.LOCK d false)

/-- The first lock judges every set tick-aligned domain (R66). (DESIGN CHOICE, assumption 35) -/
def judgeSettings (s : State) : State :=
  forEach ((List.range 25).filter settable) (fun d s =>
    let y := s.synth d
    if y.mode = 0 ∧ y.n ≠ 0 then judgeSetting d s else s) s

/-- `SYNC_STAT` shows Holdover while a device with a parent is in holdover, and afterwards that the alignment must be
repeated (R72, R393, Table 12-7). (DEDUCED, assumption 38) -/
def syncHoldover (on : Bool) (s : State) : State :=
  if on then
    if s.get R.SYNC_STAT.PARENT = 0x7F then s
    else (s.set R.SYNC_STAT.STATE 5)
  else
    let s := { s with link := { s.link with alignDue := true } }
    if s.get R.SYNC_STAT.STATE = 5 then s.set R.SYNC_STAT.STATE 1 else s

/-- MCLK is lost (R70); the domain has lost its lock to it without a host request (Table 3-3). (DEDUCED, assumption 37)
-/
def loseMclk (s : State) : State :=
  syncHoldover true <|   raise 0x0502 []
    ((((s.set R.MCLK_STAT.LOSS 1).set R.MCLK_STAT.HOLD 1).set R.MCLK_STAT.PRESENT 0).setBit R.CLK_LOST.LOST 2 true)

/-- A measurement that agrees with the one before it locks MCLK (R74). -/
def measLocks (kHz : Nat) : Option Nat → Bool
  | some p => decide (10000 ≤ kHz) && decide (kHz ≤ 250000) && decide (10000 ≤ p) && decide (p ≤ 250000)
      && within1000ppm kHz p
  | none => false

/-- MCLK_MEASURE: the 1.024 ms measurement (R69), the first lock by two agreeing measurements (R74), or a loss by
deviation (R70). `srcKHz` is the frequency of the source (R68), 0 where the interval held no edge: there is then no new
value of `FREQ_KHZ`. A timing lane that has not locked gives no edge. (DEDUCED, assumptions 37, 212) -/
def execMclkMeasure (srcKHz : Nat) (s : State) : Out :=
  let kHz := if s.mclkSource then s.mclkOf srcKHz else 0
  if !s.up then .next s
  else if kHz = 0 then
    .next (({ s with clk := { s.clk with prevMeas := none } }).setBit R.CLK_LOCK.LOCK 2 false)
  else
    let prev := s.clk.prevMeas
    let s1 := { (s.set R.MCLK_STAT.FREQ_KHZ kHz).setBit R.CLK_LOCK.LOCK 2 true with
      clk := { s.clk with prevMeas := some kHz } }
    match s.clk.lockMeas with
    | none =>
      if measLocks kHz prev then
        let s2 := { s1 with clk := { s1.clk with lockMeas := some kHz, startDue := true } }
        .next (judgeSettings (s2.set R.MCLK_STAT.PRESENT 1))
      else .next s1
    | some l => if !s.hold && !within1000ppm kHz l then .next (loseMclk s1) else .next s1

/-- MCLK_LOSS: no edge within t_MLOSS (R70). It is due while MCLK is locked and not in holdover. (DEDUCED, assumptions
37, 38) -/
def execMclkLoss (s : State) : Out :=
  if s.up && s.clk.lockMeas.isSome && !s.hold then .next (loseMclk (s.setBit R.CLK_LOCK.LOCK 2 false)) else .next s

/-- MCLK_RETURN: relock from holdover (R72). It is due in holdover with a frequency within 1,000 ppm of the lock, from a
source that can give it (R68). (DEDUCED, assumptions 38, 212) -/
def execMclkReturn (srcKHz : Nat) (s : State) : Out :=
  let kHz := s.mclkOf srcKHz
  match s.clk.lockMeas with
  | some l =>
    if s.up && s.hold && s.mclkSource && within1000ppm kHz l then
      let s1 := { s with clk := { s.clk with lockMeas := some kHz } }
      .next (raise 0x0503 [] <| syncHoldover false <|
        ((((s1.set R.MCLK_STAT.HOLD 0).set R.MCLK_STAT.RELOCK 1).set R.MCLK_STAT.PRESENT 1).setBit
          R.CLK_LOCK.LOCK 2 true))
    else .next s
  | none => .next s

/-! ## Blocks on the lanes -/

/-- Internal state of lane `l`. -/
def State.lst (s : State) (l : Nat) : LaneSt := at' s.lane.lanes l LaneSt.init

/-- Change the internal state of lane `l`. -/
def State.modLane (s : State) (l : Nat) (f : LaneSt → LaneSt) : State :=
  { s with lane := { s.lane with lanes := putD s.lane.lanes l LaneSt.init (f (s.lst l)) } }

/-- A block leaves lane `l`: its header, and its payload scrambled, in every state but Test (R335, R336). (DESIGN CHOICE,
assumption 224) -/
def sendBlock (l hdr payload : Nat) (s : State) : State :=
  if s.get (R.LANE_STAT.STATE l) = 9 then s
  else s.modLane l fun b =>
    let x := scramble b.scr (bitList 64 payload)
    { b with scr := x.2, line := some (hdr, bitsNat x.1) }

/-- A block of payload `payload` has come over lane `l`: the descrambler has taken its line bits (R336). (DESIGN CHOICE,
assumption 224) -/
def recvBlock (l payload : Nat) (s : State) : State :=
  s.modLane l fun b => { b with dscr := (scramble b.dscr (bitList 64 payload)).2 }

/-- Trigger port of a lane before any block. -/
def trgInit : TrgPort :=
  { rslot := 0, rd := 0, rv := false, rerr := false, rtick := 0, rbad := false, rhold := false, rsafe := false,
    rxIv := [], txIv := [], rmark := false, tslot := 0, txMark := 0, txKind := 0, txWord := 0 }

/-- Trigger port of lane `l`. -/
def State.trg (s : State) (l : Nat) : TrgPort := at' s.link.trg l trgInit

/-- Change the trigger port of lane `l`. -/
def State.modTrg (s : State) (l : Nat) (f : TrgPort → TrgPort) : State :=
  { s with link := { s.link with trg := putD s.link.trg l trgInit (f (s.trg l)) } }

/-- Payload of the marker that begins tick `t`: `TICK`, or `TICK_H` in holdover, with the `TCRC` of the interval before it
(Table 12-1, R71, R373). -/
def markerPayload (hold : Bool) (t crc : Nat) : Nat := (if hold then 0x1F else 0x1E) + 2 ^ 8 * (t % 2 ^ 48) + 2 ^ 56 * crc

/-- Lanes that begin a marker interval with tick `t`: those in Up with Spaif (R370). -/
def State.markLanes (s : State) (t : Nat) : List Nat :=
  (List.range 96).filter fun l => s.get (R.LANE_STAT.STATE l) == 6 && s.get (R.LANE_CFG.PROTO l) == 0
    && t % 2 ^ s.get (R.LINK_CFG.MK_DIV l) == 0

/-- Position 0 of the marker intervals that begin with tick `t` carries a tick marker (R370, R373). -/
def sendMarkers (t : Nat) (s : State) : State :=
  forEach (s.markLanes t) (fun l s =>
    let m := markerPayload s.hold t (tcrc (s.trg l).txIv)
    sendBlock l 2 m (s.modTrg l fun p => { p with txIv := [], txMark := m })) s

/-! ## The tick counter and the schedule -/

/-- Handle `h` of the schedule. -/
def State.sched (s : State) (h : Nat) : SchedEnt := at' s.clk.sched h ⟨0, 0, 0, 0, 0⟩

/-- `ARMED` of the swap sets follows the pending entries that name them (R241). -/
def refreshArmed (s : State) : State :=
  forEach (List.range 16) (fun k s => s.setB (R.SWAP_CTL.ARMED k) (s.clk.sched.any fun e =>
    (e.2.st == 1 || e.2.st == 4) && e.2.action == 1 && e.2.arg == k)) s

/-- Handle `h` becomes `e`. -/
def State.setSched (s : State) (h : Nat) (e : SchedEnt) : State :=
  refreshArmed { s with clk := { s.clk with sched := putD s.clk.sched h ⟨0, 0, 0, 0, 0⟩ e } }

/-- The boundary that begins tick `t` has come: the counter shows `t`, strobes of the tick before end, the entries of `t` are
due, and tick markers leave the lanes (R74, R80, R370). -/
def beginTick (t : Nat) (s : State) : State :=
  let due := s.clk.sched.map fun p => (p.1, if p.2.st = 1 ∧ p.2.tick = t then { p.2 with st := 4 } else p.2)
  sendMarkers t { s with clk := { s.clk with tick := t, strobe := [], sched := due } }

/-- The tick that the next boundary begins without a load. -/
def State.nextTick (s : State) : Nat := (s.clk.tick + 1) % tickMod

/-- The value that a load brings at the next boundary, if one is due there: of two, the one accepted later (R78, R100).
(DESIGN CHOICE, assumption 41) -/
def State.loadAt (s : State) : Option Nat :=
  if s.clk.running then ((s.clk.loads.reverse).find? fun l => l.2 == s.nextTick).map fun l => l.1 else none

/-- A load takes effect at the next boundary (R78). -/
def State.loadDue (s : State) : Bool := s.loadAt.isSome

/-- A load of value `v` at boundary tick `b` is accepted; loads for other boundaries still wait for theirs (R78, R100).
(DESIGN CHOICE, assumption 41) -/
def State.addLoad (s : State) (v b : Nat) : State := { s with clk := { s.clk with loads := s.clk.loads ++ [(v, b)] } }

/-- TICK_BOUNDARY: the counter starts at 0 at the first MCLK edge after the first lock, and afterwards increments (R74).
A boundary at which a load takes effect is the row TICK_LOAD. (DESIGN CHOICE, assumption 41) -/
def execTickBoundary (s : State) : Out :=
  if !s.up then .next s
  else if s.clk.startDue then
    .next (beginTick 0 { s with clk := { s.clk with startDue := false, running := true } })
  else if s.clk.running && !s.loadDue then .next (beginTick s.nextTick s)
  else .next s

/-- An entry is removed unperformed and reported (R83). -/
def missEntry (h : Nat) (s : State) : State :=
  let e := s.sched h
  raise 0x0505 [(1, h), (6, e.tick)] (s.setSched h { e with st := 3 })

/-- Entries that a forward load from `o` to `n` skips (R83). -/
def skipEntries (o n : Nat) (s : State) : State :=
  let d := (n + (tickMod - o)) % tickMod
  if 1 ≤ d ∧ d < 2 ^ 47 then
    forEach (List.range 256) (fun h s =>
      let e := s.sched h
      if e.st = 1 ∧ (e.tick + (tickMod - o)) % tickMod < d then missEntry h s else s) s
  else s

/-- TICK_LOAD: the loaded value takes effect at its boundary, `STEP` is set, and a forward load reports the entries that
it skips (R78, R83). Watermarks follow the counter as loaded (R119). (DESIGN CHOICE, assumption 41) -/
def execTickLoad (s : State) : Out :=
  match s.loadAt with
  | some v =>
    if s.up then
      let o := s.nextTick
      let s1 := { s.set R.MCLK_STAT.STEP 1 with
        clk := { s.clk with loads := s.clk.loads.filter fun l => l.2 != o }
        io := { s.io with banks := s.io.banks.map fun (e : Nat × IoBank) => (e.1, { e.2 with wmTick := none }) } }
      .next (beginTick v (skipEntries o v { s1 with clk := { s1.clk with tick := v } }))
    else .next s
  | none => .next s

/-- TICK_LO_READ: the read captures the tick and `HOLD` (R79). (DESIGN CHOICE, assumption 41) -/
def execTickLoRead (s : State) : Out :=
  if s.fcbOn then
    .next ((((s.set R.TICK_LO.TICK_L s.clk.tick).set R.TICK_HI.TICK_H (s.clk.tick / 2 ^ 32)).setB
      R.TICK_HI.SNAP_HOLD s.hold).setB R.TICK_HI.VALID s.clk.running)
  else .next s

/-! ## Crossings -/

/-- The crossings into function `f`. (DESIGN CHOICE, assumption 211) -/
def State.xing (s : State) (f : Nat) : Xing := at' s.clk.xing f Xing.init

/-- The crossings into function `f` become `x`. -/
def State.setXing (s : State) (f : Nat) (x : Xing) : State :=
  { s with clk := { s.clk with xing := putD s.clk.xing f Xing.init x } }

/-- Change the crossings into function `f`. -/
def State.modXing (s : State) (f : Nat) (g : Xing → Xing) : State := s.setXing f (g (s.xing f))

/-- Function group of function `f` (Table 3-13, Table 17-19). (DEDUCED, assumption 211) -/
def xingGroup (f : Nat) : Nat :=
  if f < 0x80 then 0 else if f < 0x98 then 1 else if f < 0x9C then 2 else if f < 0xA0 then 3 else if f < 0xA8 then 4
  else if f < 0xB0 then 5 else if f < 0xB2 then 6 else if f < 0xC0 then 7 else 8

/-- A write that cannot stall enters the handshake into function `f`: it is held until its acknowledge, waits in the
pending slot, or replaces what waits there and sets `OVERRUN` (R88). -/
def Xing.offer (x : Xing) (w : XWrite) : Xing :=
  if x.req.isNone then { x with req := some w }
  else { x with pend := some w, overrun := x.overrun || x.pend.isSome }

/-- The handshake is free of the value that it holds, and the pending one is sent (R88). -/
def Xing.advance (x : Xing) : Xing := { x with req := x.pend, pend := none }

/-- A pulse at the source of a pulse crossing: what the crossing becomes, whether a request leaves, and whether `OVERRUN` is
set (R90). -/
def PulseX.pulse (x : PulseX) : PulseX × Bool × Bool :=
  if !x.busy then (⟨true, x.pend⟩, true, false) else (⟨true, true⟩, false, x.pend)

/-- The acknowledge phase of a pulse crossing ends, and a pending pulse is sent (R90). -/
def PulseX.ack (x : PulseX) : PulseX × Bool := if x.busy && x.pend then (⟨true, false⟩, true) else (⟨false, x.pend⟩, false)

/-- Number of a Gray FIFO. -/
def fifoNum : FifoId → Nat
  | .hitPort b => b.val
  | .cachePort r => 64 + r.val
  | .laneRx l => 256 + l.val
  | .nocPort r => 512 + r.val
  | .farPath a b => 1024 + 4 * a.val + b.val

/-- Quadrants' mesh functions and the owners of a Gray FIFO's two sides, by function number (Table 17-19). -/
def fifoOwners : FifoId → List Nat
  | .hitPort b => [0xA8 + b.val / 4, bankRegion b]
  | .cachePort r => [r.val, 0x98 + quadOf r.val]
  | .laneRx l => [0x80 + l.val / 4]
  | .nocPort r => [r.val, 0xA0 + quadOf r.val]
  | .farPath a b => [0x98 + a.val, 0x98 + b.val]

/-- POINTER_RESYNC_DONE: the acknowledge has arrived and both sides resume (R87). It waits for both sides to leave
reset. -/
def execPointerResyncDone (fifo : FifoId) (s : State) : Out :=
  if s.up && s.resyncing (fifoNum fifo) && !(fifoOwners fifo).any s.held then
    .next { s with clk := { s.clk with resync := s.clk.resync.filter fun n => n != fifoNum fifo } }
  else .next s

/-! ## Commands of Table 3-14 -/

/-- TIME_GET: tick snapshot, `MCLK_STAT` and `CLK_LOCK` (Table 3-14). -/
def execTimeGet (mb : Nat) (s : State) : Out :=
  .next (talnum mb 0x0500 [] (fun s => .ret
    [(6, s.clk.tick),
     (4, s.get R.MCLK_STAT.SRC + 2 * s.get R.MCLK_STAT.PRESENT + 4 * s.get R.MCLK_STAT.HOLD
        + 8 * s.get R.MCLK_STAT.LOSS + 16 * s.get R.MCLK_STAT.RELOCK + 32 * s.get R.MCLK_STAT.STEP
        + 64 * s.get R.MCLK_STAT.MCLK_IE + 256 * s.get R.MCLK_STAT.FREQ_KHZ),
     (4, s.get R.CLK_LOCK.LOCK)] s) s)

/-- Action, target and argument lie within Table 3-8. -/
def schedArgsOk (action target arg : Nat) : Bool :=
  match action with
  | 1 => target == 0 && decide (arg < 16)
  | 2 => target == 0 && arg == 0
  | 3 => decide (target < 16) && decide (arg < 2 ^ 32)
  | 4 => (decide (target < 128) || target == 0xFFFF) && arg == 0
  | 5 => decide (target < 16) && decide (arg < 4096)
  | _ => false

/-- Handles that hold no pending entry. (DESIGN CHOICE, assumptions 39, 177) -/
def State.freeHandles (s : State) : List Nat :=
  (List.range 256).filter fun h => !((s.sched h).st == 1 || (s.sched h).st == 4)

/-- Place an entry in a free handle; which one is a free choice of the device (R81). (DESIGN CHOICE, assumptions 39,
177) -/
def schedPlace (tick action target arg : Nat) (s : State) : Option (Nat × State) :=
  let l := s.freeHandles
  if l = [] then none
  else
    let h := l.getD (s.freeBelow l.length) 0
    some (h, s.useFree.setSched h ⟨1, tick, action, target, arg⟩)

/-- SCHED_ADD (R81). -/
def execSchedAdd (mb tick action target arg : Nat) (s : State) : Out :=
  .next (talnum mb 0x0501 [(6, tick), (1, action), (2, target), (4, arg)] (fun s =>
    if !s.tickAhead tick || !schedArgsOk action target arg
        || s.clk.sched.any (fun p => (p.2.st == 1 || p.2.st == 4) && p.2.tick == tick && p.2.action == action
          && p.2.target == target) then .fail stBadArg s
    else match schedPlace tick action target arg s with
      | some (h, s) => .ret [(1, h)] s
      | none => .fail stNoResource s) s)

/-- State of a handle as `SCHED_CANCEL` names it: 0 pending, 1 fired, 2 missed, 3 free (R84). An entry whose boundary
has come counts as fired, or as missed in a mode that does not perform it. -/
def handleState (s : State) (e : SchedEnt) : Nat :=
  match e.st with
  | 1 => 0
  | 2 => 1
  | 3 => 2
  | 4 => if s.runClass || (decide (s.mode = mQuiescent) && (e.action == 2 || e.action == 3)) then 1 else 2
  | _ => 3

/-- SCHED_CANCEL (R84): a pending entry is removed; any other handle answers `DENIED` with its state. (DEDUCED,
assumption 40) -/
def execSchedCancel (mb handle : Nat) (s : State) : Out :=
  .next (talnum mb 0x0502 [(2, handle)] (fun s =>
    if 256 ≤ handle then .fail stBadArg s
    else
      let e := s.sched handle
      if e.st = 1 then .ret [(1, 0)] (s.setSched handle ⟨0, 0, 0, 0, 0⟩)
      else .done stDenied (leBytes 1 (handleState s e)) s) s)

/-- SCHED_LIST: entries of the named handles (Table 3-14). (DEDUCED, assumption 40) -/
def execSchedList (mb first count : Nat) (s : State) : Out :=
  .next (talnum mb 0x0503 [(2, first), (1, count)] (fun s =>
    if 256 ≤ first ∨ count < 1 ∨ 16 < count then .fail stBadArg s
    else .ret (((List.range count).map (first + ·)).flatMap fun h =>
      let e := s.sched h
      if h < 256 ∧ (e.st = 1 ∨ e.st = 4) then [(1, h), (6, e.tick), (1, e.action), (2, e.target), (4, e.arg)] else []) s)
    s)

/-- A setting is taken by its synthesizer, which unlocks and waits until it relocks (R67, R100). -/
def applySetting (dom mode n d : Nat) (s : State) : State :=
  let y := s.synth dom
  (s.setSynth dom { y with mode := mode, n := n, d := d, wait := true, bad := false }).setBit R.CLK_LOCK.LOCK dom false

/-- Frequency of domain `d` in kHz as measured: fixed by Table 3-1, by its setting, or open. (DESIGN CHOICE, assumption
34) -/
def State.domainKHz (s : State) (d : Nat) : Nat :=
  if settable d then
    let y := s.synth d
    let (f, q) := settingFreq y.mode y.n y.d (s.get R.MCLK_STAT.FREQ_KHZ)
    f / q
  else match d with
    | 0 => 12500
    | 2 => s.get R.MCLK_STAT.FREQ_KHZ
    | 4 => 1600000
    | 5 | 6 | 7 | 8 => 1200000
    | 9 => 400000
    | 10 | 11 => 800000
    | 12 => 200000
    | 16 => 100000
    | _ => Config.clockKHz d

/-- CLK_GET: mode, N, D, frequency in kHz and lock state of a domain (Table 3-14). -/
def execClkGet (mb domain : Nat) (s : State) : Out :=
  .next (talnum mb 0x0505 [(1, domain)] (fun s =>
    if 24 < domain then .fail stBadArg s
    else
      let y := s.synth domain
      let (m, n, d) := if settable domain then (y.mode, y.n, y.d)
        else (Config.clockSetting domain 0, Config.clockSetting domain 1, Config.clockSetting domain 2)
      .ret [(1, m), (1, n), (1, d), (4, s.domainKHz domain), (1, (s.get R.CLK_LOCK.LOCK) / 2 ^ domain % 2)] s) s)

/-- TIME_SET (R100); several accepted loads each wait for their boundary. (DESIGN CHOICE, assumption 41) -/
def execTimeSet (mb tick boundary : Nat) (s : State) : Out :=
  .next (talnum mb 0x0506 [(6, tick), (6, boundary)]
    (checks [(!s.clk.running, stDenied), (!s.tickAhead boundary, stBadArg)]
      fun s => .ok (s.addLoad tick boundary)) s)

end Sys2Proof.Machine
end

