-- ==== Sys2Proof/Machine/LaneOps.lean ====
section
/-! DEFINITION. Operations on lanes and bundles that several commands share: rates, modes, bring-up, going down and
the entry to Up ("Serial Lanes", "The Spaif Link and Systems of Many Devices"). -/

namespace Sys2Proof.Machine

/-! ## Lane states of Table 11-2 -/

def lsOff : Nat := 0
def lsIdle : Nat := 1
def lsAcquire : Nat := 2
def lsFrame : Nat := 3
def lsTrain : Nat := 4
def lsAlign : Nat := 5
def lsUp : Nat := 6
def lsDoze : Nat := 7
def lsSleep : Nat := 8
def lsTest : Nat := 9
def lsFail : Nat := 15

/-- State of lane `l`. -/
def State.laneState (s : State) (l : Nat) : Nat := s.get (R.LANE_STAT.STATE l)

/-- Lane `l` is in bring-up. -/
def State.bringing (s : State) (l : Nat) : Bool := decide (lsAcquire ≤ s.laneState l) && decide (s.laneState l ≤ lsAlign)

/-- Transmit domain of the side of lane `l`. -/
def sideDomain (l : Nat) : Nat := 17 + l / 24

/-- K of lane `l`. -/
def State.laneK (s : State) (l : Nat) : Nat := 2 ^ s.get (R.LANE_CFG.KDIV l)

/-- BASE-R operation (R402). (DESIGN CHOICE, assumption 122) -/
def State.baseR (s : State) (l : Nat) : Bool := s.get (R.LANE_CFG.PROTO l) == 1 || s.get (R.LANE_CFG.PROTO l) == 2

/-- The line rate lies within 1.25–56.0 Gbit/s (R332); before a setting is known it is not judged. -/
def State.rateOk (s : State) (l : Nat) : Bool :=
  let y := at' s.clk.synth (sideDomain l) ⟨0, 0, 0, 0, false, false⟩
  if y.n = 0 then true
  else
    let (f, q) := if y.mode = 0 then (s.get R.MCLK_STAT.FREQ_KHZ * y.n, 1) else (100000 * y.n, y.d)
    decide (1250000 * q * s.laneK l ≤ 66 * f) && decide (66 * f ≤ 56000000 * q * s.laneK l)

/-- Lane `l` is tick-aligned: its side is Locked and K divides M (R333). -/
def State.laneAligned (s : State) (l : Nat) : Bool :=
  let y := at' s.clk.synth (sideDomain l) ⟨0, 0, 0, 0, false, false⟩
  y.mode == 0 && y.n != 0 && y.n % s.laneK l == 0

/-- Lane `l` is in fixed mode (R349). -/
def State.fixedMode (s : State) (l : Nat) : Bool := s.laneAligned l && s.flag (R.LANE_CFG.FL_EN l) && !s.baseR l

/-- `FL_LAT` obeys R353. (DEDUCED, assumption 102) -/
def flOk (k lm v : Nat) : Bool := v % k == 0 && decide (lm + 2 * k ≤ v) && decide (v ≤ lm + 60 * k)

/-- The smallest multiple of K that is at least `L_MEAS` + 2K (R353). -/
def flFallback (k lm : Nat) : Nat := (lm + 2 * k + k - 1) / k * k

/-! ## Bundles -/

/-- First lane of the bundle that holds lane `l` (R369). -/
def State.bundleOf (s : State) (l : Nat) : Nat :=
  if s.get (R.LINK_CFG.BW (l / 4 * 4)) = 2 then l / 4 * 4
  else if s.get (R.LINK_CFG.BW (l / 2 * 2)) = 1 then l / 2 * 2
  else l

/-- Lanes of the bundle that begins with lane `f`. -/
def State.bundleLanes (s : State) (f : Nat) : List Nat :=
  (List.range (match s.get (R.LINK_CFG.BW f) with | 1 => 2 | 2 => 4 | _ => 1)).map (f + ·)

/-- Bundle state. -/
def State.bdl (s : State) (f : Nat) : Bundle := at' s.link.bundles f Bundle.init

/-- Change bundle state. -/
def State.modBdl (s : State) (f : Nat) (g : Bundle → Bundle) : State :=
  { s with link := { s.link with bundles := putD s.link.bundles f Bundle.init (g (s.bdl f)) } }

/-- Change the link state. -/
def State.modLink (s : State) (f : Link → Link) : State := { s with link := f s.link }

/-- Epoch of bundle `f` (R383). (DEDUCED, assumption 31) -/
def State.epochOf (s : State) (f : Nat) : Nat := if (s.bdl f).epoch = 0 then s.link.bootEpoch else (s.bdl f).epoch

/-- Blocks of the received stream of bundle `f` are taken: the bundle is Up, carries Spaif, and no skew error holds the
stream (R371, R383). -/
def State.streamOpen (s : State) (f : Nat) : Bool :=
  s.flag (R.LINK_STAT.LINK_UP f) && !s.baseR f && !(s.bdl f).skewHold

/-- A timing message waits at bundle `f`: code and fields [63:12] (Table 12-3). (DESIGN CHOICE, assumption 117) -/
def queueTiming (f code fields : Nat) (s : State) : State :=
  s.modBdl f fun b => { b with timing := b.timing ++ [(code, fields)] }

/-- A Twin pair is to be formed: strapped, not yet formed, after the last Blocking step or in a run-class mode (R42,
R397). (DEDUCED, assumption 118) -/
def State.pairing (s : State) : Bool :=
  let t := s.get R.STRAP_LATCH.TWIN
  (t == 1 || t == 2) && !s.flag R.DEV_MODE.COND_TWIN && (s.aon.pairWait || s.runClass)

/-- The image identity goes to the partner (R397). (DEDUCED, assumption 118) -/
def sendPairId (s : State) : State :=
  if s.pairing && s.flag (R.LINK_STAT.LINK_UP 92) then queueTiming 92 4 (s.get R.CFG_ID.IMAGE_ID) s else s

/-- What R397 asks for holds at this end: the bundle, the roles, the identities, and 1,024 ticks without `TICK_MIS`. -/
def State.pairReady (s : State) : Bool :=
  let own := s.get R.STRAP_LATCH.TWIN
  s.pairing && s.flag (R.LINK_STAT.LINK_UP 92) && s.link.farRole == some (3 - own)
    && s.link.farImage == some (s.get R.CFG_ID.IMAGE_ID) && s.link.start.isNone
    && (match s.link.lastMis with
      | some t => decide (1024 ≤ (s.clk.tick + (tickMod - t % tickMod)) % tickMod)
      | none => true)

/-- The primary names the start tick, at least 1,024 ticks ahead (R397). (DEDUCED, assumption 118; DESIGN CHOICE,
assumption 119) -/
def tryPair (s : State) : State :=
  if s.pairReady && decide (s.get R.STRAP_LATCH.TWIN = 1) then
    let t := (s.clk.tick + 1024 + s.freeBelow 65536) % tickMod
    queueTiming 92 5 t (s.useFree.modLink fun k => { k with start := some t, pairId := s.devId })
  else s

/-- When every lane of the bundle is Up the bundle is Up, and each end sends `INIT` (R383). -/
def bundleCheckUp (l : Nat) (s : State) : State :=
  let f := s.bundleOf l
  if (s.bundleLanes f).all (fun k => s.laneState k == lsUp) && !s.flag (R.LINK_STAT.LINK_UP f) then
    let s := (s.set (R.LINK_STAT.LINK_UP f) 1).modBdl f fun b => { b with skewHold := false, txPos := 0 }
    if s.baseR f then s
    else
      let s := queueTiming f 3 (s.epochOf f + 2 ^ 16 * s.devId + 2 ^ 36 * s.get R.TWIN_STAT.ROLE) s
      applyIf (f == 92) sendPairId s
  else s

/-- A bundle with a lane that is not Up is down, and its stream stops (R383); the loss of the parent link in a run-class mode
removes MCLK where the timing lane gives it (R390). -/
def bundleCheckDown (l : Nat) (s : State) : State :=
  let f := s.bundleOf l
  let lost := s.flag (R.LINK_STAT.LINK_UP f) && s.runClass && s.flag R.STRAP_LATCH.MCLK_SRC
    && s.get R.SYNC_STAT.PARENT == f && s.clk.lockMeas.isSome && !s.hold
  applyIf lost loseMclk (s.set (R.LINK_STAT.LINK_UP f) 0)

/-! ## Commands that wait for lanes -/

/-- Record of a lane in the completion of `LANE_UP` (R368). -/
def State.laneRecord (s : State) (l : Nat) : List (Nat × Nat) :=
  [(1, s.laneState l), (1, s.get (R.LANE_STAT.REASON l)), (2, s.get (R.LANE_FL.L_MEAS l)),
   (1, if (s.lst l).upLate then 1 else 0)]

/-- Lanes of a mask. -/
def maskLanes (mask : Nat) : List Nat := (List.range 96).filter mask.testBit

/-- A `LANE_UP` completes when every named lane is Up or Fail; any failed lane gives `TIMEOUT` (R368). -/
def settleUps (s : State) : State :=
  forEach s.lane.ups (fun u s =>
    let ls := maskLanes u.mask
    if ls.all fun l => s.laneState l == lsUp || s.laneState l == lsFail then
      let late := ls.any fun l => (s.lst l).upLate
      let failed := ls.any fun l => s.laneState l == lsFail
      let s := { s with lane := { s.lane with ups := s.lane.ups.erase u } }
      finishCmd u.serial (if failed then stTimeout else stOk) (pack (ls.flatMap s.laneRecord)) late s
    else s) s

/-! ## State changes -/

/-- Lane `l` takes state `st`. -/
def setLane (l st : Nat) (s : State) : State := s.set (R.LANE_STAT.STATE l) st

/-- Lane `l` enters Fail with its reason and raises `LANE_FAIL` (R342). -/
def failLane (l reason : Nat) (s : State) : State :=
  settleUps (raise 0x0402 [(1, l), (1, reason)] ((setLane l lsFail s).set (R.LANE_STAT.REASON l) reason))

/-- Bring-up starts at Acquire; a fenced lane stays Off, a rate outside its limits leaves the lane Off with reason 9h, and a
side that is not locked makes it wait in Idle (R332, R338, R362, Table 19-7). (DEDUCED, assumption 98) -/
def bringUp (l : Nat) (s : State) : State :=
  if s.test.fenced.contains (8, l) then setLane l lsOff s
  else if !s.rateOk l then (setLane l lsOff s).set (R.LANE_STAT.REASON l) 9
  else if !s.bit R.CLK_LOCK.LOCK (sideDomain l) then (setLane l lsIdle s).modLane l fun b => { b with waitClk := true }
  else
    let s := s.modLane l fun b =>
      { b with waitClk := false, reqPend := false, retries := 0, trainRx := 0, alignRx := 0, alignTx := false,
               flSet := false, slips := 0, upLate := false, rxHalf := 0, exiting := false, trgEmpty := false, kept := false }
    let s := forEach [R.LANE_STAT.CDR_LOCK l, R.LANE_STAT.BLK_LOCK l, R.LANE_STAT.FROZEN l, R.LANE_STAT.FL_OK l]
      (fun f s => s.set f 0) s
    setLane l lsAcquire s

/-- Lane `l` enters Up; in fixed mode `FL_LAT` is used or falls back (R353). -/
def enterUp (l : Nat) (late : Bool) (s : State) : State :=
  let s := (setLane l lsUp s).modLane l fun b => { b with upLate := late, exiting := false }
  let s :=
    if s.fixedMode l then
      let k := s.laneK l
      let lm := s.get (R.LANE_FL.L_MEAS l)
      let v := s.get (R.LANE_FL.FL_LAT l)
      if flOk k lm v then (s.set (R.LANE_STAT.FL_OK l) 1).modLane l fun b => { b with flUsed := v }
      else raise 0x0404 [(1, l)]
        ((s.set (R.LANE_STAT.FL_OK l) 0).modLane l fun b => { b with flUsed := flFallback k lm })
    else s.set (R.LANE_STAT.FL_OK l) 0
  settleUps (bundleCheckUp l s)

/-- An Up lane goes down with a reason (R343): flags, the event, and a restart, Idle or Off. A quad reset leaves it
Off; the loss of the side clock makes a restart wait for the relock (R362). -/
def downLane (l reason : Nat) (s : State) : State :=
  let s := ((s.set (R.LANE_STAT.DOWN l) 1).inc (R.LANE_STAT.DOWN_CNT l)).set (R.LANE_STAT.REASON l) reason
  let s := raise 0x0403 [(1, l), (1, reason)] (bundleCheckDown l s)
  let s := forEach [R.LANE_STAT.CDR_LOCK l, R.LANE_STAT.BLK_LOCK l] (fun f s => s.set f 0) s
  if reason = 0xB then setLane l lsOff s
  else if s.flag (R.LANE_CFG.AUTO_RETRAIN l) then
    if reason = 0xA then (setLane l lsIdle s).modLane l fun b => { b with waitClk := true } else bringUp l s
  else setLane l lsIdle s

/-- A quad reset takes the lanes of quad `q` to Off with reason Bh and keeps their settings; its bridges' packets
complete with `LINK_FAIL` by R383 when the far end sees a new epoch (R362). -/
def quadReset (q : Nat) (s : State) : State :=
  let s := s.modLink fun k => { k with epoch := (k.epoch + 1) % 65536 }
  forEach ((List.range 4).map (4 * q + ·)) (fun l s =>
    let s := if s.laneState l = lsUp then downLane l 0xB s
      else (setLane l lsOff s).set (R.LANE_STAT.REASON l) 0xB
    let s := forEach [R.LANE_STAT.CDR_LOCK l, R.LANE_STAT.BLK_LOCK l, R.LANE_STAT.FROZEN l] (fun f s => s.set f 0) s
    let s := { s with lane := { s.lane with lanes := putD s.lane.lanes l LaneSt.init LaneSt.init } }
    startResync (256 + l) (s.modBdl l fun b => { b with epoch := s.link.epoch })) s

/-- The quad's reset is released: lanes with `EN` = 1 restart bring-up (R362). -/
def quadRelease (q : Nat) (s : State) : State :=
  forEach ((List.range 4).map (4 * q + ·)) (fun l s => applyIf (s.flag (R.LANE_CFG.EN l)) (bringUp l) s) s

/-- The side transmit domain `d` has lost lock: every lane of the side goes down with reason Ah (R362). (DEDUCED,
assumption 36) -/
def sideLost (d : Nat) (s : State) : State :=
  forEach ((List.range 24).map (24 * (d - 17) + ·)) (fun l s =>
    if s.laneState l = lsUp ∨ s.laneState l = lsDoze ∨ s.laneState l = lsSleep ∨ s.bringing l then downLane l 0xA s
    else s) s

/-- The side domain has relocked: the lanes that wait restart bring-up (R362). (DEDUCED, assumption 36) -/
def sideLocked (d : Nat) (s : State) : State :=
  forEach ((List.range 24).map (24 * (d - 17) + ·)) (fun l s => applyIf (s.lst l).waitClk (bringUp l) s) s

/-- A setting of domain `d` changes. A side domain relocks, so its lanes go down (R67, R362); a lane that is no longer
tick-aligned presents `EMPTY` in its trigger slots (R376), and one whose rate has left the range is Off with reason 9h
(R332). (DEDUCED, assumption 36) -/
def changeSetting (d mode n q : Nat) (s : State) : State :=
  let s1 := applySetting d mode n q s
  if 17 ≤ d ∧ d ≤ 20 then
    let ls := (List.range 24).map (24 * (d - 17) + ·)
    let s2 := forEach (ls.filter fun l => s.laneAligned l && !s1.laneAligned l)
      (fun l s => s.modLane l fun b => { b with trgEmpty := true }) (sideLost d s1)
    forEach (ls.filter fun l => s2.flag (R.LANE_CFG.EN l) && s2.laneState l != lsTest && !s2.rateOk l)
      (fun l s => (setLane l lsOff s).set (R.LANE_STAT.REASON l) 9) s2
  else s1

/-- A lane enters Doze or Sleep after its notice blocks (R358). -/
def dozeLane (sleep : Nat) (l : Nat) (s : State) : State :=
  setLane l (if sleep = 0 then lsDoze else lsSleep) (s.modLane l fun b => { b with exiting := false })

/-- A dozing lane starts its exit: from Doze through the Align pattern, from Sleep through bring-up (R359). -/
def exitDoze (l : Nat) (s : State) : State :=
  if s.laneState l = lsDoze then s.modLane l fun b => { b with exiting := true }
  else if s.laneState l = lsSleep then (bringUp l s).modLane l fun b => { b with kept := true }
  else s

end Sys2Proof.Machine
end

