-- ==== Sys2Proof/Machine/FabOps.lean ====
section
/-! DEFINITION. Operations on regions that several chapters share: planes and their states, clock nets, set/reset,
borders, and the swap itself ("Cells, Clusters and Fabric Clocking", "Routing in Three Dimensions and Region Borders",
"Contexts, Hoods and the One-Cycle Swap"). -/

namespace Sys2Proof.Machine

/-! ## Planes and regions -/

/-- Plane `p` of region `r`. -/
def State.plane (s : State) (r p : Nat) : Plane := at' s.ctx.planes (4 * r + p) Plane.empty

/-- Change plane `p` of region `r`. -/
def State.modPlane (s : State) (r p : Nat) (f : Plane → Plane) : State :=
  { s with ctx := { s.ctx with planes := putD s.ctx.planes (4 * r + p) Plane.empty (f (s.plane r p)) } }

/-- Context machinery of region `r`. -/
def State.ctxR (s : State) (r : Nat) : CtxR := at' s.ctx.regions r CtxR.init

/-- Change the context machinery of region `r`. -/
def State.modCtx (s : State) (r : Nat) (f : CtxR → CtxR) : State :=
  { s with ctx := { s.ctx with regions := putD s.ctx.regions r CtxR.init (f (s.ctxR r)) } }

/-- Change the fabric state. -/
def State.modFab (s : State) (f : Fab → Fab) : State := { s with fab := f s.fab }

/-- Field that shows the state of plane `p`. -/
def psField (r p : Nat) : Fld :=
  match p with
  | 0 => R.CTX_STAT.PS0 r | 1 => R.CTX_STAT.PS1 r | 2 => R.CTX_STAT.PS2 r | _ => R.CTX_STAT.PS3 r

def psEmpty : Nat := 0
def psLoading : Nat := 1
def psHood : Nat := 2
def psActive : Nat := 3

/-- State of plane `p` (Table 8-1). -/
def State.planeState (s : State) (r p : Nat) : Nat := s.get (psField r p)

/-- The Active plane of region `r`. -/
def State.activePlane (s : State) (r : Nat) : Nat := s.get (R.CTX_STAT.ACTIVE r)

/-- Region `r` has an Active plane. -/
def State.hasActive (s : State) (r : Nat) : Bool := s.planeState r (s.activePlane r) == psActive

/-- Code of block memory `m` (0–95) under a plane (Table 7-1). -/
def planeCode (p : Plane) (m : Nat) : Nat := bitsOf p.codes (2 * m) 2

/-- A plane that is not Empty uses block memory `m` of region `r`. -/
def State.planeUses (s : State) (r p m : Nat) : Bool :=
  s.planeState r p != psEmpty && planeCode (s.plane r p) m != 3

/-- `BM_STAT.PLANES` of region `r` follows the declarations of its planes. -/
def refreshPlanes (r : Nat) (s : State) : State :=
  forEach (List.range 96) (fun m s =>
    s.set (R.BM_STAT.PLANES (96 * r + m))
      ((List.range 4).foldl (fun a p => a + if s.planeUses r p m then 2 ^ p else 0) 0)) s

/-- Plane `p` takes state `st`. -/
def setPlaneState (r p st : Nat) (s : State) : State := s.set (psField r p) st

/-! ## Clock nets -/

/-- The stop gate of net `n`. -/
def State.gate (s : State) (n : Nat) : Gate := at' s.fab.gate n ⟨false, 0⟩

/-- The stop gates of region `r` are asked to close: the fabric clocks are stopped, the region is in reset, or a fence
holds (R159, Table 18-6). -/
def State.stopAsked (s : State) (r : Nat) : Bool := !s.fab.clocksOn || s.held r || s.flag (R.BORDER_STAT.FENCED r)

/-- Region `r` has source `src` of Table 5-10: trees and the local root everywhere, lane clocks and pin clocks at edge
regions with that many lanes and with a bank. -/
def sourceIn (r src : Nat) : Bool :=
  decide (src ≤ 4) || (src == 5 && (List.range 96).any fun l => laneRegion l == r)
    || (src == 6 && decide (2 ≤ ((List.range 96).filter fun l => laneRegion l == r).length))
    || ((src == 7 || src == 8) && (List.range 32).any fun b => bankRegion b == r)

/-- Source that net `n` uses (Table 5-10). -/
def State.netSrc (s : State) (n : Nat) : Nat :=
  if s.flag (R.RCN_CFG.SW_EN n) && s.flag (R.RCN_CFG.ACT_SRC n) then s.get (R.RCN_CFG.SRC_B n)
  else s.get (R.RCN_CFG.SRC_A n)

/-- The context-clock net of region `r`, as a device net number. -/
def State.ctxNet (s : State) (r : Nat) : Nat := 16 * r + s.get (R.CTX_CFG.CTX_NET r)

/-- The context clock of region `r` runs (R227, R255). -/
def State.ctxRuns (s : State) (r : Nat) : Bool :=
  let n := s.ctxNet r
  (s.gate n).isOpen && s.flag (R.RCN_CFG.RUNNING n)

/-- A source is a Locked FG tree (R97). (DEDUCED, assumption 56) -/
def State.lockedTree (s : State) (src : Nat) : Bool :=
  decide (src < 4) && (at' s.clk.synth (21 + src) ⟨0, 0, 0, 0, false, false⟩).mode == 0
    && s.bit R.CLK_LOCK.LOCK (21 + src)

/-- Net `n` is related to the context clock of its region (R97): the context net itself, a net on the same tree, or two
Locked trees. Pin clocks, lane clocks and the local root have no relation to another net (R154). (DEDUCED, assumption
56) -/
def State.relatedNet (s : State) (n : Nat) : Bool :=
  let c := s.netSrc (s.ctxNet (n / 16))
  let m := s.netSrc n
  n == s.ctxNet (n / 16) || (c == m && decide (c < 4)) || (s.lockedTree c && s.lockedTree m)

/-- Net `n` has edges of a source: one that the region has, that is not lost, whose tree is locked, and not while the net
switches (R67, R150, R151, R153). -/
def State.sourceRuns (s : State) (n : Nat) : Bool :=
  let c := s.netSrc n
  sourceIn (n / 16) c && !s.fab.lost.contains n && !s.fab.switching.contains n && (decide (4 ≤ c) || s.clocked (21 + c))

/-- The enable gate of net `n` holds it low (R152). -/
def State.enableLow (s : State) (n : Nat) : Bool := s.flag (R.RCN_CFG.CE_EN n) && s.fab.ceLow.contains n

/-- The shed gate of net `n` passes its next edge (R155). -/
def State.shedPasses (s : State) (n : Nat) : Bool :=
  let c := at' s.fab.phase n 0
  let p := s.get (R.RCN_CFG.SHED_PASS n)
  decide (c * p / 16 < (c + 1) * p / 16)

/-- The stop gate of net `n` after one source edge: a change asked for takes effect after two edges (R159). (DEDUCED,
assumption 55) -/
def State.nextGate (s : State) (n : Nat) : Gate :=
  let g := s.gate n
  let want := !s.stopAsked (n / 16)
  if g.isOpen = want then ⟨g.isOpen, 0⟩ else if g.edges < 2 then ⟨g.isOpen, g.edges + 1⟩ else ⟨want, 0⟩

/-- The next edge of the source of net `n` leaves the net's four stages (R150). -/
def State.passesNext (s : State) (n : Nat) : Bool :=
  s.sourceRuns n && !s.enableLow n && s.shedPasses n && (s.nextGate n).isOpen

/-- The last edge of net `n` of that polarity reached the flip-flops and hard blocks of its region (R150, R196, R215). -/
def State.acted (s : State) (n : Nat) (falling : Bool) : Bool :=
  s.fab.acts.contains (2 * n + if falling then 1 else 0)

/-- The context clock is tick-aligned (R62, R242). (DEDUCED, assumption 56) -/
def State.ctxAligned (s : State) (r : Nat) : Bool := s.lockedTree (s.netSrc (s.ctxNet r))

/-! ## Set/reset -/

/-- The global or the region set/reset is held in region `r` (R142, R143). -/
def State.srHeld (s : State) (r : Nat) : Bool :=
  s.flag R.FAB_CTL.GSR_HELD || s.held r || [3, 4, 5].contains (s.ctxR r).ow

/-- Every flip-flop of region `r` presents `INIT`, and its hard-block registers read 0 (R137, R211). -/
def initRegion (r : Nat) (s : State) : State :=
  let s := s.modFab fun f => { f with ff := dropKeys f.ff fun k => k / 200704 == r }
  { s with bm := { s.bm with
      ports := dropKeys s.bm.ports fun k => k / 192 == r
      ab := dropKeys s.bm.ab fun k => k / 160 == r } }

/-- The release of the set/reset reaches each of the 16 nets of region `r` (R144). -/
def releaseNets (r : Nat) (s : State) : State :=
  forEach (List.range 16) (fun k s => s.modFab fun f => { f with rel := put f.rel (16 * r + k) 3 }) s

/-! ## Repairs that a new plane cancels -/

/-- A region that `UNC_ACT` = 01b put into reset leaves it when the repair ends (R144, R480). -/
def endUncHold (r : Nat) (s : State) : State :=
  if !s.integ.uncHeld.contains r then s
  else
    let s := { s with integ := { s.integ with uncHeld := s.integ.uncHeld.filter fun k => k != r } }
    if !s.held r then s
    else
      let s := (s.setBit (R.RST_FUNC.HOLD (r / 32)) (r % 32) false).setBit (R.RST_ACT.ACT (r / 32)) (r % 32) false
      let s := { s with mgt := { s.mgt with draining := s.mgt.draining.filter fun k => k != r } }
      releaseNets r (s.modCtx r fun c => { c with rstCause := if c.rstCause = 1 then 0 else c.rstCause })

/-- Queued repairs of plane `k` (region × 4 + plane) are cancelled, with the commands that wait for them (R482); a region that
the Active plane's repair kept in reset leaves it. -/
def cancelRepairs (k : Nat) (s : State) : State :=
  let l := s.integ.asks.filter fun e => e.2.1 == k
  let s := { s with integ := { s.integ with
    queue := s.integ.queue.filter fun e => e.1 != k
    asks := s.integ.asks.filter fun e => e.2.1 != k } }
  let s := forEach l (fun e s => finishCmd e.1 stCancelled [] false s) s
  if k % 4 = s.activePlane (k / 4) then endUncHold (k / 4) s else s

/-- Plane `p` becomes Empty; its queued repairs are cancelled (R225, R482). -/
def emptyPlane (r p : Nat) (s : State) : State :=
  let s := (setPlaneState r p psEmpty s).modPlane r p fun _ => Plane.empty
  refreshPlanes r (cancelRepairs (4 * r + p) s)

/-! ## Borders -/

/-- Highest border cause of region `r` (Table 6-7). -/
def State.borderCause (s : State) (r : Nat) : Nat :=
  let c := s.ctxR r
  if s.flag (R.BORDER_STAT.FENCED r) then 4
  else if c.rstCause = 2 then 3
  else if [3, 4, 5].contains c.ow then 2
  else if c.inSwap && !s.flag (R.CTX_STAT.ROTATING r) then 1
  else 0

/-- Rotation of region `r` ends with the plane then running as Active (R250). (DEDUCED, assumption 73) -/
def endRotation (r : Nat) (s : State) : State :=
  ((s.set (R.CTX_STAT.ROTATING r) 0).set (R.CTX_CFG.ROT_EN r) 0).modCtx r fun c =>
    { c with rotPos := 0, rotStop := none, rotStart := none }

/-- Region that drives a border address (Table 6-9). -/
def borderRegion (a : Nat) : Nat := a / 2 ^ 21 % 128

/-- Bits set in the places of a list. (DEDUCED, assumption 154) -/
def maskOf (l : List Nat) : Nat := l.foldl (fun a i => a + 2 ^ i) 0

/-- The frames of a plane as they are stored, with the data bits that upsets have left wrong (R474, R478). -/
def Plane.stored (p : Plane) : SMap Nat :=
  p.bad.foldl (fun m e => put m e.1 (Nat.xor (at' m e.1 0) (maskOf (e.2.filter fun i => decide (i < 4096))))) p.frames

/-- The frames of the plane that drives region `r`. -/
def State.frames (s : State) (r : Nat) : SMap Nat := (s.plane r (s.activePlane r)).stored

/-- The output of its region at border address `a`; one that the active plane leaves unused is 0 (R177, R187). -/
def State.output (s : State) (a : Nat) : Nat :=
  if s.hasActive (borderRegion a) && Config.planeDrives (s.frames (borderRegion a)) a then at' s.fab.out a 0 else 0

/-- Border policy at address `a` under cause `c`: of the plane active at the commit or at the fence, else of the active
plane; hold-last where the image gives none (R178, Table 6-7). -/
def State.borderPolicy (s : State) (c a : Nat) : Nat :=
  let r := borderRegion a
  let own := (s.plane r (s.activePlane r)).border
  at' (if c = 2 then at' s.fab.policy (256 + r) own else if c = 4 then at' s.fab.policy (512 + r) own else own) a 1

/-- Interface cells that every cause but a swap forces to 0: `HS_READY` and `TP_REQ` (R184). -/
def forcedIface (a : Nat) : Bool := a.testBit 18 && decide (96 ≤ a % 8192)

/-- What the border cell, seam stage or interface cell with address `a` presents (R177–R184, R191, R249). -/
def State.present (s : State) (a : Nat) : Nat :=
  let r := borderRegion a
  let held := at' s.fab.hold a 0
  match s.borderCause r with
  | 0 => if s.flag (R.CTX_STAT.ROTATING r) then held else s.output a
  | 1 => held
  | c => if forcedIface a then 0 else match s.borderPolicy c a with
    | 0 => s.output a | 1 => held | 2 => 0 | _ => 1

/-- Border addresses of the regions `rs` that present a 1 (R178, R184, R191). -/
def State.ones (s : State) (rs : List Nat) : List Nat :=
  let pols := rs.flatMap fun r => (s.plane r (s.activePlane r)).border ++ at' s.fab.policy (256 + r) []
    ++ at' s.fab.policy (512 + r) []
  (s.fab.out ++ s.fab.hold ++ pols).filterMap fun e =>
    if rs.contains (borderRegion e.1) && s.present e.1 == 1 then some e.1 else none

/-- The border cells of region `r` begin to act: the values presented just before are kept through every cause that follows
until all have ended (R178, R182). -/
def beginHold (r : Nat) (s : State) : State :=
  if s.flag (R.BORDER_STAT.HOLDING r) then s
  else
    let now := s.fab.out.filter fun e => borderRegion e.1 == r && decide (s.present e.1 = 1)
    let s := if s.flag (R.CTX_STAT.ROTATING r) then s
      else s.modFab fun f =>
        { f with hold := now.foldl (fun m e => put m e.1 1) (dropKeys f.hold fun a => borderRegion a == r) }
    s.set (R.BORDER_STAT.HOLDING r) 1

/-- The border policies of the active plane are kept for the cause that begins: 256 a reload, 512 a fence (Table 6-7). -/
def keepPolicy (c r : Nat) (s : State) : State :=
  s.modFab fun f => { f with policy := put f.policy (c + r) (s.plane r (s.activePlane r)).border }

/-- Outputs of region `r` take the values listed (R177, R184, R191). -/
def recordOuts (r : Nat) (l : List (Nat × Bool)) (s : State) : State :=
  let mine := l.filter fun e => borderRegion e.1 == r
  s.modFab fun f => { f with out := mine.foldl (fun m e => putD m e.1 0 (if e.2 then 1 else 0)) f.out }

/-- `BORDER_STAT` of region `r` follows its causes; a cause other than a swap ends rotation (R181, R250). -/
def refreshBorder (r : Nat) (s : State) : State :=
  let b := s.borderCause r
  let s := applyIf (b != 0) (beginHold r) s
  let s := (s.set (R.BORDER_STAT.CAUSE r) b).setB (R.BORDER_STAT.HOLDING r) (b != 0)
  applyIf (decide (2 ≤ b) && s.flag (R.CTX_CFG.ROT_EN r)) (endRotation r) s

/-- `COND_REBLOCK` is 1 while an overwrite-active reload is in progress for some region (R255, R582). -/
def refreshReblock (s : State) : State :=
  refreshMode (s.setB R.DEV_MODE.COND_REBLOCK (s.ctx.regions.any fun e => e.2.ow != 0))

/-! ## The essential-error log -/

/-- An entry of the essential-error log (R483, Table 16-2): the oldest gives way in a full log, and `ESS_TOTAL` counts
every entry. (DEDUCED, assumption 197) -/
def logEss (kind flags addr bit wmask status : Nat) (s : State) : State :=
  let s := s.incWrap R.ESS_TOTAL.TOTAL
  let e : EssEnt := ⟨s.clk.tick, kind, flags + (if s.hold then 4 else 0), addr, bit, wmask,
    s.get R.ESS_TOTAL.TOTAL, status⟩
  let full := decide (256 ≤ s.integ.log.length)
  let l := (if full then s.integ.log.drop 1 else s.integ.log) ++ [e]
  let s := { s with integ := { s.integ with log := l } }
  applyIf full (fun s => s.inc R.LOG_STAT.OVF_CNT)
    ((s.set R.LOG_STAT.ENTRIES l.length).set R.LOG_STAT.NEW 1)

/-! ## Plume -/

/-- Plane `p` of region `r` is protected (R468). -/
def State.protPlane (s : State) (r p : Nat) : Bool := (s.plane r p).prot

/-- What `STATE` of plume pin `k` shows outside a cut: off, undefined, presenting (Table 16-4). -/
def State.plumeState (s : State) (k : Nat) : Nat :=
  let r := s.get (R.PLUME_SEL.REGION k)
  if s.flag (R.PLUME_SEL.EN k) && s.hasActive r && !s.flag (R.BORDER_STAT.FENCED r) && !([3, 4, 5].contains (s.ctxR r).ow)
      && Config.planeProbe (s.frames r) (s.get (R.PLUME_SEL.PROBE k)) then 1 else 0

/-- `STATE` of plume pin `k`: refused, cut, or as its selection now stands (Table 16-4). -/
def State.plumeShown (s : State) (k : Nat) : Nat :=
  if 2 ≤ s.get (R.PLUME_SEL.STATE k) then s.get (R.PLUME_SEL.STATE k) else s.plumeState k

/-- The word of `PLUME_SEL[k]`. -/
def State.plumeWord (s : State) (k : Nat) : Nat := s.cardWord (0x100 + 4 * k) % 2 ^ 16 + 2 ^ 16 * s.plumeShown k

/-- Plume pins of region `r` follow a swap: shown, or cut by protection with `PLUME_CUT` (R468, R488). -/
def swapPlume (r : Nat) (s : State) : State :=
  forEach (List.range 16) (fun k s =>
    if s.get (R.PLUME_SEL.REGION k) = r ∧ s.flag (R.PLUME_SEL.EN k) ∧ s.get (R.PLUME_SEL.STATE k) ≠ 2 then
      if s.protPlane r (s.activePlane r) && !s.flag R.SEC_PROT.DBG_PLUME then
        (s.set (R.PLUME_SEL.STATE k) 3).set R.SEC_STAT.PLUME_CUT 1
      else s.set (R.PLUME_SEL.STATE k) 0
    else s) s

/-! ## Flip-flops -/

/-- Key of flip-flop `i` of region `r`. -/
def ffKey (r i : Nat) : Nat := 200704 * r + i

/-- Flip-flop `i` of region `r` takes value `v`. -/
def setFf (r i : Nat) (v : Bool) (s : State) : State :=
  s.modFab fun f => { f with ff := put f.ff (ffKey r i) (if v then 1 else 0) }

/-- Value of flip-flop `i` of region `r`: 0 in a cell that the active plane leaves unused (R137), else as listed, or `INIT`
under the active plane. -/
def State.ffVal (s : State) (r i : Nat) : Bool :=
  (Config.cell (s.frames r) (i / 2)).used && match lookup s.fab.ff (ffKey r i) with
  | some v => v != 0
  | none => Config.ffInit (s.frames r) i

/-- The live flip-flops of region `r`, by index. -/
def State.live (s : State) (r : Nat) : SMap Nat :=
  (s.fab.ff.filter fun e => e.1 / 200704 == r).map fun e => (e.1 % 200704, e.2)

/-- The flip-flops of region `r` take the values listed, and `INIT` elsewhere. -/
def setLive (r : Nat) (m : SMap Nat) (s : State) : State :=
  s.modFab fun f => { f with
    ff := m.foldl (fun a e => put a (ffKey r e.1) e.2) (dropKeys f.ff fun k => k / 200704 == r) }

/-! ## The swap -/

/-- Settings [9:0] of `RCN_CFG[n]`. -/
def State.netSet (s : State) (n : Nat) : Nat :=
  s.get (R.RCN_CFG.SRC_A n) + 16 * s.get (R.RCN_CFG.SRC_B n) + 256 * s.get (R.RCN_CFG.SW_EN n)
    + 512 * s.get (R.RCN_CFG.CE_EN n)

/-- Net `n` takes settings `v`; a change is a select switch that begins now, and a net set to Off stays low (R235).
(DEDUCED, assumption 54) -/
def takeNet (n v : Nat) (s : State) : State :=
  if s.netSet n = v % 1024 then s
  else
    let s := (((s.set (R.RCN_CFG.SRC_A n) v).set (R.RCN_CFG.SRC_B n) (v / 16)).set (R.RCN_CFG.SW_EN n) (v / 256)).set
      (R.RCN_CFG.CE_EN n) (v / 512)
    s.modFab fun f => { f with
      lost := f.lost.filter fun k => k != n
      switching := if v % 16 = 15 then f.switching.filter fun k => k != n
        else if f.switching.contains n then f.switching else n :: f.switching }

/-- The nets of region `r` take the settings of plane `p` and the sheddable value of its critical mark (R235, R236).
(DEDUCED, assumption 54) -/
def takeNets (r p : Nat) (s : State) : State :=
  let pl := s.plane r p
  forEach (List.range 16) (fun k s =>
    let n := 16 * r + k
    let s := takeNet n (pl.nets.getD k 0xFF) s
    let s := s.setB (R.RCN_CFG.SHEDDABLE n) (!pl.critical)
    applyIf pl.critical (fun s => s.set (R.RCN_CFG.SHED_PASS n) 16) s) s

/-- The swap of region `r` to plane `q` at c0 (R231): the live state goes into the shadow of the outgoing plane, the
shadow of the incoming plane comes back, and the incoming configuration drives. (DEDUCED, assumption 70) -/
def swapTo (r q : Nat) (s : State) : State :=
  let p := s.activePlane r
  let live := s.live r
  let s := s.modCtx r fun c => { c with portWas := s.flag (R.CTX_CFG.PORT_EN r) }
  let s := s.modPlane r p fun x => { x with shadow := live }
  let s := setLive r (s.plane r q).shadow s
  let s := setPlaneState r q psActive (setPlaneState r p psHood (s.set (R.CTX_STAT.ACTIVE r) q))
  let s := takeNets r q s
  let s := (s.setB (R.CTX_CFG.PORT_EN r) (s.plane r q).portEn).incWrap (R.CTX_STAT.SWAP_CNT r)
  swapPlume r s

/-- The swap cycle of region `r` ends: the border cells and the suppression release, and an unrelated net still suppresses
two edges of each polarity (R583, Table 8-3). -/
def endSwap (r : Nat) (s : State) : State :=
  let s := s.modCtx r fun c => { c with inSwap := false }
  let s := forEach (List.range 16) (fun k s =>
    let n := 16 * r + k
    if s.relatedNet n then s else s.modFab fun f => { f with skip := put (put f.skip (2 * n) 2) (2 * n + 1) 2 }) s
  refreshBorder r s

/-! ## Plane states -/

/-- A change of plane state takes effect: a discarded hood becomes Empty, a loaded plane becomes a Hood (Table 8-2). -/
def placeState (r : Nat) (e : Nat × Nat × Nat) (s : State) : State :=
  if e.2.1 = psEmpty then finishCmd e.2.2 stOk [] false (emptyPlane r e.1 s) else setPlaneState r e.1 e.2.1 s

/-- Every change of plane state that waits in region `r` takes effect (R229). -/
def placeDue (r : Nat) (s : State) : State :=
  forEach (s.ctxR r).due (placeState r) (s.modCtx r fun c => { c with due := [] })

/-- A change of plane state is asked for: it waits for an edge of the context clock, and takes effect at once while that
clock does not run (R227, R229). (DEDUCED, assumption 214) -/
def askState (r p st serial : Nat) (s : State) : State :=
  if s.ctxRuns r then s.modCtx r fun c => { c with due := c.due ++ [(p, st, serial)] } else placeState r (p, st, serial) s

end Sys2Proof.Machine
end

