-- ==== Sys2Proof/Machine/Noc.lean ====
section
/-! DEFINITION. The commands of the NoC family: packets, routers, doors, route tables and the NoC Talnum commands
("The Network on Chip and the Hatband"). -/

namespace Sys2Proof.Machine

/-! ## Elements -/

/-- Quadrant mesh of a router, or 4 for a ring stop. -/
def meshOf (n : Nat) : Nat := if n < 128 then quadOf n else 4

/-- Reset function of quadrant mesh `q`, or of the Hatband (Table 17-19). -/
def meshFunc (q : Nat) : Nat := 0xA0 + q

/-- `RTR_STAT.STATE` of element `n`: Normal, Drain, Reset drain or Reset (Table 13-15). -/
def State.rtrState (s : State) (n : Nat) : Nat :=
  let r := at' s.noc.rst (meshOf n) 0
  if r ≠ 0 then r else if has s.noc.drain n then 1 else 0

/-- Port enables in force (Table 13-15). -/
def State.penAct (s : State) (n : Nat) : Nat := at' s.noc.penAct n (portMask n)

/-- VC modes in force. -/
def State.vc2Act (s : State) (n : Nat) : Nat := at' s.noc.vc2Act n 0

/-- The port that hop code `h` names at element `n`, if the code is valid there (Table 13-5). -/
def hopPort (n h : Nat) : Option Nat :=
  if n < 128 then
    if h < 5 then some h else if h = 5 ∧ isJoinRouter n then some 5 else none
  else
    if h < 2 then some h
    else if h = 4 ∧ n % 2 = 1 then some 4
    else if h = 5 ∧ n % 2 = 0 then some 5
    else none

/-- The join routers in the order of the even stops 0, 2, …, 30 (Table 13-1). (DEDUCED, assumption 131) -/
def joinRouters : List Nat := [1, 5, 10, 14, 31, 63, 79, 111, 126, 122, 117, 113, 96, 64, 48, 16]

/-- Element and input port at the far end of output port `o` of element `n`. -/
def neighbour (n o : Nat) : Nat × Nat :=
  if n < 128 then
    match o with
    | 0 => (n - 16, 2)
    | 1 => (n + 1, 3)
    | 2 => (n + 16, 0)
    | 3 => (n - 1, 1)
    | _ => (128 + 2 * joinRouters.idxOf n, 5)
  else
    match o with
    | 0 => (128 + (n - 128 + 1) % 32, 1)
    | 1 => (128 + (n - 128 + 31) % 32, 0)
    | _ => (joinRouters.getD ((n - 128) / 2) 0, 5)

/-- Ring strand of a packet (R406). -/
def strandOf (p : Pkt) : Nat := (Nat.xor p.srcEp p.ep) % 4

/-- Buffer channel of a packet at a port: its VC, or channel 0 or 1 of a link in 2-VC mode (R416). -/
def bufChan (vc2 : Bool) (p : Pkt) : Nat :=
  if vc2 then (if p.vc = 1 ∨ (p.vc = 3 ∧ (pktResp p)) then 1 else 0) else p.vc

/-- Flits that stand at input `port` of element `n` in the buffer that packet `p` would use. -/
def State.bufFlits (s : State) (n port : Nat) (p : Pkt) : Nat :=
  let v := (s.vc2Act n).testBit port
  (s.noc.worms.filter fun w => w.elem == n && w.port == port && bufChan v w.pkt == bufChan v p
    && (n < 128 || port == 5 || strandOf w.pkt == strandOf p)).foldl (fun a w => a + pktFlits w.pkt) 0

/-- Flits that the buffer of input `port` of element `n` holds per channel (R406, R416). -/
def State.bufCap (s : State) (n port : Nat) : Nat :=
  let v := (s.vc2Act n).testBit port
  if port = 5 then (if v then 40 else 20)
  else if 128 ≤ n then (if v then 72 else 36)
  else (if v then 16 else 8)

/-- Packet `p` may move from input `inp` of `n` to input `ip` of `m`: a mesh input has no other worm of the channel or
room beside it, a join takes a whole packet, and a new header enters a strand only with room for two packets (R406,
R416). (DESIGN CHOICE, assumption 123) -/
def State.roomFor (s : State) (inp m ip : Nat) (p : Pkt) : Bool :=
  let f := s.bufFlits m ip p
  if ip = 5 then decide (f + pktFlits p ≤ s.bufCap m ip)
  else if 128 ≤ m then (decide (inp < 2)) || decide (f + 34 ≤ s.bufCap m ip)
  else f == 0 || decide (f + pktFlits p ≤ s.bufCap m ip)

/-- Urgency of a worm (R417). (DEDUCED, assumption 124) -/
def urgency (p : Pkt) : Nat := 4 * p.cls + p.age

/-- The heads at input `port` of `n`: the oldest packet of each buffer (R416). (DEDUCED, assumption 124) -/
def State.headsAt (s : State) (n port : Nat) : List Worm :=
  let v := (s.vc2Act n).testBit port
  (s.noc.worms.filter fun w => w.elem == n && w.port == port).foldl (fun acc w =>
    if acc.any fun h => bufChan v h.pkt == bufChan v w.pkt && (n < 128 || port == 5 || strandOf h.pkt == strandOf w.pkt)
    then acc else acc ++ [w]) []

/-- Head `w` at `n` finds room behind the output that its hop names; an ejection always does. (DESIGN CHOICE, assumption
123) -/
def State.hopRoom (s : State) (n : Nat) (w : Worm) : Bool :=
  match hopPort n (w.pkt.route % 8) with
  | some o => o == 4 || (let (m, ip) := neighbour n o; 2 ≤ s.rtrState m || s.roomFor w.port m ip w.pkt)
  | none => true

/-- Head `w` at `n` acts now: it is refused or broken, or it has room and leads its output by urgency among the heads
that have room (R413, R416, R417). (DEDUCED, assumption 124) -/
def State.hopActs (s : State) (n : Nat) (w : Worm) : Bool :=
  let h := w.pkt.route % 8
  if 2 ≤ s.rtrState n ∨ 6 ≤ w.pkt.typ then true
  else if s.rtrState n = 1 then false
  else match hopPort n h with
    | none => true
    | some o => !(s.penAct n).testBit o || (s.hopRoom n w && (List.range 6).all fun port => (s.headsAt n port).all fun v =>
        v.pkt.route % 8 != h || !s.hopRoom n v || decide (urgency v.pkt ≤ urgency w.pkt))

/-- The first entry that equals `w` is removed. -/
def dropWorm (w : Worm) (s : State) : State := s.modNoc fun n => { n with worms := n.worms.erase w }

/-- `ROUTE_BROKEN` raised at element `n` (R413). -/
def brokenAt (n h : Nat) (p : Pkt) (s : State) : State :=
  refusePkt p 0x0B (n + 256 * h) (s.inc (R.RTR_STAT.BROKEN_CNT n))

/-! ## Delivery -/

/-- The region cannot take packets: Safe, in reset or fenced (R424). -/
def State.regionDown (s : State) (r : Nat) : Bool :=
  decide (s.mode = mSafe) || s.held r || s.flag (R.BORDER_STAT.FENCED r)

/-- The request types that endpoint `e` serves (R411, Table 13-2). -/
def servesType (e t : Nat) : Bool :=
  if e = 0xA0 then t == 5 else if e = 0xA1 ∨ e = 0xA2 then t == 2 else t != 5

/-- A packet is delivered whole to endpoint `e`; refusals of the endpoint come first (R408, R411, R424). -/
def deliverAt (e : Nat) (p : Pkt) (s : State) : State :=
  if pktResp p ∧ e < 0x100 then s.modNoc fun n => { n with resp := pushAt n.resp e p }
  else if 0x100 ≤ e then s.modNoc fun n => { n with rx := pushAt n.rx e p }
  else if !servesType e p.typ then refusePkt p 0x0E p.typ s
  else if p.typ ≤ 2 ∧ 4096 < p.off % 4096 + p.len then refusePkt p 0x02 0 s
  else if e < 128 ∧ s.regionDown e then refusePkt p 0x0D e s
  else s.modNoc fun n => { n with rx := pushAt n.rx e p }

/-- Endpoints behind a door: regions and Bulk Store windows in Quiescent, bridges of a bundle in Doze or Sleep (Table
13-8). (DEDUCED, assumption 127) -/
def doored (e : Nat) : Bool := decide (e < 128) || (decide (0x90 ≤ e) && decide (e ≤ 0x9B)) || decide (0x100 ≤ e)

/-- The domain behind endpoint `e` is past its commit point (Table 13-8). (DEDUCED, assumption 127) -/
def State.asleep (s : State) (e : Nat) : Bool :=
  if 0x100 ≤ e then s.get (R.LANE_STAT.STATE (e - 0x100)) == 7 || s.get (R.LANE_STAT.STATE (e - 0x100)) == 8
  else decide (s.mode = mQuiescent)

/-- The NOC domain runs (R67). -/
def State.nocRuns (s : State) : Bool := s.up && s.clocked 4

/-- The interfaces at element `n` see a flit slot (R419). (DESIGN CHOICE, assumption 226) -/
def localSlot (n port : Nat) (s : State) : State :=
  if port = 4 then forEach (s.noc.shed.filter fun e => endpointElem e.1 == n) (fun e => shedSlot e.1) s else s

/-- ROUTER_HOP: the first head at an input that can act acts on hop 0, by Table 13-5 (R404, R406, R413, R416, R417); in Boot
only the Hatband runs (Table 2-5). (DESIGN CHOICE, assumption 123) -/
def execRouterHop (n : Fin 160) (port : Fin 6) (s : State) : Out :=
  if !s.nocRuns || (decide (s.mode = mBoot) && decide (n.val < 128)) then .next s else
  let s := localSlot n port s
  match (s.headsAt n port).find? (s.hopActs n) with
  | none => .next s
  | some w =>
    let p := w.pkt
    let h := p.route % 8
    if 2 ≤ s.rtrState n then .next (refusePkt p 0x0C (meshFunc (meshOf n)) (dropWorm w s))
    else if 6 ≤ p.typ then .next (refusePkt p 0x0E p.typ (dropWorm w s))
    else
      match hopPort n h with
      | none => .next (brokenAt n h p (dropWorm w s))
      | some o =>
        let p' := { p with route := p.route / 8 + 7 * 2 ^ 81 }
        if !(s.penAct n).testBit o then .next (brokenAt n h p (dropWorm w s))
        else if o = 4 then
          if !ejects n w.tgt then .next (brokenAt n h p (dropWorm w s))
          else if doored w.tgt then .next ((dropWorm w s).modNoc fun m => { m with door := pushAt m.door w.tgt p' })
          else .next (deliverAt w.tgt p' (dropWorm w s))
        else
          let (m, ip) := neighbour n o
          if 2 ≤ s.rtrState m then .next (refusePkt p 0x0C (meshFunc (meshOf m)) (dropWorm w s))
          else .next ((dropWorm w s).modNoc fun k => { k with worms := k.worms ++ [⟨m, ip, w.tgt, p'⟩] })

/-- A header that has waited 128 NOC cycles more (R417). -/
def olderPkt (p : Pkt) : Pkt := { p with age := min (p.age + 1) 15 }

/-- WORM_AGE: 128 NOC cycles of waiting add 1 to the age of the heads at an input, and with the local port to those at the doors
there; it saturates at 15 (R417, R425). (DEDUCED, assumption 125) -/
def execWormAge (n : Fin 160) (port : Fin 6) (s : State) : Out :=
  let heads := s.headsAt n port
  let atDoor := fun (m : SMap (List Pkt)) => m.map fun (e : Nat × List Pkt) =>
    if port.val = 4 ∧ endpointElem e.1 = n.val then (e.1, e.2.map olderPkt) else e
  if !s.nocRuns then .next s
  else .next (s.modNoc fun k =>
    { k with worms := k.worms.map (fun w => if heads.contains w then { w with pkt := olderPkt w.pkt } else w)
             door := atDoor k.door, heldHdr := atDoor k.heldHdr })

/-- DOOR_PACKET_ARRIVAL: a header at a door is delivered before the commit point, and held with wake raised after it
(R425). (DEDUCED, assumption 127) -/
def execDoorPacketArrival (ep : Fin 1024) (p : Pkt) (s : State) : Out :=
  if !s.up || (at' s.noc.door ep []).head? != some p then .next s
  else
    let s := s.modNoc fun n => { n with door := listAt n.door ep ((at' n.door ep []).drop 1) }
    if s.asleep ep then
      let s := (s.set (R.NI_STAT.HELD ep) 1).modNoc fun n => { n with heldHdr := pushAt n.heldHdr ep p }
      if ep.val < 0x100 then .next { s with aon := { s.aon with waking := true } }
      else .next (forEach (s.bundleLanes (ep - 0x100)) exitDoze s)
    else .next (deliverAt ep p s)

/-- Doors that no longer sleep deliver their held headers in arrival order (R425). -/
def releaseDoors (s : State) : State :=
  forEach s.noc.heldHdr (fun (e, l) s =>
    if s.asleep e then s
    else forEach l (deliverAt e)
      ((s.set (R.NI_STAT.HELD e) 0).modNoc fun n => { n with heldHdr := listAt n.heldHdr e [] })) s

/-! ## Interfaces -/

/-- A border cause other than a swap holds at region `r` (R424). -/
def State.borderBlocks (s : State) (r : Nat) : Bool :=
  s.flag (R.BORDER_STAT.HOLDING r) && s.get (R.BORDER_STAT.CAUSE r) != 1

/-- The port clock of region `r`, a net that the plane chooses, has made an edge that reaches the region (R423). -/
def State.npClocked (s : State) (r : Nat) : Bool := s.acted (16 * r + (Config.nocPort (s.frames r)).val) false

/-- `NP_RDATA`, `NP_RSOP`, `NP_REOP` and `NP_RVC` of the flit that stands at the port of region `r` (Table 13-7). -/
def State.npOut (s : State) (r : Nat) : Option (Nat × Bool × Bool × Nat) :=
  (s.rxHead r).map fun p =>
    let k := at' s.noc.rxFlit r 0
    ((packetFlits p).getD k 0, k == 0, k + 1 == pktFlits p, p.vc)

/-- NP_TX_PACKET: the region interface gathers a whole packet and injects it; one cut by a border cause is discarded
with `TX_ABORT` (R410, R424). -/
def execNpTxPacket (r : Fin 128) (p : Pkt) (aborted : Bool) (s : State) : Out :=
  if aborted then
    if s.flag (R.BORDER_STAT.HOLDING r) then .next (s.set (R.NI_STAT.TX_ABORT r) 1) else .next s
  else if (s.runClass || decide (s.mode = mBlocking)) && !s.borderBlocks r && !s.regionDown r
      && !s.resyncing (512 + r.val) && s.npClocked r && s.clocked 4 then
    .next (niInject r p s)
  else .next s

/-- A request of interface `e` has ended: a waiting one is sent in its place (R418). -/
def sendWaiting (e : Nat) (s : State) : State :=
  let l := at' s.noc.out e []
  match at' s.noc.wait e [] with
  | [] => s.set (R.NI_STAT.OUTSTANDING e) l.length
  | p :: rest =>
    let p := { p with tick := s.clk.tick, hold := s.hold }
    let s := s.modNoc fun m => { m with wait := listAt m.wait e rest, out := pushAt m.out e p }
    routeOut e p (s.set (R.NI_STAT.OUTSTANDING e) (l.length + 1))

/-- NOC_RESPONSE_RX: the response at the head of a requester is matched by `REQ_SEQ` and delivered; one whose request
has timed out is discarded with `LATE_DROP` (R418, R422). -/
def execNocResponseRx (ep : Fin 1024) (s : State) : Out :=
  match at' s.noc.resp ep [] with
  | [] => .next s
  | p :: rest =>
    let s := s.modNoc fun n => { n with resp := listAt n.resp ep rest }
    let l := at' s.noc.out ep []
    match l.find? fun q => q.seq == p.reqSeq with
    | some q =>
      let s := s.modNoc fun n => { n with out := listAt n.out ep (l.erase q), rx := pushAt n.rx ep p }
      .next (sendWaiting ep s)
    | none => .next (s.set (R.NI_STAT.LATE_DROP ep) 1)

/-- TXN_TIMEOUT: `TXN_TO` expires for the request `seq`. A response seen at that edge is delivered with `LATE`;
otherwise the request completes with `TIMEOUT` (R93, R422). -/
def execTxnTimeout (ep : Fin 1024) (seq : Nat) (respAtEdge : Bool) (s : State) : Out :=
  let l := at' s.noc.out ep []
  match l.find? fun q => q.seq == seq with
  | none => .next s
  | some q =>
    if !s.nocRuns || s.get (R.NI_CFG.TXN_TO ep) == 0 then .next s
    else
      let done := fun (p : Pkt) (s : State) => sendWaiting ep
        (s.modNoc fun n => { n with out := listAt n.out ep (l.erase q), rx := pushAt n.rx ep p })
      if respAtEdge then
        match (at' s.noc.resp ep []).find? fun p => p.reqSeq == seq with
        | some p =>
          let s := s.modNoc fun n => { n with resp := listAt n.resp ep ((at' n.resp ep []).erase p) }
          .next (done { p with late := true } (s.set (R.NI_STAT.LATE ep) 1))
        | none => .next s
      else .next (done (pktAnswer q 0x0F 0 [] false) ((s.set (R.NI_STAT.TIMEOUT ep) 1).inc (R.NI_STAT.TO_CNT ep)))

/-- NOC_PORT_RX_FLIT: the design takes one flit of the packet at the head of its port (R423, R424). -/
def execNocPortRxFlit (r : Fin 128) (ready : Bool) (s : State) : Out :=
  match s.rxHead r with
  | none => .next s
  | some p =>
    if !ready || s.borderBlocks r || s.regionDown r || s.resyncing (512 + r.val) || !s.npClocked r then .next s
    else
      let k := at' s.noc.rxFlit r 0 + 1
      if k < pktFlits p then .next (s.modNoc fun n => { n with rxFlit := putD n.rxFlit r 0 k })
      else .next ((popRx r s).modNoc fun n => { n with rxFlit := putD n.rxFlit r 0 0 })

/-- NP_RX_STALL: a header left undelivered for 65,536 NOC cycles is answered with `REGION_DOWN` (R424). -/
def execNpRxStall (r : Fin 128) (s : State) : Out :=
  match s.rxHead r with
  | none => .next s
  | some p =>
    if at' s.noc.rxFlit r 0 = 0 then
      .next (refusePkt p 0x0D r (popRx r (s.set (R.NI_STAT.RX_STALL r) 1)))
    else .next s

/-! ## Reconfiguration and reset -/

/-- Element `n` enters Drain for command `serial` (R426, step 1). -/
def startDrain (n serial : Nat) (s : State) : State :=
  (s.set (R.RTR_CFG.APPLY n) 1).modNoc fun m => { m with drain := put m.drain n serial }

/-- RTR_CFG_APPLY: a write of 1 to `APPLY` starts DRAIN (R426); while it runs the write is ignored (R9). -/
def execRtrCfgApply (n : Fin 160) (s : State) : Out :=
  if s.up && s.rtrState n == 0 then .next (startDrain n 0 s) else .next s

/-- Steps 2 and 3 of Table 13-9: the staged configuration takes effect, and waiting headers that name a port now
disabled become `ROUTE_BROKEN`. (DEDUCED, assumption 130) -/
def finishDrain (n : Nat) (late : Bool) (s : State) : State :=
  let cmd := at' s.noc.drain n 0
  let pen := Nat.land (s.get (R.RTR_CFG.PEN n)) (portMask n)
  let s := (s.set (R.RTR_CFG.APPLY n) 0).modNoc fun m =>
    { m with drain := del m.drain n, penAct := putD m.penAct n (portMask n) pen,
             vc2Act := putD m.vc2Act n 0 (Nat.land (s.get (R.RTR_CFG.VC2 n)) (portMask n)) }
  let bad := s.noc.worms.filter fun w => w.elem == n &&
    (match hopPort n (w.pkt.route % 8) with | some o => !pen.testBit o | none => false)
  finishCmd cmd stOk [] late (forEach bad (fun w s => brokenAt n (w.pkt.route % 8) w.pkt (dropWorm w s)) s)

/-- ROUTER_DRAIN_END: the last tail has left (R426). (DEDUCED, assumption 130) -/
def execRouterDrainEnd (n : Fin 160) (s : State) : Out :=
  if s.rtrState n = 1 ∧ s.clocked 4 then .next (finishDrain n false s) else .next s

/-- ROUTER_DRAIN_TIMEOUT: 2 µs have passed; a tail at that edge completes the drain with `LATE`, otherwise the old
configuration stays and `DRAIN_TO` is set (R426, step 4). -/
def execRouterDrainTimeout (n : Fin 160) (tailAtEdge : Bool) (s : State) : Out :=
  if s.rtrState n = 1 ∧ s.clocked 4 then
    if tailAtEdge then .next (finishDrain n true s)
    else
      let cmd := at' s.noc.drain n 0
      let s := ((s.set (R.RTR_CFG.APPLY n) 0).set (R.RTR_STAT.DRAIN_TO n) 1).modNoc fun m =>
        { m with drain := del m.drain n }
      .next (finishCmd cmd stTimeout [] false s)
  else .next s

/-- A reset write of mesh `q` starts its reset drain (R427, R428). -/
def startMeshReset (q : Nat) (s : State) : State :=
  if at' s.noc.rst q 0 = 0 then s.modNoc fun n => { n with rst := putD n.rst q 0 2 } else s

/-- The doors of the regions of mesh `q` resynchronise, and what they held is discarded (R87, R427). -/
def resyncDoors (q : Nat) (s : State) : State :=
  forEach ((List.range 128).filter fun r => quadOf r == q) (fun r => startResync (512 + r))
    (s.modNoc fun n => { n with rx := dropKeys n.rx fun e => decide (e < 128) && quadOf e == q })

/-- The routers of mesh `q` enter reset, where an element's drain is over, and every worm still there is cut: a request is answered with `NODE_RESET`, a
response completes its request with it (R427). (DEDUCED, assumption 130) -/
def cutMesh (q : Nat) (s : State) : State :=
  let cut := s.noc.worms.filter fun w => meshOf w.elem == q
  let drains := s.noc.drain.filter fun e => meshOf e.1 == q
  let s := s.modNoc fun n =>
    { n with rst := putD n.rst q 0 3, worms := n.worms.filter fun w => meshOf w.elem != q,
             drain := dropKeys n.drain fun k => meshOf k == q }
  let s := forEach drains (fun e s => finishCmd e.2 stTimeout [] false (s.set (R.RTR_CFG.APPLY e.1) 0)) s
  let s := applyIf (decide (q < 4)) (resyncDoors q) s
  forEach cut (fun w s =>
    let f := meshFunc q
    if pktResp w.pkt then deliverResp { w.pkt with status := 0x0C, errinfo := f, len := 0, data := [] } s
    else refusePkt w.pkt 0x0C f s) s

/-- MESH_RESET_DRAIN_END: 1 µs of reset drain has passed (R427, R428). -/
def execMeshResetDrainEnd (q : Fin 5) (s : State) : Out :=
  if at' s.noc.rst q 0 ≠ 2 then .next s else .next (cutMesh q s)

/-- The reset of mesh `q` is released: routers start empty, and its region ports resynchronise by R87. -/
def endMeshReset (q : Nat) (s : State) : State :=
  let s := s.modNoc fun n => { n with rst := putD n.rst q 0 0 }
  applyIf (decide (q < 4)) (resyncDoors q) s

/-! ## Route tables -/

/-- The 28 hops of a list, hop 0 first. -/
def hopList (r : Nat) : List Nat := (List.range 28).map fun k => r / 8 ^ k % 8

/-- Mesh hops with every E and W hop before every N and S hop (R415). -/
def meshPart (l : List Nat) : Bool :=
  let rest := l.dropWhile fun h => h == 1 || h == 3
  rest.all fun h => h == 0 || h == 2

/-- 1–16 (or 0–16) ring hops of one direction. -/
def ringPart (lo : Nat) (l : List Nat) : Bool :=
  decide (lo ≤ l.length) && decide (l.length ≤ 16) && (l.all (· == 0) || l.all (· == 1))

/-- A hop list has one of the forms of R415. `ring` = the interface attaches to a ring stop. -/
def hopsOk (ring : Bool) (r : Nat) : Bool :=
  let l := hopList r
  let body := l.takeWhile fun h => h != 4
  let tail := l.drop body.length
  tail.head? == some 4 && (tail.drop 1).all (· == 7) &&
    (if ring then
      ringPart 1 body ||
        (let a := body.takeWhile fun h => h != 5
         let b := body.drop a.length
         b.head? == some 5 && ringPart 0 a && meshPart (b.drop 1))
    else
      meshPart body ||
        (let a := body.takeWhile fun h => h != 5
         let b := body.drop a.length
         b.head? == some 5 && meshPart a && ringPart 1 (b.drop 1)))

/-- Entry `i` of the table of interface `e` becomes the hop list with its `VALID` bit (R414). -/
def setRoute (e i hops valid : Nat) (s : State) : State :=
  s.modNoc fun n => { n with rt := putD n.rt (e * 1024 + i) 0 (hops % 2 ^ 84 + 2 ^ 84 * (valid % 2)) }

/-- One table entry is read into `RT_DATA` or written from it; a list that breaks R415 sets `BAD` (R414). -/
def rtAccess (s : State) : State :=
  let e := s.get R.RT_ACC.NI
  let i := s.get R.RT_ACC.ENTRY
  if s.get R.RT_ACC.OP = 0 then
    let v := at' s.noc.rt (e * 1024 + i) 0
    (((s.set (R.RT_DATA.HOPS 0) v).set (R.RT_DATA.HOPS 1) (v / 2 ^ 32)).set R.RT_DATA.HOPS2 (v / 2 ^ 64)).set
      R.RT_DATA.VALID (v / 2 ^ 84)
  else
    let h := s.get (R.RT_DATA.HOPS 0) + 2 ^ 32 * s.get (R.RT_DATA.HOPS 1) + 2 ^ 64 * s.get R.RT_DATA.HOPS2
    if hopsOk (decide (128 ≤ endpointElem e)) h then setRoute e i h (s.get R.RT_DATA.VALID) s else s.set R.RT_ACC.BAD 1

/-- RT_ACC_GO (R414). -/
def execRtAccGo (s : State) : Out := if s.up then .next (rtAccess s) else .next s

/-! ## Commands of Table 13-16 -/

/-- Unit under an in-service self-test slice; `kind` and number as `TEST_RUN` names them (R556). -/
def State.underTest (s : State) (f : Nat) : Bool := s.test.busy.contains f

/-- NOC_RT_SET (R415). -/
def execNocRtSet (mb ep entry hops valid : Nat) (s : State) : Out :=
  .next (talnum mb 0x0B00 [(2, ep), (2, entry), (11, hops), (1, valid)]
    (checks [(!endpointExists ep, stBadArg), (decide (1024 ≤ entry), stBadArg), (decide (2 ≤ valid), stBadArg),
        (!hopsOk (decide (128 ≤ endpointElem ep)) hops, stBadArg),
        (s.underTest (meshFunc (meshOf (endpointElem ep))), stBusyTest)]
      fun s => .ok (setRoute ep entry hops valid s)) s)

/-- NOC_RT_GET: entries of a route table (Table 13-16). -/
def execNocRtGet (mb ep first count : Nat) (s : State) : Out :=
  .next (talnum mb 0x0B01 [(2, ep), (2, first), (1, count)]
    (checks [(!endpointExists ep, stBadArg), (decide (1024 < first + count), stBadArg), (decide (count = 0), stBadArg),
        (decide (16 < count), stBadArg), (s.underTest (meshFunc (meshOf (endpointElem ep))), stBusyTest)]
      fun s => .ret ((List.range count).flatMap fun k =>
        let v := at' s.noc.rt (ep * 1024 + first + k) 0
        [(11, v % 2 ^ 84), (1, v / 2 ^ 84)]) s) s)

/-- NOC_RTR_SET: stages `PEN` and `VC2` and starts DRAIN; the command completes with it (R426). -/
def execNocRtrSet (mb n pen vc2 : Nat) (s : State) : Out :=
  .next (talnum mb 0x0B02 [(1, n), (1, pen), (1, vc2)]
    (checks [(decide (160 ≤ n), stBadArg), (decide (64 ≤ pen), stBadArg), (decide (64 ≤ vc2), stBadArg),
        (s.underTest (meshFunc (meshOf n)), stBusyTest), (s.rtrState n == 1, stBusy)]
      fun s => .runs (startDrain n (s.serial mb)
        ((s.set (R.RTR_CFG.PEN n) (Nat.land pen (portMask n))).set (R.RTR_CFG.VC2 n) (Nat.land vc2 (portMask n))))) s)

/-- NOC_NI_SET: the fields of `NI_CFG` (Table 13-16); `MAXCLASS` of endpoint 0A0h stays 7. -/
def execNocNiSet (mb ep txnTo maxc dhops shed : Nat) (s : State) : Out :=
  .next (talnum mb 0x0B03 [(2, ep), (2, txnTo), (1, maxc), (1, dhops), (1, shed)]
    (checks [(!endpointExists ep, stBadArg), (decide (8 ≤ maxc), stBadArg), (decide (32 ≤ dhops), stBadArg),
        (decide (2 ≤ shed), stBadArg), (s.underTest (meshFunc (meshOf (endpointElem ep))), stBusyTest)]
      fun s => .ok (applyIf (ep != 0xA0) (fun s => s.set (R.NI_CFG.MAXCLASS ep) maxc)
        (((s.set (R.NI_CFG.TXN_TO ep) txnTo).set (R.NI_CFG.DHOPS ep) dhops).set (R.NI_CFG.SHED ep) shed))) s)

/-- The interface of endpoint `e` is present and serving (Table 13-10). -/
def State.niEn (s : State) (e : Nat) : Bool :=
  endpointExists e && decide (mLoad ≤ s.mode) && at' s.noc.rst (meshOf (endpointElem e)) 0 == 0

/-- NOC_STATUS: `RTR_CFG` and `RTR_STAT`, or `NI_CFG` and `NI_STAT` (Table 13-16). -/
def execNocStatus (mb isEp n : Nat) (s : State) : Out :=
  .next (talnum mb 0x0B04 [(1, isEp), (2, n)]
    (checks [(decide (2 ≤ isEp), stBadArg), (decide (isEp = 0 ∧ 160 ≤ n), stBadArg),
        (decide (isEp = 1) && !endpointExists n, stBadArg),
        (s.underTest (meshFunc (meshOf (if isEp = 1 then endpointElem n else n))), stBusyTest)]
      fun s =>
        if isEp = 0 then .ret
          [(4, Nat.land (s.get (R.RTR_CFG.PEN n)) (portMask n) + 2 ^ 6 * s.get (R.RTR_CFG.VC2 n) + 2 ^ 12 * s.get (R.RTR_CFG.APPLY n)),
           (4, s.penAct n + 2 ^ 6 * s.vc2Act n + 2 ^ 12 * s.rtrState n + 2 ^ 14 * s.get (R.RTR_STAT.DRAIN_TO n)
              + 2 ^ 16 * s.get (R.RTR_STAT.BROKEN_CNT n))] s
        else .ret
          [(4, s.get (R.NI_CFG.TXN_TO n) + 2 ^ 16 * s.get (R.NI_CFG.MAXCLASS n) + 2 ^ 19 * s.get (R.NI_CFG.DHOPS n)
              + 2 ^ 24 * s.get (R.NI_CFG.SHED n) + 2 ^ 25 * (if s.niEn n then 1 else 0)),
           (4, s.get (R.NI_STAT.TIMEOUT n) + 2 * s.get (R.NI_STAT.LATE n) + 4 * s.get (R.NI_STAT.LATE_DROP n)
              + 8 * s.get (R.NI_STAT.CLAMP n) + 16 * s.get (R.NI_STAT.TX_ABORT n) + 32 * s.get (R.NI_STAT.RX_STALL n)
              + 64 * s.get (R.NI_STAT.HELD n) + 256 * s.get (R.NI_STAT.OUTSTANDING n)
              + 65536 * s.get (R.NI_STAT.TO_CNT n))] s) s)

/-- NOC_ERRLOG: entries of R421 and the overflow count; `clear` empties the log (Table 13-16). -/
def execNocErrlog (mb first count clear : Nat) (s : State) : Out :=
  .next (talnum mb 0x0B05 [(1, first), (1, count), (1, clear)]
    (checks [(decide (64 ≤ first), stBadArg), (decide (count = 0), stBadArg), (decide (16 < count), stBadArg),
        (decide (2 ≤ clear), stBadArg)]
      fun s =>
        let es := (s.noc.log.drop first).take count
        .ret ((es.flatMap fun e =>
            [(6, e.tick), (1, e.status), (3, e.srcDev), (2, e.srcEp),
             (8, e.off + 2 ^ 32 * e.ep + 2 ^ 44 * e.dev), (2, e.seq), (4, e.errinfo)]) ++ [(4, s.noc.ovf)])
          (if clear = 1 then s.modNoc fun n => { n with log := [], ovf := 0 } else s)) s)

end Sys2Proof.Machine
end

