-- ==== Sys2Proof/Machine/Lane.lean ====
section
/-! DEFINITION. The commands of the lane family ("Serial Lanes"). -/

namespace Sys2Proof.Machine

/-! ## Bring-up -/

/-- LANE_SIGNAL_DETECT: a lane in Acquire detects signal and locks its clock recovery (R338). -/
def execLaneSignalDetect (l : Fin 96) (s : State) : Out :=
  if s.laneState l = lsAcquire then .next (setLane l lsFrame (s.set (R.LANE_STAT.CDR_LOCK l) 1)) else .next s

/-- Lane order of a ganged quad from the four `SENDER` values (R341): normal, reversed, or neither. -/
def laneOrder (senders : List Nat) : Nat :=
  let v := (bytesAt senders 0 4).map (· % 4)
  if senders.length ≠ 4 then 2 else if v = [0, 1, 2, 3] then 0 else if v = [3, 2, 1, 0] then 1 else 2

/-- The receiver makes a tap request with a new sequence number; which taps it asks for is its own adaptation (R345, R346).
After Sleep it makes none where the eye is good (R359). (DESIGN CHOICE, assumption 225) -/
def newRequest (l : Nat) (s : State) : State :=
  if (s.lst l).kept ∧ s.freeBit then s.useFree
  else
    let pre := s.freeBelow 4
    let post := s.useFree.freeBelow 4
    s.useFree.useFree.modLane l fun b =>
      { b with reqSeq := (b.reqSeq + 1) % 16, reqPend := true, reqPre := pre, reqPost := post }

/-- The physical lane whose received stream stands for lane `l`, and back: a reversed quad delivers lane 3 - i as lane i
(R341). -/
def State.delivers (s : State) (l : Nat) : Nat :=
  if s.flag (R.QUAD_STAT.REVERSED (l / 4)) then 4 * (l / 4) + (3 - l % 4) else l

/-- The training block that lane `l` sends in a step of Table 11-4, with its own request, the answer to the far one, `TICK16` in
Align and its CRC (R339, R345, R349). -/
def State.trainingBlock (s : State) (l step tick16 : Nat) : Nat :=
  let b := s.lst l
  let v := 0xF0 + 2 ^ 8 * step + (if b.reqPend then 2 ^ 12 * b.reqPre + 2 ^ 14 * b.reqPost else 0) + 2 ^ 16 * b.stPre
    + 2 ^ 18 * b.stPost + 2 ^ 20 * b.reqSeq + 2 ^ 24 * b.ackSeq + (if step = 3 ∨ step = 4 then 2 ^ 32 * (tick16 % 65536) else 0)
    + 2 ^ 48 * l
  v + 2 ^ 56 * (bitList 56 v).foldl crc8Bit 0

/-- BLOCK_LOCK: in Frame, 64 valid headers at one offset give block lock, and 64 complemented blocks invert the input
(R340); a ganged quad then checks its lane order (R341). A BASE-R lane enters Up directly, and the timing lane in Boot
stays in Frame (R338, R391). -/
def execBlockLock (l : Fin 96) (ofs : Nat) (complement : Bool) (senders : List Nat) (s : State) : Out :=
  if s.laneState l ≠ lsFrame ∨ s.flag (R.LANE_STAT.BLK_LOCK l) ∧ ¬ s.flag (R.QUAD_STAT.ORDER_ERR (l / 4)) then .next s
  else if complement then
    if s.flag (R.LANE_CFG.RX_POL_AUTO l) then .next (s.setB (R.LANE_STAT.RX_INV l) (!s.flag (R.LANE_STAT.RX_INV l)))
    else .next s
  else if 66 ≤ ofs then .next s
  else
    let s := (s.set (R.LANE_STAT.HDR_OFS l) ofs).set (R.LANE_STAT.BLK_LOCK l) 1
    let ok := fun s => if s.baseR l then enterUp l false s
      else if decide (s.mode = mBoot) && s.flag R.STRAP_LATCH.MCLK_SRC && l.val == 0 then s
      else newRequest l (setLane l lsTrain s)
    if s.flag (R.QUAD_STAT.GANG (l / 4)) then
      match laneOrder senders with
      | 0 => .next (ok (s.set (R.QUAD_STAT.REVERSED (l / 4)) 0))
      | 1 => .next (ok (s.set (R.QUAD_STAT.REVERSED (l / 4)) 1))
      | _ => .next (raise 0x0401 [(1, l / 4)] (s.set (R.QUAD_STAT.ORDER_ERR (l / 4)) 1))
    else .next (ok s)

/-- A request on one tap: its new value and its status (Table 11-4, R344). -/
def tapStep (req cur hi : Nat) : Nat × Nat :=
  match req with
  | 1 => if cur < hi then (cur + 1, 1) else (cur, 2)
  | 2 => if 0 < cur then (cur - 1, 1) else (cur, 2)
  | _ => (cur, 0)

/-- The transmitter acts on a new far request (R344, R345). -/
def actOnTaps (l pre post seq : Nat) (s : State) : State :=
  let cp := s.get (R.LANE_EQ.TX_PRE l)
  let cq := s.get (R.LANE_EQ.TX_POST l)
  let (a, sa, b, sb) :=
    if pre = 3 ∨ post = 3 then (s.get (R.LANE_EQ.PRE_PRESET l), 3, s.get (R.LANE_EQ.POST_PRESET l), 3)
    else
      let (a, sa) := tapStep pre cp 12
      let (b, sb) := tapStep post cq 24
      (a, sa, b, sb)
  let s := ((s.set (R.LANE_EQ.TX_PRE l) a).set (R.LANE_EQ.TX_POST l) b).set (R.LANE_EQ.TX_MAIN l) (63 - a - b)
  s.modLane l fun x => { x with ackSeq := seq, stPre := sa, stPost := sb }

/-- The payload of a training block is recognised by its type and its CRC (R339, Table 11-4). (DEDUCED, assumption 101)
-/
def trainingOk (v : Nat) : Bool :=
  v % 256 == 0xF0 && (bitList 56 v).foldl crc8Bit 0 == bitsOf v 56 8

/-- TRAINING_BLOCK_RX: in Train the lane acts once on each new far request and sees the answer to its own; it counts
consecutive Train done and Align done steps (R339, R344–R346, R352). (DEDUCED, assumption 101) -/
def execTrainingBlockRx (l : Fin 96) (payload : BitVec 64) (s : State) : Out :=
  let v := payload.toNat
  if !trainingOk v || !s.bringing l then .next s
  else
    let step := bitsOf v 8 3
    let s := s.modLane l fun b =>
      { b with dscr := scramEnter b.dscr (bitList 64 v), trainRx := if step = 2 then b.trainRx + 1 else 0, alignRx := if step = 4 then b.alignRx + 1 else 0 }
    if s.laneState l = lsTrain then
      let seq := bitsOf v 20 4
      let s := applyIf (seq != (s.lst l).ackSeq) (actOnTaps l (bitsOf v 12 2) (bitsOf v 14 2) seq) s
      .next (applyIf ((s.lst l).reqPend && bitsOf v 24 4 == (s.lst l).reqSeq)
        (fun s => s.modLane l fun b => { b with reqPend := false, retries := 0 }) s)
    else .next s

/-- TAP_REQUEST_TIMEOUT: an answer seen at the edge of the 2 ms completes the request with `LATE`; otherwise it is
repeated at most three times, and then the lane fails with reason 5h (R345). -/
def execTapRequestTimeout (l : Fin 96) (ackAtEdge : Bool) (s : State) : Out :=
  let b := s.lst l
  if s.laneState l ≠ lsTrain ∨ ¬ b.reqPend then .next s
  else if ackAtEdge then
    .next ((s.set (R.LANE_STAT.LATE l) 1).modLane l fun b => { b with reqPend := false, retries := 0 })
  else if b.retries < 3 then
    .next (s.modLane l fun b => { b with retries := b.retries + 1, reqSeq := (b.reqSeq + 1) % 16 })
  else .next (failLane l 5 s)

/-- TRAIN_DONE: 16 Train done blocks are exchanged and the lane enters Align (R346). A lane not in fixed mode sends
Align done at once; in fixed mode firmware slips to `HDR_OFS` = 0 with `AUTO_ALIGN` (R349, R351). (DEDUCED, assumptions
98, 101) -/
def execTrainDone (l : Fin 96) (s : State) : Out :=
  if s.laneState l = lsTrain ∧ 16 ≤ (s.lst l).trainRx then
    let fixed := s.fixedMode l
    let n := if fixed ∧ s.flag (R.LANE_CFG.AUTO_ALIGN l) then s.get (R.LANE_STAT.HDR_OFS l) else 0
    .next ((setLane l lsAlign s).modLane l fun b =>
      { b with reqPend := false, alignRx := 0, alignTx := !fixed, slips := n, slipCmd := 0 })
  else .next s

/-- BIT_SLIP: one slip ends and `HDR_OFS` falls by 1 modulo 66 (R351). (DEDUCED, assumption 102) -/
def execBitSlip (l : Fin 96) (s : State) : Out :=
  let b := s.lst l
  if s.laneState l = lsAlign ∧ 0 < b.slips then
    let v := (s.get (R.LANE_STAT.HDR_OFS l) + 65) % 66
    let s := (s.set (R.LANE_STAT.HDR_OFS l) v).modLane l fun b =>
      { b with slips := b.slips - 1, slipCmd := if b.slips = 1 then 0 else b.slipCmd }
    if b.slips = 1 then .next (finishCmd b.slipCmd stOk (pack [(1, v)]) false s) else .next s
  else .next s

/-- The measured value of an Align block: the ticks from its `TICK16` to the local tick at its write, in side block-clock cycles,
plus the cycle of the write within the tick (R352). -/
def alignValue (m : Nat) (x : AlignRd) : Nat := (x.tick + 65536 - x.tick16.toNat) % 65536 * m + x.cycle

/-- ALIGN_MEASURE_DONE: the 256 measured values give `L_MEAS` and the spread; a spread above 1 cycle fails the lane with
reason 7h, and otherwise Align done is sent (R352). (DEDUCED, assumption 102) -/
def execAlignMeasureDone (l : Fin 96) (reads : List AlignRd) (s : State) : Out :=
  if s.laneState l ≠ lsAlign ∨ ¬ s.fixedMode l ∨ s.get (R.LANE_STAT.HDR_OFS l) ≠ 0 ∨ reads.length ≠ 256 then .next s
  else
    let vals := reads.map (alignValue (s.synth (sideDomain l)).n)
    let hi := vals.foldl max 0
    let lo := vals.foldl min hi
    let s := (s.set (R.LANE_FL.L_MEAS l) (min hi 65535)).set (R.LANE_FLS.ARR_SPREAD l) (min (hi - lo) 255)
    if 1 < hi - lo then .next (failLane l 7 s) else .next (s.modLane l fun b => { b with alignTx := true })

/-- Lane `l` may enter Up from Align (R351, R352). -/
def State.alignReady (s : State) (l : Nat) : Bool :=
  let b := s.lst l
  s.laneState l == lsAlign && b.alignTx && decide (16 ≤ b.alignRx)
    && (!s.fixedMode l || s.flag (R.LANE_CFG.AUTO_ALIGN l) || b.flSet)

/-- LANE_ENTER_UP: the Align done exchange is complete (R352, R353). -/
def execLaneEnterUp (l : Fin 96) (s : State) : Out :=
  if s.alignReady l then .next (enterUp l false s) else .next s

/-- Fail reason of the stage of a lane (R342, Table 11-3). -/
def State.stageReason (s : State) (l : Nat) : Nat :=
  let st := s.laneState l
  if st = lsAcquire then 1
  else if st = lsFrame then (if s.flag (R.QUAD_STAT.ORDER_ERR (l / 4)) then 4 else 3)
  else if st = lsTrain then 6 else 7

/-- BRINGUP_TIMEOUT: the bring-up time ends. A lane that reaches Up at that edge is Up, decided late; otherwise it
enters Fail with the reason of its stage (R93, R342). -/
def execBringupTimeout (l : Fin 96) (upAtEdge : Bool) (s : State) : Out :=
  if !s.bringing l then .next s
  else if upAtEdge then if s.alignReady l then .next (enterUp l true s) else .next s
  else .next (failLane l (s.stageReason l) s)

/-- LANE_DOWN_EVENT: an Up lane loses lock or signal, or meets a buffer fault, a reset or a clock loss (R343, R383); a receive
half that a notice has sent to Doze or Sleep loses neither (R358). -/
def execLaneDownEvent (l : Fin 96) (reason : Nat) (s : State) : Out :=
  if s.laneState l = lsUp ∧ reason ∈ [2, 3, 8, 0xA, 0xB, 0xC] ∧ ((s.lst l).rxHalf = 0 ∨ reason ∉ [2, 3, 0xC]) then .next (downLane l reason s) else .next s

/-! ## Running -/

/-- RX_BUFFER_FILL_CHECK: a fixed-mode fill outside ±2 of its expected value sets `FL_SLIP`; a fill beyond the 64 blocks
takes the lane down with reason 8h (R355). In far-end loopback the buffer is that of the loop, 32 bits, and one that is
full or empty re-centres and sets `LB_SLIP` (R364). (DEDUCED, assumption 100) -/
def execRxBufferFillCheck (l : Fin 96) (fill : Nat) (s : State) : Out :=
  if s.laneState l = lsTest ∧ (s.lst l).loop = 3 ∧ ¬ s.laneAligned l ∧ (fill = 0 ∨ 32 ≤ fill) then
    .next (s.modLane l fun b => { b with lbSlip := true })
  else if s.laneState l ≠ lsUp then .next s
  else if 64 < fill then .next (downLane l 8 s)
  else
    let s := s.set (R.LANE_FLS.FILL l) fill
    if s.fixedMode l then
      let e := ((s.lst l).flUsed - s.get (R.LANE_FL.L_MEAS l)) / s.laneK l
      if e + 2 < fill ∨ fill + 2 < e then .next (raise 0x0405 [(1, l)] (s.set (R.LANE_STAT.FL_SLIP l) 1)) else .next s
    else .next s

/-- ELASTIC_ADJUST: above a fill of 48 one idle block is deleted, and below 16 the next idle block is doubled (R357).
-/
def execElasticAdjust (l : Fin 96) (idlePasses : Bool) (s : State) : Out :=
  let f := s.get (R.LANE_FLS.FILL l)
  if s.laneState l ≠ lsUp ∨ s.fixedMode l ∨ ¬ idlePasses then .next s
  else if 48 < f then .next (s.set (R.LANE_FLS.FILL l) (f - 1))
  else if f < 16 then .next (s.set (R.LANE_FLS.FILL l) (f + 1))
  else .next s

/-- ADAPT_FREEZE: adaptation freezes after 8,192 control blocks and resumes at a data block (R348). -/
def execAdaptFreeze (l : Fin 96) (dataBlock : Bool) (s : State) : Out :=
  if s.laneState l = lsUp then .next (s.setB (R.LANE_STAT.FROZEN l) (!dataBlock)) else .next s

/-- LANE_NOTICE_RX: the receive half enters the state that the notice names and raises no `LANE_DOWN` (R358). -/
def execLaneNoticeRx (l : Fin 96) (sleep : Bool) (s : State) : Out :=
  let st := s.laneState l
  if s.baseR l ∨ ¬ (st = lsUp ∨ st = lsDoze ∨ st = lsSleep) then .next s
  else .next (s.modLane l fun b => { b with rxHalf := if sleep then lsSleep else lsDoze })

/-- LANE_SIGNAL_WAKE: a receive half in Doze or Sleep that detects signal leaves it, sets `WOKE` and raises
`LANE_WAKE`; with `WAKE_TX` the transmit half leaves as well (R360). -/
def execLaneSignalWake (l : Fin 96) (s : State) : Out :=
  let st := s.laneState l
  if (s.lst l).rxHalf = 0 ∧ st ≠ lsDoze ∧ st ≠ lsSleep then .next s
  else
    let s := raise 0x0406 [(1, l)] ((s.set (R.LANE_STAT.WOKE l) 1).modLane l fun b => { b with rxHalf := 0 })
    .next (applyIf (s.flag (R.LANE_CFG.WAKE_TX l)) (exitDoze l) s)

/-- LANE_DOZE_EXIT_DONE: the exit from Doze completes. In fixed mode with `HDR_OFS` = 0 and the stored `L_MEAS` the
lane is Up with the same latency, and otherwise it measures again in Align (R359). -/
def execLaneDozeExitDone (l : Fin 96) (hdrOfs lMeas : Nat) (s : State) : Out :=
  if s.laneState l ≠ lsDoze ∨ ¬ (s.lst l).exiting then .next s
  else
    let s := s.modLane l fun b => { b with exiting := false }
    if s.fixedMode l ∧ ¬ (hdrOfs = 0 ∧ lMeas = s.get (R.LANE_FL.L_MEAS l)) then
      let s := (setLane l lsAlign s).set (R.LANE_STAT.HDR_OFS l) hdrOfs
      let n := if s.flag (R.LANE_CFG.AUTO_ALIGN l) then hdrOfs else 0
      .next (s.modLane l fun b => { b with alignRx := 0, alignTx := false, slips := n, slipCmd := 0, flSet := false })
    else
      .next (releaseDoors (settleUps (bundleCheckUp l (setLane l lsUp s))))

/-! ## Test and calibration -/

/-- What the checker holds while it takes bits: locked, errors counted, and the lane's registers. -/
structure PrbsRd where
  lock : Bool
  errs : Nat
  lane : LaneSt
deriving DecidableEq, Repr

/-- The checker takes one bit: before lock it seeds itself from the received bits and locks after 1,024 that are free of error;
locked it follows its own sequence and counts, and 64 errors within 1,024 bits end the lock (R363). -/
def prbsStep (a : PrbsRd) (bit : Bool) : PrbsRd :=
  let b := a.lane
  let want := prbsNext b.pattern b.chk
  let bad := bit != want
  if a.lock then
    let h := (bad :: b.hist).take 1024
    let lost := decide (64 ≤ (h.filter fun x => x).length)
    ⟨!lost, a.errs + (if bad then 1 else 0),
      { b with chk := prbsShift b.pattern b.chk want, bits := b.bits + 1, hist := if lost then [] else h, clean := 0 }⟩
  else
    let c := if bad then 0 else b.clean + 1
    ⟨decide (1024 ≤ c), a.errs,
      { b with chk := prbsShift b.pattern b.chk bit, hist := [], clean := if 1024 ≤ c then 0 else c }⟩

/-- PRBS_CHECK: the checker takes the received bits, or those of the lane's own pattern in a near-end loopback, and counts in
`ERR_CNT` and `BIT_CNT` while locked (R363, R364). In Up, `ERR_CNT` counts invalid headers. (DEDUCED, assumption 225) -/
def execPrbsCheck (l : Fin 96) (rx : List Bool) (headers : Nat) (s : State) : Out :=
  let b := s.lst l
  if s.laneState l = lsUp then .next (s.incBy (R.LANE_ERR.ERR_CNT l) headers)
  else if s.laneState l ≠ lsTest ∨ b.pattern = 0 then .next s
  else
    let own := prbsRun b.pattern b.gen rx.length
    let bits := if b.loop = 1 ∨ b.loop = 2 then own.1 else rx.map fun x => x != b.invert
    let a := bits.foldl prbsStep ⟨s.flag (R.LANE_ERR.PRBS_LOCK l), 0, { b with gen := own.2 }⟩
    .next ((((s.incBy (R.LANE_ERR.ERR_CNT l) a.errs).set (R.LANE_ERR.BIT_CNT l) (a.lane.bits / 65536)).setB
      (R.LANE_ERR.PRBS_LOCK l) a.lock).modLane l fun _ => a.lane)

/-- SLICER_CAL_TURN: the spare takes the next slicer in turn; it pauses in Doze, Sleep and Test and while an eye scan
holds the spare (R365, R366). The trimmed offset is open. (DEDUCED, assumption 98) -/
def execSlicerCalTurn (l : Fin 96) (s : State) : Out :=
  let b := s.lst l
  let st := s.laneState l
  if st = lsOff ∨ st = lsDoze ∨ st = lsSleep ∨ st = lsTest ∨ b.eye.isSome then .next s
  else
    let v : Int := (s.freeBelow 256 : Nat) - 128
    .next (s.useFree.modLane l fun b =>
      { b with turn := (b.turn + 1) % 4, slicer := b.slicer.set b.turn v })

/-- EYE_SCAN_END: the scan's counts are returned and the spare slicer is free again (R365). -/
def execEyeScanEnd (l : Fin 96) (counts : List Nat) (s : State) : Out :=
  match (s.lst l).eye with
  | none => .next s
  | some e =>
    if counts.length ≠ e.points.length then .next s
    else .next (finishCmd e.serial stOk (pack (counts.map fun c => (5, c))) false
      (s.modLane l fun b => { b with eye := none }))

/-! ## Commands of Table 11-16 -/

/-- A lane's quad is under self-test (R368). (DEDUCED, assumption 196) -/
def State.laneTested (s : State) (l : Nat) : Bool := s.underTest (0x80 + l / 4)

/-- LANE_GET: the lane registers (Table 11-16). -/
def execLaneGet (mb l : Nat) (s : State) : Out :=
  .next (talnum mb 0x0400 [(1, l)]
    (checks [(decide (96 ≤ l), stBadArg), (s.laneTested l, stBusyTest)]
      fun s => .ret
        [(4, s.get (R.LANE_CFG.EN l) + 2 * s.get (R.LANE_CFG.PROTO l) + 8 * s.get (R.LANE_CFG.KDIV l)
            + 32 * s.get (R.LANE_CFG.TX_POL l) + 64 * s.get (R.LANE_CFG.RX_POL_AUTO l)
            + 128 * s.get (R.LANE_CFG.FL_EN l) + 256 * s.get (R.LANE_CFG.AUTO_ALIGN l)
            + 512 * s.get (R.LANE_CFG.AUTO_RETRAIN l) + 1024 * s.get (R.LANE_CFG.WAKE_TX l)
            + 2048 * s.get (R.LANE_CFG.ADAPT l) + 8192 * s.get (R.LANE_CFG.LANE_IE l)),
         (4, s.laneState l + 16 * s.get (R.LANE_STAT.CDR_LOCK l) + 32 * s.get (R.LANE_STAT.BLK_LOCK l)
            + 64 * s.get (R.LANE_STAT.RX_INV l) + 128 * s.get (R.LANE_STAT.FROZEN l)
            + 256 * s.get (R.LANE_STAT.HDR_OFS l) + 2 ^ 15 * s.get (R.LANE_STAT.FL_OK l)
            + 2 ^ 16 * s.get (R.LANE_STAT.REASON l) + 2 ^ 20 * s.get (R.LANE_STAT.DOWN l)
            + 2 ^ 21 * s.get (R.LANE_STAT.FL_SLIP l) + 2 ^ 22 * s.get (R.LANE_STAT.LATE l)
            + 2 ^ 23 * s.get (R.LANE_STAT.WOKE l) + 2 ^ 24 * s.get (R.LANE_STAT.DOWN_CNT l)),
         (4, s.get (R.LANE_EQ.TX_PRE l) + 16 * s.get (R.LANE_EQ.TX_POST l) + 2 ^ 9 * s.get (R.LANE_EQ.TX_MAIN l)
            + 2 ^ 15 * s.get (R.LANE_EQ.PRE_PRESET l) + 2 ^ 19 * s.get (R.LANE_EQ.POST_PRESET l)
            + 2 ^ 24 * s.get (R.LANE_EQ.CTLE l)),
         (4, s.get (R.LANE_FL.FL_LAT l) + 2 ^ 16 * s.get (R.LANE_FL.L_MEAS l)),
         (4, s.get (R.LANE_FLS.FILL l) + 256 * s.get (R.LANE_FLS.ARR_SPREAD l))] s) s)

/-- LANE_UP: brings up the named lanes and completes when each is Up or Fail (R338, R342, R368). -/
def execLaneUp (mb mask time : Nat) (s : State) : Out :=
  .next (talnum mb 0x0401 [(12, mask), (2, time)]
    (checks [(decide (mask = 0), stBadArg), (decide (time ≠ 0 ∧ (time < 10 ∨ 5000 < time)), stBadArg),
        ((maskLanes mask).any s.laneTested, stBusyTest),
        (!(s.runClass || decide (s.mode = mBlocking) || decide (s.mode = mSafe)), stDenied),
        ((maskLanes mask).any fun l => s.test.fenced.contains (8, l), stDenied)]
      fun s =>
        let u : LaneUp := ⟨s.serial mb, mask⟩
        let s := { s with lane := { s.lane with ups := s.lane.ups ++ [u] } }
        .runs (settleUps (forEach (maskLanes mask) (fun l s =>
          let s := s.modLane l fun b => { b with upMs := if time = 0 then 500 else time }
          let st := s.laneState l
          if st = lsOff ∨ st = lsIdle ∨ st = lsFail then bringUp l s else s) s))) s)

/-- LANE_DOWN: takes the named lanes to Idle (Table 11-16). -/
def execLaneDown (mb mask : Nat) (s : State) : Out :=
  .next (talnum mb 0x0402 [(12, mask)]
    (checks [(decide (mask = 0), stBadArg), ((maskLanes mask).any s.laneTested, stBusyTest)]
      fun s => .ok (forEach (maskLanes mask) (fun l s =>
        let s := bundleCheckDown l (setLane l lsIdle s)
        forEach [R.LANE_STAT.CDR_LOCK l, R.LANE_STAT.BLK_LOCK l] (fun f s => s.set f 0)
          (s.modLane l fun b => { b with waitClk := false, exiting := false, rxHalf := 0 })) s)) s)

/-- LANE_POWER: On, Doze or Sleep for the named lanes (R358, R360). -/
def execLanePower (mb mask state : Nat) (s : State) : Out :=
  .next (talnum mb 0x0403 [(12, mask), (1, state)]
    (checks [(decide (mask = 0), stBadArg), (decide (3 ≤ state), stBadArg),
        ((maskLanes mask).any s.laneTested, stBusyTest),
        ((maskLanes mask).any fun l => s.bringing l || (s.lst l).exiting, stBusy),
        ((maskLanes mask).any fun l => !(s.laneState l == lsUp || s.laneState l == lsDoze || s.laneState l == lsSleep),
          stDenied)]
      fun s => .ok (forEach (maskLanes mask) (fun l s =>
        if state = 0 then exitDoze l s
        else if s.laneState l = lsUp then bundleCheckDown l (dozeLane (state - 1) l s)
        else s) s)) s)

/-- LANE_FL_SET: the fixed latency of R353; it takes effect at the next bring-up. -/
def execLaneFlSet (mb l lat : Nat) (s : State) : Out :=
  .next (talnum mb 0x0404 [(1, l), (2, lat)]
    (checks [(decide (96 ≤ l), stBadArg), (s.laneTested l, stBusyTest), (s.laneState l == lsUp, stDenied),
        (!flOk (s.laneK l) (s.get (R.LANE_FL.L_MEAS l)) lat, stBadArg)]
      fun s => .ok ((s.set (R.LANE_FL.FL_LAT l) lat).modLane l fun b => { b with flSet := true })) s)

/-- LANE_SLIP: bit-slips in Align; the command completes with the last one (R351). -/
def execLaneSlip (mb l count : Nat) (s : State) : Out :=
  .next (talnum mb 0x0405 [(1, l), (1, count)]
    (checks [(decide (96 ≤ l), stBadArg), (decide (count = 0 ∨ 65 < count), stBadArg), (s.laneTested l, stBusyTest),
        (s.laneState l != lsAlign, stDenied)]
      fun s => .runs (s.modLane l fun b => { b with slips := count, slipCmd := s.serial mb })) s)

/-- LANE_TEST: pattern, inversion and loopback; pattern 0 without loopback ends Test. A lane used for loading refuses
a loopback (R363, R364). Where a pattern starts is open. (DESIGN CHOICE, assumption 225) -/
def execLaneTest (mb l pattern invert loopback : Nat) (s : State) : Out :=
  .next (talnum mb 0x0406 [(1, l), (1, pattern), (1, invert), (1, loopback)]
    (checks [(decide (96 ≤ l), stBadArg), (!([0, 7, 15, 23, 31].contains pattern), stBadArg),
        (decide (2 ≤ invert), stBadArg), (decide (4 ≤ loopback), stBadArg), (s.laneTested l, stBusyTest),
        ((s.lst l).loading && loopback != 0, stDenied)]
      fun s =>
        let slip := (s.lst l).lbSlip
        let s := bundleCheckDown l (s.modLane l fun b =>
          { b with pattern := pattern, invert := invert == 1, loop := loopback, lbSlip := false, clean := 0, hist := [],
                   chk := 0, gen := s.freeBelow (2 ^ pattern - 1) + 1 }).useFree
        .ret [(1, if slip then 1 else 0)]
          ((setLane l (if pattern = 0 ∧ loopback = 0 then lsIdle else lsTest) s).set (R.LANE_ERR.PRBS_LOCK l) 0)) s)

/-- LANE_ERR: the error counters, cleared on request (Table 11-16). -/
def execLaneErr (mb l clear : Nat) (s : State) : Out :=
  .next (talnum mb 0x0407 [(1, l), (1, clear)]
    (checks [(decide (96 ≤ l), stBadArg), (decide (2 ≤ clear), stBadArg), (s.laneTested l, stBusyTest)]
      fun s => .ret [(4, s.get (R.LANE_ERR.ERR_CNT l)),
          (4, s.get (R.LANE_ERR.BIT_CNT l) + 2 ^ 31 * s.get (R.LANE_ERR.PRBS_LOCK l))]
        (applyIf (clear == 1) (fun s => ((s.set (R.LANE_ERR.ERR_CNT l) 0).set (R.LANE_ERR.BIT_CNT l) 0).modLane l
          fun b => { b with bits := 0 }) s)) s)

/-- Signed byte operand. -/
def sbyte (v : Nat) : Int := toSigned 8 v

/-- LANE_EYE: an eye scan over a range of phases and offsets, at most 64 points, with the spare slicer (R365). -/
def execLaneEye (mb l phase0 phase1 ofs0 ofs1 e : Nat) (s : State) : Out :=
  .next (talnum mb 0x0408 [(1, l), (1, phase0), (1, phase1), (1, ofs0), (1, ofs1), (1, e)]
    (checks [(decide (96 ≤ l), stBadArg),
        (decide (sbyte phase0 < -32 ∨ 31 < sbyte phase1 ∨ sbyte phase1 < sbyte phase0), stBadArg),
        (decide (sbyte ofs0 < -127 ∨ sbyte ofs1 < sbyte ofs0), stBadArg), (decide (e < 16 ∨ 36 < e), stBadArg),
        (decide (64 < (sbyte phase1 - sbyte phase0 + 1) * (sbyte ofs1 - sbyte ofs0 + 1)), stBadArg),
        (s.laneTested l, stBusyTest), ((s.lst l).eye.isSome, stBusy)]
      fun s =>
        let np := (sbyte phase1 - sbyte phase0 + 1).toNat
        let no := (sbyte ofs1 - sbyte ofs0 + 1).toNat
        let pts := (List.range np).flatMap fun i => (List.range no).map fun j => ((phase0 + i) % 256, (ofs0 + j) % 256)
        .runs (s.modLane l fun b => { b with eye := some ⟨pts, e, s.serial mb⟩ })) s)

/-- Write presets, and the equaliser values where `ADAPT` = 10b, as `LANE_EQ_SET` does (R347). (DEDUCED, assumption 99)
-/
def writeEq (l pre post ctle : Nat) (dfe : List Nat) (adapt : Nat) (s : State) : State :=
  let s := ((s.set (R.LANE_EQ.PRE_PRESET l) pre).set (R.LANE_EQ.POST_PRESET l) post).set (R.LANE_CFG.ADAPT l) adapt
  if adapt = 2 then
    forEach (List.range 12) (fun i s => s.set (R.LANE_DFE.TAP l (i / 4) (i % 4)) (dfe.getD i 0))
      (s.set (R.LANE_EQ.CTLE l) ctle)
  else s

/-- Ranges of the values of `LANE_EQ_SET` (R344, R346). -/
def eqRange (pre post ctle : Nat) (dfe : List Nat) : Bool :=
  decide (pre ≤ 12) && decide (post ≤ 24) && decide (ctle < 32) && decide (-127 ≤ sbyte (dfe.getD 0 0))
    && (dfe.drop 1).all fun v => decide (-63 ≤ sbyte v) && decide (sbyte v ≤ 63)

/-- LANE_EQ_SET (R347). (DEDUCED, assumption 99) -/
def execLaneEqSet (mb l pre post ctle : Nat) (dfe : List Nat) (adapt : Nat) (s : State) : Out :=
  .next (talnum mb 0x0409 ([(1, l), (1, pre), (1, post), (1, ctle)] ++ (bytesAt dfe 0 12).map (fun v => (1, v))
      ++ [(1, adapt)])
    (checks [(decide (96 ≤ l), stBadArg), (decide (3 ≤ adapt), stBadArg), (!eqRange pre post ctle dfe, stBadArg),
        (s.laneTested l, stBusyTest)]
      fun s => .ok (writeEq l pre post ctle dfe adapt s)) s)

end Sys2Proof.Machine
end

