-- ==== Sys2Proof/Machine/Ctx.lean ====
section
/-! DEFINITION. Swaps, swap sets, rotation and capture ("Contexts, Hoods and the One-Cycle Swap"). -/

namespace Sys2Proof.Machine

/-! ## Judging a request -/

/-- Why a request for plane `q` of region `r` is refused at an edge, by the first reason of Table 8-5 that applies.
`host` = a host request, which R257 lets past reason 3 after a failed copy. -/
def State.swapReason (s : State) (r q : Nat) (host : Bool) : Option Nat :=
  let c := s.ctxR r
  let st := s.planeState r q
  if st = psEmpty ∨ st = psLoading then some 1
  else if c.claim = some q then some 2
  else if 2 ≤ s.borderCause r ∧ !(host && c.ow == 4 && s.borderCause r == 2) then some 3
  else if !s.runClass then some 4
  else if s.flag (R.CTX_STAT.ROTATING r) then some 5
  else none

/-- A refusal updates `NACK` and `REASON` (R245). (DEDUCED, assumption 69) -/
def nackRegion (r reason : Nat) (s : State) : State :=
  (s.set (R.CTX_STAT.NACK r) 1).set (R.CTX_STAT.REASON r) reason

/-- A refused set member is reported (R242, R245). (DEDUCED, assumption 69) -/
def refuseMember (set tick r reason : Nat) (s : State) : State :=
  let s := (s.set (R.SWAP_CTL.FAILED set) 1).inc (R.SWAP_CTL.FAIL_CNT set)
  raise 0x0210 [(1, r), (1, set), (6, tick), (1, reason)] (nackRegion r reason s)

/-- Where a request came from: a swap set with its tick, the host with its command, or the region's port. -/
inductive SwapSrc where
  | set (n tick : Nat)
  | host (serial : Nat)
  | port
deriving DecidableEq, Repr

/-- A request is refused with a reason (R245). -/
def refuseSwap (r reason : Nat) (x : SwapSrc) (s : State) : State :=
  match x with
  | .set n t => refuseMember n t r reason s
  | .host n => finishCmd n (if reason = 7 then stTimeout else stDenied) [] false (nackRegion r reason s)
  | .port => (nackRegion r reason s).modCtx r fun c => { c with nack := true }

/-- A request is accepted (R240, R242). (DEDUCED, assumption 68) -/
def acceptSwap (late : Bool) (x : SwapSrc) (s : State) : State :=
  match x with
  | .set n _ => s.set (R.SWAP_CTL.FIRED n) 1
  | .host n => finishCmd n stOk [] late s
  | .port => s

/-- Requests of one edge, judged each on its own in rank order: the first one not refused is accepted, those of the
same target merge into it, and the others are refused with reason 6 (R244). Answers the accepted target. -/
def judgeRequests (r : Nat) (late : Bool) (reqs : List (SwapSrc × Nat)) (s : State) : Option Nat × State :=
  let isHost := fun x => match x with | SwapSrc.host _ => true | _ => false
  let win := (reqs.find? fun e => (s.swapReason r e.2 (isHost e.1)).isNone).map fun e => e.2
  (win, forEach reqs (fun e t =>
    match s.swapReason r e.2 (isHost e.1) with
    | some k => refuseSwap r k e.1 t
    | none => if win = some e.2 then acceptSwap late e.1 t else refuseSwap r 6 e.1 t) s)

/-- Set members of region `r` that wait, lowest set first. -/
def State.waitingSets (s : State) (r : Nat) : List (SwapSrc × Nat) :=
  (List.range 16).flatMap fun k =>
    ((s.ctxR r).sets.filter fun e => e.1 == k).map fun e => (SwapSrc.set k e.2.2, e.2.1)

/-- Set members of region `r` have reached it at this edge: at the boundary where the context clock is tick-aligned, else
when their pulse crossing has delivered them (R242). -/
def State.setsHere (s : State) (r : Nat) (delivered : Bool) : Bool := delivered || s.ctxAligned r

/-- The requests that reach region `r` at an edge that is not c1 of a swap (R244). A host request crosses from context
control, which has no clock while domain 9 is unlocked (R67). -/
def State.requests (s : State) (r : Nat) (port : Option (Fin 4)) (delivered : Bool) : List (SwapSrc × Nat) :=
  (if s.setsHere r delivered then s.waitingSets r else [])
    ++ (match (s.ctxR r).host with
      | some (n, q) => if delivered && s.clocked 9 then [(SwapSrc.host n, q)] else []
      | none => [])
    ++ (match port with
      | some q => if s.flag (R.CTX_CFG.PORT_EN r) && s.fab.writes then [(SwapSrc.port, q.val)] else []
      | none => [])

/-- The swap edge c0 to plane `q` (R231): the flip-flops have taken their next value under the old plane at the edge itself,
the border cells hold what they presented before it, and the state and the configuration change. After a failed copy the
failed plane becomes Empty (R257). -/
def swapEdge (r q : Nat) (s : State) : State :=
  let p := s.activePlane r
  let failed := (s.ctxR r).ow = 4
  let s := swapTo r q (beginHold r s)
  let s := s.modCtx r fun c => { c with inSwap := true, edge := false, swapFrom := p, ow := if failed then 0 else c.ow }
  let s := s.modFab fun f => { f with skip := dropKeys f.skip fun k => k / 32 == r }
  let s := applyIf failed (fun s => emptyPlane r p s) s
  refreshReblock (refreshBorder r (s.set (R.CTX_STAT.OW_FAIL r) 0))

/-- Every request at an edge is judged, and an accepted one swaps; a target that is Active already is accepted as no
swap (R244, R245). -/
def sampleEdge (r : Nat) (late : Bool) (port : Option (Fin 4)) (delivered : Bool) (s : State) : State :=
  let reqs := s.requests r port delivered
  let act := s.activePlane r
  let here := s.setsHere r delivered
  let crossed := delivered && s.clocked 9
  let (win, s) := judgeRequests r late reqs s
  let s := s.modCtx r fun c => { c with
    sets := if here then [] else c.sets
    host := if crossed then none else c.host }
  match win with
  | some q => if q = act then s else swapEdge r q s
  | none => s

/-- SWAP_EDGE: requests are sampled at the edge that the context clock has just made. At c1 of a swap only a port request is
judged, and refused with reason 5 unless an earlier one applies; the others wait for c2 (R229, R231, R242, R244–R246).
(DESIGN CHOICE, assumption 57) -/
def execSwapEdge (r : Fin 128) (port : Option (Fin 4)) (delivered : Bool) (s : State) : Out :=
  let c := s.ctxR r
  if !c.edge || !s.hasActive r || c.inSwap then .next s
  else if c.c1 = 2 then
    match port with
    | some q => if s.flag (R.CTX_CFG.PORT_EN r) && s.fab.writes then
        .next (refuseSwap r ((s.swapReason r q false).getD 5) .port s) else .next s
    | none => .next s
  else if s.requests r port delivered = [] then .next s
  else .next (sampleEdge r false port delivered s)

/-- SWAP_CYCLE_END: c1, the next edge of the context clock that leaves its shed gate. Without a source there is no c1
(R583). -/
def execSwapCycleEnd (r : Fin 128) (s : State) : Out :=
  if !(s.ctxR r).inSwap || !s.passesNext (s.ctxNet r) then .next s
  else .next ((endSwap r s).modCtx r fun c => { c with c1 := 1 })

/-- HOST_SWAP_TIMEOUT: 1 ms passes without an edge that samples the host request, which is withdrawn. An acknowledge at
that edge means the swap took place, and completes with `LATE` (R240). (DEDUCED, assumption 42) -/
def execHostSwapTimeout (r : Fin 128) (ackAtEdge : Bool) (s : State) : Out :=
  let c := s.ctxR r
  match c.host with
  | some (n, _) =>
    if ackAtEdge then
      if c.edge && s.hasActive r && !c.inSwap && c.c1 != 2 then .next (sampleEdge r true none true s) else .next s
    else .next (refuseSwap r 7 (.host n) (s.modCtx r fun c => { c with host := none }))
  | none => .next s

/-- Ticks since tick `t`. -/
def State.since (s : State) (t : Nat) : Nat := (s.clk.tick + (tickMod - t % tickMod)) % tickMod

/-- A rotation that was to start at tick `t` does not: it is reported as a member of a set would be, with set 255 in the event
where no set exists (R242, R250). (DESIGN CHOICE, assumption 217) -/
def refuseRotation (r t reason : Nat) (s : State) : State :=
  endRotation r (raise 0x0210 [(1, r), (1, 255), (6, t), (1, reason)] (nackRegion r reason s))

/-- SWAP_MEMBER_TIMEOUT: a member, or the start of a rotation, had no edge within 16 ticks of the boundary (R242, R250).
(DEDUCED, assumption 42) -/
def execSwapMemberTimeout (r : Fin 128) (s : State) : Out :=
  let due := (s.ctxR r).sets.filter fun e => decide (16 ≤ s.since e.2.2)
  let s1 := s.modCtx r fun c => { c with sets := c.sets.filter fun e => !decide (16 ≤ s.since e.2.2) }
  let s2 := forEach due (fun e t => refuseMember e.1 e.2.2 r 7 t) s1
  .next (match (s.ctxR r).rotStart with
    | some t => if t ≠ 0 ∧ s.clk.running ∧ !tickLater t s.clk.tick ∧ 16 ≤ s.since t then refuseRotation r t 7 s2 else s2
    | none => s2)

/-! ## Swap sets -/

/-- Members of a set with their targets. -/
def State.setMembers (s : State) (k : Nat) : List (Nat × Nat) :=
  ((List.range 128).filter fun r => s.flag (R.SWAP_TGT.MEMBER k (r / 8) (r % 8))).map fun r =>
    (r, s.get (R.SWAP_TGT.PLANE k (r / 8) (r % 8)))

/-- A set with a lower number fires at tick `t` and names region `r` (R244). -/
def State.takenByLower (s : State) (k t r : Nat) : Bool :=
  (List.range k).any fun j => s.flag (R.SWAP_TGT.MEMBER j (r / 8) (r % 8)) && s.clk.sched.any fun e =>
    (e.2.st == 4 || e.2.st == 2) && e.2.action == 1 && e.2.arg == j && e.2.tick == t

/-- Reason for which a member of an atomic set would be refused, judged at the boundary (R243). -/
def State.readiness (s : State) (r q : Nat) : Option Nat :=
  match s.swapReason r q false with
  | some k => some k
  | none => if s.ctxRuns r then none else some 7

/-- Swap set `k` fires at the boundary of tick `t` (R242–R244). (DEDUCED, assumptions 68, 69) -/
def fireSet (k t : Nat) (s : State) : State :=
  let ms := s.setMembers k
  let s := s.set (R.SWAP_CTL.FAIL_CNT k) 0
  let push := fun (e : Nat × Nat) (s : State) => s.modCtx e.1 fun c => { c with sets := c.sets ++ [(k, e.2, t)] }
  if s.flag (R.SWAP_CTL.ATOMIC k) then
    if ms.any fun e => s.takenByLower k t e.1 then forEach ms (fun e s => refuseMember k t e.1 6 s) s
    else if ms.any fun e => (s.readiness e.1 e.2).isSome then
      forEach ms (fun e u => refuseMember k t e.1 ((s.readiness e.1 e.2).getD 0) u) s
    else forEach ms push s
  else forEach ms push s

/-- A write of `SWAP_TGT[k][w]`: ignored for an armed set, which sets `WR_DROP` (R241). -/
def writeSwapTgt (k w val : Nat) (s : State) : State :=
  if s.flag (R.SWAP_CTL.ARMED k) then s.set (R.SWAP_CTL.WR_DROP k) 1
  else forEach (List.range 8) (fun i s =>
    (s.set (R.SWAP_TGT.PLANE k w i) (val / 2 ^ (4 * i))).set (R.SWAP_TGT.MEMBER k w i) (val / 2 ^ (4 * i + 3))) s

/-- SWAP_TGT_WRITE (R241). -/
def execSwapTgtWrite (k w : Fin 16) (val : BitVec 32) (s : State) : Out :=
  if s.up then .next (writeSwapTgt k w val.toNat s) else .next s

/-! ## Rotation -/

/-- The rotation order of region `r`. -/
def State.rotOrder (s : State) (r : Nat) : List Nat :=
  (List.range (s.get (R.CTX_CFG.ROT_LEN r) + 1)).map fun k => bitsOf (s.get (R.CTX_CFG.ROT_ORDER r)) (2 * k) 2

/-- The border cells that plane `p` drives take the values that it drove at the edge that ends its cycle, and hold them for
the rest of the round (R249). -/
def holdDriven (r p : Nat) (s : State) : State :=
  let mine := fun a => borderRegion a == r && Config.borderPlane (s.plane r p).frames a == p
  let now := s.fab.out.filter fun e => mine e.1 && s.output e.1 == 1
  s.modFab fun f => { f with hold := now.foldl (fun m e => put m e.1 1) (dropKeys f.hold mine) }

/-- Plane `q` takes over at a rotation edge. (DEDUCED, assumption 70) -/
def rotateTo (r q : Nat) (s : State) : State :=
  let s := (holdDriven r (s.activePlane r) s).modCtx r fun c => { c with edge := false }
  if q = s.activePlane r then s else swapTo r q s

/-- Rotation of region `r` starts: its border cells present what they now present until their planes drive them (R249,
R250). -/
def startRotation (r : Nat) (s : State) : State :=
  let now := s.fab.out.filter fun e => borderRegion e.1 == r && decide (s.present e.1 = 1)
  let s := s.modFab fun f => { f with hold := now.foldl (fun m e => put m e.1 1) (dropKeys f.hold fun a => borderRegion a == r) }
  (s.set (R.CTX_STAT.ROTATING r) 1).modCtx r fun c => { c with rotPos := 0, rotStart := none }

/-- The next turn of a rotating region: at the end of the first round that begins after the delivery of a stop request, the
final plane takes over and rotation ends (R248, R250). -/
def rotateNext (r : Nat) (delivered : Bool) (s : State) : State :=
  let c := s.ctxR r
  let order := s.rotOrder r
  if c.rotPos + 1 < order.length then
    (rotateTo r (order.getD (c.rotPos + 1) 0) s).modCtx r fun c => { c with rotPos := c.rotPos + 1 }
  else match c.rotStop with
    | some (q, true) => endRotation r (rotateTo r q s)
    | stop => (rotateTo r (order.getD 0 0) s).modCtx r fun c =>
        { c with rotPos := 0, rotStop := stop.map fun e => (e.1, delivered) }

/-- An armed rotation whose tick has come starts with the first plane of its order, unless Table 8-5 refuses one (R250). -/
def rotateStart (r t : Nat) (s : State) : State :=
  let order := s.rotOrder r
  if t ≠ 0 ∧ (tickLater t s.clk.tick ∨ !s.clk.running) then s
  else if t ≠ 0 ∧ 16 ≤ s.since t then refuseRotation r t 7 s
  else match (order.filterMap fun q => s.swapReason r q false).head? with
    | some k => refuseRotation r t k s
    | none => startRotation r (rotateTo r (order.getD 0 0) s)

/-- ROTATION_EDGE: at the edge that the context clock has just made, an armed rotation starts, or the region goes to the next
plane of its order. A border cause, or a mode that is not run-class, ends it. A start at a tick reaches a tick-aligned region
at its boundary; every other request acts once it is delivered (R229, R242, R248, R250). (DEDUCED, assumption 73) -/
def execRotationEdge (r : Fin 128) (delivered : Bool) (s : State) : Out :=
  let c := s.ctxR r
  if !c.edge || !s.flag (R.CTX_CFG.ROT_EN r) || c.inSwap then .next s
  else if !s.runClass || decide (2 ≤ s.borderCause r) then .next (endRotation r s)
  else if s.flag (R.CTX_STAT.ROTATING r) then .next (rotateNext r delivered s)
  else .next (match c.rotStart with
    | some t => if delivered || (t != 0 && s.ctxAligned r) then rotateStart r t s else s
    | none => s)

/-! ## Capture -/

/-- A capture goes into the buffer of region `r` (R251). (DEDUCED, assumption 71) -/
def takeCapture (r : Nat) (c : Capture) (s : State) : State :=
  let s := s.modCtx r fun x => { x with cap := some c }
  ((((s.set (R.CAP_STAT.FULL r) 1).set (R.CAP_STAT.PLANE r) c.plane).setB (R.CAP_STAT.SHADOW r) c.isShadow).setB
    (R.CAP_STAT.AT_SWAP r) c.atSwap).set (R.CAP_STAT.TICK_L r) c.tick

/-- The capture of plane `p` with flip-flops `ffs`. -/
def State.capOf (s : State) (r p : Nat) (isShadow atSwap : Bool) (ffs : SMap Nat) : Capture :=
  let pl := s.plane r p
  ⟨p, isShadow, atSwap, s.clk.tick, pl.prot, pl.imageId, pl.frames, ffs⟩

/-- Capture of plane `p` is forbidden by protection (Table 15-5). -/
def State.capBarred (s : State) (r p : Nat) : Bool := s.protPlane r p && !s.flag R.SEC_PROT.DBG_READ

/-- The buffer of region `r` empties (R254). -/
def freeCapture (r : Nat) (s : State) : State :=
  (s.modCtx r fun x => { x with cap := none }).set (R.CAP_STAT.FULL r) 0

/-- The clock of flip-flop `i` of region `r` is related to the context clock; a local clock wire is not (R97, R252). -/
def State.ffRelated (s : State) (r i : Nat) : Bool :=
  let fr := s.frames r
  let c := Config.cell fr (i / 2)
  let k := (Config.ctl fr (4 * (i / 32) + (if i % 2 = 0 then c.csA else c.csB).val)).clk.val
  decide (k < 16) && s.relatedNet (16 * r + k)

/-- Flip-flops `ffs` of region `r` as a capture shows them: those of an unrelated clock that `race` lists show the value
listed (R252). (DESIGN CHOICE, assumption 74) -/
def State.raced (s : State) (r : Nat) (race : List (Fin 200704 × Bool)) (ffs : SMap Nat) : SMap Nat :=
  race.foldl (fun m e => if s.ffRelated r e.1 then m else put m e.1 e.2.toNat) ffs

/-- CAPTURE_EDGE: a capture of the active plane at the edge that the context clock has just made, asked for by `CAP_REQ` or
`CTX_CAPTURE`: flip-flops with an edge there show the value after it. One at a swap edge copies the outgoing plane, whose
`PORT_EN` rules its `CAP_REQ` (R239, R251, R252, R254). (DEDUCED, assumption 71; DESIGN CHOICE, assumption 74) -/
def execCaptureEdge (r : Fin 128) (portReq atSwap : Bool) (race : List (Fin 200704 × Bool)) (s : State) : Out :=
  let c := s.ctxR r
  let port := portReq && (if atSwap then c.portWas else s.flag (R.CTX_CFG.PORT_EN r)) && s.fab.writes
  if !(if atSwap then c.inSwap else c.edge) || !s.hasActive r || (!port && c.capReq.isNone) then .next s
  else
    let p := if atSwap then c.swapFrom else s.activePlane r
    let s0 := s.modCtx r fun c => { c with capReq := none }
    let answer := fun st res s => match c.capReq with | some n => finishCmd n st res false s | none => s
    if s.capBarred r p then .next (answer stDenied [] s0)
    else if s.flag (R.CAP_STAT.FULL r) then .next (answer stNoResource [] (s0.set (R.CAP_STAT.REFUSED r) 1))
    else
      let ffs := if atSwap then (s.plane r p).shadow else s.raced r race (s.live r)
      let s1 := takeCapture r (s.capOf r p false atSwap ffs) s0
      let s2 := applyIf port (fun s => s.modCtx r fun c => { c with capDone := true }) s1
      .next (answer stOk (pack [(1, p), (6, s.clk.tick)]) s2)

/-! ## Commands of Table 8-12 -/

/-- CTX_STATUS. -/
def execCtxStatus (mb r : Nat) (s : State) : Out :=
  .next (talnum mb 0x0220 [(1, r)] (fun s =>
    if 128 ≤ r then .fail stBadArg s
    else if s.test.busy.contains r then .fail stBusyTest s
    else .ret [(4, s.cardWord (0x300000 + 4 * r)), (4, s.cardWord (0x300200 + 4 * r)),
      (4, s.cardWord (0x300400 + 4 * r))] s) s)

/-- CTX_SWAP: a host request on a region, or a swap set at a tick (R240, R259). A request on a region that already has
one waiting is refused. (DEDUCED, assumption 72) -/
def execCtxSwap (mb isSet num plane tick : Nat) (s : State) : Out :=
  let args := if isSet = 1 then [(1, isSet), (1, num), (6, tick)] else [(1, isSet), (1, num), (1, plane)]
  .next (talnum mb 0x0221 args (fun s =>
    if isSet = 1 then
      if 16 ≤ num ∨ !s.tickAhead tick ∨ s.clk.sched.any (fun p => (p.2.st == 1 || p.2.st == 4) && p.2.tick == tick
          && p.2.action == 1 && p.2.target == 0) then .fail stBadArg s
      else if (s.setMembers num).any fun e => s.test.busy.contains e.1 then
        .done stBusyTest (leBytes 4 s.testLeft) s
      else match schedPlace tick 1 0 num s with
        | some (h, s) => .ret [(1, h)] s
        | none => .fail stNoResource s
    else if isSet ≠ 0 ∨ 128 ≤ num ∨ 4 ≤ plane then .fail stBadArg s
    else if s.test.busy.contains num || s.test.busy.contains (1024 + 4 * num + plane) then .done stBusyTest (leBytes 4 s.testLeft) s
    else if !s.runClass then .done stDenied [] (nackRegion num ((s.swapReason num plane true).getD 4) s)
    else if (s.ctxR num).host.isSome then .fail stDenied s
    else .runs (s.modCtx num fun c => { c with host := some (s.serial mb, plane) })) s)

/-- CTX_SET_DEF. -/
def execCtxSetDef (mb set atomic mask planes : Nat) (s : State) : Out :=
  .next (talnum mb 0x0222 [(1, set), (1, atomic), (16, mask), (32, planes)]
    (checks [(decide (16 ≤ set) || decide (2 ≤ atomic), stBadArg),
        ((List.range 128).any fun r => mask.testBit r && s.test.busy.contains r, stBusyTest),
        (s.flag (R.SWAP_CTL.ARMED set), stBusy)]
      fun s => .ok (forEach (List.range 128) (fun r s =>
        (s.set (R.SWAP_TGT.MEMBER set (r / 8) (r % 8)) (mask / 2 ^ r)).set (R.SWAP_TGT.PLANE set (r / 8) (r % 8))
          (planes / 2 ^ (2 * r))) (s.set (R.SWAP_CTL.ATOMIC set) atomic))) s)

/-- Plane `p` of region `r` belongs to a rotation that runs or is armed. (DEDUCED, assumption 73) -/
def State.rotates (s : State) (r p : Nat) : Bool := s.flag (R.CTX_CFG.ROT_EN r) && (s.rotOrder r).contains p

/-- Plane `p` of region `r` is named by an armed swap set (R227). -/
def State.armedPlane (s : State) (r p : Nat) : Bool :=
  (List.range 16).any fun k => s.flag (R.SWAP_CTL.ARMED k) && s.flag (R.SWAP_TGT.MEMBER k (r / 8) (r % 8))
    && s.get (R.SWAP_TGT.PLANE k (r / 8) (r % 8)) == p

/-- CTX_DISCARD: the hood becomes Empty at an edge of the context clock (R225, R229). (DEDUCED, assumption 214) -/
def execCtxDiscard (mb r p : Nat) (s : State) : Out :=
  .next (talnum mb 0x0223 [(1, r), (1, p)]
    (checks [(decide (128 ≤ r) || decide (4 ≤ p), stBadArg), (s.test.busy.contains r || s.test.busy.contains (1024 + 4 * r + p), stBusyTest),
        (s.planeState r p == psActive || s.rotates r p || s.armedPlane r p, stDenied),
        (s.planeState r p == psLoading, stBusy)]
      fun s => if s.planeState r p = psEmpty then .ok s
        else if s.ctxRuns r then .runs (askState r p psEmpty (s.serial mb) s)
        else .ok (emptyPlane r p s)) s)

/-- The context clock of region `r` exceeds 250 MHz, from a tree or from another source (R248). (DESIGN CHOICE, assumption
213) -/
def State.ctxTooFast (s : State) (r : Nat) : Bool :=
  let src := s.netSrc (s.ctxNet r)
  decide (250000 < if src < 4 then s.domainKHz (21 + src) else Config.userKHz (s.ctxNet r))

/-- CTX_ROTATE: starts rotation at the next edge or at a tick, or asks it to stop with a final plane (R248, R250). -/
def execCtxRotate (mb r start : Nat) (order : List (Fin 4)) (arg : Nat) (s : State) : Out :=
  let args := if start = 1 then [(1, r), (1, start), (1, order.length)] ++ order.map (fun q => (1, q.val)) ++ [(6, arg)]
    else [(1, r), (1, start), (1, arg)]
  .next (talnum mb 0x0224 args (fun s =>
    if 128 ≤ r ∨ 2 ≤ start then .fail stBadArg s
    else if s.test.busy.contains r then .done stBusyTest (leBytes 4 s.testLeft) s
    else if start = 1 then
      checks [(decide (order.length < 2) || decide (4 < order.length), stBadArg), (arg != 0 && !s.tickAhead arg, stBadArg),
          (s.ctxTooFast r, stBadArg),
          (order.any fun q => !(s.planeState r q == psHood || s.planeState r q == psActive), stDenied),
          (s.flag (R.CTX_CFG.ROT_EN r) || !s.runClass || decide (2 ≤ s.borderCause r), stDenied)]
        (fun s =>
          let v := (List.range order.length).foldl (fun a k => a + (order.getD k 0).val * 4 ^ k) 0
          let s := ((s.set (R.CTX_CFG.ROT_EN r) 1).set (R.CTX_CFG.ROT_LEN r) (order.length - 1)).set
            (R.CTX_CFG.ROT_ORDER r) v
          .ok (s.modCtx r fun c => { c with rotStart := some arg, rotStop := none, rotPos := 0 })) s
    else
      checks [(decide (4 ≤ arg), stBadArg), (!s.flag (R.CTX_STAT.ROTATING r), stDenied),
          (!(s.rotOrder r).contains arg, stBadArg)]
        (fun s => .ok (s.modCtx r fun c => { c with rotStop := some (arg, false) })) s) s)

/-- CTX_CAPTURE: an inactive plane's shadow at once; the active plane at the next edge, or at once in Safe and Quiescent
(R251, R253, R254). (DEDUCED, assumption 72) -/
def execCtxCapture (mb r p : Nat) (s : State) : Out :=
  .next (talnum mb 0x0225 [(1, r), (1, p)]
    (checks [(decide (128 ≤ r) || decide (4 ≤ p), stBadArg), (s.test.busy.contains r || s.test.busy.contains (1024 + 4 * r + p), stBusyTest),
        (s.capBarred r p, stDenied)]
      fun s =>
        if s.flag (R.CAP_STAT.FULL r) then .done stNoResource [] (s.set (R.CAP_STAT.REFUSED r) 1)
        else if s.planeState r p ≠ psActive then
          .ret [(1, p), (6, s.clk.tick)] (takeCapture r (s.capOf r p true false (s.plane r p).shadow) s)
        else if s.mode = mSafe ∨ s.mode = mQuiescent then
          .ret [(1, p), (6, s.clk.tick)] (takeCapture r (s.capOf r p false false (s.live r)) s)
        else if (s.ctxR r).capReq.isSome then .fail stNoResource s
        else .runs (s.modCtx r fun c => { c with capReq := some (s.serial mb) })) s)

/-- CTX_CAP_FREE (R254). -/
def execCtxCapFree (mb r : Nat) (s : State) : Out :=
  .next (talnum mb 0x0226 [(1, r)]
    (checks [(decide (128 ≤ r), stBadArg), (s.test.busy.contains r, stBusyTest)]
      fun s => .ok (freeCapture r s)) s)

end Sys2Proof.Machine
end

