-- ==== Sys2Proof/Machine/Io.lean ====
section
/-! DEFINITION. User pins, TDC channels, test pulses, DACs and the measurement commands ("User Pins, Time-to-Digital
Converters and Analogue Channels"). -/

namespace Sys2Proof.Machine

/-- Change the I/O state. -/
def State.modIo (s : State) (f : Io → Io) : State := { s with io := f s.io }

/-- Channel `n`. -/
def State.ch (s : State) (n : Nat) : TdcCh := at' s.io.ch n TdcCh.init

/-- Change channel `n`. -/
def State.modCh (s : State) (n : Nat) (f : TdcCh → TdcCh) : State :=
  s.modIo fun i => { i with ch := putD i.ch n TdcCh.init (f (s.ch n)) }

/-- I/O bank `b`. -/
def State.ioBank (s : State) (b : Nat) : IoBank := at' s.io.banks b IoBank.init

/-- Change I/O bank `b`. -/
def State.modBank (s : State) (b : Nat) (f : IoBank → IoBank) : State :=
  s.modIo fun i => { i with banks := putD i.banks b IoBank.init (f (s.ioBank b)) }

/-- Calibration group `k` = bank × 3 + group. -/
def State.group (s : State) (k : Nat) : CalGroup := at' s.io.groups k ⟨0, [], none, false, false⟩

/-- Change calibration group `k`. -/
def State.modGroup (s : State) (k : Nat) (f : CalGroup → CalGroup) : State :=
  s.modIo fun i => { i with groups := putD i.groups k ⟨0, [], none, false, false⟩ (f (s.group k)) }

/-- Function of the bank group of bank `b` (R102). -/
def bankFunc (b : Nat) : Nat := 0xA8 + b / 4

/-! ## VIO and pins -/

/-- Declared VIO of bank `b` in mV (Table 4-8). -/
def State.vioDecl (s : State) (b : Nat) : Nat :=
  match s.get (R.BANK_CTL.VIO_DECL b) with | 0 => 1000 | 1 => 1200 | 2 => 1500 | _ => 1800

/-- VIO_PRESENT (R102). -/
def execVioPresent (g : Fin 8) (s : State) : Out :=
  .next (s.modIo fun i => { i with vio := if i.vio.contains g.val then i.vio else g.val :: i.vio })

/-- VIO_ABSENT (R102). -/
def execVioAbsent (g : Fin 8) (s : State) : Out :=
  .next (s.modIo fun i => { i with vio := i.vio.filter fun k => k != g.val })

/-- VIO_LOSS: in a run-class mode the bank's outputs go hi-Z and its channels stop (R106). -/
def execVioLoss (b : Fin 32) (s : State) : Out :=
  if !s.runClass || (s.ioBank b).vioDown then .next s
  else
    .next (raise 0x0601 [(1, b.val)]
      (((s.modBank b fun k => { k with vioDown := true }).set (R.BANK_CTL.VIO_LOSS b) 1).set (R.BANK_CTL.VIO_OK b) 0))

/-- VIO_RESTORE: outputs and channels return to their configuration (R106). -/
def execVioRestore (b : Fin 32) (s : State) : Out :=
  if (s.ioBank b).vioDown then
    .next ((s.modBank b fun k => { k with vioDown := false }).set (R.BANK_CTL.VIO_OK b) 1)
  else .next s

/-- The last measurement of the VIO of bank `b` lies within 5 % of the declared value (R105, Table 4-8). (DEDUCED,
assumption 43) -/
def State.vioOk (s : State) (b : Nat) : Bool :=
  let d := s.vioDecl b
  let v := s.get (R.HKP_RES.VALUE (136 + b))
  decide (95 * d ≤ 100 * v) && decide (100 * v ≤ 105 * d)

/-- `VIO_OK` of every bank follows a round of housekeeping (Table 4-8). (DEDUCED, assumption 43) -/
def refreshVio (s : State) : State :=
  forEach (List.range 32) (fun b s =>
    if s.flag (R.HKP_RES.VALID (136 + b)) then s.setB (R.BANK_CTL.VIO_OK b) (s.vioOk b) else s) s

/-- The VIO check at the OUT step (R105): a bank off by more than 5 % stays unconfigured. -/
def checkVio (b : Nat) (s : State) : State :=
  let ok := s.vioOk b
  let s := s.modBank b fun k => { k with vioDown := false }
  let s := (s.setB (R.BANK_CTL.VIO_OK b) ok).setB (R.BANK_CTL.VIO_MISMATCH b) (!ok)
  applyIf (!ok) (raise 0x0601 [(1, b)]) s

/-- The pins and channels of bank `b` follow their configuration (Table 4-3, R105, R106). -/
def State.bankLive (s : State) (b : Nat) : Bool :=
  s.io.released && (s.runClass || decide (s.mode = mBlocking)) && !s.flag (R.BANK_CTL.VIO_MISMATCH b)
    && !(s.ioBank b).vioDown

/-- What drives a pin (Table 4-3): nothing; the state that `STRAP_PULL` selects; the pin's own `PULL`; a value; the patterns of
the pin slice; or the boundary register of the test access port, whose contents the model does not hold (R518). -/
inductive PinDrive where
  | hiZ
  | strap (pull : Nat)
  | input (pull : Nat)
  | drive (v : Bool)
  | slice
  | boundary
deriving DecidableEq, Repr

/-- What the complement of a pair presents where the true pin presents `p` (R104). -/
def PinDrive.complement : PinDrive → PinDrive
  | .drive v => .drive (!v)
  | p => p

/-- Border address of the output (`k` = 0) or the output enable (`k` = 1) of pin `n` (R111, Table 6-9). -/
def pinAddr (n k : Nat) : Nat := 2 ^ 21 * bankRegion (n / 48) + 2 ^ 18 + 48 * k + n % 48

/-- The pins keep the outputs and output enables that they have (R109, Table 4-3). -/
def holdPins (s : State) : State :=
  let l := (s.ones ((List.range 32).map bankRegion)).filter fun a => a.testBit 18 && decide (a % 8192 < 96)
  s.modIo fun i => { i with pinHold := l }

/-- Output (`k` = 0) or output enable (`k` = 1) that reaches pin `n` from its edge region through the interface border cell;
in Quiescent and Safe the one held (R109, R111, R184). -/
def State.pinOut (s : State) (n k : Nat) : Bool :=
  if s.mode = mQuiescent ∨ s.mode = mSafe then s.io.pinHold.contains (pinAddr n k) else s.present (pinAddr n k) == 1

/-- Pin `n` as configured, or holding last (Table 4-2, R109). Between its pulses a pulse output drives 0. -/
def State.pinRuns (s : State) (n : Nat) : PinDrive :=
  match s.get (R.PIN_CFG.DIR n) with
  | 1 => .drive (s.pinOut n 0)
  | 2 => if s.pinOut n 1 then .drive (s.pinOut n 0) else .input (s.get (R.PIN_CFG.PULL n))
  | 3 => .drive false
  | _ => .input (s.get (R.PIN_CFG.PULL n))

/-- The pin slice runs on bank `b` in Test (Table 19-1). -/
def State.pinSlice (s : State) (b : Nat) : Bool :=
  decide (s.mode = mTest) && match s.test.run with
    | some x => x.slice == 7 && x.units.contains b
    | none => false

/-- Pin `n` is the complement of a differential pair (R104). -/
def State.oddOfPair (s : State) (n : Nat) : Bool := n % 2 == 1 && decide (4 ≤ s.get (R.PIN_CFG.STD (n - 1)))
  && decide (s.get (R.PIN_CFG.STD (n - 1)) ≤ 5)

/-- The state of pin `n`, not the complement of a pair, by mode (R44, R102, R105, R106, R109, R110, Table 4-3). (DEDUCED,
assumption 220) -/
def State.pinAlone (s : State) (n : Nat) : PinDrive :=
  let b := n / 48
  let strap := PinDrive.strap (s.get R.STRAP_LATCH.PULL)
  if !s.up || !s.io.vio.contains (b / 4) || s.test.fenced.contains (7, n) then .hiZ
  else if s.pinSlice b then .slice
  else if s.mode ≤ mLoad ∨ s.mode = mTest ∨ (s.mode = mBlocking ∧ !s.io.released) then strap
  else if s.get (R.PIN_CFG.STD n) = 0 ∨ s.flag (R.BANK_CTL.VIO_MISMATCH b) then strap
  else if s.mode = mSafe then
    if !s.aon.imageDone then strap
    else match s.get (R.PIN_CFG.SAFE n) with
      | 0 => .input (s.get (R.PIN_CFG.PULL n))
      | 1 => .drive false
      | 2 => .drive true
      | _ => s.pinRuns n
  else if (s.ioBank b).vioDown then .hiZ
  else s.pinRuns n

/-- The state of pin `n`: the complement of a pair follows its true pin (R104, Table 4-3). The boundary-scan instructions that
act on pins take it over (R518). (DEDUCED, assumption 174) -/
def State.pinDrive (s : State) (n : Nat) : PinDrive :=
  match s.mgt.tapIr with
  | 3 => .hiZ
  | 0 | 4 | 5 | 6 => .boundary
  | _ => if s.oddOfPair n then (s.pinAlone (n - 1)).complement else s.pinAlone n

/-- Input that pin `n` gives its edge region (R104, R111). -/
def State.pinInput (s : State) (n : Nat) : Bool := if s.oddOfPair n then !(s.ch (n - 1)).level else (s.ch n).level

/-- `PIN_CFG` may change from Blocking onwards (R107). (DEDUCED, assumption 52) -/
def State.pinsOpen (s : State) : Bool := decide (mBlocking ≤ s.mode)

/-- `IDELAY` reads its written value at once (R108). (DEDUCED, assumption 52) -/
def writeIdelay (n v : Nat) (s : State) : State := if s.pinsOpen then s.set (R.PIN_CFG.IDELAY n) v else s

/-- IDELAY_WRITE (R108). -/
def execIdelayWrite (n : Fin 1536) (taps : BitVec 9) (s : State) : Out := .next (writeIdelay n taps.toNat s)

/-- IDELAY_STEP: the delay in force moves one tap towards the written value (R108). -/
def execIdelayStep (n : Fin 1536) (s : State) : Out :=
  let w := s.get (R.PIN_CFG.IDELAY n)
  let t := (s.ch n).tap
  if !s.up ∨ !s.clocked 3 ∨ t = w then .next s else .next (s.modCh n fun c => { c with tap := if t < w then t + 1 else t - 1 })

/-! ## TDC channels -/

/-- Bin table of a core; before any calibration the table is linear. (DESIGN CHOICE, assumption 47) -/
def State.binTable (s : State) (core : Nat) : List Nat :=
  at' s.io.tables core ((List.range 256).map fun i => 16 * i + 8)

/-- Core number of the spare of channel `n`. -/
def spareCore (n : Nat) : Nat := 1536 + n / 48 * 3 + n % 48 / 16

/-- Group number of channel `n`. -/
def chGroup (n : Nat) : Nat := n / 48 * 3 + n % 48 / 16

/-- An edge as one core stamps it: tick, coarse count and raw bin. -/
structure CoreStamp where
  tick : Nat
  coarse : Nat
  raw : Nat
deriving DecidableEq, Repr

/-- What a core sees of an edge at the present tick, or in the one before it. -/
def coreStamp (c : CoreIn) (t : Nat) : CoreStamp := ⟨if c.prev then (t + tickMod - 1) % tickMod else t, c.coarse, c.raw⟩

/-- The spare's stamp is delivered: from the first edge whose primary stamp is not earlier than S, until the first whose spare
stamp is not earlier than S2 (R121, R123). -/
def State.onSpare (s : State) (n : Nat) (p x : CoreStamp) : Bool :=
  let c := s.ch n
  s.flag (R.TDC_CFG.CORE_FAIL n)
    || (c.cal == 2 && !tickLater c.switchTick p.tick)
    || c.cal == 3
    || (c.cal == 4 && tickLater c.switchTick x.tick)

/-- Channel `n` records an edge of that polarity which comes `sincePs` after its last recorded one (R104, R115, R119, Table
19-7). -/
def State.records (s : State) (n : Nat) (falling : Bool) (sincePs : Nat) : Bool :=
  s.bankLive (n / 48) && s.clocked 3 && s.flag (R.TDC_CFG.EN n)
    && (s.get (R.TDC_CFG.EDGE n)).testBit (if falling then 1 else 0) && decide (4000 ≤ sincePs) && !s.oddOfPair n
    && !s.held (bankFunc (n / 48)) && !s.test.fenced.contains (7, n)

/-- A hit goes into the FIFO of its channel, or is lost to a full one (R114, R116). (DEDUCED, assumption 45) -/
def recordHit (n : Nat) (falling : Bool) (p x : CoreStamp) (s : State) : State :=
  if 16 ≤ (s.ch n).fifo.length then
    ((s.modCh n fun c => { c with lossNext := true }).incWrap (R.TDC_LOST.LOST n)).set (R.TDC_CFG.LOSS n) 1
  else
    let sp := s.onSpare n p x
    let e := if sp then x else p
    let f := min 4095 ((s.binTable (if sp then spareCore n else n)).getD (e.raw % 256) 0)
    let stamp := 65536 * e.tick + 256 * e.coarse + f / 16
    let hdr := n % 48 + (if falling then 64 else 0) + 128 * (f % 16) + (if s.hold then 2048 else 0)
      + (if sp then 8192 else 0)
    s.modCh n fun c => { c with fifo := c.fifo ++ [stamp + 2 ^ 64 * hdr] }

/-- TDC_EDGE: an edge that has passed the input delay in force reaches the fabric, and an enabled channel stamps it (R108,
R111, R114–R116). A coarse count that N_T does not allow, and another delay, make no edge (R63). (DEDUCED, assumption 45)
-/
def execTdcEdge (n : Fin 1536) (e : TdcIn) (s : State) : Out :=
  let nt := (s.synth 3).n
  if !s.up || decide (e.tap ≠ (s.ch n).tap) || decide (nt ≤ e.core.coarse) || decide (nt ≤ e.spare.coarse) then .next s
  else
    let t := s.modCh n fun c => { c with level := !e.falling }
    .next (applyIf (s.records n e.falling e.sincePs)
      (recordHit n e.falling (coreStamp e.core s.clk.tick) (coreStamp e.spare s.clk.tick)) t)

/-- The channel that a round-robin arbiter serves after channel `k` of bank `b`. -/
def State.nextChannel (s : State) (b k : Nat) : Option Nat :=
  ((List.range 48).map fun i => (k + 1 + i) % 48).find? fun i => (s.ch (48 * b + i)).fifo != []

/-- A word enters the port FIFO of bank `b`; `STREAM_FULL` records that it has reached full (Table 4-8). (DEDUCED,
assumption 46) -/
def pushPort (b word : Nat) (s : State) : State :=
  let s := s.modBank b fun k => { k with port := k.port ++ [word] }
  applyIf (decide (256 ≤ (s.ioBank b).port.length)) (fun s => s.set (R.BANK_CTL.STREAM_FULL b) 1) s

/-- HIT_ARBITER: one hit moves into the port FIFO; a full FIFO stalls it and sets `STREAM_FULL` (R117). The header shows
hits of the channel lost since its last delivered one (Table 4-5). (DEDUCED, assumptions 45, 46) -/
def execHitArbiter (b : Fin 32) (s : State) : Out :=
  if !s.up || !s.clocked 3 || s.held (bankFunc b) || s.resyncing b then .next s
  else match s.nextChannel b (s.ioBank b).last with
    | none => .next s
    | some i =>
      if 256 ≤ (s.ioBank b).port.length then .next (s.set (R.BANK_CTL.STREAM_FULL b) 1)
      else
        let n := 48 * b.val + i
        let h := (s.ch n).fifo.headD 0 + if (s.ch n).lossNext then 2 ^ 64 * 4096 else 0
        let s := s.modCh n fun c => { c with fifo := c.fifo.drop 1, lossNext := false }
        .next (pushPort b h (s.modBank b fun k => { k with last := i }))

/-- The next watermark tick of bank `b` with period `w`. (DEDUCED, assumption 44) -/
def State.wmNext (s : State) (b w : Nat) : Nat :=
  match (s.ioBank b).wmTick with
  | some t => (t / w + 1) * w % tickMod
  | none => s.clk.tick / w * w

/-- WATERMARK_EMIT: the bank emits the watermark of tick T once no earlier hit remains before the port (R118). T runs
over the multiples of the period. (DEDUCED, assumptions 44, 46) -/
def execWatermarkEmit (b : Fin 32) (s : State) : Out :=
  let w := s.get (R.BANK_CTL.WMARK_PER b)
  if w = 0 ∨ !s.bankLive b ∨ !s.clocked 3 ∨ !s.clk.running ∨ s.held (bankFunc b) ∨ s.resyncing b then .next s
  else
    let t := s.wmNext b w
    let early := (List.range 48).any fun i => (s.ch (48 * b.val + i)).fifo.any fun h =>
      tickLater t (h / 65536 % tickMod)
    if tickLater t s.clk.tick || early then .next s
    else if 256 ≤ (s.ioBank b).port.length then .next (s.set (R.BANK_CTL.STREAM_FULL b) 1)
    else
      let hdr := 16384 + if s.hold then 2048 else 0
      .next (pushPort b (65536 * t + 2 ^ 64 * hdr) (s.modBank b fun k => { k with wmTick := some t }))

/-- HIT_PORT_TRANSFER: a word passes at an edge of `HS_CLK` with `HS_VALID` and `HS_READY` both 1. The design's `HS_READY`
reaches the bank through its interface border cell, and reads 0 while writes are disabled (R112, R184, R450). -/
def execHitPortTransfer (b : Fin 32) (hsReady : Bool) (s : State) : Out :=
  let r := bankRegion b
  if !s.up || !s.fab.clocksOn then .next s
  else
    let a := 2 ^ 21 * r + 2 ^ 18 + 96
    let s := recordOuts r [(a, hsReady)] s
    if s.present a != 1 || !s.fab.writes || s.held r || s.resyncing b || s.fab.cutHits.contains b.val then .next s
    else match (s.ioBank b).port with
      | [] => .next s
      | h :: t => .next (s.modBank b fun k => { k with port := t, shown := some h })

/-! ## Calibration -/

/-- A request for channel `n` is pending: it waits for the spare, or the spare serves it at that request. (DEDUCED, assumption
49) -/
def State.calPending (s : State) (n : Nat) : Bool :=
  let g := s.group (chGroup n)
  g.queue.contains n || (g.byReq && g.serving == some n)

/-- A request for the spare (R122): 0 taken, or `BUSY` while another one is pending, or `NO_RESOURCE`. -/
def calRequest (n : Nat) (s : State) : Nat × State :=
  let k := chGroup n
  if s.bit (R.BANK_CTL.SPARE_GONE (n / 48)) (n % 48 / 16) then (stNoResource, s)
  else if s.calPending n then (stBusy, s)
  else (stOk, (s.modGroup k fun g => { g with queue := g.queue ++ [n] }).modCh n fun c =>
    { c with cal := if (s.group k).serving = some n then c.cal else 1 })

/-- 1 written to `CAL_REQ` makes a request, and the field reads 1 until it has been served; a second 1 is ignored (R9, R122).
-/
def requestCal (n : Nat) (s : State) : State :=
  let (st, t) := calRequest n s
  if st = stOk then t.set (R.TDC_CFG.CAL_REQ n) 1 else s

/-- TDC_CFG_CAL_REQ: 1 written to `CAL_REQ` (R122). -/
def execTdcCfgCalReq (n : Fin 1536) (s : State) : Out := if s.up then .next (requestCal n s) else .next s

/-- A calibration of channel `n` ends: `CAL_REQ` clears unless another request waits (R9). -/
def endCal (n : Nat) (s : State) : State :=
  if (s.group (chGroup n)).queue.contains n then s else s.set (R.TDC_CFG.CAL_REQ n) 0

/-- The requests that wait in group `k` are dropped: their channels are idle again. (DESIGN CHOICE, assumption 221) -/
def dropQueue (k : Nat) (s : State) : State :=
  let l := (s.group k).queue
  forEach l (fun n s => (s.modCh n fun c => { c with cal := if c.cal = 1 then 0 else c.cal }).set (R.TDC_CFG.CAL_REQ n) 0)
    (s.modGroup k fun g => { g with queue := [] })

/-- The core that takes the next turn of group `k`: the primaries with `CAL_AUTO` in order, then 16 for the spare; none
where no primary takes part (R122, Table 4-6). (DEDUCED, assumption 49) -/
def State.nextTurn (s : State) (k : Nat) : Option Nat :=
  let auto := fun i => s.flag (R.TDC_CFG.CAL_AUTO (k / 3 * 48 + k % 3 * 16 + i))
  if (List.range 16).any auto then
    ((List.range 17).map fun i => ((s.group k).next + i) % 17).find? fun i => i == 16 || auto i
  else none

/-- A tick at least 16 ahead that firmware names (R121). (DESIGN CHOICE, assumption 48) -/
def State.namedTick (s : State) : Nat := (s.clk.tick + 16 + s.freeBelow 65536) % tickMod

/-- The spare connects to channel `n` (R121). (DESIGN CHOICE, assumption 48) -/
def connectSpare (n : Nat) (s : State) : State :=
  let t := s.namedTick
  let s := (s.useFree.modGroup (chGroup n) fun g => { g with serving := some n }).modCh n fun c =>
    { c with cal := 2, switchTick := t }
  s.setBit (R.BANK_CTL.SPARE_BUSY (n / 48)) (n % 48 / 16) true

/-- TDC_ROTATION_TURN: the spare takes its next turn: a request, or the next core of the rotation (R122). -/
def execTdcRotationTurn (b : Fin 32) (g : Fin 3) (s : State) : Out :=
  let k := 3 * b.val + g.val
  let q := s.group k
  if !s.up || !s.clocked 3 || q.stopped || q.serving.isSome || s.bit (R.BANK_CTL.SPARE_GONE b) g || s.held (bankFunc b) then
    .next s
  else match q.queue with
    | n :: t => .next (connectSpare n (s.modGroup k fun g => { g with queue := t, byReq := true }))
    | [] => match s.nextTurn k with
      | none => .next s
      | some i =>
        let s := s.modGroup k fun g => { g with next := (i + 1) % 17, byReq := false }
        if i = 16 then .next (s.modGroup k fun g => { g with serving := some (1536 + k) })
        else .next (connectSpare (48 * b.val + 16 * g.val + i) s)

/-- TDC_CAL_SWITCH: at tick S the spare serves the channel (R121). -/
def execTdcCalSwitch (n : Fin 1536) (s : State) : Out :=
  if s.clocked 3 ∧ (s.ch n).cal = 2 ∧ !tickLater (s.ch n).switchTick s.clk.tick then
    .next ((s.modCh n fun c => { c with cal := 3 }).set (R.TDC_CFG.ON_SPARE n) 1)
  else .next s

/-- The table that a code-density test gives (R120); none where a bin is empty or wider than 4 nominal bins (R123). -/
def densityTable (counts : List Nat) : Option (List Nat) :=
  let c := fun i => counts.getD i 0
  let n := (List.range 256).foldl (fun a i => a + c i) 0
  if (List.range 256).any fun i => c i == 0 || decide (n < 64 * c i) then none
  else
    let step := fun (a : Nat × List Nat) (i : Nat) =>
      let v := 4096 * (2 * a.1 + c i)
      (a.1 + c i, a.2 ++ [(v + n) / (2 * n)])
    some ((List.range 256).foldl step (0, [])).2

/-- A computed table goes to its core, unless an import during the step has given it another (R521). -/
def keepTable (c : Nat) (t : List Nat) (s : State) : State :=
  s.modIo fun i => { i with
    tables := if i.tableKept.contains c then i.tables else put i.tables c t
    tableKept := i.tableKept.filter fun k => k != c }

/-- TDC_CODE_DENSITY_DONE: the core's table is computed, or the core fails (R121, R123). (DESIGN CHOICE, assumption 221) -/
def execTdcCodeDensityDone (core : Fin 1632) (counts : List Nat) (s : State) : Out :=
  let c := core.val
  if !s.clocked 3 then .next s
  else if c < 1536 then
    if (s.ch c).cal ≠ 3 then .next s
    else match densityTable counts with
      | some t =>
        let s2 := s.namedTick
        let old := s.binTable c
        .next ((keepTable c t s.useFree).modCh c fun x =>
          { x with cal := 4, switchTick := s2, oldTable := if s.io.tableKept.contains c then none else some old })
      | none =>
        let s := dropQueue (chGroup c) ((s.modCh c fun x => { x with cal := 6, calTick := s.clk.tick }).modGroup (chGroup c)
          fun g => { g with stopped := true, serving := none, byReq := false })
        let s := s.set (R.TDC_CFG.CAL_REQ c) 0
        .next (raise 0x0602 [(2, c)]
          ((s.set (R.TDC_CFG.CORE_FAIL c) 1).setBit (R.BANK_CTL.SPARE_GONE (c / 48)) (c % 48 / 16) true))
  else
    let k := c - 1536
    if (s.group k).serving ≠ some c then .next s
    else
      let s := s.modGroup k fun g => { g with serving := none }
      match densityTable counts with
      | some t => .next (keepTable c t s)
      | none =>
        .next ((dropQueue k (s.modGroup k fun g => { g with stopped := true })).setBit
          (R.BANK_CTL.SPARE_GONE (k / 3)) (k % 3) true)

/-- TDC_CAL_SWITCH_BACK: at tick S2 the channel returns to its primary, and the released spare recalibrates itself
(R121). -/
def execTdcCalSwitchBack (n : Fin 1536) (s : State) : Out :=
  if s.clocked 3 ∧ (s.ch n).cal = 4 ∧ !tickLater (s.ch n).switchTick s.clk.tick then
    let s := (s.modCh n fun c => { c with cal := 5, calTick := s.clk.tick, oldTable := none }).modGroup (chGroup n) fun g =>
      { g with serving := some (spareCore n), byReq := false }
    .next (raise 0x0603 [(2, n.val)]
      (((endCal n s).set (R.TDC_CFG.ON_SPARE n) 0).setBit (R.BANK_CTL.SPARE_BUSY (n.val / 48)) (n.val % 48 / 16) false))
  else .next s

/-- A reset returns channel `n` to its primary core with the table that it had before the calibration, and clears its FIFO
(R113, R123). (DESIGN CHOICE, assumption 221) -/
def resetChannel (n : Nat) (s : State) : State :=
  let c := s.ch n
  let busy := decide (1 ≤ c.cal) && decide (c.cal ≤ 4)
  let s := match c.oldTable with
    | some t => s.modIo fun i => { i with tables := put i.tables n t }
    | none => s
  let s := s.modCh n fun c => { c with fifo := [], lossNext := false, oldTable := none, cal := if busy then 0 else c.cal }
  let s := applyIf busy (fun s => s.set (R.TDC_CFG.CAL_REQ n) 0) s
  if s.flag (R.TDC_CFG.CORE_FAIL n) || c.cal == 0 then s else s.set (R.TDC_CFG.ON_SPARE n) 0

/-- A reset of a bank group clears its channels and the arbiter; a spare that serves a failed core stays in use (R113, R123).
-/
def resetBanks (g : Nat) (s : State) : State :=
  forEach ((List.range 4).map (4 * g + ·)) (fun b s =>
    let s := forEach ((List.range 48).map (48 * b + ·)) resetChannel s
    let s := forEach (List.range 3) (fun k s =>
      let kept := (List.range 16).any fun i => s.flag (R.TDC_CFG.CORE_FAIL (48 * b + 16 * k + i))
      let s := dropQueue (3 * b + k) (s.modGroup (3 * b + k) fun q => { q with serving := none, byReq := false })
      if kept then s else s.setBit (R.BANK_CTL.SPARE_BUSY b) k false) s
    s.modBank b fun k => { k with last := 47 }) s

/-- A port FIFO resynchronises and its entries are discarded (R87, R113). -/
def resyncPort (b : Nat) (s : State) : State :=
  let s := applyIf ((s.ioBank b).port != []) (fun s => s.set (R.BANK_CTL.PORT_RESYNC b) 1) s
  startResync b (s.modBank b fun k => { k with port := [] })

/-! ## Test pulses -/

/-- A request for a test pulse at the end of tick `t`; a second one for the same tick merges into it (R124). -/
def armPulse (n t : Nat) (s : State) : State :=
  s.modCh n fun c => { c with armed := if c.armed.contains t then c.armed else c.armed ++ [t] }

/-- TP_REQ_PULSE: a pulse of `TP_REQ` enters its crossing, or the crossing's acknowledge phase ends (`ack`); the request that
leaves the crossing is for the present tick, and one that finds a pulse pending merges into it and sets `OVERRUN` (R90, R112,
R124). Behind a border and while writes are disabled `TP_REQ` makes no pulse (R184, R450). (DEDUCED, assumption 222) -/
def execTpReqPulse (p : TpReq) (s : State) : Out :=
  let n := p.pin
  let b := n.val / 48
  if !s.up || !s.clocked 3 then .next s
  else if p.ack then
    let (x, sent) := (s.ch n).tp.ack
    .next (applyIf sent (armPulse n s.clk.tick) (s.modCh n fun c => { c with tp := x }))
  else if !s.fab.writes || s.borderCause (bankRegion b) != 0 then .next s
  else
    let (x, sent, ovr) := (s.ch n).tp.pulse
    let t := applyIf sent (armPulse n s.clk.tick) (s.modCh n fun c => { c with tp := x })
    .next (applyIf ovr (fun s => s.modXing (bankFunc b) fun x => { x with overrun := true }) t)

/-- Period of the TDC reference in fs, from the measured frequency of the machine clock (R63); 0 where there is none. -/
def State.tdcFs (s : State) : Nat := 10 ^ 12 / (s.get R.MCLK_STAT.FREQ_KHZ * (s.synth 3).n)

/-- The own channel of pin `n` sees an edge `co` TDC periods after the start of tick `t` (R124); the raw bins in which its
cores see it are free values. (DEDUCED, assumption 222) -/
def ownEdge (n : Nat) (falling : Bool) (sincePs t co : Nat) (s : State) : State :=
  let nt := max 1 (s.synth 3).n
  let at_ := fun raw => CoreStamp.mk ((t + co / nt) % tickMod) (co % nt) raw
  let p := s.freeBelow 256
  let s := s.useFree
  let x := s.freeBelow 256
  let s := s.useFree.modCh n fun c => { c with level := !falling }
  applyIf (s.records n falling sincePs) (recordHit n falling (at_ p) (at_ x)) s

/-- TEST_PULSE_FIRE: the pulse of a request whose tick has ended starts at that boundary, after the set delay, and the pin's
own channel records its edges; `sincePs` is the time since the last edge that the channel recorded (R115, R124). A pin that
is no pulse output, or whose width is 0, emits none. (DEDUCED, assumption 222) -/
def execTestPulseFire (p : TpFire) (s : State) : Out :=
  let n := p.pin
  let sincePs := p.sincePs
  match if s.up && s.clocked 3 then (s.ch n).armed.find? fun t => tickLater s.clk.tick t else none with
  | none => .next s
  | some t =>
    let w := s.get (R.TDC_CFG.P_WIDTH n)
    let co := min (s.get (R.TDC_CFG.P_COARSE n)) ((s.synth 3).n - 1)
    let go := s.bankLive (n.val / 48) && s.get (R.PIN_CFG.DIR n) == 3 && w != 0
    let s := s.modCh n fun c => { c with
      armed := c.armed.filter fun u => u != t
      pulse := if go then some (t, co, s.get (R.TDC_CFG.P_FINE n), w) else c.pulse }
    if !go then .next s
    else
      let hit := s.records n false sincePs
      let since := w * s.tdcFs / 1000
      .next (ownEdge n true (if hit then since else sincePs + since) ((t + 1) % tickMod) (co + w)
        (ownEdge n false sincePs ((t + 1) % tickMod) co s))

/-! ## DACs -/

/-- A load of DAC `k` arrives in the HKP domain (R126). (DEDUCED, assumption 50) -/
def loadDac (k : Nat) (l : DacLoad) (s : State) : State := s.modIo fun i => { i with loads := pushAt i.loads k l }

/-- DAC outputs are enabled in this mode: not before the outputs are released (Table 4-3). -/
def State.dacLive (s : State) : Bool := !(decide (s.mode ≤ mLoad) || (decide (s.mode = mBlocking) && !s.io.released))

/-- The outputs of the DACs that have been loaded follow the mode, unless B1h is held (R125, R126, Table 4-3). (DEDUCED,
assumption 50) -/
def driveDacs (s : State) : State :=
  if s.held 0xB1 then s
  else forEach (List.range 16) (fun k s => s.setB (R.DAC_CODE.DRIVEN k) (s.dacLive && s.io.dacOn.contains k)) s

/-- DAC_CODE_WRITE: a write of `DAC_CODE`, ignored while B1h is held (R126). -/
def execDacCodeWrite (k : Fin 16) (code : BitVec 12) (s : State) : Out :=
  if !s.up || s.held 0xB1 then .next s else .next (loadDac k ⟨1, code.toNat, 0⟩ s)

/-- DAC `k` takes a code; its first load enables the output (R125). -/
def takeDac (k code : Nat) (s : State) : State :=
  let s := (s.modIo fun i => { i with dacOn := if i.dacOn.contains k then i.dacOn else k :: i.dacOn }).set
    (R.DAC_CODE.CODE k) code
  applyIf s.dacLive (fun s => s.set (R.DAC_CODE.DRIVEN k) 1) s

/-- A load that B1h discards: `DAC_SET` answers `DENIED`, and a schedule entry is reported missed (R83, R126). -/
def dropLoad (d : DacLoad) (s : State) : State :=
  match d.rank with
  | 0 => missEntry d.serial s
  | 2 => finishCmd d.serial stDenied [] false s
  | _ => s

/-- A load that a higher one discards, or that is applied (R126). -/
def endLoad' (st : Nat) (d : DacLoad) (s : State) : State := if d.rank = 2 then finishCmd d.serial st [] false s else s

/-- DAC_LOAD_APPLY: of the loads that arrived at one HKP edge the highest rank is applied, and every other one is
discarded with `COLLIDE`; while B1h is held all are discarded (R126). Of two loads of one rank the first to arrive is
applied. (DEDUCED, assumption 50) -/
def execDacLoadApply (k : Fin 16) (s : State) : Out :=
  let l := at' s.io.loads k []
  let s1 := s.modIo fun i => { i with loads := putD i.loads k [] [] }
  if !s.up || !s.clocked 16 || l == [] then .next s
  else if s.held 0xB1 then .next (forEach l dropLoad s1)
  else
    let best := (l.map fun d => d.rank).foldl min 9
    let win := (l.find? fun d => d.rank == best).getD ⟨0, 0, 0⟩
    let lost := l.erase win
    let s := endLoad' stOk win (takeDac k win.code s1)
    let s := applyIf (lost != []) (fun s => s.setBit R.DAC_STAT.COLLIDE k true) s
    .next (forEach lost (endLoad' stBusy) s)

/-! ## Commands of Table 4-13 -/

/-- PIN_GET. -/
def execPinGet (mb n : Nat) (s : State) : Out :=
  .next (talnum mb 0x0600 [(2, n)] (fun s =>
    if 1536 ≤ n then .fail stBadArg s
    else .ret [(4, s.cardWord (0xA00000 + 4 * n)), (4, s.cardWord (0xA02000 + 4 * n)), (4, s.get (R.TDC_LOST.LOST n))] s)
    s)

/-- PIN_SET: `DENIED` where it would change `STD`, `DIR` or `SAFE`, or before Blocking (R107, R129). (DEDUCED,
assumption 52) -/
def execPinSet (mb n val : Nat) (s : State) : Out :=
  .next (talnum mb 0x0601 [(2, n), (4, val)]
    (checks [(decide (1536 ≤ n), stBadArg), (!s.pinsOpen, stDenied),
        ([R.PIN_CFG.STD n, R.PIN_CFG.DIR n, R.PIN_CFG.SAFE n].any fun f => fieldOf f val != s.get f, stDenied)]
      fun s => .ok (writeFields (fieldsAt (0xA00000 + 4 * n)) val s)) s)

/-- With both of its cores withdrawn by fences, the `EN` of channel `n` reads 0 (Table 19-7). (DEDUCED, assumption 43)
-/
def dropDead (n : Nat) (s : State) : State :=
  if s.test.fenced.contains (6, n) && s.test.fenced.contains (6, spareCore n) then s.set (R.TDC_CFG.EN n) 0 else s

/-- A write of `TDC_CFG[n]`, with the request that `CAL_REQ` makes. -/
def writeTdcCfg (n val : Nat) (s : State) : State :=
  let s := dropDead n (writeFields (fieldsAt (0xA02000 + 4 * n)) val s)
  if val.testBit 4 then requestCal n s else s

/-- The bank group of channel `n` is under a `TDC` slice (R556). (DEDUCED, assumption 196) -/
def State.tdcTested (s : State) (n : Nat) : Bool := s.test.busy.contains (0xA8 + n / 192)

/-- TDC_SET. -/
def execTdcSet (mb n val : Nat) (s : State) : Out :=
  .next (talnum mb 0x0602 [(2, n), (4, val)] (fun s =>
    if 1536 ≤ n then .fail stBadArg s
    else if s.tdcTested n then .fail stBusyTest s
    else .ok (writeTdcCfg n val s)) s)

/-- TDC_CAL (R122). (DEDUCED, assumption 49) -/
def execTdcCal (mb n : Nat) (s : State) : Out :=
  .next (talnum mb 0x0603 [(2, n)] (fun s =>
    if 1536 ≤ n then .fail stBadArg s
    else if s.tdcTested n then .fail stBusyTest s
    else
      let (st, t) := calRequest n s
      .done st [] t) s)

/-- TDC_STAT: idle, queued, on spare, done or failed; last calibration; table checksum. (DESIGN CHOICE, assumption 51)
-/
def execTdcStat (mb n : Nat) (s : State) : Out :=
  .next (talnum mb 0x0604 [(2, n)] (fun s =>
    if 1536 ≤ n then .fail stBadArg s
    else if s.tdcTested n then .fail stBusyTest s
    else
      let st := match (s.ch n).cal with | 0 => 0 | 1 => 1 | 5 => 3 | 6 => 4 | _ => 2
      let st := if st ≠ 2 ∧ (s.group (chGroup n)).queue.contains n then 1 else st
      .ret [(1, st), (6, (s.ch n).calTick), (2, Config.binChecksum (s.binTable n) % 65536)] s) s)

/-- TP_ARM (R124, R129). -/
def execTpArm (mb first count tick : Nat) (s : State) : Out :=
  .next (talnum mb 0x0605 [(2, first), (1, count), (6, tick)] (fun s =>
    if 1536 ≤ first ∨ count < 1 ∨ 48 < count ∨ first / 48 ≠ (first + count - 1) / 48 ∨ !s.tickAhead tick then
      .fail stBadArg s
    else .ok (forEach ((List.range count).map (first + ·)) (fun n s => armPulse n tick s) s)) s)

/-- DAC_SET: completes when its load is applied or discarded (R126). -/
def execDacSet (mb k code : Nat) (s : State) : Out :=
  .next (talnum mb 0x0606 [(1, k), (2, code)]
    (checks [(decide (16 ≤ k) || decide (4096 ≤ code), stBadArg), (s.held 0xB1, stDenied)]
      fun s => .runs (loadDac k ⟨2, code, s.serial mb⟩ s)) s)

/-- ADC_GET. -/
def execAdcGet (mb input : Nat) (s : State) : Out :=
  .next (talnum mb 0x0607 [(1, input)] (fun s =>
    if 8 ≤ input then .fail stBadArg s else .ret [(4, s.cardWord (0xB00400 + 4 * (128 + input)))] s) s)

/-- HKP_READ. -/
def execHkpRead (mb first count : Nat) (s : State) : Out :=
  .next (talnum mb 0x0608 [(1, first), (1, count)] (fun s =>
    if count < 1 ∨ 32 < count ∨ 192 < first + count then .fail stBadArg s
    else .ret ((List.range count).map fun k => (4, s.cardWord (0xB00400 + 4 * (first + k)))) s) s)

/-- HKP_MASK: channels 0–95 cannot be masked (R128). -/
def execHkpMask (mb mask : Nat) (s : State) : Out :=
  .next (talnum mb 0x0609 [(24, mask)] (fun s =>
    if mask % 2 ^ 96 ≠ 0 then .fail stBadArg s else .ok (s.modIo fun i => { i with hkpMask := mask })) s)

end Sys2Proof.Machine
end

