-- ==== Sys2Proof/Machine/Codes.lean ====
section
/-! DEFINITION. Lane codes of the block memories and the cache: packing of lanes, the strong and light checks, and rows
in a store that lists its written rows (R197, R204, R261, R280). A lane that only the KX9 has written holds a codeword;
a lane that the split-write window stored is listed with its 13 stored bits. -/

namespace Sys2Proof.Machine

/-- Data bits per lane: strong 8, light 12, raw 13, page 8. -/
def laneBits (code : Nat) : Nat := match code with | 1 => 12 | 2 => 13 | _ => 8

/-- Lane `k` of a packed row. (DEDUCED, assumption 199) -/
def laneOf (l v k : Nat) : Nat := v / 2 ^ (l * k) % 2 ^ l

/-- A row of `n` lanes packed from a function. (DEDUCED, assumption 199) -/
def packLanes (l n : Nat) (f : Nat → Nat) : Nat :=
  (List.range n).foldl (fun a k => a + f k % 2 ^ l * 2 ^ (l * k)) 0

/-- The parity of the low 13 bits. -/
def parity13 (x : Nat) : Bool := (List.range 13).foldl (fun a i => a != x.testBit i) false

/-- Bits that are 1 in the low 13 bits. -/
def weight13 (x : Nat) : Nat := (List.range 13).foldl (fun a i => a + if x.testBit i then 1 else 0) 0

/-- A function from a byte to five check bits makes a code that corrects 1 and detects 2 errors: any two of its words differ
in at least 4 bits (R204). -/
def isSecDed (f : Nat → Nat) : Bool :=
  (List.range 256).all fun a => (List.range a).all fun b =>
    decide (4 ≤ weight13 (Nat.xor (a + 256 * (f a % 32)) (b + 256 * (f b % 32))))

/-- The check bits of an extended Hamming code over a byte: four parities and the parity of all twelve bits. -/
def hammingCheck (d : Nat) : Nat :=
  let par := fun l => (l.filter d.testBit).length % 2
  let p := par [0, 1, 3, 4, 6] + 2 * par [0, 2, 3, 5, 6] + 4 * par [1, 2, 3, 7] + 8 * par [4, 5, 6, 7]
  p + 16 * ((((List.range 8).filter d.testBit).length + ((List.range 4).filter p.testBit).length) % 2)

/-- The strong code: any code that has the distance R204 gives it, the free one where it has it. (DESIGN CHOICE, assumption
60) -/
def strongCheck (d : Nat) : Nat := if isSecDed (Config.secDed 8) then Config.secDed 8 d else hammingCheck d

/-- The 13 stored bits of a lane with data `d`: strong and light codewords, raw bits, or page data with `chk`.
(DESIGN CHOICE, assumption 60) -/
def encodeLane (code d chk : Nat) : Nat :=
  match code with
  | 0 => d % 256 + 256 * (strongCheck (d % 256) % 32)
  | 1 => d % 4096 + (if parity13 (d % 4096) then 4096 else 0)
  | 2 => d % 8192
  | _ => d % 256 + 256 * (chk % 32)

/-- Stored bits are a strong codeword. -/
def strongOk (x : Nat) : Bool := x == encodeLane 0 x 0

/-- A lane as a read returns it: data, corrected, uncorrectable. -/
structure LaneRd where
  data : Nat
  cor : Bool
  unc : Bool
deriving DecidableEq, Repr

/-- A read of 13 stored bits (R204). Three or more errors in a strong lane give one of three outcomes, which the free
value `c` chooses. (DESIGN CHOICE, assumptions 60, 61) -/
def decodeLane (code x c : Nat) : LaneRd :=
  match code with
  | 0 =>
    if strongOk x then ⟨x % 256, false, false⟩
    else match (List.range 13).find? fun i => strongOk (Nat.xor x (2 ^ i)) with
      | some i => ⟨Nat.xor x (2 ^ i) % 256, true, false⟩
      | none =>
        if (List.range 13).any fun i => (List.range i).any fun j => strongOk (Nat.xor (Nat.xor x (2 ^ i)) (2 ^ j)) then
          ⟨x % 256, false, true⟩
        else match c % 3 with
          | 0 => ⟨x % 256, false, true⟩
          | 1 => ⟨c / 3 % 256, true, false⟩
          | _ => ⟨c / 3 % 256, false, false⟩
  | 1 => ⟨x % 4096, false, parity13 x⟩
  | 2 => ⟨x, false, false⟩
  | _ => ⟨x % 256, false, false⟩

/-- A row as a read returns it. -/
structure RowRd where
  data : Nat
  valid : Bool
  cor : Bool
  unc : Bool
deriving DecidableEq, Repr

/-- Read row `key` of a store of `n` lanes per row. -/
def readRow (rows inj : SMap Nat) (n code key c : Nat) : RowRd :=
  match lookup rows key with
  | none => ⟨0, false, false, false⟩
  | some v =>
    let l := inj.filter fun e => e.1 / n == key
    if l = [] then ⟨v, true, false, false⟩
    else
      let b := laneBits code
      let rd := fun k => match lookup l (n * key + k) with
        | some x => decodeLane code x c
        | none => ⟨laneOf b v k, false, false⟩
      ⟨packLanes b n fun k => (rd k).data, true, (List.range n).any fun k => (rd k).cor,
        (List.range n).any fun k => (rd k).unc⟩

/-- `COR` and `UNC` over the lanes in `mask` of row `key`: only lanes read report errors (Table 7-3, R199, R204). -/
def readErrors (rows inj : SMap Nat) (n code key c mask : Nat) : Bool × Bool :=
  if !has rows key then (false, false)
  else
    let rd := (inj.filter fun e => e.1 / n == key && mask.testBit (e.1 % n)).map fun e => decodeLane code e.2 c
    (rd.any fun x => x.cor, rd.any fun x => x.unc)

/-- A row after a write of the lanes in `mask`: the first write to an unwritten row fills the other lanes with 0. -/
def writeRow (rows : SMap Nat) (n code key mask v : Nat) : SMap Nat :=
  let b := laneBits code
  let old := at' rows key 0
  put rows key (packLanes b n fun k => if mask.testBit k then laneOf b v k else laneOf b old k)

/-- The stored lanes that a write of the lanes in `mask` leaves as a raw write stored them. -/
def writeInj (inj : SMap Nat) (n key mask : Nat) : SMap Nat :=
  inj.filter fun e => !(e.1 / n == key && mask.testBit (e.1 % n))

/-- The 13 stored bits of lane `k` of a valid row; `chk` are its page check bits. (DEDUCED, assumption 95) -/
def storedLane (rows inj : SMap Nat) (n code key k chk : Nat) : Nat :=
  match lookup inj (n * key + k) with
  | some x => x
  | none => encodeLane code (laneOf (laneBits code) (at' rows key 0) k) chk

end Sys2Proof.Machine
end

