-- ==== Sys2Proof/Machine/Bm.lean ====
section
/-! DEFINITION. Block memories and arithmetic blocks ("Block Memories and Arithmetic Blocks"). -/

namespace Sys2Proof.Machine

/-- Change the hard-block state. -/
def State.modBm (s : State) (f : Bm → Bm) : State := { s with bm := f s.bm }

/-- The active plane of region `r` may clock its hard blocks: no swap cycle, set/reset or fence holds them (R181, R211,
R217). -/
def State.hardRuns (s : State) (r : Nat) : Bool :=
  s.hasActive r && !(s.ctxR r).inSwap && !s.srHeld r && !s.flag (R.BORDER_STAT.FENCED r)

/-- Configuration of port `k` (0 A, 1 B) of memory `m` under the active plane (R216). -/
def State.bmCfg (s : State) (m k : Nat) : BmCfg := Config.bmPort (s.frames (m / 96)) (2 * (m % 96) + k)

/-- Port `k` of memory `m` has an edge: the active plane names the memory, and the last edge of the port's net in its
polarity reached the region (R150, R196, R216–R218, R258). (DEDUCED, assumption 62) -/
def State.portRuns (s : State) (m k : Nat) : Bool :=
  let c := s.bmCfg m k
  let r := m / 96
  s.hardRuns r && s.planeUses r (s.activePlane r) (m % 96) && s.acted (16 * r + c.net) c.falling

/-- Lanes per access of a port. -/
def bmLanes (c : BmCfg) : Nat := 2 ^ c.lanes.val

/-- Row of an access (Table 7-2). -/
def bmRow (c : BmCfg) (i : BmIn) : Nat :=
  match c.lanes.val with
  | 0 => i.addr.toNat / 4
  | 1 => i.addr.toNat / 2 % 1024
  | _ => i.addr.toNat % 1024

/-- First lane of an access (Table 7-2). -/
def bmLane (c : BmCfg) (i : BmIn) : Nat :=
  match c.lanes.val with
  | 0 => i.addr.toNat % 4
  | 1 => 2 * (i.addr.toNat % 2)
  | _ => 0

/-- Row lanes that an access addresses. -/
def bmSpan (c : BmCfg) (i : BmIn) : Nat := (2 ^ bmLanes c - 1) * 2 ^ bmLane c i

/-- Row lanes that the port writes. -/
def bmMask (c : BmCfg) (i : BmIn) : Nat :=
  if i.en then (List.range (bmLanes c)).foldl (fun a k => a + if i.we.getLsbD k then 2 ^ (bmLane c i + k) else 0) 0 else 0

/-- Write data of a port laid on the four lanes of its row. -/
def bmData (c : BmCfg) (i : BmIn) (b : Nat) : Nat := i.din.toNat % 2 ^ (b * bmLanes c) * 2 ^ (b * bmLane c i)

/-- Registers of port `k` (0 A, 1 B) of memory `m`. -/
def State.bmPort (s : State) (m k : Nat) : BmPort := at' s.bm.ports (2 * m + k) BmPort.zero

/-- Port registers become `p`. -/
def setBmPort (m k : Nat) (p : BmPort) (s : State) : State :=
  s.modBm fun b => { b with ports := putD b.ports (2 * m + k) BmPort.zero p }

/-- The outcome of an access, before it reaches the output register. -/
structure BmRes where
  data : Nat
  unwr : Bool
  cor : Bool
  unc : Bool
  coll : Bool
deriving DecidableEq, Repr

/-- What an enabled port shows after its edge (R201, R203–R207). `w` = row lanes that it writes, `other` = lanes of the same
row that port A writes at this edge, as port B sees them; their data at a reading port B are free. `old` is the present read
result, which no-change keeps on the lanes written. `COR` and `UNC` count the lanes that the access shows from the array.
At port B a simultaneous write shows by B's write mode, with `COLL` = 1, and a row that was unwritten shows `UNWR` = 1.
(DEDUCED, assumption 63; DESIGN CHOICE, assumptions 64, 219) -/
def bmResult (s : State) (m : Nat) (c : BmCfg) (i : BmIn) (w other : Nat) (clr : Bool) (old : BmPort) : BmRes :=
  let code := s.get (R.BM_STAT.CODE m)
  let b := laneBits code
  let key := 1024 * m + bmRow c i
  let fv := Config.freeValue s.free
  let rd := readRow s.bm.rows s.bm.inj 4 code key fv
  let bad := fun lanes => readErrors s.bm.rows s.bm.inj 4 code key fv lanes
  let take := fun v => v / 2 ^ (b * bmLane c i) % 2 ^ (b * bmLanes c)
  let span := bmSpan c i
  let rest := span - Nat.land w span
  if clr then ⟨0, true, false, false, false⟩
  else if w = 0 ∧ other ≠ 0 then
    ⟨take (packLanes b 4 fun k => if other.testBit k then Config.freeValue (s.free + k) else laneOf b rd.data k), !rd.valid,
      false, false, true⟩
  else if w = 0 then ⟨take rd.data, !rd.valid, (bad span).1, (bad span).2, false⟩
  else match c.mode.val with
    | 0 => ⟨take rd.data, !rd.valid, (bad span).1, (bad span).2, other != 0⟩
    | 1 => ⟨take (packLanes b 4 fun k => if w.testBit k then laneOf b (bmData c i b) k else laneOf b rd.data k), false,
        (bad rest).1, (bad rest).2, other != 0⟩
    | _ =>
      if rest = 0 then ⟨old.rDout, old.rUnwr, old.rCor, old.rUnc, other != 0⟩
      else ⟨take (packLanes b 4 fun k => if w.testBit k then laneOf b (old.rDout * 2 ^ (b * bmLane c i)) k
          else laneOf b rd.data k), !rd.valid, (bad rest).1, (bad rest).2, other != 0⟩

/-- A port edge moves its registers (R200): with `OREG` the read result waits for `OCE`. -/
def bmRegs (c : BmCfg) (p : BmPort) (i : BmIn) (r : Option BmRes) : BmPort :=
  let p := if c.oreg ∧ i.oce then
    { p with dout := p.rDout, unwr := p.rUnwr, cor := p.rCor, unc := p.rUnc, coll := p.rColl } else p
  match r with
  | none => p
  | some x =>
    let p := { p with rDout := x.data, rUnwr := x.unwr, rCor := x.cor, rUnc := x.unc, rColl := x.coll }
    if c.oreg then p else { p with dout := x.data, unwr := x.unwr, cor := x.cor, unc := x.unc, coll := x.coll }

/-- The status register of memory `m` follows a read (R208, Table 7-8). A write that shows no lane of the array reports no
read. -/
def bmCount (m : Nat) (fresh : Bool) (r : Option BmRes) (s : State) : State :=
  match r with
  | none => s
  | some x =>
    let s := applyIf (x.cor && fresh) (fun s => (s.set (R.BM_STAT.COR m) 1).inc (R.BM_STAT.COR_CNT m)) s
    let s := applyIf (x.unc && fresh) (fun s => (s.set (R.BM_STAT.UNC m) 1).inc (R.BM_STAT.UNC_CNT m)) s
    applyIf x.coll (fun s => s.set (R.BM_STAT.COLL m) 1) s

/-- A bulk clear of memory `m` starts; one that runs takes it in (R205). -/
def startBmClear (m : Nat) (s : State) : State := s.set (R.BM_STAT.CLR_BUSY m) 1

/-- Every valid bit of memory `m` becomes 0 (R205). -/
def clearBm (m : Nat) (s : State) : State :=
  s.modBm fun b => { b with rows := dropKeys b.rows fun k => k / 1024 == m
                            inj := dropKeys b.inj fun k => k / 4096 == m }

/-- Lanes of `row` are written in memory `m`. -/
def bmWrite (m row mask v : Nat) (s : State) : State :=
  if mask = 0 then s
  else
    let key := 1024 * m + row
    let first := !has s.bm.rows key
    s.modBm fun b => { b with
      rows := writeRow b.rows 4 (s.get (R.BM_STAT.CODE m)) key mask v
      inj := writeInj b.inj 4 key (if first then 15 else mask) }

/-- A port at its edge: its inputs with its configuration, where it has one. -/
def State.portAt (s : State) (m k : Nat) (p : Option BmIn) : Option (BmCfg × BmIn) :=
  p.bind fun i => if s.portRuns m k then some (s.bmCfg m k, i) else none

/-- BM_PORT_ACCESS: an edge of one port, or simultaneous edges of both. Port B is the later port in a collision; lanes
that both write take A's data (R200–R208). While writes are disabled no write is performed (R450). (DEDUCED, assumption
62; DESIGN CHOICE, assumption 67) -/
def execBmPortAccess (m : Fin 12288) (pa pb : Option BmIn) (s : State) : Out :=
  let code := s.get (R.BM_STAT.CODE m)
  let a := s.portAt m 0 pa
  let c := s.portAt m 1 pb
  if code == 3 || (a.isNone && c.isNone) then .next s
  else
    let clr := s.flag (R.BM_STAT.CLR_BUSY m)
    let b := laneBits code
    let wOf := fun (p : Option (BmCfg × BmIn)) => match p with
      | some e => if clr || !s.fab.writes then 0 else bmMask e.1 e.2
      | none => 0
    let same := match a, c with
      | some x, some y => x.2.en && y.2.en && bmRow x.1 x.2 == bmRow y.1 y.2
      | _, _ => false
    let res := fun (k : Nat) (p : Option (BmCfg × BmIn)) (other : Nat) => match p with
      | some e => if e.2.en then some (bmResult s m e.1 e.2 (wOf p) other clr (s.bmPort m k)) else none
      | none => none
    let fresh := fun (p : Option (BmCfg × BmIn)) => match p with
      | some e => !(e.1.mode.val == 2 && Nat.land (wOf p) (bmSpan e.1 e.2) == bmSpan e.1 e.2)
      | none => false
    let ra := res 0 a 0
    let rb := res 1 c (if same then wOf a else 0)
    let write := fun (p : Option (BmCfg × BmIn)) s => match p with
      | some e => bmWrite m (bmRow e.1 e.2) (wOf p) (bmData e.1 e.2 b) s
      | none => s
    let regs := fun (k : Nat) (p : Option (BmCfg × BmIn)) r t => match p with
      | some e => setBmPort m k (bmRegs e.1 (s.bmPort m k) e.2 r) t
      | none => t
    let s1 := write a (write c { s with free := s.free + 4 })
    let s2 := regs 1 c rb (regs 0 a ra s1)
    let s3 := bmCount m (fresh c) rb (bmCount m (fresh a) ra s2)
    .next (match a with | some e => applyIf (e.2.clr && !clr) (startBmClear m) s3 | none => s3)

/-- BM_CLR_INPUT: CLR at a port A edge starts a bulk clear (R205). (DESIGN CHOICE, assumption 67) -/
def execBmClrInput (m : Fin 12288) (s : State) : Out :=
  if s.get (R.BM_STAT.CODE m) == 3 || !s.portRuns m 0 then .next s else .next (startBmClear m s)

/-- BM_BULK_CLEAR_DONE: the bulk clear completes (R205). -/
def execBmBulkClearDone (m : Fin 12288) (s : State) : Out :=
  if s.flag (R.BM_STAT.CLR_BUSY m) then .next (clearBm m ((s.set (R.BM_STAT.CLR_BUSY m) 0).set (R.BM_STAT.CLR m) 0)) else .next s

/-- The active plane uses memory `m` while the region clocks run: the fabric clocks are on and no reset or fence stops them in
the region (Table 7-8, R222, Table 18-6). -/
def State.bmInUse (s : State) (m : Nat) : Bool :=
  let r := m / 96
  s.hasActive r && s.planeUses r (s.activePlane r) (m % 96) && !s.stopAsked r

/-- A clear of memory `m` that R222 allows. -/
def bmClr (m : Nat) (s : State) : State := if s.bmInUse m then s else startBmClear m s

/-- `BM_STAT.CLR` written with 1: it reads 1 until the clear is done (R5, R205, Table 7-8). -/
def writeBmClr (m : Nat) (s : State) : State := if s.bmInUse m then s else (startBmClear m s).set (R.BM_STAT.CLR m) 1

/-- BM_STAT_CLR: the host writes 1 to `BM_STAT.CLR` (R205). -/
def execBmStatClr (m : Fin 12288) (s : State) : Out := if s.up then .next (writeBmClr m s) else .next s

/-! ## Arithmetic blocks -/

/-- Registers of AB `ab` of region `r`. -/
def State.abReg (s : State) (r ab : Nat) : AbReg := at' s.bm.ab (160 * r + ab) AbReg.zero

/-- The operand after the pre-adder, and whether it was limited (R212). -/
def preAdd (en sub : Bool) (a d : BitVec 24) : BitVec 24 × Bool :=
  if !en then (a, false)
  else
    let v := if sub then a.toInt - d.toInt else a.toInt + d.toInt
    if v < -8388608 then (BitVec.ofInt 24 (-8388608), true)
    else if 8388607 < v then (BitVec.ofInt 24 8388607, true)
    else (BitVec.ofInt 24 v, false)

/-- `P` and `OVF` from an exact sum (R213). -/
def abSum (sat : Bool) (v : Int) : BitVec 64 × Bool :=
  let ovf := decide (v < -(2 ^ 63 : Int)) || decide ((2 ^ 63 : Int) ≤ v)
  if ovf && sat then (if v < 0 then BitVec.ofInt 64 (-(2 ^ 63)) else BitVec.ofInt 64 (2 ^ 63 - 1), true)
  else (BitVec.ofInt 64 v, ovf)

/-- The registers after an edge (R212–R215); `pci` is the cascade input. -/
def abStep (c : AbCfg) (q : AbReg) (i : AbIn) (pci : BitVec 64) : AbReg :=
  let (a, d, b, cc, sub, neg, zsel) := if c.ireg then (q.a, q.d, q.b, q.c, q.preSub, q.neg, q.zsel)
    else (i.a, i.d, i.b, i.c, i.preSub, i.neg, i.zsel.val)
  let dr := c.dreg && c.preEn
  let (o, sat) := preAdd c.preEn sub a d
  let opnd := if dr then q.opnd else o
  let prod := opnd.toInt * b.toInt
  let m := BitVec.ofInt 48 (if neg then -prod else prod)
  let mUse := if c.mreg then q.m else m
  let z : Int := match zsel with
    | 0 => 0 | 1 => q.p.toInt | 2 => cc.toInt | _ => pci.toInt
  let (p, ovf) := abSum c.sat (mUse.toInt + z)
  if i.rst then AbReg.zero
  else
    { a := if i.ceI then i.a else q.a
      d := if i.ceI then i.d else q.d
      b := if i.ceI then i.b else q.b
      c := if i.ceI then i.c else q.c
      preSub := if i.ceI then i.preSub else q.preSub
      neg := if i.ceI then i.neg else q.neg
      zsel := if i.ceI then i.zsel.val else q.zsel
      opnd := if dr && i.ceD then o else q.opnd
      preSat := if (if dr then i.ceD else i.ceM) then sat else q.preSat
      m := if i.ceM then m else q.m
      p := if i.ceP then p else q.p
      ovf := if i.ceP then ovf else q.ovf }

/-- Configuration of arithmetic block `k` of region `r` under the active plane (R216). -/
def State.abCfg (s : State) (r k : Nat) : AbCfg := Config.ab (s.frames r) k

/-- Arithmetic block `k` of region `r` has an edge: the active plane uses it, and the last edge of its net in its polarity
reached the region (R150, R215–R218, R258). (DEDUCED, assumption 62) -/
def State.abRuns (s : State) (r k : Nat) : Bool :=
  let c := s.abCfg r k
  s.hardRuns r && c.used && s.acted (16 * r + c.net) c.falling

/-- AB_EDGE: an arithmetic block loads its registers, and an overflow or a limited operand sets its sticky bit (R212,
R213). `PCI` is the `P` of the block above in its column, 0 at tile 0 (R214). (DEDUCED, assumptions 62, 66) -/
def execAbEdge (r : Fin 128) (ab : Fin 160) (i : AbIn) (s : State) : Out :=
  if !s.abRuns r ab then .next s
  else
    let c := s.abCfg r ab
    let pci := if ab.val % 8 = 0 then 0 else (s.abReg r (ab.val - 1)).p
    let q := abStep c (s.abReg r ab) i pci
    let hit := !i.rst && ((i.ceP && q.ovf) || ((if c.dreg && c.preEn then i.ceD else i.ceM) && q.preSat))
    let s := s.modBm fun b => { b with ab := putD b.ab (160 * r.val + ab.val) AbReg.zero q }
    .next (applyIf hit (fun s => s.setBit (R.AB_FLAG.FLAG r (ab.val / 32)) (ab.val % 32) true) s)

/-! ## Commands of Table 7-10 -/

/-- BM_CLEAR: one memory, or all that R222 allows. -/
def execBmClear (mb r bm : Nat) (s : State) : Out :=
  .next (talnum mb 0x0380 [(1, r), (1, bm)]
    (checks [(decide (128 ≤ r), stBadArg), (decide (96 ≤ bm) && bm != 255, stBadArg), (s.test.busy.contains r, stBusyTest),
        (decide (bm < 96) && s.bmInUse (96 * r + bm), stDenied)]
      fun s =>
        if bm < 96 then .ok (startBmClear (96 * r + bm) s)
        else
          let l := (List.range 96).map (96 * r + ·)
          let t := forEach l (fun m s => bmClr m s) s
          if l.any s.bmInUse then .done stDenied [] t else .ok t) s)

/-- BM_GET (Table 7-10). -/
def execBmGet (mb r first count : Nat) (s : State) : Out :=
  .next (talnum mb 0x0381 [(1, r), (1, first), (1, count)] (fun s =>
    if 128 ≤ r ∨ 96 ≤ first ∨ count < 1 ∨ 16 < count ∨ 96 < first + count then .fail stBadArg s
    else if s.test.busy.contains r then .fail stBusyTest s
    else .ret ((List.range count).map fun k => (4, s.cardWord (0x200000 + 4 * (96 * r + first + k)))) s) s)

/-- AB_FLAGS (Table 7-10). -/
def execAbFlags (mb r clear : Nat) (s : State) : Out :=
  .next (talnum mb 0x0382 [(1, r), (1, clear)] (fun s =>
    if 128 ≤ r ∨ 2 ≤ clear then .fail stBadArg s
    else .ret ((List.range 5).map fun w => (4, s.get (R.AB_FLAG.FLAG r w)))
      (applyIf (clear == 1) (forEach (List.range 5) fun w s => s.set (R.AB_FLAG.FLAG r w) 0) s)) s)

end Sys2Proof.Machine
end

