-- ==== Sys2Proof/Machine/Stores.lean ====
section
/-! DEFINITION. The stores of the cache tier and the Bulk Store: addresses, page codes, reads and writes of rows and
pages, and the cache-mode groups ("The Shared Cache Tier", "Bulk Store, Page Codes and Scrubbing"). -/

namespace Sys2Proof.Machine

/-- Change the cache state. -/
def State.modCache (s : State) (f : Cache → Cache) : State := { s with cache := f s.cache }

/-- Change the Bulk Store state. -/
def State.modBulk (s : State) (f : Bulk → Bulk) : State := { s with bulk := f s.bulk }

/-- Bits in which two numbers of `n` bits differ. -/
def diffBits (n a b : Nat) : Nat := ((List.range n).filter fun i => a.testBit i != b.testBit i).length

/-- `v` with the bytes from byte `off` on replaced. -/
def mergeBytes (v off : Nat) (bytes : List Nat) : Nat :=
  v % 2 ^ (8 * off) + ofLeBytes bytes * 2 ^ (8 * off) + v / 2 ^ (8 * (off + bytes.length)) * 2 ^ (8 * (off + bytes.length))

/-! ## Bulk Store pages -/

/-- Pages per stack (R304). -/
def stackPages : Nat := 12189696

/-- Page that holds address `a`, counted over both stacks; none for an unused address (R303, R304). -/
def pageOf (a : Nat) : Option Nat :=
  if a < 0x5D0000000 then some (a / 2048)
  else if 0x600000000 ≤ a ∧ a < 0xBD0000000 then some (stackPages + (a - 0x600000000) / 2048)
  else none

/-- Address of page `k`. -/
def pageAddr (k : Nat) : Nat := if k < stackPages then 2048 * k else 0x600000000 + 2048 * (k - stackPages)

/-- Segment of page `k` (R303). -/
def segOfPage (k : Nat) : Nat := pageAddr k / 2 ^ 30

/-- Correction strength of segment `g` (Table 10-3). -/
def State.segT (s : State) (g : Nat) : Nat :=
  match s.get (R.SEG_CFG.T g) with | 0 => 4 | 1 => 8 | 2 => 16 | 3 => 24 | _ => 32

/-- Address tag of page `k` (Table 10-2). (DESIGN CHOICE, assumption 89) -/
def pageTag (k : Nat) : Nat := k % stackPages + 2 ^ 24 * (k / stackPages)

/-- The 2,112 stored bytes of a page with data `d` and tag `tag` (R306, Table 10-2). (DESIGN CHOICE, assumption 89) -/
def pageWord (t d tag : Nat) : Nat := d % 2 ^ 16384 + Config.pageCode t [d, tag] % 2 ^ (15 * t) * 2 ^ 16384 + tag * 2 ^ 16864

/-- The stored bytes of page `k`. -/
def State.rawPage (s : State) (k : Nat) : Nat :=
  match lookup s.bulk.inj k with
  | some x => x
  | none => pageWord (s.segT (segOfPage k)) (at' s.bulk.pages k 0) (pageTag k)

/-- A page as a read returns it: data, whether it is written, corrections made, uncorrectable, tag mismatch. -/
structure PageRd where
  data : Nat
  valid : Bool
  cor : Nat
  unc : Bool
  misdir : Bool
deriving DecidableEq, Repr

/-- A read of page `k` (R307, R312). Beyond `t` errors the page may be found uncorrectable or decode to another
codeword, which a free value chooses. (DESIGN CHOICE, assumption 96) -/
def State.readPage (s : State) (k : Nat) : PageRd :=
  match lookup s.bulk.pages k with
  | none => ⟨0, false, 0, false, false⟩
  | some g =>
    match lookup s.bulk.inj k with
    | none => ⟨g, true, 0, false, false⟩
    | some x =>
      let t := s.segT (segOfPage k)
      let e := diffBits 16896 x (pageWord t g (pageTag k))
      let d := x % 2 ^ 16384
      let tag := x / 2 ^ 16864 % 2 ^ 32
      let e2 := diffBits 16896 x (pageWord t d tag)
      if e ≤ t then ⟨g, true, e, false, false⟩
      else if e2 ≤ t then ⟨d, true, e2, tag != pageTag k, tag != pageTag k⟩
      else
        let c := Config.freeValue s.free
        match c % 3 with
        | 0 => ⟨d, true, 0, true, false⟩
        | 1 => ⟨d, true, 0, true, true⟩
        | _ => ⟨c / 3 % 2 ^ 16384, true, Config.freeValue (s.free + 1) % (t + 1), false, false⟩

/-- A read of page `k` uses its free values and sets the counters of its segment (Table 10-9). (DEDUCED, assumption 88)
-/
def countPage (k : Nat) (rd : PageRd) (s : State) : State :=
  let g := segOfPage k
  let s := { s with free := s.free + 2 }
  let s := applyIf (rd.cor != 0) (fun s => (s.set (R.SEG_CFG.COR g) 1).inc (R.SEG_CFG.COR_CNT g)) s
  let s := applyIf rd.unc (fun s => (s.set (R.SEG_CFG.UNC g) 1).inc (R.SEG_CFG.UNC_CNT g)) s
  applyIf rd.misdir (fun s => s.set (R.SEG_CFG.MISDIR g) 1) s

/-- Page `k` is stored whole and valid. -/
def writePage (k d : Nat) (s : State) : State :=
  s.modBulk fun b => { b with pages := put b.pages k (d % 2 ^ 16384), inj := del b.inj k }

/-- A raw write of the 2,112 bytes of page `k` (R328). -/
def writeRawPage (k x : Nat) (s : State) : State :=
  let d := x % 2 ^ 16384
  if pageWord (s.segT (segOfPage k)) d (pageTag k) = x then writePage k d s
  else s.modBulk fun b => { b with
    pages := if has b.pages k then b.pages else put b.pages k d
    inj := put b.inj k x }

/-- A partial write to page `k` (R309, R310, R312); none where the page is uncorrectable. -/
def partialWrite (k off : Nat) (bytes : List Nat) (s : State) : Bool × State :=
  let rd := s.readPage k
  let s := countPage k rd s
  if rd.unc then (false, s) else (true, writePage k (mergeBytes rd.data off bytes) s)

/-- A full-page sequence ends: its packets are answered (R309). -/
def answerBulk (q : BulkSeq) (ok : Bool) (s : State) : State :=
  forEach q.pkts (fun p s =>
    if ok then answerPkt p p.status p.errinfo [] false s else answerPkt p 6 (pageAddr q.page % 2 ^ 32) [] false s) s

/-- A full-page sequence breaks off and becomes a partial write (R309, R310). (DEDUCED, assumption 90) -/
def breakBulk (k : Nat) (s : State) : State :=
  match lookup s.bulk.seqs k with
  | none => s
  | some q =>
    let x := partialWrite k 0 q.bytes (s.modBulk fun b => { b with seqs := del b.seqs k })
    answerBulk q x.1 x.2

/-- Every page of segment `g` becomes unwritten (R313). -/
def clearSegment (g : Nat) (s : State) : State :=
  s.modBulk fun b => { b with pages := dropKeys b.pages fun k => segOfPage k == g
                              inj := dropKeys b.inj fun k => segOfPage k == g }

/-! ## Cache rows -/

/-- Bank `b`. -/
def State.bank (s : State) (b : Nat) : Bank := at' s.cache.banks b Bank.init

/-- Change bank `b`. -/
def State.modBank' (s : State) (b : Nat) (f : Bank → Bank) : State :=
  s.modCache fun c => { c with banks := putD c.banks b Bank.init (f (s.bank b)) }

/-- Cache die of bank `b` (R260). -/
def bankDie (b : Nat) : Nat := b / 64

/-- Twin-port bank (R260). -/
def twinBank (b : Nat) : Bool := decide (b % 64 ≤ 3)

/-- Store key of row `row` of bank `b`; also its unit address (R326). -/
def rowKey (b row : Nat) : Nat := 16384 * b + row

/-- Code of bank `b`. -/
def State.bankCode (s : State) (b : Nat) : Nat := s.get (R.BANK_CFG.CODE b)

/-- Page strength of bank `b` (R262). -/
def State.bankT (s : State) (b : Nat) : Nat :=
  match s.get (R.BANK_CFG.PAGE_T b) with | 0 => 16 | 1 => 32 | 2 => 64 | 3 => 128 | _ => 256

/-- The data of the 32 rows of page `p` of bank `b`. -/
def State.pageRows (s : State) (b p : Nat) : List Nat :=
  (List.range 32).map fun i => at' s.cache.rows (rowKey b (32 * p + i)) 0

/-- Check bits of lane `k` in row `i` of a page: 640 bits of parity per row from the last row downwards (R262).
(DEDUCED, assumption 199) -/
def pageChk (t : Nat) (rows : List Nat) (i k : Nat) : Nat :=
  Config.pageCode t rows % 2 ^ (16 * t) / 2 ^ (640 * (31 - i) + 5 * k) % 32

/-- Stored bits of lane `k` of row `row` of bank `b` (R328). -/
def State.rawLane (s : State) (b row k : Nat) : Nat :=
  let code := s.bankCode b
  let chk := if code = 3 then pageChk (s.bankT b) (s.pageRows b (row / 32)) (row % 32) k else 0
  storedLane s.cache.rows s.cache.inj 128 code (rowKey b row) k chk

/-- A page of a page-code bank as its engine reads it: rows, corrections, uncorrectable. -/
structure CPageRd where
  rows : List Nat
  valid : Bool
  cor : Nat
  unc : Bool
deriving DecidableEq, Repr

/-- The rows with the data bits of their raw-written lanes as stored. -/
def State.pageStored (s : State) (b p : Nat) : List Nat :=
  (List.range 32).map fun i => packLanes 8 128 fun k =>
    match lookup s.cache.inj (128 * rowKey b (32 * p + i) + k) with
    | some x => x
    | none => laneOf 8 (at' s.cache.rows (rowKey b (32 * p + i)) 0) k

/-- Stored bits in which page `p` differs from the codeword of `rows`. (DESIGN CHOICE, assumption 96) -/
def State.pageErrs (s : State) (b p t : Nat) (rows : List Nat) : Nat :=
  (List.range 32).foldl (fun a i => (List.range 128).foldl (fun a k =>
    a + diffBits 13 (s.rawLane b (32 * p + i) k) (encodeLane 3 (laneOf 8 (rows.getD i 0) k) (pageChk t rows i k))) a) 0

/-- The page engine reads and decodes page `p` of bank `b` (R281). -/
def State.readCPage (s : State) (b p : Nat) : CPageRd :=
  let ghost := s.pageRows b p
  if !has s.cache.rows (rowKey b (32 * p)) then ⟨ghost, false, 0, false⟩
  else if !(s.cache.inj.any fun e => e.1 / 4096 == 512 * b + p) then ⟨ghost, true, 0, false⟩
  else
    let t := s.bankT b
    let own := s.pageStored b p
    let e := s.pageErrs b p t ghost
    let e2 := s.pageErrs b p t own
    if e ≤ t then ⟨ghost, true, e, false⟩
    else if e2 ≤ t then ⟨own, true, e2, false⟩
    else if s.freeBit then ⟨own, true, 0, true⟩
    else ⟨(List.range 32).map fun i => Config.freeValue (s.free + 1 + i) % 2 ^ 1024, true,
      Config.freeValue (s.free + 33) % (t + 1), false⟩

/-- A read of a row in any code (R280, R281, R284). -/
def State.readCRow (s : State) (b row : Nat) : RowRd :=
  let code := s.bankCode b
  if code = 3 then
    let p := s.readCPage b (row / 32)
    ⟨p.rows.getD (row % 32) 0, p.valid, p.cor != 0, p.unc⟩
  else readRow s.cache.rows s.cache.inj 128 code (rowKey b row) (Config.freeValue s.free)

/-- A read uses its free values, fills the page buffer, and sets the counters of the bank (Table 9-10). (DEDUCED,
assumption 88) -/
def countRow (b row : Nat) (rd : RowRd) (s : State) : State :=
  let s := { s with free := s.free + 34 }
  let s := applyIf (s.bankCode b == 3) (fun s => s.modBank' b fun k => { k with buf := some (row / 32) }) s
  let s := applyIf rd.cor (fun s => (s.set (R.BANK_STAT.COR b) 1).inc (R.BANK_STAT.COR_CNT b)) s
  applyIf rd.unc (fun s => (s.set (R.BANK_STAT.UNC b) 1).inc (R.BANK_STAT.UNC_CNT b)) s

/-- Page `p` of a page-code bank is stored whole; a buffered copy is no longer valid (R281). -/
def writeCPage (b p : Nat) (rows : List Nat) (s : State) : State :=
  let s := s.modCache fun c => { c with
    rows := (List.range 32).foldl (fun m i => put m (rowKey b (32 * p + i)) (rows.getD i 0 % 2 ^ 1024)) c.rows
    inj := dropKeys c.inj fun k => k / 4096 == 512 * b + p }
  s.modBank' b fun k => if k.buf = some p then { k with buf := none } else k

/-- A read-modify-write of page `p`, whose rows become those that `f` gives (R282, R310); an uncorrectable page is left
unchanged. (DEDUCED, assumptions 78, 88) -/
def rmwCPage (b p : Nat) (f : List Nat → List Nat) (s : State) : Bool × State :=
  let rd := s.readCPage b p
  let s := { s with free := s.free + 34 }
  if rd.unc then
    (false, (s.set (R.BANK_STAT.UNC b) 1).inc (R.BANK_STAT.UNC_CNT b))
  else (true, writeCPage b p (f rd.rows) s)

/-- The rows of a page with the lanes in `mask` of row `i` changed. -/
def mergeRow (i mask v : Nat) (rows : List Nat) : List Nat :=
  rows.set i (packLanes 8 128 fun k => if mask.testBit k then laneOf 8 v k else laneOf 8 (rows.getD i 0) k)

/-- A write of the lanes in `mask` to a row in any code, outside a full-page write; false where it is refused. -/
def writeCRow (b row mask v : Nat) (s : State) : Bool × State :=
  let code := s.bankCode b
  if code = 3 then rmwCPage b (row / 32) (mergeRow (row % 32) mask v) s
  else
    let key := rowKey b row
    let first := !has s.cache.rows key
    (true, s.modCache fun c => { c with
      rows := writeRow c.rows 128 code key mask v
      inj := writeInj c.inj 128 key (if first then 2 ^ 128 - 1 else mask) })

/-- A raw write of the 128 stored lanes of a row (R328). A lane that is a codeword is stored as its data. -/
def writeRawRow (b row : Nat) (lane : Nat → Nat) (s : State) : State :=
  let code := s.bankCode b
  let key := rowKey b row
  let bits := laneBits code
  let was := has s.cache.rows key
  let old := at' s.cache.rows key 0
  let keep := fun k => code != 3 && encodeLane code (lane k % 2 ^ bits) 0 == lane k % 8192
  let data := packLanes bits 128 fun k => if keep k || !was then lane k else laneOf bits old k
  let s := s.modCache fun c =>
    let rows := if code = 3 ∧ !was then
        (List.range 32).foldl (fun m i => put m (rowKey b (32 * (row / 32) + i)) 0) c.rows
      else c.rows
    { c with
      rows := put rows key data
      inj := (List.range 128).foldl (fun m k => if keep k then del m (128 * key + k) else put m (128 * key + k)
        (lane k % 8192)) c.inj }
  s.modBank' b fun k => if k.buf = some (row / 32) then { k with buf := none } else k

/-- Every row of bank `b` becomes unwritten (R285). -/
def clearBank (b : Nat) (s : State) : State :=
  (s.modCache fun c => { c with rows := dropKeys c.rows fun k => k / 16384 == b
                                inj := dropKeys c.inj fun k => k / 2097152 == b }).modBank' b fun k =>
    { k with seq := none, buf := none }

/-- A bulk clear of bank `b` starts; one that runs takes it in (R285). -/
def startBankClear (b : Nat) (s : State) : State := s.set (R.BANK_STAT.CLR_BUSY b) 1

/-! ## Cache-mode groups -/

/-- Cache-mode data of die `d`. -/
def State.cm (s : State) (d : Nat) : CMode := at' s.cache.cmode d ⟨[], 0, []⟩

/-- Change the cache-mode data of die `d`. -/
def State.modCm (s : State) (d : Nat) (f : CMode → CMode) : State :=
  s.modCache fun c => { c with cmode := putD c.cmode d ⟨[], 0, []⟩ (f (s.cm d)) }

/-- Die whose group caches page `k` (R292, R293). (DEDUCED, assumption 87) -/
def State.groupOf (s : State) (k : Nat) : Option Nat :=
  let g := segOfPage k
  (List.range 4).find? fun d => s.flag (R.CMODE_CFG.EN d) && decide (s.get (R.CMODE_CFG.BASE_SEG d) ≤ g)
    && decide (g < s.get (R.CMODE_CFG.BASE_SEG d) + s.get (R.CMODE_CFG.SEG_CNT d))

/-- Bank of way `w` of the group of die `d` (R292). -/
def State.wayBank (s : State) (d w : Nat) : Nat := 64 * d + 16 * s.get (R.CMODE_CFG.GROUP d) + w

/-- Set of page `k`. -/
def setOf (k : Nat) : Nat := k % 1024

/-- Way that holds page `k`. -/
def State.lineWay (s : State) (d k : Nat) : Option Nat :=
  (List.range 16).find? fun w => match lookup (s.cm d).tags (16 * setOf k + w) with
    | some t => t.1 == k
    | none => false

/-- The 2 KiB of a line with its written and uncorrectable flags by row. -/
def State.readLine (s : State) (d w st : Nat) : List RowRd :=
  (List.range 16).map fun i => s.readCRow (s.wayBank d w) (16 * st + i)

/-- Data of a line as one number. -/
def lineData (l : List RowRd) : Nat := (List.range 16).foldl (fun a i => a + (l.getD i ⟨0, false, false, false⟩).data * 2 ^ (1024 * i)) 0

/-- Bytes of a line are written; rows that they do not touch are unchanged. -/
def writeLine (d w st off : Nat) (bytes : List Nat) (s : State) : State :=
  let b := s.wayBank d w
  forEach (List.range 16) (fun i s =>
    let lo := max off (128 * i)
    let hi := min (off + bytes.length) (128 * (i + 1))
    if lo < hi then
      let mask := 2 ^ (hi - 128 * i) - 2 ^ (lo - 128 * i)
      (writeCRow b (16 * st + i) mask (ofLeBytes ((bytes.drop (lo - off)).take (hi - lo)) * 2 ^ (8 * (lo - 128 * i))) s).2
    else s) s

/-- A line is used; a write makes it dirty. (DESIGN CHOICE, assumption 85) -/
def touchLine (d w st : Nat) (dirty : Bool) (s : State) : State :=
  s.modCm d fun c => match lookup c.tags (16 * st + w) with
    | some (k, dd, _) => { c with tags := put c.tags (16 * st + w) (k, dd || dirty, c.uses + 1), uses := c.uses + 1 }
    | none => c

/-- A dirty line is written back (R293). -/
def writeBack (d w st : Nat) (s : State) : State :=
  match lookup (s.cm d).tags (16 * st + w) with
  | some (k, true, u) =>
    let s := writePage k (lineData (s.readLine d w st)) s
    s.modCm d fun c => { c with tags := put c.tags (16 * st + w) (k, false, u) }
  | _ => s

/-- Way that a fill of set `st` replaces: an empty one, else by pseudo-LRU, which spares the way last used; the manual
leaves the choice among the others open (R293, R294). (DESIGN CHOICE, assumption 85) -/
def State.victim (s : State) (d st : Nat) : Option Nat :=
  let c := s.cm d
  let ways := (List.range 16).filter fun w => !c.lostWays.contains w
  match ways.find? fun w => !has c.tags (16 * st + w) with
  | some w => some w
  | none =>
    let last := ways.foldl (fun a w => max a (at' c.tags (16 * st + w) (0, false, 0)).2.2) 0
    let old := ways.filter fun w => (at' c.tags (16 * st + w) (0, false, 0)).2.2 != last
    let l := if old = [] then ways else old
    if l = [] then none else some (l.getD (s.freeBelow l.length) 0)

/-- A line fill for page `k`: the victim is written back, then 2 KiB are read from the Bulk Store (R293). Rows of an
unwritten page stay unwritten. An uncorrectable page is not taken into the group. (DESIGN CHOICE, assumption 85;
DEDUCED, assumption 86) -/
def fillLine (d k : Nat) (s : State) : State :=
  let s := breakBulk k s
  let rd := s.readPage k
  if rd.unc then s
  else match s.victim d (setOf k) with
    | none => s
    | some w =>
      let st := setOf k
      let s := countPage k rd (writeBack d w st s.useFree)
      let b := s.wayBank d w
      let s := s.modCache fun c => { c with
        rows := dropKeys c.rows fun e => e / 16384 == b && e % 16384 / 16 == st
        inj := dropKeys c.inj fun e => e / 2097152 == b && e / 128 % 16384 / 16 == st }
      let s := s.modCm d fun c => { c with tags := put c.tags (16 * st + w) (k, false, c.uses + 1), uses := c.uses + 1 }
      if rd.valid then writeLine d w st 0 (leBytes 2048 rd.data) s else s

/-- The group of die `d` writes back every dirty line; `inv` empties the tags. Answers the lines written back. (DEDUCED,
assumption 84) -/
def flushGroup (d : Nat) (inv : Bool) (s : State) : Nat × State :=
  let l := (s.cm d).tags.filter fun e => e.2.2.1
  let s := forEach l (fun e s => writeBack d (e.1 % 16) (e.1 / 16) s) s
  (l.length, applyIf inv (fun s => s.modCm d fun c => { c with tags := [] }) s)

/-- Bytes written to page `k` by the cache agent: through the group that caches it, else as a full-page or a partial
write (R290, R293, R309). False where the page refuses a partial write. -/
def agentWrite (k off : Nat) (bytes : List Nat) (s : State) : Bool × State :=
  let s := breakBulk k s
  let direct := fun s => if off = 0 ∧ bytes.length = 2048 then (true, writePage k (ofLeBytes bytes) s)
    else partialWrite k off bytes s
  match s.groupOf k with
  | none => direct s
  | some d =>
    let s := if (s.lineWay d k).isSome then s else fillLine d k s
    match s.lineWay d k with
    | some w => (true, touchLine d w (setOf k) true (writeLine d w (setOf k) off bytes s))
    | none => direct s

end Sys2Proof.Machine
end

