-- ==== Sys2Proof/Machine/Cache.lean ====
section
/-! DEFINITION. The commands of the shared cache tier: ports, bank cycles, handover, power, spill and cache mode ("The
Shared Cache Tier"). -/

namespace Sys2Proof.Machine

/-- The cache agent as an owner (R268). -/
def ownAgent : Nat := 0x100

/-- Value of `OWNER` or `NEXT` that R268 uses. -/
def ownerUsed (o : Nat) : Bool := decide (o < 128) || o == ownAgent || (decide (0x180 ≤ o) && decide (o ≤ 0x18F))

/-! ## Ports -/

/-- Cache port of region `r`. -/
def State.cpPort (s : State) (r : Nat) : CpPort := at' s.cache.ports r ⟨[], 0, [], none, false⟩

/-- Change the cache port of region `r`. -/
def State.modPort (s : State) (r : Nat) (f : CpPort → CpPort) : State :=
  s.modCache fun c => { c with ports := putD c.ports r ⟨[], 0, [], none, false⟩ (f (s.cpPort r)) }

/-- `CP_RDY` (R264, R450, R237). -/
def State.cpReady (s : State) (r : Nat) : Bool :=
  let p := s.cpPort r
  let n := (p.reqs.filter fun q => !q.dead).length
  decide (n < 32) && decide (n + p.held + p.resps.length < 64) && s.fab.writes && !s.resyncing (64 + r)

/-- The port clock of region `r`, a region clock net that the plane chooses, has made an edge that reaches the region; neither
a swap cycle nor a fence holds the port, and in rotation the running plane drives it (R237, R249, R263, R289). -/
def State.cpClocked (s : State) (r : Nat) : Bool :=
  let c := Config.cachePort (s.frames r)
  s.fab.clocksOn && !s.held r && !(s.ctxR r).inSwap && !s.flag (R.BORDER_STAT.FENCED r) && s.acted (16 * r + c.1) false
    && (!s.flag (R.CTX_STAT.ROTATING r) || c.2.val == s.activePlane r)

/-- Two dies as one number, lower first (R298). -/
def diePair (a b : Nat) : Nat := 4 * min a b + max a b

/-- `CP_FERR` (Table 9-2, R298). -/
def State.cpFerr (s : State) (r : Nat) : Bool :=
  (s.cpPort r).offline || ((List.range 256).any fun b => s.flag (R.BANK_CFG.OFFLINE b) && s.get (R.BANK_OWN.OWNER b) == r)
    || ((List.range 4).any fun d => s.cache.farOff.contains (diePair (quadOf r) d))

/-- CACHE_PORT_REQUEST: a request is accepted at an edge with `CP_REQ` and `CP_RDY` both 1 (R263, R264). -/
def execCachePortRequest (r : Fin 128) (q : CpReq) (s : State) : Out :=
  if s.cpClocked r && s.cpReady r then
    .next (s.modPort r fun p => { p with reqs := p.reqs ++
      [⟨q.op.val, q.bank.val, q.row.toNat, q.le.toNat, q.wdata.toNat, q.tag.toNat, s.activePlane r, false⟩] })
  else .next s

/-- CACHE_PORT_RESPONSE: the oldest response is presented (R264, R266). -/
def execCachePortResponse (r : Fin 128) (s : State) : Out :=
  if s.fab.clocksOn && !s.held r && !s.resyncing (64 + r.val) then
    match (s.cpPort r).resps with
    | [] => .next s
    | x :: rest => .next (s.modPort r fun p => { p with resps := rest, shown := some x })
  else .next s

/-- A request of port `r` is answered. -/
def respondPort (r tag plane stat data : Nat) (s : State) : State :=
  s.modPort r fun p => { p with resps := p.resps ++ [⟨tag, plane, stat, data⟩] }

/-- The requests of port `r` that banks have accepted: the first for each bank that names the port. -/
def State.accepted (s : State) (r : Nat) : List CpWait :=
  let l := (s.cpPort r).reqs
  (List.range 256).filterMap fun b => if (s.bank b).acc.contains r then l.find? fun q => q.bank == b else none

/-- A reset of region `r` at its cache port: requests that banks have accepted are still performed, and their responses are
discarded with all others (R264). -/
def resetPort (r : Nat) (s : State) : State :=
  let l := s.accepted r
  let s := s.modPort r fun p => { p with reqs := l.map fun q => { q with dead := true }, held := 0, resps := [], shown := none }
  let s := s.modCache fun c => { c with banks := c.banks.map fun (e : Nat × Bank) =>
    (e.1, { e.2 with seq := e.2.seq.map fun q => if q.src = r then { q with tags := [] } else q }) }
  startResync (64 + r) s

/-! ## Judging requests -/

/-- Bank `b` is out of service by failure or by a reset of its die (R298, R299). -/
def State.bankOut (s : State) (b : Nat) : Bool := s.flag (R.BANK_CFG.OFFLINE b) || s.held (0x98 + bankDie b)

/-- Bank `b` is under self-test (R300). -/
def State.bankTested (s : State) (b : Nat) : Bool := s.test.busy.contains (256 + b)

/-- Bank `b` is Off, or past the commit cycle of its entry to Off (R288). -/
def State.bankOff (s : State) (b : Nat) : Bool :=
  let p := s.get (R.BANK_CFG.PWR b)
  p == 2 || (p == 3 && (s.bank b).pwrTo == some 2)

/-- Bank `b` performs requests now: On, and no bulk clear runs (R285, R287). -/
def State.bankServes (s : State) (b : Nat) : Bool :=
  s.get (R.BANK_CFG.PWR b) == 0 && !s.flag (R.BANK_STAT.CLR_BUSY b)

/-- What bank `b` makes of a request: refused with a status, held, or due for service. -/
inductive Verdict where
  | refuse (status : Nat)
  | wait
  | serve
deriving DecidableEq, Repr

/-- Number of the far path from die `a` to die `d` among the Gray FIFOs (R87). -/
def farFifo (a d : Nat) : Nat := 1024 + 4 * a + d

/-- Verdict on a request of region `r` (Tables 9-3 and 9-4, R272, R273, R288). One that the bank has accepted is past the
commit cycle of a handover and of a power change. (DEDUCED, assumptions 75, 76) -/
def State.judgePort (s : State) (b r : Nat) (q : CpWait) : Verdict :=
  let pend := s.flag (R.BANK_OWN.PEND b)
  let d := bankDie b
  let acc := (s.bank b).acc.contains r
  if s.flag (R.BANK_STAT.CLR_BUSY b) || (quadOf r != d && s.resyncing (farFifo (quadOf r) d)) then .wait
  else if (s.cpPort r).offline || s.bankOut b || (quadOf r != d && s.cache.farOff.contains (diePair (quadOf r) d)) then
    .refuse 6
  else if s.bankTested b then .refuse 7
  else if s.bankOff b && !acc then .refuse 5
  else if s.get (R.BANK_OWN.OWNER b) ≠ r then
    if pend && s.get (R.BANK_OWN.NEXT b) == r then .wait else .refuse 4
  else if pend && !acc then .refuse 4
  else if q.op = 3 ∧ !s.flag (R.BANK_OWN.ARM b) then .refuse 8
  else if !s.bankServes b && !(acc && s.get (R.BANK_CFG.PWR b) == 3) then .wait
  else match (s.bank b).seq with
    | some x =>
      if (q.op ≠ 1 ∧ x.src = r) ∨ (q.op = 0 ∧ q.row / 32 = x.page) then .wait else .serve
    | none => .serve

/-- Bytes per row in the NoC view (R270). -/
def viewBytes (code : Nat) : Nat := if code = 1 ∨ code = 2 then 256 else 128

/-- Window `w` matches a packet (R270). -/
def State.winMatches (s : State) (w : Nat) (p : Pkt) : Bool :=
  s.get (R.NOC_WIN.DEVICE w) == p.srcDev && s.get (R.NOC_WIN.ENDPOINT w) == p.srcEp

/-- Owner value `o` is a NoC window that matches a packet. -/
def State.ownerIs (s : State) (o : Nat) (p : Pkt) : Bool := decide (0x180 ≤ o) && s.winMatches (o - 0x180) p

/-- Offset of a packet that the banks of die `d` do not use (R270, Table 9-5). (DEDUCED, assumption 76) -/
def State.badOffset (s : State) (d : Nat) (p : Pkt) : Bool :=
  let b := p.off / 2 ^ 22 % 256
  let code := s.bankCode b
  let o := p.off % 2 ^ 22
  decide (2 ^ 30 ≤ p.off) || bankDie b != d
    || (if code = 1 ∨ code = 2 then o % 2 == 1 || p.len % 2 == 1 else decide (2 ^ 21 < o + p.len))

/-- Verdict on a NoC request at the head of agent slice endpoint `e`; `p.reqSeq` counts the bytes done, and a request in
progress or accepted is past every refusal (R269–R272, R288, Table 9-5). (DEDUCED, assumption 76) -/
def State.judgeNoc (s : State) (b e : Nat) (p : Pkt) : Verdict :=
  let d := (e - 0x80) / 4
  let acc := p.reqSeq != 0 || (s.bank b).acc.contains e
  let pend := s.flag (R.BANK_OWN.PEND b)
  let own := s.ownerIs (s.get (R.BANK_OWN.OWNER b)) p
  let may := s.get (R.BANK_CFG.NOC_ACC b)
  if s.flag (R.BANK_STAT.CLR_BUSY b) then .wait
  else if s.badOffset d p then .refuse 2
  else if s.bankOut b then .refuse 4
  else if s.bankTested b then .refuse 7
  else if s.bankOff b && !acc then .refuse 3
  else if !acc ∧ pend ∧ own then .refuse 1
  else if !acc ∧ pend ∧ s.ownerIs (s.get (R.BANK_OWN.NEXT b)) p then .wait
  else if !acc ∧ !own ∧ (s.flag (R.BANK_CFG.CMODE b) ∨ s.flag (R.BANK_CFG.LAND b) ∨
      !(may == 2 || (may == 1 && p.typ == 0))) then .refuse 1
  else if !s.bankServes b && !(acc && s.get (R.BANK_CFG.PWR b) == 3) then .wait
  else match (s.bank b).seq with
    | some x => if p.typ = 0 ∧ (p.off % 2 ^ 22 + p.reqSeq) / 4096 = x.page then .wait else .serve
    | none => .serve

/-- Value of `ERRINFO` for an error of bank `b` (Table 13-6). -/
def State.bankErr (s : State) (b status : Nat) : Nat :=
  match status with | 3 | 4 | 5 => b | 7 => min s.testLeft (2 ^ 32 - 1) | _ => 0

/-! ## Full-page writes -/

/-- Requester number of a NoC packet in `PageSeq.src`. -/
def nocSrc (p : Pkt) : Nat := 1024 + 4096 * p.srcDev + p.srcEp

/-- The waiting writes of a full-page sequence are answered (R264, R282). -/
def answerSeq (b : Nat) (q : PageSeq) (ok : Bool) (s : State) : State :=
  let s := forEach q.tags (fun t s =>
    (respondPort q.src t.1 t.2 (if ok then 0 else 2) 0 s).modPort q.src fun p => { p with held := p.held - 1 }) s
  forEach q.pkts (fun p s =>
    if ok then answerPkt p p.status p.errinfo [] false s else answerPkt p 6 (rowKey b (32 * q.page)) [] false s) s

/-- A sequence breaks off and is performed as one read-modify-write of the page (R282). -/
def breakSeq (b : Nat) (s : State) : State :=
  match (s.bank b).seq with
  | none => s
  | some q =>
    let s := s.modBank' b fun k => { k with seq := none }
    let r := rmwCPage b q.page (fun rows => q.rows ++ rows.drop q.rows.length) s
    answerSeq b q r.1 r.2

/-- Requester `id` has no accepted request at bank `b` any more. -/
def dropAcc (b id : Nat) (s : State) : State := s.modBank' b fun k => { k with acc := k.acc.filter fun x => x != id }

/-- Outcome of one row write: performed, refused, or waiting in a full-page sequence. -/
inductive RowOut where
  | done
  | refused
  | waits
deriving DecidableEq, Repr

/-- A row write by requester `src` (R280, R282, R310). -/
def rowWrite (b src row mask v : Nat) (s : State) : RowOut × State :=
  let plain := fun (s : State) => let x := writeCRow b row mask v s; (if x.1 then RowOut.done else .refused, x.2)
  if s.bankCode b ≠ 3 then plain s
  else
    let full := mask == 2 ^ 128 - 1
    let fresh := fun (s : State) =>
      if full && row % 32 == 0 then
        (RowOut.waits, s.modBank' b fun k => { k with seq := some ⟨src, row / 32, [v], [], []⟩ })
      else plain s
    match (s.bank b).seq with
    | none => fresh s
    | some q =>
      if q.src = src ∧ full ∧ row = 32 * q.page + q.rows.length then
        if q.rows.length = 31 then
          let s := writeCPage b q.page (q.rows ++ [v]) (s.modBank' b fun k => { k with seq := none })
          (.done, answerSeq b q true s)
        else (.waits, s.modBank' b fun k => { k with seq := some { q with rows := q.rows ++ [v] } })
      else fresh (breakSeq b s)

/-! ## Service -/

/-- Bits of a row in a code. -/
def rowBits (code : Nat) : Nat := 128 * laneBits code

/-- The handover of bank `b` completes (R272, step 4); a release also ends `ARM` (R273). -/
def completeHandover (b : Nat) (s : State) : State :=
  let o := s.get (R.BANK_OWN.NEXT b)
  let s := applyIf (!s.flag (R.BANK_OWN.GO b)) (fun s => s.set (R.BANK_OWN.ARM b) 0) s
  let s := (((s.set (R.BANK_OWN.OWNER b) o).set (R.BANK_OWN.PEND b) 0).set (R.BANK_OWN.GO b) 0).set (R.BANK_OWN.HANDED b) 1
  raise 0x0301 [(1, b), (2, o), (6, s.clk.tick)] s

/-- The commit cycle of a handover; one to the present owner completes at once (R272, R274). -/
def commitHandover (b : Nat) (s : State) : State :=
  let s := (s.modBank' b fun k => { k with goDue := false }).set (R.BANK_OWN.PEND b) 1
  if s.get (R.BANK_OWN.NEXT b) = s.get (R.BANK_OWN.OWNER b) then completeHandover b s else s

/-- A release or `GO` that R274 refuses. (DEDUCED, assumption 81) -/
def State.handRefused (s : State) (b : Nat) : Bool :=
  let n := s.get (R.BANK_OWN.NEXT b)
  s.flag (R.BANK_OWN.PEND b) || s.flag (R.BANK_CFG.LAND b) || s.flag (R.BANK_CFG.CMODE b) || s.flag (R.BANK_CFG.OFFLINE b)
    || !ownerUsed n || (decide (n < 128) && s.flag (R.BORDER_STAT.FENCED n))

/-- Rows marked after a spill mark `w` (R290): the rows from the end of the last mark up to the row before `w`.
(DESIGN CHOICE, assumption 82) -/
def State.markRows (s : State) (b w : Nat) : Nat :=
  let u := (s.bank b).uncopied
  let d := (w + 32768 - (s.get (R.SPILL_STAT.PTR b) + u) % 16384) % 16384
  u + if d = 0 then 16384 else d

/-- A spill mark (R290, R291). (DESIGN CHOICE, assumption 82) -/
def spillMark (b w : Nat) (s : State) : State :=
  let n := s.markRows b w
  let s := s.set (R.SPILL_STAT.MARK b) w
  if !s.flag (R.SPILL_STAT.EN b) then s
  else if 16384 < n then
    let s := ((s.set (R.SPILL_STAT.OVERRUN b) 1).set (R.SPILL_STAT.PTR b) w).modBank' b fun k => { k with uncopied := 16384 }
    raise 0x0302 [(1, b)] s
  else s.modBank' b fun k => { k with uncopied := n }

/-- The request of region `r` at the head for its bank leaves its FIFO. -/
def takePort (r : Nat) (q : CpWait) (s : State) : State := dropAcc q.bank r (s.modPort r fun p => { p with reqs := p.reqs.erase q })

/-- A request is answered, unless a reset of its region has discarded the response (R264). -/
def answerPort (r : Nat) (q : CpWait) (stat data : Nat) (s : State) : State :=
  if q.dead then s else respondPort r q.tag q.plane stat data s

/-- Bank `b` performs a request of its owner region `r` (R264, R266, R273, R290). -/
def servePort (b r : Nat) (q : CpWait) (s : State) : State :=
  let s := takePort r q s
  match q.op with
  | 0 =>
    let rd := s.readCRow b q.row
    let st := if !rd.valid then 3 else if rd.unc then 2 else if rd.cor then 1 else 0
    answerPort r q st rd.data (countRow b q.row rd s)
  | 1 =>
    match rowWrite b r q.row q.le (q.wdata % 2 ^ rowBits (s.bankCode b)) s with
    | (.done, s) => answerPort r q 0 0 s
    | (.refused, s) => answerPort r q 2 0 s
    | (.waits, s) => if q.dead then s else
      (s.modBank' b fun k => { k with seq := k.seq.map fun x => { x with tags := x.tags ++ [(q.tag, q.plane)] } }).modPort r
        fun p => { p with held := p.held + 1 }
  | 2 => answerPort r q 0 0 (spillMark b q.row s)
  | _ =>
    if s.handRefused b then answerPort r q 8 0 (s.set (R.BANK_OWN.REFUSED b) 1)
    else commitHandover b (answerPort r q 0 0 s)

/-- Bytes of a row in the NoC view (R270). (DEDUCED, assumption 77) -/
def viewRow (code v : Nat) : List Nat :=
  if code = 1 ∨ code = 2 then (List.range 128).flatMap fun k => leBytes 2 (laneOf (laneBits code) v k)
  else leBytes 128 v

/-- Lanes and packed data of `bytes` written at byte `o` of a row in the NoC view. (DEDUCED, assumption 77) -/
def viewWrite (code o : Nat) (bytes : List Nat) : Nat × Nat :=
  if code = 1 ∨ code = 2 then
    let l := laneBits code
    ((2 ^ (bytes.length / 2) - 1) * 2 ^ (o / 2),
      packLanes l 128 fun k => if o / 2 ≤ k then numAt bytes (2 * k - o) 2 else 0)
  else ((2 ^ bytes.length - 1) * 2 ^ o, ofLeBytes bytes * 2 ^ (8 * o))

/-- The request at the head of endpoint `e` becomes `p`. -/
def setHead (e : Nat) (p : Pkt) (s : State) : State :=
  s.modNoc fun n => { n with rx := listAt n.rx e (p :: (at' n.rx e []).drop 1) }

/-- The request at the head of endpoint `e` ends: answered, or kept with a full-page sequence. -/
def endHead (b e : Nat) (p : Pkt) (waits : Bool) (s : State) : State :=
  let s := dropAcc b e (popRx e s)
  if waits && (s.bank b).seq.isSome then
    s.modBank' b fun k => { k with seq := k.seq.map fun x => { x with pkts := x.pkts ++ [p] } }
  else
    let data := if p.typ = 0 ∧ (p.status = 0 ∨ p.status = 6) then p.data else []
    answerPkt { p with reqSeq := 0 } p.status p.errinfo data p.unwr s

/-- Bank `b` performs the next row of the request at the head of endpoint `e` (R270, R271). (DEDUCED, assumption 77) -/
def serveNoc (b e : Nat) (p : Pkt) (s : State) : State :=
  if p.len = 0 then endHead b e p false s else
  let code := s.bankCode b
  let w := viewBytes code
  let o := p.off % 2 ^ 22 + p.reqSeq
  let row := o / w % 16384
  let n := min (w - o % w) (p.len - p.reqSeq)
  let next := p.reqSeq + n
  if p.typ = 0 then
    let rd := s.readCRow b row
    let bad := rd.unc && p.status == 0
    let p := { p with reqSeq := next, data := p.data ++ bytesAt (viewRow code rd.data) (o % w) n,
                      status := if bad then 6 else p.status, errinfo := if bad then rowKey b row else p.errinfo,
                      unwr := p.unwr || !rd.valid }
    let s := countRow b row rd s
    if p.len ≤ next then endHead b e p false s else setHead e p s
  else
    let (mask, v) := viewWrite code (o % w) (bytesAt p.data p.reqSeq n)
    let (out, s) := rowWrite b (nocSrc p) row mask v s
    let bad := out == .refused && p.status == 0
    let p := { p with reqSeq := next, status := if bad then 6 else p.status,
                      errinfo := if bad then rowKey b row else p.errinfo }
    if p.len ≤ next then endHead b e p (out == .waits) s else setHead e p s

/-! ## The bank cycle -/

/-- The first request of each region port for bank `b`. -/
def State.portCands (s : State) (b : Nat) : List (Nat × CpWait) :=
  (List.range 128).filterMap fun r => ((s.cpPort r).reqs.find? fun q => q.bank == b).map fun q => (r, q)

/-- NoC requests for bank `b` at the heads of the agent slices. -/
def State.nocCands (s : State) (b : Nat) : List (Nat × Pkt) :=
  (List.range 16).filterMap fun k => match s.rxHead (0x80 + k) with
    | some p => if p.off / 2 ^ 22 % 256 = b then some (0x80 + k, p) else none
    | none => none

/-- Requests that bank `b` refuses are answered (R269, R271). (DEDUCED, assumption 75) -/
def refuseAll (b : Nat) (s : State) : State :=
  let s := forEach (s.portCands b) (fun e t =>
    match s.judgePort b e.1 e.2 with
    | .refuse st =>
      answerPort e.1 e.2 st 0 (takePort e.1 e.2
        (applyIf (st == 4) (fun t => t.set (R.BANK_STAT.NOT_OWN b) 1) t))
    | _ => t) s
  forEach (s.nocCands b) (fun e t =>
    match s.judgeNoc b e.1 e.2 with
    | .refuse st => answerPkt { e.2 with reqSeq := 0 } st (s.bankErr b st) [] false (dropAcc b e.1 (popRx e.1 t))
    | _ => t) s

/-- Requests that have reached bank `b` and are not refused are accepted: those due for service, and the owner's that a clear
or Retention holds; none while the power state changes (R272, R288). (DEDUCED, assumption 223) -/
def acceptAll (b : Nat) (s : State) : State :=
  if s.get (R.BANK_CFG.PWR b) = 3 then s
  else
    let own := s.get (R.BANK_OWN.OWNER b)
    let ps := (s.portCands b).filter fun e => e.1 == own && !s.flag (R.BANK_OWN.PEND b)
    let ns := (s.nocCands b).filter fun e =>
      s.judgeNoc b e.1 e.2 == .serve || (s.ownerIs own e.2 && !s.flag (R.BANK_OWN.PEND b))
    s.modBank' b fun k => { k with acc := (k.acc ++ ps.map (fun e => e.1) ++ ns.map fun e => e.1).dedup }

/-! ## Spill -/

/-- The cache agent has marked rows of bank `b` to copy: the bank serves, and the stack of the ring is neither in reset nor
clearing a segment of the ring (R290, R313, R318). -/
def State.spillDue (s : State) (b : Nat) : Bool :=
  let k := s.bank b
  let first := k.ringBase / 2 ^ 30
  let last := (k.ringBase + 2048 * k.ringSize - 1) / 2 ^ 30
  s.flag (R.SPILL_STAT.EN b) && k.uncopied != 0 && s.bankServes b && !s.bankOut b
    && !s.held (0x9C + if k.ringBase < 0x600000000 then 0 else 1)
    && !((List.range 48).any fun g => decide (first ≤ g) && decide (g ≤ last) && s.flag (R.SEG_CFG.CLR_BUSY g))

/-- Parts of a byte run by page, as (page, offset, bytes): the rows of one page that follow each other form one write.
(DESIGN CHOICE, assumption 83) -/
def addPart (a : List (Nat × Nat × List Nat)) (x : Nat × Nat × List Nat) : List (Nat × Nat × List Nat) :=
  match a with
  | (k, o, l) :: rest => if k = x.1 ∧ o + l.length = x.2.1 then (k, o, l ++ x.2.2) :: rest else x :: a
  | [] => [x]

/-- The cache agent copies `n` marked rows of bank `b` to the ring and moves P behind them (R290). (DESIGN CHOICE, assumption
83) -/
def spillRows (b n : Nat) (s : State) : State :=
  let k := s.bank b
  let code := s.bankCode b
  let w := viewBytes code
  let p0 := s.get (R.SPILL_STAT.PTR b)
  let r := (List.range n).foldl (fun (a : List (Nat × Nat × List Nat) × State) i =>
    let row := (p0 + i) % 16384
    let rd := a.2.readCRow b row
    let addr := k.ringBase + (k.ringPos + i * w) % (2048 * k.ringSize)
    (addPart a.1 ((pageOf addr).getD 0, addr % 2048, viewRow code rd.data), countRow b row rd a.2)) ([], s)
  let s := forEach r.1.reverse (fun x s => (agentWrite x.1 x.2.1 x.2.2 s).2) r.2
  (s.set (R.SPILL_STAT.PTR b) (p0 + n)).modBank' b fun x =>
    { x with uncopied := k.uncopied - n, ringPos := (k.ringPos + n * w) % (2048 * k.ringSize) }

/-! ## Arbitration -/

/-- A requester that bank `b` may serve. -/
inductive Cand where
  | port (r : Nat) (q : CpWait)
  | noc (e : Nat) (p : Pkt)
  | spill
deriving DecidableEq, Repr

/-- Requests of the owner that wait for service, then the agent's spill read, then those of other NoC sources; a request in
progress comes first, and a source of higher urgency before a lower one is not distinguished within a bank (R275, Table 9-4).
-/
def State.cands (s : State) (b : Nat) : List Cand × List Cand :=
  let own := s.get (R.BANK_OWN.OWNER b)
  let ports := ((s.portCands b).filter fun e => s.judgePort b e.1 e.2 == .serve).map fun e => Cand.port e.1 e.2
  let nocs := (s.nocCands b).filter fun e => s.judgeNoc b e.1 e.2 == .serve
  let spill := if s.spillDue b then [Cand.spill] else []
  let nocs := (nocs.filter fun e => e.2.reqSeq != 0) ++ nocs.filter fun e => e.2.reqSeq == 0
  (ports ++ (nocs.filter fun e => s.ownerIs own e.2).map (fun e => Cand.noc e.1 e.2) ++ if own = ownAgent then spill else [],
    (if own = ownAgent then [] else spill) ++ (nocs.filter fun e => !s.ownerIs own e.2).map fun e => Cand.noc e.1 e.2)

/-- Bank `b` leaves a cycle to the scrubber (R269, R275–R277): no other NoC request and no spill read waits, and the owner does
not wait either, or the cycle is the courtesy slot, or port B is free of it. (DEDUCED, assumption 223) -/
def State.bankSpare (s : State) (b : Nat) : Bool :=
  let (own, oth) := s.cands b
  oth == [] && (own == [] || twinBank b || (s.bank b).cyc == 15)

/-- A bank cycle goes by. -/
def passCycle (b : Nat) (s : State) : State := s.modBank' b fun k => { k with cyc := (k.cyc + 1) % 16 }

/-- Serve one requester. -/
def serveCand (b : Nat) (c : Cand) (s : State) : State :=
  match c with
  | .port r q => servePort b r q s
  | .noc e p => serveNoc b e p s
  | .spill => spillRows b 1 s

/-- Row and kind of a requester's next access: some true = write, some false = read, none = no row access. -/
def candRow (s : State) (b : Nat) (c : Cand) : Nat × Option Bool :=
  match c with
  | .port _ q => (q.row, if q.op = 0 then some false else if q.op = 1 then some true else none)
  | .noc _ p => ((p.off % 2 ^ 22 + p.reqSeq) / viewBytes (s.bankCode b), some (p.typ != 0))
  | .spill => (s.get (R.SPILL_STAT.PTR b), some false)

/-- Both ports of a twin-port bank in one cycle (R277–R279, Table 9-6): port A serves the owner and port B another
requester. A write at port A to the row of port B gives port B `BUSY`; the agent repeats its read. In page code the accesses
follow each other. (DEDUCED, assumption 78) -/
def serveTwin (b : Nat) (x y : Cand) (s : State) : State :=
  let (ra, ka) := candRow s b x
  let (rb, _) := candRow s b y
  if s.bankCode b ≠ 3 ∧ ra = rb ∧ ka = some true then
    let s := (serveCand b x s).set (R.BANK_STAT.BUSY b) 1
    match y with
    | .noc e p => answerPkt { p with reqSeq := 0 } 5 b [] false (dropAcc b e (popRx e s))
    | _ => s
  else serveCand b y (serveCand b x s)

/-- BANK_CYCLE: refusals are answered, and the waiting request of the highest priority is served; in the courtesy slot a
requester other than the owner comes first; a twin-port bank serves one of each (R269, R275–R277). (DEDUCED, assumption
75) -/
def execBankCycle (b : Fin 256) (s : State) : Out :=
  if !s.up || !s.clocked (5 + bankDie b) then .next s
  else
    let bk := s.bank b
    let s := acceptAll b (refuseAll b (passCycle b s))
    let (own, oth) := s.cands b
    if twinBank b then
      match own.head?, oth.head? with
      | some x, some y => .next (serveTwin b x y s)
      | some x, none => .next (serveCand b x s)
      | none, some y => .next (serveCand b y s)
      | none, none => .next s
    else
      match (if bk.cyc = 15 then oth ++ own else own ++ oth).head? with
      | some x => .next (serveCand b x s)
      | none => .next s

/-- FULL_PAGE_BREAK: 64 bank cycles pass without the next row (R282). -/
def execFullPageBreak (b : Fin 256) (s : State) : Out := if s.clocked (5 + bankDie b) then .next (breakSeq b s) else .next s

/-! ## Handover -/

/-- A `GO` of bank `b`, or what R274 makes of it. -/
def startHandover (b : Nat) (s : State) : State :=
  if s.flag (R.BANK_OWN.GO b) then s
  else if s.handRefused b then s.set (R.BANK_OWN.REFUSED b) 1
  else (s.set (R.BANK_OWN.GO b) 1).modBank' b fun k => { k with goDue := true }

/-- BANK_OWN_GO (R272). (DEDUCED, assumption 81) -/
def execBankOwnGo (b : Fin 256) (s : State) : Out := if s.up then .next (startHandover b s) else .next s

/-- HANDOVER_COMMIT: the request has crossed to the bank, and the commit cycle comes (R272, step 1). -/
def execHandoverCommit (b : Fin 256) (s : State) : Out :=
  if (s.bank b).goDue && s.clocked (5 + bankDie b) then .next (commitHandover b s) else .next s

/-- An accepted request of the old owner remains at bank `b` (R272, step 4). -/
def State.oldRemains (s : State) (b : Nat) : Bool :=
  let own := s.get (R.BANK_OWN.OWNER b)
  (s.bank b).acc.contains own
    || ((s.nocCands b).any fun e => (e.2.reqSeq != 0 || (s.bank b).acc.contains e.1) && s.ownerIs own e.2) ||
    match (s.bank b).seq with
    | some q => q.src == own || q.pkts.any fun p => s.ownerIs own p
    | none => false

/-- HANDOVER_COMPLETE (R272, step 4). -/
def execHandoverComplete (b : Fin 256) (s : State) : Out :=
  if s.flag (R.BANK_OWN.PEND b) && s.clocked (5 + bankDie b) && !s.oldRemains b then .next (completeHandover b s) else .next s

/-! ## Clear and power -/

/-- BANK_CLEAR_DONE (R285). Writes that wait in a full-page sequence have been performed before the clear. (DEDUCED,
assumption 223) -/
def execBankClearDone (b : Fin 256) (s : State) : Out :=
  if s.flag (R.BANK_STAT.CLR_BUSY b) && s.clocked (5 + bankDie b)
      && (s.get (R.BANK_CFG.PWR b) != 3 || (s.bank b).acc != []) then
    .next (clearBank b (((breakSeq b s).set (R.BANK_STAT.CLR_BUSY b) 0).set (R.BANK_STAT.CLR b) 0))
  else .next s

/-- The clear of bank `b` is denied to the host: its region's clocks run, or the bank is a landing or cache-mode bank
(R285, R296). (DEDUCED, assumption 80) -/
def State.clearDenied (s : State) (b : Nat) : Bool :=
  let o := s.get (R.BANK_OWN.OWNER b)
  (decide (o < 128) && s.fab.clocksOn && !s.held o) || s.flag (R.BANK_CFG.LAND b) || s.flag (R.BANK_CFG.CMODE b)

/-- `BANK_STAT.CLR` written with 1 (R285). (DEDUCED, assumption 80) -/
def bankClr (b : Nat) (s : State) : State :=
  if s.clearDenied b then s else (startBankClear b s).set (R.BANK_STAT.CLR b) 1

/-- BANK_STAT_CLR (R285). -/
def execBankStatClr (b : Fin 256) (s : State) : Out := if s.up then .next (bankClr b s) else .next s

/-- A power change of bank `b` begins (R288); a bank that leaves Off is bulk-cleared before it serves (Table 9-7).
(DEDUCED, assumption 79) -/
def startPower (b to' : Nat) (s : State) : State :=
  let was := s.get (R.BANK_CFG.PWR b)
  if was = to' then s
  else
    let s := (s.set (R.BANK_CFG.PWR b) 3).modBank' b fun k => { k with pwrTo := some to' }
    applyIf (was == 2) (startBankClear b) s

/-- An accepted request is still in progress at bank `b`. -/
def State.bankBusy (s : State) (b : Nat) : Bool :=
  (s.bank b).seq.isSome || (s.bank b).acc != [] || (s.nocCands b).any fun e => e.2.reqSeq != 0

/-- BANK_POWER_CHANGE_DONE: the bank reaches its target once its accepted requests are complete; Off loses the contents
(R288, Table 9-7). (DEDUCED, assumption 79) -/
def execBankPowerChangeDone (b : Fin 256) (s : State) : Out :=
  match (s.bank b).pwrTo with
  | some t =>
    if s.get (R.BANK_CFG.PWR b) ≠ 3 ∨ !s.clocked (5 + bankDie b) ∨ s.bankBusy b then .next s
    else
      let s := (s.set (R.BANK_CFG.PWR b) t).modBank' b fun k => { k with pwrTo := none }
      .next (if t = 2 then clearBank b s else s)
  | none => .next s

/-- A reset of cache die `d` (R299). -/
def resetCacheDie (d : Nat) (s : State) : State :=
  let s := forEach ((List.range 256).filter fun b => bankDie b == d) (fun b s =>
    let s := match (s.bank b).seq with
      | some q =>
        let s := s.modBank' b fun k => { k with seq := none }
        let s := forEach q.tags (fun t s =>
          (respondPort q.src t.1 t.2 6 0 s).modPort q.src fun p => { p with held := p.held - 1 }) s
        forEach q.pkts (fun p s => answerPkt p 4 b [] false s) s
      | none => s
    let s := forEach (s.portCands b) (fun e s =>
      if (s.bank b).acc.contains e.1 then answerPort e.1 e.2 6 0 (takePort e.1 e.2 s) else s) s
    let s := forEach (s.nocCands b) (fun e s =>
      if (s.bank b).acc.contains e.1 || e.2.reqSeq != 0 then
        answerPkt { e.2 with reqSeq := 0 } 4 b [] false (dropAcc b e.1 (popRx e.1 s))
      else s) s
    if s.flag (R.BANK_OWN.PEND b) || (s.bank b).goDue then
      (((s.modBank' b fun k => { k with goDue := false }).set (R.BANK_OWN.PEND b) 0).set (R.BANK_OWN.GO b) 0).set
        (R.BANK_OWN.REFUSED b) 1
    else s) s
  let s := forEach ((List.range 128).filter fun r => quadOf r == d) (fun r => startResync (64 + r)) s
  forEach ((List.range 4).filter fun x => x != d) (fun x s => startResync (farFifo x d) (startResync (farFifo d x) s)) s

/-- A bank path is withdrawn (R294, R298): a way of a cache-mode group is lost with its dirty lines. -/
def offlineBank (b : Nat) (s : State) : State :=
  let s := s.set (R.BANK_CFG.OFFLINE b) 1
  if !s.flag (R.BANK_CFG.CMODE b) then s
  else
    let d := bankDie b
    let w := b % 16
    let lost := ((s.cm d).tags.filter fun e => e.1 % 16 == w && e.2.2.1).map fun e => pageAddr e.2.1
    let s := (s.set (R.CMODE_CFG.WAY_LOST d) 1).modCm d fun c =>
      { c with lostWays := w :: c.lostWays, tags := c.tags.filter fun e => e.1 % 16 != w }
    forEach (List.range ((lost.length + 63) / 64)) (fun i s =>
      let l := (lost.drop (64 * i)).take 64
      raise 0x0303 ((1, l.length) :: l.map fun a => (5, a)) s) s

/-! ## Spill -/

/-- `SEG_CFG.SPILL` follows the rings (R290). (DEDUCED, assumption 200) -/
def refreshSpill (s : State) : State :=
  forEach (List.range 48) (fun g s =>
    s.setB (R.SEG_CFG.SPILL g) ((List.range 256).any fun b =>
      let k := s.bank b
      s.flag (R.SPILL_STAT.EN b) && decide (k.ringBase / 2 ^ 30 ≤ g)
        && decide (g ≤ (k.ringBase + 2048 * k.ringSize - 1) / 2 ^ 30))) s

/-- SPILL_COPY: the cache agent copies every marked row while the owner of the bank does not wait, or by port B of a twin-port
bank; else one row in a courtesy slot (R269, R276, R290). (DESIGN CHOICE, assumption 83; DEDUCED, assumption 223) -/
def execSpillCopy (b : Fin 256) (s : State) : Out :=
  let (own, _) := s.cands b
  if !s.spillDue b || !s.clocked (5 + bankDie b) then .next s
  else if (own.filter fun c => c != .spill) == [] || twinBank b then .next (spillRows b (s.bank b).uncopied s)
  else if (s.bank b).cyc = 15 then .next (spillRows b 1 (passCycle b s))
  else .next s

/-! ## Cache mode -/

/-- `SEG_CFG.CACHED` follows the groups (Table 10-9). -/
def refreshCached (s : State) : State :=
  forEach (List.range 48) (fun g s =>
    s.setB (R.SEG_CFG.CACHED g) ((List.range 4).any fun d => s.flag (R.CMODE_CFG.EN d)
      && decide (s.get (R.CMODE_CFG.BASE_SEG d) ≤ g)
      && decide (g < s.get (R.CMODE_CFG.BASE_SEG d) + s.get (R.CMODE_CFG.SEG_CNT d)))) s

/-- A bank of the group of die `d` is being cleared or changes power. -/
def State.groupBusy (s : State) (d : Nat) : Bool :=
  (List.range 16).any fun w => !(s.cm d).lostWays.contains w && !s.bankServes (s.wayBank d w)

/-- CACHE_LINE_FILL: the group of die `d` takes line `line`, counted in 2 KiB from address 0, for an access that waits
at a Bulk Store window (R293). (DEDUCED, assumption 86) -/
def execCacheLineFill (d : Fin 4) (line : Nat) (s : State) : Out :=
  match pageOf (2048 * line) with
  | none => .next s
  | some k =>
    let waits := (List.range 12).any fun w => match s.rxHead (0x90 + w) with
      | some p =>
        let a := w * 2 ^ 32 + p.off + p.reqSeq
        decide (pktReq p ∨ p.typ = 2) && pageOf a == some k
      | none => false
    if s.groupOf k = some d.val ∧ (s.lineWay d k).isNone ∧ waits ∧ !s.groupBusy d ∧ !s.held (0x98 + d.val)
        ∧ !s.held (0x9C + k / stackPages) then .next (fillLine d k s)
    else .next s

/-! ## Commands of Table 9-14 -/

/-- CACHE_GET. -/
def execCacheGet (mb first count : Nat) (s : State) : Out :=
  .next (talnum mb 0x0300 [(1, first), (1, count)]
    (checks [(decide (256 ≤ first) || decide (count = 0) || decide (16 < count) || decide (256 < first + count), stBadArg),
        ((List.range count).any fun k => s.bankTested (first + k), stBusyTest)]
      fun s => .ret ((List.range count).flatMap fun k =>
        let b := first + k
        [(4, s.cardWord (0x400000 + 4 * b)), (4, s.cardWord (0x400400 + 4 * b)), (4, s.cardWord (0x400800 + 4 * b)),
         (4, s.cardWord (0x401000 + 4 * b))]) s) s)

/-- CACHE_OWN (R272–R274). (DEDUCED, assumption 81) -/
def execCacheOwn (mb bank owner arm : Nat) (s : State) : Out :=
  .next (talnum mb 0x0301 [(1, bank), (2, owner), (1, arm)]
    (checks [(decide (2 ≤ arm) || !ownerUsed owner, stBadArg),
        (decide (owner < 128) && s.flag (R.BORDER_STAT.FENCED owner), stBadArg), (s.bankTested bank, stBusyTest),
        (s.flag (R.BANK_OWN.PEND bank) || s.flag (R.BANK_OWN.GO bank), stBusy),
        (s.flag (R.BANK_CFG.LAND bank) || s.flag (R.BANK_CFG.CMODE bank) || s.flag (R.BANK_CFG.OFFLINE bank), stDenied)]
      fun s =>
        let s := s.set (R.BANK_OWN.NEXT bank) owner
        .ok (if arm = 1 then s.set (R.BANK_OWN.ARM bank) 1 else startHandover bank s)) s)

/-- CACHE_CODE (R283); the rule is stated for Run and is applied in every mode that serves the command. (DEDUCED, assumption
80) -/
def execCacheCode (mb bank code pageT : Nat) (s : State) : Out :=
  .next (talnum mb 0x0302 [(1, bank), (1, code), (1, pageT)]
    (checks [(decide (4 ≤ code) || decide (5 ≤ pageT), stBadArg), (s.bankTested bank, stBusyTest),
        (s.get (R.BANK_OWN.OWNER bank) != ownAgent || s.get (R.BANK_CFG.PWR bank) != 0 || s.flag (R.BANK_CFG.LAND bank)
          || s.flag (R.BANK_CFG.CMODE bank), stDenied)]
      fun s => .ok (startBankClear bank ((s.set (R.BANK_CFG.CODE bank) code).set (R.BANK_CFG.PAGE_T bank) pageT))) s)

/-- CACHE_CLEAR (R285). (DEDUCED, assumption 80) -/
def execCacheClear (mb bank : Nat) (s : State) : Out :=
  .next (talnum mb 0x0303 [(1, bank)]
    (checks [(s.bankTested bank, stBusyTest), (s.clearDenied bank, stDenied)]
      fun s => .ok (startBankClear bank s)) s)

/-- CACHE_POWER (R288). A change while another runs, or of a bank whose die is off, is denied. (DEDUCED, assumption 79)
-/
def execCachePower (mb bank state : Nat) (s : State) : Out :=
  .next (talnum mb 0x0304 [(1, bank), (1, state)]
    (checks [(decide (3 ≤ state), stBadArg), (s.bankTested bank, stBusyTest),
        ((state == 2 && decide (s.get (R.BANK_OWN.OWNER bank) < 128)) || s.flag (R.BANK_CFG.LAND bank)
          || s.flag (R.BANK_CFG.CMODE bank) || s.flag (R.BANK_OWN.PEND bank) || s.get (R.BANK_CFG.PWR bank) == 3
          || s.therm.memOff.contains (bankDie bank), stDenied)]
      fun s => .ok (startPower bank state s)) s)

/-- CACHE_WIN: a window and the `NOC_ACC` of a bank list (R270). -/
def execCacheWin (mb win dev ep acc : Nat) (banks : List Nat) (s : State) : Out :=
  .next (talnum mb 0x0305 ([(1, win), (3, dev), (2, ep), (1, acc), (1, banks.length)] ++ banks.map fun b => (1, b))
    (checks [(decide (16 ≤ win) || decide (2 ^ 20 ≤ dev) || decide (2 ^ 12 ≤ ep) || decide (4 ≤ acc)
        || decide (16 < banks.length), stBadArg), (banks.any s.bankTested, stBusyTest)]
      fun s => .ok (forEach banks (fun b s => s.set (R.BANK_CFG.NOC_ACC b) acc)
        ((s.set (R.NOC_WIN.DEVICE win) dev).set (R.NOC_WIN.ENDPOINT win) ep))) s)

/-- Leave cache mode on die `d`: the group is flushed first (R293). -/
def leaveCmode (d : Nat) (s : State) : State :=
  let banks := (List.range 16).map (s.wayBank d)
  let s := (flushGroup d true s).2
  let s := forEach banks (fun b s => s.set (R.BANK_CFG.CMODE b) 0) s
  refreshCached (((s.set (R.CMODE_CFG.EN d) 0).set (R.CMODE_CFG.WAY_LOST d) 0).modCm d fun _ => ⟨[], 0, []⟩)

/-- CACHE_MODE (R292, R293). (DEDUCED, assumption 87) -/
def execCacheMode (mb die group seg count : Nat) (s : State) : Out :=
  .next (talnum mb 0x0306 [(1, die), (1, group), (1, seg), (1, count)] (fun s =>
    if 4 ≤ die ∨ 4 ≤ group then .fail stBadArg s
    else
      let banks := (List.range 16).map fun w => 64 * die + 16 * group + w
      if count = 0 then
        if !s.flag (R.CMODE_CFG.EN die) then .ok s
        else if s.held (0x9C) || s.held (0x9D) then .fail stBusy s
        else .ok (leaveCmode die s)
      else
        let overlap := (List.range 4).any fun d => d != die && s.flag (R.CMODE_CFG.EN d)
          && decide (seg < s.get (R.CMODE_CFG.BASE_SEG d) + s.get (R.CMODE_CFG.SEG_CNT d))
          && decide (s.get (R.CMODE_CFG.BASE_SEG d) < seg + count)
        checks [(decide (48 < seg + count), stBadArg), (overlap, stBadArg), (banks.any s.bankTested, stBusyTest),
            (s.flag (R.CMODE_CFG.EN die), stDenied),
            (s.test.fenced.any fun f => f.1 == 5 && decide (seg ≤ f.2) && decide (f.2 < seg + count),
              stDenied),
            (banks.any fun b => s.get (R.BANK_OWN.OWNER b) != ownAgent || s.flag (R.BANK_CFG.LAND b)
              || s.get (R.BANK_CFG.PWR b) != 0 || s.flag (R.BANK_OWN.PEND b), stDenied)]
          (fun s =>
            let s := forEach banks (fun b s =>
              startBankClear b ((s.set (R.BANK_CFG.CODE b) 0).set (R.BANK_CFG.CMODE b) 1)) s
            let s := (((s.set (R.CMODE_CFG.EN die) 1).set (R.CMODE_CFG.GROUP die) group).set
              (R.CMODE_CFG.BASE_SEG die) seg).set (R.CMODE_CFG.SEG_CNT die) count
            let lost := (List.range 16).filter fun w => s.flag (R.BANK_CFG.OFFLINE (64 * die + 16 * group + w))
            .ok (refreshCached ((s.setB (R.CMODE_CFG.WAY_LOST die) (lost != [])).modCm die fun _ => ⟨[], 0, lost⟩))) s) s)

/-- CACHE_FLUSH: the dirty lines written back (R293). A stack in reset cannot take them. (DEDUCED, assumption 84) -/
def execCacheFlush (mb die inv : Nat) (s : State) : Out :=
  .next (talnum mb 0x0307 [(1, die), (1, inv)]
    (checks [(decide (4 ≤ die) || decide (2 ≤ inv), stBadArg), (!s.flag (R.CMODE_CFG.EN die), stBadArg),
        ((List.range 16).any fun w => s.bankTested (s.wayBank die w), stBusyTest),
        (s.held 0x9C || s.held 0x9D, stBusy)]
      fun s =>
        let x := flushGroup die (inv == 1) s
        .ret [(4, x.1)] x.2) s)

/-- CACHE_SPILL (R290). (DEDUCED, assumption 200) -/
def execCacheSpill (mb bank base size : Nat) (s : State) : Out :=
  .next (talnum mb 0x0308 [(1, bank), (5, base), (3, size)] (fun s =>
    if s.bankTested bank then .done stBusyTest (leBytes 4 s.testLeft) s
    else if size = 0 then
      .ok (refreshSpill ((s.set (R.SPILL_STAT.EN bank) 0).modBank' bank fun k => { k with uncopied := 0 }))
    else
      let e := base + 2048 * size
      let inA := decide (e ≤ 0x5D0000000)
      let inB := decide (0x600000000 ≤ base) && decide (e ≤ 0xBD0000000)
      checks [(base % 2048 != 0 || !(inA || inB), stBadArg),
          (s.flag (R.BANK_CFG.LAND bank) || s.flag (R.BANK_CFG.CMODE bank), stDenied),
          (s.test.fenced.any fun f => f.1 == 5 && decide (base / 2 ^ 30 ≤ f.2) && decide (f.2 ≤ (e - 1) / 2 ^ 30), stDenied)]
        (fun s => .ok (refreshSpill ((s.set (R.SPILL_STAT.EN bank) 1).modBank' bank fun k =>
          { k with ringBase := base, ringSize := size, ringPos := 0, uncopied := 0 }))) s) s)

/-- CACHE_REPAIR (R297, R301). (DEDUCED, assumption 87) -/
def execCacheRepair (mb bank : Nat) (s : State) : Out :=
  .next (talnum mb 0x0309 [(1, bank)] (fun s =>
    if s.bankTested bank then .done stBusyTest (leBytes 4 s.testLeft) s
    else .ret ((1, s.get (R.BANK_STAT.SPARES bank)) :: (s.bank bank).spares.map fun c => (2, c)) s) s)

end Sys2Proof.Machine
end

