-- ==== Sys2Proof/Machine/Bulk.lean ====
section
/-! DEFINITION. The commands of the Bulk Store, the scrubber and the split-write window ("Bulk Store, Page Codes and
Scrubbing"). -/

namespace Sys2Proof.Machine

/-! ## Requests at the windows -/

/-- Address that the next byte of a request at window endpoint `e` names (R305). -/
def bulkAddr (e : Nat) (p : Pkt) : Nat := (e - 0x90) * 2 ^ 32 + p.off + p.reqSeq

/-- Refusal of a request at a window (Table 13-6, R305, R316, R318, R319): status and `ERRINFO`. (DESIGN CHOICE,
assumption 91) -/
def State.bulkRefuses (s : State) (e : Nat) (p : Pkt) : Option (Nat × Nat) :=
  match pageOf (bulkAddr e p) with
  | none => some (2, 0)
  | some k =>
    let st := k / stackPages
    let acc := if s.test.fenced.contains (5, segOfPage k) then 2 else s.get (R.SEG_CFG.ACC (segOfPage k))
    if s.held (0x9C + st) then some (8, st)
    else if s.test.busy.contains (0x9C + st) then some (7, min s.testLeft (2 ^ 32 - 1))
    else if acc = 2 ∨ acc = 3 ∨ (acc = 1 ∧ p.typ ≠ 0) then some (1, 0)
    else none

/-- A request at a window waits: its segment is being cleared, a full-page write to the page it reads is under way, or its
cached line is absent (R293, R309, R311, R313). (DEDUCED, assumption 90) -/
def State.bulkWaits (s : State) (p : Pkt) (k : Nat) : Bool :=
  s.flag (R.SEG_CFG.CLR_BUSY (segOfPage k)) || (p.typ == 0 && (lookup s.bulk.seqs k).isSome) ||
    match s.groupOf k with
    | some d => s.groupBusy d || ((s.lineWay d k).isNone && !(s.readPage k).unc)
    | none => false

/-- Part of a write at page `k` from byte `o` (R309): performed, refused, or waiting in a full-page write. (DEDUCED,
assumption 90) -/
def bulkWrite (k o dev ep : Nat) (bytes : List Nat) (s : State) : RowOut × State :=
  let fresh := fun (s : State) =>
    if o = 0 ∧ bytes.length < 2048 ∧ (lookup s.bulk.pages k).isSome then
      (RowOut.waits, s.modBulk fun b => { b with seqs := put b.seqs k ⟨dev, ep, k, bytes, []⟩ })
    else if o = 0 ∧ bytes.length = 2048 then (.done, writePage k (ofLeBytes bytes) s)
    else
      let x := partialWrite k o bytes s
      (if x.1 then .done else .refused, x.2)
  match lookup s.bulk.seqs k with
  | none => fresh s
  | some q =>
    if q.srcDev = dev ∧ q.srcEp = ep ∧ o = q.bytes.length then
      let l := q.bytes ++ bytes
      if l.length = 2048 then
        let s := writePage k (ofLeBytes l) (s.modBulk fun b => { b with seqs := del b.seqs k })
        (.done, answerBulk q true s)
      else (.waits, s.modBulk fun b => { b with seqs := put b.seqs k { q with bytes := l } })
    else fresh (breakBulk k s)

/-- The request at the head of endpoint `e` ends: answered, or kept with its full-page write. -/
def endBulk (k e : Nat) (p : Pkt) (waits : Bool) (s : State) : State :=
  let s := popRx e s
  match waits, lookup s.bulk.seqs k with
  | true, some q => s.modBulk fun b => { b with seqs := put b.seqs k { q with pkts := q.pkts ++ [p] } }
  | _, _ => answerPkt { p with reqSeq := 0 } p.status p.errinfo (if p.typ = 0 then p.data else []) p.unwr s

/-- One page access of the request at the head of endpoint `e` (R293, R307–R312). (DEDUCED, assumption 90) -/
def servePage (e k : Nat) (p : Pkt) (s : State) : State :=
  let o := bulkAddr e p % 2048
  let n := min (2048 - o) (p.len - p.reqSeq)
  let next := p.reqSeq + n
  let go := fun (p : Pkt) (waits : Bool) (s : State) => if p.len ≤ next then endBulk k e p waits s else setHead e p s
  let way := match s.groupOf k with | some d => (s.lineWay d k).map fun w => (d, w) | none => none
  if p.len = 0 then endBulk k e p false s
  else if p.typ = 0 then
    let (d, bad, unwr, s) := match way with
      | some (d, w) =>
        let l := s.readLine d w (setOf k)
        let used := (List.range 16).filter fun i => decide (128 * i < o + n) && decide (o < 128 * (i + 1))
        let s := forEach used (fun i s =>
          countRow (s.wayBank d w) (16 * setOf k + i) (l.getD i ⟨0, false, false, false⟩) s) s
        (lineData l, used.any fun i => (l.getD i ⟨0, false, false, false⟩).unc,
          used.any fun i => !(l.getD i ⟨0, true, false, false⟩).valid, touchLine d w (setOf k) false s)
      | none =>
        let rd := s.readPage k
        (rd.data, rd.unc, !rd.valid, countPage k rd s)
    let first := bad && p.status == 0
    go { p with reqSeq := next, data := p.data ++ bytesAt (leBytes 2048 d) o n, unwr := p.unwr || unwr,
                status := if first then 6 else p.status,
                errinfo := if first then pageAddr k % 2 ^ 32 else p.errinfo } false s
  else
    let bytes := bytesAt p.data p.reqSeq n
    match way with
    | some (d, w) =>
      go { p with reqSeq := next } false (touchLine d w (setOf k) true (writeLine d w (setOf k) o bytes s))
    | none =>
      let (out, s) := bulkWrite k o p.srcDev p.srcEp bytes s
      let first := out == .refused && p.status == 0
      go { p with reqSeq := next, status := if first then 6 else p.status,
                  errinfo := if first then pageAddr k % 2 ^ 32 else p.errinfo } (out == .waits) s

/-- A scrub operation of controller `k` waits for a slot: a pass of its stack is next (R317, R323). -/
def State.bulkScrubs (s : State) (k : Nat) : Bool :=
  (s.runClass || decide (s.mode = mSafe)) && s.bulk.passes.any fun x => x.target == 5 + k && decide (x.st < 2)

/-- A page slot of controller `k` goes by. -/
def passSlot (k : Nat) (s : State) : State := s.modBulk fun b => { b with slot := put b.slot k ((at' b.slot k 0 + 1) % 16) }

/-- Requests at the windows of controller `k` that do not wait, most urgent first (R317); in self-refresh a controller out of
reset performs none (R319). -/
def State.bulkHeads (s : State) (k : Nat) : List (Nat × Pkt) :=
  let l := if s.flag (R.BULK_STAT.SELFREF k) && !s.held (0x9C + k) then [] else (List.range 6).filterMap fun i =>
    let e := 0x90 + 6 * k + i
    match s.rxHead e with
    | some p =>
      match s.bulkRefuses e p, pageOf (bulkAddr e p) with
      | none, some g => if s.bulkWaits p g then none else some (e, p)
      | _, _ => some (e, p)
    | none => none
  (List.range 8).reverse.flatMap fun c => l.filter fun x => x.2.cls % 8 == c

/-- BULK_PAGE_ACCESS: controller `k` performs one page access, or refuses a request (R305, R309–R312, R316–R318); a 16th slot
is left to a scrub operation that waits (R317). -/
def execBulkPageAccess (k : Fin 2) (s : State) : Out :=
  match if s.clocked (10 + k.val) && !(s.bulkScrubs k && at' s.bulk.slot k 0 == 15) then s.bulkHeads k else [] with
  | [] => .next s
  | (e, p) :: _ =>
    let s := passSlot k s
    match s.bulkRefuses e p with
    | some (st, info) => .next (answerPkt { p with reqSeq := 0 } st info [] false (popRx e s))
    | none =>
      match pageOf (bulkAddr e p) with
      | some g => .next (servePage e g p s)
      | none => .next s

/-- BULK_FULL_PAGE_TIMEOUT: more than 64 BLK cycles pass, so the write becomes partial (R309). -/
def execBulkFullPageTimeout (k : Fin 2) (s : State) : Out :=
  match if s.clocked (10 + k.val) then s.bulk.seqs.find? fun e => e.1 / stackPages == k.val else none with
  | some e => .next (breakBulk e.1 s)
  | none => .next s

/-! ## Segments -/

/-- A segment clear starts; one that runs takes it in (R313). (DEDUCED, assumption 92) -/
def startSegClear (g : Nat) (s : State) : State := s.set (R.SEG_CFG.CLR_BUSY g) 1

/-- The full-page sequences of segment `g` are performed as partial writes. (DEDUCED, assumption 90) -/
def breakSegment (g : Nat) (s : State) : State :=
  forEach (s.bulk.seqs.filter fun e => segOfPage e.1 == g) (fun e s => breakBulk e.1 s) s

/-- SEGMENT_CLEAR_DONE (R313). Parts that wait in a full-page write have been performed before the clear. (DEDUCED, assumption
90) -/
def execSegmentClearDone (g : Fin 48) (s : State) : Out :=
  if s.flag (R.SEG_CFG.CLR_BUSY g) && s.clocked (10 + g.val / 24) then
    .next (clearSegment g (((breakSegment g s).set (R.SEG_CFG.CLR_BUSY g) 0).set (R.SEG_CFG.CLR g) 0))
  else .next s

/-- `SEG_CFG.CLR` written with 1: it reads 1 until the clear is done (R5). -/
def writeSegClr (g : Nat) (s : State) : State := (startSegClear g s).set (R.SEG_CFG.CLR g) 1

/-- SEG_CFG_CLR (R313). (DEDUCED, assumption 92) -/
def execSegCfgClr (g : Fin 48) (s : State) : Out := if s.up then .next (writeSegClr g s) else .next s

/-! ## Scrubbing -/

/-- Index of a host pass in the list. -/
def State.scrubPass (s : State) (h : Nat) : Option Scrub := s.bulk.passes.find? fun x => x.handle == h

/-- Replace a host pass. -/
def setPass (x : Scrub) (s : State) : State :=
  s.modBulk fun b => { b with passes := b.passes.map fun y => if y.handle = x.handle then x else y }

/-- A pass ends with state `st` (R323, R325). -/
def endPass (x : Scrub) (st : Nat) (s : State) : State :=
  raise 0x0311 [(2, x.handle), (1, st)] (setPass { x with st := st, endTick := s.clk.tick } s)

/-- Host passes of the targets that meet `p` are cut (R318, R323). -/
def cutPasses (p : Nat → Bool) (s : State) : State :=
  forEach (s.bulk.passes.filter fun x => p x.target && decide (x.st < 2)) (fun x s => endPass x 3 s) s

/-- Address of a unit in a summary (R326). -/
def unitAddr (target unit : Nat) : Nat := if target < 5 then unit else pageAddr unit

/-- What the scrubber makes of one unit: read, written, corrected, uncorrectable, skipped, corrections in a page. -/
structure UnitRes where
  skipped : Bool
  unwritten : Bool
  corrected : Bool
  uncorr : Bool
  cors : Nat
deriving DecidableEq, Repr

/-- A cache bank gives the scrubber no unit, now or later (R321). -/
def State.scrubSkips (s : State) (b : Nat) : Bool :=
  s.bankOff b || s.bankOut b || s.flag (R.BANK_CFG.LAND b) || s.bankTested b

/-- The scrubber waits for bank `b`: a clear, Retention, which its request ends, or a change of power (R285, R287). (DEDUCED,
assumption 223) -/
def State.scrubWaits (s : State) (b : Nat) : Bool := !s.scrubSkips b && !s.bankServes b

/-- Read, check and conditionally write back one unit (R320–R322, Table 10-4). A block memory whose region is held has no edges
by which the scrubber could reach it. (DEDUCED, assumption 223) -/
def scrubOne (target unit : Nat) (s : State) : UnitRes × State :=
  if target < 4 then
    let b := unit / 16384
    let row := unit % 16384
    if s.scrubSkips b then (⟨true, false, false, false, 0⟩, s)
    else if s.bankCode b = 3 then
      let rd := s.readCPage b (row / 32)
      let s := { s with free := s.free + 34 }
      let fix := rd.valid && rd.cor != 0 && !rd.unc
      (⟨false, !rd.valid, fix, rd.unc, rd.cor⟩, if fix then writeCPage b (row / 32) rd.rows s else s)
    else
      let rd := s.readCRow b row
      let s := { s with free := s.free + 1 }
      let fix := rd.cor && !rd.unc
      (⟨false, !rd.valid, fix, rd.unc, 0⟩, if fix then (writeCRow b row (2 ^ 128 - 1) rd.data s).2 else s)
  else if target = 4 then
    let m := unit / 1024
    let row := unit % 1024
    if s.get (R.BM_STAT.CODE m) == 3 || s.test.busy.contains (m / 96) || s.held (m / 96) then (⟨true, false, false, false, 0⟩, s)
    else
      let rd := readRow s.bm.rows s.bm.inj 4 (s.get (R.BM_STAT.CODE m)) (1024 * m + row) (Config.freeValue s.free)
      let s := s.useFree
      let fix := rd.cor && !rd.unc
      (⟨false, !rd.valid, fix, rd.unc, 0⟩, if fix then bmWrite m row 15 rd.data s else s)
  else
    let rd := s.readPage unit
    let s := { s with free := s.free + 2 }
    let fix := rd.cor != 0 && !rd.unc
    (⟨false, !rd.valid, fix, rd.unc, rd.cor⟩, if fix then writePage unit rd.data s else s)

/-- The unit after `unit` in a pass, if one is left (R320). -/
def State.nextUnit (s : State) (x : Scrub) : Option Nat :=
  if 5 ≤ x.target then (if x.unit < x.last then some (x.unit + 1) else none)
  else
    let n := if x.target < 4 then 16384 else 1024
    let b := x.unit / n
    let row := x.unit % n
    let r' := if x.target < 4 ∧ s.bankCode b = 3 then 32 * (row / 32) + 32 else row + 1
    if r' ≤ x.rowLast then some (n * b + r')
    else if b < x.last then
      let b' := b + 1
      some (n * b' + if x.target < 4 ∧ s.bankCode b' = 3 then 32 * (x.rowFirst / 32) else x.rowFirst)
    else none

/-- Process the present unit of `x` and count it (Table 10-5). -/
def scrubStep (x : Scrub) (s : State) : Scrub × State :=
  let (r, s) := scrubOne x.target x.unit s
  let a := unitAddr x.target x.unit
  let one := fun (c : Bool) (v : Nat) => if c then min (v + 1) (2 ^ 32 - 1) else v
  let tell := r.uncorr && decide (x.events < 16)
  let s := applyIf tell (raise 0x0310 [(2, x.handle), (8, a), (6, s.clk.tick)]) s
  ({ x with st := 1, read := one (!r.skipped && !r.unwritten) x.read, corrected := one r.corrected x.corrected,
            uncorr := one r.uncorr x.uncorr, unwritten := one r.unwritten x.unwritten, skipped := one r.skipped x.skipped,
            firstFail := if r.uncorr && x.firstFail.isNone then some a else x.firstFail,
            maxCor := max x.maxCor (if r.corrected then r.cors else 0), lastAddr := a,
            events := if tell then x.events + 1 else x.events }, s)

/-- Scrub runs in this mode (R323). -/
def State.scrubRuns (s : State) : Bool := s.runClass || decide (s.mode = mSafe)

/-- The units of target `t` have their clock (R67): a cache die, the context machinery that holds the block memories, or a
stack. (DEDUCED, assumption 223) -/
def State.scrubClock (s : State) (t : Nat) : Bool := s.clocked (if t < 4 then 5 + t else if t = 4 then 9 else 5 + t)

/-- The unit of `x` can be served now: its bank has a cycle to spare and does not hold the request, or its controller has no
other request or the 16th slot (R269, R317). -/
def State.scrubTurn (s : State) (x : Scrub) : Bool :=
  if x.target < 4 then !s.scrubWaits (x.unit / 16384) && s.bankSpare (x.unit / 16384)
  else if x.target = 4 then true
  else s.bulkHeads (x.target - 5) == [] || at' s.bulk.slot (x.target - 5) 0 == 15

/-- SCRUB_UNIT: the host pass at the front of target `t` processes one unit, or ends (R320, R323, R325); its request wakes a bank
in Retention (R287), and requests of higher priority come first (R269, R317). -/
def execScrubUnit (t : Fin 7) (s : State) : Out :=
  match s.bulk.passes.find? fun x => x.target == t.val && decide (x.st < 2) with
  | none => .next s
  | some x =>
    if !s.scrubRuns || !s.scrubClock t || !s.scrubTurn x then .next s
    else
      let (x, s) := scrubStep x (applyIf (decide (5 ≤ t.val)) (passSlot (t - 5)) s)
      match s.nextUnit x with
      | some u => .next (setPass { x with unit := u } s)
      | none => .next (endPass x 2 s)

/-- Whole range of a target: first and last bank, device index or page. -/
def targetRange (t : Nat) : Nat × Nat :=
  match t with
  | 4 => (0, 12287) | 5 => (0, stackPages - 1) | 6 => (stackPages, 2 * stackPages - 1) | d => (64 * d, 64 * d + 63)

/-- First unit of a range that starts at row `row`. -/
def State.firstUnit (s : State) (t first row : Nat) : Nat :=
  if 5 ≤ t then first
  else if t = 4 then 1024 * first + row
  else 16384 * first + if s.bankCode first = 3 then 32 * (row / 32) else row

/-- A new summary. -/
def State.newScrub (s : State) (handle t first last rowFirst rowLast : Nat) : Scrub :=
  { handle := handle, target := t, st := 0, first := first, last := last, rowFirst := rowFirst, rowLast := rowLast,
    unit := s.firstUnit t first rowFirst, read := 0, corrected := 0, uncorr := 0, unwritten := 0, skipped := 0,
    firstFail := none, maxCor := 0, endTick := 0, lastAddr := 0, events := 0, rate := 0, part := 0 }

/-- Background scrub of target `t`: the whole target, handle 100h + target (R324). -/
def State.bgScrub (s : State) (t : Nat) : Scrub :=
  let r := targetRange t
  at' s.bulk.bg t (s.newScrub (0x100 + t) t r.1 r.2 0 (if t = 4 then 1023 else 16383))

/-- One unit of background scrub, wrapping at the end of the target (R324); it waits at a bank that holds its request. A new
round through the target has its own 16 events of R325. (DEDUCED, assumption 223) -/
def bgStep (a : Scrub × State) : Scrub × State :=
  if a.1.target < 4 ∧ a.2.scrubWaits (a.1.unit / 16384) then a else
  let (x, s) := scrubStep a.1 a.2
  let x := { x with endTick := s.clk.tick }
  match s.nextUnit x with
  | some u => ({ x with unit := u }, s)
  | none => ({ x with unit := s.firstUnit x.target x.first x.rowFirst, events := 0 }, s)

/-- BG_SCRUB_TICK: one millisecond of background scrub, scaled by P ÷ 16 in Limit and suspended by a host pass (R324). -/
def execBgScrubTick (t : Fin 7) (s : State) : Out :=
  let x := s.bgScrub t
  if x.rate = 0 ∨ !s.scrubRuns ∨ !s.scrubClock t ∨ s.bulk.passes.any fun y => y.target == t.val && decide (y.st < 2) then .next s
  else if (t.val < 4 ∧ s.held (0x98 + t.val)) ∨ (5 ≤ t.val ∧ s.held (0x97 + t.val)) then .next s
  else
    let p := if s.mode = mLimit then s.get R.THERM_STAT.P else 16
    let n := (x.rate * p + x.part) / 16
    let x := { x with part := (x.rate * p + x.part) % 16 }
    let (x, s) := (List.range n).foldl (fun a _ => bgStep a) (x, s)
    .next (s.modBulk fun b => { b with bg := put b.bg t x })

/-- A scrub summary record (Table 10-5). -/
def scrubSummary (x : Scrub) : List Nat :=
  pack [(2, x.handle), (1, if x.target < 4 then 0 else if x.target = 4 then 1 else 2), (1, x.st), (4, x.read),
    (4, x.corrected), (4, x.uncorr), (4, x.unwritten), (4, x.skipped), (8, x.firstFail.getD (2 ^ 64 - 1)), (2, x.maxCor),
    (6, x.endTick), (8, x.lastAddr)]

/-! ## The split-write window -/

/-- Expert control of function `f` is unlocked (R499). -/
def State.unlocked (s : State) (f : Nat) : Bool := s.bit (R.EXP_UNLK.UNLK (f / 32)) (f % 32)

/-- Function of a unit of kind `kind`, if the unit exists (R326). -/
def splitFunc (kind unit : Nat) : Option Nat :=
  match kind with
  | 0 => if unit < 2 ^ 22 then some (0x98 + unit / 2 ^ 20) else none
  | 1 => if unit < 12288 * 1024 then some (unit / 1024 / 96) else none
  | 2 => match pageOf unit with
    | some k => if unit % 2048 = 0 then some (0x9C + k / stackPages) else none
    | none => none
  | _ => none

/-- Block memory `m` is protected: a protected plane that is not Empty declares it (R468). -/
def State.protBm (s : State) (m : Nat) : Bool :=
  (List.range 4).any fun p => s.planeUses (m / 96) p (m % 96) && s.protPlane (m / 96) p

/-- The window is open for a unit, and its target is idle (R327, Table 15-5). -/
def State.splitOpen (s : State) (kind unit : Nat) : Bool :=
  match splitFunc kind unit with
  | none => false
  | some f =>
    s.unlocked f && s.flag R.SEC_PROT.DIAG_OK &&
      match kind with
      | 0 => s.get (R.BANK_OWN.OWNER (unit / 16384)) == ownAgent
      | 1 => !s.bmInUse (unit / 1024) && (s.flag R.SEC_PROT.DBG_READ || !s.protBm (unit / 1024))
      | _ =>
        let g := unit / 2 ^ 30
        !s.flag (R.SEG_CFG.CACHED g) && !s.flag (R.SEG_CFG.SPILL g)

/-- The unit's target is under self-test (R329). -/
def State.splitTested (s : State) (kind unit : Nat) : Bool :=
  match kind with
  | 0 => s.bankTested (unit / 16384 % 256)
  | 1 => s.test.busy.contains (unit / 1024 / 96)
  | _ => s.test.busy.contains (0x9C + if unit < 0x600000000 then 0 else 1)

/-- Bytes of a unit in `SPLIT_BUF` (R328). -/
def splitSize (kind : Nat) : Nat := match kind with | 0 => 256 | 1 => 8 | _ => 2112

/-- The stored bits of a unit (R328). The bits of a unit that is not written are not defined. (DEDUCED, assumption 95)
-/
def State.rawUnit (s : State) (kind unit : Nat) : List Nat :=
  let free := leBytes (splitSize kind) (Config.freeValue s.free)
  match kind with
  | 0 =>
    if has s.cache.rows unit then
      (List.range 128).flatMap fun k => leBytes 2 (s.rawLane (unit / 16384) (unit % 16384) k)
    else free
  | 1 =>
    if has s.bm.rows unit then
      (List.range 4).flatMap fun k =>
        leBytes 2 (storedLane s.bm.rows s.bm.inj 4 (s.get (R.BM_STAT.CODE (unit / 1024))) unit k 0)
    else free
  | _ => match pageOf unit with
    | some k => if has s.bulk.pages k then leBytes 2112 (s.rawPage k) else free
    | none => free

/-- The unit is stored as its raw bytes, with its valid bit set (R328). (DEDUCED, assumption 95) -/
def writeRawUnit (kind unit : Nat) (bytes : List Nat) (s : State) : State :=
  match kind with
  | 0 => writeRawRow (unit / 16384) (unit % 16384) (fun k => numAt bytes (2 * k) 2) s
  | 1 =>
    let m := unit / 1024
    let code := s.get (R.BM_STAT.CODE m)
    let lane := fun k => numAt bytes (2 * k) 2 % 8192
    let keep := fun k => encodeLane code (lane k % 2 ^ laneBits code) 0 == lane k
    let was := has s.bm.rows unit
    let old := at' s.bm.rows unit 0
    s.modBm fun b => { b with
      rows := put b.rows unit (packLanes (laneBits code) 4 fun k =>
        if keep k || !was then lane k else laneOf (laneBits code) old k)
      inj := (List.range 4).foldl (fun i k => if keep k then del i (4 * unit + k) else put i (4 * unit + k) (lane k)) b.inj }
  | _ => match pageOf unit with
    | some k => writeRawPage k (ofLeBytes (bytesAt bytes 0 2112)) s
    | none => s

/-- Bytes of `SPLIT_BUF`. -/
def State.splitBuf (s : State) (n : Nat) : List Nat :=
  (List.range n).map fun i => bitsOf (s.get (R.SPLIT_BUF.DATA (i / 4))) (8 * (i % 4)) 8

/-- `SPLIT_BUF` takes bytes from its byte 0 on. -/
def setSplitBuf (l : List Nat) (s : State) : State :=
  forEach (List.range ((l.length + 3) / 4)) (fun w s =>
    let old := leBytes 4 (s.get (R.SPLIT_BUF.DATA w))
    s.set (R.SPLIT_BUF.DATA w) (ofLeBytes ((List.range 4).map fun i => l.getD (4 * w + i) (old.getD i 0)))) s

/-- A raw access of one unit through `SPLIT_BUF` (R328). (DEDUCED, assumption 94) -/
def splitAccess (kind unit op : Nat) (s : State) : State :=
  if op = 1 then writeRawUnit kind unit (s.splitBuf (splitSize kind)) s
  else setSplitBuf (s.rawUnit kind unit) s.useFree

/-- `SPLIT_CTL.GO`: the access of the unit in `SPLIT_ADDR`, or `DENIED` (R327). (DEDUCED, assumption 94) -/
def splitRun (s : State) : State :=
  let kind := s.get R.SPLIT_CTL.KIND
  let unit := s.get R.SPLIT_ADDR.UNIT
  if s.splitOpen kind unit && !s.splitTested kind unit then splitAccess kind unit (s.get R.SPLIT_CTL.OP) s
  else s.set R.SPLIT_CTL.DENIED 1

/-- SPLIT_CTL_GO (R327). -/
def execSplitCtlGo (s : State) : Out := if s.up then .next (splitRun s) else .next s

/-! ## Commands of Table 10-11 -/

/-- `SEG_CFG[g]`: a fenced segment shows `ACC` = 10b (Table 19-7). (DESIGN CHOICE, assumption 91) -/
def State.segCfg (s : State) (g : Nat) : Nat :=
  let v := s.cardWord (0x500000 + 4 * g)
  if s.test.fenced.contains (5, g) then v + 16 - 8 * s.get (R.SEG_CFG.ACC g) else v

/-- `BULK_STAT[k]` (Table 10-8): serving, in self-refresh, the stack's temperature and what the refresh makes of it. -/
def State.bulkStat (s : State) (k : Nat) : Nat :=
  let t := toSigned 16 (s.get (R.HKP_RES.VALUE (120 + k)))
  let on := decide (mLoad ≤ s.mode) && !s.held (0x9C + k) && !s.test.busy.contains (0x9C + k)
  (if on && !s.flag (R.BULK_STAT.SELFREF k) then 1 else 0) + 2 * s.get (R.BULK_STAT.SELFREF k)
    + (if Config.hotRefresh t then 4 else 0) + 256 * ofSigned 8 (t / 16)

/-- Stack of segment `g` is under self-test. -/
def State.segTested (s : State) (g : Nat) : Bool := s.test.busy.contains (0x9C + g / 24)

/-- BULK_GET. -/
def execBulkGet (mb first count : Nat) (s : State) : Out :=
  .next (talnum mb 0x0310 [(1, first), (1, count)]
    (checks [(decide (count = 0) || decide (16 < count) || decide (48 < first + count), stBadArg),
        ((List.range count).any fun k => s.segTested (first + k), stBusyTest)]
      fun s => .ret (((List.range count).map fun k => (4, s.segCfg (first + k)))
        ++ [(4, s.bulkStat 0), (4, s.bulkStat 1)]) s) s)

/-- BULK_CODE (R315). -/
def execBulkCode (mb seg t acc : Nat) (s : State) : Out :=
  .next (talnum mb 0x0311 [(1, seg), (1, t), (1, acc)]
    (checks [(decide (48 ≤ seg) || decide (5 ≤ t) || decide (3 ≤ acc), stBadArg), (s.segTested seg, stBusyTest),
        (s.get (R.SEG_CFG.T seg) != t && (s.flag (R.SEG_CFG.CACHED seg) || s.flag (R.SEG_CFG.SPILL seg)), stDenied)]
      fun s =>
        let change := s.get (R.SEG_CFG.T seg) != t
        .ok (applyIf change (startSegClear seg) ((s.set (R.SEG_CFG.T seg) t).set (R.SEG_CFG.ACC seg) acc))) s)

/-- BULK_CLEAR (R313). -/
def execBulkClear (mb seg : Nat) (s : State) : Out :=
  .next (talnum mb 0x0312 [(1, seg)]
    (checks [(decide (48 ≤ seg), stBadArg), (s.segTested seg, stBusyTest),
        (s.flag (R.SEG_CFG.CACHED seg) || s.flag (R.SEG_CFG.SPILL seg), stDenied)]
      fun s => .ok (startSegClear seg s)) s)

/-- Fields of `SCRUB_START` by target. (DEDUCED, assumption 93) -/
def scrubArgs (target first last rowFirst rowLast : Nat) : List (Nat × Nat) :=
  match target with
  | 0 => [(1, target), (1, first), (1, last), (2, rowFirst), (2, rowLast)]
  | 1 => [(1, target), (2, first), (2, last), (2, rowFirst), (2, rowLast)]
  | _ => [(1, target), (5, first), (4, last)]

/-- SCRUB_START: target 0 cache banks and rows, 1 BM device indices and rows, 2 Bulk Store first page address and page
count (R323, R330). (DEDUCED, assumption 93; DESIGN CHOICE, assumption 177) -/
def execScrubStart (mb target first last rowFirst rowLast : Nat) (s : State) : Out :=
  .next (talnum mb 0x0313 (scrubArgs target first last rowFirst rowLast) (fun s =>
    let handle := (List.range 8).find? fun h => (s.scrubPass h).isNone
    let queue := fun (t a b ra rb : Nat) (s : State) =>
      match handle with
      | none => Ans.fail stNoResource s
      | some h => .ret [(2, h)] (s.modBulk fun k => { k with passes := k.passes ++ [s.newScrub h t a b ra rb] })
    match target with
    | 0 => checks [(decide (last < first) || bankDie first != bankDie last || decide (rowLast < rowFirst)
            || decide (16384 ≤ rowLast), stBadArg),
          ((List.range (last + 1 - first)).any fun i => s.bankTested (first + i), stBusyTest)]
        (queue (bankDie first) first last rowFirst rowLast) s
    | 1 => checks [(decide (last < first) || decide (12288 ≤ last) || decide (rowLast < rowFirst) || decide (1024 ≤ rowLast),
            stBadArg),
          (s.test.busy.any fun r => decide (r < 128) && decide (first / 96 ≤ r) && decide (r ≤ last / 96), stBusyTest)]
        (queue 4 first last rowFirst rowLast) s
    | 2 =>
      match pageOf first, pageOf (first + 2048 * (last - 1)) with
      | some a, some b => checks [(first % 2048 != 0 || last == 0 || a / stackPages != b / stackPages, stBadArg),
            (s.test.busy.contains (0x9C + a / stackPages), stBusyTest)]
          (queue (5 + a / stackPages) a b 0 0) s
      | _, _ => .fail stBadArg s
    | _ => .fail stBadArg s) s)

/-- SCRUB_STATUS: the summary; a pass that has ended gives its handle back, and `clear` zeroes a background summary
(R324, R330). (DEDUCED, assumption 93) -/
def execScrubStatus (mb handle clear : Nat) (s : State) : Out :=
  .next (talnum mb 0x0314 [(2, handle), (1, clear)] (fun s =>
    if 2 ≤ clear then .fail stBadArg s
    else if 0x100 ≤ handle ∧ handle ≤ 0x106 then
      let t := handle - 0x100
      let x := s.bgScrub t
      let r := targetRange t
      let z := { s.newScrub handle t r.1 r.2 0 x.rowLast with unit := x.unit, rate := x.rate, part := x.part }
      .done stOk (scrubSummary x) (if clear = 1 then s.modBulk fun b => { b with bg := put b.bg t z } else s)
    else match s.scrubPass handle with
      | none => .fail stBadArg s
      | some x => .done stOk (scrubSummary x)
          (if 2 ≤ x.st then s.modBulk fun b => { b with passes := b.passes.filter fun y => y.handle != handle } else s)) s)

/-- SCRUB_ABORT (R323). -/
def execScrubAbort (mb handle : Nat) (s : State) : Out :=
  .next (talnum mb 0x0315 [(2, handle)] (fun s =>
    match s.scrubPass handle with
    | none => .fail stBadArg s
    | some x =>
      if 2 ≤ x.st then .done stOk (scrubSummary x) s
      else
        let s := endPass x 3 s
        .done stOk (scrubSummary ((s.scrubPass handle).getD x)) s) s)

/-- SCRUB_BG (R324). -/
def execScrubBg (mb target rate : Nat) (s : State) : Out :=
  .next (talnum mb 0x0316 [(1, target), (4, rate)]
    (checks [(decide (7 ≤ target), stBadArg), (decide (5 ≤ target) && s.test.busy.contains (0x97 + target), stBusyTest)]
      fun s =>
        let x := s.bgScrub target
        let x := { x with rate := rate, st := if rate = 0 then x.st else 1 }
        .ok (s.modBulk fun b => { b with bg := put b.bg target x })) s)

/-- SPLIT_GO: the command's bytes go to `SPLIT_BUF` from byte 0 on before a write; a read returns the unit (R327, R328).
(DEDUCED, assumption 94) -/
def execSplitGo (mb kind unit op : Nat) (bytes : List Nat) (s : State) : Out :=
  .next (talnumBytes mb 0x0317 [(1, kind), (5, unit), (1, op)] bytes
    (checks [(decide (2 ≤ op) || (splitFunc kind unit).isNone || decide (splitSize kind < bytes.length)
          || (op == 0 && bytes != []), stBadArg), (s.splitTested kind unit, stBusyTest),
        (!s.splitOpen kind unit, stDenied)]
      fun s =>
        let s := splitAccess kind unit op (setSplitBuf bytes s)
        if op = 0 then .done stOk (s.splitBuf (splitSize kind)) s else .ok s) s)

/-- A reset of Bulk Store controller `k` (R318). -/
def resetBulk (k : Nat) (s : State) : State :=
  let mine := s.bulk.seqs.filter fun e => e.1 / stackPages == k
  let s := s.modBulk fun b => { b with seqs := b.seqs.filter fun e => e.1 / stackPages != k }
  let s := forEach mine (fun e s => forEach e.2.pkts (fun p s => answerPkt p 8 k [] false s) s) s
  cutPasses (fun t => t == 5 + k) (s.set (R.BULK_STAT.SELFREF k) 1)

/-- A scrub pass or background scrub has a request at bank `b` (R322–R324). -/
def State.scrubAsks (s : State) (b : Nat) : Bool :=
  s.scrubRuns && (match s.bulk.passes.find? fun x => x.target == bankDie b && decide (x.st < 2) with
    | some x => x.unit / 16384 == b
    | none => (s.bgScrub (bankDie b)).rate != 0 && (s.bgScrub (bankDie b)).unit / 16384 == b)

/-- BANK_WAKE: a held request returns a bank in Retention to On (R287, R288); in Quiescent the bank waits for the wake of the
device (R289). -/
def execBankWake (b : Fin 256) (s : State) : Out :=
  if s.get (R.BANK_CFG.PWR b) = 1 ∧ s.clocked (5 + bankDie b) ∧ s.mode ≠ mQuiescent
      ∧ (s.portCands b ≠ [] ∨ s.nocCands b ≠ [] ∨ s.scrubAsks b ∨ (s.flag (R.SPILL_STAT.EN b) ∧ (s.bank b).uncopied ≠ 0)) then
    .next (s.set (R.BANK_CFG.PWR b) 0)
  else .next s

end Sys2Proof.Machine
end

