-- ==== Sys2Proof/Machine/Cell.lean ====
section
/-! DEFINITION. The cell: table, carry stages, outputs, and its two flip-flops with their control sets ("Cells, Clusters
and Fabric Clocking"). -/

namespace Sys2Proof.Machine

/-! ## Tables, carry stages and outputs -/

/-- The outputs of a cell and its carries out (R133–R135). -/
structure CellOut where
  ox : Bool
  oy : Bool
  co0 : Bool
  co1 : Bool
deriving DecidableEq, Repr

/-- The table in six-input mode (Table 5-3). -/
def tableO6 (t : BitVec 64) (a : BitVec 6) : Bool := t.getLsbD a.toNat

/-- Half `X` of the table in fractured mode (Table 5-3). -/
def tableX (t : BitVec 64) (a : BitVec 6) : Bool := t.getLsbD (a.toNat % 32)

/-- Half `Y` of the table in fractured mode: `A6` is its fifth input (Table 5-3). -/
def tableY (t : BitVec 64) (a : BitVec 6) : Bool := t.getLsbD (32 + a.toNat / 32 * 16 + a.toNat % 16)

/-- A carry stage: carry out is the carry in where `P` is 1 and `G` where it is 0 (R135). -/
def carryOut (p g c : Bool) : Bool := if p then c else g

/-- A cell with its inputs and the carries of the cell before it (R133–R136). An output whose chosen source the table mode or
the carry mode does not make is 0; so is every output of a cell that the plane leaves unused (R137). (DEDUCED, assumption
53) -/
def cellOut (c : CellCfg) (i : CellIn) (ci0 ci1 : Bool) : CellOut :=
  let frac := c.used && c.fractured
  let o6 := c.used && !c.fractured && tableO6 c.table i.a
  let x := frac && tableX c.table i.a
  let y := frac && tableY c.table i.a
  let on := frac && c.carry != 0
  let cx := match c.cin with | 0 => ci0 | 1 => false | 2 => true | _ => i.db
  let coX := on && carryOut x (i.a.getLsbD 0) cx
  let cy := if c.carry = 1 then ci1 else coX
  let coY := on && carryOut y (i.a.getLsbD 1) cy
  { ox := match c.ox with | 0 => o6 | 1 => x | 2 => on && (x != cx) | _ => if c.carry = 1 then coX else coY
    oy := match c.oy with | 0 => y | 1 => on && (y != cy) | _ => coX
    co0 := if c.carry = 1 then coX else coY
    co1 := c.carry == 1 && coY }

/-- Number of cell `k` of a chain: 16 cells in each of the 56 clusters of column `col` of a tier, north to south (R132,
R136). -/
def chainCell (tier col k : Nat) : Nat := 50176 * tier + 16 * (56 * (k / 16) + col) + k % 16

/-- Cell `k` of a chain; the first cell of a region has no cell before it (R136). `inp` gives the inputs by cell number. -/
def chainOut (fr : SMap Nat) (inp : Nat → CellIn) (tier col : Nat) : Nat → CellOut
  | 0 => cellOut (Config.cell fr (chainCell tier col 0)) (inp (chainCell tier col 0)) false false
  | k + 1 =>
    let p := chainOut fr inp tier col k
    cellOut (Config.cell fr (chainCell tier col (k + 1))) (inp (chainCell tier col (k + 1))) p.co0 p.co1

/-- Inputs of cell `n` as listed; a cell that is not listed has every input 0. (DESIGN CHOICE, assumption 215) -/
def cellIn (i : FabIn) (n : Nat) : CellIn :=
  let none' : CellIn := ⟨0, 0, false, false⟩
  match i.clu.find? fun u => u.cluster.val == n / 16 with
  | some u => (u.cells.find? fun x => x.cell.val == n % 16).getD none'
  | none => none'

/-- Outputs of cell `n` (tier × 50,176 + cluster × 16 + cell) of a region with inputs `i` (R133–R137). -/
def cellOf (fr : SMap Nat) (i : FabIn) (n : Nat) : CellOut :=
  let cluster := n / 16 % 3136
  chainOut fr (cellIn i) (n / 50176) (cluster % 56) (cluster / 56 * 16 + n % 16)

/-- Data input of flip-flop `k` (0 FFA, 1 FFB) of cell `n` (Table 5-4). -/
def ffData (fr : SMap Nat) (i : FabIn) (n k : Nat) : Bool :=
  let c := Config.cell fr n
  let x := cellIn i n
  if k = 0 then if c.daA then x.da else (cellOf fr i n).ox
  else if c.dbB && c.cin != 3 then x.db else (cellOf fr i n).oy

/-! ## Flip-flops -/

/-- An edge as the flip-flops of a region see it: net 0–15, or 16 for a local clock wire, its polarity, and a pulse too
narrow to clock every flip-flop (R162). -/
structure EdgeOf where
  clk : Nat
  falling : Bool
  narrow : Bool
deriving DecidableEq, Repr

/-- What Table 5-7 leaves to one flip-flop: the value to take, if any. `sr` and `ce` are the inputs of its control set. -/
def ffNext (k : CtlCfg) (srv sr ce clocked d : Bool) : Option Bool :=
  if !k.srZero && sr && (k.async || clocked) then some srv
  else if clocked && (k.ceOne || ce) then some d
  else none

/-- Flip-flop `b` (0 FFA, 1 FFB) of a listed cell takes its next value by rows 2 to 5 of Table 5-7 (R139). An asynchronous
set/reset that falls near the edge leaves it in `SRVAL` or releases it, and a narrow pulse clocks it or does not (R140,
R162): free values. Row 1 is the caller's. (DESIGN CHOICE, assumption 54) -/
def ffTake (r : Nat) (e : Option EdgeOf) (i : FabIn) (u : CluIn) (x : CellIn) (b : Nat) (s : State) : State :=
  let fr := s.frames r
  let n := 16 * u.cluster.val + x.cell.val
  let c := Config.cell fr n
  let set := if b = 0 then c.csA else c.csB
  let k := Config.ctl fr (4 * u.cluster.val + set.val)
  let srv := if b = 0 then c.srvA else c.srvB
  let here := match e with | some e => k.clk.val == e.clk && k.falling == e.falling | none => false
  let narrow := match e with | some e => here && e.narrow | none => false
  let hazard := here && !narrow && k.async && !k.srZero && u.hazard.getLsbD set && !u.sr.getLsbD set
  let free := s.freeBit
  let s := applyIf (narrow || hazard) State.useFree s
  if !c.used then s
  else match (if hazard && free then some srv
      else ffNext k srv (u.sr.getLsbD set) (u.ce.getLsbD set) (here && !(narrow && free)) (ffData fr i n b)) with
    | some v => setFf r (2 * n + b) v s
    | none => s

/-- The flip-flops of the listed cells of region `r` at an edge, or between edges (R139). -/
def takeFfs (r : Nat) (e : Option EdgeOf) (i : FabIn) (s : State) : State :=
  forEach i.clu (fun u s => forEach u.cells (fun x s => ffTake r e i u x 1 (ffTake r e i u x 0 s)) s) s

/-! ## Pillars -/

/-- Pillar address (Table 6-3). -/
def pillarAddr (r cluster pillar : Nat) : Nat := 2 ^ 21 * r + 2 ^ 9 * cluster + pillar

/-- Enable of a tier's driver (0 LL, 1 LU) of the pillar at address `a`: fixed by direction, a configured constant, or a
routing signal (Table 6-2, R173). -/
def State.pillarEn (s : State) (a tier : Nat) : Bool :=
  if a % 32 < 12 then tier == 0
  else if a % 32 < 24 then tier == 1
  else match Config.pillarEn (s.frames (a / 2 ^ 21 % 128)) a tier with
    | 0 => false
    | 1 => true
    | _ => (at' s.fab.pil a 0).testBit tier

/-- What the pillar at address `a` reads on both tiers: 0 with no driver enabled or with both held off by the arbiter; not
defined while two drivers overlap with different values (R173–R175). -/
def State.pillar (s : State) (a : Nat) : Bool :=
  let v := at' s.fab.pil a 0
  if s.fab.pillarOff.contains a then false
  else match s.pillarEn a 0, s.pillarEn a 1 with
    | false, false => false
    | true, false => v.testBit 2
    | false, true => v.testBit 3
    | true, true => s.freeBit

/-- The drivers of pillars of region `r` are given the enables and values listed (R173). -/
def recordPillars (r : Nat) (l : List PilIn) (s : State) : State :=
  s.modFab fun f => { f with pil := l.foldl (fun m e =>
    putD m (pillarAddr r e.cluster e.pillar) 0 (e.en.toNat + 4 * e.val.toNat)) f.pil }

/-- The outputs and pillars of region `r` follow an edge, or change between edges. -/
def recordFab (r : Nat) (i : FabIn) (s : State) : State := recordPillars r i.pil (recordOuts r i.outs s)

end Sys2Proof.Machine
end

