-- ==== Sys2Proof/Machine/Fab.lean ====
section
/-! DEFINITION. Flip-flops, region clock nets, seams and pillars ("Cells, Clusters and Fabric Clocking", "Routing in
Three Dimensions and Region Borders"). -/

namespace Sys2Proof.Machine

/-! ## Clock edges -/

/-- The shed gate of net `n` counts one edge from its enable gate and says whether it passes (R155). -/
def shedStep (n : Nat) (s : State) : Bool × State :=
  (s.shedPasses n, s.modFab fun f => { f with phase := putD f.phase n 0 ((at' f.phase n 0 + 1) % 16) })

/-- The stop gate of net `n` sees one source edge (R159). While it closes on the context clock, changes of plane state that
wait take effect. (DEDUCED, assumptions 55, 214) -/
def gateStep (n : Nat) (s : State) : State :=
  let g := s.nextGate n
  let shut := (s.gate n).isOpen && !g.isOpen
  let s := s.modFab fun f => { f with gate := putD f.gate n ⟨false, 0⟩ g }
  let s := applyIf shut (fun s => s.set (R.RCN_CFG.RUNNING n) 0) s
  applyIf (shut && n == s.ctxNet (n / 16)) (placeDue (n / 16)) s

/-- A rising edge of the context clock as it leaves the shed gate: c1 of a swap ends its cycle, plane states that wait
change, the one-cycle outputs of the context port fall, and border cause 011b may begin (R229, R583, Tables 6-7, 8-4). -/
def ctxEdge (r : Nat) (s : State) : State :=
  let c := s.ctxR r
  let s := applyIf c.inSwap (endSwap r) s
  let s := s.modCtx r fun x => { x with nack := false, capDone := false, edge := true,
                                        c1 := if c.inSwap ∨ c.c1 = 1 then 2 else 0 }
  let s := placeDue r s
  if (s.ctxR r).rstCause = 1 ∧ s.held r then refreshBorder r (s.modCtx r fun c => { c with rstCause := 2 }) else s

/-- The region has left its reset at c2 of its context-clock net: border cause 011b ends (R144, Table 6-7). -/
def endResetCause (r : Nat) (s : State) : State :=
  if (s.ctxR r).rstCause ≠ 0 ∧ !s.held r then refreshBorder r (s.modCtx r fun c => { c with rstCause := 0 }) else s

/-- Region `r` takes no edge: it is in set/reset or in a swap cycle, or a fence holds it (R139, R181, Table 8-3). -/
def State.frozen (s : State) (r : Nat) : Bool := s.srHeld r || (s.ctxR r).inSwap || s.flag (R.BORDER_STAT.FENCED r)

/-- An edge of net `n` reaches its region: its flip-flops take it, and its hard blocks may (R139, R196, R215). -/
def actEdge (n : Nat) (falling : Bool) (i : FabIn) (s : State) : State :=
  let s := s.modFab fun f => { f with acts := (2 * n + if falling then 1 else 0) :: f.acts }
  recordFab (n / 16) i (takeFfs (n / 16) (some ⟨n % 16, falling, false⟩) i s)

/-- One of the edges that net `n` still suppresses after c1 goes by (Table 8-3). -/
def skipEdge (k : Nat) (s : State) : State :=
  s.modFab fun f => { f with skip := putD f.skip k 0 (at' f.skip k 0 - 1) }

/-- A rising edge that net `n` passes reaches its flip-flops: held at `INIT`, released by Table 5-8, suppressed around a
swap, or taken (R139, R144, Table 8-3). (DEDUCED, assumption 55) -/
def performEdge (n : Nat) (i : FabIn) (s : State) : State :=
  let r := n / 16
  if s.srHeld r then s
  else
    let k := at' s.fab.rel n 0
    let s := s.modFab fun f => { f with rel := putD f.rel n 0 (k - 1) }
    if 2 ≤ k then s
    else
      let s := applyIf (k == 1 && n == s.ctxNet r) (endResetCause r) s
      if s.frozen r then s
      else if at' s.fab.skip (2 * n) 0 ≠ 0 then skipEdge (2 * n) s
      else actEdge n false i s

/-- Net `n` is low, and its last edge is over. -/
def lowNet (n : Nat) (s : State) : State :=
  s.modFab fun f => { f with high := f.high.filter fun k => k != n, acts := f.acts.filter fun k => k / 2 != n }

/-- A rising edge of net `n` at its source, through source selection, enable gate, shed gate and stop gate; the stop gate
counts every source edge (R150, R159). -/
def risingEdge (n : Nat) (i : FabIn) (s : State) : State :=
  let s := lowNet n s
  let r := n / 16
  let s := applyIf (n == s.ctxNet r) (fun s => s.modCtx r fun c => { c with edge := false }) s
  if !s.sourceRuns n then s
  else
    let s := gateStep n s
    if s.enableLow n then s
    else
      let (pass, s) := shedStep n s
      if pass && (s.gate n).isOpen then
        let s := (s.set (R.RCN_CFG.RUNNING n) 1).modFab fun f => { f with high := n :: f.high }
        performEdge n i (applyIf (n == s.ctxNet r) (ctxEdge r) s)
      else s

/-- A falling edge of net `n` follows a rising edge that the net passed (R138, R139, Table 8-3). -/
def fallingEdge (n : Nat) (i : FabIn) (s : State) : State :=
  if !s.fab.high.contains n then s
  else
    let r := n / 16
    let s := lowNet n s
    if s.frozen r || at' s.fab.rel n 0 != 0 then s
    else if at' s.fab.skip (2 * n + 1) 0 ≠ 0 then skipEdge (2 * n + 1) s
    else actEdge n true i s

/-- The border cell at address `a`, which a local clock wire crosses, passes its clock: no cause of the driving region stops
it, or its policy is pass (R161). -/
def State.wirePasses (s : State) (a : Nat) : Bool :=
  match s.borderCause (borderRegion a) with
  | 0 => true
  | 1 => false
  | c => s.borderPolicy c a == 0

/-- An edge of the local clock wire of a cluster of region `r`: low while RCN0's stop gate is closed, in a swap cycle, and
while the border of the driving region stops it (R160–R162, R233). -/
def wireEdge (r cluster : Nat) (falling narrow : Bool) (via : Option Nat) (i : FabIn) (s : State) : State :=
  if !(s.gate (16 * r)).isOpen || s.frozen r || !(via.all s.wirePasses) then s
  else
    let i := { i with clu := i.clu.filter fun u => u.cluster.val == cluster }
    recordFab r i (takeFfs r (some ⟨16, falling, narrow⟩) i s)

/-- Asynchronous set/resets, outputs and pillars of region `r` change between edges (R139, R173). -/
def betweenEdges (r : Nat) (i : FabIn) (s : State) : State :=
  recordFab r i (if s.frozen r then s else takeFfs r none i s)

/-! ## Seams -/

/-- The regions of seam port `p`: first the northern or western one (Table 6-11). -/
def seamRegions (p : Nat) : Nat × Nat := if p < 8 then (16 * p + 7, 16 * p + 8) else (48 + (p - 8), 64 + (p - 8))

/-- Signals of port `p` in each direction. -/
def seamWidth (p : Nat) : Nat := if p < 8 then 4096 else 2048

/-- Driving region of signal `k` of port `p`: the first region for `k` below the width, else the second. (DEDUCED,
assumption 59) -/
def seamDriver (p k : Nat) : Nat := if k < seamWidth p then (seamRegions p).1 else (seamRegions p).2

/-- Border address of signal `k` of port `p` (Table 6-9). -/
def seamAddr (p k : Nat) : Nat :=
  let first := decide (k < seamWidth p)
  let side := if p < 8 then (if first then 1 else 3) else (if first then 2 else 0)
  2 ^ 21 * seamDriver p k + 2 ^ 19 * side + k % seamWidth p

/-- Register `st` (0 launch, 3 capture) of signal `k` of port `p`. (DEDUCED, assumption 59) -/
def seamKey (p k st : Nat) : Nat := (p * 8192 + k) * 4 + st

/-- Signal of port `p` that border address `a` names, if it is one of the port's seam stages. -/
def seamSignal (p a : Nat) : Option Nat :=
  [a % 8192, seamWidth p + a % 8192].find? fun k => decide (k < 2 * seamWidth p) && seamAddr p k == a

/-- Signals of port `p` whose launch stage takes a 1: what the border stage of the driving region presents (R191). -/
def State.launches (s : State) (p : Nat) : List Nat :=
  ((s.ones [(seamRegions p).1, (seamRegions p).2]).filterMap (seamSignal p)).dedup

/-- Every signal of port `p` moves one stage: launch, two bridge registers, capture; a fenced one presents 0 at its capture
stage (R187, R189, R193). (DEDUCED, assumption 59) -/
def seamShift (p : Nat) (s : State) : State :=
  let mine := s.fab.seam.filter fun e => e.1 / 32768 == p
  let rest := dropKeys s.fab.seam fun k => k / 32768 == p
  let moved := mine.foldl (fun m e =>
    if e.1 % 4 = 3 ∨ (e.1 % 4 = 2 ∧ s.fab.seamFenced.contains (seamAddr p (e.1 / 4 % 8192))) then m
    else put m (e.1 + 1) e.2) rest
  s.modFab fun f => { f with seam := (s.launches p).foldl (fun m k => put m (seamKey p k 0) 1) moved }

/-- What the capture stage of signal `k` of port `p` presents: 0 on a port that is off, for a fenced signal and for one that
the active plane of the driving region leaves unused (R187, R188, R193). -/
def State.capture (s : State) (p k : Nat) : Nat :=
  if s.get (R.SEAM_CFG.SEAM_CLK p) = 7 ∨ s.fab.seamFenced.contains (seamAddr p k)
      ∨ !Config.planeDrives (s.frames (seamDriver p k)) (seamAddr p k) then 0
  else at' s.fab.seam (seamKey p k 3) 0

/-- The tree of seam port `p` makes edges (R67, R188, R192). -/
def State.seamRuns (s : State) (p : Nat) : Bool :=
  let t := s.get (R.SEAM_CFG.SEAM_CLK p)
  s.up && decide (t < 4) && s.clocked (21 + t) && !s.fab.seamLost.contains p

/-- An edge of the tree of seam port `p`, with outputs that change before it (R189). -/
def seamEdge (p : Nat) (launch : List (Nat × Bool)) (s : State) : State :=
  if !s.seamRuns p then s
  else
    let outs := fun r => (launch.filter fun e => decide (e.1 < 2 * seamWidth p) && seamDriver p e.1 == r).map fun e =>
      (seamAddr p e.1, e.2)
    let s := forEach [(seamRegions p).1, (seamRegions p).2] (fun r => recordOuts r (outs r)) s
    seamShift p (s.set (R.SEAM_CFG.RUNNING p) 1)

/-- FLIP_FLOP_EDGE: an active edge of a region clock net, of a local clock wire, or of the tree of a seam port; or changes
between edges (R139, R161, R162, R189). (DEDUCED, assumption 55; DESIGN CHOICE, assumption 215) -/
def execFlipFlopEdge (e : FfEdge) (s : State) : Out :=
  match e with
  | .net n falling i => if !s.up then .next s else .next (if falling then fallingEdge n i s else risingEdge n i s)
  | .wire r cluster falling narrow via i => if !s.up then .next s else .next (wireEdge r cluster falling narrow via i s)
  | .seam p launch => .next (seamEdge p launch s)
  | .between r i => if !s.up then .next s else .next (betweenEdges r i s)

/-! ## Nets -/

/-- CLOCK_SWITCH_COMPLETE: a change of select, or the switch that a swap began, completes on its new source; a dead old
source sets `SW_DEAD` (R151, R235). -/
def execClockSwitchComplete (n : Fin 2048) (sel dead : Bool) (s : State) : Out :=
  let sel := sel && s.flag (R.RCN_CFG.SW_EN n)
  if !s.fab.switching.contains n.val && s.flag (R.RCN_CFG.ACT_SRC n) == sel then .next s
  else
    let s := (s.modFab fun f => { f with switching := f.switching.filter fun k => k != n.val
                                         lost := f.lost.filter fun k => k != n.val }).setB (R.RCN_CFG.ACT_SRC n) sel
    .next (applyIf dead (fun s => s.set (R.RCN_CFG.SW_DEAD n) 1) s)

/-- CLOCK_ENABLE_CHANGE: a net with `CE_EN` samples its enable at a falling edge of its source (R152). -/
def execClockEnableChange (n : Fin 2048) (en : Bool) (s : State) : Out :=
  if !s.flag (R.RCN_CFG.CE_EN n) then .next s
  else .next (s.modFab fun f =>
    let l := f.ceLow.filter fun k => k != n.val
    { f with ceLow := if en then l else n.val :: l })

/-- The source of net `n` is lost: the net stays low, `SRC_LOST` is set and `FAB_CLK` carries its region and net (R153). -/
def loseSource (n : Nat) (s : State) : State :=
  if s.fab.lost.contains n || !sourceIn (n / 16) (s.netSrc n) then s
  else
    let s := (lowNet n s).modFab fun f => { f with lost := n :: f.lost }
    raise 0x0220 [(1, n / 16), (1, n % 16)] ((s.set (R.RCN_CFG.SRC_LOST n) 1).set (R.RCN_CFG.RUNNING n) 0)

/-- FAB_SOURCE_LOST (R153). -/
def execFabSourceLost (n : Fin 2048) (s : State) : Out := if s.up then .next (loseSource n s) else .next s

/-- FAB_SOURCE_RETURN: the net resumes on the first rising edge of its source (R153). -/
def execFabSourceReturn (n : Fin 2048) (s : State) : Out :=
  .next (s.modFab fun f => { f with lost := f.lost.filter fun k => k != n.val })

/-- The P that thermal enforcement asks of net `n` (R155, R157). (DEDUCED, assumption 184) -/
def State.wantedPass (s : State) (n : Nat) : Nat :=
  if s.flag (R.RCN_CFG.SHEDDABLE n) then s.get R.THERM_STAT.P else 16

/-- SHED_PASS_UPDATE: a new P takes effect at the wrap of the phase counter (R156). (DEDUCED, assumption 184) -/
def execShedPassUpdate (n : Fin 2048) (s : State) : Out :=
  if at' s.fab.phase n 0 = 0 then .next (s.set (R.RCN_CFG.SHED_PASS n) (s.wantedPass n)) else .next s

/-! ## Pillars and seams -/

/-- PILLAR_CONTENTION: with both enables 1 for longer than t_PFILT the arbiter disables both drivers, records the episode,
and releases them once both enables are 0 together (R174). (DESIGN CHOICE, assumption 58) -/
def execPillarContention (r : Fin 128) (cluster : Fin 3136) (k : Fin 8) (released : Bool) (s : State) : Out :=
  let a := pillarAddr r cluster (24 + k.val)
  if released then
    if s.pillarEn a 0 || s.pillarEn a 1 then .next s
    else
      let s := s.modFab fun f => { f with pillarOff := f.pillarOff.filter fun x => x != a }
      .next (s.setB R.PIL_STAT.PIL_ACTIVE (s.fab.pillarOff != []))
  else if !s.hasActive r || s.fab.pillarOff.contains a || !(s.pillarEn a 0 && s.pillarEn a 1) then .next s
  else
    let s := s.modFab fun f => { f with pillarOff := a :: f.pillarOff }
    let s := logEss 5 0 a 0xFFFF 0 0 s
    .next (raise 0x0221 [(4, a)]
      ((((s.set R.PIL_STAT.PIL_CONT 1).inc R.PIL_STAT.PIL_COUNT).set R.PIL_STAT.PIL_ACTIVE 1).set R.PIL_LAST.ADDR a))

/-- The tree of seam port `p` is lost: the four registers of the port keep their values, `CLK_LOST` is set and `FAB_CLK`
carries the port (R192). -/
def loseSeam (p : Nat) (s : State) : State :=
  if s.get (R.SEAM_CFG.SEAM_CLK p) = 7 ∨ s.fab.seamLost.contains p then s
  else
    let s := s.modFab fun f => { f with seamLost := p :: f.seamLost }
    raise 0x0220 [(1, p)] ((s.set (R.SEAM_CFG.CLK_LOST p) 1).set (R.SEAM_CFG.RUNNING p) 0)

/-- SEAM_CLOCK_LOST (R192). -/
def execSeamClockLost (p : Fin 24) (s : State) : Out := if s.up then .next (loseSeam p s) else .next s

/-- Tree `t` has lost lock without a host request: the nets and seam ports that run from it have lost their source (R153,
R192). (DEDUCED, assumption 216) -/
def loseTree (t : Nat) (s : State) : State :=
  let s := forEach (List.range 2048) (fun n s => if s.netSrc n = t then loseSource n s else s) s
  forEach (List.range 24) (fun p s => if s.get (R.SEAM_CFG.SEAM_CLK p) = t then loseSeam p s else s) s

/-- Tree `t` has locked: its nets and seam ports resume (R153, R192). -/
def treeReturns (t : Nat) (s : State) : State :=
  s.modFab fun f => { f with lost := f.lost.filter fun n => s.netSrc n != t
                             seamLost := f.seamLost.filter fun p => s.get (R.SEAM_CFG.SEAM_CLK p) != t }

end Sys2Proof.Machine
end

