-- ==== Sys2Proof/Machine/CalOps.lean ====
section
/-! DEFINITION. Calibration records: how a record is made, checked and written to its units ("Milliner, Mailboxes and the
Fast Control Bus", calibration export and import). -/

namespace Sys2Proof.Machine

/-- Units and bytes per unit of each kind of section (Table 17-22). (DEDUCED, assumption 179) -/
def calShape (kind : Nat) : Nat × Nat :=
  match kind with | 1 => (96, 64) | 2 => (1632, 512) | 3 => (1536, 4) | 4 => (16, 4) | 5 => (25, 8) | _ => (0, 0)

/-- Loop trim, gain and offset trims and bin tables are state that only a calibration record shows. -/
def State.calUnit (s : State) (kind u : Nat) : List Nat :=
  match kind with
  | 1 =>
    bytesAt ([s.get (R.LANE_EQ.PRE_PRESET u), s.get (R.LANE_EQ.POST_PRESET u), s.get (R.LANE_EQ.CTLE u),
      s.get (R.LANE_CFG.ADAPT u)] ++ ((List.range 12).map fun i => s.get (R.LANE_DFE.TAP u (i / 4) (i % 4)))
      ++ (s.lst u).slicer.map (ofSigned 8)) 0 64
  | 2 => (List.range 256).flatMap fun i => leBytes 2 ((s.binTable u).getD i 0)
  | 3 => leBytes 4 (s.get (R.PIN_CFG.IDELAY u) + 2 ^ 9 * s.get (R.PIN_CFG.PULL u) + 2 ^ 11 * s.get (R.PIN_CFG.SLEW u)
      + 2 ^ 13 * s.get (R.PIN_CFG.DRIVE u) + 2 ^ 15 * s.get (R.PIN_CFG.TERM u))
  | 4 => leBytes 4 (at' s.io.dacTrim u 0)
  | 5 =>
    let y := s.synth u
    [y.mode, y.n, y.d, 0] ++ leBytes 4 y.trim
  | _ => []

/-- A section that covers every unit of its kind (R520, R521). -/
def State.calSection (s : State) (kind : Nat) : List Nat :=
  let (n, k) := calShape kind
  [kind, 0] ++ leBytes 2 0 ++ leBytes 2 n ++ leBytes 2 k ++ (List.range n).flatMap (s.calUnit kind)

/-- Kinds that a scope mask names. -/
def scopeKinds (scope : Nat) : List Nat := (List.range 5).filterMap fun i => if scope.testBit i then some (i + 1) else none

/-- The record of an export (R520). -/
def State.calRecord (s : State) (scope : Nat) : List Nat :=
  let l := scopeKinds scope
  let b := leBytes 4 0x4C414331 ++ leBytes 2 1 ++ leBytes 2 0x4B39 ++ leBytes 16 s.aon.serial ++ leBytes 6 s.clk.tick
    ++ [scope, l.length] ++ l.flatMap s.calSection
  b ++ leBytes 4 (crc32 b) ++ leBytes 4 b.length

/-- A section of a record: kind, first unit, and the bytes of each unit. -/
structure CalSec where
  kind : Nat
  first : Nat
  units : List (List Nat)
deriving DecidableEq, Repr

/-- `n` sections from the front of a byte list that they fill; none where they do not fit Table 17-22. -/
def calSecs : Nat → List Nat → Option (List CalSec)
  | 0, l => if l = [] then some [] else none
  | n + 1, l =>
    let k := l.headD 0
    let first := numAt l 2 2
    let count := numAt l 4 2
    let (total, per) := calShape k
    if per = 0 ∨ numAt l 6 2 ≠ per ∨ total < first + count ∨ l.length < 8 + count * per then none
    else
      let sec : CalSec := ⟨k, first, (List.range count).map fun i => bytesAt l (8 + per * i) per⟩
      (calSecs n (l.drop (8 + count * per))).map fun r => sec :: r

/-- The sections of a record whose magic, version, type, CRC and byte count are good (R520, R521). -/
def calParse (b : List Nat) : Option (List CalSec) :=
  let n := b.length - 8
  if b.length < 40 ∨ numAt b 0 4 ≠ 0x4C414331 ∨ numAt b 4 2 ≠ 1 ∨ numAt b 6 2 ≠ 0x4B39 ∨ numAt b (n + 4) 4 ≠ n
      ∨ numAt b n 4 ≠ crc32 (b.take n) then none
  else calSecs (b.getD 31 0) ((b.take n).drop 32)

/-- Unit `u` of a kind is under self-test: a lane's quad, or the bank group of a core or pin. -/
def State.calTested (s : State) (kind u : Nat) : Bool :=
  match kind with
  | 1 => s.laneTested u
  | 2 => s.test.busy.contains (if u < 1536 then 0xA8 + u / 192 else 0xA8 + (u - 1536) / 12)
  | 3 => s.test.busy.contains (0xA8 + u / 192)
  | _ => false

/-- Values of a unit lie within their ranges (R344, R346, R63–R65). -/
def calRange (kind u : Nat) (b : List Nat) : Bool :=
  match kind with
  | 1 => eqRange (b.getD 0 0) (b.getD 1 0) (b.getD 2 0) (bytesAt b 4 12)
  | 5 => !settable u || settingRange u (b.getD 0 0) (b.getD 1 0) (b.getD 2 0)
  | _ => true

/-- Units of a list of sections, with kind, number and bytes. -/
def calUnits (l : List CalSec) : List (Nat × Nat × List Nat) :=
  l.flatMap fun c => (List.range c.units.length).map fun i => (c.kind, c.first + i, c.units.getD i [])

/-- Status of an import of sections, 0 where it is accepted (R521). -/
def State.calStatus (s : State) (l : List CalSec) : Nat :=
  let us := calUnits l
  if us.any fun e => s.calTested e.1 e.2.1 then stBusyTest
  else if (l.any fun c => c.kind == 5) && !(decide (s.mode = mBoot) || decide (s.mode = mLoad) || decide (s.mode = mSafe)
      || decide (s.mode = mQuiescent)) then stDenied
  else if us.any fun e => !calRange e.1 e.2.1 e.2.2 then stBadArg
  else stOk

/-- A core is under calibration. -/
def State.calibrating (s : State) (c : Nat) : Bool :=
  if c < 1536 then (s.ch c).cal == 2 || (s.ch c).cal == 3 else (s.group (c - 1536)).serving == some c

/-- One unit takes its imported values (R521). -/
def writeCalUnit (kind u : Nat) (b : List Nat) (s : State) : State :=
  match kind with
  | 1 =>
    let adapt := if b.getD 3 0 % 4 = 3 then s.get (R.LANE_CFG.ADAPT u) else b.getD 3 0
    let s := writeEq u (b.getD 0 0) (b.getD 1 0) (b.getD 2 0) (bytesAt b 4 12) adapt s
    s.modLane u fun x => { x with slicer := (bytesAt b 16 5).map (toSigned 8) }
  | 2 =>
    s.modIo fun i => { i with
      tables := put i.tables u ((List.range 256).map fun k => numAt b (2 * k) 2 % 4096)
      tableKept := if s.calibrating u && !i.tableKept.contains u then u :: i.tableKept else i.tableKept
      ch := i.ch.map fun e => if e.1 = u then (e.1, { e.2 with oldTable := none }) else e }
  | 3 =>
    let v := ofLeBytes b
    let s := (((s.set (R.PIN_CFG.PULL u) (v / 2 ^ 9)).set (R.PIN_CFG.SLEW u) (v / 2 ^ 11)).set (R.PIN_CFG.DRIVE u)
      (v / 2 ^ 13)).set (R.PIN_CFG.TERM u) (v / 2 ^ 15)
    writeIdelay u (v % 512) s
  | 4 => s.modIo fun i => { i with dacTrim := putD i.dacTrim u 0 (ofLeBytes b) }
  | _ =>
    let s := s.setSynth u { s.synth u with trim := numAt b 4 4 }
    if settable u then changeSetting u (b.getD 0 0) (b.getD 1 0) (b.getD 2 0) s else s

/-- The sections of an import are written. (DEDUCED, assumption 180) -/
def writeCal (l : List CalSec) (s : State) : State :=
  forEach (calUnits l) (fun e s => writeCalUnit e.1 e.2.1 e.2.2 s) s

/-- At the start of a Blocking that follows a first Load or a full reload, firmware imports the boot calibration record
without its synthesizer section (R522). (DEDUCED, assumption 181) -/
def bootCal (s : State) : State :=
  match lookup s.mgt.cal s.mgt.calBoot with
  | none => s
  | some r => match calParse r.bytes with
    | none => s
    | some l =>
      let l := l.filter fun c => c.kind != 5
      if numAt r.bytes 8 16 = s.aon.serial ∧ s.calStatus l = stOk then writeCal l s else s

end Sys2Proof.Machine
end

