-- ==== Sys2Proof/Machine/Crypto.lean ====
section
/-! DEFINITION. The algorithms that image security names: AES-256 (FIPS 197), GCM (NIST SP 800-38D), SHA-384 (FIPS 180-4)
and ECDSA over P-384 (FIPS 186-5), written from their standards ("Image Security and Protection"). -/

namespace Sys2Proof.Machine

/-! ## AES-256 -/

/-- Multiplication by x in GF(2^8). -/
def xtime (a : Nat) : Nat := if a < 128 then 2 * a else Nat.xor (2 * a) 0x11B

/-- `b` times `x` to the power of a bit position, summed over the bits of `a` from bit 0 on. -/
def gfMulAux : Nat → Nat → Nat → Nat
  | 0, _, _ => 0
  | n + 1, a, b => Nat.xor (if a % 2 = 1 then b else 0) (gfMulAux n (a / 2) (xtime b))

/-- Product in GF(2^8). -/
def gfMul (a b : Nat) : Nat := gfMulAux 8 a b

/-- Inverse in GF(2^8), 0 for 0: the power 254. -/
def gfInv (a : Nat) : Nat :=
  let a2 := gfMul a a
  let a3 := gfMul a2 a
  let a6 := gfMul a3 a3
  let a12 := gfMul a6 a6
  let a15 := gfMul a12 a3
  let a30 := gfMul a15 a15
  let a60 := gfMul a30 a30
  let a120 := gfMul a60 a60
  let a240 := gfMul a120 a120
  let a252 := gfMul a240 a12
  gfMul a252 a2

/-- Rotation of a byte to the left. -/
def rotByte (a n : Nat) : Nat := a * 2 ^ n % 256 + a / 2 ^ (8 - n)

/-- The S-box. -/
def sbox (a : Nat) : Nat :=
  let b := gfInv a
  Nat.xor (Nat.xor (Nat.xor b (rotByte b 1)) (Nat.xor (rotByte b 2) (rotByte b 3))) (Nat.xor (rotByte b 4) 0x63)

/-- Bytewise exclusive or. -/
def xorBytes (a b : List Nat) : List Nat := List.zipWith Nat.xor a b

/-- Round constant `i`. -/
def rcon : Nat → Nat
  | 0 => 1
  | 1 => 1
  | n + 1 => xtime (rcon n)

/-- `n` further words of the key schedule, which is held newest word first. -/
def keyWords : Nat → Nat → List (List Nat) → List (List Nat)
  | 0, _, w => w
  | n + 1, i, w =>
    let t := w.headD []
    let t' := if i % 8 = 0 then
        let r := (t.drop 1 ++ t.take 1).map sbox
        xorBytes r [rcon (i / 8), 0, 0, 0]
      else if i % 8 = 4 then t.map sbox else t
    keyWords n (i + 1) (xorBytes (w.getD 7 []) t' :: w)

/-- The 60 words of the schedule of a 32-byte key, in order. -/
def keySchedule (key : List Nat) : List (List Nat) :=
  (keyWords 52 8 ((List.range 8).map fun i => (key.drop (4 * i)).take 4).reverse).reverse

/-- Round key `r`, 16 bytes. -/
def roundKey (ks : List (List Nat)) (r : Nat) : List Nat := ((ks.drop (4 * r)).take 4).flatten

/-- Row `r` of the state moves `r` columns to the left. -/
def shiftRows (s : List Nat) : List Nat :=
  (List.range 16).map fun i => s.getD (i % 4 + 4 * ((i / 4 + i % 4) % 4)) 0

/-- One column through MixColumns. -/
def mixColumn (a b c d : Nat) : List Nat :=
  let f := fun a b c d => Nat.xor (Nat.xor (xtime a) (Nat.xor (xtime b) b)) (Nat.xor c d)
  [f a b c d, f b c d a, f c d a b, f d a b c]

/-- MixColumns. -/
def mixColumns (s : List Nat) : List Nat :=
  (List.range 4).flatMap fun c => mixColumn (s.getD (4 * c) 0) (s.getD (4 * c + 1) 0) (s.getD (4 * c + 2) 0) (s.getD (4 * c + 3) 0)

/-- AES-256 encryption of a 16-byte block under a key schedule. -/
def aesBlock (ks : List (List Nat)) (b : List Nat) : List Nat :=
  let s := xorBytes b (roundKey ks 0)
  let s := (List.range 13).foldl (fun s r => xorBytes (mixColumns (shiftRows (s.map sbox))) (roundKey ks (r + 1))) s
  xorBytes (shiftRows (s.map sbox)) (roundKey ks 14)

/-- AES-256 of the all-zero block, bytes in order (R459). -/
def aesZero (key : List Nat) : List Nat := aesBlock (keySchedule key) (List.replicate 16 0)

/-! ## GCM -/

/-- Big-endian number of bytes. -/
def ofBeBytes (l : List Nat) : Nat := l.foldl (fun a b => 256 * a + b % 256) 0

/-- `n` big-endian bytes. -/
def beBytes (n v : Nat) : List Nat := (leBytes n v).reverse

/-- Steps of the GF(2^128) product: bit `i` of `x` is its bit `127 − i` as a number. -/
def ghMul : Nat → Nat → Nat → Nat → Nat
  | 0, _, _, z => z
  | n + 1, x, v, z =>
    let z := if x.testBit n then Nat.xor z v else z
    ghMul n x (if v % 2 = 1 then Nat.xor (v / 2) (0xE1 * 2 ^ 120) else v / 2) z

/-- Split into 16-byte blocks as numbers, the last padded with zeros. -/
def blocks (l : List Nat) : List Nat :=
  (List.range ((l.length + 15) / 16)).map fun i =>
    let c := (l.drop (16 * i)).take 16
    ofBeBytes (c ++ List.replicate (16 - c.length) 0)

/-- GHASH under hash key `h`. -/
def ghash (h : Nat) (l : List Nat) : Nat := l.foldl (fun y b => ghMul 128 (Nat.xor y b) h 0) 0

/-- Counter block `n` of a 12-byte IV: 1 gives the pre-counter block. -/
def ctrBlock (iv : List Nat) (n : Nat) : List Nat := iv ++ beBytes 4 n

/-- The 16-byte GCM tag of a ciphertext with its additional data (R460). -/
def gcmTag (key iv aad ct : List Nat) : List Nat :=
  let ks := keySchedule key
  let h := ofBeBytes (aesBlock ks (List.replicate 16 0))
  let g := ghash h (blocks aad ++ blocks ct ++ [8 * aad.length * 2 ^ 64 + 8 * ct.length])
  beBytes 16 (Nat.xor g (ofBeBytes (aesBlock ks (ctrBlock iv 1))))

/-- Plaintext of the 64-bit little-endian ciphertext word `w` at position `j` (R430, R460). -/
def gcmWord (key iv : List Nat) (j w : Nat) : Nat :=
  Nat.xor w (ofLeBytes (((aesBlock (keySchedule key) (ctrBlock iv (j / 2 + 2))).drop (8 * (j % 2))).take 8))

/-! ## SHA-384 -/

/-- The round constants of SHA-512. -/
def shaK : List Nat :=
  [0x428a2f98d728ae22, 0x7137449123ef65cd, 0xb5c0fbcfec4d3b2f, 0xe9b5dba58189dbbc]
  ++ [0x3956c25bf348b538, 0x59f111f1b605d019, 0x923f82a4af194f9b, 0xab1c5ed5da6d8118]
  ++ [0xd807aa98a3030242, 0x12835b0145706fbe, 0x243185be4ee4b28c, 0x550c7dc3d5ffb4e2]
  ++ [0x72be5d74f27b896f, 0x80deb1fe3b1696b1, 0x9bdc06a725c71235, 0xc19bf174cf692694]
  ++ [0xe49b69c19ef14ad2, 0xefbe4786384f25e3, 0xfc19dc68b8cd5b5, 0x240ca1cc77ac9c65]
  ++ [0x2de92c6f592b0275, 0x4a7484aa6ea6e483, 0x5cb0a9dcbd41fbd4, 0x76f988da831153b5]
  ++ [0x983e5152ee66dfab, 0xa831c66d2db43210, 0xb00327c898fb213f, 0xbf597fc7beef0ee4]
  ++ [0xc6e00bf33da88fc2, 0xd5a79147930aa725, 0x6ca6351e003826f, 0x142929670a0e6e70]
  ++ [0x27b70a8546d22ffc, 0x2e1b21385c26c926, 0x4d2c6dfc5ac42aed, 0x53380d139d95b3df]
  ++ [0x650a73548baf63de, 0x766a0abb3c77b2a8, 0x81c2c92e47edaee6, 0x92722c851482353b]
  ++ [0xa2bfe8a14cf10364, 0xa81a664bbc423001, 0xc24b8b70d0f89791, 0xc76c51a30654be30]
  ++ [0xd192e819d6ef5218, 0xd69906245565a910, 0xf40e35855771202a, 0x106aa07032bbd1b8]
  ++ [0x19a4c116b8d2d0c8, 0x1e376c085141ab53, 0x2748774cdf8eeb99, 0x34b0bcb5e19b48a8]
  ++ [0x391c0cb3c5c95a63, 0x4ed8aa4ae3418acb, 0x5b9cca4f7763e373, 0x682e6ff3d6b2b8a3]
  ++ [0x748f82ee5defb2fc, 0x78a5636f43172f60, 0x84c87814a1f0ab72, 0x8cc702081a6439ec]
  ++ [0x90befffa23631e28, 0xa4506cebde82bde9, 0xbef9a3f7b2c67915, 0xc67178f2e372532b]
  ++ [0xca273eceea26619c, 0xd186b8c721c0c207, 0xeada7dd6cde0eb1e, 0xf57d4f7fee6ed178]
  ++ [0x6f067aa72176fba, 0xa637dc5a2c898a6, 0x113f9804bef90dae, 0x1b710b35131c471b]
  ++ [0x28db77f523047d84, 0x32caab7b40c72493, 0x3c9ebe0a15c9bebc, 0x431d67c49c100d4c]
  ++ [0x4cc5d4becb3e42b6, 0x597f299cfc657e2a, 0x5fcb6fab3ad6faec, 0x6c44198c4a475817]

/-- The initial hash value of SHA-384. -/
def shaH : List Nat :=
  [0xcbbb9d5dc1059ed8, 0x629a292a367cd507, 0x9159015a3070dd17, 0x152fecd8f70e5939]
  ++ [0x67332667ffc00b31, 0x8eb44a8768581511, 0xdb0c2e0d64f98fa7, 0x47b5481dbefa4fa4]

/-- Rotation of a 64-bit word to the right. -/
def rotr (n x : Nat) : Nat := x / 2 ^ n + x % 2 ^ n * 2 ^ (64 - n)

/-- `n` further words of a message schedule, newest first. -/
def shaSched : Nat → List Nat → List Nat
  | 0, w => w
  | n + 1, w =>
    let a := w.getD 14 0
    let b := w.getD 1 0
    let s0 := Nat.xor (Nat.xor (rotr 1 a) (rotr 8 a)) (a / 2 ^ 7)
    let s1 := Nat.xor (Nat.xor (rotr 19 b) (rotr 61 b)) (b / 2 ^ 6)
    shaSched n ((w.getD 15 0 + s0 + w.getD 6 0 + s1) % 2 ^ 64 :: w)

/-- The eight working variables. -/
structure ShaVars where
  a : Nat
  b : Nat
  c : Nat
  d : Nat
  e : Nat
  f : Nat
  g : Nat
  h : Nat

/-- One round with message word and constant. -/
def shaRound (v : ShaVars) (wk : Nat × Nat) : ShaVars :=
  let s1 := Nat.xor (Nat.xor (rotr 14 v.e) (rotr 18 v.e)) (rotr 41 v.e)
  let ch := Nat.xor (Nat.land v.e v.f) (Nat.land (Nat.xor v.e (2 ^ 64 - 1)) v.g)
  let t1 := v.h + s1 + ch + wk.2 + wk.1
  let s0 := Nat.xor (Nat.xor (rotr 28 v.a) (rotr 34 v.a)) (rotr 39 v.a)
  let maj := Nat.xor (Nat.xor (Nat.land v.a v.b) (Nat.land v.a v.c)) (Nat.land v.b v.c)
  ⟨(t1 + s0 + maj) % 2 ^ 64, v.a, v.b, v.c, (v.d + t1) % 2 ^ 64, v.e, v.f, v.g⟩

/-- One 128-byte block into the hash value. -/
def shaBlock (h : List Nat) (block : List Nat) : List Nat :=
  let w := (shaSched 64 ((List.range 16).map fun i => ofBeBytes ((block.drop (8 * i)).take 8)).reverse).reverse
  let g := fun i => h.getD i 0
  let v := (w.zip shaK).foldl shaRound ⟨g 0, g 1, g 2, g 3, g 4, g 5, g 6, g 7⟩
  List.zipWith (fun a b => (a + b) % 2 ^ 64) h [v.a, v.b, v.c, v.d, v.e, v.f, v.g, v.h]

/-- SHA-384 of a byte list, 48 bytes. -/
def sha384 (m : List Nat) : List Nat :=
  let pad := m ++ 0x80 :: List.replicate ((239 - m.length % 128) % 128) 0 ++ beBytes 16 (8 * m.length)
  let h := (List.range (pad.length / 128)).foldl (fun h i => shaBlock h ((pad.drop (128 * i)).take 128)) shaH
  (h.flatMap (beBytes 8)).take 48

/-! ## ECDSA over P-384 -/

/-- The field prime. -/
def p384 : Nat := 2 ^ 384 - 2 ^ 128 - 2 ^ 96 + 2 ^ 32 - 1

/-- The coefficient b. -/
def p384b : Nat := 0xb3312fa7e23ee7e4988e056be3f82d19181d9c6efe8141120314088f5013875ac656398d8a2ed19d2a85c8edd3ec2aef

/-- The order of the base point. -/
def p384n : Nat := 0xffffffffffffffffffffffffffffffffffffffffffffffffc7634d81f4372ddf581a0db248b0a77aecec196accc52973

/-- The base point. -/
def p384g : Nat × Nat :=
  (0xaa87ca22be8b05378eb1c71ef320ad746e1d3b628ba79b9859f741e082542a385502f25dbf55296c3a545e3872760ab7,
   0x3617de4a96262c6f5d9e98bf9292dc29f8f41dbd289a147ce9da3113b5f0b8c00a60b1ce1d7e819d7a431d7c90ea0e5f)

/-- Power modulo `m` by the low `n` bits of the exponent. -/
def powMod (m : Nat) : Nat → Nat → Nat → Nat
  | 0, _, _ => 1
  | n + 1, b, e =>
    let r := powMod m n (b * b % m) (e / 2)
    if e % 2 = 1 then b * r % m else r

/-- Inverse modulo a prime of at most 384 bits. -/
def invMod (m a : Nat) : Nat := powMod m 384 (a % m) (m - 2)

/-- Difference modulo `m`. -/
def subMod (m a b : Nat) : Nat := (a + (m - b % m)) % m

/-- Sum of two points; none is the point at infinity. -/
def ecAdd (a b : Option (Nat × Nat)) : Option (Nat × Nat) :=
  match a, b with
  | none, b => b
  | a, none => a
  | some (x1, y1), some (x2, y2) =>
    if x1 = x2 ∧ (y1 + y2) % p384 = 0 then none
    else
      let l := if x1 = x2 then subMod p384 (3 * x1 * x1) 3 * invMod p384 (2 * y1) % p384
        else subMod p384 y2 y1 * invMod p384 (subMod p384 x2 x1) % p384
      let x3 := subMod p384 (subMod p384 (l * l) x1) x2
      some (x3, subMod p384 (l * subMod p384 x1 x3) y1)

/-- `k` times a point, by the low `n` bits of `k`. -/
def ecMul : Nat → Nat → Option (Nat × Nat) → Option (Nat × Nat)
  | 0, _, _ => none
  | n + 1, k, p =>
    let r := ecMul n (k / 2) (ecAdd p p)
    if k % 2 = 1 then ecAdd p r else r

/-- A public key is a point of the curve. -/
def onCurve (x y : Nat) : Bool :=
  decide (x < p384) && decide (y < p384) && y * y % p384 == subMod p384 (x * x * x + p384b) (3 * x)

/-- ECDSA verification of a digest (R461). -/
def ecdsaOk (x y r s : Nat) (digest : List Nat) : Bool :=
  if r = 0 ∨ p384n ≤ r ∨ s = 0 ∨ p384n ≤ s ∨ !onCurve x y then false
  else
    let w := invMod p384n s
    let u1 := ofBeBytes digest * w % p384n
    let u2 := r * w % p384n
    match ecAdd (ecMul 384 u1 (some p384g)) (ecMul 384 u2 (some (x, y))) with
    | some (x1, _) => x1 % p384n == r
    | none => false

end Sys2Proof.Machine
end

