-- ==== Sys2Proof/Machine/LoadOps.lean ====
section
/-! DEFINITION. Operations on the load in progress: where its words come from, how it starts, how it ends, and what it
leaves behind ("Configuration Loading and Blocking"). -/

namespace Sys2Proof.Machine

/-- Change the configuration state. -/
def State.modCfg (s : State) (f : Cfg → Cfg) : State := { s with cfg := f s.cfg }

/-- Change the load in progress. -/
def State.modLoad (s : State) (f : Load → Load) : State := s.modCfg fun c => { c with load := c.load.map f }

/-- The configuration controller works: protection is locked, and neither Test nor a reset of B3h holds it (R465). -/
def State.cfgRuns (s : State) : Bool :=
  s.up && s.flag R.SEC_PROT.LOCK && decide (s.mode ≠ mTest) && !s.held 0xB3

/-- Slot `k` of the image store. -/
def State.slot (s : State) (k : Nat) : ImgSlot := at' s.cfg.slots k ImgSlot.init

/-- Slot `k` becomes `x`. -/
def State.setSlot (s : State) (k : Nat) (x : ImgSlot) : State :=
  s.modCfg fun c => { c with slots := putD c.slots k ImgSlot.init x }

/-- The load reads slot `k`. -/
def State.slotRead (s : State) (k : Nat) : Bool :=
  match s.cfg.load with | some l => l.source == 0 && l.num == k | none => false

/-! ## Words -/

/-- The word at byte `i` of a slot. -/
def slotWord (x : ImgSlot) (i : Nat) : Nat := numAt x.bytes i 8

/-- Words that the load's source holds ready, at most `n` (R430, R438, R441, R442). -/
def State.ready (s : State) (l : Load) (n : Nat) : List Nat :=
  match l.source with
  | 0 =>
    let x := s.slot l.num
    let left := if s.held 0xB5 || !s.clocked 12 then 0 else (x.length - l.pos) / 8
    (List.range (min n left)).map fun i => slotWord x (l.pos + 8 * i)
  | 1 => if s.cfg.fwdLeft = 0 ∧ s.cfg.skipLeft = 0 ∧ !s.cfg.discard then s.cfg.input.take n else []
  | _ => l.buf.take n

/-- `n` words are taken from the load's source. -/
def takeWords (n : Nat) (s : State) : State :=
  match s.cfg.load with
  | none => s
  | some l => s.modCfg fun c => { c with
      input := if l.source = 1 then c.input.drop n else c.input
      received := c.received + 8 * n
      load := some { l with pos := if l.source = 0 then l.pos + 8 * n else l.pos
                            buf := if 2 ≤ l.source then l.buf.drop n else l.buf } }

/-- The slot of the load holds fewer than `n` further words, so the load cannot go on (R445, R447). -/
def State.slotShort (s : State) (l : Load) (n : Nat) : Bool :=
  l.source == 0 && decide ((s.slot l.num).length < l.pos + 8 * n)

/-! ## The header -/

/-- Word `k` of the header. -/
def Load.word (l : Load) (k : Nat) : Nat := l.hdr.getD k 0

/-- Header fields (Table 14-1). -/
def Load.isPartial (l : Load) : Bool := (l.word 1).testBit 16
def Load.signed (l : Load) : Bool := (l.word 1).testBit 17
def Load.felt (l : Load) : Bool := (l.word 1).testBit 18
def Load.length (l : Load) : Nat := bitsOf (l.word 1) 32 32
def Load.imageId (l : Load) : Nat := bitsOf (l.word 2) 0 32
def Load.keysel (l : Load) : Nat := bitsOf (l.word 2) 32 8
def Load.fill (l : Load) : Nat := bitsOf (l.word 2) 40 16
def Load.landBytes (l : Load) : Nat := bitsOf (l.word 4) 32 32
def Load.ksrc (l : Load) : Nat := l.keysel % 4

/-- The 12 bytes of the initialisation vector (R460). -/
def Load.iv (l : Load) : List Nat := leBytes 8 (l.word 3) ++ leBytes 4 (l.word 4)

/-- The header bytes with `HOP` read as 0 (R432). -/
def Load.aad (l : Load) : List Nat :=
  (List.range 6).flatMap fun k =>
    leBytes 8 (if k = 1 then l.word 1 - bitsOf (l.word 1) 8 5 * 256 else l.word k)

/-- The number in fuses `a` to `a + n − 1`. -/
def State.fuseBits (s : State) (a n : Nat) : Nat :=
  (List.range n).foldl (fun v i => v + at' s.sec.fuses (a + i) 0 * 2 ^ i) 0

/-- The selected key, byte `i` from bits [8i + 7 : 8i] (R457). -/
def State.segKey (s : State) (l : Load) : List Nat :=
  match l.ksrc with
  | 0 => leBytes 32 (s.fuseBits 0 256)
  | 1 => leBytes 32 (s.sec.bbk.getD 0)
  | _ => List.replicate 32 0

/-- Words of a segment's trailer (R430). -/
def trailerWords (sig : Bool) : Nat := if sig then 14 else 2

/-! ## Starting and ending -/

/-- `CFG_STAT.STATE`: 0 Idle, 1 Header, 2 Payload, 3 Authenticating, 4 Committing, 5 Failed (Table 14-8). -/
def setCfgState (n : Nat) (s : State) : State := s.set R.CFG_STAT.STATE n

/-- `LAST_STATUS` takes a status; a change is noted for the interrupt (Table 14-9, R498). -/
def setLast (st : Nat) (s : State) : State :=
  (s.set R.CFG_STAT.LAST_STATUS st).modCfg fun c => { c with
    statChanged := c.statChanged || s.get R.CFG_STAT.LAST_STATUS != st }

/-- A load that waits for its header. -/
def newLoad (kind source num ep pos timeoutMs serial : Nat) : Load :=
  { kind := kind, source := source, num := num, ep := ep, pos := pos, timeoutMs := timeoutMs, serial := serial,
    late := false, stage := 0, buf := [], hdr := [], body := [], parsed := 0, tag := 0, segPos := pos, stopped := false,
    ended := false, incomplete := false, planes := [], staged := [], parked := [], landUsed := 0, skip := 0, banks := [],
    owLeft := [], planesDone := 0 }

/-- A load starts at its header (R449). -/
def startLoad (l : Load) (s : State) : State :=
  let s := setCfgState 1 ((s.set R.CFG_STAT.SOURCE l.source).set R.CFG_STAT.KIND l.kind)
  s.modCfg fun c => { c with load := some l, received := 0 }

/-- State Failed (R447). -/
def cfgFailed (s : State) : State := raise 0x0202 [] (setCfgState 5 s)

/-- The device waits on its port for a segment (R447). -/
def waitPort (s : State) : State := startLoad (newLoad 0 1 0 0 0 (s.get R.CFG_CTL.LOAD_TO) 0) s

/-- A first load of slot 0 as the golden image (R447). (DEDUCED, assumption 134) -/
def goldenLoad (s : State) : State :=
  let s := s.modCfg fun c => { c with golden := true }
  if (s.slot 0).valid then startLoad (newLoad 0 0 0 0 0 (s.get R.CFG_CTL.LOAD_TO) 0) s
  else cfgFailed (setLast stShort s)

/-- A first load of the boot slot, or at once of slot 0 (R447). (DESIGN CHOICE, assumption 26) -/
def bootLoad (s : State) : State :=
  let b := s.cfg.bootSlot
  let s := s.modCfg fun c => { c with golden := false }
  if (s.slot b).valid then startLoad (newLoad 0 0 b 0 0 (s.get R.CFG_CTL.LOAD_TO) 0) s
  else goldenLoad (raise 0x0201 [] (setLast stShort s))

/-- What follows a failed first load or full reload, by `STRAP_BOOT` (R447); a start from Safe with cause 2h continues
as for 11b (Table 2-6). (DEDUCED, assumption 135) -/
def afterFailure (l : Load) (s : State) : State :=
  match (if s.flag R.STRAP_LATCH.SAFE then 3 else s.get R.STRAP_LATCH.BOOT) with
  | 0 => if l.kind = 0 ∧ l.serial = 0 ∧ !s.cfg.golden then goldenLoad (raise 0x0201 [] s) else cfgFailed s
  | 3 => cfgFailed s
  | _ => waitPort s

/-- The landing banks are released and bulk-cleared (R296). -/
def releaseLanding (l : Load) (s : State) : State :=
  forEach l.banks (fun b s => startBankClear b (s.set (R.BANK_CFG.LAND b) 0)) s

/-- The completion record of a load (Table 14-14): status, `IMAGE_ID`, planes written, `ABORTED`, `LATE`. -/
def loadResult (l : Load) (st : Nat) (aborted : Bool) : List Nat :=
  pack [(2, st), (4, l.imageId), (2, l.planesDone), (1, if aborted then 1 else 0), (1, if l.late then 1 else 0)]

/-- `CTX_STAT.CLAIMED` follows the claims of the running load and of repairs. -/
def refreshClaimed (r : Nat) (s : State) : State :=
  let load := match s.cfg.load with
    | some l => l.kind == 2 && l.planes.any fun k => k / 4 == r && s.planeState r (k % 4) == psLoading
    | none => false
  s.setB (R.CTX_STAT.CLAIMED r) ((s.ctxR r).claim.isSome || load)

/-- What a load that ends early leaves: its Loading planes become Empty, its claims and reloads before their commit are
withdrawn, and the landing area is released (R445, R462). -/
def cleanLoad (l : Load) (s : State) : State :=
  let s := forEach l.planes (fun k s =>
    if s.planeState (k / 4) (k % 4) = psLoading ∧ !((s.ctxR (k / 4)).due.any fun e => e.1 == k % 4) then emptyPlane (k / 4) (k % 4) s else s) s
  let keep := s.integ.repair.map fun r => r.key
  let s := forEach (List.range 128) (fun r s => match (s.ctxR r).claimReq with
    | some p => if keep = some (4 * r + p) then s else s.modCtx r fun c => { c with claimReq := none }
    | none => s) s
  let s := forEach l.owLeft (fun r s =>
    if (s.ctxR r).ow < 3 then s.modCtx r fun c => { c with ow := 0 } else s) s
  let s := forEach l.planes (fun k => refreshClaimed (k / 4)) s
  refreshReblock (releaseLanding l s)

/-- The load ends with a status (R445, R447, R449). `follow` = what R447 adds after a failed first load. -/
def endLoadWith (st : Nat) (aborted follow : Bool) (s : State) : State :=
  match s.cfg.load with
  | none => s
  | some l =>
    let s := applyIf (l.source == 2) (fun s => s.modLane l.num fun b => { b with loading := false }) s
    let s := cleanLoad l (s.modCfg fun c => { c with load := none })
    let s := setCfgState 0 (setLast st s)
    let s := finishCmd l.serial st (loadResult l st aborted) l.late s
    if follow && decide (l.kind < 2) && decide (s.mode = mLoad) then afterFailure l s else s

/-- The load fails with a status. -/
def failLoad (st : Nat) (s : State) : State := endLoadWith st false true s

/-- A check of Table 15-2 fails with `AUTH_FAIL` (R463). -/
def authFail (check : Nat) (s : State) : State :=
  let s := s.inc R.SEC_STAT.AUTH_CNT
  failLoad stAuthFail (raise 0x0901 [(1, s.get R.CFG_STAT.SOURCE), (1, check)] s)

/-- The load has passed its commit edge (R449). -/
def State.loadCommitted (s : State) : Bool :=
  match s.cfg.load with
  | some l => l.kind == 3 && l.owLeft.any fun r => decide (3 ≤ (s.ctxR r).ow)
  | none => false

/-! ## Checks on planes -/

/-- Planes of region `r` other than those of the list that are not Empty. -/
def State.otherPlanes (s : State) (r : Nat) (skip : List Nat) : List Nat :=
  (List.range 4).filter fun p => !skip.contains (4 * r + p) && s.planeState r p != psEmpty

/-- Block memories whose contents a list of parked records gives in region `r`. -/
def contentBms (parked : List (List Nat)) (r : Nat) : List Nat :=
  (parked.filter fun x => x.headD 0 % 256 == 2 && bitsOf (x.headD 0) 10 7 == r).map fun x => bitsOf (x.headD 0) 17 7

/-- The checks of R219 for a new plane of region `r` against the planes `others`. (DEDUCED, assumption 138) -/
def State.bmCheck (s : State) (r : Nat) (pl : Plane) (others : List Nat) (parked : List (List Nat)) : Bool :=
  (List.range 96).all fun m =>
    let code := planeCode pl m
    code == 3 || !(others.any fun q => s.planeUses r q m) ||
      (code == s.get (R.BM_STAT.CODE (96 * r + m)) && !(contentBms parked r).contains m)

/-- The rule of R228 for a new plane of region `r` beside other planes. -/
def State.netCheck (s : State) (r : Nat) (pl : Plane) (others : List Nat) : Bool :=
  others == [] ||
    (let f := pl.frames
     let n := s.ctxNet r
     let v := Config.planeNet f (n % 16)
     Config.planeCtxNet f % 16 == n % 16 && v % 16 == s.get (R.RCN_CFG.SRC_A n) && bitsOf v 8 2 == 0
       && s.get (R.RCN_CFG.SW_EN n) == 0 && s.get (R.RCN_CFG.CE_EN n) == 0
       && (List.range 24).all fun p =>
         let d := if p < 8 then (16 * p + 7, 16 * p + 8) else (48 + (p - 8), 64 + (p - 8))
         !(d.1 == r || d.2 == r) || Config.planeSeam f p == s.get (R.SEAM_CFG.SEAM_CLK p))

/-- A new plane takes its block memories: a code that differs from the one in force, with no other plane using the
memory, clears it (R219). (DEDUCED, assumption 138) -/
def takeCodes (r : Nat) (pl : Plane) (others : List Nat) (s : State) : State :=
  forEach (List.range 96) (fun m s =>
    let code := planeCode pl m
    let bm := 96 * r + m
    if code = 3 ∨ (others.any fun q => s.planeUses r q m) ∨ s.get (R.BM_STAT.CODE bm) = code then s
    else clearBm bm (((s.set (R.BM_STAT.CODE bm) code).set (R.BM_STAT.CLR_BUSY bm) 0).set (R.BM_STAT.CLR bm) 0)) s

/-- Row `i` of a `BM_DATA` body whose rows hold `bits` bits. -/
def bodyRow (body : List Nat) (bits i : Nat) : Nat :=
  let lo := bits * i
  let w := (List.range (bits / 64 + 2)).foldl (fun a k => a + body.getD (lo / 64 + k) 0 * 2 ^ (64 * k)) 0
  w / 2 ^ (lo % 64) % 2 ^ bits

/-- A parked `BM_DATA` record is copied into its memory (R209). -/
def copyBmData (x : List Nat) (s : State) : State :=
  let h := x.headD 0
  let m := 96 * bitsOf h 10 7 + bitsOf h 17 7
  let bits := 4 * laneBits (s.get (R.BM_STAT.CODE m))
  forEach (List.range (bitsOf h 34 11)) (fun i => bmWrite m ((bitsOf h 24 10 + i) % 1024) 15 (bodyRow (x.drop 1) bits i)) s

/-- Every parked `BM_DATA` record of the regions that meet `p` is copied. -/
def copyContents (parked : List (List Nat)) (p : Nat → Bool) (s : State) : State :=
  forEach (parked.filter fun x => x.headD 0 % 256 == 2 && p (bitsOf (x.headD 0) 10 7)) copyBmData s

/-- The settings that a plane's frames make (R137, R235, R239). -/
def withNets (pl : Plane) : Plane :=
  { pl with nets := (List.range 16).map fun k => Config.planeNet pl.frames k % 1024, portEn := Config.planePort pl.frames }

/-! ## Entry to Load -/

/-- Function `f` on every region. -/
def eachRegion (f : Nat → State → State) (s : State) : State := forEach (List.range 128) f s

/-- The global set/reset becomes held (R142). -/
def holdGsr (s : State) : State := eachRegion initRegion (s.set R.FAB_CTL.GSR_HELD 1)

end Sys2Proof.Machine
end

