-- ==== Sys2Proof/Machine/Load.lean ====
section
/-! DEFINITION. The stream of segments: words that arrive, headers, records, the checks at the end of a segment, the
commit, and overwrite-active reloads ("Configuration Loading and Blocking"). -/

namespace Sys2Proof.Machine

/-! ## Words that arrive -/

/-- CFG_PORT_WORD: a stream word reaches the port (R441, R446). Input that the controller discards or skips goes no
further; a word beyond the buffer is lost and sets `OVERRUN`. (DEDUCED, assumption 146) -/
def execCfgPortWord (w : BitVec 64) (s : State) : Out :=
  if !s.cfgRuns || s.cfg.discard then .next s
  else if 0 < s.cfg.skipLeft then .next (s.modCfg fun c => { c with skipLeft := c.skipLeft - 1 })
  else if Config.cfgBuffer + 16 ≤ s.cfg.input.length then .next (s.set R.CFG_STAT.OVERRUN 1)
  else .next (s.modCfg fun c => { c with input := c.input ++ [w.toNat] })

/-- Bytes as stream words (R4). -/
def bytesWords (l : List Nat) : List Nat := (List.range (l.length / 8)).map fun i => numAt l (8 * i) 8

/-- The packet comes from the source that the load names (R442). (DEDUCED, assumption 132) -/
def fromSource (l : Load) (p : Pkt) : Bool := l.source == 2 || (l.source == 3 && p.srcDev == l.num && p.srcEp == l.ep)

/-- CFG_STREAM_PACKET: the packet at the head of endpoint 0A1h (R442). (DEDUCED, assumption 132) -/
def execCfgStreamPacket (p : Pkt) (s : State) : Out :=
  if !s.cfgRuns || s.rxHead 0xA1 != some p then .next s
  else
    let s := popRx 0xA1 s
    if p.typ ≠ 2 then .next (answerPkt p 1 0 [] false s)
    else match s.cfg.load with
      | none => .next (logNoc p 1 0 s)
      | some l =>
        if !fromSource l p then .next (logNoc p 1 0 s)
        else if p.off ≠ l.pos % 2 ^ 32 ∨ p.data.length % 8 ≠ 0 then .next (logNoc p 2 0 s)
        else .next (s.modLoad fun l => { l with pos := l.pos + p.data.length, buf := l.buf ++ bytesWords p.data })

/-! ## Headers -/

/-- `MAGIC` and `VERSION` are those of Table 14-1. -/
def magicOk (w0 : Nat) : Bool := w0 % 2 ^ 32 == 0x5244524F && bitsOf w0 32 8 == 1

/-- Words after the header of a segment. -/
def restWords (h : List Nat) : Nat := bitsOf (h.getD 1 0) 32 32 + trailerWords ((h.getD 1 0).testBit 17)

/-- The port skips the next `n` words. (DEDUCED, assumption 133) -/
def skipPort (n : Nat) (s : State) : State :=
  s.modCfg fun c => { c with input := c.input.drop n, skipLeft := n - c.input.length }

/-- The port makes its input unusable until it has been idle (R432). (DEDUCED, assumption 133) -/
def discardPort (s : State) : State := s.modCfg fun c => { c with input := [], discard := true }

/-- The port takes the chain position from a header (R443). (DEDUCED, assumption 134) -/
def takePosition (h : List Nat) (s : State) : State :=
  if s.flag R.STRAP_LATCH.FIRST ∨ s.flag R.CFG_STAT.POS_VALID then s
  else (s.set R.CFG_STAT.POSITION (bitsOf (h.getD 1 0) 8 5)).set R.CFG_STAT.POS_VALID 1

/-- The header as it is forwarded: `HOP` raised by 1 (R444). (DEDUCED, assumption 134) -/
def raisedHop (h : List Nat) : List Nat := h.set 1 (h.getD 1 0 + 256)

/-- Words leave on `CFGO`. -/
def sendCfgo (l : List Nat) (s : State) : State := s.modCfg fun c => { c with cfgo := c.cfgo ++ l }

/-- The header checks of R432 for a segment of this position fail. -/
def headerBad (h : List Nat) : Bool :=
  let w0 := h.getD 0 0
  let w1 := h.getD 1 0
  let w2 := h.getD 2 0
  bitsOf w0 40 16 != 0x4B39 || bitsOf w0 56 8 != 0 || bitsOf w1 5 3 != 0 || bitsOf w1 13 3 != 0 || bitsOf w1 19 13 != 0
    || w2.testBit 35 || bitsOf w2 56 8 != 0 || h.getD 5 0 != 0
    || decide (178257920 < bitsOf w1 32 32 * 8 + 48 + 8 * trailerWords (w1.testBit 17))
    || decide (83886080 < bitsOf (h.getD 4 0) 32 32)

/-- First check of Table 15-2 that fails at the header: its number and status. -/
def State.secCheck (s : State) (l : Load) : Option (Nat × Nat) :=
  let k := l.ksrc
  if k = 3 then some (1, stForeign)
  else if k = 2 ∧ !s.flag R.SEC_PROT.ZK_OK then some (2, stDenied)
  else if k = 0 ∧ !s.flag R.SEC_PROT.FK_OK then some (3, stAuthFail)
  else if k = 1 ∧ (!s.flag R.SEC_PROT.BBK_OK ∨ !s.flag R.SEC_STAT.BBK_VALID) then some (4, stAuthFail)
  else if bitsOf l.keysel 4 4 < s.get R.SEC_PROT.MIN_SVN then some (5, stDenied)
  else if !l.signed && s.flag R.SEC_PROT.SIG_REQ then some (6, stDenied)
  else if l.signed && !s.bit R.SEC_PROT.PK_OK (bitsOf l.keysel 2 1) then some (7, stAuthFail)
  else none

/-- The landing group in its order of use (R295). -/
def landingGroup : List Nat := (List.range 40).map fun i => 54 + i / 4 + 64 * (i % 4)

/-- Landing banks that a load needs (R295). -/
def landingNeed (l : Load) : Nat :=
  if l.kind < 2 then 40
  else if l.kind = 2 then (l.landBytes + 2 ^ 21 - 1) / 2 ^ 21
  else (8 * l.length + 2 ^ 21 - 1) / 2 ^ 21

/-- Bank `b` may be reserved for landing (R295). -/
def State.landable (s : State) (b : Nat) : Bool :=
  s.get (R.BANK_OWN.OWNER b) == 0x100 && s.get (R.BANK_CFG.PWR b) == 0 && !s.flag (R.BANK_CFG.CMODE b)
    && !s.flag (R.SPILL_STAT.EN b) && !s.flag (R.BANK_CFG.OFFLINE b)

/-- A segment for this position, with its header in the load, is refused, or its payload follows (R432, R448, R462,
R295). -/
def judgeHeader (l : Load) (s : State) : State :=
  let s := s.modLoad fun _ => l
  let refuse := fun st s => failLoad st (applyIf (l.source == 1) (skipPort (restWords l.hdr)) s)
  if headerBad l.hdr then refuse stForeign s
  else if l.isPartial != decide (2 ≤ l.kind) then refuse stDenied s
  else match s.secCheck l with
    | some (k, st) =>
      let s := applyIf (l.source == 1) (skipPort (restWords l.hdr)) s
      if st = stAuthFail then authFail k s else failLoad st s
    | none =>
      let n := landingNeed l
      let banks := landingGroup.take n
      if 40 < n ∨ !banks.all s.landable then refuse stNoResource s
      else
        let s := forEach banks (fun b s => s.set (R.BANK_CFG.LAND b) 1) s
        setCfgState 2 (s.modLoad fun _ => { l with banks := banks, stage := 1 })

/-- A header of the load's source: unusable, for another position, or for this one. -/
def loadHeader (l : Load) (h : List Nat) (s : State) : State :=
  let s := takeWords 6 s
  if !magicOk (h.getD 0 0) then failLoad stForeign (applyIf (l.source == 1) discardPort s)
  else
    let s := applyIf (l.source == 1) (takePosition h) s
    if h.getD 1 0 % 32 = s.get R.CFG_STAT.POSITION then
      let pos := if l.source = 0 then l.pos + 48 else l.pos
      let buf := if 2 ≤ l.source then l.buf.drop 6 else l.buf
      judgeHeader { l with hdr := h, segPos := l.pos, pos := pos, buf := buf } s
    else if l.source = 1 then
      if s.get R.CFG_STAT.POSITION = 31 then skipPort (restWords h) s
      else (sendCfgo (raisedHop h) (s.modCfg fun c => { c with fwdLeft := restWords h })).set R.CFG_STAT.FWD 1
    else
      let s := s.modLoad fun l => { l with stage := 5, skip := restWords h }
      if s.get R.CFG_STAT.POSITION = 31 then s else (sendCfgo (raisedHop h) s).set R.CFG_STAT.FWD 1

/-- A header that reaches the port while no load waits for one: forwarded, or its segment skipped (R432, R444).
(DEDUCED, assumption 133) -/
def portHeader (s : State) : State :=
  let h := s.cfg.input.take 6
  let s := s.modCfg fun c => { c with input := c.input.drop 6 }
  if !magicOk (h.getD 0 0) then discardPort (setLast stForeign s)
  else
    let s := takePosition h s
    if h.getD 1 0 % 32 = s.get R.CFG_STAT.POSITION ∨ s.get R.CFG_STAT.POSITION = 31 then skipPort (restWords h) s
    else (sendCfgo (raisedHop h) (s.modCfg fun c => { c with fwdLeft := restWords h })).set R.CFG_STAT.FWD 1

/-- The port offers a header that no load takes. -/
def State.portFree (s : State) : Bool :=
  decide (s.cfg.fwdLeft = 0) && decide (s.cfg.skipLeft = 0) && !s.cfg.discard && decide (6 ≤ s.cfg.input.length)
    && (match s.cfg.load with | some l => l.source != 1 || l.stage == 0 | none => true)

/-- SEGMENT_HEADER: the load that waits for a header takes it; otherwise the port takes one for itself. -/
def execSegmentHeader (s : State) : Out :=
  if !s.cfgRuns then .next s
  else match s.cfg.load.filter fun l => l.stage == 0 with
    | some l =>
      let h := s.ready l 6
      if h.length = 6 then .next (loadHeader l h s)
      else if s.slotShort l 6 then .next (failLoad stShort s)
      else if l.source ≠ 1 ∧ s.portFree then .next (portHeader s)
      else .next s
    | none => if s.portFree then .next (portHeader s) else .next s

/-- SEGMENT_FORWARD: words of a segment for another position leave on `CFGO` (R444); at position 31 they are
discarded. -/
def execSegmentForward (words : Nat) (s : State) : Out :=
  if !s.cfgRuns then .next s
  else if 0 < s.cfg.fwdLeft then
    let n := min words (min s.cfg.fwdLeft s.cfg.input.length)
    let s := sendCfgo (s.cfg.input.take n) s
    let s := s.modCfg fun c => { c with input := c.input.drop n, fwdLeft := c.fwdLeft - n }
    .next (applyIf (s.cfg.fwdLeft == 0) (fun s => s.set R.CFG_STAT.FWD 0) s)
  else match s.cfg.load.filter fun l => l.stage == 5 with
    | some l =>
      let w := s.ready l (min words l.skip)
      if w = [] ∧ 0 < l.skip ∧ s.slotShort l 1 then .next (failLoad stShort (s.set R.CFG_STAT.FWD 0))
      else
        let s := applyIf (s.get R.CFG_STAT.POSITION != 31) (sendCfgo w) s
        let s := (takeWords w.length s).modLoad fun l => { l with skip := l.skip - w.length }
        if l.skip = w.length then .next ((s.set R.CFG_STAT.FWD 0).modLoad fun l => { l with stage := 0 }) else .next s
    | none => .next s

/-! ## Claims -/

/-- A claim on plane `p` of region `r` is refused with a status (R227, R567). -/
def State.claimRefused (s : State) (r p : Nat) : Option Nat :=
  if s.flag (R.BORDER_STAT.FENCED r) || s.held r || s.test.fenced.contains (2, 4 * r + p) then some stDenied
  else if s.planeState r p = psActive then some stDenied
  else if s.flag (R.CTX_STAT.ROTATING r) && (s.rotOrder r).contains p then some stDenied
  else if s.armedPlane r p then some stBusy
  else if s.planeState r p = psLoading ∨ (s.ctxR r).claim = some p then some stBusy
  else none

/-- A hood load has plane `p` of region `r`: it is Loading and holds nothing (R225, R227). -/
def loadingPlane (r p : Nat) (s : State) : State :=
  let s := emptyPlane r p s
  let s := (setPlaneState r p psLoading s).modLoad fun l => { l with planes := l.planes ++ [4 * r + p] }
  refreshClaimed r s

/-- A repair has plane `p`: it is Loading and keeps its frames (R481). -/
def repairPlane (r p : Nat) (s : State) : State :=
  let s := (setPlaneState r p psLoading s).modCtx r fun c => { c with claim := some p }
  let s := { s with integ := { s.integ with repair := s.integ.repair.map fun x => { x with claimed := true } } }
  refreshClaimed r s

/-- The repair that runs fails with a status: nothing is written, and its plane, if claimed, becomes `ps` (R481). -/
def failRepair (x : Repair) (st ps : Nat) (s : State) : State :=
  let r := x.key / 4
  let p := x.key % 4
  let fl := (if s.planeState r p = psActive then 1 else 0) + (if s.protPlane r p then 2 else 0)
  let s := forEach x.frames (fun f s => raise 0x0A04 [(1, r), (1, p), (2, f), (2, st)]
    (logEss 4 fl (r + 128 * p + 512 * f) 0xFFFF 0 st s)) s
  let s := { s with integ := { s.integ with repair := none } }
  let s := s.modPlane r p fun pl => { pl with noRetry := (pl.noRetry ++ x.frames).dedup }
  let s := endUncHold r (s.modCtx r fun c => { c with claim := none, claimReq := none })
  let s := applyIf x.claimed (fun s => if ps = psEmpty then emptyPlane r p s else setPlaneState r p ps s) s
  refreshClaimed r (finishCmd x.serial st [] false s)

/-- The claim that waits on region `r` is decided: refused with a status, or granted (R227). -/
def decideClaim (r p : Nat) (refused : Option Nat) (s : State) : State :=
  let s := s.modCtx r fun c => { c with claimReq := none }
  match s.integ.repair.filter fun x => x.key == 4 * r + p with
  | some x => match refused with
    | some st => failRepair x st psHood s
    | none => repairPlane r p s
  | none => match refused with
    | some st => failLoad st s
    | none => loadingPlane r p s

/-- A plane is claimed: at once where the context clock does not run or a refusal is certain, else at an edge (R227). -/
def askClaim (r p : Nat) (s : State) : State :=
  if !s.ctxRuns r then decideClaim r p (s.claimRefused r p) s
  else s.modCtx r fun c => { c with claimReq := some p }

/-- HOOD_CLAIM_GRANT: the claim meets a context-clock edge; a swap to the plane at that edge wins (R227). -/
def execHoodClaimGrant (r : Fin 128) (p : Fin 4) (swapTarget : Bool) (s : State) : Out :=
  if !s.up || !s.clocked 9 || !(s.ctxR r).edge || (s.ctxR r).claimReq != some p.val then .next s
  else .next (decideClaim r p (if swapTarget then some stDenied else s.claimRefused r p) s)

/-! ## Records -/

/-- Plaintext word `k` of the payload, already taken. -/
def State.plainWord (s : State) (l : Load) (k : Nat) : Nat := gcmWord (s.segKey l) l.iv k (l.body.getD k 0)

/-- Planes that the load has parsed: by region × 4 + plane. -/
def State.loadPlanes (s : State) (l : Load) : List (Nat × Plane) :=
  if l.kind = 3 then l.staged else l.planes.map fun k => (k, s.plane (k / 4) (k % 4))

/-- Code that a `PLANE_INFO` of the segment declares for block memory `m` of region `r` (R434). -/
def State.declaredCode (s : State) (l : Load) (r m : Nat) : Option Nat :=
  ((s.loadPlanes l).find? fun e => e.1 / 4 == r && e.2.info && planeCode e.2 m != 3).map fun e => planeCode e.2 m

/-- Words in the body of a record with header `h`; none for a type that is unknown, not allowed or out of its
ranges (R433, R434). -/
def State.bodyWords (s : State) (l : Load) (h : Nat) : Option Nat :=
  let full := !l.isPartial
  match h % 256 with
  | 1 => if bitsOf h 17 11 + bitsOf h 28 11 ≤ 1372 ∧ 1 ≤ bitsOf h 28 11 then some (64 * bitsOf h 28 11) else none
  | 2 =>
    if 96 ≤ bitsOf h 17 7 ∨ bitsOf h 34 11 = 0 ∨ 1024 < bitsOf h 24 10 + bitsOf h 34 11 then none
    else (s.declaredCode l (bitsOf h 10 7) (bitsOf h 17 7)).map fun c => (4 * laneBits c * bitsOf h 34 11 + 63) / 64
  | 3 => some 1372
  | 4 => some (bitsOf h 16 14)
  | 5 => some 3
  | 6 => if full then some 4 else none
  | 7 => if full ∧ bitsOf h 8 11 + bitsOf h 19 11 ≤ 1536 ∧ 1 ≤ bitsOf h 19 11 then some (bitsOf h 19 11) else none
  | 8 => if full then some (2 * bitsOf h 8 24) else none
  | 9 => if full then some 0 else none
  | 10 => if full ∧ bitsOf h 20 10 + bitsOf h 30 11 ≤ 1024 ∧ 1 ≤ bitsOf h 30 11 then some (2 * bitsOf h 30 11) else none
  | 11 => if full then some 2 else none
  | _ => none

/-- Planes that a record names: region × 4 + plane. -/
def recordPlanes (x : List Nat) : List Nat :=
  let h := x.headD 0
  let p := bitsOf h 8 2
  match h % 256 with
  | 1 => [4 * bitsOf h 10 7 + p]
  | 3 => [4 * bitsOf h 10 7 + p]
  | 5 => [4 * bitsOf h 10 7 + p]
  | 4 => ((x.drop 1).map fun w => 4 * bitsOf w 21 7 + p).dedup
  | _ => []

/-- The record lands in the shared cache (Table 14-4). -/
def lands (kind : Nat) (h : Nat) : Bool := kind == 3 || h % 256 == 2 || decide (6 ≤ h % 256)

/-- What a record writes into a plane of region `r` (Table 14-2). (DEDUCED, assumption 136) -/
def recordInto (x : List Nat) (r : Nat) (pl : Plane) : Plane :=
  let h := x.headD 0
  let b := x.drop 1
  match h % 256 with
  | 1 =>
    let first := bitsOf h 17 11
    let n := bitsOf h 28 11
    { pl with
      frames := (List.range n).foldl (fun m i => put m (first + i) (ofWords ((b.drop (64 * i)).take 64))) pl.frames
      bad := dropKeys pl.bad fun f => decide (first ≤ f) && decide (f < first + n) }
  | 3 => { pl with essmap := (List.range 1372).foldl (fun m f => put m f (b.getD f 0)) pl.essmap, mapBad := [] }
  | 4 =>
    { pl with border := b.foldl (fun m w => if bitsOf w 21 7 = r then
        (List.range (bitsOf w 32 14)).foldl (fun m i => putD m (w % 2 ^ 32 + i) 1 (bitsOf w 46 2)) m else m) pl.border }
  | 5 => { pl with codes := ofWords b, info := true, critical := h.testBit 17 }
  | _ => pl
where
  /-- 64-bit words as one number. -/
  ofWords (l : List Nat) : Nat := (List.range l.length).foldl (fun a k => a + l.getD k 0 * 2 ^ (64 * k)) 0

/-- An overwrite-active reload may name plane `k` (R255). -/
def State.owAllowed (s : State) (k : Nat) : Bool :=
  s.planeState (k / 4) (k % 4) == psActive && s.unlocked (k / 4) && !s.flag (R.BORDER_STAT.FENCED (k / 4))

/-- The planes that a record names come under the load: Loading, staged, or claimed, one plane after another (R255,
Table 14-4). -/
def takePlanes (ks : List Nat) (s : State) : State :=
  match s.cfg.load with
  | none => s
  | some l =>
    if l.kind < 2 then forEach (ks.filter fun k => !l.planes.contains k) (fun k => loadingPlane (k / 4) (k % 4)) s
    else if l.kind = 3 then
      let new := ks.filter fun k => !has l.staged k
      if !new.all s.owAllowed then failLoad stDenied s
      else
        let s := forEach new (fun k s => s.modCtx (k / 4) fun c => { c with ow := if c.ow = 4 then 4 else 1 }) s
        let s := s.modLoad fun l => { l with
          staged := new.foldl (fun m k => put m k Plane.empty) l.staged
          owLeft := l.owLeft ++ new.map fun k => k / 4 }
        refreshReblock s
    else match ks.find? fun k => !l.planes.contains k with
      | none => s
      | some k => askClaim (k / 4) (k % 4) s

/-- Every plane that a record names is under the load. -/
def State.hasPlanes (s : State) (ks : List Nat) : Bool :=
  ks.all fun k => match s.cfg.load with
    | some l => l.planes.contains k || has l.staged k
    | none => false

/-- The record `x` is held where it has no effect (R435, Table 14-4). -/
def holdRecord (x : List Nat) (s : State) : State :=
  match s.cfg.load with
  | none => s
  | some l =>
    let h := x.headD 0
    let size := 8 * x.length
    if lands l.kind h && decide (l.banks.length * 2 ^ 21 < l.landUsed + size) then
      s.modLoad fun l => { l with stopped := true }
    else
      let fenced := h % 256 == 5 && (List.range 96).any fun m =>
        bitsOf (ofLeBytes ((x.drop 1).flatMap (leBytes 8))) (2 * m) 2 != 3
          && s.test.fenced.contains (3, 96 * bitsOf h 10 7 + m)
      let s := s.modLoad fun l => { l with
        parsed := l.parsed + x.length
        landUsed := l.landUsed + if lands l.kind h then size else 0
        parked := if h % 256 = 2 ∨ 6 ≤ h % 256 then l.parked ++ [x] else l.parked
        incomplete := l.incomplete || fenced
        staged := if l.kind = 3 then
            (recordPlanes x).foldl (fun m k => put m k (recordInto x (k / 4) (at' m k Plane.empty))) l.staged
          else l.staged }
      if l.kind = 3 then s
      else forEach (recordPlanes x) (fun k s => s.modPlane (k / 4) (k % 4) (recordInto x (k / 4))) s

/-- Ciphertext words move from the source into the payload taken, at most `n` of what is left of it. -/
def takeBody (n : Nat) (s : State) : State :=
  match s.cfg.load with
  | none => s
  | some l =>
    let w := s.ready l (min n (l.length - l.body.length))
    (takeWords w.length s).modLoad fun l => { l with body := l.body ++ w }

/-- The load, in its payload, with the header word of the next record taken. (DEDUCED, assumption 136) -/
def nextRecord (s : State) : State :=
  match s.cfg.load with
  | some l => if l.stage = 1 ∧ !l.stopped ∧ l.body.length = l.parsed then takeBody 1 s else s
  | none => s

/-- The slot ends inside the payload, so the load cannot go on. -/
def State.payloadShort (s : State) (l : Load) : Bool := decide (l.body.length < l.length) && s.slotShort l 1

/-- SEGMENT_RECORD: the next record of the payload (R433–R435). Its words are taken as they arrive; a claim that it
needs is asked for, and the record waits for it. -/
def execSegmentRecord (s : State) : Out :=
  if !s.cfgRuns then .next s
  else
    let t := nextRecord s
    match t.cfg.load.filter fun l => l.stage == 1 && !l.stopped with
    | none => .next s
    | some l =>
      let stop := t.modLoad fun l => { l with stopped := true }
      if l.body.length = l.parsed then
        if l.length ≤ l.parsed then .next stop
        else if s.payloadShort l then .next (failLoad stShort t) else .next s
      else
        let h := t.plainWord l l.parsed
        if h % 256 = 255 then .next t
        else match t.bodyWords l h with
          | none => .next stop
          | some n =>
            if l.length < l.parsed + 1 + n then .next stop
            else
              let t := takeBody (l.parsed + 1 + n - l.body.length) t
              match t.cfg.load with
              | none => .next t
              | some l =>
                if l.body.length < l.parsed + 1 + n then
                  if t.payloadShort l then .next (failLoad stShort t) else .next t
                else
                  let x := (List.range (1 + n)).map fun i => t.plainWord l (l.parsed + i)
                  if l.kind = 2 ∧ (recordPlanes x).any (fun k => (t.ctxR (k / 4)).claimReq.isSome) then .next t
                  else
                    let u := takePlanes (recordPlanes x) t
                    if u.cfg.load.isSome && u.hasPlanes (recordPlanes x) then .next (holdRecord x u) else .next u

/-! ## The end of a segment -/

/-- Plane of the segment that `ACTIVE` names for region `r`, if the record is present. -/
def activeOf (l : Load) (r : Nat) : Option Nat :=
  (l.parked.reverse.find? fun x => x.headD 0 % 256 == 6).map fun x => bitsOf (x.getD (1 + r / 32) 0) (2 * (r % 32)) 2

/-- A plane is complete (R434). -/
def planeWhole (pl : Plane) : Bool := pl.frames.length == 1372 && pl.essmap.length == 1372 && pl.info

/-- The completeness checks of Table 14-3, with the fences of Table 19-7. -/
def State.complete (s : State) (l : Load) : Bool :=
  let ps := s.loadPlanes l
  ps.all (fun e => planeWhole e.2)
    && (l.isPartial || (List.range 128).all fun r => match activeOf l r with
      | some p => has ps (4 * r + p) && !s.test.fenced.contains (2, 4 * r + p)
      | none => false)
    && (ps.all fun e => ps.all fun f => e.1 / 4 != f.1 / 4 || (List.range 96).all fun m =>
      planeCode e.2 m == 3 || planeCode f.2 m == 3 || planeCode e.2 m == planeCode f.2 m)

/-- SEGMENT_END: the `END` record (R434); one that comes before `LENGTH` is an early end (R445). -/
def execSegmentEnd (s : State) : Out :=
  if !s.cfgRuns then .next s
  else
    let t := nextRecord s
    match t.cfg.load.filter fun l => l.stage == 1 && !l.stopped with
    | none => .next s
    | some l =>
      if l.body.length = l.parsed ∨ t.plainWord l l.parsed % 256 ≠ 255 then .next s
      else if l.parsed + 1 < l.length then .next (failLoad stShort t)
      else
        let bad := l.incomplete || !t.complete l
        .next (setCfgState 3 (t.modLoad fun l =>
          { l with parsed := l.parsed + 1, ended := true, stage := 2, incomplete := bad }))

/-- The checks of R219 and R228 hold for plane `k` of the load with contents `pl`. -/
def State.planeFits (s : State) (l : Load) (k : Nat) (pl : Plane) : Bool :=
  let r := k / 4
  let others := s.otherPlanes r (if l.kind = 3 then [k] else l.planes)
  s.bmCheck r pl others l.parked && s.netCheck r pl (s.otherPlanes r [k])

/-- The plane with what the controller keeps of its segment (R437, R468). -/
def segPlane (l : Load) (pl : Plane) : Plane :=
  let src := if l.source = 0 then some (l.num, l.segPos) else none
  { withNets pl with prot := decide (l.ksrc < 2), source := src, imageId := l.imageId, shadow := [] }

/-- Contents of the memories that the accepted planes `ks` declare are copied (R209, R219). -/
def copyFor (l : Load) (ks : List (Nat × Plane)) (s : State) : State :=
  forEach (l.parked.filter fun x => x.headD 0 % 256 == 2 && ks.any fun e =>
    e.1 / 4 == bitsOf (x.headD 0) 10 7 && planeCode e.2 (bitsOf (x.headD 0) 17 7) != 3) copyBmData s

/-- A hood load commits: each plane becomes a Hood, or is discarded where R219 or R228 refuses it. (DEDUCED, assumption
138) -/
def commitHoods (l : Load) (s : State) : State :=
  let ps := s.loadPlanes l
  let ok := ps.filter fun e => s.planeFits l e.1 e.2
  let s := forEach ok (fun e s => takeCodes (e.1 / 4) e.2 (s.otherPlanes (e.1 / 4) l.planes) s) s
  let s := copyFor l ok s
  let s := forEach ok (fun e s => refreshPlanes (e.1 / 4)
    (askState (e.1 / 4) (e.1 % 4) psHood 0 (cancelRepairs e.1 (s.modPlane (e.1 / 4) (e.1 % 4) (segPlane l))))) s
  let s := s.modLoad fun l => { l with planesDone := ok.length }
  endLoadWith (if ok.length = ps.length then stOk else stDenied) false true s

/-- An overwrite-active reload of region `r` commits: border cause 010b begins and the region set/reset is applied
(R143, R255). (DEDUCED, assumption 139) -/
def owCommit (r : Nat) (s : State) : State :=
  let s := keepPolicy 256 r (beginHold r s)
  let s := (s.set (R.CTX_STAT.OW_FAIL r) 0).modCtx r fun c => { c with ow := 3, owPlane := s.activePlane r }
  refreshReblock (refreshBorder r (initRegion r s))

/-- Region `r` leaves the reload; the last one ends it (R255, R257). (DEDUCED, assumption 139) -/
def owLeave (r : Nat) (s : State) : State :=
  let s := s.modLoad fun l => { l with owLeft := l.owLeft.filter fun q => q != r }
  match s.cfg.load with
  | some l => if l.owLeft = [] then endLoadWith (if l.incomplete then stAuthFail else stOk) false true s else s
  | none => s

/-- Step 3 of Table 8-6 for region `r`: the reload commits on the plane that it names. Where a swap in steps 1 and 2 has left
another plane Active, the region leaves the reload untouched. (DESIGN CHOICE, assumption 218) -/
def owTake (r : Nat) (s : State) : State :=
  match s.cfg.load with
  | some l =>
    if has l.staged (4 * r + s.activePlane r) then owCommit r s
    else owLeave r (refreshReblock (s.modCtx r fun c => { c with ow := 0 }))
  | none => s

/-- Every check of the segment has passed (R462): what commits, commits. -/
def authenticated (s : State) : State :=
  match s.cfg.load with
  | none => s
  | some l =>
    let s := setCfgState 4 (s.modLoad fun l => { l with stage := 4 })
    if l.kind < 2 then s
    else if l.kind = 2 then commitHoods l s
    else if !l.staged.all fun e => s.planeFits l e.1 e.2 then failLoad stDenied s
    else
      let s := forEach l.owLeft (fun r s => s.modCtx r fun c => { c with ow := if c.ow = 1 then 2 else c.ow }) s
      let s := forEach l.owLeft (fun r s => if s.ctxRuns r then s else owTake r s) s
      if l.owLeft = [] then endLoadWith stOk false true s else s

/-- A trailer check of the load fails; the port skips what is left of the trailer. -/
def refuseTrailer (l : Load) (left : Nat) (f : State → State) (s : State) : State :=
  f (applyIf (l.source == 1) (skipPort left) s)

/-- SEGMENT_TAG_CHECK: the payload that a stopped parse left, then the tag (R434, R460, R462). -/
def execSegmentTagCheck (s : State) : Out :=
  if !s.cfgRuns then .next s
  else match s.cfg.load.filter fun l => l.stage == 2 || (l.stage == 1 && l.stopped) with
    | none => .next s
    | some l =>
      let t := takeBody (l.length - l.body.length) s
      match t.cfg.load with
      | none => .next t
      | some l =>
        if l.body.length < l.length then if t.payloadShort l then .next (failLoad stShort t) else .next t
        else
          let w := t.ready l 2
          if w.length < 2 then if t.slotShort l 2 then .next (failLoad stShort t) else .next t
          else
            let t := setCfgState 3 (takeWords 2 t)
            let tag := w.flatMap (leBytes 8)
            let left := if l.signed then 12 else 0
            if gcmTag (t.segKey l) l.iv l.aad (l.body.flatMap (leBytes 8)) ≠ tag then
              .next (refuseTrailer l left (authFail 8) t)
            else if l.stopped || l.incomplete then .next (refuseTrailer l left (failLoad stDenied) t)
            else
              let t := t.modLoad fun l => { l with tag := ofLeBytes tag, stage := 3 }
              if l.signed then .next t else .next (authenticated t)

/-- SIGNATURE_VERIFY: the 96 bytes of r and s over the header, the payload and the tag (R461, R462). -/
def execSignatureVerify (s : State) : Out :=
  if !s.cfgRuns then .next s
  else match s.cfg.load.filter fun l => l.stage == 3 with
    | none => .next s
    | some l =>
      let w := s.ready l 12
      if w.length < 12 then if s.slotShort l 12 then .next (failLoad stShort s) else .next s
      else
        let s := takeWords 12 s
        let b := w.flatMap (leBytes 8)
        let key := at' s.sec.pubKeys (bitsOf l.keysel 2 1) 0
        let digest := sha384 (l.aad ++ l.body.flatMap (leBytes 8) ++ leBytes 16 l.tag)
        if ecdsaOk (key % 2 ^ 384) (key / 2 ^ 384) (numAt b 0 48) (numAt b 48 48) digest then .next (authenticated s)
        else .next (authFail 9 s)

/-! ## Commit of a first Load or full reload -/

/-- Fields that a card marks as set by the image: address and lowest bit. -/
def imageField (a lsb : Nat) : Bool :=
  let at_ := fun base n => decide (base ≤ a) && decide (a < base + 4 * n)
  (at_ 0x100000 2048 && [0, 4, 8, 9].contains lsb) || (at_ 0x102100 24 && lsb == 0)
    || (at_ 0x300000 128 && [0, 4].contains lsb) || (at_ 0x400000 256 && [0, 2, 5].contains lsb)
    || (at_ 0x400400 256 && lsb == 0) || (at_ 0x500000 48 && [0, 3].contains lsb)
    || (at_ 0x700000 96 && [1, 3, 5].contains lsb) || (at_ 0x701400 24 && lsb == 0)
    || (at_ 0x800000 96 && [0, 2, 8, 11, 14].contains lsb) || (at_ 0xA00000 1536 && [0, 3, 21].contains lsb)
    || (at_ 0xA06000 32 && lsb == 11)

/-- The image writes a register: its RW fields and those that the card marks as set by the image (R433). -/
def imageWrite (a v : Nat) (s : State) : State :=
  let s := match cardAt a with
    | none => s
    | some (l, i) => forEach (l.filter fun f => f.lsb / 32 == i && f.addr / 64 != 0xB00000 / 64 && (f.acc == .rw || imageField f.addr f.lsb))
        (fun f s => s.set f (bitsOf v (f.lsb % 32) f.w)) s
  let s := applyIf (decide (0xA00000 ≤ a) && decide (a < 0xA00000 + 4 * 1536))
    (fun s => s.modCh ((a - 0xA00000) / 4) fun c => { c with tap := bitsOf v 12 9 }) s
  let s := applyIf (decide (0xA02000 ≤ a) && decide (a < 0xA02000 + 4 * 1536)) (dropDead ((a - 0xA02000) / 4)) s
  applyIf (decide (0xB00000 ≤ a) && decide (a < 0xB00000 + 64) && a % 4 == 0)
    (fun s => s.modIo fun i => { i with initDac := put i.initDac ((a - 0xB00000) / 4) (v % 4096) }) s

/-- The three codes of `ORDER`, each once. -/
def orderOk (o : Nat) : Bool := [1, 2, 3].all fun c => [bitsOf o 0 2, bitsOf o 2 2, bitsOf o 4 2].contains c

/-- One parked record takes effect (R433, R436). -/
def applyRecord (x : List Nat) (s : State) : State :=
  let h := x.headD 0
  let b := x.drop 1
  match h % 256 with
  | 7 => forEach (List.range (bitsOf h 19 11)) (fun i s =>
      let n := bitsOf h 8 11 + i
      let w := b.getD i 0
      imageWrite (0xA02000 + 4 * n) (w / 2 ^ 32) (imageWrite (0xA00000 + 4 * n) (w % 2 ^ 32) s)) s
  | 8 => forEach (List.range (bitsOf h 8 24)) (fun i s =>
      let w := b.getD (2 * i) 0
      imageWrite (w % 256 * 2 ^ 20 + bitsOf w 8 24) (b.getD (2 * i + 1) 0 % 2 ^ 32) s) s
  | 10 => forEach (List.range (bitsOf h 30 11)) (fun i s =>
      let v := b.getD (2 * i) 0 + 2 ^ 64 * b.getD (2 * i + 1) 0
      s.modNoc fun n => { n with rt := putD n.rt (bitsOf h 8 12 * 1024 + bitsOf h 20 10 + i) 0 (v % 2 ^ 85) }) s
  | 11 =>
    let q := b.getD 0 0
    let d := b.getD 1 0
    if !orderOk (q % 64) then s
    else (((((s.set R.BLK_SEQ.ORDER q).set R.BLK_SEQ.LOCK_TO (q / 64)).set R.BLK_DLY.D_LOCK d).set R.BLK_DLY.D_GSR
      (d / 2 ^ 16)).set R.BLK_DLY.D_WREN (d / 2 ^ 32)).set R.BLK_DLY.D_OUT (d / 2 ^ 48)
  | _ => s

/-- Step 1: the `CLOCK` settings of the image take effect, and each is judged, Locked or Free (R66, R436). A setting
outside its ranges takes effect as well and leaves its domain unlocked. (DEDUCED, assumption 136) -/
def applyClocks (l : Load) (s : State) : State :=
  forEach (l.parked.filter fun x => x.headD 0 % 256 == 9) (fun x s =>
    let h := x.headD 0
    let dom := bitsOf h 8 5
    if settable dom then judgeSetting dom (changeSetting dom (bitsOf h 13 1) (bitsOf h 14 8) (bitsOf h 22 8) s) else s) s

/-- Field key `k` belongs to what an image sets as a whole: a field that a card marks so, a pin, or `SEQ` (R436).
(DEDUCED, assumption 137) -/
def imageKey (k : Nat) : Bool :=
  let a := k / 64
  imageField a (k % 64) || (decide (0xA00000 ≤ a) && decide (a < 0xA00000 + 4 * 1536))
    || (decide (0xA02000 ≤ a) && decide (a < 0xA02000 + 4 * 1536) && !([4, 5, 6, 7].contains (k % 64))) || a == 0xC00010 || a == 0xC00014

/-- Registers of the image as before any Load: what R436 writes over. (DEDUCED, assumption 137) -/
def imageDefaults (s : State) : State :=
  let s := { s with regs := dropKeys s.regs imageKey }
  let s := s.modNoc fun n => { n with rt := [] }
  s.modIo fun i => { i with initDac := [], ch := i.ch.map fun (e : Nat × TdcCh) => (e.1, { e.2 with tap := 0 }) }

/-- Step 3: banks and segments are set and cleared (R283, R313). -/
def resetStores (s : State) : State :=
  let s := forEach (List.range 256) (fun b s =>
    let s := (s.set (R.BANK_CFG.CMODE b) 0).set (R.SPILL_STAT.EN b) 0
    let s := (((s.set (R.BANK_OWN.PEND b) 0).set (R.BANK_OWN.GO b) 0).set (R.SPILL_STAT.PTR b) 0).set (R.SPILL_STAT.MARK b) 0
    let s := ((breakSeq b s).set (R.BANK_STAT.CLR_BUSY b) 0).set (R.BANK_STAT.CLR b) 0
    let s := s.modBank' b fun k => { Bank.init with cyc := k.cyc, spares := k.spares }
    if s.get (R.BANK_CFG.PWR b) = 0 then clearBank b s else s) s
  let s := forEach (List.range 4) (fun d s => (s.set (R.CMODE_CFG.EN d) 0).modCm d fun c => { c with tags := [] }) s
  refreshCached (refreshSpill (forEach (List.range 48) (fun g s =>
    clearSegment g ((s.set (R.SEG_CFG.CLR_BUSY g) 0).set (R.SEG_CFG.CLR g) 0)) s))

/-- Step 5: a written plane becomes Active or Hood; a fenced one stays Empty (R436, R567). -/
def placePlane (l : Load) (k : Nat) (s : State) : State :=
  let r := k / 4
  let p := k % 4
  if s.test.fenced.contains (2, k) then emptyPlane r p s
  else
    let s := s.modPlane r p (segPlane l)
    if activeOf l r = some p then
      let s := (setPlaneState r p psActive s).set (R.CTX_STAT.ACTIVE r) p
      let nets := (List.range 16).map fun n => s.netSet (16 * r + n)
      let s := s.modPlane r p fun x => { x with nets := nets, portEn := s.flag (R.CTX_CFG.PORT_EN r) }
      takeNets r p s
    else setPlaneState r p psHood s

/-- Regions that `DIE_POWER` fenced return, where their upper unit is on (R532). -/
def endPowerFences (s : State) : State :=
  let back := s.therm.powerFence.filter fun q => !s.therm.upperOff.contains q
  let s := eachRegion (fun r s => if back.contains (quadOf r) then refreshBorder r (s.set (R.BORDER_STAT.FENCED r) 0)
    else s) s
  { s with therm := { s.therm with powerFence := s.therm.powerFence.filter fun q => !back.contains q } }

/-- Blocking begins (R451). (DEDUCED, assumption 140) -/
def startBlocking (resume fill : Bool) (s : State) : State :=
  let s := (((s.set R.BLK_STAT.DONE 0).set R.BLK_STAT.CUR 0).set R.BLK_STAT.FILLING 0).set R.BLK_STAT.FAIL 0
  s.modCfg fun c => { c with blk := ⟨true, resume, 0, false, fill⟩ }

/-- LOAD_COMMIT: a first Load or full reload takes effect in the steps of R436. (DEDUCED, assumption 137) -/
def execLoadCommit (s : State) : Out :=
  match s.cfg.load.filter fun l => l.stage == 4 && decide (l.kind < 2) with
  | none => .next s
  | some l =>
    if !s.cfgRuns then .next s
    else
      let s := applyClocks l (imageDefaults s)
      let s := forEach l.parked applyRecord s
      let s := resetStores s
      let ps := s.loadPlanes l
      let s := forEach ps (fun e s => takeCodes (e.1 / 4) e.2 [] s) s
      let s := copyFor l ps s
      let s := forEach l.planes (placePlane l) (endPowerFences s)
      let s := eachRegion (fun r s => swapPlume r (refreshPlanes r s)) s
      let s := s.modLoad fun l => { l with planesDone := l.planes.length }
      let s := (s.set R.CFG_ID.IMAGE_ID l.imageId).setB R.CFG_STAT.FALLBACK (s.cfg.golden && l.source == 0 && l.num == 0)
      let fill := l.felt || s.flag R.STRAP_LATCH.FELT
      let s := s.modCfg fun c => { c with felt := l.felt, fillVal := l.fill, golden := false }
      let s := endLoadWith stOk false false s
      .next (bootCal (commitMode mBlocking (startBlocking false fill s)))

/-! ## The load timeout -/

/-- A first load that Boot started waits on its source and has received nothing. (DEDUCED, assumption 135) -/
def State.waitsFirst (s : State) (l : Load) : Bool :=
  l.serial == 0 && l.stage == 0 && s.ready l 1 == [] && decide (s.cfg.received = 0)

/-- LOAD_TIMEOUT: the input has been idle for the load timeout (R432, R444–R446); a word seen at the same edge counts.
(DEDUCED, assumption 135) -/
def execLoadTimeout (wordAtEdge : Bool) (s : State) : Out :=
  if !s.cfgRuns then .next s
  else if wordAtEdge then .next (s.modLoad fun l => if l.source = 0 then l else { l with late := true })
  else
    let s := (s.modCfg fun c => { c with discard := false, fwdLeft := 0, skipLeft := 0 }).set R.CFG_STAT.FWD 0
    match s.cfg.load with
    | none => .next (s.modCfg fun c => { c with input := [] })
    | some l =>
      if l.source = 0 ∨ s.waitsFirst l ∨ l.stage = 4 then .next s
      else .next (failLoad stShort (applyIf (l.source == 1) (fun s => s.modCfg fun c => { c with input := [] }) s))

/-! ## Overwrite-active reloads -/

/-- The overwrite-active reload that runs, if it is authenticated and names region `r`. -/
def State.owLoad (s : State) (r : Nat) : Option Load :=
  s.cfg.load.filter fun l => l.kind == 3 && l.stage == 4 && l.owLeft.contains r

/-- OW_RELOAD_COMMIT: step 3 of Table 8-6 at the edge that the context clock has just made. -/
def execOwReloadCommit (r : Fin 128) (s : State) : Out :=
  match s.owLoad r with
  | some _ => if (s.ctxR r).edge ∧ ((s.ctxR r).ow = 2 ∨ (s.ctxR r).ow = 4) then .next (owTake r s) else .next s
  | none => .next s

/-- OW_COPY_DONE: steps 4 and 5 of Table 8-6, or the failure of R257. (DEDUCED, assumption 139) -/
def execOwCopyDone (r : Fin 128) (landingError : Bool) (s : State) : Out :=
  match s.owLoad r with
  | none => .next s
  | some l =>
    if (s.ctxR r).ow ≠ 3 then .next s
    else if landingError then
      let s := (s.set (R.CTX_STAT.OW_FAIL r) 1).modCtx r fun c => { c with ow := 4 }
      let s := s.modLoad fun l => { l with incomplete := true }
      .next (owLeave r (raise 0x0211 [(1, r)] s))
    else
      let p := (s.ctxR r).owPlane
      let k := 4 * r.val + p
      let pl := at' l.staged k Plane.empty
      let s := takeCodes r pl (s.otherPlanes r [k]) s
      let s := copyFor l [(k, pl)] (cancelRepairs k s)
      let s := takeNets r p (refreshPlanes r (s.modPlane r p fun _ => segPlane l pl))
      let s := s.setB (R.CTX_CFG.PORT_EN r) (segPlane l pl).portEn
      let s := s.modLoad fun l => { l with planesDone := l.planesDone + 1 }
      .next (swapPlume r (s.modCtx r fun c => { c with ow := 5 }))

/-- OW_REGION_RELEASE: step 6 of Table 8-6; a lost context-clock source keeps the region behind its borders (R256). -/
def execOwRegionRelease (r : Fin 128) (s : State) : Out :=
  match s.owLoad r with
  | none => .next s
  | some _ =>
    if (s.ctxR r).ow ≠ 5 ∨ s.fab.lost.contains (s.ctxNet r) then .next s
    else
      let s := releaseNets r (s.modCtx r fun c => { c with ow := 0 })
      let s := raise 0x0212 [(1, r)] (refreshReblock (refreshBorder r s))
      .next (owLeave r s)

end Sys2Proof.Machine
end

