-- ==== Sys2Proof/Machine/ModeOps.lean ====
section
/-! DEFINITION. What the mode controller's commits do to every subsystem: entry to Safe, to Quiescent and to Standby, and
the return from Quiescent ("Operating Modes and Straps"). -/

namespace Sys2Proof.Machine

/-- Change the AON state. -/
def State.modAon (s : State) (f : Aon → Aon) : State := { s with aon := f s.aon }

/-- Change the heat and life state. -/
def State.modTherm (s : State) (f : Therm → Therm) : State := { s with therm := f s.therm }

/-- Change the management state. -/
def State.modMgt (s : State) (f : Mgt → Mgt) : State := { s with mgt := f s.mgt }

/-! ## Quiescent -/

/-- Serial numbers of the commands with code `c` that run: in their mailboxes, or orphans. -/
def State.running (s : State) (c : Nat) : List Nat :=
  (((List.range 16).filter fun m =>
    let b := s.mbox m
    s.get (R.MB_CTL.STATE m) == 2 && b.cmd == c && b.started && b.outcome.isNone).map fun m => (s.mbox m).serial)
    ++ (s.mgt.orphans.filter fun o => o.cmd == c).map fun o => o.serial

/-- No wake source waits, and `WAKE` reads 0 (Table 2-2). -/
def clearWake (s : State) : State := (s.set R.DEV_MODE.WAKE 0).modAon fun a => { a with waking := false }

/-- The subsystems enter Quiescent (Table 2-5, R289): clocks stopped, banks retained, Bulk Store in self-refresh, lanes
in Doze or Sleep. -/
def quiesce (sleep : Nat) (s : State) : State :=
  let s := (holdPins s).modFab fun f => { f with clocksOn := false }
  let s := forEach (List.range 256) (fun b s =>
    let p := s.get (R.BANK_CFG.PWR b)
    (s.modBank' b fun k => { k with pwrWas := p }).set (R.BANK_CFG.PWR b) (if p = 0 then 1 else p)) s
  let s := forEach (List.range 2) (fun k s => s.set (R.BULK_STAT.SELFREF k) 1) s
  forEach (List.range 96) (fun l s => if s.laneState l = lsUp then bundleCheckDown l (dozeLane sleep l s) else s) s

/-- The subsystems return from Quiescent (R289, R425). (DEDUCED, assumption 32) -/
def unquiesce (s : State) : State :=
  let s := forEach (List.range 256) (fun b s =>
    (s.set (R.BANK_CFG.PWR b) (s.bank b).pwrWas).modBank' b fun k => { k with pwrWas := 0 }) s
  let s := forEach (List.range 2) (fun k s => s.set (R.BULK_STAT.SELFREF k) 0) s
  let s := forEach (List.range 96) exitDoze s
  releaseDoors (clearWake s)

/-- A wake source occurs: in Quiescent, or before the commit point of an entry (R47, R48). -/
def wakeSource (s : State) : State :=
  if s.mode = mQuiescent ∨ s.aon.quiesceReq.isSome then s.modAon fun a => { a with waking := true } else s

/-! ## Safe -/

/-- Another transition has outranked Quiescent: its wakes are void, and the commands that waited for a wake or for the
entry can no longer be executed (R50). -/
def dropWakes (s : State) : State :=
  let l := s.aon.wakeCmds ++ if s.aon.quiesceReq.isSome then s.running 0x0103 else []
  let s := clearWake (s.modAon fun a => { a with wakeCmds := [], quiesceReq := none })
  forEach l (fun n => finishCmd n stDenied [] false) s

/-- Entry to Safe with cause `c`, or a later cause of the same entry (R46). Clocks stop and outputs present their safe
values; a load ends early unless it has committed (R449); writes are disabled (R450). -/
def enterSafe (c : Nat) (s : State) : State :=
  if s.mode = mSafe then
    s.modAon fun a => { a with safeCauses := if a.safeCauses.contains c then a.safeCauses else a.safeCauses ++ [c] }
  else if !s.up then s
  else
    let was := s.mode
    let s := (s.set R.DEV_MODE.SAFE_CAUSE c).modAon fun a => { a with safeCauses := [c], pairWait := false }
    let s := dropWakes (commitMode mSafe s)
    let s := applyIf (was == mQuiescent) unquiesce s
    let s := (applyIf (was != mQuiescent) holdPins s).modFab fun f => { f with clocksOn := false, writes := false }
    let s := s.modIo fun i => { i with released := false }
    let s := s.modCfg fun k => { k with blk := { k.blk with active := false, delay := false } }
    let s := s.set R.BLK_STAT.FILLING 0
    if s.loadCommitted then s else endLoadWith stShort false false s

/-! ## Standby -/

/-- Fields that keep their value through Standby (R40, R540, R582): `DEV_MODE` but for its conditions and `WAKE`,
`STRAP_LATCH`, the key and tamper fields of `SEC_STAT`, `WDOG_STAT`, the thermal settings and sticky flags, `PWR_STAT`
and `LIFE_USED`. (DEDUCED, assumption 20) -/
def standbyKey (k : Nat) : Bool :=
  let a := k / 64
  let b := k % 64
  (a == 0x4 && !([8, 9, 10, 11, 26].contains b)) || a == 0x8 || (a == 0x64 && [0, 1, 2, 3, 16].contains b) || a == 0x68
    || a == 0x700 || (a == 0x704 && decide (8 ≤ b)) || a == 0x70C || a == 0x710

/-- The commit of Standby: every function outside AON is held in reset and loses its state; what AON, the fuses, the
records area, the image store and the key memory hold stays (R39, R529, R582). (DEDUCED, assumption 20) -/
def enterStandby (s : State) : State :=
  let s := commitMode mStandby s
  { State.reset with
    pending := s.pending
    regs := dropKeys s.regs fun k => !standbyKey k
    free := s.free
    aon := { Aon.reset with
      revision := s.aon.revision, fastGrade := s.aon.fastGrade, tempI := s.aon.tempI, keyB := s.aon.keyB
      serial := s.aon.serial, strapPins := s.aon.strapPins, resetHigh := s.aon.resetHigh, testDone := s.aon.testDone }
    mgt := { Mgt.reset with fw := s.mgt.fw, copy := s.mgt.copy, cal := s.mgt.cal, calBoot := s.mgt.calBoot }
    therm := { s.therm with
      sensBad := [], sensFailed := [], dieMax := [], cool := true, vert := [], fences := [], upperOff := [], memOff := []
      powerFence := [] }
    link := { Link.reset with epoch := s.link.epoch, bootEpoch := s.link.bootEpoch, mkM := s.link.mkM, mkK := s.link.mkK, mclkLane := s.link.mclkLane }
    test := { Test.reset with recs := s.test.recs, fuse := s.test.fuse, soft := s.test.soft, policy := s.test.policy }
    io := { Io.reset with vio := s.io.vio }
    cfg := { Cfg.reset with slots := s.cfg.slots, bootSlot := s.cfg.bootSlot, journal := s.cfg.journal }
    sec := s.sec }

end Sys2Proof.Machine
end

