-- ==== Sys2Proof/Machine/Blocking.lean ====
section
/-! DEFINITION. Blocking, the programmable start-up sequence, and felting fill ("Configuration Loading and Blocking"). -/

namespace Sys2Proof.Machine

/-- A synthesized domain that the LOCK step waits for: the fixed ones and TDC, a side with an enabled lane, an FG tree
that a net or a seam port uses (R451, R526). (DEDUCED, assumption 201) -/
def State.inUse (s : State) (d : Nat) : Bool :=
  if 17 ≤ d ∧ d ≤ 20 then (List.range 24).any fun i => s.flag (R.LANE_CFG.EN (24 * (d - 17) + i))
  else if 21 ≤ d ∧ d ≤ 24 then
    s.seamUses (d - 21) || (List.range 2048).any fun n =>
      s.get (R.RCN_CFG.SRC_A n) == d - 21 || (s.flag (R.RCN_CFG.SW_EN n) && s.get (R.RCN_CFG.SRC_B n) == d - 21)
  else synthesized d

/-- Every synthesized domain in use is locked. (DEDUCED, assumption 201) -/
def State.allLocked (s : State) : Bool := (List.range 25).all fun d => !s.inUse d || s.bit R.CLK_LOCK.LOCK d

/-- Code of slot `i`, 1–3, of `BLK_SEQ.ORDER`: 1 GSR, 2 WREN, 3 OUT (Table 14-11). -/
def State.blkCode (s : State) (i : Nat) : Nat := bitsOf (s.get R.BLK_SEQ.ORDER) (2 * (i - 1)) 2

/-- GSR is released on every net (R144). (DEDUCED, assumption 140) -/
def stepGsr (s : State) : State := eachRegion releaseNets (s.set R.FAB_CTL.GSR_HELD 0)

/-- The write disable of R450 ends. -/
def stepWren (s : State) : State := s.modFab fun f => { f with writes := true }

/-- Outputs go live (R105, R125, R338): banks are checked and released, initial DAC codes load after a first Load or full
reload, and the enabled lanes that are not up start. -/
def stepOut (resume : Bool) (s : State) : State :=
  let s := forEach (List.range 32) checkVio s
  let s := driveDacs (s.modIo fun i => { i with released := true })
  let s := if resume then s
    else (forEach s.io.initDac (fun (e : Nat × Nat) s => if s.held 0xB1 then s else loadDac e.1 ⟨3, e.2, 0⟩ s) s).modIo fun i =>
      { i with initDac := [] }
  forEach (List.range 96) (fun l s =>
    if s.flag (R.LANE_CFG.EN l) && decide (s.laneState l ≤ lsIdle) then bringUp l s
    else s) s

/-- Blocking ends: Run-class, or the pairing wait of R42. Pounce begins a new round (R477). -/
def endBlocking (s : State) : State :=
  let s := s.modCfg fun c => { c with blk := ⟨false, false, 4, false, false⟩ }
  let s := { s with integ := { s.integ with pos := [], slot := [] } }
  let s := s.modAon fun a => { a with imageDone := true }
  let t := s.get R.STRAP_LATCH.TWIN
  if (t = 1 ∨ t = 2) ∧ !s.flag R.DEV_MODE.COND_TWIN then
    tryPair (sendPairId (s.modAon fun a => { a with pairWait := true }))
  else commitMode s.topMode s

/-- The step in slot `i` and what follows it: `n` slots are left (R451, R454). (DEDUCED, assumption 140) -/
def runSteps : Nat → Nat → State → State
  | 0, _, s => endBlocking s
  | n + 1, i, s =>
    let c := s.blkCode i
    if c = 1 ∧ s.cfg.blk.resume ∧ !s.flag R.FAB_CTL.GSR_HELD then runSteps n (i + 1) s
    else
      let s := s.modCfg fun k => { k with blk := { k.blk with step := i, delay := true } }
      let s := (s.set R.BLK_STAT.CUR c).setBit R.BLK_STAT.DONE c true
      match c with
      | 1 => stepGsr s
      | 2 => stepWren s
      | _ => stepOut s.cfg.blk.resume s

/-- The step after the present one runs. -/
def nextStep (s : State) : State := runSteps (3 - s.cfg.blk.step) (s.cfg.blk.step + 1) s

/-- At the LOCK step of a first Load or full reload the timing lane and the management lane pass bring-up again under their
image settings (R396). -/
def retrainBootLanes (s : State) : State :=
  if s.cfg.blk.resume then s
  else
    let l := (if s.flag R.STRAP_LATCH.MCLK_SRC then [0] else []) ++ if s.flag R.STRAP_LATCH.FCB_EN then [] else [24]
    forEach l (fun l s =>
      let s := bundleCheckDown l (setLane l lsOff s)
      applyIf (s.flag (R.LANE_CFG.EN l)) (bringUp l) s) s

/-- BLOCKING_LOCK_DONE: region clock nets start, and the delay of LOCK runs (R451). -/
def execBlockingLockDone (s : State) : Out :=
  let b := s.cfg.blk
  if !b.active || b.step != 0 || b.delay || s.flag R.BLK_STAT.FILLING || !s.allLocked then .next s
  else
    let s := (s.setBit R.BLK_STAT.DONE 0 true).modFab fun f => { f with clocksOn := true }
    .next (retrainBootLanes (s.modCfg fun c => { c with blk := { c.blk with delay := true } }))

/-- LOCK_TIMEOUT: Blocking fails (R73, R453). -/
def execLockTimeout (s : State) : Out :=
  let b := s.cfg.blk
  if !b.active || b.step != 0 || s.bit R.BLK_STAT.DONE 0 then .next s
  else .next (enterSafe 6 (s.set R.BLK_STAT.FAIL 1))

/-- BLOCKING_DELAY_END: the delay of a step ends; felting fill, the next step or the end of Blocking follows (R451,
R452). -/
def execBlockingDelayEnd (s : State) : Out :=
  let b := s.cfg.blk
  if !b.active || !b.delay then .next s
  else if b.step = 0 ∧ b.fill then
    .next ((s.set R.BLK_STAT.FILLING 1).modCfg fun c => { c with blk := { c.blk with delay := false, fill := false } })
  else .next (nextStep s)

/-- Unwritten rows of block memory `m` take the fill value (R210). -/
def fillBm (v m : Nat) (s : State) : State :=
  let code := s.get (R.BM_STAT.CODE m)
  if code = 3 then s
  else s.modBm fun b => { b with rows := (List.range 1024).foldl (fun a i =>
    if has a (1024 * m + i) then a else put a (1024 * m + i) (packLanes (laneBits code) 4 fun _ => v)) b.rows }

/-- Unwritten rows of bank `b` take the fill value, if it is On; an offline bank is skipped and reported (R286, R452).
(DEDUCED, assumption 202) -/
def fillBank (v b : Nat) (s : State) : State :=
  if s.bankOut b then raise 0x0203 [(2, b)] s
  else if s.get (R.BANK_CFG.PWR b) ≠ 0 then s
  else s.modCache fun c => { c with rows := (List.range 16384).foldl (fun a i =>
    if has a (rowKey b i) then a else put a (rowKey b i) (packLanes (laneBits (s.bankCode b)) 128 fun _ => v)) c.rows }

/-- Unwritten pages of stack `k` take the fill value; a stack in reset is skipped and reported (R314, R452). (DEDUCED,
assumption 202) -/
def fillStack (v k : Nat) (s : State) : State :=
  if s.held (0x9C + k) then raise 0x0203 [(2, 256 + k)] s
  else
    let d := (List.range 1024).foldl (fun a i => a + v * 2 ^ (16 * i)) 0
    s.modBulk fun b => { b with pages := (List.range stackPages).foldl (fun a i =>
      if has a (stackPages * k + i) then a else put a (stackPages * k + i) d) b.pages }

/-- FELTING_FILL_END: the fill of the block memories, the cache and the Bulk Store ends; the next step follows.
The fill engine comes after every other requester of a bank (R269). (DEDUCED, assumption 202) -/
def execFeltingFillEnd (s : State) : Out :=
  if !s.cfg.blk.active || !s.flag R.BLK_STAT.FILLING || (List.range 256).any fun b => s.cands b != ([], []) then .next s
  else
    let v := s.cfg.fillVal
    let s := forEach (List.range 12288) (fillBm v) s
    let s := forEach (List.range 256) (fillBank v) s
    let s := forEach (List.range 2) (fillStack v) s
    .next (nextStep (s.set R.BLK_STAT.FILLING 0))

end Sys2Proof.Machine
end

