-- ==== Sys2Proof/Machine/Cal.lean ====
section
/-! DEFINITION. The calibration commands ("Milliner, Mailboxes and the Fast Control Bus", Table 17-23). -/

namespace Sys2Proof.Machine

/-- A calibration record is stored in slot 5. -/
def storeCal (n : Nat) (b : List Nat) (s : State) : State :=
  s.modMgt fun g => { g with cal := put g.cal n ⟨b⟩ }

/-- The answer of an export (R520, Table 17-23): the record in the completion frames, or its length and CRC after it has
been written to the NoC or to slot 5. (DEDUCED, assumption 179) -/
def State.exportAns (s : State) (scope dest num : Nat) : Ans :=
  let b := s.calRecord scope
  let r := [(4, b.length), (4, crc32 (b.take (b.length - 8)))]
  if dest = 0 then if 8192 < b.length then .fail stNoResource s else .done stOk b s
  else if dest = 1 then
    .ret r (sendWrites 0xA0 (bitsOf num 44 20) (bitsOf num 32 12) (b.length / 512 + 1) (num % 2 ^ 32) b s)
  else .ret r (storeCal num b s)

/-- CAL_EXPORT (R520, R521). (DEDUCED, assumption 179) -/
def execCalExport (mb scope dest num : Nat) (s : State) : Out :=
  .next (talnum mb 0x0C00
    ([(1, scope), (1, dest)] ++ if dest = 1 then [(8, num)] else if dest = 2 then [(1, num)] else [])
    (checks [(scope == 0 || decide (32 ≤ scope) || decide (3 ≤ dest) || (dest == 2 && decide (8 ≤ num)), stBadArg)]
      fun s => s.exportAns scope dest num) s)

/-- The answer of an import of a record (R521). (DEDUCED, assumption 180) -/
def State.importAns (s : State) (b : List Nat) (force : Nat) : Ans :=
  match calParse b with
  | none => .fail stBadArg s
  | some l =>
    if numAt b 8 16 ≠ s.aon.serial ∧ force ≠ 1 then .fail stDenied s
    else
      let st := s.calStatus l
      if st ≠ stOk then .fail st s else .ret [(2, (calUnits l).length)] (writeCal l s)

/-- CAL_IMPORT (R521). (DEDUCED, assumption 180) -/
def execCalImport (mb source num : Nat) (bytes : List Nat) (force : Nat) (s : State) : Out :=
  if source = 2 then
    .next (talnum mb 0x0C01 [(1, source), (1, num), (1, force)]
      (checks [(decide (8 ≤ num) || decide (2 ≤ force), stBadArg)] fun s =>
        match lookup s.mgt.cal num with
        | none => .fail stBadArg s
        | some r => s.importAns r.bytes force) s)
  else
    .next (talnumBytes mb 0x0C01 [(1, source)] (bytes ++ [force])
      (checks [(source != 0 || decide (2 ≤ force) || decide (8192 < bytes.length), stBadArg)] fun s =>
        s.importAns bytes force) s)

/-- CAL_LIST (R522). (DEDUCED, assumption 181) -/
def execCalList (mb : Nat) (s : State) : Out :=
  .next (talnum mb 0x0C02 [] (fun s =>
    .ret (((List.range 8).flatMap fun n => match lookup s.mgt.cal n with
      | none => [(1, 0), (4, 0), (6, 0), (1, 0)]
      | some r => [(1, 1), (4, r.bytes.length), (6, numAt r.bytes 24 6), (1, r.bytes.getD 30 0)])
      ++ [(1, s.mgt.calBoot)]) s) s)

/-- CAL_SAVE (R522): erases a record, or names the boot record. (DEDUCED, assumption 181) -/
def execCalSave (mb setBoot num : Nat) (s : State) : Out :=
  .next (talnum mb 0x0C03 [(1, setBoot), (1, num)]
    (checks [(decide (2 ≤ setBoot) || (decide (8 ≤ num) && !(setBoot == 1 && num == 255)), stBadArg)] fun s =>
      .ok (s.modMgt fun g =>
        if setBoot = 1 then { g with calBoot := num } else { g with cal := g.cal.filter fun e => e.1 != num })) s)

end Sys2Proof.Machine
end

