-- ==== Sys2Proof/Machine/Link.lean ====
section
/-! DEFINITION. The commands of the Spaif link: trigger, packet, timing and BASE-R channels, and the link commands
("The Spaif Link and Systems of Many Devices"). Twin pairs are in `Twin`. -/

namespace Sys2Proof.Machine

/-! ## Trigger channel -/

/-- The trigger port of lane `l` as its edge region sees it: without trigger slots its outputs read 0 (R374, Table 12-2). -/
def State.trgPort (s : State) (l : Nat) : TrgPort := if s.get (R.LINK_CFG.TRIG_SLOTS l) = 0 then trgInit else s.trg l

/-- The digest of trigger words, in lane order and then slot order (R398). (DEDUCED, assumption 120) -/
def digestOf (words : List (Nat × Nat × Nat)) : Nat :=
  let m : SMap Nat := words.foldl (fun m e => put m (64 * e.1 + e.2.1) e.2.2) []
  crc32 (m.flatMap fun e => leBytes 8 e.2)

/-- The words of an earlier tick are digested when a word of another tick comes. (DEDUCED, assumption 120) -/
def closeWords (s : State) : State :=
  if s.link.words = [] ∨ s.link.wordsTick = s.clk.tick then s
  else s.modLink fun k => { k with digests := put k.digests k.wordsTick (digestOf k.words), words := [] }

/-- Payloads of an `EMPTY` and of a `SAFE` block (Table 12-1). (DEDUCED, assumption 105) -/
def emptyPayload : Nat := 0x33
def safePayload (sender cause : Nat) : Nat := 0x78 + 2 ^ 8 * (sender % 2 ^ 20) + 2 ^ 28 * (cause % 16)

/-- Payload of a received trigger slot. (DEDUCED, assumption 105) -/
def slotPayload : SlotBlk → Nat
  | .word w => w.toNat
  | .empty => emptyPayload
  | .safe d c => safePayload d.toNat c.toNat
  | .error p => p.toNat

/-- The tick that a marker presented now must carry: the one that began the fixed latency ago (R373). (DEDUCED,
assumption 104) -/
def State.markTick (s : State) (l : Nat) : Nat :=
  let m := (at' s.clk.synth (sideDomain l) ⟨0, 0, 0, 0, false, false⟩).n
  (s.clk.tick + (tickMod - (s.lst l).flUsed / max m 1 % tickMod)) % tickMod

/-- TICK_MARKER_RX: a marker comes over physical lane `x`. The interval's `TCRC` is checked, and in fixed mode the marker must
carry the tick that began `FL_LAT` cycles ago; otherwise `TICK_MIS` is set (R341, R373). (DEDUCED, assumptions 103, 104) -/
def execTickMarkerRx (x : Fin 96) (tick : Nat) (hold : Bool) (tcrc' skew : Nat) (s : State) : Out :=
  let l := s.delivers x
  if s.laneState l ≠ lsUp ∨ s.baseR l then .next s
  else
    let f := s.bundleOf l
    let s := recvBlock l (markerPayload hold tick tcrc') s
    let s := applyIf (decide (16 < skew)) (fun s =>
      (s.set (R.LINK_STAT.SKEW_ERR f) 1).modBdl f fun b => { b with skewHold := true }) s
    let p := s.trg l
    let bad := tcrc p.rxIv != tcrc'
    let s := applyIf bad (fun s => s.inc (R.LINK_STAT.TRG_ERR l)) s
    let s := s.modTrg l fun p => { p with rtick := tick, rbad := bad, rhold := hold, rxIv := [], rmark := true, rslot := 0 }
    if s.fixedMode l ∧ tick ≠ s.markTick l then
      let s := applyIf (decide (92 ≤ l)) (fun s => s.modLink fun k => { k with lastMis := some s.clk.tick }) s
      .next (raise 0x0410 [(1, l), (6, tick), (6, s.markTick l)] (s.set (R.LINK_STAT.TICK_MIS l) 1))
    else .next (applyIf (decide (92 ≤ l)) tryPair s)

/-- A border cause holds at the edge region of lane `l` (R377). -/
def State.trgBlocked (s : State) (l : Nat) : Bool :=
  s.flag (R.BORDER_STAT.HOLDING (laneRegion l)) && s.get (R.BORDER_STAT.CAUSE (laneRegion l)) != 1

/-- A block leaves in trigger slot `slot` of lane `l`, and enters the `TCRC` of its interval (R373, R374). -/
def sendSlot (l slot kind word payload : Nat) (s : State) : State :=
  sendBlock l (if kind = 1 then 1 else 2) payload
    (s.modTrg l fun p => { p with tslot := slot, txKind := kind, txWord := word, txIv := p.txIv ++ [payload] })

/-- TRIGGER_SLOT_TX: the port samples the slot's word and sends a data block or `EMPTY`; in Safe it sends `SAFE`
(R374, R377). `td` and `tv` are the values past the border, in a swap those that its cells hold. Words of a lane with `DIG_EN`
enter the digest of their tick (R398). -/
def execTriggerSlotTx (l : Fin 96) (slot : Nat) (td : BitVec 64) (tv : Bool) (s : State) : Out :=
  if s.laneState l ≠ lsUp ∨ slot < 1 ∨ s.get (R.LINK_CFG.TRIG_SLOTS l) < slot then .next s
  else if s.mode = mSafe then .next (sendSlot l slot 3 0 (safePayload s.devId (s.get R.DEV_MODE.SAFE_CAUSE)) s)
  else if tv ∧ s.fab.writes ∧ !s.trgBlocked l ∧ !(s.lst l).trgEmpty ∧ !s.fab.cutLanes.contains l then
    let s := sendSlot l slot 1 td.toNat td.toNat s
    if s.flag (R.LINK_CFG.DIG_EN l) then
      .next ((closeWords s).modLink fun k => { k with
        words := k.words ++ [(l.val, slot, td.toNat)], wordsTick := s.clk.tick })
    else .next s
  else .next (sendSlot l slot 2 0 emptyPayload s)

/-- TRIGGER_SLOT_RX: a slot received over physical lane `x` is presented with its flags; only a data word is valid (R341, R375,
R376). A lane whose tick alignment was lost, or whose trigger group is fenced, presents no word (Table 18-6). (DEDUCED,
assumption 103) -/
def execTriggerSlotRx (x : Fin 96) (slot : Nat) (blk : SlotBlk) (s : State) : Out :=
  let l := s.delivers x
  if s.laneState l ≠ lsUp ∨ slot < 1 ∨ s.get (R.LINK_CFG.TRIG_SLOTS l) < slot then .next s
  else
    let s := (recvBlock l (slotPayload blk) s).modTrg l fun p =>
      { p with rslot := slot, rd := 0, rv := false, rerr := false, rmark := false, rxIv := p.rxIv ++ [slotPayload blk] }
    if s.fab.cutLanes.contains l then .next (s.modTrg l fun p => { p with rerr := true })
    else match blk with
      | .word w =>
        let v := !(s.lst l).trgEmpty
        .next (s.modTrg l fun p => { p with rd := if v then w.toNat else 0, rv := v, rsafe := false })
      | .empty => .next (s.modTrg l fun p => { p with rsafe := false })
      | .safe _ _ => .next (s.modTrg l fun p => { p with rsafe := true })
      | .error _ => .next (s.modTrg l fun p => { p with rerr := true })

/-- SAFE_BLOCK_RX: `SAFE` blocks set `TRG_RSAFE` and `PEER_SAFE`, and `LINK_PEER_SAFE` is raised once per Safe entry of
the far device; their end clears `PEER_SAFE` (R377). -/
def execSafeBlockRx (l : Fin 96) (sender cause : Nat) (active : Bool) (s : State) : Out :=
  let f := s.bundleOf l
  if s.laneState l ≠ lsUp ∨ s.baseR l then .next s
  else
    let s := (s.setB (R.LINK_STAT.PEER_SAFE f) active).modTrg l fun p => { p with rsafe := active }
    if active then
      if (s.bdl f).safeSeen then .next s
      else .next (raise 0x0411 [(1, f), (3, sender), (1, cause)] (s.modBdl f fun b => { b with safeSeen := true }))
    else .next (s.modBdl f fun b => { b with safeSeen := false })

/-! ## Packet channel -/

/-- `PCRC` of a packet (R379): bits [26:8] of `PKT_S`, then the data blocks. (DESIGN CHOICE, assumption 110) -/
def pcrcOf (lseq count vc : Nat) (flits : List (BitVec 256)) : Nat :=
  crc32Bits (bitList 19 (lseq % 4096 + 2 ^ 12 * count + 2 ^ 17 * vc)
    ++ flits.flatMap fun f => bitList 256 f.toNat)

/-- Credits given back for `n` flits of a virtual channel. -/
def addCredit (l : List Nat) (vc n : Nat) : List Nat := l.set vc (l.getD vc 0 + n)

/-- The buffer of packet `p` is free again, and its credits are returned (R380). (DEDUCED, assumption 106) -/
def returnCredit (f : Nat) (p : Pkt) (s : State) : State :=
  s.modBdl f fun b => { b with giveBack := addCredit b.giveBack p.vc (pktFlits p), ackDue := true }

/-- A packet's sequence number is remembered for duplicate suppression (R401): `true` = it was delivered before.
(DEDUCED, assumption 106) -/
def dupCheck (f : Nat) (p : Pkt) (s : State) : Bool × State :=
  let k := p.srcDev * 4096 + p.srcEp
  let d := (s.bdl f).dup
  match lookup d k with
  | some l =>
    if l.contains p.seq then (true, s.modBdl f fun b => { b with dupCnt := b.dupCnt + 1 })
    else (false, s.modBdl f fun b => { b with dup := put d k ((l ++ [p.seq]).drop ((l.length + 1) - 512)) })
  | none =>
    if 64 ≤ d.length then (false, s.set (R.LINK_STAT.DUP_FULL f) 1)
    else (false, s.modBdl f fun b => { b with dup := put d k [p.seq] })

/-- PKT_RX: `h` holds two fields of `PKT_S`. A packet is good when its CRC matches, both sequence numbers agree, F flits
arrived and the number is the next expected; it is then delivered in order to the entry bridge. A bad packet is answered with NAK, and packets are
discarded until the expected one arrives (R379–R381). (DEDUCED, assumption 103; DESIGN CHOICE, assumption 110) -/
def execPktRx (l : Fin 96) (lseqS lseqE : Nat) (h : PktHead) (pcrc : BitVec 32) (flits : List (BitVec 256))
    (badBlocks : Nat) (s : State) : Out :=
  let f := s.bundleOf l
  let b := s.bdl f
  let p := pktOf (flits.map BitVec.toNat)
  let open_ := s.streamOpen f
  let s := applyIf open_ (fun s => s.addSat (R.LINK_STAT.BLK_ERR f) badBlocks) s
  if !open_ then .next s
  else if pcrcOf lseqS h.count h.vc flits = pcrc.toNat ∧ lseqS = lseqE ∧ flits.length = h.count ∧ 1 ≤ h.count ∧ h.count ≤ 17
      ∧ lseqS = b.rxSeq then
    let s := s.modBdl f fun b =>
      { b with rxSeq := (b.rxSeq + 1) % 4096, nakked := false, ackDue := true }
    let (dup, s) := if s.flag (R.LINK_CFG.DUP_EN f) then dupCheck f p s else (false, s)
    if dup then .next (returnCredit f p s) else .next (s.modBdl f fun b => { b with rxPkts := b.rxPkts ++ [p] })
  else if b.nakked then .next s
  else .next (s.modBdl f fun b => { b with nakked := true, ackDue := true, nakDue := true })

/-- The packet channel becomes Blocked: unacknowledged and waiting packets complete with `LINK_FAIL` (R382). (DEDUCED,
assumption 107) -/
def blockChannel (f : Nat) (s : State) : State :=
  let b := s.bdl f
  let lost := b.replay.map (·.2) ++ at' s.noc.bridge f []
  let s := (s.set (R.LINK_STAT.BLOCKED f) 1).modBdl f fun b => { b with replay := [], resend := 0 }
  let s := s.modNoc fun n => { n with bridge := listAt n.bridge f [] }
  raise 0x0412 [(1, f)] (forEach lost (fun p => refusePkt p 0x09 f) s)

/-- A replay from the oldest unacknowledged packet; after eight without progress the channel becomes Blocked instead
(R381, R382). (DEDUCED, assumption 107; DESIGN CHOICE, assumption 109) -/
def startReplay (f : Nat) (s : State) : State :=
  if (s.bdl f).replay = [] then s
  else if 8 ≤ s.get (R.LINK_STAT.REPLAYS f) then blockChannel f s
  else
    let s := s.set (R.LINK_STAT.REPLAYS f) (s.get (R.LINK_STAT.REPLAYS f) + 1)
    s.modBdl f fun b => { b with resend := b.replay.length, replayTot := b.replayTot + 1 }

/-- Packets that an acknowledgement of `next` covers. (DEDUCED, assumption 108) -/
def ackCovers (next q : Nat) : Bool := decide ((next + 4096 - q) % 4096 ≤ 64) && decide ((next + 4096 - q) % 4096 ≠ 0)

/-- ACK_RX: covered packets leave the replay buffer, credits return, and a NAK starts a replay (R380–R382). (DEDUCED,
assumption 108) -/
def execAckRx (l : Fin 96) (next : Nat) (nak : Bool) (credits : List Nat) (s : State) : Out :=
  let f := s.bundleOf l
  if !s.streamOpen f || s.flag (R.LINK_STAT.BLOCKED f) then .next s
  else
    let b := s.bdl f
    let kept := b.replay.filter fun e => !ackCovers (next % 4096) e.1
    let s := applyIf (kept.length != b.replay.length) (fun s => s.set (R.LINK_STAT.REPLAYS f) 0) s
    let s := s.modBdl f fun b =>
      { b with replay := kept, resend := min b.resend kept.length,
               credits := (List.range 4).map fun v => min 68 (b.credits.getD v 0 + credits.getD v 0) }
    .next (applyIf nak (startReplay f) s)

/-- ACK_TIMEOUT: an acknowledgement at the edge counts as arrived and sets `LATE`; otherwise the sender replays (R381).
(DEDUCED, assumption 107) -/
def execAckTimeout (l : Fin 96) (ackAtEdge : Bool) (s : State) : Out :=
  let f := s.bundleOf l
  if !s.flag (R.LINK_STAT.LINK_UP f) || (s.bdl f).replay == [] then .next s
  else if ackAtEdge then .next (s.set (R.LINK_STAT.LATE f) 1)
  else .next (startReplay f s)

/-- BUNDLE_DOWN_TIMEOUT: a bundle that is not Up again within 10 ms has its channel Blocked (R383). -/
def execBundleDownTimeout (l : Fin 96) (s : State) : Out :=
  let f := s.bundleOf l
  if s.flag (R.LINK_STAT.LINK_UP f) || s.flag (R.LINK_STAT.BLOCKED f) || s.baseR f || !s.up then .next s
  else .next (blockChannel f s)

/-- INIT_RX: with both epochs as at the previous exchange the replay resumes; otherwise both ends restart at `LSEQ` 0
with full credit and unacknowledged packets complete with `LINK_FAIL`. The channel leaves Blocked (R380, R382, R383).
The Twin role is noted (R397). -/
def execInitRx (l : Fin 96) (epoch dev role : Nat) (s : State) : Out :=
  let f := s.bundleOf l
  if !s.streamOpen f then .next s
  else
    let b := s.bdl f
    let own := s.epochOf f
    let same := b.farEpoch = some epoch ∧ b.ownAtLast = own
    let s := (s.set (R.LINK_STAT.BLOCKED f) 0).set (R.LINK_STAT.REPLAYS f) 0
    let s := s.modBdl f fun b =>
      { b with farEpoch := some epoch, ownAtLast := own, nakked := false, credits := [68, 68, 68, 68],
               giveBack := [0, 0, 0, 0], resend := b.replay.length }
    let s := if f = 92 then s.modLink fun k => { k with farRole := some role, farDev := dev } else s
    if same then .next s
    else
      let lost := b.replay.map (·.2)
      let s := s.modBdl f fun b => { b with txSeq := 0, rxSeq := 0, replay := [], resend := 0 }
      .next (forEach lost (fun p => refusePkt p 0x09 f) s)

/-- The exit bridge of bundle `f` takes a packet: the device-hop field falls by 1, and one that would leave with 0
completes with `NO_ROUTE`; a Blocked channel completes it with `LINK_FAIL` (R382, R385). -/
def exitBridge (f : Nat) (p : Pkt) (s : State) : State :=
  if p.dhops ≤ 1 then refusePkt p 0x0A s.devId s
  else if s.flag (R.LINK_STAT.BLOCKED f) then refusePkt p 0x09 f s
  else s.modNoc fun n => { n with bridge := pushAt n.bridge f { p with dhops := p.dhops - 1 } }

/-- An entry bridge sends a packet on with a new route and age 0 (R412). (DEDUCED, assumption 111) -/
def bridgeRoute (f tgt : Nat) (p : Pkt) (s : State) : State :=
  match s.routeOf (0x100 + f) tgt with
  | some r => enterNet (0x100 + f) tgt r p s
  | none => refusePkt p 0x0A s.devId s

/-- BRIDGE_FORWARD: toward the link, the packet at the bridge's endpoint leaves by its bundle; from the link, a packet
is routed to its endpoint, forwarded to an exit bundle, or broadcast on the timing links of the tree (R385–R387). During
Load the loading lane's bridge delivers every packet for endpoint 0A1h (R442). (DEDUCED, assumptions 106, 112) -/
def execBridgeForward (l : Fin 96) (fromLink : Bool) (s : State) : Out :=
  let f := s.bundleOf l
  if f ≠ l.val ∨ s.baseR l then .next s
  else if !fromLink then
    match s.rxHead (0x100 + f) with
    | none => .next s
    | some p => .next (exitBridge f p (popRx (0x100 + f) s))
  else
    match (s.bdl f).rxPkts with
    | [] => .next s
    | p :: rest =>
      let s := returnCredit f p (s.modBdl f fun b => { b with rxPkts := rest })
      if p.dev = s.devId ∨ ((s.lst l).loading ∧ s.mode = mLoad ∧ p.ep = 0xA1) then
        .next (bridgeRoute f p.ep { p with dev := s.devId } s)
      else if p.dev = 0xFFFFF then
        if p.typ ≠ 2 then .next (refusePkt p 0x0A s.devId s)
        else
          let s := bridgeRoute f p.ep p s
          .next (forEach (s.treeLinks.filter fun k => k != f)
            (fun k => bridgeRoute f (0x100 + k) p) s)
      else
        match s.exitBundle p.dev with
        | some k =>
          if k = f ∨ !s.isSpaif k then .next (refusePkt p 0x0A s.devId s)
          else .next (bridgeRoute f (0x100 + k) p s)
        | none => .next (refusePkt p 0x0A s.devId s)

/-- The next packet of bundle `f` that may be sent: a replayed one, or a new one with room in the replay buffer and
credit for its flits (R380, R381). (DESIGN CHOICE, assumption 109) -/
def State.nextPacket (s : State) (f : Nat) : Option (Bool × Nat × Pkt) :=
  let b := s.bdl f
  if s.flag (R.LINK_STAT.BLOCKED f) ∨ b.farEpoch = none then none
  else if 0 < b.resend then
    (b.replay.drop (b.replay.length - b.resend)).head?.map fun e => (true, e.1, e.2)
  else
    match at' s.noc.bridge f [] with
    | [] => none
    | p :: _ =>
      if b.replay.length < 64 ∧ pktFlits p ≤ b.credits.getD p.vc 0 then some (false, b.txSeq, p) else none

/-- Stream blocks leave a bundle in order, block k on lane k mod W (R371). -/
def sendStream (f : Nat) (blocks : List (Nat × Nat)) (s : State) : State :=
  let w := (s.bundleLanes f).length
  forEach blocks (fun b s =>
    (sendBlock (f + (s.bdl f).txPos % w) b.1 b.2 s).modBdl f fun x => { x with txPos := x.txPos + 1 }) s

/-- The blocks of a packet: `PKT_S`, four data blocks per flit, `PKT_E` (R378, R379, Table 12-1). -/
def packetBlocks (lseq : Nat) (p : Pkt) : List (Nat × Nat) :=
  let fl := packetFlits p
  let crc := pcrcOf lseq fl.length p.vc (fl.map (BitVec.ofNat 256))
  [(2, 0x3C + 2 ^ 8 * lseq + 2 ^ 20 * fl.length + 2 ^ 25 * p.vc)]
    ++ (fl.flatMap fun f => (List.range 4).map fun j => (1, f / 2 ^ (64 * j) % 2 ^ 64))
    ++ [(2, 0x3D + 2 ^ 8 * crc + 2 ^ 40 * lseq)]

/-- STREAM_POSITION_TX: the stream position of lane `l` takes the next block of its bundle, where it is that lane's turn (R371); the
lane sends the next waiting block in the order `TIMING`, `ACK`, `DIGEST`, `MGMT`, packet,
`IDLE`; in Safe `SAFE` takes the place of `IDLE` (R377, R378, R384). A packet is sent whole. (DESIGN CHOICE, assumption
109) -/
def execStreamPositionTx (l : Fin 96) (s : State) : Out :=
  let f := s.bundleOf l
  let b := s.bdl f
  if !s.flag (R.LINK_STAT.LINK_UP f) || s.baseR f || l.val != f + b.txPos % (s.bundleLanes f).length then .next s
  else
    match b.timing with
    | (c, v) :: rest =>
      .next (sendStream f [(2, 0x5A + 2 ^ 8 * c + 2 ^ 12 * v)]
        (s.modBdl f fun b => { b with timing := rest, lastKind := 1, lastVal := c + 16 * v }))
    | [] =>
      if b.ackDue then
        let v := b.rxSeq + (if b.nakDue then 4096 else 0) + 2 ^ 16 * ofLeBytes b.giveBack
        .next (sendStream f [(2, 0x4B + 2 ^ 8 * v)] (s.modBdl f fun b =>
          { b with ackDue := false, nakDue := false, giveBack := [0, 0, 0, 0], lastKind := 2, lastVal := v }))
      else
        match b.digest with
        | some (t, d) =>
          .next (sendStream f [(2, 0x87 + 2 ^ 8 * (t + 65536 * d))]
            (s.modBdl f fun b => { b with digest := none, lastKind := 3, lastVal := t + 65536 * d }))
        | none =>
          match b.mgmt with
          | m :: rest =>
            .next (sendStream f [(2, 0x66 + 2 ^ 8 * ofLeBytes m)]
              (s.modBdl f fun b => { b with mgmt := rest, lastKind := 4, lastVal := ofLeBytes m }))
          | [] =>
            match s.nextPacket f with
            | some (true, q, p) =>
              .next (sendStream f (packetBlocks q p)
                (s.modBdl f fun b => { b with resend := b.resend - 1, lastKind := 5, lastVal := q }))
            | some (false, q, p) =>
              let s := s.modNoc fun n => { n with bridge := listAt n.bridge f ((at' n.bridge f []).drop 1) }
              .next (sendStream f (packetBlocks q p) (s.modBdl f fun b =>
                { b with txSeq := (q + 1) % 4096, replay := b.replay ++ [(q, p)], lastKind := 5, lastVal := q,
                         credits := b.credits.set p.vc (b.credits.getD p.vc 0 - pktFlits p) }))
            | none =>
              if s.mode = mSafe then
                let c := s.get R.DEV_MODE.SAFE_CAUSE
                .next (sendStream f [(2, safePayload s.devId c)]
                  (s.modBdl f fun b => { b with lastKind := 7, lastVal := s.devId + 2 ^ 20 * c }))
              else .next (sendStream f [(2, 0x2D)] (s.modBdl f fun b => { b with lastKind := 6, lastVal := 0 }))

/-! ## Timing channel and the crown -/

/-- Timing links that are Up (R389). -/
def State.timingLinks (s : State) : List Nat :=
  (List.range 96).filter fun l => s.flag (R.LINK_CFG.TLINK l) && s.flag (R.LINK_STAT.LINK_UP l) && s.fixedMode l

/-- Own crown priority. -/
def State.prio (s : State) : Nat := s.get R.SYNC_STAT.PRIO

/-- This device is a crown candidate (R388, R389). -/
def State.candidate (s : State) : Bool := s.prio != 255 && s.devId != 0xFFFFE

/-- Pair `a` is the better crown. (DEDUCED, assumption 113) -/
def betterCrown (a b : Nat × Nat) : Bool := decide (a.1 < b.1) || (decide (a.1 = b.1) && decide (a.2 < b.2))

/-- Offers of the timing links that are not dropped: crown, hops and link (R389, R390). -/
def State.offers (s : State) : List ((Nat × Nat) × Nat × Nat) :=
  s.timingLinks.filterMap fun l =>
    let b := s.bdl l
    match b.heard with
    | some a => if b.silent < 8 then some ((a.prio, a.crown), a.hops, l) else none
    | none => none

/-- The best offer: best crown, fewest hops, lowest lane (R389). (DEDUCED, assumption 113) -/
def State.bestOffer (s : State) : Option ((Nat × Nat) × Nat × Nat) :=
  s.offers.foldl (fun acc o =>
    match acc with
    | none => some o
    | some a =>
      if betterCrown o.1 a.1 || (o.1 == a.1 && decide (o.2.1 < a.2.1)) then some o else some a) none

/-- An alignment ends when no parent is left to align to: its commands answer `DENIED` (R393, Table 12-11). (DESIGN CHOICE,
assumption 228) -/
def dropAlign (s : State) : State :=
  if s.get R.SYNC_STAT.PARENT ≠ 0x7F then s
  else forEach (s.link.align.getD []) (fun n s => finishCmd n stDenied [] false s) (s.modLink fun k => { k with align := none })

/-- The place in the tree: this device is crown, takes a parent, or is Untimed at 24 hops (R389). (DEDUCED, assumption
113) -/
def choosePlace (s : State) : State :=
  let own := (s.prio, s.devId)
  let note := fun (c : Nat × Nat) (s : State) => s.modLink fun k =>
    { k with crown := some c, stable := if k.crown = some c then k.stable else 0 }
  match s.bestOffer with
  | some (c, h, l) =>
    if s.candidate && betterCrown own c then
      note own ((((s.set R.SYNC_STAT.STATE 4).set R.SYNC_STAT.HOPS 0).set R.SYNC_STAT.PARENT 0x7F).set
        R.SYNC_CROWN.CROWN s.devId)
    else if 24 ≤ h then
      note c (((s.set R.SYNC_STAT.STATE 6).set R.SYNC_STAT.PARENT 0x7F).set R.SYNC_STAT.HOPS 0)
    else
      let st := s.get R.SYNC_STAT.STATE
      let st := if s.hold then 5 else if s.get R.SYNC_STAT.PARENT = l ∧ (st = 2 ∨ st = 3 ∨ st = 7) then st else 1
      note c ((((s.set R.SYNC_STAT.STATE st).set R.SYNC_STAT.HOPS (h + 1)).set
        R.SYNC_STAT.PARENT l).set R.SYNC_CROWN.CROWN c.2)
  | none =>
    if s.candidate then
      note own ((((s.set R.SYNC_STAT.STATE 4).set R.SYNC_STAT.HOPS 0).set R.SYNC_STAT.PARENT 0x7F).set
        R.SYNC_CROWN.CROWN s.devId)
    else ((s.set R.SYNC_STAT.STATE 1).set R.SYNC_STAT.PARENT 0x7F).set R.SYNC_STAT.HOPS 0

/-- The election (R389, R390). -/
def elect (s : State) : State := dropAlign (choosePlace s)

/-- The crown in use is in holdover: this device where it is the crown, else as its parent announces it (Table 12-3). -/
def State.crownHold (s : State) : Bool :=
  match s.get R.SYNC_STAT.PARENT with
  | 0x7F => s.hold
  | p => match (s.bdl p).heard with | some a => a.hold | none => s.hold

/-- ANNOUNCE_TX: every 1,024 ticks each timing link carries the best crown known and the own hop count; periods of
silence are counted (R389, R390). A crown whose choice is stable is aligned and says so (R393). (DESIGN CHOICE,
assumptions 114, 117) -/
def execAnnounceTx (s : State) : Out :=
  if !s.up then .next s
  else
    let c := s.link.crown.getD (s.prio, s.devId)
    let s := s.modLink fun k => { k with stable := k.stable + 1 }
    let s := applyIf (decide (s.get R.SYNC_STAT.STATE = 4) && s.link.stable == 8)
      (fun s => forEach s.timingLinks (fun l => queueTiming l 6 32) s) s
    .next (forEach s.timingLinks (fun l s =>
      let y := at' s.clk.synth (sideDomain l) ⟨0, 0, 0, 0, false, false⟩
      let v := s.get R.SYNC_STAT.HOPS + 2 ^ 5 * c.1 + 2 ^ 13 * c.2 + 2 ^ 33 * y.n + 2 ^ 40 * s.get (R.LANE_CFG.KDIV l)
        + 2 ^ 42 * (if s.crownHold then 1 else 0)
      queueTiming l 0 v (s.modBdl l fun b => { b with silent := b.silent + 1 })) s)

/-- MCLK follows the M and K that the first announcement of the parent gives: the side relocks to them (R391). -/
def adoptMK (l : Nat) (a : Announce) (s : State) : State :=
  if s.flag R.STRAP_LATCH.MCLK_SRC && s.get R.SYNC_STAT.PARENT == l && (s.link.mkM != a.m || s.link.mkK != a.kdiv) then
    let s := (s.modLink fun k => { k with mkM := a.m, mkK := a.kdiv }).set R.SYNC_STAT.MK_ERR 1
    changeSetting (sideDomain l) 0 a.m 1 (s.set (R.LANE_CFG.KDIV l) a.kdiv)
  else s

/-- ANNOUNCE_RX: the announcement updates the election. In a run-class mode the tree is frozen, and a better crown is
only reported by `SYNC_CROWN` (R389–R391). -/
def execAnnounceRx (l : Fin 96) (a : Announce) (s : State) : Out :=
  let f := s.bundleOf l
  if !s.timingLinks.contains f || !s.streamOpen f then .next s
  else
    let s := s.modBdl f fun b => { b with heard := some a, silent := 0 }
    if s.runClass then
      let known := s.link.crown.getD (255, 0xFFFFF)
      if betterCrown (a.prio, a.crown) known then .next (raise 0x0510 [(1, a.prio), (3, a.crown)] s) else .next s
    else
      let s := adoptMK f a (elect s)
      if s.flag R.STRAP_LATCH.MCLK_SRC && s.get R.SYNC_STAT.PARENT != 0x7F then
        .next (s.modLink fun k => { k with mclkLane := s.get R.SYNC_STAT.PARENT })
      else .next s

/-- PARENT_TIMEOUT: a parent silent for 8 periods is dropped; in a run-class mode the tree stays frozen, and with
`STRAP_MCLK` the device loses MCLK (R390). -/
def execParentTimeout (s : State) : Out :=
  let p := s.get R.SYNC_STAT.PARENT
  if p = 0x7F ∨ (s.bdl p).silent < 8 then .next s
  else
    let s := s.modBdl p fun b => { b with heard := none, aligned := false }
    if s.runClass then
      if s.flag R.STRAP_LATCH.MCLK_SRC && s.clk.lockMeas.isSome && !s.hold then
        .next (loseMclk s)
      else .next s
    else .next (elect s)

/-- `ps` in fine steps of bundle `f`, to the nearest: one block-clock cycle is 4,096 steps. (DEDUCED, assumption 115) -/
def State.psToSteps (s : State) (f : Nat) (ps : Int) : Int :=
  let y := at' s.clk.synth (sideDomain f) ⟨0, 0, 0, 0, false, false⟩
  let (khz, q) := if y.mode = 0 then (s.get R.MCLK_STAT.FREQ_KHZ * y.n, 1) else (100000 * y.n, y.d)
  let d : Int := 1000000000 * (max q 1 : Nat)
  (2 * (ps * 4096 * khz) + d) / (2 * d)

/-- The child's offset Δ in fine steps (R392). (DESIGN CHOICE, assumption 114; DEDUCED, assumption 115) -/
def State.offset (s : State) (f : Nat) : Option Int :=
  (s.bdl f).farMeas.map fun (lp, fp) =>
    let lc : Int := s.get (R.LANE_FL.L_MEAS f) * 4096 + (s.bdl f).ownFine
    (lc - ((lp : Int) * 4096 + fp) - s.psToSteps f (s.bdl f).asym) / 2

/-- Fine steps in one tick on the side of lane `l`. (DEDUCED, assumption 115) -/
def State.tickSteps (s : State) (l : Nat) : Nat := (at' s.clk.synth (sideDomain l) ⟨0, 0, 0, 0, false, false⟩).n * 4096

/-- Signed 8-bit saturation of a residual (Table 12-7). -/
def satByte (d : Int) : Nat := ofSigned 8 (max (-128) (min 127 d))

/-- MEAS_RX: the far end's measurement, with the own fine phase, is kept for the offset of R392; an
aligned child tracks the residual (R393). -/
def execMeasRx (l : Fin 96) (lMeas fine ownFine : Nat) (valid : Bool) (s : State) : Out :=
  let f := s.bundleOf l
  if !s.timingLinks.contains f || !s.streamOpen f || !valid then .next s
  else
    let s := s.modBdl f fun b => { b with farMeas := some (lMeas, fine), ownFine := ownFine }
    if s.get R.SYNC_STAT.STATE = 3 ∧ s.get R.SYNC_STAT.PARENT = f then
      .next (s.set R.SYNC_STAT.RESID (satByte ((s.offset f).getD 0)))
    else .next s

/-- The alignment ends with a state and its commands' status (R393). (DEDUCED, assumption 116) -/
def endAlign (state status : Nat) (d : Int) (s : State) : State :=
  let cmds := s.link.align.getD []
  let s := (s.set R.SYNC_STAT.STATE state).set R.SYNC_STAT.RESID (satByte d)
  let s := s.modLink fun k => { k with align := none, tries := 0 }
  let s := if state = 3 then
      forEach (s.timingLinks.filter fun l => l != s.get R.SYNC_STAT.PARENT)
        (fun l => queueTiming l 6 (s.get R.SYNC_STAT.HOPS + 32)) s
    else s
  forEach cmds (fun n s => finishCmd n status (if status = stOk then leBytes 4 (ofSigned 32 d) else []) false s) s

/-- SYNC_ALIGN_STEP: one application of −Δ: whole ticks as a tick load from the parent's `TIME`, the rest as a delay of
the tick boundaries; every fixed-mode lane passes Align again. It ends at |Δ| ≤ 2 steps, or in Error after 4 attempts
(R392, R393). With `STRAP_MCLK` = 0 only whole ticks are aligned (R394). `delta` is the measured offset. (DEDUCED,
assumption 116) -/
def execSyncAlignStep (parentTime : Nat) (delta : Int) (s : State) : Out :=
  let f := s.get R.SYNC_STAT.PARENT
  if s.link.align = none ∨ f = 0x7F ∨ !(s.bdl f).aligned then .next s
  else if s.offset f ≠ some delta then .next s
  else
    let w : Int := s.tickSteps f
    let near := fun (d : Int) => decide (-2 ≤ d) && decide (d ≤ 2)
    let follower := !s.flag R.STRAP_LATCH.MCLK_SRC
    let ticks : Int := if w = 0 then 0 else (delta + (if follower then w / 2 else 0)) / w
    let rest := delta - ticks * w
    if near delta || (follower && ticks == 0) then .next (endAlign 3 stOk delta s)
    else if 4 ≤ s.link.tries then .next (endAlign 7 stTimeout delta s)
    else
      let b := (s.clk.tick + 1) % tickMod
      let s := applyIf (ticks != 0) (fun s => s.addLoad ((parentTime + 1) % tickMod) b) s
      let s := { s with clk := { s.clk with phase := s.clk.phase + (if follower then 0 else rest) } }
      let s := s.modLink fun k => { k with tries := k.tries + 1, delta := delta }
      let s := s.set R.SYNC_STAT.STATE 2
      .next (forEach ((List.range 96).filter fun l => s.laneState l == lsUp && s.fixedMode l) (fun l s =>
        (setLane l lsAlign (s.set (R.LINK_STAT.LINK_UP (s.bundleOf l)) 0)).modLane l fun b =>
          { b with alignRx := 0, alignTx := false, slips := 0, slipCmd := 0, flSet := true }) s)

/-- ALIGNED_RX: the parent is aligned, and the child may start its own alignment; outside run-class modes it starts by
itself (R393). (DESIGN CHOICE, assumption 114) -/
def execAlignedRx (l : Fin 96) (hops : Nat) (aligned : Bool) (s : State) : Out :=
  let f := s.bundleOf l
  if !s.timingLinks.contains f || !s.streamOpen f then .next s
  else
    let s := s.modBdl f fun b => { b with aligned := aligned }
    if aligned && s.get R.SYNC_STAT.PARENT == f && s.link.align.isNone && s.link.alignDue && !s.runClass && decide (hops ≤ 24) then
      .next ((s.modLink fun k => { k with align := some [], tries := 0, alignDue := false }).set R.SYNC_STAT.STATE 2)
    else .next s

/-! ## BASE-R -/

/-- BASE_R_RX_BLOCK: a block of a BASE-R lane in Up enters the FIFO to the design with the BER monitor state (R402).
(DESIGN CHOICE, assumption 122) -/
def execBaseRRxBlock (l : Fin 96) (rd : BitVec 64) (rc : BitVec 8) (hiBer : Bool) (s : State) : Out :=
  if s.laneState l = lsUp ∧ s.baseR l ∧ !s.resyncing (256 + l) then
    .next (s.modBdl l fun b => { b with brRx := some (rd.toNat, rc.toNat, hiBer) })
  else .next s

/-- BASE_R_TX_BLOCK: a block of the design enters the FIFO to the line (R402). (DESIGN CHOICE, assumption 122) -/
def execBaseRTxBlock (l : Fin 96) (td : BitVec 64) (tc : BitVec 8) (s : State) : Out :=
  if s.laneState l = lsUp ∧ s.baseR l ∧ s.fab.writes then
    .next (s.modBdl l fun b => { b with brTx := some (td.toNat, tc.toNat) })
  else .next s

/-! ## Commands of Table 12-11 -/

/-- LINK_GET: the link registers, duplicate and replay totals of a bundle (Table 12-11). -/
def execLinkGet (mb l : Nat) (s : State) : Out :=
  .next (talnum mb 0x0410 [(1, l)]
    (checks [(decide (96 ≤ l), stBadArg), (s.laneTested l, stBusyTest)]
      fun s => .ret
        [(4, s.cardWord (0x800000 + 4 * l)), (4, s.cardWord (0x800200 + 4 * l)),
         (4, (s.bdl l).dupCnt), (4, (s.bdl l).replayTot)] s) s)

/-- DRT_SET: an entry of the device route table (R386). -/
def execDrtSet (mb entry mtch mask bundle valid : Nat) (s : State) : Out :=
  .next (talnum mb 0x0411 [(2, entry), (3, mtch), (3, mask), (1, bundle), (1, valid)]
    (checks [(decide (256 ≤ entry), stBadArg), (decide (2 ^ 20 ≤ mtch), stBadArg), (decide (2 ^ 20 ≤ mask), stBadArg),
        (decide (96 ≤ bundle), stBadArg), (decide (2 ≤ valid), stBadArg)]
      fun s => .ok ((((s.set (R.DRT.MATCH entry) mtch).set (R.DRT.MASK entry) mask).set (R.DRT.BUNDLE entry) bundle).set
        (R.DRT.VALID entry) valid)) s)

/-- DRT_GET: entries of the device route table (Table 12-11). -/
def execDrtGet (mb first count : Nat) (s : State) : Out :=
  .next (talnum mb 0x0412 [(2, first), (1, count)]
    (checks [(decide (256 < first + count), stBadArg), (decide (count = 0), stBadArg), (decide (16 < count), stBadArg)]
      fun s => .ret ((List.range count).flatMap fun k =>
        let i := first + k
        [(3, s.get (R.DRT.MATCH i)), (3, s.get (R.DRT.MASK i)), (1, s.get (R.DRT.BUNDLE i)),
         (1, s.get (R.DRT.VALID i))]) s) s)

/-- LINK_ID_SET: the device ID; not in a run-class mode (R388). -/
def execLinkIdSet (mb dev : Nat) (s : State) : Out :=
  .next (talnum mb 0x0413 [(3, dev)]
    (checks [(decide (0xFFFFE ≤ dev), stBadArg), (s.runClass, stDenied)]
      fun s => .ok (s.set R.DEV_ID.ID dev)) s)

/-- SYNC_ROLE: the crown priority (R389). -/
def execSyncRole (mb prio : Nat) (s : State) : Out :=
  .next (talnum mb 0x0510 [(1, prio)]
    (checks [(decide (256 ≤ prio), stBadArg), (s.devId == 0xFFFFE, stDenied)]
      fun s =>
        let s := s.set R.SYNC_STAT.PRIO prio
        .ok (if s.runClass then s else elect s)) s)

/-- SYNC_GET: synchronisation status (Table 12-11). -/
def execSyncGet (mb : Nat) (s : State) : Out :=
  .next (talnum mb 0x0511 [] (fun s =>
    let p := s.get R.SYNC_STAT.PARENT
    let far := ((s.bdl p).farMeas.getD (0, 0)).1
    .ret
      [(4, s.cardWord 0x801000),
       (4, s.get R.SYNC_CROWN.CROWN), (2, s.get (R.LANE_FL.L_MEAS p)), (2, far)] s) s)

/-- SYNC_ALIGN: runs the alignment to the parent; it completes with the final Δ (R393). One that finds an alignment under
way waits for its end. (DESIGN CHOICE, assumption 228) -/
def execSyncAlign (mb : Nat) (s : State) : Out :=
  .next (talnum mb 0x0512 []
    (checks [(s.get R.SYNC_STAT.PARENT == 0x7F, stDenied)]
      fun s => .runs ((s.modLink fun k =>
        { k with align := some (k.align.getD [] ++ [s.serial mb])
                 tries := if k.align.isNone then 0 else k.tries }).set R.SYNC_STAT.STATE 2)) s)

/-- LINK_ASYM: the asymmetry of a timing link, in effect at the next alignment; the answer is in fine steps (R392). -/
def execLinkAsym (mb l : Nat) (ps : Int) (s : State) : Out :=
  .next (talnum mb 0x0513 [(1, l), (3, ofSigned 24 ps)]
    (checks [(decide (96 ≤ l), stBadArg), (decide (ps < -100000 ∨ 100000 < ps), stBadArg), (s.laneTested l, stBusyTest)]
      fun s => .ret [(4, ofSigned 32 (s.psToSteps l ps))] (s.modBdl l fun b => { b with asym := ps })) s)

end Sys2Proof.Machine
end

