-- ==== Sys2Proof/Machine/Twin.lean ====
section
/-! DEFINITION. Twin pairs: pairing, digests, divergence and loss (R397–R400, R42). -/

namespace Sys2Proof.Machine

/-- PAIR_ID_RX: the partner's image identity is noted, and pairing may begin (R397). (DEDUCED, assumption 33) -/
def execPairIdRx (id : Nat) (s : State) : Out :=
  if !s.streamOpen 92 then .next s
  else .next (tryPair (s.modLink fun k => { k with farImage := some (id % 2 ^ 32) }))

/-- PAIR_GO_RX: the secondary takes the start tick and echoes it; the echo tells the primary nothing new (R397).
(DEDUCED, assumption 33; DESIGN CHOICE, assumption 119) -/
def execPairGoRx (tick : Nat) (s : State) : Out :=
  if s.pairReady && s.streamOpen 92 && decide (s.get R.STRAP_LATCH.TWIN = 2) then
    .next (queueTiming 92 5 tick (s.modLink fun k => { k with start := some (tick % tickMod), pairId := k.farDev }))
  else .next s

/-- PAIR_START_TICK: the pair is formed (R397, R42). (DEDUCED, assumption 33) -/
def execPairStartTick (s : State) : Out :=
  if s.link.start ≠ some s.clk.tick then .next s
  else
    let s := s.modLink fun k => { k with start := none }
    if !s.pairing || !s.flag (R.LINK_STAT.LINK_UP 92) then .next s
    else
      let s := ((s.set R.DEV_MODE.COND_TWIN 1).set R.DEV_MODE.TWIN_ALONE 0).set R.TWIN_STAT.PAIRED 1
      let s := { s with integ := { s.integ with pairTotal := s.get R.ESS_TOTAL.TOTAL } }
      .next (commitMode s.topMode ({ s with aon := { s.aon with pairWait := false } }))

/-- PAIRING_TIMEOUT: the device enters Run alone (R42). -/
def execPairingTimeout (s : State) : Out :=
  if !s.aon.pairWait || decide (s.mode ≠ mBlocking) then .next s
  else
    let s := { s with aon := { s.aon with pairWait := false } }
    .next (commitMode s.topMode (s.set R.DEV_MODE.TWIN_ALONE 1))

/-- DIGEST_TX: the digest of the previous tick (R398). A tick with no word has the digest of no byte. (DEDUCED,
assumption 120) -/
def execDigestTx (s : State) : Out :=
  if !s.flag R.DEV_MODE.COND_TWIN || !s.flag (R.LINK_STAT.LINK_UP 92) then .next s
  else
    let s := closeWords s
    let t := (s.clk.tick + (tickMod - 1)) % tickMod
    let d := at' s.link.digests t (digestOf [])
    let s := s.modLink fun k => { k with
      digests := put (dropKeys k.digests fun u => !tickLater (u + 32768) t) t d }
    .next (s.modBdl 92 fun b => { b with digest := some (t % 65536, d) })

/-- DIGEST_RX: the comparison of R398 and the policy of R399. Whether the partner has an essential-error entry too is
known to no field of this device. (DESIGN CHOICE, assumption 121) -/
def execDigestRx (tick16 : Nat) (digest : BitVec 32) (s : State) : Out :=
  if !s.flag R.DEV_MODE.COND_TWIN || !s.streamOpen 92 then .next s
  else match s.link.digests.find? fun e => e.1 % 65536 == tick16 with
    | none => .next s
    | some (t, d) =>
      if d = digest.toNat then .next s
      else
        let s := s.modLink fun k => { k with lastDiv := t }
        let s := raise 0x0413 [(6, t)] ((s.set R.TWIN_STAT.DIVERGE 1).inc R.TWIN_STAT.DIV_CNT)
        if s.flag R.TWIN_STAT.POLICY && decide (s.get R.ESS_TOTAL.TOTAL ≠ s.integ.pairTotal) then
          if s.freeBit then .next s.useFree
          else .next (enterSafe 9 (s.useFree.set R.TWIN_STAT.SILENCED 1))
        else .next s

/-- DIGEST_MISSING: the member runs on alone, and pairing resumes (R400). (DESIGN CHOICE, assumption 121) -/
def execDigestMissing (s : State) : Out :=
  if !s.flag R.DEV_MODE.COND_TWIN then .next s
  else
    let s := ((s.set R.DEV_MODE.COND_TWIN 0).set R.DEV_MODE.TWIN_ALONE 1).set R.TWIN_STAT.LOST 1
    let s := raise 0x0414 [] (s.set R.TWIN_STAT.PAIRED 0)
    .next (sendPairId (refreshMode s))

/-- TWIN_GET (R403). -/
def execTwinGet (mb : Nat) (s : State) : Out :=
  .next (talnum mb 0x0414 [] (fun s =>
    if s.underTest 0x97 then .fail stBusyTest s
    else .ret [(4, s.cardWord 0x801100), (3, s.link.pairId), (6, s.link.lastDiv)] s) s)

/-- TWIN_POLICY (R42, R403). -/
def execTwinPolicy (mb policy timeout : Nat) (s : State) : Out :=
  .next (talnum mb 0x0415 [(1, policy), (2, timeout)]
    (checks [(decide (2 ≤ policy), stBadArg),
        (timeout != 0 && (decide (timeout < 100) || decide (51100 < timeout) || timeout % 100 != 0), stBadArg),
        (s.underTest 0x97, stBusyTest)]
      fun s =>
        let s := s.set R.TWIN_STAT.POLICY policy
        .ok (if timeout = 0 then s else s.set R.TWIN_STAT.PAIR_TO (timeout / 100))) s)

end Sys2Proof.Machine
end

