-- ==== Sys2Proof/Machine/Clock.lean ====
section
/-! DEFINITION. Synthesizers that lock and lose lock, and the entries of the tick schedule as they fall due ("Machine
Clock, Ticks and Clock-Domain Crossings"). -/

namespace Sys2Proof.Machine

/-- Domain `d` may lock: its settings are within limits, and a Locked one has the machine clock (R66, R73). (DEDUCED,
assumption 203) -/
def State.canLock (s : State) (d : Nat) : Bool :=
  if settable d then
    let y := s.synth d
    !y.bad && y.n != 0 && (y.mode == 1 || s.clk.lockMeas.isSome)
  else synthesized d || (decide (13 ≤ d) && decide (d ≤ 15))

/-- SYNTH_LOCK: a synthesized domain relocks (R67); for CFG, FCB and TCK, edges are present again. (DEDUCED, assumption
203) -/
def execSynthLock (d : Fin 25) (s : State) : Out :=
  if !s.up || s.bit R.CLK_LOCK.LOCK d || !s.canLock d then .next s
  else
    let s := s.setBit R.CLK_LOCK.LOCK d true
    let s := applyIf (settable d) (fun s => s.setSynth d { s.synth d with wait := false }) s
    if 17 ≤ d.val ∧ d.val ≤ 20 then .next (sideLocked d s)
    else if 21 ≤ d.val then .next (treeReturns (d - 21) s)
    else .next s

/-- CLK_SET (R66, R100, R332, R376). (DESIGN CHOICE, assumption 35) -/
def execClkSet (mb domain mode mult div : Nat) (s : State) : Out :=
  .next (talnum mb 0x0504 [(1, domain), (1, mode), (1, mult), (1, div)]
    (checks [(decide (24 < domain), stBadArg), (!settable domain, stDenied),
        (!(decide (s.mode = mBoot) || decide (s.mode = mLoad) || decide (s.mode = mSafe) || decide (s.mode = mQuiescent)),
          stDenied),
        (!settingRange domain mode mult div, stBadArg), (!s.settingFreqOk domain mode mult div, stBadArg),
        ((s.synth domain).wait, stBusy)]
      fun s => .ok (changeSetting domain mode mult div s)) s)

/-- SYNTH_UNLOCK: a loss of lock, or of edges, that the host did not cause (R67). (DEDUCED, assumption 203) -/
def execSynthUnlock (d : Fin 25) (s : State) : Out :=
  if !s.up || !s.bit R.CLK_LOCK.LOCK d then .next s
  else if 13 ≤ d.val ∧ d.val ≤ 15 then
    .next ((s.setBit R.CLK_LOCK.LOCK d false).setBit R.CLK_LOST.LOST d true)
  else if !synthesized d then .next s
  else
    let s := raise 0x0501 [(1, d)] ((s.setBit R.CLK_LOCK.LOCK d false).setBit R.CLK_LOST.LOST d true)
    if 17 ≤ d.val ∧ d.val ≤ 20 then .next (sideLost d s)
    else if 21 ≤ d.val then .next (loseTree (d - 21) s)
    else .next s

/-- The effect of a schedule entry at its tick boundary (Table 3-8). -/
def performEntry (h : Nat) (e : SchedEnt) (s : State) : State :=
  match e.action with
  | 1 => fireSet e.arg e.tick s
  | 2 => wakeSource s
  | 3 => offerEvent 0x0504 (pack [(6, e.tick), (4, e.arg)]) e.target s
  | 4 => { s with clk := { s.clk with
      strobe := if e.target = 0xFFFF then List.range 128
        else if s.clk.strobe.contains e.target then s.clk.strobe else e.target :: s.clk.strobe } }
  | _ => loadDac e.target ⟨0, e.arg, h⟩ s

/-- SCHED_ENTRY_FIRE: an entry that is due is performed, or removed and reported, by mode and while function B1h holds
the DACs (R80, R83, R126). (DESIGN CHOICE, assumption 39) -/
def execSchedEntryFire (h : Fin 256) (s : State) : Out :=
  let e := s.sched h
  if !s.up || decide (e.st ≠ 4) then .next s
  else if s.mode = mQuiescent then
    let s := wakeSource s
    if e.action = 2 ∨ e.action = 3 then .next (performEntry h e (s.setSched h { e with st := 2 }))
    else .next (missEntry h s)
  else if s.runClass && !(e.action == 5 && s.held 0xB1) then .next (performEntry h e (s.setSched h { e with st := 2 }))
  else .next (missEntry h s)

end Sys2Proof.Machine
end

