-- ==== Sys2Proof/Machine/Sec.lean ====
section
/-! DEFINITION. Keys, fuses, the protection lock, tamper and the security commands ("Image Security and Protection"). -/

namespace Sys2Proof.Machine

/-- Change the security state. -/
def State.modSec (s : State) (f : Sec → Sec) : State := { s with sec := f s.sec }

/-- Check value of a battery-backed key: bits [15:0] of the encryption of the all-zero block (R459). (DEDUCED,
assumption 147) -/
def keyCheck (key : Nat) : Nat := numAt (aesZero (leBytes 32 key)) 0 2

/-- `BBK_VALID` and `BBK_KCV` follow the key memory (R459). -/
def refreshBbk (s : State) : State :=
  (s.setB R.SEC_STAT.BBK_VALID s.sec.bbk.isSome).set R.SEC_STAT.BBK_KCV (match s.sec.bbk with | some k => keyCheck k | none => 0)

/-- Hash of public key `k` as the fuse map holds it: byte j in bits [8j + 7 : 8j] (R461). -/
def pubHash (key : Nat) : Nat := ofLeBytes (sha384 (leBytes 96 key))

/-- First fuse of `PK_HASHk` (Table 15-7). -/
def hashFuse (k : Nat) : Nat := if k = 0 then 0x120 else 0x2A0

/-- `PK_HASHk` is programmed; a stored public key matches it (R461). -/
def State.hashSet (s : State) (k : Nat) : Bool := s.fuseBits (hashFuse k) 384 != 0
def State.pubMatches (s : State) (k : Nat) : Bool :=
  match lookup s.sec.pubKeys k with
  | some key => pubHash key == s.fuseBits (hashFuse k) 384
  | none => false

/-- The CRC-16 of `FUSE_KEY` equals `FK_CHECK` (Table 15-4). -/
def State.fuseKeyGood (s : State) : Bool := crc16 (leBytes 32 (s.fuseBits 0 256)) == s.fuseBits 0x100 16

/-- The boot ROM derives `SEC_PROT` from the fuses and sets `LOCK` (R461, R464, R465, Table 15-4). -/
def lockProtection (s : State) : State :=
  let fz := fun a => decide (s.fuseBits a 1 = 1)
  let s := s.setB R.SEC_PROT.SIG_REQ (fz 0x440)
  let s := s.setB R.SEC_PROT.ZK_OK (!fz 0x441)
  let s := s.setB R.SEC_PROT.BBK_OK (s.aon.keyB && !fz 0x442)
  let s := s.setB R.SEC_PROT.DIAG_OK (!fz 0x443)
  let s := s.setB R.SEC_PROT.SLOT0_WR (!fz 0x444)
  let s := s.setB R.SEC_PROT.JTAG_FULL (!fz 0x445 && !s.flag R.STRAP_LATCH.JTAGSEL)
  let s := s.setB R.SEC_PROT.EXPERT_OK (!fz 0x446)
  let s := s.setB R.SEC_PROT.DBG_READ (fz 0x448 && !fz 0x449)
  let s := s.setB R.SEC_PROT.DBG_PLUME (fz 0x448 && !fz 0x449)
  let s := s.setB R.SEC_PROT.FK_OK (s.fuseKeyGood && !(fz 0x447 && s.flag R.SEC_STAT.TAMPERED))
  let s := s.setB R.SEC_PROT.SECFUSE_WR (!fz 0x44A)
  let s := s.set R.SEC_PROT.MIN_SVN ((List.range 15).countP fun i => fz (0x430 + i))
  let ok := fun k => s.hashSet k && s.pubMatches k && !fz (0x420 + k)
  let s := s.set R.SEC_PROT.PK_OK ((if ok 0 then 1 else 0) + if ok 1 then 2 else 0)
  let s := s.setB R.SEC_STAT.PK_MISMATCH ((List.range 2).any fun k => s.hashSet k && !s.pubMatches k)
  (refreshBbk s).set R.SEC_PROT.LOCK 1

/-- The running load or repair, if its commit edge has not passed, ends with `AUTH_FAIL` (R470). (DEDUCED, assumption
141) -/
def cutByZeroise (s : State) : State :=
  let s := if s.cfg.load.isSome && !s.loadCommitted then authFail 0 s else s
  match s.integ.repair with
  | some x => failRepair x stAuthFail psEmpty s
  | none => s

/-- Zeroisation: the key memory, the engines' state, `SPLIT_BUF` and the protected captures are cleared (R469).
(DEDUCED, assumption 141) -/
def zeroise (s : State) : State :=
  let s := refreshBbk (s.modSec fun x => { x with bbk := none })
  let s := forEach (List.range 528) (fun w s => s.set (R.SPLIT_BUF.DATA w) 0) s
  let s := eachRegion (fun r s => match (s.ctxR r).cap with
    | some c => if c.prot then freeCapture r s else s
    | none => s) s
  cutByZeroise s

/-- TAMPER_ASSERT: `TAMPER_N` low; a pulse shorter than t_TAMP zeroises or is ignored (R469). (DEDUCED, assumption 21)
-/
def execTamperAssert (short : Bool) (s : State) : Out :=
  let s1 := s.set R.SEC_STAT.TAMPER_NOW 1
  let acts := !short || s.freeBit
  let s2 := if acts then raise 0x0902 [] ((zeroise s1).set R.SEC_STAT.TAMPERED 1) else s1
  .next (applyIf short State.useFree s2)

/-- TAMPER_N_HIGH: `TAMPER_NOW` clears (R470). -/
def execTamperNHigh (s : State) : Out := .next (s.set R.SEC_STAT.TAMPER_NOW 0)

/-- VBAT_LOW: `VBAT` leaves or regains V_BATRET; with VAON absent a loss clears the key memory (R458). -/
def execVbatLow (low : Bool) (s : State) : Out :=
  let s := (s.modSec fun x => { x with vbatGood := !low }).setB R.SEC_STAT.VBAT_LOW low
  if low && decide (s.mode = mOff) then .next (refreshBbk (s.modSec fun x => { x with bbk := none })) else .next s

/-! ## Commands of Table 15-8 -/

/-- SEC_STATUS. -/
def execSecStatus (mb : Fin 16) (s : State) : Out :=
  .next (talnum mb 0x0900 [] (fun s => .ret [(4, s.cardWord 0x60), (4, s.cardWord 0x64)] s) s)

/-- A load that uses the battery-backed key runs (R459). (DEDUCED, assumption 147) -/
def State.bbkLoad (s : State) : Bool :=
  match s.cfg.load with
  | some l => (decide (1 ≤ l.stage) && decide (l.stage ≤ 4)) && decide (l.ksrc = 1)
  | none => false

/-- SEC_BBK_SET (R2, R459, R470). (DEDUCED, assumption 147) -/
def execSecBbkSet (mb : Fin 16) (key check replace : Nat) (s : State) : Out :=
  .next (talnum mb 0x0901 [(32, key), (2, check), (1, replace)]
    (checks [(decide (2 ≤ replace), stBadArg), (!s.aon.keyB, stNoResource),
        (!s.flag R.SEC_PROT.BBK_OK || s.flag R.SEC_STAT.TAMPER_NOW, stDenied), (s.bbkLoad, stBusy),
        (replace == 0 && s.flag R.SEC_STAT.BBK_VALID, stDenied), (keyCheck key != check, stBadArg)]
      fun s => .ok (refreshBbk (s.modSec fun x => { x with bbk := some key }))) s)

/-- SEC_ZEROISE: as a tamper, with `TAMPERED` unchanged and no event (R469). -/
def execSecZeroise (mb : Fin 16) (s : State) : Out :=
  .next (talnum mb 0x0902 [] (fun s => .ok (zeroise s)) s)

/-- SEC_FUSE_PROG: `failed` names the fuses that did not blow, or those not yet programmed when VFUSE was removed; without
VFUSE from the start that is every fuse asked for (R472). -/
def execSecFuseProg (mb : Fin 16) (first count data : Nat) (vfuse : Bool) (failed : List Nat) (s : State) : Out :=
  .next (talnum mb 0x0903 [(2, first), (2, count), ((count + 7) / 8, data)]
    (checks [(decide (count = 0) || decide (1024 < count) || decide (0x44A < first + count - 1), stBadArg),
        (!s.flag R.SEC_PROT.SECFUSE_WR, stDenied)]
      fun s =>
        let want := (List.range count).filter fun i => data.testBit i
        let ok := want.filter fun i => !failed.contains (first + i)
        let s := s.modSec fun x => { x with fuses := ok.foldl (fun m i => put m (first + i) 1) x.fuses }
        if vfuse then .ret [(2, want.length - ok.length)] s
        else .done stNoResource (leBytes 2 (want.length - ok.length)) s) s)

/-- The 52 bits of a repair entry (Table 19-6). -/
def RepairEnt.word (e : RepairEnt) : Nat :=
  e.kind + e.unit * 2 ^ 4 + e.pos * 2 ^ 36 + e.spare * 2 ^ 48 + (if e.valid then 2 ^ 50 else 0)
    + if e.retired then 2 ^ 51 else 0

/-- An entry whose fuses are all intact. -/
def RepairEnt.blank : RepairEnt := ⟨0, 0, 0, 0, false, false⟩

/-- Fuse `a`: security fields, the serial number, and repair entries (R471, R562). A fuse of `FUSE_KEY` shows whether
its check is good (R472). -/
def State.fuseShown (s : State) (a : Nat) : Nat :=
  if a < 0x100 then (if s.fuseKeyGood then 1 else 0)
  else if 0x500 ≤ a ∧ a < 0x580 then bitsOf s.aon.serial (a - 0x500) 1
  else if 0x600 ≤ a ∧ a < 0x3FE4 then bitsOf (at' s.test.fuse ((a - 0x600) / 52) RepairEnt.blank).word ((a - 0x600) % 52) 1
  else at' s.sec.fuses a 0

/-- SEC_FUSE_READ: a fuse of `FUSE_KEY` reads as whether its check is good (R472). -/
def execSecFuseRead (mb : Fin 16) (first count : Nat) (s : State) : Out :=
  .next (talnum mb 0x0904 [(2, first), (2, count)]
    (checks [(decide (count = 0) || decide (1024 < count) || decide (0x4000 < first + count), stBadArg)]
      fun s =>
        .ret [((count + 7) / 8, (List.range count).foldl (fun v i => v + s.fuseShown (first + i) * 2 ^ i) 0)] s) s)

/-- SEC_PUBKEY_SET: the key becomes usable at the next Boot (R461, R473). -/
def execSecPubkeySet (mb : Fin 16) (idx key : Nat) (s : State) : Out :=
  .next (talnum mb 0x0905 [(1, idx), (96, key)]
    (checks [(decide (2 ≤ idx), stBadArg), (s.hashSet idx && pubHash key != s.fuseBits (hashFuse idx) 384, stBadArg)]
      fun s => .ok (s.modSec fun x => { x with pubKeys := put x.pubKeys idx key })) s)

/-- Allow bits of `SEC_PROT` by position (R466). -/
def allowBits : List Fld :=
  [R.SEC_PROT.ZK_OK, R.SEC_PROT.BBK_OK, R.SEC_PROT.DIAG_OK, R.SEC_PROT.SLOT0_WR, R.SEC_PROT.JTAG_FULL,
   R.SEC_PROT.EXPERT_OK, R.SEC_PROT.DBG_READ, R.SEC_PROT.DBG_PLUME, R.SEC_PROT.FK_OK, R.SEC_PROT.SECFUSE_WR]

/-- SEC_RESTRICT (R466). -/
def execSecRestrict (mb : Fin 16) (mask minSvn : Nat) (s : State) : Out :=
  .next (talnum mb 0x0906 [(4, mask), (1, minSvn)]
    (checks [(mask.testBit 0 || decide (2 ^ 18 ≤ mask) || decide (15 < minSvn)
        || decide (minSvn < s.get R.SEC_PROT.MIN_SVN), stBadArg)]
      fun s =>
        let s := forEach allowBits (fun f s => if mask.testBit f.lsb then s.set f 0 else s) s
        let s := if mask.testBit 1 then s.set R.SEC_PROT.SIG_REQ 1 else s
        let s := forEach (List.range 2) (fun k s => if mask.testBit (16 + k) then s.setBit R.SEC_PROT.PK_OK k false else s) s
        let s := s.set R.SEC_PROT.MIN_SVN minSvn
        .ret [(4, s.cardWord 0x60)] s) s)

/-- SEC_TAMPER_CLR (R469). -/
def execSecTamperClr (mb : Fin 16) (s : State) : Out :=
  .next (talnum mb 0x0907 []
    (checks [(s.flag R.SEC_STAT.TAMPER_NOW, stDenied)]
      fun s =>
        let s := s.set R.SEC_STAT.TAMPERED 0
        .ret [(4, s.cardWord 0x64)] s) s)

end Sys2Proof.Machine
end

