-- ==== Sys2Proof/Machine/Img.lean ====
section
/-! DEFINITION. The image store and the configuration commands of Table 14-14 ("Configuration Loading and Blocking"). -/

namespace Sys2Proof.Machine

/-! ## The image store -/

/-- A slot's directory entry as commands return it: valid, length, `IMAGE_ID`, CRC-32, write count, powered age in hours
(R439). (DESIGN CHOICE, assumption 142) -/
def slotEntry (x : ImgSlot) : List (Nat × Nat) :=
  [(1, if x.valid then 1 else 0), (4, x.length), (4, x.imageId), (4, x.crc), (4, x.writes), (4, x.ageH)]

/-- CRC-32 over the stored length of a slot (R379, R439). -/
def slotCrc (x : ImgSlot) : Nat := crc32 (x.bytes.take x.length)

/-- A refresh works on slot `k`. -/
def State.refreshing (s : State) (k : Nat) : Bool := match s.cfg.refresh with | some e => e.1 == k | none => false

/-- A load or a repair reads slot `k`. -/
def State.slotInUse (s : State) (k : Nat) : Bool :=
  s.slotRead k || match s.integ.repair with
    | some x => (s.plane (x.key / 4) (x.key % 4)).source.any fun e => e.1 == k
    | none => false

/-- Slot `k` is under an `IMGSUM` slice (R556). (DEDUCED, assumption 196) -/
def State.slotTested (s : State) (k : Nat) : Bool := s.test.busy.contains (512 + k)

/-- IMG_INFO (R439). (DESIGN CHOICE, assumption 142) -/
def execImgInfo (mb : Fin 16) (slot verify : Nat) (s : State) : Out :=
  .next (talnum mb 0x0203 [(1, slot), (1, verify)]
    (checks [(decide (5 < slot) || decide (1 < verify) || (slot == 5 && verify == 1), stBadArg),
        (s.slotTested slot, stBusyTest),
        (verify == 1 && (s.slotInUse slot || (s.slot slot).writing || s.refreshing slot), stBusy)]
      fun s =>
        if slot = 5 then .ret [(4, 0x3C000000), (4, 0x4000000), (1, s.cfg.bootSlot), (2, s.cfg.journal.length)] s
        else
          let x := s.slot slot
          if verify = 0 then .ret (slotEntry x) s
          else .ret (slotEntry x ++ [(4, slotCrc x), (1, if slotCrc x = x.crc then 1 else 0)]) s) s)

/-- Slot 0 may not be written (R467). -/
def State.slotBarred (s : State) (k : Nat) : Bool := k == 0 && !s.flag R.SEC_PROT.SLOT0_WR

/-- IMG_WRITE: the slot is marked invalid, then erased (R439, R467). -/
def execImgWrite (mb : Fin 16) (slot len : Nat) (s : State) : Out :=
  .next (talnum mb 0x0204 [(1, slot), (4, len)]
    (checks [(decide (4 < slot) || decide (201326592 < len), stBadArg), (s.slotTested slot, stBusyTest),
        (s.slotBarred slot, stDenied), (s.slotInUse slot || s.refreshing slot, stBusy)]
      fun s => .ok (s.setSlot slot { ImgSlot.init with
        declared := len, writes := (s.slot slot).writes + 1, writing := true })) s)

/-- Bytes arrive for the slot at offset `off`: they are stored where they continue what it holds (R455). -/
def State.putBytes (s : State) (k off : Nat) (bytes : List Nat) : Option State :=
  let x := s.slot k
  if !x.writing || off != x.bytes.length || decide (x.declared < off + bytes.length) then none
  else some (s.setSlot k { x with bytes := x.bytes ++ bytes })

/-- IMG_DATA (R455, R467). -/
def execImgData (mb : Fin 16) (slot off : Nat) (bytes : List Nat) (s : State) : Out :=
  .next (talnumBytes mb 0x0205 [(1, slot), (4, off)] bytes
    (checks [(decide (4 < slot), stBadArg), (s.slotBarred slot, stDenied)]
      fun s => match s.putBytes slot off bytes with
        | some t => .ok t
        | none => .fail stBadArg s) s)

/-- IMG_DATA_PACKET: a `PWRITE` to endpoint 0A2h, for the slot that is being written (R455). (DESIGN CHOICE, assumption
142) -/
def execImgDataPacket (p : Pkt) (s : State) : Out :=
  if !s.up || s.rxHead 0xA2 != some p then .next s
  else
    let s := popRx 0xA2 s
    if p.typ ≠ 2 then .next (answerPkt p 1 0 [] false s)
    else match (List.range 5).find? fun k => (s.slot k).writing with
      | none => .next (logNoc p 1 0 s)
      | some k =>
        if s.slotBarred k then .next (logNoc p 1 0 s)
        else match s.putBytes k p.off p.data with
          | some t => .next t
          | none => .next (logNoc p 2 0 s)

/-- IMG_COMMIT: the slot becomes valid when it is whole and begins with a header (R439). -/
def execImgCommit (mb : Fin 16) (slot : Nat) (s : State) : Out :=
  let x := s.slot slot
  .next (talnum mb 0x0206 [(1, slot)]
    (checks [(decide (4 < slot) || !x.writing, stBadArg), (decide (x.bytes.length < x.declared), stShort),
        (!magicOk (slotWord x 0), stForeign)]
      fun s =>
        let crc := crc32 x.bytes
        .ret [(4, crc)] (s.setSlot slot { x with
          valid := true, writing := false, length := x.bytes.length, crc := crc, imageId := slotWord x 16 % 2 ^ 32 })) s)

/-- IMG_BOOT (R455). -/
def execImgBoot (mb : Fin 16) (slot : Nat) (s : State) : Out :=
  .next (talnum mb 0x0207 [(1, slot)]
    (checks [(decide (slot = 0) || decide (4 < slot), stBadArg), (s.slotTested slot, stBusyTest), (!(s.slot slot).valid, stDenied)]
      fun s => .ok (s.modCfg fun c => { c with bootSlot := slot })) s)

/-- IMG_REFRESH: a refresh starts (R440, R467). -/
def execImgRefresh (mb : Fin 16) (slot : Nat) (s : State) : Out :=
  .next (talnum mb 0x0208 [(1, slot)]
    (checks [(decide (4 < slot), stBadArg), (s.slotTested slot, stBusyTest), (s.slotBarred slot, stDenied),
        (s.cfg.refresh.isSome || (s.slot slot).writing, stBusy)]
      fun s => .ok (s.modCfg fun c => { c with refresh := some (slot, 0) })) s)

/-- IMAGE_REFRESH_START: the refresh of a slot whose powered age reaches 8,760 hours starts, or the refresh that runs on
it makes its next move: a unit is copied to its staging unit and entered in the journal, or reprogrammed, verified and
cleared from the journal (R440). It waits while a load runs. -/
def execImageRefreshStart (slot : Fin 5) (s : State) : Out :=
  if !s.up || !s.mgt.running || !s.clocked 12 then .next s
  else match s.cfg.refresh with
    | none =>
      if (s.slot slot).valid && decide (8760 ≤ (s.slot slot).ageH) then
        .next (s.modCfg fun c => { c with refresh := some (slot.val, 0) })
      else .next s
    | some (k, u) =>
      let x := s.slot k
      if k ≠ slot.val ∨ s.cfg.load.isSome then .next s
      else if 2 * ((x.length + 262143) / 262144) ≤ u then
        .next ((s.setSlot k { x with ageH := 0, writes := x.writes + 1 }).modCfg fun c => { c with refresh := none })
      else if u % 2 = 0 then
        .next (s.modCfg fun c => { c with refresh := some (k, u + 1), journal := c.journal ++ [(k, u / 2)] })
      else .next (s.modCfg fun c => { c with
        refresh := some (k, u + 1), journal := c.journal.filter fun e => e != (k, u / 2) })

/-! ## Loads by command -/

/-- Source arguments of `CFG_LOAD` by source (Table 14-14): slot and byte offset, none, lane, device ID and endpoint. -/
def sourceArgs (source num off ep : Nat) : List (Nat × Nat) :=
  match source with
  | 0 => [(1, num), (4, off)]
  | 1 => []
  | 2 => [(1, num)]
  | _ => [(3, num), (2, ep)]

/-- The source arguments lie outside their ranges. -/
def badSource (source num ep : Nat) : Bool :=
  decide (3 < source) || (source == 0 && decide (4 < num)) || (source == 2 && decide (95 < num))
    || (source == 3 && (decide (2 ^ 20 ≤ num) || decide (4096 ≤ ep)))

/-- Lane `l` lies on a side that Boot reserves (R396). -/
def State.sideReserved (s : State) (l : Nat) : Bool :=
  (l / 24 == 0 && s.flag R.STRAP_LATCH.MCLK_SRC) || (l / 24 == 1 && !s.flag R.STRAP_LATCH.FCB_EN)

/-- The timing lane or the management lane that Boot and Load keep (R396). -/
def State.bootLane (s : State) (l : Nat) : Bool :=
  (l == 0 && s.flag R.STRAP_LATCH.MCLK_SRC) || (l == 24 && !s.flag R.STRAP_LATCH.FCB_EN)

/-- Firmware brings up the lane of a first load: Free mode at 25.78125 Gbit/s with K = 1 (R442). -/
def laneForLoad (first : Bool) (l : Nat) (s : State) : State :=
  let s := s.modLane l fun b => { b with loading := true }
  if !first ∨ lsIdle < s.laneState l then s
  else bringUp l ((applySetting (17 + l / 24) 1 125 32 s).set (R.LANE_CFG.KDIV l) 0)

/-- A repair that runs ends without a write and is queued again (R482). -/
def yieldRepair (s : State) : State :=
  match s.integ.repair with
  | none => s
  | some x =>
    let r := x.key / 4
    let s := s.modCtx r fun c => { c with claim := none, claimReq := if c.claimReq = some (x.key % 4) then none else c.claimReq }
    let s := applyIf x.claimed (setPlaneState r (x.key % 4) psHood) s
    let asks := if x.serial = 0 then s.integ.asks else (x.serial, x.key, x.done, x.frames) :: s.integ.asks
    let q := if x.serial = 0 then s.integ.queue ++ x.frames.map fun f => (x.key, f) else s.integ.queue
    refreshClaimed r { s with integ := { s.integ with repair := none, asks := asks, queue := q } }

/-- Region `r` as a full reload leaves it: every plane Empty and nothing in progress (Table 14-6). -/
def emptyRegion (r : Nat) (s : State) : State :=
  let c := s.ctxR r
  let s := match c.host with | some (n, _) => finishCmd n stDenied [] false s | none => s
  let s := match c.capReq with | some n => finishCmd n stDenied [] false s | none => s
  let s := forEach c.due (fun e s => finishCmd e.2.2 stOk [] false s) s
  let s := forEach (List.range 4) (emptyPlane r) (endRotation r s)
  let s := s.modFab fun f => { f with out := dropKeys f.out fun a => borderRegion a == r
                                      pil := dropKeys f.pil fun a => borderRegion a == r }
  let s := s.modCtx r fun c => { CtxR.init with cap := c.cap, rstCause := c.rstCause }
  refreshBorder r (refreshClaimed r s)

/-- Entry to Load by a full reload (R448, R582, Tables 4-3 and 14-6). -/
def enterReload (keep : Option Nat) (s : State) : State :=
  let s := ((s.set R.DEV_MODE.COND_TWIN 0).set R.DEV_MODE.TWIN_ALONE 0).set R.TWIN_STAT.PAIRED 0
  let s := { s with integ := { s.integ with repair := none, queue := [] } }
  let s := commitMode mLoad ((eachRegion emptyRegion s).set R.DEV_MODE.COND_REBLOCK 0)
  let s := s.modFab fun f => { f with clocksOn := false, writes := false, switching := [], skip := [] }
  let s := s.modIo fun i => { i with released := false }
  let s := driveDacs s
  let s := forEach (List.range 96) (fun l s =>
    if keep = some l ∨ s.laneState l = lsOff ∨ s.bootLane l then s else bundleCheckDown l (setLane l lsOff s)) s
  holdGsr (s.modAon fun a => { a with safeCauses := [], pairWait := false })

/-- The load of a `CFG_LOAD` or `MODE_BOOT_GO`. (DEDUCED, assumption 143) -/
def commandLoad (mb kind source num off ep timeout : Nat) (s : State) : Ans :=
  let s := yieldRepair s
  let l := newLoad kind source num ep (if source = 0 then off else 0) (if timeout = 0 then 100 else timeout) (s.serial mb)
  if source = 0 ∧ !(s.slot num).valid then
    let s := setLast stShort s
    .done stShort (loadResult l stShort false) (if kind = 0 then afterFailure l s else s)
  else
    let s := applyIf (kind == 1) (enterReload (if source = 2 then some num else none)) s
    .runs (startLoad l (applyIf (source == 2) (laneForLoad (kind == 0) num) s))

/-- The mode allows a load of a kind (Table 14-6). -/
def State.kindAllowed (s : State) (kind : Nat) : Bool :=
  match kind with
  | 0 => s.mode == mLoad && (s.get R.CFG_STAT.STATE == 0 || s.get R.CFG_STAT.STATE == 5)
  | 3 => s.runClass
  | _ => s.runClass || s.mode == mSafe

/-- CFG_LOAD (R432, R448, R449). (DEDUCED, assumption 143) -/
def execCfgLoad (mb : Fin 16) (kind source num off ep timeout : Nat) (s : State) : Out :=
  .next (talnum mb 0x0200 ([(1, kind), (1, source)] ++ sourceArgs source num off ep ++ [(2, timeout)])
    (checks [(decide (3 < kind) || badSource source num ep || decide (10000 < timeout), stBadArg),
        (source == 0 && (s.slot num).valid && (off % 8 != 0 || decide ((s.slot num).length ≤ off)), stBadArg),
        (source == 2 && s.laneTested num, stBusyTest), (s.cfg.load.isSome, stBusy), (!s.kindAllowed kind, stDenied),
        (source == 2 && kind == 0 && s.sideReserved num, stDenied)]
      (commandLoad mb kind source num off ep timeout)) s)

/-- CFG_STATUS (R455). -/
def execCfgStatus (mb : Fin 16) (s : State) : Out :=
  .next (talnum mb 0x0201 []
    (fun s => .ret [(4, s.cardWord 0xC00000), (4, s.get R.CFG_ID.IMAGE_ID), (4, s.cardWord 0xC0001C),
      (4, s.cfg.received)] s) s)

/-- CFG_ABORT: an early end before the commit edge (R449). Without a load there is nothing to abort. (DEDUCED,
assumption 143) -/
def execCfgAbort (mb : Fin 16) (s : State) : Out :=
  .next (talnum mb 0x0202 []
    (checks [(s.cfg.load.isNone || s.loadCommitted, stDenied)] fun s => .ok (endLoadWith stShort true true s)) s)

/-- CFG_SOURCE: slot and offset of a plane's segment, slot FFh for none (R437). -/
def execCfgSource (mb : Fin 16) (r p : Nat) (s : State) : Out :=
  .next (talnum mb 0x0209 [(1, r), (1, p)]
    (checks [(decide (128 ≤ r) || decide (4 ≤ p), stBadArg), (s.test.busy.contains (1024 + 4 * r + p), stBusyTest)]
      fun s => match (s.plane r p).source with
        | some (k, o) => .ret [(1, k), (4, o)] s
        | none => .ret [(1, 255), (4, 0)] s) s)

end Sys2Proof.Machine
end

