-- ==== Sys2Proof/WellFormed.lean ====
section
/-! DEFINITION. What the sender of a command may put into its operands: the widths and ranges that the manual gives. The
arguments of a Talnum command are checked by the command itself (R502, R511) and are not repeated here. -/

namespace Sys2Proof

/-- A run of bytes. -/
def isBytes (l : List Nat) : Bool := l.all fun b => decide (b < 256)

/-- A vertical group address has the form of Table 1-6: an interface of Table 1-5, a cluster, reserved bits 0. -/
def vertAddr (a : Nat) : Bool :=
  decide (a < 2 ^ 32) && decide (bitsOf a 29 3 < 5) && decide (bitsOf a 10 12 < 3136) && decide (bitsOf a 0 6 = 0)

/-- Data signals of the group at address `a`: 64 on a face-to-face interface, else 32 (Table 1-5). -/
def vertData (a : Nat) : Nat := if bitsOf a 29 3 = 2 ∨ bitsOf a 29 3 = 4 then 64 else 32

/-- Spares of the group at address `a`: 4 on a face-to-face interface, else 2 (Table 1-5). -/
def groupSpares (a : Nat) : Nat := if bitsOf a 29 3 = 2 ∨ bitsOf a 29 3 = 4 then 4 else 2

/-- Positions of the group at address `a`: its data signals, then its spares (R22). -/
def vertSignals (a : Nat) : Nat := vertData a + groupSpares a

/-- A failure that a slice reports: the slice is one of Table 19-2, the address lies in its space (a vertical group with a
position of it for slice 0, a page of the stacks for slice 5), the data bit in a frame word or a row. -/
def FailEntry.wf (f : FailEntry) : Bool :=
  decide (f.slice < 16) && decide (f.bit < 2 ^ 16)
    && (if f.slice = 0 then vertAddr f.addr && decide (f.bit < vertSignals f.addr) else decide (f.addr < 2 ^ 36))

/-- What a slice produced: failures of the form above, and a 64-bit signature. -/
def SliceOutcome.wf (o : SliceOutcome) : Bool := o.fails.all FailEntry.wf && decide (o.sig < 2 ^ 64)

/-- Each cluster, each of its cells, each output and each pillar is listed once. -/
def FabIn.wf (i : FabIn) : Bool :=
  decide (i.clu.map fun u => u.cluster).Nodup && (i.clu.all fun u => decide (u.cells.map fun x => x.cell).Nodup)
    && decide (i.outs.map fun e => e.1).Nodup && decide (i.pil.map fun e => (e.cluster, e.pillar)).Nodup

/-- An edge lists each cell, output, pillar and launch stage once. -/
def FfEdge.wf : FfEdge → Bool
  | .net _ _ i => i.wf
  | .wire _ _ _ _ _ i => i.wf
  | .between _ i => i.wf
  | .seam _ l => decide (l.map fun e => e.1).Nodup

/-- A vertical group has an address of the form of Table 1-6. -/
def VertGroup.wf (g : VertGroup) : Bool := vertAddr g.addr

/-- A position lies in the group (R22). -/
def VertGroup.holds (g : VertGroup) (p : Nat) : Bool := decide (p < vertSignals g.addr)

/-- The fields of a packet fit the header flit of Table 13-3, and its data are the `LEN` bytes that its type carries. -/
def Pkt.wf (p : Pkt) : Bool :=
  decide (p.typ < 16) && decide (p.vc < 4) && decide (p.cls < 8) && decide (p.len ≤ 512) && decide (p.dhops < 32)
    && decide (p.status < 256) && decide (p.seq < 2 ^ 16) && decide (p.reqSeq < 2 ^ 16) && decide (p.tick < 2 ^ 48)
    && decide (p.srcDev < 2 ^ 20) && decide (p.srcEp < 2 ^ 12) && decide (p.dev < 2 ^ 20) && decide (p.ep < 2 ^ 12)
    && decide (p.off < 2 ^ 32) && decide (p.errinfo < 2 ^ 32) && isBytes p.data && decide (p.data.length ≤ p.len)
    && decide (p.route < 2 ^ 84) && decide (p.age < 16)

/-- The fields of an `ANNOUNCE` fit Table 12-3. -/
def Announce.wf (a : Announce) : Bool :=
  decide (a.hops ≤ 24) && decide (a.prio < 256) && decide (a.crown < 2 ^ 20) && decide (a.m < 128) && decide (a.kdiv < 4)

/-- A command whose operands the manual allows. -/
def Instr.wf : Instr → Bool
  | .vaonPresent notOff => decide (notOff < 2 ^ 14)
  | .vaonLost => true
  | .railPresent _ notOff => decide (notOff < 2 ^ 14)
  | .supplyFault _ => true
  | .railOff _ notOff => decide (notOff < 2 ^ 14)
  | .resetNLow _ => true
  | .resetNRise => true
  | .quickCheckEnd _ _ fails => fails.all FailEntry.wf
  | .wakeNLow _ => true
  | .tamperAssert _ => true
  | .vioPresent _ => true
  | .vioLoss _ => true
  | .vioRestore _ => true
  | .quiescentCommit => true
  | .wakeComplete => true
  | .pairingTimeout => true
  | .mclkMeasure _ => true
  | .mclkLoss => true
  | .mclkReturn _ => true
  | .tickBoundary => true
  | .tickLoad => true
  | .schedEntryFire _ => true
  | .synthLock _ => true
  | .synthUnlock _ => true
  | .handshakeTimeout _ _ => true
  | .pointerResyncDone _ => true
  | .flipFlopEdge e => e.wf
  | .clockSwitchComplete _ _ _ => true
  | .clockEnableChange _ _ => true
  | .fabSourceLost _ => true
  | .fabSourceReturn _ => true
  | .shedPassUpdate _ => true
  | .pillarContention _ _ _ _ => true
  | .seamClockLost _ => true
  | .bmPortAccess _ _ _ => true
  | .bmClrInput _ => true
  | .bmBulkClearDone _ => true
  | .abEdge _ _ _ => true
  | .swapEdge _ _ _ => true
  | .swapCycleEnd _ => true
  | .hostSwapTimeout _ _ => true
  | .swapMemberTimeout _ => true
  | .rotationEdge _ _ => true
  | .captureEdge _ _ _ race => decide ((race.map (·.1)).Nodup)
  | .hoodClaimGrant _ _ _ => true
  | .owReloadCommit _ => true
  | .owCopyDone _ _ => true
  | .owRegionRelease _ => true
  | .cachePortRequest _ _ => true
  | .bankCycle _ => true
  | .cachePortResponse _ => true
  | .handoverCommit _ => true
  | .handoverComplete _ => true
  | .fullPageBreak _ => true
  | .bankClearDone _ => true
  | .bankPowerChangeDone _ => true
  | .bankWake _ => true
  | .spillCopy _ => true
  | .cacheLineFill _ line => decide (line < 2 ^ 23)
  | .bulkPageAccess _ => true
  | .bulkFullPageTimeout _ => true
  | .segmentClearDone _ => true
  | .scrubUnit _ => true
  | .bgScrubTick _ => true
  | .tdcEdge _ e => decide (e.core.raw < 256) && decide (e.spare.raw < 256) && decide (e.tap < 512)
  | .hitArbiter _ => true
  | .watermarkEmit _ => true
  | .hitPortTransfer _ _ => true
  | .tdcCalSwitch _ => true
  | .tdcCodeDensityDone _ counts => decide (counts.length = 256)
  | .tdcCalSwitchBack _ => true
  | .tdcRotationTurn _ _ => true
  | .tpReqPulse _ => true
  | .testPulseFire _ => true
  | .idelayStep _ => true
  | .dacLoadApply _ => true
  | .hkpRoundEnd rds => rds.all fun x => decide (x.ch < 192)
  | .graceExpiry => true
  | .sensorRoundMissing => true
  | .lifeRecordWrite => true
  | .linkMonitorVisit g bad => g.wf && bad.all g.holds
  | .vertRemap g pos => g.wf && g.holds pos
  | .pounceFrameSlot _ upsets paths => (upsets.all fun i => decide (i ≤ 4184)) && paths.all fun e => e.1.wf && e.1.holds e.2
  | .repairLoadStart => true
  | .repairLoadEnd => true
  | .cfgPortWord _ => true
  | .cfgStreamPacket p => p.wf
  | .segmentHeader => true
  | .segmentForward _ => true
  | .segmentRecord => true
  | .segmentEnd => true
  | .segmentTagCheck => true
  | .signatureVerify => true
  | .loadCommit => true
  | .loadTimeout _ => true
  | .blockingLockDone => true
  | .lockTimeout => true
  | .blockingDelayEnd => true
  | .feltingFillEnd => true
  | .imageRefreshStart _ => true
  | .rdbkEnd => true
  | .npTxPacket _ p _ => p.wf
  | .routerHop _ _ => true
  | .wormAge _ _ => true
  | .nocResponseRx _ => true
  | .txnTimeout _ seq _ => decide (seq < 2 ^ 16)
  | .npRxStall _ => true
  | .doorPacketArrival _ p => p.wf
  | .routerDrainEnd _ => true
  | .routerDrainTimeout _ _ => true
  | .meshResetDrainEnd _ => true
  | .laneSignalDetect _ => true
  | .blockLock _ ofs _ _ => decide (ofs < 66)
  | .trainingBlockRx _ _ => true
  | .tapRequestTimeout _ _ => true
  | .trainDone _ => true
  | .bitSlip _ => true
  | .alignMeasureDone _ reads => decide (reads.length = 256) && reads.all fun x => decide (x.tick < 2 ^ 48) && decide (x.cycle < 128)
  | .laneEnterUp _ => true
  | .bringupTimeout _ _ => true
  | .laneDownEvent _ _ => true
  | .rxBufferFillCheck _ _ => true
  | .elasticAdjust _ _ => true
  | .adaptFreeze _ _ => true
  | .laneNoticeRx _ _ => true
  | .laneSignalWake _ => true
  | .laneDozeExitDone _ _ _ => true
  | .prbsCheck _ _ _ => true
  | .slicerCalTurn _ => true
  | .eyeScanEnd _ _ => true
  | .tickMarkerRx _ tick _ tcrc _ => decide (tick < 2 ^ 48) && decide (tcrc < 256)
  | .triggerSlotTx _ slot _ _ => decide (1 ≤ slot) && decide (slot < 64)
  | .triggerSlotRx _ slot _ => decide (1 ≤ slot) && decide (slot < 64)
  | .safeBlockRx _ sender cause _ => decide (sender < 2 ^ 20) && decide (cause < 16)
  | .pktRx _ lseqS lseqE h _ _ _ =>
    decide (lseqS < 4096) && decide (lseqE < 4096) && decide (h.count < 32) && decide (h.vc < 4)
  | .ackRx _ _ _ _ => true
  | .ackTimeout _ _ => true
  | .bundleDownTimeout _ => true
  | .initRx _ epoch dev role => decide (epoch < 2 ^ 16) && decide (dev < 2 ^ 20) && decide (role < 4)
  | .bridgeForward _ _ => true
  | .announceTx => true
  | .announceRx _ a => a.wf
  | .parentTimeout => true
  | .measRx _ lMeas fine ownFine _ => decide (lMeas < 2 ^ 16) && decide (fine < 4096) && decide (ownFine < 4096)
  | .syncAlignStep parentTime _ => decide (parentTime < 2 ^ 48)
  | .alignedRx _ hops _ => decide (hops < 32)
  | .pairIdRx id => decide (id < 2 ^ 32)
  | .pairGoRx tick => decide (tick < 2 ^ 48)
  | .pairStartTick => true
  | .digestTx => true
  | .digestRx tick16 _ => decide (tick16 < 2 ^ 16)
  | .digestMissing => true
  | .mgmtFrameRx _ bytes => isBytes bytes
  | .mailboxMsgPacket p => p.wf
  | .imgDataPacket p => p.wf
  | .millinerStart _ => true
  | .watchdogExpiry => true
  | .lockstepMismatch => true
  | .mailboxTake _ => true
  | .mailboxComplete _ => true
  | .mailboxTimeout _ _ => true
  | .sliceEnd o => o.wf
  | .sliceBudgetExpiry o => o.wf
  | .funcResetDrainDone _ => true
  | .expertWriteDeliver => true
  | .registerWrite _ _ => true
  | .tickLoRead => true
  | .devModeWake => true
  | .devCtlRestart _ _ => true
  | .devCtlSafe _ => true
  | .rstFuncWrite _ _ => true
  | .expertWindowWrite _ _ => true
  | .mbCtlGo _ => true
  | .mbCtlDoneClear _ => true
  | .mbCtlAbort _ => true
  | .mbCtlEvtPop _ => true
  | .plumeSelWrite _ _ => true
  | .bankOwnGo _ => true
  | .bankStatClr _ => true
  | .bmStatClr _ => true
  | .segCfgClr _ => true
  | .splitCtlGo => true
  | .rtAccGo => true
  | .rtrCfgApply _ => true
  | .tdcCfgCalReq _ => true
  | .idelayWrite _ _ => true
  | .dacCodeWrite _ _ => true
  | .swapTgtWrite _ _ _ => true
  | .thermCfgWrite _ => true
  | .fcbaccUpdate _ => true
  | .unknownCommand _ => true
  | .idGet _ => true
  | .fwInfo _ => true
  | .fwWrite _ _ _ bytes => isBytes bytes
  | .fwCommit _ _ => true
  | .expertUnlock _ _ _ => true
  | .expertLock _ _ _ => true
  | .funcReset _ _ _ => true
  | .eventCfg _ _ _ => true
  | .mbConfig _ _ _ => true
  | .modeGet _ => true
  | .modeSafe _ => true
  | .modeResume _ => true
  | .modeQuiesce _ _ _ => true
  | .modeWake _ => true
  | .modeShutdown _ _ _ _ => true
  | .modeRestart _ => true
  | .modeBootGo _ _ _ => true
  | .cfgLoad _ _ _ _ _ _ _ => true
  | .cfgStatus _ => true
  | .cfgAbort _ => true
  | .imgInfo _ _ _ => true
  | .imgWrite _ _ _ => true
  | .imgData _ _ _ bytes => isBytes bytes
  | .imgCommit _ _ => true
  | .imgBoot _ _ => true
  | .imgRefresh _ _ => true
  | .cfgSource _ _ _ => true
  | .ctxStatus _ _ => true
  | .ctxSwap _ _ _ _ _ => true
  | .ctxSetDef _ _ _ _ _ => true
  | .ctxDiscard _ _ _ => true
  | .ctxRotate _ _ _ _ _ => true
  | .ctxCapture _ _ _ => true
  | .ctxCapFree _ _ => true
  | .cacheGet _ _ _ => true
  | .cacheOwn _ _ _ _ => true
  | .cacheCode _ _ _ _ => true
  | .cacheClear _ _ => true
  | .cachePower _ _ _ => true
  | .cacheWin _ _ _ _ _ _ => true
  | .cacheMode _ _ _ _ _ => true
  | .cacheFlush _ _ _ => true
  | .cacheSpill _ _ _ _ => true
  | .cacheRepair _ _ => true
  | .bulkGet _ _ _ => true
  | .bulkCode _ _ _ _ => true
  | .bulkClear _ _ => true
  | .scrubStart _ _ _ _ _ _ => true
  | .scrubStatus _ _ _ => true
  | .scrubAbort _ _ => true
  | .scrubBg _ _ _ => true
  | .splitGo _ _ _ _ bytes => isBytes bytes
  | .bmClear _ _ _ => true
  | .bmGet _ _ _ _ => true
  | .abFlags _ _ _ => true
  | .laneGet _ _ => true
  | .laneUp _ _ _ => true
  | .laneDown _ _ => true
  | .lanePower _ _ _ => true
  | .laneFlSet _ _ _ => true
  | .laneSlip _ _ _ => true
  | .laneTest _ _ _ _ _ => true
  | .laneErr _ _ _ => true
  | .laneEye _ _ _ _ _ _ _ => true
  | .laneEqSet _ _ _ _ _ _ _ => true
  | .linkGet _ _ => true
  | .drtSet _ _ _ _ _ _ => true
  | .drtGet _ _ _ => true
  | .linkIdSet _ _ => true
  | .twinGet _ => true
  | .twinPolicy _ _ _ => true
  | .timeGet _ => true
  | .schedAdd _ _ _ _ _ => true
  | .schedCancel _ _ => true
  | .schedList _ _ _ => true
  | .clkSet _ _ _ _ _ => true
  | .clkGet _ _ => true
  | .timeSet _ _ _ => true
  | .syncRole _ _ => true
  | .syncGet _ => true
  | .syncAlign _ => true
  | .linkAsym _ _ _ => true
  | .pinGet _ _ => true
  | .pinSet _ _ _ => true
  | .tdcSet _ _ _ => true
  | .tdcCal _ _ => true
  | .tdcStat _ _ => true
  | .tpArm _ _ _ _ => true
  | .dacSet _ _ _ => true
  | .adcGet _ _ => true
  | .hkpRead _ _ _ => true
  | .hkpMask _ _ => true
  | .thermGet _ => true
  | .thermSet _ _ _ _ => true
  | .thermPeakClr _ => true
  | .lifeGet _ => true
  | .pwrGet _ => true
  | .vertGet _ _ _ => true
  | .diePower _ _ _ _ => true
  | .testGet _ => true
  | .testResults _ _ _ _ => true
  | .testRun _ _ _ _ => true
  | .testPolicy _ _ => true
  | .testFence _ => true
  | .repairList _ _ _ _ => true
  | .repairFuse _ _ _ _ _ => true
  | .repairRetire _ _ _ => true
  | .secStatus _ => true
  | .secBbkSet _ _ _ _ => true
  | .secZeroise _ => true
  | .secFuseProg _ _ _ _ _ _ => true
  | .secFuseRead _ _ _ => true
  | .secPubkeySet _ _ _ => true
  | .secRestrict _ _ _ => true
  | .secTamperClr _ => true
  | .pounceSet _ _ _ _ => true
  | .pounceGet _ _ _ => true
  | .essLog _ _ _ _ => true
  | .cfgRepair _ _ _ _ => true
  | .rdbkStart _ _ _ _ _ _ _ _ => true
  | .rdbkAbort _ => true
  | .plumeSet _ _ _ _ _ => true
  | .plumeGet _ => true
  | .nocRtSet _ _ _ _ _ => true
  | .nocRtGet _ _ _ _ => true
  | .nocRtrSet _ _ _ _ => true
  | .nocNiSet _ _ _ _ _ _ => true
  | .nocStatus _ _ _ => true
  | .nocErrlog _ _ _ _ => true
  | .calExport _ _ _ _ => true
  | .calImport _ _ _ bytes _ => isBytes bytes
  | .calList _ => true
  | .calSave _ _ _ => true
  | .tamperNHigh => true
  | .vbatLow _ => true
  | .vioAbsent _ => true
  | .tapUpdateIr _ => true
  | .nocPortRxFlit _ _ => true
  | .baseRRxBlock _ _ _ _ => true
  | .baseRTxBlock _ _ _ => true
  | .streamPositionTx _ => true

end Sys2Proof
end

