-- ==== Sys2Proof/Machine/VertOps.lean ====
section
/-! DEFINITION. Vertical groups in service: failed signals, spares, and what a fence withdraws ("Supplies, Heat and
Service Life"). -/

namespace Sys2Proof.Machine

/-- Vertical group at address `a`. -/
def State.vgroup (s : State) (a : Nat) : VGroup := at' s.therm.vert a ⟨[], [], false⟩

/-- Change the vertical group at address `a`. -/
def State.modVert (s : State) (a : Nat) (f : VGroup → VGroup) : State :=
  s.modTherm fun t => { t with vert := putD t.vert a ⟨[], [], false⟩ (f (s.vgroup a)) }

/-- Spare `k` of the group at address `a` is in use, by a repair that Boot applied or by one made in service (R20, R548). -/
def State.spareTaken (s : State) (a k : Nat) : Bool :=
  (s.test.applied.any fun e => e.kind == 1 && e.unit == a && e.spare == k) || (s.vgroup a).remapped.any fun e => e.2 == k

/-- The lowest spare of the group at address `a` that no repair uses (R20). -/
def State.freeSpare (s : State) (a : Nat) : Option Nat :=
  (List.range (groupSpares a)).find? fun k => !s.spareTaken a k

/-- The banks that region `r` owns pass to the cache agent (R272). -/
def releaseBanks (r : Nat) (s : State) : State :=
  forEach (List.range 256) (fun b s =>
    if s.get (R.BANK_OWN.OWNER b) = r then
      let s := s.set (R.BANK_OWN.NEXT b) ownAgent
      if s.flag (R.BANK_OWN.PEND b) then s else commitHandover b s
    else s) s

/-- Region `r` is fenced: border cause 100b begins, plume pins on it drive 0 and its banks pass on (Table 18-6). -/
def fenceRegion (r : Nat) (s : State) : State :=
  let s := applyIf (!s.flag (R.BORDER_STAT.FENCED r)) (keepPolicy 512 r) s
  let s := refreshBorder r ((beginHold r s).set (R.BORDER_STAT.FENCED r) 1)
  releaseBanks r (swapPlume r s)

/-- Seam signals of a port present 0 from now on (R193). -/
def fenceSeam (p addr : Nat) (border : List Nat) (s : State) : State :=
  let new := border.filter fun b => !s.fab.seamFenced.contains b
  let s := s.modFab fun f => { f with
    seamFenced := f.seamFenced ++ new
    seam := dropKeys f.seam fun k => k / 32768 == p && k % 4 == 3 && new.contains (seamAddr p (k / 4 % 8192)) }
  let s := (s.set (R.SEAM_CFG.FENCED p) 1).addSat (R.SEAM_CFG.FENCE_CNT p) new.length
  let s := raise 0x0222 [(1, p), (4, addr)] s
  forEach new (fun b s => logEss 6 0 b 0xFFFF 0 0 s) s

/-- Port `o` of router or stop `n` is disabled. -/
def closePort (n o : Nat) (s : State) : State :=
  let v := s.penAct n
  if v.testBit o then s.modNoc fun m => { m with penAct := putD m.penAct n (portMask n) (v - 2 ^ o) } else s

/-- Element number of what a group carries, as an event gives it: kind × 2^16 + index. (DEDUCED, assumption 148) -/
def elementOf : VertLoad → Nat
  | .region r => r
  | .cachePort r => 2 ^ 16 + r
  | .bankPath b => 2 * 2 ^ 16 + b
  | .farPath a b => 3 * 2 ^ 16 + 4 * a + b
  | .seam p _ => 4 * 2 ^ 16 + p
  | .join r _ => 5 * 2 ^ 16 + r
  | .hitStream b => 6 * 2 ^ 16 + b
  | .trigger l => 7 * 2 ^ 16 + l

/-- What a fenced group carries is withdrawn (Table 18-6, R193, R298). (DEDUCED, assumption 188) -/
def withdraw (addr : Nat) (c : VertLoad) (s : State) : State :=
  match c with
  | .region r => fenceRegion r s
  | .cachePort r => raise 0x0304 [(2, r), (4, addr)] (s.modPort r fun p => { p with offline := true })
  | .bankPath b => raise 0x0304 [(2, b), (4, addr)] (offlineBank b s)
  | .farPath a b =>
    raise 0x0304 [(2, diePair a b), (4, addr)] (s.modCache fun k => { k with
      farOff := if k.farOff.contains (diePair a b) then k.farOff else diePair a b :: k.farOff })
  | .seam p border => fenceSeam p addr border s
  | .join r st => closePort (128 + st) 5 (closePort r 5 s)
  | .hitStream b => s.modFab fun f => { f with cutHits := if f.cutHits.contains b.val then f.cutHits else b.val :: f.cutHits }
  | .trigger l => s.modFab fun f => { f with cutLanes := if f.cutLanes.contains l.val then f.cutLanes else l.val :: f.cutLanes }

/-- VERT_FENCE: a group with a failed signal and no free spare is fenced, logged and reported (R549, R550). (DEDUCED,
assumption 188) -/
def fenceGroup (g : VertGroup) (s : State) : State :=
  if (s.vgroup g.addr).fenced then s
  else
    let s := s.modVert g.addr fun v => { v with fenced := true }
    let s := withdraw g.addr g.carries s
    let s := logEss 7 0 g.addr 0xFFFF 0 0 s
    let s := ((s.inc R.VERT_STAT.FENCED).set R.VERT_STAT.VERT_NEW 1).set R.VERT_LAST.ADDR g.addr
    let s := s.modTherm fun t => { t with
      fences := t.fences ++ [⟨g.addr, elementOf g.carries, s.clk.tick⟩]
      repairRec := t.repairRec ++ [(g.addr, 255)] }
    raise 0x0711 [(4, g.addr), (4, elementOf g.carries)] s

/-- Signal `pos` of a group has failed (R547): a free spare waits for its remap, else the group is fenced (R549).
(DEDUCED, assumption 188) -/
def failSignal (g : VertGroup) (pos : Nat) (s : State) : State :=
  if (s.freeSpare g.addr).isSome then s.modVert g.addr fun v => { v with bad := put v.bad pos 3 } else fenceGroup g s

/-- LINK_MONITOR_VISIT: a signal that disagrees at 3 consecutive visits has failed (R547). -/
def execLinkMonitorVisit (g : VertGroup) (bad : List Nat) (s : State) : Out :=
  if !s.up || (s.vgroup g.addr).fenced then .next s
  else
    let v := s.vgroup g.addr
    let bad := bad.filter fun p => !v.remapped.any fun e => e.1 == p
    let now := bad.dedup.foldl (fun m p => put m p (min (at' v.bad p 0 + 1) 3)) []
    let keep := v.bad.filter fun e => e.2 == 3
    let s := s.modVert g.addr fun v => { v with bad := keep.foldl (fun m (e : Nat × Nat) => put m e.1 3) now }
    .next (forEach (now.filter fun e => e.2 == 3) (fun (e : Nat × Nat) => failSignal g e.1) s)

/-- VERT_REMAP: a failed signal moves to the lowest free spare of its group (R20, R548, R561). (DESIGN CHOICE, assumption
206) -/
def execVertRemap (g : VertGroup) (pos : Nat) (s : State) : Out :=
  let v := s.vgroup g.addr
  match s.freeSpare g.addr with
  | none => .next s
  | some k =>
    if !s.up || v.fenced || at' v.bad pos 0 != 3 then .next s
    else
      let e : RepairEnt := ⟨1, g.addr, pos, k, true, false⟩
      let s := s.modVert g.addr fun v => { v with remapped := v.remapped ++ [(pos, k)], bad := del v.bad pos }
      let s := (s.inc R.VERT_STAT.REMAPS).set R.VERT_STAT.VERT_NEW 1
      let full := decide (4096 ≤ s.test.soft.length)
      let s := if full then s.set R.FUSE_LEFT.SOFT_FULL 1
        else { s with test := { s.test with soft := s.test.soft ++ [e] } }
      let s := s.set R.FUSE_LEFT.SOFT s.test.soft.length
      .next (raise 0x0710 [(4, g.addr), (1, pos)] s)

end Sys2Proof.Machine
end

