-- ==== Sys2Proof/Machine/TestOps.lean ====
section
/-! DEFINITION. Self-test slices: their units and counts, what a failure leads to, repairs, fences, and the end of a slice
("Self-Test and Repair"). -/

namespace Sys2Proof.Machine

/-- Change the self-test state. -/
def State.modTest (s : State) (f : Test → Test) : State := { s with test := f s.test }

/-! ## Units and counts -/

/-- Units of slice `i` in Test (Table 19-1). The manual does not count the vertical groups, so `VERT` lists none. -/
def State.testUnits (s : State) (i : Nat) : List Nat :=
  match i with
  | 1 => List.range 24
  | 2 => List.range 512
  | 3 => List.range 12288
  | 4 => List.range 256
  | 5 => List.range 2
  | 6 => List.range 1632
  | 7 => List.range 32
  | 8 => List.range 96
  | 9 => (List.range 5).filter fun k => (s.slot k).valid
  | _ => []

/-- Units of an in-service run on unit `u`: a plane, a region's block memories, a bank, a stack, a bank group's cores, a
quad's lanes or a slot (Table 19-1). (DESIGN CHOICE, assumption 192) -/
def serviceUnits (i u : Nat) : List Nat :=
  match i with
  | 3 => (List.range 96).map (96 * u + ·)
  | 6 => (List.range 192).map (192 * u + ·) ++ (List.range 12).map (1536 + 12 * u + ·)
  | 8 => (List.range 4).map (4 * u + ·)
  | _ => [u]

/-- In-service units of slice `i`; none for a slice of Test only. -/
def serviceCount (i : Nat) : Nat :=
  match i with | 2 => 512 | 3 => 128 | 4 => 256 | 5 => 2 | 6 => 8 | 8 => 24 | 9 => 5 | _ => 0

/-- Patterns of unit `u` of slice `i` (Table 19-1). -/
def State.patterns (s : State) (i u : Nat) : Nat :=
  match i with
  | 1 => 16
  | 2 => 4 * 1372
  | 3 => 10 * 1024
  | 4 => 10 * 16384
  | 5 => 4 * 12189696
  | 6 => 524288
  | 7 => 4 * 48
  | 8 => 32768
  | 9 => ((s.slot u).length + 262143) / 262144
  | _ => 0

/-- The programmed count of a slice (R554). (DEDUCED, assumption 189) -/
def State.progCount (s : State) (i : Nat) (units : List Nat) : Nat := (units.map (s.patterns i)).sum

/-- What a unit under test isolates, as `Test.busy` numbers it (R556). -/
def busyKey (i u : Nat) : Option Nat :=
  match i with
  | 2 => some (1024 + u)
  | 3 => some (u / 96)
  | 4 => some (256 + u)
  | 5 => some (0x9C + u)
  | 6 => some (0xA8 + if u < 1536 then u / 192 else (u - 1536) / 12)
  | 7 => some (0xA8 + u / 4)
  | 8 => some (0x80 + u / 4)
  | 9 => some (512 + u)
  | _ => none

/-- Functions that units of a slice belong to (R516): regions, quads, Bulk Store controllers, bank groups, cache dies and
the image store. -/
def busyFunc (k : Nat) : Nat :=
  if k < 256 then k else if k < 512 then 0x98 + bankDie (k - 256) else if k < 1024 then 0xB5 else (k - 1024) / 4

/-! ## Repair entries -/

/-- Seam port and direction of a border address (Table 6-9, Table 6-11). -/
def borderPort (b : Nat) : Nat × Nat :=
  let r := b / 2 ^ 21 % 128
  let side := b / 2 ^ 19 % 4
  if side % 2 = 1 then (r / 16, if side = 1 then 0 else 1) else (8 + r % 16, if side = 2 then 0 else 1)

/-- The elements that share spares with the element of an entry (Table 19-1). (DESIGN CHOICE, assumption 192) -/
def spareGroup (e : RepairEnt) : Nat :=
  match e.kind with
  | 2 => 2 * (borderPort e.unit).1 + (borderPort e.unit).2
  | 4 => chGroup e.unit
  | _ => e.unit

/-- Spares of that group. (DESIGN CHOICE, assumption 192) -/
def spareCount (e : RepairEnt) : Nat :=
  match e.kind with | 1 => groupSpares e.unit | 4 => 1 | _ => 4

/-- Two entries repair the same element. -/
def sameElement (a b : RepairEnt) : Bool := a.kind == b.kind && a.unit == b.unit && a.pos == b.pos

/-- Two entries name the same spare. -/
def sameSpare (a b : RepairEnt) : Bool := a.kind == b.kind && spareGroup a == spareGroup b && a.spare == b.spare

/-- An entry that is in use. -/
def RepairEnt.live (e : RepairEnt) : Bool := e.valid && !e.retired

/-- `FUSE_LEFT` follows the entries (Table 19-10). -/
def refreshFuses (s : State) : State :=
  let free := (List.range 285).countP fun i => at' s.test.fuse i RepairEnt.blank == RepairEnt.blank
  (s.set R.FUSE_LEFT.FREE free).set R.FUSE_LEFT.SOFT s.test.soft.length

/-- A soft entry is written; a full record takes none and sets `SOFT_FULL` (R561). -/
def addSoft (e : RepairEnt) (s : State) : Bool × State :=
  if 4096 ≤ s.test.soft.length then (false, s.set R.FUSE_LEFT.SOFT_FULL 1)
  else (true, refreshFuses (s.modTest fun t => { t with soft := t.soft ++ [e] }))

/-- A repair takes effect: a later repair of an element replaces an earlier one (R297, R563, R123). (DEDUCED, assumption
191) -/
def applyEntry (e : RepairEnt) (s : State) : State :=
  let s := s.modTest fun t => { t with applied := (t.applied.filter fun x => !sameElement x e) ++ [e] }
  match e.kind with
  | 3 =>
    let s := s.modBank' e.unit fun b => { b with spares := (b.spares.filter fun c => c != e.pos) ++ [e.pos] }
    s.set (R.BANK_STAT.SPARES e.unit) (s.bank e.unit).spares.length
  | 4 =>
    ((s.set (R.TDC_CFG.CORE_FAIL e.unit) 1).set (R.TDC_CFG.ON_SPARE e.unit) 1).setBit
      (R.BANK_CTL.SPARE_GONE (e.unit / 48)) (e.unit % 48 / 16) true
  | _ => s

/-- The entry that would repair a failure with spare `k` (Table 19-6); none for a slice without spares. (DEDUCED,
assumption 198) -/
def repairOf (f : FailEntry) (k : Nat) : Option RepairEnt :=
  match f.slice with
  | 0 => some ⟨1, f.addr, f.bit, k, true, false⟩
  | 1 => some ⟨2, f.addr, 0, k, true, false⟩
  | 4 => some ⟨3, f.addr / 16384, f.bit, k, true, false⟩
  | 5 => some ⟨5, if f.addr < 0x600000000 then 0 else 1, f.extra, k, true, false⟩
  | 6 => if f.addr < 1536 then some ⟨4, f.addr, 0, k, true, false⟩ else none
  | _ => none

/-- Fence unit of a failure (Table 19-7). -/
def failUnit (f : FailEntry) : Nat :=
  match f.slice with
  | 2 => f.addr % 128 * 4 + f.addr / 128 % 4
  | 3 => f.addr / 1024
  | 4 => f.addr / 16384
  | 5 => f.addr / 2 ^ 30
  | _ => f.addr

/-- A fence entry holds for a unit. -/
def State.isFenced (s : State) (slice unit : Nat) : Bool :=
  s.test.fenced.contains (slice, unit)
    || s.test.soft.any fun e => e.kind == 8 && e.pos == slice && e.unit == unit && e.live

/-! ## Failures -/

/-- Bytes of a failure entry (Table 19-4). -/
def failBytes (h : Nat) (f : FailEntry) : List Nat :=
  [f.slice, h] ++ leBytes 2 f.bit ++ leBytes 8 f.addr ++ [if h = 1 then f.spare.getD 255 else 255]
    ++ leBytes 3 (if f.slice = 8 then min f.extra (2 ^ 24 - 1) else 0)

/-- What firmware makes of a failure (R561): its `HANDLING` of Table 19-4, with a soft repair where a free spare covers
it. (DEDUCED, assumption 191) -/
def handleFail (f : FailEntry) (s : State) : Nat × State :=
  if s.isFenced f.slice (failUnit f) then (4, s)
  else match repairOf f (f.spare.getD 0) with
    | none => (3, s)
    | some e =>
      if s.test.applied.any (sameElement e) then (2, s)
      else if f.spare.isNone || decide (spareCount e ≤ e.spare)
          || (s.test.applied ++ s.test.soft).any (fun x => x.live && sameSpare e x) then (3, s)
      else
        let (ok, s) := addSoft e s
        if ok then (1, raise 0x0803 [(8, e.word)] (applyEntry e s)) else (3, s)

/-- Every failure of a list, in order. (DEDUCED, assumption 191) -/
def handleFails : List FailEntry → State → List (Nat × FailEntry) × State
  | [], s => ([], s)
  | f :: fs, s =>
    let (h, s) := handleFail f s
    let s := raise 0x0802 [(16, ofLeBytes (failBytes h f))] s
    let (l, s) := handleFails fs s
    ((h, f) :: l, s)

/-- Records with an unrepairable entry whose unit is not fenced (Table 19-8). -/
def State.unrepairable (s : State) (recs : List Nat) : List (Nat × Nat) :=
  (recs.flatMap fun k => match lookup s.test.recs k with
    | some r => (r.fails.filter fun e => e.1 == 3).map fun e => (e.2.slice, failUnit e.2)
    | none => []).dedup.filter fun u => !s.isFenced u.1 u.2

/-- `UNREP` and `POLICY` follow the records. -/
def refreshUnrep (s : State) : State :=
  (s.setB R.TEST_STAT.UNREP (s.unrepairable [0, 1, 2] != [])).set R.TEST_STAT.POLICY s.test.policy

/-! ## Fences -/

/-- The group at address `a` serves the region above it whatever the device's assignment: a configuration or state group
of a face-to-face interface (groups 0–14 of a cluster, Table 1-5), or any group of LL–LU, whose pillars and pass paths
lead to LU and CU (Table 18-6). (DEDUCED, assumption 148) -/
def vertOfRegion (a : Nat) : Bool :=
  (decide (2 ≤ bitsOf a 29 3) && decide (bitsOf a 6 4 < 15)) || decide (3 ≤ bitsOf a 29 3)

/-- What the vertical group at an address carries: the region on the interfaces that serve it alone; elsewhere (B–M,
M–CL, and the cache-port and pass-path group of CL–LL) what the device's assignment says (Table 1-5, Table 18-6).
(DEDUCED, assumption 148) -/
def carriesOf (a : Nat) : VertLoad :=
  if vertOfRegion a then .region (Fin.ofNat 128 (a / 2 ^ 22))
  else
    let i := Config.vertCarries a % 65536
    match Config.vertCarries a / 65536 with
    | 0 => .region (Fin.ofNat 128 i)
    | 1 => .cachePort (Fin.ofNat 128 i)
    | 2 => .bankPath (Fin.ofNat 256 i)
    | 3 => .farPath (Fin.ofNat 4 (i / 4)) (Fin.ofNat 4 i)
    | 4 => .seam (Fin.ofNat 24 i) (Config.vertBorder a)
    | 5 => .join (Fin.ofNat 128 i) (Fin.ofNat 32 (i / 128))
    | 6 => .hitStream (Fin.ofNat 32 i)
    | _ => .trigger (Fin.ofNat 96 i)

/-- A group is withdrawn by Boot or by a fence of self-test (R21, Table 19-7). -/
def fenceAddr (a : Nat) (s : State) : State :=
  if (s.vgroup a).fenced then s
  else
    let s := withdraw a (carriesOf a) (s.modVert a fun v => { v with fenced := true })
    let s := (s.inc R.VERT_STAT.FENCED).set R.VERT_LAST.ADDR a
    s.modTherm fun t => { t with fences := t.fences ++ [⟨a, elementOf (carriesOf a), s.clk.tick⟩] }

/-- The unit of a fence is withdrawn (Table 19-7). What only changes a check made elsewhere is listed in `Test.fenced`. -/
def withdrawUnit (slice unit : Nat) (s : State) : State :=
  let s := s.modTest fun t => { t with fenced := if t.fenced.contains (slice, unit) then t.fenced else t.fenced ++ [(slice, unit)] }
  match slice with
  | 0 => fenceAddr unit s
  | 1 => fenceSeam (borderPort unit).1 (Config.seamGroup unit) [unit] s
  | 4 => offlineBank unit s
  | 6 =>
    if unit < 1536 then
      dropDead unit (((s.set (R.TDC_CFG.CORE_FAIL unit) 1).set (R.TDC_CFG.ON_SPARE unit) 1).setBit
        (R.BANK_CTL.SPARE_GONE (unit / 48)) (unit % 48 / 16) true)
    else
      let k := unit - 1536
      forEach ((List.range 16).map (48 * (k / 3) + 16 * (k % 3) + ·)) dropDead
        (s.setBit (R.BANK_CTL.SPARE_GONE (k / 3)) (k % 3) true)
  | _ => s

/-- A unit is fenced with its fence entry; a slot is marked invalid instead (R567). -/
def fenceUnit (u : Nat × Nat) (s : State) : State :=
  if u.1 = 9 then s.setSlot u.2 { s.slot u.2 with valid := false }
  else withdrawUnit u.1 u.2 (addSoft ⟨8, u.2, u.1, 0, true, false⟩ s).2

/-- Every unrepairable unit of the last Test and of the quick check is fenced (R566); answers their number. -/
def fenceAll (s : State) : Nat × State :=
  let l := s.unrepairable [0, 1]
  let s := forEach l fenceUnit s
  let s := s.modTest fun t => { t with recs := t.recs.map fun (e : Nat × TestRec) => (e.1, { e.2 with
    fails := e.2.fails.map fun (x : Nat × FailEntry) =>
      if e.1 < 2 ∧ x.1 = 3 ∧ (x.2.slice, failUnit x.2) ∈ l then (4, x.2) else x }) }
  (l.length, refreshUnrep s)

/-! ## Running slices -/

/-- Bytes of a slice summary (Table 19-3). (DEDUCED, assumption 190) -/
def SliceSum.bytes (x : SliceSum) : List Nat :=
  [x.result, if x.late then 1 else 0] ++ leBytes 2 (min x.fails 65535) ++ leBytes 8 x.prog ++ leBytes 8 x.exec
    ++ leBytes 4 x.sig ++ leBytes 4 x.elapsed ++ leBytes 2 x.first ++ [0, 0]

/-- A record with no slice written. -/
def emptyRec (tick budget mask policy : Nat) : TestRec := ⟨tick, budget, mask, policy, [], []⟩

/-- A slice starts: its units are isolated (R556). -/
def startSlice (x : TestRun) (s : State) : State :=
  let s := s.modTest fun t => { t with run := some x, busy := (x.units.filterMap (busyKey x.slice)).dedup }
  ((s.set R.TEST_STAT.SLICE x.slice).set R.TEST_STAT.RUNNING 1).set R.TEST_STAT.REMAIN_MS (min x.budget 65535)

/-- No slice runs. -/
def stopSlices (s : State) : State :=
  let s := s.modTest fun t => { t with run := none, queue := [], busy := [] }
  ((s.clear R.TEST_STAT.SLICE).set R.TEST_STAT.RUNNING 0).set R.TEST_STAT.REMAIN_MS 0

/-- The next slice of Test starts; after the last one the device commits Standby with `STAT_TESTDONE` high (R59, R553). -/
def nextSlice (s : State) : State :=
  match s.test.queue with
  | [] => (enterStandby (stopSlices s)).modAon fun a => { a with testDone := true }
  | i :: q =>
    let units := s.testUnits i
    startSlice ⟨i, 0, units, s.progCount i units, sliceBudget s.test.total i, s.clk.tick, 0⟩
      (s.modTest fun t => { t with queue := q })

/-- A unit is re-initialised after an in-service slice (Table 19-2). A core that passed takes the table of its test, whose
values the row does not report. -/
def reinitUnit (slice : Nat) (failed : List Nat) (u : Nat) (s : State) : State :=
  match slice with
  | 2 => refreshClaimed (u / 4) (s.modCtx (u / 4) fun c => { c with claim := none })
  | 3 => startBmClear u s
  | 4 => startBankClear u s
  | 5 => forEach ((List.range 24).map (24 * u + ·)) startSegClear s
  | 6 =>
    if failed.contains u then s
    else
      let t := (List.range 256).map fun i => Config.freeValue (s.free + i) % 4096
      { s with free := s.free + 256 }.modIo fun i => { i with tables := put i.tables u t }
  | 8 => applyIf (s.flag (R.LANE_CFG.EN u)) (bringUp u) (setLane u lsOff s)
  | _ => s

/-- The result of a slice by its counts (R554). -/
def sliceResult (prog : Nat) (o : SliceOutcome) (l : List (Nat × FailEntry)) (cut : Bool) : Nat :=
  if cut || o.exec != prog then 4
  else if l = [] then (if o.sigOk then 1 else 3)
  else if l.all fun e => e.1 == 1 || e.1 == 2 then 2 else 3

/-- The slice `x` ends with an outcome and writes its results (R554, R559); `cut` = it was ended before its patterns were
complete. Answers its summary and the units that failed. -/
def closeSlice (x : TestRun) (o : SliceOutcome) (late cut : Bool) (s : State) : SliceSum × List Nat × State :=
  let (l, s) := handleFails o.fails s
  let prog := if x.slice = 0 then o.prog else x.prog
  let res := sliceResult prog o l cut
  let r := at' s.test.recs x.kind (emptyRec x.start x.budget (2 ^ x.slice) s.test.policy)
  let sum : SliceSum := ⟨res, late, o.fails.length, prog, o.exec, o.sig, o.elapsedUs, r.fails.length⟩
  let r := { r with sums := put r.sums x.slice sum, fails := (r.fails ++ l).take 4096 }
  let failed := l.map fun e => failUnit e.2
  let pass := decide (x.kind = 0) && decide (res ≠ 4)
  let s := s.modTest fun t => { t with
    recs := put t.recs x.kind r
    soft := if pass then t.soft.filter fun e => !(e.kind == 8 && e.pos == x.slice && !failed.contains e.unit) else t.soft
    run := none
    busy := [] }
  let k := x.slice
  let s := (((s.set (R.SLICE_RES.RESULT k) res).setB (R.SLICE_RES.LATE k) late).setB (R.SLICE_RES.IN_SERVICE k)
    (x.kind == 2)).set (R.SLICE_RES.FAILS k) (min o.fails.length 0x7FF)
  let s := (s.set (R.SLICE_RES.ELAPSED_MS k) (min (o.elapsedUs / 1000) 65535)).set R.TEST_STAT.SLICE_DONE 1
  (sum, failed, refreshFuses (refreshUnrep (raise 0x0801 [(1, k), (1, res)] s)))

/-- The running slice ends with an outcome, and what follows it does (R553, R557, R558). -/
def endSlice (o : SliceOutcome) (late cut : Bool) (s : State) : State :=
  match s.test.run with
  | none => s
  | some x =>
    let (sum, failed, s) := closeSlice x o late cut s
    if x.kind = 0 then nextSlice s
    else
      let s := forEach x.units (reinitUnit x.slice failed) (stopSlices s)
      finishCmd x.serial stOk sum.bytes late s

/-- Outcome of a slice that was ended early: its executed count, signature and time are not given, but the count falls
short (R554). (DESIGN CHOICE, assumption 193) -/
def cutOutcome (x : TestRun) (s : State) : SliceOutcome × State :=
  let v := Config.freeValue s.free % (max x.prog 1)
  (⟨v, v + 1, false, Config.freeValue (s.free + 1) % 2 ^ 32, [], Config.freeValue (s.free + 2) % 2 ^ 32, false⟩,
    { s with free := s.free + 3 })

/-- A slice ended by a reset reports `INCOMPLETE` (R516). (DESIGN CHOICE, assumption 193) -/
def cutSlice (s : State) : State :=
  match s.test.run with
  | none => s
  | some x =>
    let (o, s) := cutOutcome x s
    endSlice o false true s

/-- A thermal trip ends Test: the running slice and every later one report `INCOMPLETE` (R51, R555). (DESIGN CHOICE,
assumption 193) -/
def cutTest (s : State) : State :=
  match s.test.run with
  | none => s
  | some x =>
    let (o, s) := cutOutcome x s
    let s := (closeSlice x o false true s).2.2
    let s := forEach s.test.queue (fun i s =>
      let units := s.testUnits i
      let y : TestRun := ⟨i, 0, units, s.progCount i units, sliceBudget s.test.total i, s.clk.tick, 0⟩
      (closeSlice y ⟨0, 1, false, 0, [], 0, false⟩ false true s).2.2) s
    stopSlices s

/-- SLICE_END: the patterns of the running slice are complete (R554). -/
def execSliceEnd (o : SliceOutcome) (s : State) : Out := .next (endSlice o false false s)

/-- SLICE_BUDGET_EXPIRY: the slice's budget expires; a last pattern that completes at that edge counts (R554). -/
def execSliceBudgetExpiry (o : SliceOutcome) (s : State) : Out := .next (endSlice o o.lastAtEdge false s)

end Sys2Proof.Machine
end

