-- ==== Sys2Proof/Machine/MbOps.lean ====
section
/-! DEFINITION. Frames of the mailboxes: posting, completion frames, messages on the management channel and the NoC, and
what a Milliner reset does to them ("Milliner, Mailboxes and the Fast Control Bus"). -/

namespace Sys2Proof.Machine

/-! ## Messages -/

/-- Bytes in blocks of up to six, each as bits [63:8] of a `MGMT` block: start, end, count and bytes. -/
def mgmtBlocks : Nat → Bool → List Nat → List (List Nat)
  | 0, _, _ => []
  | n + 1, start, l =>
    let last := decide (l.length ≤ 6)
    let b := l.take 6
    let blk := ((if start then 1 else 0) + (if last then 2 else 0) + 4 * b.length) :: b
    if last then [blk] else blk :: mgmtBlocks n false (l.drop 6)

/-- A management frame with its CRC-16 (R395). (DEDUCED, assumption 163) -/
def mgmtFrame (box : Nat) (traffic : List Nat) : List Nat :=
  let b := [box, traffic.length] ++ traffic
  b ++ leBytes 2 (crc16 b)

/-- A `MSG` packet to a device and endpoint (R410, R417). -/
def msgPkt (dev ep off : Nat) (data : List Nat) : Pkt :=
  { typ := 5, vc := 3, cls := 7, len := data.length, dhops := 0, status := 0, seq := 0, reqSeq := 0, tick := 0,
    srcDev := 0, srcEp := 0, dev := dev, ep := ep, off := off, unwr := false, late := false, hold := false,
    errinfo := 0, data := data, route := 0, age := 0 }

/-- Firmware sends one message on its path (R504). (DESIGN CHOICE, assumption 164) -/
def sendOut (o : OutMsg) (s : State) : State :=
  if o.path = 2 then
    let f := s.bundleOf o.a
    s.modBdl f fun b => { b with mgmt := b.mgmt ++ mgmtBlocks 50 true (mgmtFrame o.box (o.kind :: o.bytes)) }
  else niInject 0xA0 (msgPkt o.a o.b (o.box + if o.kind = 3 then 16 else 0) o.bytes) s

/-- Every message that waits is sent. (DESIGN CHOICE, assumption 164) -/
def flushSent (s : State) : State :=
  let l := s.mgt.sent
  forEach l sendOut (s.modMgt fun g => { g with sent := [] })

/-- The path of a mailbox still runs (R510): its management channel, or the Hatband. -/
def State.pathRuns (s : State) (path lane : Nat) : Bool :=
  if path = 2 then s.flag (R.LINK_STAT.LINK_UP (s.bundleOf lane)) && s.flag (R.LINK_CFG.MGMT_EN (s.bundleOf lane))
  else at' s.noc.rst 4 0 == 0

/-! ## Frames -/

/-- Header fields of a command frame (Table 17-12). -/
def frCmd (f : List Nat) : Nat := numAt f 0 2
def frTag (f : List Nat) : Nat := f.getD 2 0
def frMore (f : List Nat) : Bool := (f.getD 3 0).testBit 0
def frCont (f : List Nat) : Bool := (f.getD 3 0).testBit 1
def frAlen (f : List Nat) : Nat := numAt f 4 2
def frAtotal (f : List Nat) : Nat := numAt f 6 2

/-- A completion frame (Table 17-13). -/
def compBytes (status tag : Nat) (more part late mbto : Bool) (total tick : Nat) (result : List Nat) : List Nat :=
  leBytes 2 status ++ [tag, (if more then 1 else 0) + (if part then 2 else 0) + (if late then 4 else 0)
    + (if mbto then 8 else 0)] ++ leBytes 2 result.length ++ leBytes 2 total ++ leBytes 6 tick ++ [0, 0] ++ result

/-- `MB_CTL.STATE` of mailbox `m`. -/
def State.mbState (s : State) (m : Nat) : Nat := s.get (R.MB_CTL.STATE m)

/-- The frame posted in mailbox `m` gets its completion frame (R503, R504): Done, or sent and Idle. -/
def writeComp (m : Nat) (c : List Nat) (s : State) : State :=
  let b := s.mbox m
  let s := s.set (R.MB_CTL.ABORT m) 0
  if 2 ≤ b.path then
    applyIf (s.pathRuns b.path b.srcA) (fun s => s.send ⟨b.path, b.srcA, b.srcB, m, 2, c⟩) (s.set (R.MB_CTL.STATE m) 0)
  else
    ((s.setMbox m { b with comp := bytesAt c 0 128 }).set (R.MB_CTL.STATE m) 3).set (R.MB_CTL.DONE m) 1

/-- A command ends: its mailbox is free for the next one once its completion has gone. -/
def freeMbox (m : Nat) (s : State) : State :=
  s.modMbox m fun b => { b with held := false, serial := 0, args := [], stage := 0, started := false, committed := false,
                                abortReq := false, outcome := none, rest := [], restTotal := 0 }

/-- A frame is posted in an Idle mailbox (R501, R504, R505). (DESIGN CHOICE, assumption 12; DEDUCED, assumption 159) -/
def postFrame (m path a b : Nat) (frame : List Nat) (s : State) : State :=
  let n := s.mgt.nextPost
  let s := s.modMgt fun g => { g with nextPost := n + 1 }
  (s.modMbox m fun x => { x with frame := bytesAt frame 0 128, path := path, srcA := a, srcB := b, held := true, postSeq := n }).set
    (R.MB_CTL.STATE m) 1

/-- Mailbox `m` takes a frame from a path: Idle, and held by no other path (R504). (DEDUCED, assumption 161) -/
def State.mbFree (s : State) (m path a b : Nat) : Bool :=
  let x := s.mbox m
  s.mbState m == 0 && (!x.held || (x.path == path && (decide (path < 2) || (x.srcA == a && x.srcB == b))))

/-- A message frame is refused with `BUSY` and its tag; the mailbox is unchanged (R504). -/
def refuseFrame (m path a b tag : Nat) (s : State) : State :=
  s.send ⟨path, a, b, m, 2, compBytes stBusy tag false false false false 0 s.clk.tick []⟩

/-! ## Reset of Milliner -/

/-- Event masks and paths as a Milliner start leaves them (R509). (DEDUCED, assumptions 29, 167) -/
def startEvents (m : Nat) (s : State) : State :=
  (s.modMbox m fun b => { b with mask := if m = 0 then 65535 else 0, evtPath := 0, evtA := 0, evtB := 0,
                                 lostNext := false }).setQueue m []

/-- A Milliner reset (R510): every posted or busy mailbox gets `MGT_RESET`, queues and masks return to their start
state, and the expert unlocks clear. `due` = the start that follows, if any. (DEDUCED, assumption 167) -/
def millinerReset (due : Option Nat) (s : State) : State :=
  let s := forEach (List.range 16) (fun m s =>
    let s := if s.mbState m = 1 ∨ s.mbState m = 2 then
        writeComp m (compBytes stMgtReset (frTag (s.mbox m).frame) false false false false 0 s.clk.tick []) s
      else s
    startEvents m (freeMbox m s)) s
  let s := forEach (List.range 8) (fun i s => s.set (R.EXP_UNLK.UNLK i) 0) s
  let s := { s with aon := { s.aon with exitDue := none } }
  flushSent (s.modMgt fun g => { g with running := false, recovery := false, startDue := due, orphans := [] })

end Sys2Proof.Machine
end

