-- ==== Sys2Proof/Machine/FuncReset.lean ====
section
/-! DEFINITION. Per-function resets: what a hold and a release do to each block ("Milliner, Mailboxes and the Fast Control
Bus", Table 17-19). -/

namespace Sys2Proof.Machine

/-- The assigned functions (Table 17-19). -/
def funcAssigned (f : Nat) : Bool :=
  decide (f < 0x9E) || (decide (0xA0 ≤ f) && decide (f ≤ 0xA4)) || (decide (0xA8 ≤ f) && decide (f ≤ 0xB3))
    || f == 0xB5 || f == 0xC0

/-- Functions that are held at once: bank groups, housekeeping, analogue, pounce and Milliner (Table 17-19). -/
def funcImmediate (f : Nat) : Bool := (decide (0xA8 ≤ f) && decide (f ≤ 0xB2)) || f == 0xC0

/-- The function's actual state is `b`. -/
def setAct (f : Nat) (b : Bool) (s : State) : State := s.setBit (R.RST_ACT.ACT (f / 32)) (f % 32) b

/-- Region `r` enters reset: set/reset applied, its FIFOs resynchronised, border cause 011b at the next context-clock edge,
or at once while that clock does not run (R87, R143, R179, R264, R424). -/
def holdRegion (r : Nat) (s : State) : State :=
  let s := resetPort r (initRegion r s)
  let s := startResync (512 + r) (s.modNoc fun n => { n with rx := listAt n.rx r [], rxFlit := del n.rxFlit r })
  let s := forEach ((List.range 32).filter fun b => bankRegion b == r) resyncPort s
  let c := if (s.ctxR r).rstCause = 2 ∨ !s.ctxRuns r then 2 else 1
  refreshBorder r (s.modCtx r fun x => { x with rstCause := c })

/-- Region `r` leaves reset: the release reaches each net (R144), where the border cause ends. -/
def releaseRegion (r : Nat) (s : State) : State :=
  let s := s.modCtx r fun c => { c with rstCause := if c.rstCause = 1 then 0 else c.rstCause }
  releaseNets r s

/-- The configuration controller enters reset: a load or repair that has not passed its commit ends early, and a first
Load restarts when the reset ends (R449). (DEDUCED, assumption 144) -/
def holdCfg (s : State) : State :=
  let s := match s.integ.repair with
    | some x => failRepair x stShort psEmpty s
    | none => s
  let s := s.modCfg fun c => { c with input := [], fwdLeft := 0, skipLeft := 0, discard := false }
  match s.cfg.load with
  | none => s
  | some l =>
    if s.loadCommitted then s
    else
      let s := endLoadWith stShort false false s
      if l.kind < 2 ∧ s.mode = mLoad then
        let b := s.get R.STRAP_LATCH.BOOT
        if b = 3 ∨ (b = 0 ∧ l.kind ≠ 0) then cfgFailed s else s.modCfg fun c => { c with restart := true }
      else s

/-- The configuration controller leaves reset. (DEDUCED, assumption 144) -/
def releaseCfg (s : State) : State :=
  if s.cfg.restart then
    let s := s.modCfg fun c => { c with restart := false }
    if s.get R.STRAP_LATCH.BOOT = 0 then bootLoad s else waitPort s
  else s

/-- The image store interface enters reset: a load or repair that reads a slot ends early (R445). (DEDUCED, assumption
145) -/
def holdStore (s : State) : State :=
  let s := match s.integ.repair with
    | some x => failRepair x stShort psEmpty s
    | none => s
  match s.cfg.load with
  | some l => if l.source = 0 ∧ !s.loadCommitted then failLoad stShort s else s
  | none => s

/-- Results of housekeeping channels read `VALID` = 0 (R128). -/
def hkpInvalid (l : List Nat) (s : State) : State := forEach l (fun c s => s.set (R.HKP_RES.VALID c) 0) s

/-- Function `f` enters reset (Table 17-19). A slice on it ends with `INCOMPLETE` (R516). Its crossings' sticky flags clear
with its status register. (DEDUCED, assumption 178; DESIGN CHOICE, assumption 211) -/
def holdFunc (f : Nat) (s : State) : State :=
  let s := s.modXing f fun x => { x with overrun := false, late := false, timedOut := false }
  let s := applyIf (s.test.busy.any fun k => busyFunc k == f) cutSlice s
  let s := if funcImmediate f then setAct f true s
    else s.modMgt fun g => { g with draining := if g.draining.contains f then g.draining else f :: g.draining }
  if f < 0x80 then holdRegion f s
  else if f < 0x98 then quadReset (f - 0x80) s
  else if f < 0x9C then resetCacheDie (f - 0x98) s
  else if f < 0x9E then hkpInvalid [120 + (f - 0x9C)] (resetBulk (f - 0x9C) s)
  else if f < 0xA8 then startMeshReset (f - 0xA0) s
  else if f < 0xB0 then
    forEach ((List.range 4).map (4 * (f - 0xA8) + ·)) resyncPort (resetBanks (f - 0xA8) s)
  else match f with
    | 0xB0 => hkpInvalid ((List.range 96).map (96 + ·)) s
    | 0xB3 => holdCfg s
    | 0xB5 => holdStore s
    | 0xC0 => millinerReset none s
    | _ => s

/-- Function `f` leaves reset (R516). (DEDUCED, assumption 178) -/
def releaseFunc (f : Nat) (s : State) : State :=
  let s := setAct f false (s.modMgt fun g => { g with draining := g.draining.filter fun k => k != f })
  if f < 0x80 then releaseRegion f s
  else if f < 0x98 then quadRelease (f - 0x80) s
  else if f < 0x9C then s
  else if f < 0x9E then s.setB (R.BULK_STAT.SELFREF (f - 0x9C)) (decide (s.mode = mQuiescent))
  else if f < 0xA8 then endMeshReset (f - 0xA0) s
  else match f with
    | 0xB1 => driveDacs s
    | 0xB2 => { s with integ := { s.integ with pos := [], slot := [] } }
    | 0xB3 => releaseCfg s
    | 0xC0 => if s.mgt.lockstop then s else s.modMgt fun g => { g with startDue := some 1 }
    | _ => s

/-- Bit of function `f` in `RST_FUNC` takes `b`, with what follows from a change (R515). -/
def setFunc (f : Nat) (b : Bool) (s : State) : State :=
  if s.held f = b ∨ !funcAssigned f then s
  else
    let s := s.setBit (R.RST_FUNC.HOLD (f / 32)) (f % 32) b
    if b then holdFunc f s else releaseFunc f s

/-- A reset pulse of 1 µs: the hold has its full effect before the release (R513). (DEDUCED, assumption 178) -/
def pulseFunc (f : Nat) (s : State) : State :=
  let s := setFunc f true s
  let s := if f < 0x80 then refreshBorder f (s.modCtx f fun c => { c with rstCause := 2 })
    else if 0xA0 ≤ f ∧ f < 0xA5 then cutMesh (f - 0xA0) s
    else s
  setFunc f false s

/-- RST_FUNC_WRITE: a write of `RST_FUNC[i]` (R515). -/
def writeRst (i val : Nat) (s : State) : State :=
  forEach (List.range 32) (fun j => setFunc (32 * i + j) (val.testBit j)) s

/-- RST_FUNC_WRITE. -/
def execRstFuncWrite (i : Fin 8) (val : BitVec 32) (s : State) : Out :=
  if s.fcbOn then .next (writeRst i val.toNat s) else .next s

/-- The drain of function `f` is complete: its border cause has begun, its routers are in reset, or nothing is left. -/
def State.drained (s : State) (f : Nat) : Bool :=
  if f < 0x80 then (s.ctxR f).rstCause == 2
  else if 0xA0 ≤ f ∧ f < 0xA5 then at' s.noc.rst (f - 0xA0) 0 == 3
  else true

/-- FUNC_RESET_DRAIN_DONE: the function is actually held (R515). -/
def execFuncResetDrainDone (f : Fin 256) (s : State) : Out :=
  if s.mgt.draining.contains f.val && s.held f && s.drained f then
    .next (setAct f true (s.modMgt fun g => { g with draining := g.draining.filter fun k => k != f.val }))
  else .next s

end Sys2Proof.Machine
end

