-- ==== Sys2Proof/Machine/Integ.lean ====
section
/-! DEFINITION. Pounce, repair by frame reload, read-back, the essential-error log and the plume pins ("Configuration
Integrity and Observation"). -/

namespace Sys2Proof.Machine

/-- Change the integrity state. -/
def State.modInteg (s : State) (f : Integ → Integ) : State := { s with integ := f s.integ }

/-! ## The check of a frame -/

/-- Outcome of a frame check: words corrected, words uncorrectable, data bits corrected, stored bits left in error. -/
structure FrameChk where
  cor : List Nat
  unc : List Nat
  bits : List Nat
  left : List Nat
deriving DecidableEq, Repr

/-- Word `w` of a frame is decoded (R475): one error is corrected, two are found, and three or more are either found or
taken for a single error at some bit of the word. (DESIGN CHOICE, assumptions 61, 158) -/
def checkWord (bad : List Nat) (a : FrameChk × State) (w : Nat) : FrameChk × State :=
  let e := bad.filter fun i => i % 8 == w
  let x := a.1
  let s := a.2
  match e with
  | [] => a
  | [i] => ({ x with cor := x.cor ++ [w], bits := if i < 4096 then x.bits ++ [i] else x.bits }, s)
  | [_, _] => ({ x with unc := x.unc ++ [w], left := x.left ++ e }, s)
  | _ =>
    if s.freeBit then ({ x with unc := x.unc ++ [w], left := x.left ++ e }, s.useFree)
    else
      let s := s.useFree
      let i := 8 * s.freeBelow 523 + w
      let left := if e.contains i then e.filter fun k => k != i else e ++ [i]
      ({ x with cor := x.cor ++ [w], bits := if i < 4096 then x.bits ++ [i] else x.bits, left := x.left ++ left },
        s.useFree)

/-- Frame `f` of plane `p` of region `r` is read and decoded. (DEDUCED, assumption 149) -/
def readFrame (r p f : Nat) (s : State) : FrameChk × State :=
  let bad := at' (s.plane r p).bad f []
  (List.range 8).foldl (checkWord bad) (⟨[], [], [], []⟩, s)

/-- `ADDR` of a log entry about a frame (Table 16-2). -/
def frameAddr (r p f : Nat) : Nat := r + 128 * p + 512 * f

/-- `FLAGS` [1:0] of a log entry about plane `p` of region `r`. -/
def State.planeFlags (s : State) (r p : Nat) : Nat :=
  (if s.planeState r p = psActive then 1 else 0) + if s.protPlane r p then 2 else 0

/-- A frame is queued for repair already, or its repair has failed (R482). (DEDUCED, assumption 150) -/
def State.repairKnown (s : State) (k f : Nat) : Bool :=
  s.integ.queue.contains (k, f) || (s.plane (k / 4) (k % 4)).noRetry.contains f
    || (match s.integ.repair with | some x => x.key == k && x.frames.contains f | none => false)
    || s.integ.asks.any fun e => e.2.1 == k && e.2.2.2.contains f

/-- A frame with an uncorrectable word is queued for repair; whether a repair of it is to come (R478, R482). (DEDUCED,
assumption 150) -/
def queueRepair (k f : Nat) (s : State) : Bool × State :=
  let failed := (s.plane (k / 4) (k % 4)).noRetry.contains f
  (!failed, if s.repairKnown k f then s else s.modInteg fun i => { i with queue := i.queue ++ [(k, f)] })

/-- `UNC_ACT` = 01b puts region `r` into reset until the repair ends (R480). (DEDUCED, assumption 150) -/
def uncAct (r : Nat) (s : State) : State :=
  if s.held r then s else setFunc r true (s.modInteg fun i => { i with uncHeld := r :: i.uncHeld })

/-- A check of frame `f` of plane `p` of region `r`: correction, class and action of Table 16-1 (R478–R480). (DEDUCED,
assumption 149) -/
def checkFrame (r p f : Nat) (s : State) : FrameChk × State :=
  let (c, s) := readFrame r p f s
  let s := s.modPlane r p fun x => { x with bad := putD x.bad f [] c.left }
  let pl := s.plane r p
  let fl := s.planeFlags r p
  let a := frameAddr r p f
  let mapFail := pl.mapBad.contains f
  let map := if mapFail then 2 ^ 64 - 1 else at' pl.essmap f 0
  let s := applyIf mapFail (logEss 8 fl a 0xFFFF 0 0) s
  if c.unc ≠ [] then
    let s := s.inc (R.POUNCE_CNT.UNC_CNT r)
    let (comes, s) := queueRepair (4 * r + p) f s
    if map = 0 then (c, s)
    else
      let act := s.planeState r p == psActive && comes && decide (s.get R.POUNCE_CTL.UNC_ACT = 1)
      let s := logEss 2 (fl + if act then 8 else 0) a 0xFFFF (maskOf c.unc) 0 s
      (c, applyIf act (uncAct r) (raise 0x0A02 [(1, r), (1, p), (2, f)] s))
  else if c.cor = [] then (c, s)
  else
    match c.bits.filter fun j => map.testBit (j / 64) with
    | [] => (c, s.inc (R.POUNCE_CNT.BEN_CNT r))
    | _ =>
      let s := s.inc (R.POUNCE_CNT.ESS_CNT r)
      let first := c.bits.foldl min 4095
      (c, raise 0x0A01 [(1, r), (1, p), (2, f)] (logEss 1 fl a first (maskOf c.cor) 0 s))

/-! ## The pounce engines -/

/-- Pounce runs (R477). -/
def State.pounceRuns (s : State) : Bool :=
  s.flag R.POUNCE_CTL.EN && !s.held 0xB2 && (s.runClass || decide (s.mode = mSafe))

/-- `POUNCE_STAT.STATE` (Table 16-6). -/
def State.pounceState (s : State) : Nat :=
  if s.pounceRuns then if s.mode = mLimit then 3 else 1
  else if s.flag R.POUNCE_CTL.EN && !s.held 0xB2 && decide (s.mode = mQuiescent) then 2 else 0

/-- `POUNCE_STAT.REPQ`: repairs queued, by frame. -/
def State.repairsQueued (s : State) : Nat :=
  min 15 (s.integ.queue.length + (s.integ.asks.map fun e => e.2.2.2.length).sum)

/-- Plane that pass `n` of region `r` covers (R476). -/
def State.passPlane (s : State) (r n : Nat) : Nat :=
  let a := s.activePlane r
  if n = 0 ∨ s.get R.POUNCE_CTL.MODE = 1 then a else ((List.range 4).filter fun p => p != a).getD (n - 1) 0

/-- Pounce skips plane `p` of region `r` (R477). (DEDUCED, assumption 152) -/
def State.pounceSkips (s : State) (r p : Nat) : Bool :=
  s.planeState r p == psEmpty || s.planeState r p == psLoading || s.flag (R.BORDER_STAT.FENCED r)
    || (s.planeState r p == psActive && (s.ctxR r).ow != 0)

/-- Upsets change stored bits of a frame: a number below 4,184 flips that stored bit, 4,184 spoils the map word's
parity. (DEDUCED, assumption 149) -/
def upsetFrame (r p f : Nat) (ups : List Nat) (s : State) : State :=
  s.modPlane r p fun x =>
    let bad := (ups.filter fun i => decide (i < 4184)).foldl
      (fun l i => if l.contains i then l.filter fun k => k != i else l ++ [i]) (at' x.bad f [])
    { x with
      bad := putD x.bad f [] bad
      mapBad := if ups.contains 4184 ∧ !x.mapBad.contains f then f :: x.mapBad else x.mapBad }

/-- Signals of the frame path that disagree now and disagreed at the last check of the frame have failed (R547).
(DEDUCED, assumption 152) -/
def checkPaths (r f : Nat) (paths : List (VertGroup × Nat)) (s : State) : State :=
  let k := 1372 * r + f
  let was := at' s.integ.pathBad k []
  let now := (paths.map fun e => (e.1.addr, e.2)).dedup
  let s := s.modInteg fun i => { i with pathBad := putD i.pathBad k [] now }
  forEach (paths.filter fun e => was.contains (e.1.addr, e.2)) (fun e s =>
    let v := s.vgroup e.1.addr
    if v.fenced || (v.remapped.any fun x => x.1 == e.2) || at' v.bad e.2 0 == 3 then s else failSignal e.1 e.2 s) s

/-- The engine of region `r` moves to its next frame; `PASS` and `ROUNDS` show region 0. (DEDUCED, assumption 151) -/
def stepPounce (r : Nat) (s : State) : State :=
  let n := (at' s.integ.pos r 0 + 1) % 5488
  let s := s.modInteg fun i => { i with pos := putD i.pos r 0 n }
  if r = 0 then applyIf (n == 0) (fun s => s.incWrap R.POUNCE_STAT.ROUNDS) (s.set R.POUNCE_STAT.PASS (n / 1372)) else s

/-- In Limit, an engine uses P of every 16 frame slots (R477). (DEDUCED, assumption 151) -/
def limitSlot (r : Nat) (s : State) : Bool × State :=
  if s.mode ≠ mLimit then (true, s)
  else
    let c := at' s.integ.slot r 0
    let p := s.get R.THERM_STAT.P
    (decide (c * p / 16 < (c + 1) * p / 16), s.modInteg fun i => { i with slot := putD i.slot r 0 ((c + 1) % 16) })

/-- A read-back of frames of region `r` has its pounce slots (R485). (DEDUCED, assumption 151) -/
def State.slotTaken (s : State) (r : Nat) : Bool :=
  match s.integ.rdbk with | some x => x.kind == 1 && x.region == r | none => false

/-- POUNCE_FRAME_SLOT: the engine of region `r` checks its next frame. (DEDUCED, assumption 152) -/
def execPounceFrameSlot (r : Fin 128) (upsets : List Nat) (paths : List (VertGroup × Nat)) (s : State) : Out :=
  if !s.pounceRuns || !s.clocked 9 || s.slotTaken r then .next s
  else
    let (use, s) := limitSlot r s
    if !use then .next s
    else
      let n := at' s.integ.pos r 0
      let p := s.passPlane r (n / 1372)
      if s.pounceSkips r p then .next (stepPounce r s)
      else
        let s := (checkFrame r p (n % 1372) (upsetFrame r p (n % 1372) upsets s)).2
        let s := applyIf (s.planeState r p == psActive) (checkPaths r (n % 1372) paths) s
        .next (stepPounce r s)

/-! ## Repair by frame reload -/

/-- The repair that comes next: of a command, or of the first queued plane, at most 64 frames (R481). -/
def nextRepair (s : State) : Option (Repair × State) :=
  match s.integ.asks with
  | e :: l =>
    let x : Repair := ⟨e.2.1, e.2.2.2.take 64, e.1, e.2.2.1, false⟩
    let rest := e.2.2.2.drop 64
    some (x, s.modInteg fun i => { i with asks := if rest = [] then l else (e.1, e.2.1, e.2.2.1, rest) :: l })
  | [] => match s.integ.queue with
    | [] => none
    | (k, _) :: _ =>
      let fs := ((s.integ.queue.filter fun e => e.1 == k).map fun e => e.2).take 64
      some (⟨k, fs, 0, 0, false⟩, s.modInteg fun i => { i with queue := i.queue.filter fun e => !(e.1 == k && fs.contains e.2) })

/-- A repair ends without success: what is left of its command ends with it. -/
def dropRepair (x : Repair) (st ps : Nat) (s : State) : State :=
  let s := s.modInteg fun i => { i with asks := if x.serial = 0 then i.asks else i.asks.filter fun e => e.1 != x.serial }
  failRepair x st ps s

/-- The segment header that the source record of a plane names. -/
def State.sourceHeader (s : State) (pl : Plane) : Option (Nat × Nat × List Nat) :=
  match pl.source with
  | none => none
  | some (k, off) =>
    let x := s.slot k
    let h := (List.range 6).map fun i => slotWord x (off + 8 * i)
    if !x.valid || bitsOf (h.getD 2 0) 0 32 != pl.imageId then none else some (k, off, h)

/-- REPAIR_LOAD_START: steps 1 and 2 of R481. (DEDUCED, assumption 153) -/
def execRepairLoadStart (s : State) : Out :=
  if !s.cfgRuns || !s.mgt.running || s.held 0xB5 || s.cfg.load.isSome || s.integ.repair.isSome
      || !(s.runClass || decide (s.mode = mSafe)) then .next s
  else match nextRepair s with
    | none => .next s
    | some (x, s) =>
      let r := x.key / 4
      let p := x.key % 4
      let s := s.modInteg fun i => { i with repair := some x }
      if (s.sourceHeader (s.plane r p)).isNone then .next (dropRepair x stDenied psHood s)
      else if s.planeState r p = psActive then .next s
      else .next (askClaim r p s)

/-- The records of a segment, parsed for the frames of a repair (R481); the load stops as R434 gives. (DEDUCED,
assumption 153) -/
def repairParse : Nat → State → Load → Load
  | 0, _, l => l
  | n + 1, s, l =>
    if l.length ≤ l.parsed then { l with stopped := true }
    else
      let h := s.plainWord l l.parsed
      if h % 256 = 255 then { l with ended := true, parsed := l.parsed + 1 }
      else match s.bodyWords l h with
        | none => { l with stopped := true }
        | some k =>
          if l.length < l.parsed + 1 + k then { l with stopped := true }
          else
            let x := (List.range (1 + k)).map fun i => s.plainWord l (l.parsed + i)
            repairParse n s { l with
              parsed := l.parsed + 1 + k
              staged := (recordPlanes x).foldl (fun m q => put m q (recordInto x (q / 4) (at' m q Plane.empty))) l.staged }

/-- The segment of a repair, streamed and checked (step 3 of R481): the parsed load, or the failing check of Table 15-2
(0 for a check outside it) and its status. (DEDUCED, assumption 153) -/
def State.repairSegment (s : State) (k off : Nat) (h : List Nat) : Except (Nat × Nat) Load :=
  let x := s.slot k
  let l := { newLoad 3 0 k 0 (off + 48) 0 0 with hdr := h, segPos := off }
  if !magicOk (h.getD 0 0) || headerBad h then .error (0, stForeign)
  else match s.secCheck l with
    | some e => .error e
    | none =>
      let n := l.length + trailerWords l.signed
      if x.length < off + 48 + 8 * n then .error (0, stShort)
      else
        let w := (List.range n).map fun i => slotWord x (off + 48 + 8 * i)
        let l := { l with body := w.take l.length }
        let tag := (w.drop l.length).take 2 |>.flatMap (leBytes 8)
        let ct := l.body.flatMap (leBytes 8)
        let sig := (w.drop (l.length + 2)).flatMap (leBytes 8)
        let key := at' s.sec.pubKeys (bitsOf l.keysel 2 1) 0
        if gcmTag (s.segKey l) l.iv l.aad ct ≠ tag then .error (8, stAuthFail)
        else if l.signed && !ecdsaOk (key % 2 ^ 384) (key / 2 ^ 384) (numAt sig 0 48) (numAt sig 48 48)
            (sha384 (l.aad ++ ct ++ tag)) then .error (9, stAuthFail)
        else
          let l := repairParse (l.length + 1) s l
          if !l.ended then .error (0, stDenied) else if l.parsed < l.length then .error (0, stShort) else .ok l

/-- The kept frames, and their map words, are written, each with new check bits (step 4 of R481). -/
def writeRepair (x : Repair) (src : Plane) (s : State) : State :=
  s.modPlane (x.key / 4) (x.key % 4) fun pl => { pl with
    frames := x.frames.foldl (fun m f => put m f (at' src.frames f 0)) pl.frames
    essmap := x.frames.foldl (fun m f => match lookup src.essmap f with | some v => put m f v | none => m) pl.essmap
    bad := dropKeys pl.bad fun f => x.frames.contains f
    mapBad := pl.mapBad.filter fun f => !(x.frames.contains f && has src.essmap f)
    noRetry := pl.noRetry.filter fun f => !x.frames.contains f }

/-- A repair ends well: log, events, the plane, and its command if nothing of it is left (R481, R489). -/
def endRepair (x : Repair) (s : State) : State :=
  let r := x.key / 4
  let p := x.key % 4
  let s := s.modInteg fun i => { i with repair := none }
  let s := applyIf x.claimed (setPlaneState r p psHood) (s.modCtx r fun c => { c with claim := none })
  let fl := s.planeFlags r p
  let s := forEach x.frames (fun f s => raise 0x0A03 [(1, r), (1, p), (2, f)] (logEss 3 fl (frameAddr r p f) 0xFFFF 0 0 s)) s
  let s := refreshClaimed r (endUncHold r s)
  let n := x.done + x.frames.length
  if x.serial ≠ 0 ∧ s.integ.asks.any (fun e => e.1 == x.serial) then
    s.modInteg fun i => { i with asks := i.asks.map fun e => if e.1 = x.serial then (e.1, e.2.1, n, e.2.2.2) else e }
  else finishCmd x.serial stOk (leBytes 2 n) false s

/-- REPAIR_LOAD_END: steps 3 to 5 of R481. -/
def execRepairLoadEnd (s : State) : Out :=
  match s.integ.repair with
  | none => .next s
  | some x =>
    let r := x.key / 4
    let p := x.key % 4
    if !s.cfgRuns || s.held 0xB5 || (s.ctxR r).claimReq == some p then .next s
    else match s.sourceHeader (s.plane r p) with
      | none => .next (dropRepair x stDenied psEmpty s)
      | some (k, off, h) => match s.repairSegment k off h with
        | .error (c, st) =>
          let s := applyIf (st == stAuthFail) (fun s => raise 0x0901 [(1, 0), (1, c)] (s.inc R.SEC_STAT.AUTH_CNT)) s
          .next (dropRepair x st psEmpty s)
        | .ok l =>
          let src := at' l.staged x.key Plane.empty
          if x.frames.all fun f => has src.frames f then .next (endRepair x (writeRepair x src s))
          else .next (dropRepair x stDenied psEmpty s)

/-- CFG_REPAIR (R481, R489): the frames it names wait for their repair loads. (DEDUCED, assumption 154) -/
def execCfgRepair (mb r p frame : Nat) (s : State) : Out :=
  .next (talnum mb 0x0A03 [(1, r), (1, p), (2, frame)]
    (checks [(decide (128 ≤ r) || decide (4 ≤ p) || (decide (1372 ≤ frame) && frame != 0xFFFF), stBadArg),
        (s.test.busy.contains r || s.test.busy.contains (1024 + 4 * r + p), stBusyTest), (s.cfg.load.isSome, stBusy),
        (s.planeState r p == psEmpty, stDenied),
        (s.planeState r p == psLoading && (s.ctxR r).claim != some p, stDenied)]
      fun s =>
        let two := fun l : List Nat => (List.range 8).any fun w => decide (2 ≤ (l.filter fun i => i % 8 == w).length)
        let fs := if frame = 0xFFFF then ((s.plane r p).bad.filter fun e => two e.2).map fun e => e.1 else [frame]
        if fs = [] then .ret [(2, 0)] s
        else
          let k := 4 * r + p
          let n := s.serial mb
          .runs (s.modInteg fun i => { i with
            queue := i.queue.filter fun e => !(e.1 == k && fs.contains e.2)
            asks := i.asks ++ [(n, k, 0, fs)] })) s)

/-! ## Read-back -/

/-- Word 0 of a read-back stream (Table 16-3). (DEDUCED, assumption 156) -/
def rdbkWord0 (kind r p : Nat) (shadow atSwap : Bool) : Nat :=
  0x4B424452 + kind * 2 ^ 32 + r * 2 ^ 34 + p * 2 ^ 41 + (if shadow then 2 ^ 43 else 0) + if atSwap then 2 ^ 44 else 0

/-- A stream with its last word. -/
def withCrc (l : List Nat) : List Nat := l ++ [crc32 (l.flatMap (leBytes 8)) + 2 ^ 32 * l.length]

/-- Value of flip-flop `i` in a capture. -/
def Capture.ff (c : Capture) (i : Nat) : Bool :=
  match lookup c.ffs i with
  | some v => v != 0
  | none => Config.ffInit c.base i

/-- The stream of a capture (R485). (DEDUCED, assumption 156) -/
def captureStream (r : Nat) (c : Capture) : List Nat :=
  let data := (List.range 3136).map fun w => maskOf ((List.range 64).filter fun b => c.ff (64 * w + b))
  withCrc ([rdbkWord0 0 r c.plane c.isShadow c.atSwap, c.tick, 0, c.imageId] ++ data)

/-- The data words of a frame as a check leaves them, and its status word (R485). -/
def frameWords (v : Nat) (c : FrameChk) : List Nat :=
  let d := Nat.xor v (maskOf (c.left.filter fun i => decide (i < 4096)))
  ((List.range 64).map fun k => bitsOf d (64 * k) 64) ++ [maskOf c.cor + 256 * maskOf c.unc]

/-- The frames of a read-back, each read as a pounce check. -/
def readFrames (r p first n : Nat) (s : State) : List Nat × State :=
  (List.range n).foldl (fun (a : List Nat × State) i =>
    let (c, t) := checkFrame r p (first + i) a.2
    (a.1 ++ frameWords (at' (t.plane r p).frames (first + i) 0) c, t)) ([], s)

/-- The words of a read-back leave on its path (R484). (DESIGN CHOICE, assumption 155) -/
def sendRdbk (x : Rdbk) (l : List Nat) (s : State) : State :=
  if x.path = 0 then sendCfgo l s
  else sendWrites 0xA1 (bitsOf x.addr 44 20) (bitsOf x.addr 32 12) (l.length / 64 + 1) (x.addr % 2 ^ 32)
    (l.flatMap (leBytes 8)) s

/-- The read-back ends with a status, and says so. (DESIGN CHOICE, assumption 155) -/
def endRdbk (st : Nat) (s : State) : State := raise 0x0A05 [(2, st)] (s.modInteg fun i => { i with rdbk := none })

/-- RDBK_END: the whole stream has left, or a permission was lost (R484–R486). -/
def execRdbkEnd (s : State) : Out :=
  match s.integ.rdbk with
  | none => .next s
  | some x =>
    if !s.up || (x.path == 0 && (decide (0 < s.cfg.fwdLeft) || s.flag R.CFG_STAT.FWD)) then .next s
    else if x.kind = 0 then
      match (s.ctxR x.region).cap with
      | none => .next (endRdbk stDenied s)
      | some c =>
        let l := captureStream x.region c
        if c.prot && !s.flag R.SEC_PROT.DBG_READ then
          .next (endRdbk stDenied (sendRdbk x (l.take (s.freeBelow l.length)) s.useFree))
        else .next (endRdbk stOk (freeCapture x.region (sendRdbk x l s)))
    else if s.planeState x.region x.plane = psEmpty ∨ s.planeState x.region x.plane = psLoading then
      .next (endRdbk stDenied s)
    else
      let (d, s) := readFrames x.region x.plane x.first x.count s
      let l := withCrc ([rdbkWord0 1 x.region x.plane false false, 0, x.first + x.count * 2 ^ 16,
        (s.plane x.region x.plane).imageId] ++ d)
      .next (endRdbk stOk (sendRdbk x l s))

/-- RDBK_START (R484, Table 15-5). (DEDUCED, assumption 156) -/
def execRdbkStart (mb kind r p first count path addr : Nat) (s : State) : Out :=
  let args := [(1, kind), (1, r), (1, p), (2, first), (2, count), (1, path)] ++ if path = 1 then [(8, addr)] else []
  .next (talnum mb 0x0A04 args
    (checks [(decide (2 ≤ kind) || decide (128 ≤ r) || decide (4 ≤ p) || decide (2 ≤ path), stBadArg),
        (kind == 1 && (count == 0 || decide (1372 < count) || decide (1372 < first + count)), stBadArg),
        (s.test.busy.contains r || (kind == 1 && s.test.busy.contains (1024 + 4 * r + p)), stBusyTest),
        (s.integ.rdbk.isSome, stBusy),
        (kind == 0 && (s.ctxR r).cap.isNone, stNoResource),
        (kind == 0 && (s.ctxR r).cap.any (fun c => c.prot) && !s.flag R.SEC_PROT.DBG_READ, stDenied),
        (kind == 1 && (s.planeState r p == psEmpty || s.planeState r p == psLoading || s.capBarred r p), stDenied)]
      fun s => .ok (s.modInteg fun i => { i with rdbk := some ⟨kind, r, p, first, count, path, addr⟩ })) s)

/-- RDBK_ABORT (R486): how many words of the stream had left is not defined; the buffer stays full. (DESIGN CHOICE,
assumption 155) -/
def execRdbkAbort (mb : Nat) (s : State) : Out :=
  .next (talnum mb 0x0A05 [] (fun s =>
    match s.integ.rdbk with
    | none => .ret [(4, 0)] s
    | some x =>
      let l := match (s.ctxR x.region).cap with
        | some c => if x.kind = 0 then captureStream x.region c else []
        | none => []
      let n := s.freeBelow ((if x.kind = 0 then 3141 else 5 + 65 * x.count) + 1)
      .ret [(4, n)] ((sendRdbk x (l.take n) s.useFree).modInteg fun i => { i with rdbk := none })) s)

/-! ## Summaries and the log -/

/-- POUNCE_SET (R489). -/
def execPounceSet (mb en mode unc : Nat) (s : State) : Out :=
  .next (talnum mb 0x0A00 [(1, en), (1, mode), (1, unc)]
    (checks [(decide (2 ≤ en) || decide (4 ≤ mode) || decide (4 ≤ unc), stBadArg)] fun s =>
      .ok (((s.set R.POUNCE_CTL.EN en).set R.POUNCE_CTL.MODE mode).set R.POUNCE_CTL.UNC_ACT unc)) s)

/-- The value of `POUNCE_STAT`. -/
def State.pounceStat (s : State) : Nat :=
  s.pounceState + 4 * s.get R.POUNCE_STAT.PASS + 16 * s.repairsQueued + 256 * s.get R.POUNCE_STAT.ROUNDS

/-- POUNCE_GET (R489). -/
def execPounceGet (mb r clear : Nat) (s : State) : Out :=
  .next (talnum mb 0x0A01 [(1, r), (1, clear)]
    (checks [(decide (128 ≤ r) || decide (2 ≤ clear), stBadArg), (s.test.busy.contains r, stBusyTest)] fun s =>
      .ret [(4, s.pounceStat), (4, s.cardWord (0xD00100 + 4 * r))]
        (applyIf (clear == 1) (fun s => ((s.set (R.POUNCE_CNT.BEN_CNT r) 0).set (R.POUNCE_CNT.ESS_CNT r) 0).set
          (R.POUNCE_CNT.UNC_CNT r) 0) s)) s)

/-- The 32 bytes of a log entry (Table 16-2). (DEDUCED, assumption 197) -/
def EssEnt.fields (e : EssEnt) : List (Nat × Nat) :=
  [(6, e.tick), (1, e.kind), (1, e.flags), (4, e.addr), (2, e.bit), (2, e.wmask), (4, e.serial), (2, e.status), (10, 0)]

/-- ESS_LOG (R483): entries from the oldest on; `clear` removes those it returns. -/
def execEssLog (mb first count clear : Nat) (s : State) : Out :=
  .next (talnum mb 0x0A02 [(1, first), (1, count), (1, clear)]
    (checks [(decide (256 ≤ first) || count == 0 || decide (8 < count) || decide (2 ≤ clear), stBadArg)] fun s =>
      let es := (s.integ.log.drop first).take count
      let r := (es.flatMap EssEnt.fields) ++ [(4, s.get R.ESS_TOTAL.TOTAL), (2, s.get R.LOG_STAT.OVF_CNT)]
      let keep := s.integ.log.take first ++ s.integ.log.drop (first + count)
      .ret r (if clear = 1 then (s.modInteg fun i => { i with log := keep }).set R.LOG_STAT.ENTRIES keep.length else s)) s)

/-! ## Plume -/

/-- The selection of plume pin `k` is forbidden (Table 15-5). (DEDUCED, assumption 157) -/
def State.plumeBarred (s : State) (r : Nat) : Bool := s.protPlane r (s.activePlane r) && !s.flag R.SEC_PROT.DBG_PLUME

/-- What plume pin `k` drives (R487): its candidate in the Active plane while it presents one, else 0; in Test 0. (DESIGN
CHOICE, assumption 53) -/
def State.plumePin (s : State) (k : Nat) : Bool :=
  let r := s.get (R.PLUME_SEL.REGION k)
  let w := Config.probeAt (s.frames r) (s.get (R.PLUME_SEL.PROBE k))
  s.plumeShown k == 1 && decide (s.mode ≠ mTest)
    && if w < 200704 then s.ffVal r w else at' s.fab.out (2 ^ 28 + 2 ^ 21 * r + (w - 200704)) 0 == 1

/-- A write on the bus to `PLUME_SEL[k]` is on its way. -/
def State.plumeWritten (s : State) (k : Nat) : Bool :=
  [(s.xing 0xB2).req, (s.xing 0xB2).pend].any fun w => w.any fun w => w.addr / 4 == 64 + k

/-- Plume pin `k` takes a selection (R488). (DEDUCED, assumption 157) -/
def selectPlume (k r probe en : Nat) (s : State) : State :=
  let s := ((s.set (R.PLUME_SEL.REGION k) r).set (R.PLUME_SEL.PROBE k) probe).set (R.PLUME_SEL.EN k) en
  s.set (R.PLUME_SEL.STATE k) (if en = 1 ∧ s.plumeBarred r then 2 else 0)

/-- A write of `PLUME_SEL[k]`. (DEDUCED, assumption 157) -/
def writePlume (k v : Nat) (s : State) : State := selectPlume k (v % 128) (bitsOf v 7 8) (bitsOf v 15 1) s

/-- PLUME_SEL_WRITE. -/
def execPlumeSelWrite (k : Fin 16) (val : BitVec 32) (s : State) : Out :=
  if s.fcbOn then .next (writePlume k val.toNat s) else .next s

/-- PLUME_SET (R488): a write on the bus that is on its way to the register is taken, and the command answers `BUSY`.
(DEDUCED, assumption 157) -/
def execPlumeSet (mb pin r probe en : Nat) (s : State) : Out :=
  .next (talnum mb 0x0A06 [(1, pin), (1, r), (1, probe), (1, en)]
    (checks [(decide (16 ≤ pin) || decide (128 ≤ r) || decide (2 ≤ en), stBadArg), (s.test.busy.contains r, stBusyTest),
        (en == 1 && s.plumeBarred r, stDenied), (s.plumeWritten pin, stBusy)]
      fun s => .ok (selectPlume pin r probe en s)) s)

/-- PLUME_GET. -/
def execPlumeGet (mb : Nat) (s : State) : Out :=
  .next (talnum mb 0x0A07 [] (fun s => .ret ((List.range 16).map fun k => (4, s.plumeWord k)) s) s)

end Sys2Proof.Machine
end

