-- ==== Sys2Proof/Machine/Modes.lean ====
section
/-! DEFINITION. Boot, restart, Quiescent, Safe, shutdown, and the mode commands ("Operating Modes and Straps"). -/

namespace Sys2Proof.Machine

/-! ## Boot -/

/-- The straps are sampled; an invalid combination sets `STRAP_ERR` (R55, R56). -/
def sampleStraps (s : State) : State :=
  let p := s.aon.strapPins
  let s := forEach (fieldsAt 0x8) (fun f s => s.set f (fieldOf f p)) s
  let bad := s.get R.STRAP_LATCH.TWIN == 3 || (s.get R.STRAP_LATCH.BOOT == 2 && s.flag R.STRAP_LATCH.FIRST)
  ((s.setB R.STRAP_LATCH.STRAP_ERR bad).set R.MCLK_STAT.SRC (s.get R.STRAP_LATCH.MCLK_SRC)).set R.TWIN_STAT.ROLE (s.get R.STRAP_LATCH.TWIN)

/-- A repair entry at Boot: a fence entry withdraws its unit; a spare that an earlier entry has taken is a conflict
(R563, R567). -/
def bootEntry (e : RepairEnt) (s : State) : State :=
  if e.kind = 8 then withdrawUnit e.pos e.unit s
  else if s.test.applied.any (sameSpare e) then raise 0x0804 [(8, e.word)] s
  else applyEntry e s

/-- The repair map: fuse entries in ascending order, then soft entries in record order (R20, R563). -/
def applyRepairs (s : State) : State :=
  let l := (s.test.fuse.map fun e => e.2) ++ s.test.soft
  let s := forEach (l.filter RepairEnt.live) bootEntry s
  refreshUnrep (refreshFuses (s.setB R.FUSE_LEFT.SOFT_FULL (decide (4096 ≤ s.test.soft.length))))

/-- Life used in ppm by R544, from powered rounds of 1.024 ms in bins A–D. -/
def lifePpm (a b c d : Nat) : Nat := (a * 375 + b * 1000 + (c + 4 * d) * 131400) * 1000000 * 1024 / (3600000000 * 131400000)

/-- `LIFE_USED` follows the bins. (DEDUCED, assumption 30) -/
def refreshLife (s : State) : State :=
  s.set R.LIFE_USED.PPM (min (lifePpm s.therm.binA s.therm.binB s.therm.binC s.therm.binD) (2 ^ 32 - 1))

/-- The life record gives the bins at Boot (R545). (DEDUCED, assumption 30) -/
def loadLife (s : State) : State :=
  refreshLife (s.modTherm fun t => { t with binA := t.recA, binB := t.recB, binC := t.recC, binD := t.recD })

/-- Lanes that Boot brings up: the receive half of L00 for MCLK, and L24 as the management lane (R391, R395, R396). -/
def bootLanes (s : State) : State :=
  let m := if s.link.mkM = 0 then 16 else s.link.mkM
  let s := applyIf (s.flag R.STRAP_LATCH.MCLK_SRC) (fun s =>
    setLane 0 lsAcquire ((applySetting 17 0 m 1 s).set (R.LANE_CFG.KDIV 0) (if s.link.mkM = 0 then 0 else s.link.mkK))) s
  applyIf (!s.flag R.STRAP_LATCH.FCB_EN) (fun s =>
    bringUp 24 (((applySetting 18 1 25 16 s).set (R.LANE_CFG.KDIV 24) 0).set (R.LINK_CFG.MGMT_EN 24) 1)) s

/-- Boot begins (R39, R58): straps, repair map, protection lock, and the start of Milliner. (DEDUCED, assumption 31) -/
def enterBoot (s : State) : State :=
  let s := s.modAon fun a => { a with testDone := false }
  let s := commitMode mBoot (sampleStraps s)
  let s := s.modLink fun k => { k with epoch := (k.epoch + 1) % 65536, bootEpoch := (k.epoch + 1) % 65536, alignDue := true }
  let s := lockProtection (applyRepairs s)
  let s := s.modCfg fun c => { c with journal := [] }
  let s := applyIf (s.flag R.STRAP_LATCH.FIRST) (fun s =>
    (s.set R.CFG_STAT.POSITION 0).set R.CFG_STAT.POS_VALID 1) s
  bootLanes ((loadLife (holdGsr s)).modMgt fun g => { g with startDue := some 0 })

/-- Rails that must be present before Boot (R525, R526). -/
def State.railsUp (s : State) : Bool :=
  let lanes := s.aon.strapPins.testBit 5 || !s.aon.strapPins.testBit 10
  ([1, 2, 3, 4, 7, 8, 9, 10] ++ if lanes then [5, 6] else []).all fun i => s.bit R.PWR_STAT.RAIL_OK i

/-- The transition from Standby to Boot waits for the rails, for `RESET_N` and for the absence of a fault (Table 2-4, R40). -/
def tryBoot (s : State) : State :=
  if s.mode = mStandby ∧ s.aon.resetHigh ∧ s.railsUp ∧ s.get R.DEV_MODE.STBY_FAULT = 0 then enterBoot s else s

/-- `MODE_RESTART` and its equals: 13 AON cycles in Standby, then as at a rise of `RESET_N` (R39). (DEDUCED, assumption
22) -/
def restart (s : State) : State := if s.up then tryBoot (enterStandby s) else s

/-- RESET_N_LOW: a pulse shorter than t_RSTL has the full effect or none, and which is not defined (R39). (DEDUCED,
assumption 21) -/
def execResetNLow (short : Bool) (s : State) : Out :=
  let acts := !short || s.freeBit
  let s := applyIf short State.useFree s
  if !acts then .next s
  else
    let s := s.modAon fun a => { a with resetHigh := false }
    if s.up then .next (enterStandby s) else .next s

/-- RESET_N_RISE. -/
def execResetNRise (s : State) : Out :=
  if s.aon.resetHigh then .next s else .next (tryBoot (s.modAon fun a => { a with resetHigh := true }))

/-! ## Safe -/

/-- Modes from which Safe is entered by request (Table 2-4). -/
def State.safeFrom (s : State) : Bool := s.up && decide (s.mode ≠ mTest) && decide (s.mode ≠ mSafe)

/-- Every cause of the Safe entry is in the list (R46). -/
def State.causesIn (s : State) (l : List Nat) : Bool := s.aon.safeCauses.all l.contains

/-- An image is committed: some region has its Active plane (R225, R449). (DEDUCED, assumption 25) -/
def State.committed (s : State) : Bool := (List.range 128).any s.hasActive

/-- MODE_SAFE (R46). (DESIGN CHOICE, assumption 24) -/
def execModeSafe (mb : Nat) (s : State) : Out :=
  .next (talnum mb 0x0101 [] (checks [(!s.safeFrom, stDenied)] fun s => .ok (enterSafe 1 s)) s)

/-- MODE_RESUME (R46, R449, R541): the device passes Blocking again. (DEDUCED, assumption 25) -/
def execModeResume (mb : Nat) (s : State) : Out :=
  .next (talnum mb 0x0102 []
    (checks [(decide (s.mode ≠ mSafe) || !s.causesIn [1, 3], stDenied),
        (s.aon.safeCauses.contains 3 && !s.therm.cool, stDenied), (!s.committed, stDenied), (s.cfg.load.isSome, stBusy)]
      fun s =>
        let s := s.modAon fun a => { a with safeCauses := [] }
        .ok (driveDacs (commitMode mBlocking (startBlocking true false s)))) s)

/-- DEV_CTL_SAFE: `DEV_CTL.SAFE` with the key (R497). (DESIGN CHOICE, assumption 24) -/
def execDevCtlSafe (key : BitVec 8) (s : State) : Out :=
  if s.fcbOn ∧ key = 0xA5 ∧ (s.safeFrom ∨ s.mode = mSafe) then .next (enterSafe 1 s) else .next s

/-- DEV_CTL_RESTART: `RESTART`, with or without `SAFE`, with the key (R497). -/
def execDevCtlRestart (key : BitVec 8) (_alsoSafe : Bool) (s : State) : Out :=
  if s.fcbOn ∧ key = 0xA5 then .next (restart s) else .next s

/-- The command of mailbox `mb` is done, and its transition to Standby follows its completion (R54, R503). (DEDUCED,
assumption 22) -/
def exitAfter (mb : Nat) (again : Bool) (s : State) : Ans :=
  .ok (s.modAon fun a => { a with exitDue := some (s.serial mb, again) })

/-- A transition that waited for its command's answer is committed once no mailbox holds that command (R39, R54, R59). With
`RESET_N` high and the rails good, a shutdown without test still stays in Standby. (DEDUCED, assumption 22; DESIGN CHOICE,
assumption 210) -/
def leaveDue (s : State) : State :=
  match s.aon.exitDue with
  | none => s
  | some (n, again) => if (s.mbOf n).isSome then s else if again then restart s else enterStandby s

/-- MODE_RESTART (R39): `OK`, then the restart, which resets every mailbox. (DEDUCED, assumption 22) -/
def execModeRestart (mb : Nat) (s : State) : Out := .next (talnum mb 0x0106 [] (exitAfter mb true) s)

/-- MODE_GET. -/
def execModeGet (mb : Nat) (s : State) : Out :=
  .next (talnum mb 0x0100 [] (fun s => .ret [(4, s.devMode), (4, s.cardWord 0x8)] s) s)

/-! ## Quiescent -/

/-- MODE_QUIESCE (R48, R52, R54). While one is pending, a second answers `DENIED`. (DESIGN CHOICE, assumptions 23, 209) -/
def execModeQuiesce (mb sleep wakeTick : Nat) (s : State) : Out :=
  .next (talnum mb 0x0103 [(1, sleep), (6, wakeTick)]
    (checks [(decide (2 ≤ sleep), stBadArg),
        (decide (s.mode ≠ mRun) && decide (s.mode ≠ mTwin), stDenied), (s.aon.quiesceReq.isSome, stDenied),
        (s.cfg.load.isSome, stBusy),
        (wakeTick != 0 && (!s.tickAhead wakeTick
          || s.clk.sched.any fun e => e.2.st == 1 && e.2.tick == wakeTick && e.2.action == 2), stBadArg)]
      fun s =>
        let go := fun s : State => Ans.runs (s.modAon fun a => { a with quiesceReq := some sleep })
        if wakeTick = 0 then go s
        else match schedPlace wakeTick 2 0 0 s with
          | none => .fail stNoResource s
          | some (_, s) => go s) s)

/-- QUIESCENT_COMMIT: the commit point of R48, if the request is still valid (R50). (DEDUCED, assumption 32) -/
def execQuiescentCommit (s : State) : Out :=
  match s.aon.quiesceReq with
  | none => .next s
  | some sleep =>
    let cmds := s.running 0x0103
    let s := s.modAon fun a => { a with quiesceReq := none }
    if (s.mode = mRun ∨ s.mode = mTwin) ∧ s.cfg.load.isNone then
      let s := commitMode mQuiescent (s.modAon fun a => { a with quiesceSleep := sleep })
      .next (forEach cmds (fun n s => finishCmd n stOk [] false (commitCmd n s)) (quiesce sleep s))
    else
      .next (forEach cmds (fun n s => finishCmd n stDenied [] false s) (clearWake s))

/-- WAKE_N_LOW: a pulse shorter than t_WAKEL wakes the device or not, and which is not defined (R47). (DEDUCED,
assumption 21) -/
def execWakeNLow (short : Bool) (s : State) : Out :=
  let acts := !short || s.freeBit
  let s := applyIf short State.useFree s
  if acts then .next (wakeSource s) else .next s

/-- A write of 1 to `DEV_MODE.WAKE` (R47). -/
def writeWake (s : State) : State :=
  if s.mode = mQuiescent ∨ s.aon.quiesceReq.isSome then wakeSource (s.set R.DEV_MODE.WAKE 1) else s

/-- DEV_MODE_WAKE. -/
def execDevModeWake (s : State) : Out := if s.fcbOn then .next (writeWake s) else .next s

/-- MODE_WAKE (R47): it completes with the wake. -/
def execModeWake (mb : Nat) (s : State) : Out :=
  .next (talnum mb 0x0104 [] (checks [(decide (s.mode ≠ mQuiescent), stDenied)] fun s =>
    .runs (wakeSource (s.modAon fun a => { a with wakeCmds := a.wakeCmds ++ [s.serial mb] }))) s)

/-- WAKE_COMPLETE: the device is back in its run-class mode (R47, R49). (DEDUCED, assumption 32) -/
def execWakeComplete (s : State) : Out :=
  if s.mode ≠ mQuiescent ∨ !s.aon.waking then .next s
  else
    let l := s.aon.wakeCmds
    let s := (unquiesce s).modFab fun f => { f with clocksOn := true }
    let s := commitMode s.topMode (s.modAon fun a => { a with wakeCmds := [] })
    .next (forEach l (fun n s => finishCmd n stOk [] false s) s)

/-! ## Shutdown -/

/-- Test begins: nothing that Test does not retain is left, and every unit waits for its slice (R553, Table 2-5).
(DEDUCED, assumption 28) -/
def enterTest (s : State) : State :=
  let s := applyIf (decide (s.mode = mQuiescent)) unquiesce s
  let s := dropWakes (commitMode mTest s)
  let s := s.modFab fun f => { f with clocksOn := false, writes := false }
  let s := s.modIo fun i => { i with released := false }
  let s := s.modCfg fun k => { k with blk := { k.blk with active := false, delay := false } }
  let s := (s.set R.BLK_STAT.FILLING 0).modAon fun a => { a with pairWait := false, safeCauses := [] }
  let s := match s.integ.repair with | some x => failRepair x stCancelled psEmpty s | none => s
  let s := applyIf s.integ.rdbk.isSome (endRdbk stDenied) s
  let s := cutPasses (fun _ => true) s
  let s := refreshReblock (holdGsr (eachRegion emptyRegion s))
  let s := { s with bm := { s.bm with rows := [], inj := [] } }
  let s := s.modCache fun c => { c with rows := [], inj := [] }
  let s := s.modBulk fun b => { b with pages := [], inj := [], bg := [] }
  forEach (List.range 96) (fun l s =>
    if s.laneState l = lsOff then s else bundleCheckDown l (setLane l lsOff s)) s

/-- The life record is written (R545). -/
def writeLife (s : State) : State :=
  s.modTherm fun t => { t with recA := t.binA, recB := t.binB, recC := t.binC, recD := t.binD }

/-- The slices that `MODE_SHUTDOWN` names begin (R59, R553). (DESIGN CHOICE, assumption 23) -/
def startTest (slices : List Nat) (total : Nat) (s : State) : State :=
  let mask := (slices.map fun i => 2 ^ i).sum
  let s := enterTest (cutSlice s)
  let s := forEach (List.range 16) (fun k s => forEach (fieldsAt (0x940 + 4 * k)) (fun f s => s.clear f) s) s
  nextSlice (s.modTest fun t => { t with
    queue := slices
    total := total
    recs := put t.recs 0 (emptyRec s.clk.tick total mask t.policy) })

/-- MODE_SHUTDOWN (R52, R59, R552). A mask that names no slice goes through Test without one. Without test, Standby follows
the completion and lasts until the next rise of `RESET_N`. (DEDUCED, assumption 22; DESIGN CHOICE, assumptions 23, 210) -/
def execModeShutdown (mb test mask budget : Nat) (s : State) : Out :=
  .next (talnum mb 0x0105 [(1, test), (2, mask), (4, budget)]
    (checks [(decide (3 ≤ test) || decide (1024 ≤ mask), stBadArg),
        (!(s.runClass || decide (s.mode = mQuiescent) || decide (s.mode = mSafe)), stDenied),
        (match s.cfg.load with | some l => l.kind == 2 || l.kind == 3 | none => false, stBusy)]
      fun s =>
        let s := writeLife s
        if test = 0 then exitAfter mb false s
        else
          let slices := if test = 1 then List.range 10 else (List.range 10).filter fun i => mask.testBit i
          .ok (startTest slices (if budget = 0 then 2500 else budget) s)) s)

/-! ## The first load at the host's word -/

/-- MODE_BOOT_GO (R54, R46, R396, R526): the first load from a named source. (DESIGN CHOICE, assumption 26) -/
def execModeBootGo (mb source num : Nat) (s : State) : Out :=
  let boot := decide (s.mode = mBoot) && s.aon.bootReady && decide (s.get R.STRAP_LATCH.BOOT = 3)
  let safe := decide (s.mode = mSafe) && s.causesIn [2]
  .next (talnum mb 0x0107 [(1, source), (1, num)]
    (checks [(decide (3 ≤ source) || (source == 0 && decide (5 ≤ num)) || (source == 2 && decide (96 ≤ num)), stBadArg),
        (!(boot || safe), stDenied), (source == 2 && s.sideReserved num, stDenied),
        (source == 2 && !(s.bit R.PWR_STAT.RAIL_OK 5 && s.bit R.PWR_STAT.RAIL_OK 6), stNoResource)]
      fun s =>
        let s := s.modCfg fun c => { c with golden := false }
        let s := commitMode mLoad (s.modAon fun a => { a with safeCauses := [] })
        if source = 0 ∧ !(s.slot num).valid then .ok (cfgFailed (setLast stShort s))
        else .ok (startLoad (newLoad 0 source num 0 0 (s.get R.CFG_CTL.LOAD_TO) 0)
          (applyIf (source == 2) (laneForLoad true num) s))) s)

end Sys2Proof.Machine
end

