-- ==== Sys2Proof/Machine/Power.lean ====
section
/-! DEFINITION. Supplies, housekeeping rounds, thermal enforcement, service life and die power ("Supplies, Heat and
Service Life"). -/

namespace Sys2Proof.Machine

/-! ## Rails -/

/-- A supply fault: only the first one is recorded, and Standby is committed from every mode (R528, R529). (DEDUCED,
assumption 19) -/
def supplyFail (code : Nat) (s : State) : State :=
  if s.mode = mOff then s
  else
    let s := if s.get R.DEV_MODE.STBY_FAULT = 0 then s.set R.DEV_MODE.STBY_FAULT code else s
    if s.up then enterStandby s else s

/-- Off: what fuses, the records area and the image store hold stays, and the key memory and the `TAMPERED` latch stay
while `VBAT` is good (R458, R469, R529). (DEDUCED, assumption 19) -/
def enterOff (s : State) : State :=
  let t := enterStandby s
  let pins := [R.SEC_STAT.TAMPER_NOW.key, R.SEC_STAT.VBAT_LOW.key]
  let held := if s.sec.vbatGood then [R.SEC_STAT.BBK_VALID.key, R.SEC_STAT.TAMPERED.key, R.SEC_STAT.BBK_KCV.key] else []
  let keep := t.regs.filter fun e => (pins ++ held).contains e.1
  let t := { t with
    regs := keep
    sec := if s.sec.vbatGood then s.sec else { s.sec with bbk := none }
    therm := { Therm.reset with
      recA := s.therm.recA, recB := s.therm.recB, recC := s.therm.recC, recD := s.therm.recD
      baseline := s.therm.baseline, repairRec := s.therm.repairRec, lifeWarned := s.therm.lifeWarned
      ageWarned := s.therm.ageWarned, ageLimited := s.therm.ageLimited }
    aon := { t.aon with testDone := false } }
  (t.set R.DEV_MODE.MODE mOff).set R.PWR_STAT.RAIL_OK 0

/-- VAON_PRESENT: Off to Standby, and the rails that were not off by then (R38, Table 18-2). (DESIGN CHOICE, assumption
18) -/
def execVaonPresent (notOff : Nat) (s : State) : Out :=
  if s.mode ≠ mOff then .next s
  else
    let s := (s.set R.DEV_MODE.MODE mStandby).set R.PWR_STAT.RAIL_OK 1
    if [1, 2, 3, 4, 7, 8, 9, 10, 13].any notOff.testBit then .next (supplyFail 1 s)
    else if notOff.testBit 5 || notOff.testBit 6 then .next (supplyFail 5 s)
    else .next s

/-- VAON_LOST: the device goes to Off (R524). -/
def execVaonLost (s : State) : Out := if s.mode = mOff then .next s else .next (enterOff s)

/-- Fault code of a rail that becomes present out of the order of R525, if any (Table 18-2). (DESIGN CHOICE, assumption
18) -/
def State.orderFault (s : State) (rail notOff : Nat) : Option Nat :=
  let ok := fun i => i == rail || s.bit R.PWR_STAT.RAIL_OK i
  match rail with
  | 1 => if notOff.testBit 2 || notOff.testBit 3 then some 2 else none
  | 2 => if !ok 1 then some 2 else if notOff.testBit 4 then some 3 else none
  | 3 => if !ok 1 then some 2 else if notOff.testBit 4 then some 3 else none
  | 4 => if !(ok 2 && ok 3) then some 3 else none
  | 8 => if !ok 10 || notOff.testBit 9 then some 4 else none
  | 9 => if !ok 8 then some 4 else none
  | 10 => if notOff.testBit 8 || notOff.testBit 9 then some 4 else none
  | _ => none

/-- Rail `r` becomes present or goes. The pass rail, 13, is up exactly while VBASE is (R23). (DEDUCED, assumption 207) -/
def setRail (r : Nat) (on : Bool) (s : State) : State :=
  let s := s.setBit R.PWR_STAT.RAIL_OK r on
  if r = 1 then s.setBit R.PWR_STAT.RAIL_OK 13 on else s

/-- RAIL_PRESENT: the order of R525 is judged, and Boot may begin (R524). VAON has its own row, and the pass rail comes
with VBASE (R23). (DESIGN CHOICE, assumption 18; DEDUCED, assumption 207) -/
def execRailPresent (rail : Fin 14) (notOff : Nat) (s : State) : Out :=
  if s.mode = mOff ∨ rail.val = 0 ∨ rail.val = 13 ∨ s.bit R.PWR_STAT.RAIL_OK rail then .next s
  else
    let f := s.orderFault rail notOff
    let s := setRail rail true s
    match f with
    | some c => .next (supplyFail c s)
    | none => .next (tryBoot s)

/-- Rails that come after a rail in the order of R525. -/
def laterRails (rail : Nat) : List Nat :=
  match rail with | 1 => [2, 3, 4] | 2 => [4] | 3 => [4] | 8 => [9] | 10 => [8, 9] | _ => []

/-- RAIL_OFF: in Standby the reverse order of R527 is judged; elsewhere the rail is lost (R528). -/
def execRailOff (rail : Fin 14) (notOff : Nat) (s : State) : Out :=
  let r := rail.val
  if s.mode = mOff ∨ r = 0 ∨ r = 13 ∨ !s.bit R.PWR_STAT.RAIL_OK r then .next s
  else
    let was := s.up
    let s := setRail r false s
    if was && decide (r ≤ 10) then .next (supplyFail (0x10 + r) s)
    else if (laterRails r).any notOff.testBit then .next (supplyFail 0x30 s)
    else .next s

/-- SUPPLY_FAULT: a rail is lost or over, or the order is broken (R528). (DEDUCED, assumption 19) -/
def execSupplyFault (ev : SupplyEv) (s : State) : Out :=
  if s.mode = mOff then .next s
  else match ev with
    | .lost rail =>
      let r := rail.val
      if r = 0 ∨ r = 13 ∨ !s.bit R.PWR_STAT.RAIL_OK r then .next s
      else
        let was := s.up
        let s := setRail r false s
        if was && decide (r ≤ 10) then .next (supplyFail (0x10 + r) s) else .next s
    | .overV rail => if 1 ≤ rail.val ∧ rail.val ≤ 10 then .next (supplyFail (0x20 + rail.val) s) else .next s
    | .order code => if [1, 2, 3, 4, 5, 0x30].contains code.val then .next (supplyFail code s) else .next s

/-! ## The housekeeping round -/

/-- Channel `c` is not read in this round, or has no valid result (R128, Table 4-11). (DEDUCED, assumption 182) -/
def State.hkpIdle (s : State) (c : Nat) : Bool :=
  (decide (122 ≤ c) && decide (c ≤ 127)) || decide (182 ≤ c)
    || (decide (96 ≤ c) && (s.held 0xB0 || s.io.hkpMask.testBit c))
    || (c == 120 && s.held 0x9C) || (c == 121 && s.held 0x9D)

/-- The result of a channel: `VALUE` and `OVR` (Table 4-12, R128). -/
def hkpResult (c : Nat) (x : HkpRd) : Nat × Bool :=
  if c < 96 then
    let v := max (-640) (min 2000 x.val)
    (ofSigned 16 v, x.beyond || decide (v ≠ x.val))
  else if 128 ≤ c ∧ c ≤ 135 then if x.beyond then (0xFFF, true) else (ofSigned 16 x.val % 4096, false)
  else (ofSigned 16 x.val, x.beyond)

/-- The results of a round are published at one edge (R127). (DEDUCED, assumption 182) -/
def publishRound (rds : List HkpRd) (s : State) : State :=
  let n := s.io.round + 1
  let s := s.modIo fun i => { i with round := n }
  forEach (List.range 192) (fun c s =>
    match rds.find? fun x => x.ch == c with
    | some x =>
      if s.hkpIdle c || !x.valid then s.set (R.HKP_RES.VALID c) 0
      else
        let (v, o) := hkpResult c x
        (((s.set (R.HKP_RES.VALUE c) v).set (R.HKP_RES.VALID c) 1).setB (R.HKP_RES.OVR c) o).set (R.HKP_RES.ROUND c) n
    | none => s.set (R.HKP_RES.VALID c) 0) s

/-- Reading of channel `c` as a signed number. -/
def State.hkpVal (s : State) (c : Nat) : Int := toSigned 16 (s.get (R.HKP_RES.VALUE c))

/-- Stack sensor `c` is counted towards failure, and fails at the fourth such round (R535). -/
def judgeSensor (c : Nat) (s : State) : State :=
  if s.therm.sensFailed.contains c then s
  else
    let bad := !s.flag (R.HKP_RES.VALID c) || s.flag (R.HKP_RES.OVR c)
    let n := if bad then at' s.therm.sensBad c 0 + 1 else 0
    if n < 4 then s.modTherm fun t => { t with sensBad := putD t.sensBad c 0 n }
    else
      raise 0x0705 [(1, c)] ((s.modTherm fun t => { t with
        sensBad := putD t.sensBad c 0 0, sensFailed := t.sensFailed ++ [c] }).set R.THERM_STAT.SENS_FAIL 1)

/-- Readings that TMAX is taken over: valid sensors that have not failed (R534). -/
def State.sensorReads (s : State) : List (Nat × Int) :=
  ((List.range 96).filter fun c => s.flag (R.HKP_RES.VALID c) && !s.therm.sensFailed.contains c).map fun c =>
    (c, s.hkpVal c)

/-- `T_TRIP`, 110 °C (R541). -/
def tTrip : Int := 1760

/-- Dies with two or more failed sensors read `T_TRIP` (R535), at their first sensor. -/
def State.lostDies (s : State) : List (Nat × Int) :=
  ((List.range 24).filter fun d => decide (2 ≤ (s.therm.sensFailed.filter fun c => c / 4 == d).length)).map fun d =>
    (4 * d, tTrip)

/-- Highest reading of a list with its sensor; the lowest sensor number among equals. (DEDUCED, assumption 183) -/
def hottest (l : List (Nat × Int)) : Option (Nat × Int) :=
  l.foldl (fun a e => match a with
    | none => some e
    | some b => if b.2 < e.2 then some e else a) none

/-- TMAX of the last round. (DEDUCED, assumption 183) -/
def State.tmax (s : State) : Int := toSigned 16 (s.get R.THERM_TEMP.TMAX)

/-- `TMAX` as an event carries it. (DEDUCED, assumption 183) -/
def State.tmaxRaw (s : State) : Nat := s.get R.THERM_TEMP.TMAX

/-- Pass value in Limit (R538). (DEDUCED, assumption 184) -/
def limitP (tmax : Int) (limit floor : Nat) : Nat :=
  if tmax < limit then 15 else max floor (15 - ((tmax - limit) / 8).toNat)

/-- The thermal state returns to Normal (R540, R541). -/
def thermRelief (s : State) : State :=
  let s := ((s.set R.THERM_STAT.STATE 0).set R.THERM_STAT.P 16).set R.DEV_MODE.COND_LIMIT 0
  refreshMode (raise 0x0702 [(2, s.tmaxRaw)] s)

/-- A trip, of the sensors or for want of a round: Test ends, and Safe is committed (R51, R536, R541). -/
def thermTrip (sensor : Nat) (s : State) : State :=
  let s := raise 0x0704 [(2, s.tmaxRaw), (1, sensor)] (s.set R.THERM_STAT.STATE 3)
  enterSafe 3 (applyIf (decide (s.mode = mTest)) cutTest s)

/-- The thermal state machine judges a round (R537–R541). (DESIGN CHOICE, assumption 15) -/
def judgeThermal (s : State) : State :=
  let lim : Int := s.therm.tLimit
  let t := s.tmax
  let st := s.get R.THERM_STAT.STATE
  if st ≠ 3 ∧ tTrip ≤ t then thermTrip (s.get R.THERM_STAT.HOT) (s.set R.THERM_STAT.TRIP 1)
  else match st with
    | 0 =>
      if lim ≤ t then
        raise 0x0701 [(2, s.tmaxRaw), (1, s.get R.THERM_STAT.HOT)]
          ((s.set R.THERM_STAT.STATE 1).set R.THERM_STAT.THERM_REQ 1)
      else s
    | 1 => if t < lim - 32 then raise 0x0702 [(2, s.tmaxRaw)] (s.set R.THERM_STAT.STATE 0) else s
    | 2 => if t < lim - 32 then thermRelief s else s.set R.THERM_STAT.P (limitP t s.therm.tLimit s.therm.floor)
    | _ => if s.therm.cool then thermRelief s else s

/-- The round's heat is taken: die maxima, TMAX, TPEAK and the thermal settings in force (R534, R540). -/
def takeHeat (s : State) : State :=
  let s := forEach (List.range 96) judgeSensor s
  let reads := s.sensorReads
  let s := s.modTherm fun t => { t with
    tLimit := s.get R.THERM_CFG.T_LIMIT
    graceMs := s.get R.THERM_CFG.GRACE_MS
    floor := s.get R.THERM_CFG.FLOOR
    dieMax := (List.range 24).foldl (fun m d =>
      match hottest (reads.filter fun e => e.1 / 4 == d) with
      | some e => put m d e.2
      | none => m) t.dieMax }
  let s := s.modTherm fun t => { t with cool := s.lostDies == [] && reads.all fun e => decide (e.2 < t.tLimit - 32) }
  match hottest (reads ++ s.lostDies) with
  | none => s
  | some (c, v) =>
    let s := (s.set R.THERM_TEMP.TMAX (ofSigned 16 v)).set R.THERM_STAT.HOT c
    if s.io.round = 1 ∨ toSigned 16 (s.get R.THERM_TEMP.TPEAK) < v then s.set R.THERM_TEMP.TPEAK (ofSigned 16 v) else s

/-- Firmware assigns the round to a bin and watches the life used (R544). -/
def countLife (s : State) : State :=
  if !s.mgt.running then s
  else
    let t := s.tmax
    let s := s.modTherm fun h =>
      if t ≤ 1360 then { h with binA := h.binA + 1 }
      else if t ≤ 1520 then { h with binB := h.binB + 1 }
      else if t ≤ 1680 then { h with binC := h.binC + 1 }
      else { h with binD := h.binD + 1 }
    let s := refreshLife s
    if 800000 ≤ s.get R.LIFE_USED.PPM ∧ !s.therm.lifeWarned then
      raise 0x0709 [(4, s.get R.LIFE_USED.PPM)] (s.modTherm fun h => { h with lifeWarned := true })
    else s

/-- Readings of the rails, channels 168–181, as one number. -/
def State.railReads (s : State) : Int := ((List.range 14).map fun i => s.get (R.HKP_RES.VALUE (168 + i)) * 2 ^ (16 * i)).sum

/-- The ageing of die `d` from its monitor (R546); the first reading ever made is its baseline. (DEDUCED, assumption 30;
DESIGN CHOICE, assumption 187) -/
def ageDie (d : Nat) (s : State) : State :=
  if !s.flag (R.HKP_RES.VALID (96 + d)) || !s.mgt.running then s
  else
    let n := Config.ageNormal d (s.get (R.HKP_RES.VALUE (96 + d))) (at' s.therm.dieMax d 0) s.railReads
    match lookup s.therm.baseline d with
    | none => s.modTherm fun t => { t with baseline := put t.baseline d n }
    | some b =>
      let v := 10000 * (b - n) / b
      let s := s.modTherm fun t => { t with slowdown := put t.slowdown d v }
      let s := if 400 < v ∧ !s.therm.ageWarned then
          raise 0x0707 [(1, d), (2, ofSigned 16 v)] (s.modTherm fun t => { t with ageWarned := true })
        else s
      if 500 < v ∧ !s.therm.ageLimited then
        raise 0x0708 [(1, d), (2, ofSigned 16 v)] (s.modTherm fun t => { t with ageLimited := true })
      else s

/-- `BULK_HOT` of stack `k` (R534). (DESIGN CHOICE, assumption 97) -/
def bulkHot (k : Nat) (s : State) : State :=
  if s.flag (R.HKP_RES.VALID (120 + k)) && decide (1520 ≤ s.hkpVal (120 + k)) then
    raise 0x0706 [(1, k), (2, s.get (R.HKP_RES.VALUE (120 + k)))] s
  else s

/-- HKP_ROUND_END: the round is published and judged (R127, R534–R546). -/
def execHkpRoundEnd (rds : List HkpRd) (s : State) : Out :=
  if !s.up || !s.clocked 16 then .next s
  else
    let s := takeHeat (refreshVio (publishRound rds s))
    let s := countLife (forEach (List.range 2) bulkHot s)
    .next (judgeThermal (forEach (List.range 24) ageDie s))

/-- GRACE_EXPIRY: Request becomes Limit (R537, R49). -/
def execGraceExpiry (s : State) : Out :=
  if !s.up || decide (s.get R.THERM_STAT.STATE ≠ 1) then .next s
  else
    let p := limitP s.tmax s.therm.tLimit s.therm.floor
    let s := ((s.set R.THERM_STAT.STATE 2).set R.THERM_STAT.P p).set R.DEV_MODE.COND_LIMIT 1
    .next (refreshMode (raise 0x0703 [(2, s.tmaxRaw), (1, p)] s))

/-- SENSOR_ROUND_MISSING (R536). (DEDUCED, assumption 182) -/
def execSensorRoundMissing (s : State) : Out :=
  if !s.up then .next s
  else
    let s := (s.set R.THERM_STAT.SENS_LOST 1).modTherm fun t => { t with cool := false }
    .next (thermTrip 0xFF s)

/-- LIFE_RECORD_WRITE (R545). -/
def execLifeRecordWrite (s : State) : Out := if s.up && s.mgt.running then .next (writeLife s) else .next s

/-! ## Settings -/

/-- A write of `THERM_CFG`: refused with `CFG_REJ` where a field is out of range (Table 18-7). -/
def writeThermCfg (v : Nat) (s : State) : State :=
  let lim := v % 4096
  let grace := bitsOf v 12 13
  if 960 ≤ lim ∧ lim ≤ 1680 ∧ 10 ≤ grace ∧ grace ≤ 5000 ∧ 4 ≤ bitsOf v 25 4 then writeFields (fieldsAt 0x700) v s
  else s.set R.THERM_STAT.CFG_REJ 1

/-- THERM_CFG_WRITE. -/
def execThermCfgWrite (val : BitVec 32) (s : State) : Out :=
  if s.fcbOn then .next (writeThermCfg val.toNat s) else .next s

/-- THERM_SET (R540). -/
def execThermSet (mb limit grace floor : Nat) (s : State) : Out :=
  .next (talnum mb 0x0701 [(2, limit), (2, grace), (1, floor)]
    (checks [(decide (limit < 960) || decide (1680 < limit) || decide (grace < 10) || decide (5000 < grace)
        || decide (floor < 4) || decide (15 < floor), stBadArg)]
      fun s => .ok (((s.set R.THERM_CFG.T_LIMIT limit).set R.THERM_CFG.GRACE_MS grace).set R.THERM_CFG.FLOOR floor)) s)

/-! ## Reports -/

/-- THERM_GET (Table 18-14). -/
def execThermGet (mb : Nat) (s : State) : Out :=
  .next (talnum mb 0x0700 [] (fun s =>
    .ret ([(4, s.cardWord 0x700), (4, s.cardWord 0x704), (4, s.cardWord 0x708)]
      ++ (List.range 24).map fun d => (2, ofSigned 16 (at' s.therm.dieMax d 0))) s) s)

/-- THERM_PEAK_CLR. -/
def execThermPeakClr (mb : Nat) (s : State) : Out :=
  .next (talnum mb 0x0702 [] (fun s =>
    .ret [(2, s.get R.THERM_TEMP.TPEAK)] (s.set R.THERM_TEMP.TPEAK s.tmaxRaw)) s)

/-- Whole powered hours of a number of rounds (R544). -/
def roundHours (n : Nat) : Nat := n * 1024 / 3600000000

/-- LIFE_GET. (DEDUCED, assumption 185) -/
def execLifeGet (mb : Nat) (s : State) : Out :=
  .next (talnum mb 0x0703 [] (fun s =>
    let t := s.therm
    .ret ([(4, roundHours t.binA), (4, roundHours t.binB), (4, roundHours t.binC), (4, roundHours t.binD),
        (4, s.get R.LIFE_USED.PPM)]
      ++ (List.range 24).map fun d => (2, ofSigned 16 (at' t.slowdown d 0))) s) s)

/-- PWR_GET. (DEDUCED, assumption 185) -/
def execPwrGet (mb : Nat) (s : State) : Out :=
  .next (talnum mb 0x0704 [] (fun s =>
    .ret ((4, s.get R.PWR_STAT.RAIL_OK) :: (List.range 14).map fun i => (2, s.get (R.HKP_RES.VALUE (168 + i)))) s) s)

/-- VERT_GET: the fences since Boot. (DEDUCED, assumption 185) -/
def execVertGet (mb first count : Nat) (s : State) : Out :=
  .next (talnum mb 0x0705 [(2, first), (1, count)]
    (checks [(count == 0 || decide (16 < count), stBadArg)] fun s =>
      .ret (((s.therm.fences.drop first).take count).flatMap fun e => [(4, e.addr), (4, e.element), (6, e.tick)]) s) s)

/-! ## Die power -/

/-- The upper unit of quadrant `q` goes off: its regions are fenced and hold nothing (R532). (DEDUCED, assumption 186)
-/
def upperUnitOff (q : Nat) (s : State) : State :=
  let rs := (List.range 128).filter fun r => quadOf r == q
  let s := match s.cfg.load with
    | some l => if l.planes.any (fun k => rs.contains (k / 4)) then failLoad stDenied s else s
    | none => s
  let s := forEach rs (fun r s => emptyRegion r (initRegion r (fenceRegion r s))) s
  let s := { s with bm := { s.bm with
    rows := dropKeys s.bm.rows fun k => rs.contains (k / 98304)
    inj := dropKeys s.bm.inj fun k => rs.contains (k / 393216) } }
  s.modTherm fun t => { t with upperOff := q :: t.upperOff, powerFence := if t.powerFence.contains q then t.powerFence else q :: t.powerFence }

/-- Units of quadrant `q` are under test. -/
def State.quadTested (s : State) (q unit : Nat) : Bool :=
  s.test.busy.any fun k =>
    if unit = 0 then (decide (k < 128) && quadOf k == q) || (decide (1024 ≤ k) && quadOf ((k - 1024) / 4) == q)
    else decide (256 ≤ k) && decide (k < 512) && bankDie (k - 256) == q

/-- DIE_POWER (R24, R532). (DEDUCED, assumption 186) -/
def execDiePower (mb q unit off : Nat) (s : State) : Out :=
  let banks := (List.range 64).map (64 * q + ·)
  let upOff := s.therm.upperOff.contains q
  let memOff := s.therm.memOff.contains q
  .next (talnum mb 0x0706 [(1, q), (1, unit), (1, off)]
    (checks [(decide (4 ≤ q) || decide (2 ≤ unit) || decide (2 ≤ off), stBadArg), (s.quadTested q unit, stBusyTest),
        (decide (s.mode ≠ mSafe), stDenied),
        (unit == 0 && off == 0 && memOff, stDenied),
        (unit == 1 && off == 1 && (!upOff || banks.any fun b => s.flag (R.BANK_CFG.LAND b) || s.flag (R.BANK_CFG.CMODE b)),
          stDenied)]
      fun s => match unit, off with
        | 0, 0 => .ok (s.modTherm fun t => { t with upperOff := t.upperOff.filter fun k => k != q })
        | 0, _ => .ok (if upOff then s else upperUnitOff q s)
        | _, 0 => .ok (s.modTherm fun t => { t with memOff := t.memOff.filter fun k => k != q })
        | _, _ =>
          if memOff then .ok s
          else .ok (forEach banks (fun b => startPower b 2) (s.modTherm fun t => { t with memOff := q :: t.memOff }))) s)

end Sys2Proof.Machine
end

