-- ==== Sys2Proof/Machine/TestCmd.lean ====
section
/-! DEFINITION. The end of the quick check, and the test and repair commands ("Self-Test and Repair"). -/

namespace Sys2Proof.Machine

/-! ## The quick check -/

/-- What Boot goes on to after its quick check (R58, R447, R54). (DEDUCED, assumption 27) -/
def leaveBoot (s : State) : State :=
  match s.get R.STRAP_LATCH.BOOT with
  | 0 => bootLoad (commitMode mLoad s)
  | 3 => s
  | _ => waitPort (commitMode mLoad s)

/-- Causes of Safe at the end of Boot (R46, R56, R58, R566): invalid straps, unrepairable units under the policy Safe, and
`STRAP_SAFE`, highest first. -/
def State.bootCauses (s : State) (units : List (Nat × Nat)) : List Nat :=
  (if s.flag R.STRAP_LATCH.STRAP_ERR then [5] else []) ++ (if s.test.policy = 0 ∧ units ≠ [] then [4] else [])
    ++ if s.flag R.STRAP_LATCH.SAFE then [2] else []

/-- The results of the quick check: soft repairs, its record, and `QUICK_FAIL` and `QUICK_INC` (R565). (DEDUCED,
assumption 189) -/
def recordQuick (exec prog : Nat) (fails : List FailEntry) (s : State) : State :=
  let (l, s) := handleFails fails s
  let r := { emptyRec s.clk.tick 40 0 s.test.policy with fails := l.take 4096 }
  let s := s.modTest fun t => { t with recs := put t.recs 1 r }
  let s := s.setB R.TEST_STAT.QUICK_FAIL (l.any fun e => e.1 == 1 || e.1 == 3)
  if exec < prog then raise 0x0805 [(8, exec), (8, prog)] (s.set R.TEST_STAT.QUICK_INC 1) else s.set R.TEST_STAT.QUICK_INC 0

/-- QUICK_CHECK_END (R565, R566): firmware is ready, withdraws what R21 and R297 withdraw under either policy, and
fences or enters Safe for the rest. (DEDUCED, assumption 27) -/
def execQuickCheckEnd (exec prog : Nat) (fails : List FailEntry) (s : State) : Out :=
  if s.aon.bootReady ∨ !s.mgt.running ∨ s.mgt.recovery ∨ !(s.mode = mBoot ∨ s.mode = mSafe) then .next s
  else
    let s := recordQuick exec prog fails s
    let s := raise 0x0001 [] (s.modAon fun a => { a with bootReady := true })
    let units := s.unrepairable [0, 1]
    let s := forEach units (fun u s =>
      if u.1 = 0 then fenceAddr u.2 s else if u.1 = 4 then offlineBank u.2 s else s) s
    let causes := s.bootCauses units
    let s := if s.test.policy = 0 then refreshUnrep s
      else
        let (n, s) := fenceAll s
        if n = 0 then s else raise 0x0806 [(2, n)] s
    if causes ≠ [] then .next (forEach causes enterSafe s)
    else if s.mode = mBoot then .next (leaveBoot s) else .next s

/-! ## Results -/

/-- The words of `TEST_STAT`, `SLICE_RES` and `FUSE_LEFT`. -/
def State.testWords (s : State) : List (Nat × Nat) :=
  ((0x900 :: (List.range 16).map fun k => 0x940 + 4 * k) ++ [0x980]).map fun a => (4, s.cardWord a)

/-- TEST_GET. -/
def execTestGet (mb : Nat) (s : State) : Out := .next (talnum mb 0x0800 [] (fun s => .ret s.testWords s) s)

/-- The items of a result record (R559): its header, 16 summaries, and its failure entries. (DEDUCED, assumption 190) -/
def TestRec.items (r : TestRec) (kind : Nat) : List (List Nat) :=
  bytesAt (leBytes 4 0x54534C31 ++ [kind] ++ leBytes 6 r.tick ++ leBytes 4 r.budget ++ leBytes 2 r.mask ++ [r.policy]) 0 32
    :: ((List.range 16).map fun i => (at' r.sums i ⟨0, false, 0, 0, 0, 0, 0, 0⟩).bytes)
    ++ r.fails.map fun e => failBytes e.1 e.2

/-- TEST_RESULTS: items of a record in order, header first (R559). (DEDUCED, assumption 190) -/
def execTestResults (mb record first count : Nat) (s : State) : Out :=
  let l := match lookup s.test.recs record with | some r => r.items record | none => []
  .next (talnum mb 0x0801 [(1, record), (2, first), (1, count)]
    (checks [(decide (3 ≤ record) || decide (count = 0) || decide (6 < count) || decide (l.length ≤ first), stBadArg)]
      fun s => .done stOk ((l.drop first).take count).flatten s) s)

/-! ## In-service slices -/

/-- A segment in `[a, b)` lies in a cached range or under a spill ring. -/
def State.segsUsed (s : State) (a b : Nat) : Bool :=
  ((List.range 4).any fun d => s.flag (R.CMODE_CFG.EN d) && decide (s.get (R.CMODE_CFG.BASE_SEG d) < b)
      && decide (a < s.get (R.CMODE_CFG.BASE_SEG d) + s.get (R.CMODE_CFG.SEG_CNT d)))
    || (List.range 256).any fun k => s.flag (R.SPILL_STAT.EN k)
      && decide ((s.bank k).ringBase / 2 ^ 30 < b)
      && decide (a ≤ ((s.bank k).ringBase + 2048 * (s.bank k).ringSize - 1) / 2 ^ 30)

/-- Unit `u` of slice `i` meets its isolation condition (Table 19-1). -/
def State.isolated (s : State) (i u : Nat) : Bool :=
  match i with
  | 2 => s.planeState (u / 4) (u % 4) == psEmpty && (s.claimRefused (u / 4) (u % 4)).isNone
      && (s.ctxR (u / 4)).claimReq.isNone
  | 3 => s.held u
  | 4 => s.get (R.BANK_OWN.OWNER u) == ownAgent && s.get (R.BANK_CFG.PWR u) == 0 && !s.flag (R.BANK_CFG.LAND u)
      && !s.flag (R.BANK_CFG.CMODE u) && !s.flag (R.SPILL_STAT.EN u)
  | 5 => !s.segsUsed (24 * u) (24 * u + 24)
  | 6 => s.held (0xA8 + u)
  | 8 => (List.range 4).all fun k => s.laneState (4 * u + k) != lsUp
  | _ => (s.slot u).valid && (List.range 5).all fun k => !(s.slot k).writing

/-- An in-service slice begins on a unit (R558); a plane is claimed for it. (DEDUCED, assumption 194) -/
def startService (i u budget serial : Nat) (s : State) : State :=
  let s := applyIf (i == 2) (fun s => refreshClaimed (u / 4) (s.modCtx (u / 4) fun c => { c with claim := some (u % 4) })) s
  let units := serviceUnits i u
  startSlice ⟨i, 2, units, s.progCount i units, budget, s.clk.tick, serial⟩
    (s.modTest fun t => { t with recs := put t.recs 2 (emptyRec s.clk.tick budget (2 ^ i) t.policy) })

/-- TEST_RUN (R558). (DEDUCED, assumption 194) -/
def execTestRun (mb slice unit budget : Nat) (s : State) : Out :=
  .next (talnum mb 0x0802 [(1, slice), (2, unit), (2, budget)]
    (checks [(decide (10 ≤ slice) || decide (budget = 0) || decide (10000 < budget), stBadArg),
        (!(s.runClass || decide (s.mode = mSafe) || decide (s.mode = mQuiescent)), stDenied),
        (serviceCount slice == 0, stDenied), (decide (serviceCount slice ≤ unit), stBadArg),
        (s.test.run.isSome, stBusy), (!s.isolated slice unit, stDenied)]
      fun s => .runs (startService slice unit budget (s.serial mb) s)) s)

/-! ## The policy -/

/-- TEST_POLICY (R566, R569). -/
def execTestPolicy (mb policy : Nat) (s : State) : Out :=
  .next (talnum mb 0x0803 [(1, policy)]
    (checks [(decide (2 ≤ policy), stBadArg), (decide (s.mode = mTest), stDenied),
        (policy == 1 && !s.flag R.SEC_PROT.EXPERT_OK, stDenied)]
      fun s => .ok (refreshUnrep (s.modTest fun t => { t with policy := policy }))) s)

/-- TEST_FENCE (R566). (DEDUCED, assumption 194) -/
def execTestFence (mb : Nat) (s : State) : Out :=
  .next (talnum mb 0x0804 []
    (checks [(!(decide (s.mode = mSafe) && s.aon.safeCauses.contains 4 && s.flag R.SEC_PROT.EXPERT_OK), stDenied)]
      fun s =>
        let (n, s) := fenceAll s
        .ret [(2, n)] s) s)

/-! ## Repair entries -/

/-- REPAIR_LIST (R569): fuse entries, or the soft entries that exist. -/
def execRepairList (mb soft first count : Nat) (s : State) : Out :=
  .next (talnum mb 0x0805 [(1, soft), (2, first), (1, count)]
    (checks [(decide (2 ≤ soft) || decide (count = 0) || decide (8 < count)
        || decide ((if soft = 0 then 285 else 4096) < first + count), stBadArg)]
      fun s =>
        let l := if soft = 0 then (List.range count).map fun i => at' s.test.fuse (first + i) RepairEnt.blank
          else (s.test.soft.drop first).take count
        .ret (l.map fun e => (8, e.word)) s) s)

/-- Fuse entries that are free. -/
def State.freeFuses (s : State) : List Nat :=
  (List.range 285).filter fun i => at' s.test.fuse i RepairEnt.blank == RepairEnt.blank

/-- The fields of the 52 bits of an entry (Table 19-6). -/
def entOfWord (w : Nat) : RepairEnt :=
  ⟨bitsOf w 0 4, bitsOf w 4 32, bitsOf w 36 12, bitsOf w 48 2, w.testBit 50, w.testBit 51⟩

/-- An entry of which some fuse failed to blow, retired: which of its fuses blew is not given (R564). -/
def spoiltEnt (e : RepairEnt) (s : State) : RepairEnt :=
  { entOfWord (Nat.land e.word (Config.freeValue s.free)) with retired := true }

/-- Soft entry `e` goes into the lowest free fuse entry; it leaves the soft record only when it was copied whole (R564).
(DEDUCED, assumption 195) -/
def fuseEntry (e : RepairEnt) (fails : Bool) (s : State) : State :=
  match s.freeFuses.head? with
  | none => s
  | some k =>
    if fails then
      let x := spoiltEnt e s
      s.useFree.modTest fun t => { t with fuse := put t.fuse k x }
    else s.modTest fun t => { t with fuse := put t.fuse k e, soft := t.soft.erase e }

/-- `FUSE_LOW` is raised when fewer than 16 free entries remain (R564). -/
def fuseLow (s : State) : State :=
  let s := refreshFuses s
  let n := s.get R.FUSE_LEFT.FREE
  if n < 16 then raise 0x0807 [(2, n)] s else s

/-- REPAIR_FUSE: `failed` names the soft entries, by index, of which a fuse does not blow (R564). (DEDUCED, assumption
195) -/
def execRepairFuse (mb first count : Nat) (failed : List Nat) (vfuse : Bool) (s : State) : Out :=
  .next (talnum mb 0x0806 [(2, first), (1, count)]
    (checks [(decide (count = 0) || decide (64 < count) || decide (4096 < first + count), stBadArg),
        (decide (s.mode = mTest), stDenied), (!vfuse || s.freeFuses == [], stNoResource)]
      fun s =>
        let l := (((List.range count).filterMap fun i => (s.test.soft[first + i]?).map fun e => (e, failed.contains (first + i))).filter
          fun x => x.1.kind != 8).take s.freeFuses.length
        let bad := (l.filter fun x => x.2).length
        let s := fuseLow (forEach l (fun x => fuseEntry x.1 x.2) s)
        .ret [(1, l.length - bad), (1, bad), (2, s.get R.FUSE_LEFT.FREE)] s) s)

/-- REPAIR_RETIRE (R564). (DEDUCED, assumption 195) -/
def execRepairRetire (mb entry : Nat) (vfuse : Bool) (s : State) : Out :=
  .next (talnum mb 0x0807 [(2, entry)]
    (checks [(decide (285 ≤ entry), stBadArg), (decide (s.mode = mTest), stDenied),
        (!vfuse || s.freeFuses == [], stNoResource)]
      fun s => .ok (fuseLow (s.modTest fun t => { t with
        fuse := put t.fuse entry { at' t.fuse entry RepairEnt.blank with retired := true } }))) s)

end Sys2Proof.Machine
end

