-- ==== Sys2Proof/Machine/Mailbox.lean ====
section
/-! DEFINITION. The mailbox protocol: frames posted on the four paths, taken, completed, timed out and aborted
(R501–R510). -/

namespace Sys2Proof.Machine

/-! ## Aborts -/

/-- The wait of command `n`, if it still can be stopped before its commit point (R507). -/
def cancelWait (n : Nat) (args : List Nat) (s : State) : Option State :=
  let regions := fun p : CtxR → Bool => (List.range 128).find? fun r => p (s.ctxR r)
  let host := fun c : CtxR => match c.host with | some h => h.1 == n | none => false
  match regions host with
  | some r => some (s.modCtx r fun c => { c with host := none })
  | none =>
  match regions fun c => c.capReq == some n with
  | some r => some (s.modCtx r fun c => { c with capReq := none })
  | none =>
  if (match s.cfg.load with | some l => l.serial == n | none => false) && !s.loadCommitted then
    some (endLoadWith stShort true true s)
  else if s.integ.asks.any fun a => a.1 == n then
    some (s.modInteg fun i => { i with asks := i.asks.filter fun a => a.1 != n })
  else
  match s.integ.repair.filter fun x => x.serial == n with
  | some x =>
    let t := yieldRepair s
    some (t.modInteg fun i => { i with asks := i.asks.filter fun a => a.1 != x.serial })
  | none =>
  match (List.range 96).find? fun l => match (s.lst l).eye with | some e => e.serial == n | none => false with
  | some l => some (s.modLane l fun b => { b with eye := none })
  | none =>
  if (s.running 0x0103).contains n && s.aon.quiesceReq.isSome then
    let t := numAt args 1 6
    let h := (List.range 256).find? fun h => (s.sched h).st == 1 && (s.sched h).action == 2 && (s.sched h).tick == t
    let s := clearWake (s.modAon fun a => { a with quiesceReq := none })
    some (match h with | some h => if t = 0 then s else s.setSched h ⟨0, 0, 0, 0, 0⟩ | none => s)
  else none

/-- The command of mailbox `m` gets the outcome `CANCELLED`. (DEDUCED, assumption 160) -/
def cancelCmd (m : Nat) (s : State) : State :=
  s.modMbox m fun b => { b with stage := 2, outcome := some ⟨stCancelled, false, []⟩ }

/-- An abort request reaches mailbox `m` (R507). (DEDUCED, assumption 160) -/
def abortMbox (m : Nat) (s : State) : State :=
  let b := s.mbox m
  match s.mbState m with
  | 1 => s.modMbox m fun b => { b with abortReq := true }
  | 2 =>
    if !s.mgt.running ∨ b.stage = 3 then s
    else if b.stage = 1 then cancelCmd m s
    else match b.outcome with
      | some _ => if readOnlyCodes.contains b.cmd then cancelCmd m s else s
      | none =>
        if !b.started then cancelCmd m s
        else if b.committed then s
        else match cancelWait b.serial b.args s with
          | some s => cancelCmd m s
          | none => s
  | _ => s

/-- 1 written to `ABORT`: the request acts, and the field reads 1 until the command's completion; a second 1 is ignored (R5, R9,
R507). -/
def requestAbort (m : Nat) (s : State) : State :=
  if s.flag (R.MB_CTL.ABORT m) then s
  else applyIf (s.mbState m == 1 || s.mbState m == 2) (fun s => s.set (R.MB_CTL.ABORT m) 1) (abortMbox m s)

/-- MB_CTL_ABORT. (DEDUCED, assumptions 160, 161) -/
def execMbCtlAbort (m : Fin 16) (s : State) : Out :=
  if s.fcbOn then .next (flushSent (requestAbort m s)) else .next s

/-! ## Posting -/

/-- `GO` on a path of the immediate window: an Idle mailbox that no other path holds is posted, and any other `GO` sets
`COLLIDE` (R501, R504). (DEDUCED, assumption 159) -/
def goMbox (m path : Nat) (s : State) : State :=
  if s.mbFree m path 0 0 then postFrame m path 0 0 (s.mbox m).frame s else s.set (R.MB_CTL.COLLIDE m) 1

/-- MB_CTL_GO on the FCB. (DEDUCED, assumptions 159, 161) -/
def execMbCtlGo (m : Fin 16) (s : State) : Out := if s.fcbOn then .next (goMbox m 0 s) else .next s

/-- A write of 1 to `DONE` (R501). -/
def clearDone (m : Nat) (s : State) : State :=
  if s.mbState m = 3 then (s.set (R.MB_CTL.STATE m) 0).set (R.MB_CTL.DONE m) 0 else s

/-- MB_CTL_DONE_CLEAR. -/
def execMbCtlDoneClear (m : Fin 16) (s : State) : Out := if s.fcbOn then .next (clearDone m s) else .next s

/-- A write of 1 to `EVT_POP` (R508). -/
def popEvent (m : Nat) (s : State) : State := s.setQueue m ((s.mbox m).queue.drop 1)

/-- MB_CTL_EVT_POP. -/
def execMbCtlEvtPop (m : Fin 16) (s : State) : Out := if s.fcbOn then .next (popEvent m s) else .next s

/-- A message frame asks to post a command frame (R504). The recovery service takes none (R491). (DEDUCED, assumption
162) -/
def postMsg (m path a b : Nat) (frame : List Nat) (s : State) : State :=
  if !s.mgt.running ∨ s.mgt.recovery then s
  else if s.mbFree m path a b then postFrame m path a b frame s
  else flushSent (refuseFrame m path a b (frTag frame) s)

/-- MGMT_FRAME_RX: a frame with a good CRC reaches its mailbox; kinds 02h and 03h ask nothing of the device (R395,
R504). (DEDUCED, assumption 163) -/
def execMgmtFrameRx (l : Fin 96) (bytes : List Nat) (s : State) : Out :=
  let f := s.bundleOf l
  let n := bytes.length - 4
  let m := bytes.getD 0 0
  if !s.streamOpen f || !s.flag (R.LINK_CFG.MGMT_EN f) then .next s
  else if bytes.length < 4 ∨ bytes.getD 1 0 ≠ n ∨ numAt bytes (n + 2) 2 ≠ crc16 (bytes.take (n + 2)) then
    .next (s.inc (R.LINK_STAT.MGMT_ERR f))
  else if 16 ≤ m then .next s
  else match bytes.getD 2 0 with
    | 1 => .next (postMsg m 2 f 0 (bytesAt bytes 3 (n - 1)) s)
    | 4 => .next (flushSent (abortMbox m s))
    | _ => .next s

/-- MAILBOX_MSG_PACKET: a `MSG` to endpoint 0A0h (R504). (DEDUCED, assumption 163) -/
def execMailboxMsgPacket (p : Pkt) (s : State) : Out :=
  if !s.up || s.rxHead 0xA0 != some p then .next s
  else
    let s := popRx 0xA0 s
    let m := p.off % 16
    if p.typ ≠ 5 then .next (answerPkt p 1 0 [] false s)
    else if p.off < 16 ∧ p.data.length = 128 then .next (postMsg m 3 p.srcDev p.srcEp p.data s)
    else if 16 ≤ p.off ∧ p.off < 32 then .next (flushSent (abortMbox m s))
    else .next (logNoc p 2 0 s)

/-! ## Taking -/

/-- Mailboxes that firmware may take: the recovery service takes mailbox 0, posted on the FCB or the test access port
(R491). (DEDUCED, assumption 162) -/
def State.takable (s : State) : List Nat :=
  (List.range 16).filter fun m =>
    s.mbState m == 1 && (!s.mgt.recovery || (m == 0 && decide ((s.mbox m).path < 2)))

/-- A frame breaks the sequence of R503; `mid` = a command is in progress in the mailbox. -/
def badFrame (b : Mbox) (mid : Bool) (f : List Nat) : Bool :=
  let same := frCmd f == b.cmd && frTag f == b.tag
  let collecting := mid && b.rest == []
  let have_ := if collecting then b.args.length else 0
  let total := if collecting then b.total else frAtotal f
  decide (120 < frAlen f) || decide (8192 < frAtotal f) || (mid && !same)
    || (if frCont f then !mid || b.rest == []
        else decide (total < have_ + frAlen f) || (!frMore f && decide (have_ + frAlen f < total)))

/-- Firmware takes the frame of mailbox `m` (R501, R503). -/
def takeFrame (m : Nat) (s : State) : State :=
  let b := s.mbox m
  let f := b.frame
  let mid := b.serial != 0
  let new := !mid || (b.rest != [] && !frCont f)
  let n := s.mgt.nextSerial
  let s := s.set (R.MB_CTL.STATE m) 2
  let b := { b with committed := false, started := false, outcome := none }
  if b.abortReq then cancelCmd m (s.setMbox m { b with tag := frTag f })
  else if badFrame b mid f then
    s.setMbox m { b with tag := frTag f, stage := 2, outcome := some ⟨stBadFrame, false, []⟩ }
  else if frCont f then s.setMbox m { b with stage := 3 }
  else
    let s := applyIf new (fun s => s.modMgt fun g => { g with nextSerial := n + 1 }) s
    s.setMbox m { b with
      cmd := frCmd f, tag := frTag f, rest := [], stage := if frMore f then 1 else 2
      serial := if new then n else b.serial
      total := if new then frAtotal f else b.total
      args := (if new then [] else b.args) ++ bytesAt f 8 (frAlen f) }

/-- MAILBOX_TAKE: Posted mailboxes are taken in the order in which they were posted (R505). -/
def execMailboxTake (m : Fin 16) (s : State) : Out :=
  let q := (s.mbox m).postSeq
  if s.up && s.mgt.running && s.takable.contains m && s.takable.all (fun k => decide (q ≤ (s.mbox k).postSeq)) then
    .next (flushSent (takeFrame m s))
  else .next s

/-! ## Completing -/

/-- The frame that mailbox `m` holds has something to be answered with. -/
def State.answerReady (s : State) (m : Nat) : Bool :=
  let b := s.mbox m
  s.up && s.mgt.running && s.mbState m == 2 && (b.stage == 1 || b.stage == 3 || (b.stage == 2 && b.outcome.isSome))

/-- A completion with up to 112 result bytes; what is left waits for `CONT` frames, and the last one ends the command
(R503). -/
def writeResult (m status : Nat) (late : Bool) (result : List Nat) (total : Nat) (s : State) : State :=
  let b := s.mbox m
  let rest := result.drop 112
  let s := writeComp m (compBytes status b.tag (rest != []) false late false total s.clk.tick (result.take 112)) s
  if rest = [] then freeMbox m s
  else s.modMbox m fun b => { b with stage := 0, started := false, outcome := none, rest := rest, restTotal := total }

/-- Firmware writes the completion frame of mailbox `m` (R503). (DESIGN CHOICE, assumption 13) -/
def completeMbox (m : Nat) (late : Bool) (s : State) : State :=
  let b := s.mbox m
  match b.stage, b.outcome with
  | 1, _ => (writeComp m (compBytes stOk b.tag false true late false 0 s.clk.tick []) s).modMbox m fun b => { b with stage := 0 }
  | 2, some o => writeResult m o.status (late || o.late) o.result o.result.length s
  | 3, _ => writeResult m stOk late b.rest b.restTotal s
  | _, _ => s

/-- MAILBOX_COMPLETE; a restart or a shutdown that waited for this answer follows it (R54). (DEDUCED, assumption 22) -/
def execMailboxComplete (m : Fin 16) (s : State) : Out :=
  if s.answerReady m then .next (leaveDue (flushSent (completeMbox m false s))) else .next s

/-- The timeout of mailbox `m` expires: `TIMEOUT` with `MBTO`, and the outcome of an operation that started goes out as
`CMD_ORPHAN` (R506). (DEDUCED, assumption 165) -/
def timeoutMbox (m : Nat) (s : State) : State :=
  let b := s.mbox m
  let s := writeComp m (compBytes stTimeout (frTag b.frame) false false false true 0 s.clk.tick []) s
  let s := freeMbox m s
  if !b.started then s
  else match b.outcome with
    | some o => raise 0x0003 [(2, b.cmd), (1, b.tag), (2, o.status)] s
    | none => s.modMgt fun g => { g with orphans := g.orphans ++ [⟨b.serial, b.cmd, b.tag⟩] }

/-- MAILBOX_TIMEOUT: a completion at the same edge wins, with `LATE` (R506, R93). (DEDUCED, assumptions 22, 165) -/
def execMailboxTimeout (m : Fin 16) (doneAtEdge : Bool) (s : State) : Out :=
  let st := s.mbState m
  if !s.up ∨ (st ≠ 1 ∧ st ≠ 2) ∨ (s.mbox m).timeoutMs = 0 then .next s
  else if doneAtEdge ∧ s.answerReady m then .next (leaveDue (flushSent (completeMbox m true s)))
  else .next (leaveDue (flushSent (timeoutMbox m s)))

/-! ## Milliner -/

/-- Firmware copy `k` (R491). (DESIGN CHOICE, assumption 17) -/
def State.fwCopy (s : State) (k : Nat) : FwCopy := at' s.mgt.fw k ⟨false, 0, 0, []⟩

/-- The copy that the boot ROM runs (R491). (DESIGN CHOICE, assumption 17) -/
def State.fwPick (s : State) : Option Nat :=
  let a := s.fwCopy 0
  let b := s.fwCopy 1
  if a.valid ∧ (!b.valid ∨ b.version ≤ a.version) then some 0 else if b.valid then some 1 else none

/-- MILLINER_START (R491, R493): `cause` 0 Boot, 1 function reset, 2 watchdog. (DEDUCED, assumptions 29, 167) -/
def execMillinerStart (cause : Fin 3) (s : State) : Out :=
  if !s.up || s.mgt.startDue != some cause.val || s.held 0xC0 || s.mgt.lockstop then .next s
  else
    let s := s.set R.WDOG_STAT.PERIOD_MS 1000
    let s := if cause.val = 0 then s.set R.WDOG_STAT.RESTARTS 0 else s.inc R.WDOG_STAT.RESTARTS
    match s.fwPick with
    | none => .next (s.modMgt fun g => { g with running := true, recovery := true, startDue := none })
    | some k =>
      let s := s.modMgt fun g => { g with running := true, recovery := false, startDue := none, copy := k }
      .next (flushSent (raise 0x0002 [(1, cause)] s))

/-- Safe is entered from any mode, Test included. (DEDUCED, assumption 168) -/
def safeNow (c : Nat) (s : State) : State := enterSafe c (applyIf (decide (s.mode = mTest)) cutTest s)

/-- WATCHDOG_EXPIRY (R493). (DEDUCED, assumption 168) -/
def execWatchdogExpiry (s : State) : Out :=
  if !s.up || s.mgt.lockstop then .next s
  else
    let due := if s.held 0xC0 then none else some 2
    .next (millinerReset due (safeNow 7 (s.set R.WDOG_STAT.EXPIRED 1)))

/-- LOCKSTEP_MISMATCH (R492). (DEDUCED, assumption 168) -/
def execLockstepMismatch (s : State) : Out :=
  if !s.up || s.mgt.lockstop || s.held 0xC0 then .next s
  else
    let s := millinerReset none (safeNow 8 (s.set R.WDOG_STAT.LOCKSTEP 1))
    .next (s.modMgt fun g => { g with lockstop := true })

end Sys2Proof.Machine
end

