-- ==== Sys2Proof/Machine/Ident.lean ====
section
/-! DEFINITION. The identity and control commands of group 00h, and codes that are not assigned (R512–R514). -/

namespace Sys2Proof.Machine

/-- Code `c` is assigned (Table 17-17). (DEDUCED, assumption 166) -/
def assignedCode (c : Nat) : Bool :=
  let k := c % 256
  let to_ := fun a b : Nat => decide (a ≤ k) && decide (k ≤ b)
  match c / 256 with
  | 0 => to_ 0 8
  | 2 => to_ 0 9 || to_ 0x20 0x26
  | 3 => to_ 0 9 || to_ 0x10 0x17 || to_ 0x80 0x82
  | 4 => to_ 0 9 || to_ 0x10 0x15
  | 5 => to_ 0 6 || to_ 0x10 0x13
  | 6 => to_ 0 9
  | 7 => to_ 0 6
  | 1 | 8 | 9 | 10 => to_ 0 7
  | 11 => to_ 0 5
  | 12 => to_ 0 3
  | _ => false

/-- UNKNOWN_COMMAND (R512). (DEDUCED, assumption 166) -/
def execUnknownCommand (mb : Nat) (s : State) : Out :=
  let c := (s.mbox mb).cmd
  if s.cmdDue mb c && !assignedCode c then .next (setOutcome mb ⟨stBadCmd, false, []⟩ s) else .next s

/-- `DEV_TYPE` (Table 17-3). (DESIGN CHOICE, assumption 16) -/
def State.devType (s : State) : Nat :=
  0x4B39 + 2 ^ 16 * (s.aon.revision % 16) + (if s.aon.fastGrade then 2 ^ 20 else 0) + (if s.aon.tempI then 2 ^ 21 else 0)
    + if s.aon.keyB then 2 ^ 22 else 0

/-- Firmware copy that runs; FFh while the recovery service does. -/
def State.fwRunning (s : State) : Nat := if s.mgt.recovery then 0xFF else s.mgt.copy

/-- ID_GET. (DEDUCED, assumption 169) -/
def execIdGet (mb : Nat) (s : State) : Out :=
  .next (talnum mb 0x0000 [] (fun s =>
    .ret [(4, s.devType), (16, s.aon.serial), (3, s.devId), (4, s.get R.CFG_ID.IMAGE_ID), (1, s.fwRunning),
      (4, if s.mgt.recovery then 0 else (s.fwCopy s.mgt.copy).version)] s) s)

/-- FW_INFO. (DEDUCED, assumption 169) -/
def execFwInfo (mb : Nat) (s : State) : Out :=
  .next (talnum mb 0x0001 [] (fun s =>
    .ret (((List.range 2).flatMap fun k =>
      let c := s.fwCopy k
      [(1, if c.valid then 1 else 0), (4, c.version), (4, c.length)]) ++ [(1, s.fwRunning)]) s) s)

/-- FW_WRITE: the copy becomes invalid before its bytes change (R514). -/
def execFwWrite (mb copy off : Nat) (bytes : List Nat) (s : State) : Out :=
  .next (talnumBytes mb 0x0002 [(1, copy), (4, off)] bytes
    (checks [(decide (2 ≤ copy) || decide (4096 < bytes.length) || decide (2 ^ 20 < off + bytes.length), stBadArg),
        (copy == s.fwRunning, stDenied)]
      fun s =>
        let c := s.fwCopy copy
        let bs := (List.range bytes.length).foldl (fun m i => put m (off + i) (bytes.getD i 0)) c.bytes
        .ok (s.modMgt fun g => { g with fw := put g.fw copy { c with valid := false, bytes := bs } })) s)

/-- FW_COMMIT: the signature is verified, and the copy runs from the next Milliner start (R514). (DEDUCED, assumption
169; DESIGN CHOICE, assumption 170) -/
def execFwCommit (mb copy : Nat) (s : State) : Out :=
  .next (talnum mb 0x0003 [(1, copy)]
    (checks [(decide (2 ≤ copy), stBadArg)] fun s =>
      let c := s.fwCopy copy
      if c.valid then .ret [(4, c.version)] s
      else
        let v := Config.firmware c.bytes
        if v = 0 then .fail stAuthFail s
        else
          let n := (c.bytes.map fun e => e.1 + 1).foldl max 0
          .ret [(4, v - 1)] (s.modMgt fun g => { g with
            fw := put g.fw copy { c with valid := true, version := (v - 1) % 2 ^ 32, length := n } })) s)

/-- Bits of functions `[first, first + count)` of the unlock words become `b`; the answer is the words (R500). (DEDUCED,
assumption 171) -/
def setUnlocks (first count : Nat) (b : Bool) (s : State) : Ans :=
  let s := forEach ((List.range count).map (first + ·)) (fun f s => s.setBit (R.EXP_UNLK.UNLK (f / 32)) (f % 32) b) s
  .ret ((List.range 8).map fun i => (4, s.get (R.EXP_UNLK.UNLK i))) s

/-- A range of functions that is none. (DEDUCED, assumption 171) -/
def badRange (first count : Nat) : Bool := count == 0 || decide (256 < first + count)

/-- EXPERT_UNLOCK (R500, R513). (DEDUCED, assumption 171) -/
def execExpertUnlock (mb first count : Nat) (s : State) : Out :=
  .next (talnum mb 0x0004 [(1, first), (2, count)]
    (checks [(badRange first count, stBadArg), (!s.flag R.SEC_PROT.EXPERT_OK, stDenied),
        (s.test.busy.any fun k => decide (first ≤ busyFunc k) && decide (busyFunc k < first + count), stBusyTest)]
      (setUnlocks first count true)) s)

/-- EXPERT_LOCK (R500). -/
def execExpertLock (mb first count : Nat) (s : State) : Out :=
  .next (talnum mb 0x0005 [(1, first), (2, count)]
    (checks [(badRange first count, stBadArg)] (setUnlocks first count false)) s)

/-- FUNC_RESET (R513). -/
def execFuncReset (mb func action : Nat) (s : State) : Out :=
  .next (talnum mb 0x0006 [(1, func), (1, action)]
    (checks [(decide (3 ≤ action) || !funcAssigned func, stBadArg), (func == 0xC0, stDenied)] fun s =>
      .ok (match action with | 2 => pulseFunc func s | a => setFunc func (a == 1) s)) s)

/-- EVENT_CFG: the mask of a mailbox, and the path of this command as its event path; queued records leave on a push
path (R508, R509, Table 17-11). (DEDUCED, assumption 172) -/
def execEventCfg (mb box mask : Nat) (s : State) : Out :=
  .next (talnum mb 0x0007 [(1, box), (2, mask)]
    (checks [(decide (16 ≤ box), stBadArg)] fun s =>
      let from_ := s.mbox mb
      let old := s.mbox box
      let s := (s.setMbox box { old with mask := mask, evtPath := from_.path, evtA := from_.srcA, evtB := from_.srcB }).set
        (R.MB_CTL.EVT_LOST box) 0
      let s := if from_.path < 2 then s
        else (forEach old.queue (fun e s => s.send ⟨from_.path, from_.srcA, from_.srcB, box, 3, e.bytes⟩) s).setQueue box []
      .ret [(2, old.mask)] s) s)

/-- MB_CONFIG (R506). -/
def execMbConfig (mb box timeout : Nat) (s : State) : Out :=
  .next (talnum mb 0x0008 [(1, box), (2, timeout)]
    (checks [(decide (16 ≤ box) || decide (60000 < timeout), stBadArg)] fun s =>
      .ok (s.modMbox box fun b => { b with timeoutMs := timeout })) s)

end Sys2Proof.Machine
end

