-- ==== Sys2Proof/Machine/Regs.lean ====
section
/-! DEFINITION. Register accesses on the management bus: the immediate window, the mailbox data windows, the expert windows
and the test access port (R494–R500, R518, R519). -/

namespace Sys2Proof.Machine

/-! ## Reads -/

/-- Some `SRC_LOST` or `SW_DEAD` is set (Table 5-13). -/
def State.clkAny (s : State) : Bool :=
  (List.range 2048).any fun n => s.flag (R.RCN_CFG.SRC_LOST n) || s.flag (R.RCN_CFG.SW_DEAD n)

/-- Bits of `INT_SUM` (Table 17-6, R543). -/
def State.intBits (s : State) : List Bool :=
  let lanes := List.range 96
  let f := s.flag
  [f R.DEV_MODE.MODE_CHG && f R.DEV_MODE.MODE_IE,
   (f R.CLK_LOST.LOST && f R.CLK_LOST.LOST_IE)
     || (f R.MCLK_STAT.MCLK_IE && (f R.MCLK_STAT.LOSS || f R.MCLK_STAT.RELOCK || f R.MCLK_STAT.STEP)),
   (f R.FAB_CTL.CLK_IE && s.clkAny) || (f R.PIL_STAT.PIL_IE && f R.PIL_STAT.PIL_CONT),
   (List.range 128).any fun r => f (R.CTX_STAT.NACK r) && f (R.CTX_CFG.SWAP_IE r),
   lanes.any fun l => f (R.LANE_CFG.LANE_IE l)
     && (f (R.LANE_STAT.DOWN l) || f (R.LANE_STAT.FL_SLIP l) || f (R.LANE_STAT.LATE l)),
   lanes.any fun l => f (R.LINK_CFG.LINK_IE l)
     && (f (R.LINK_STAT.TICK_MIS l) || f (R.LINK_STAT.BLOCKED l) || f (R.LINK_STAT.SKEW_ERR l)),
   f R.CFG_CTL.CFG_IE && s.cfg.statChanged,
   f R.LOG_STAT.NEW && f R.POUNCE_CTL.LOG_IE,
   f R.SEC_STAT.SEC_IE && (f R.SEC_STAT.TAMPERED || f R.SEC_STAT.PLUME_CUT),
   (List.range 16).any fun m => (f (R.MB_CTL.DONE m) && f (R.MB_CTL.IE_DONE m)) || (f (R.MB_CTL.EVT m) && f (R.MB_CTL.IE_EVT m)),
   (f R.THERM_CFG.THERM_IE && (f R.THERM_STAT.THERM_REQ || f R.THERM_STAT.TRIP || f R.THERM_STAT.SENS_FAIL || f R.THERM_STAT.SENS_LOST))
     || (f R.VERT_STAT.VERT_IE && f R.VERT_STAT.VERT_NEW),
   f R.TEST_STAT.TEST_IE && f R.TEST_STAT.SLICE_DONE]

/-- A list of bits as a number, bit 0 first. -/
def ofBits (l : List Bool) : Nat := l.foldr (fun b v => (if b then 1 else 0) + 2 * v) 0

/-- `INT_SUM`. (DEDUCED, assumption 14) -/
def State.intSum (s : State) : Nat := ofBits s.intBits

/-- `FCB_INT_N` is low (R498). -/
def State.intLow (s : State) : Bool := s.intSum != 0

/-- `XING_OVR` (R92): the `OVERRUN` flags of the crossings of each group, those that a card shows among them, and whether
any `LATE` flag is set. (DEDUCED, assumptions 14, 211) -/
def State.xingOvr (s : State) : Nat :=
  let ovr := fun x => (s.clk.xing.any fun e => xingGroup e.1 == x && e.2.overrun)
    || (x == 2 && (List.range 256).any fun b => s.flag (R.SPILL_STAT.OVERRUN b)) || (x == 7 && s.flag R.CFG_STAT.OVERRUN)
  ofBits ((List.range 9).map ovr ++ [s.clk.xing.any fun e => e.2.late])

/-- `STAT_THERM_N` is low (R543). -/
def State.statThermLow (s : State) : Bool :=
  decide (s.get R.THERM_STAT.STATE ≠ 0) || (decide (s.get R.DEV_MODE.SAFE_CAUSE = 3) && decide (s.mode = mSafe))

/-- `STAT_SAFE` is high in Safe (R44). -/
def State.statSafe (s : State) : Bool := decide (s.mode = mSafe)

/-- `WIRE_FROZEN`: local clock wires of a region that an image drives are frozen, with the stop gate of its RCN0 (R159, R160).
One bit stands for all regions. (DESIGN CHOICE, assumption 227) -/
def State.wireFrozen (s : State) : Bool :=
  (List.range 128).any fun r => s.hasActive r && !(s.gate (16 * r)).isOpen

/-- The register that holds address `a`, of the immediate window or of window `w` at `w` × 2^20, as a read returns it:
the stored fields, and what the hardware shows in the others. (DEDUCED, assumption 14; DESIGN CHOICE, assumption 15) -/
def State.readCard (s : State) (a : Nat) : Nat :=
  let v := s.cardWord a
  if a = 0x0 then s.devType
  else if a = 0x30 then s.intSum
  else if a = 0x54 then s.xingOvr
  else if 0x200 ≤ a ∧ a < 0x240 then v + if (s.mbox ((a - 0x200) / 4)).abortReq then 2 ^ 4 else 0
  else if 0x100 ≤ a ∧ a < 0x140 then s.plumeWord ((a - 0x100) / 4)
  else if a = 0x102000 then v + (if s.wireFrozen then 2 else 0) + if s.clkAny then 8 else 0
  else if a < 0x500000 then v
  else if a < 0x5000C0 then s.segCfg ((a - 0x500000) / 4)
  else if 0x500100 ≤ a ∧ a < 0x500108 then s.bulkStat ((a - 0x500100) / 4)
  else if 0x900000 ≤ a ∧ a < 0x901000 then v + if s.niEn ((a - 0x900000) / 4) then 2 ^ 25 else 0
  else if 0x903400 ≤ a ∧ a < 0x903680 then
    let n := (a - 0x903400) / 4
    v + s.penAct n + 2 ^ 6 * s.vc2Act n + 2 ^ 12 * s.rtrState n
  else if a = 0xD00004 then s.pounceStat
  else v

/-- The 32-bit word at address `a`; 0 where no card lies (R495). -/
def State.readWord (s : State) (a : Nat) : Nat :=
  match cardAt a with
  | some (_, k) => s.readCard a / 2 ^ (32 * k) % 2 ^ 32
  | none => 0

/-- Register address that bus address `a` of the expert page reaches (R499); none where the page shows no window. -/
def State.pageAddr (s : State) (a : Nat) : Option Nat :=
  let w := s.get R.EXP_PAGE.WINDOW
  if w = 0 ∨ 13 < w then none else some (w * 2 ^ 20 + s.get R.EXP_PAGE.BASE * 4096 + (a - 0x2000))

/-- The bus answers in Standby: VANA, which supplies the FCB bank, is present, and VAON with it (R37). -/
def State.busSupplied (s : State) : Bool := decide (s.mode ≠ mOff) && s.bit R.PWR_STAT.RAIL_OK 7

/-- A read on the management bus: its data, and what it does (R37, R79, R495, R499, R501, R508). -/
def readBus (a0 : Nat) (s : State) : Nat × State :=
  let a := a0 / 4 * 4
  if !s.up then (if (a = 0x4 ∨ a = 0x8) ∧ s.busSupplied then s.readWord a else 0, s)
  else if a = 0x40 then
    let s := (((s.set R.TICK_LO.TICK_L s.clk.tick).set R.TICK_HI.TICK_H (s.clk.tick / 2 ^ 32)).setB
      R.TICK_HI.SNAP_HOLD s.hold).setB R.TICK_HI.VALID s.clk.running
    (s.readWord a, s)
  else if 0x400 ≤ a ∧ a < 0x600 then
    (match (s.mbox ((a - 0x400) / 32)).queue with
      | e :: _ => numAt e.bytes (a % 32) 4
      | [] => 0, s)
  else if a < 0x1000 then (s.readWord a, s)
  else if a < 0x2000 then
    let b := s.mbox ((a - 0x1000) / 256)
    let o := a % 256
    (if o < 128 then numAt b.frame o 4 else numAt b.comp (o - 128) 4, s)
  else match s.pageAddr a with
    | some x => (s.readWord x, s)
    | none => (0, s.set R.EXP_STAT.BAD_WIN 1)

/-! ## Writes -/

/-- A write of value `v` with bit `i` cleared. -/
def dropBit (v i : Nat) : Nat := if v.testBit i then v - 2 ^ i else v

/-- The value with the bits of field `f` as they stand. -/
def State.keepField (s : State) (f : Fld) (v : Nat) : Nat := v - fieldOf f v * 2 ^ f.lsb + s.get f * 2 ^ f.lsb

/-- A write of `MB_CTL[m]` on a path: `GO` and `ABORT` are judged against the state before the write (R501, R507).
(DEDUCED, assumption 173) -/
def writeMbCtl (m path v : Nat) (s : State) : State :=
  let idle := s.mbState m = 0
  let s := applyIf (v.testBit 4) (requestAbort m) s
  let s := writeFields (fieldsAt (0x200 + 4 * m)) (dropBit v 3) s
  let s := applyIf (v.testBit 3) (clearDone m) s
  let s := applyIf (v.testBit 6) (popEvent m) s
  let s := applyIf (v.testBit 2) (fun s => if idle then goMbox m path s else s.set (R.MB_CTL.COLLIDE m) 1) s
  flushSent s

/-- A write of a counted status card: clearing `COR` or `UNC` clears its count too. -/
def writeCounted (a v : Nat) (cor unc : Fld × Nat) (s : State) : State :=
  let s := writeFields (fieldsAt a) v s
  let s := applyIf (v.testBit cor.2) (fun s => s.set cor.1 0) s
  applyIf (v.testBit unc.2) (fun s => s.set unc.1 0) s

/-- A write of a register of the immediate window, below 1000h (R5, R8, R465, R469, R497). (DEDUCED, assumption 176) -/
def writeImm (path a v : Nat) (s : State) : State :=
  let plain := fun v => writeFields (fieldsAt a) v
  if a = 0x4 then applyIf (v.testBit 26) writeWake (plain v s)
  else if a = 0xC then
    if bitsOf v 8 8 ≠ 0xA5 then s
    else if v.testBit 0 then restart s
    else applyIf (v.testBit 1 && (s.safeFrom || decide (s.mode = mSafe))) (enterSafe 1) s
  else if 0x10 ≤ a ∧ a < 0x30 then writeRst ((a - 0x10) / 4) v s
  else if a = 0x60 then s
  else if a = 0x64 then plain (if s.flag R.SEC_STAT.TAMPER_NOW then dropBit v 1 else v) s
  else if 0x100 ≤ a ∧ a < 0x140 then writePlume ((a - 0x100) / 4) v s
  else if 0x200 ≤ a ∧ a < 0x240 then writeMbCtl ((a - 0x200) / 4) path v s
  else if a = 0x700 then writeThermCfg v s
  else plain v s

/-- A write of a register of windows 01h–06h at its full address. (DEDUCED, assumption 176) -/
def writeLow (a v : Nat) (s : State) : State :=
  let plain := fun v => writeFields (fieldsAt a) v
  let k := a % 0x400 / 4
  if 0x200000 ≤ a ∧ a < 0x20C000 then
    let m := (a - 0x200000) / 4
    applyIf (v.testBit 7) (writeBmClr m) (writeCounted a v (R.BM_STAT.COR_CNT m, 8) (R.BM_STAT.UNC_CNT m, 9) s)
  else if 0x301000 ≤ a ∧ a < 0x301400 then writeSwapTgt (k / 16) (k % 16) v s
  else if 0x301400 ≤ a ∧ a < 0x301440 then
    plain (if s.flag (R.SWAP_CTL.ARMED k) then s.keepField (R.SWAP_CTL.ATOMIC k) v else v) s
  else if 0x400400 ≤ a ∧ a < 0x400800 then applyIf (v.testBit 22) (startHandover k) (plain v s)
  else if 0x400800 ≤ a ∧ a < 0x400C00 then
    applyIf (v.testBit 5) (bankClr k) (writeCounted a v (R.BANK_STAT.COR_CNT k, 0) (R.BANK_STAT.UNC_CNT k, 1) s)
  else if 0x500000 ≤ a ∧ a < 0x5000C0 then
    applyIf (v.testBit 6) (writeSegClr k) (writeCounted a v (R.SEG_CFG.COR_CNT k, 10) (R.SEG_CFG.UNC_CNT k, 11) s)
  else if a = 0x600000 then applyIf (v.testBit 3) splitRun (plain v s)
  else plain v s

/-- A write of a register of windows 07h–0Dh at its full address (R108, R122, R126, R347, R426). (DEDUCED, assumption
176) -/
def writeHigh (a v : Nat) (s : State) : State :=
  let plain := fun v => writeFields (fieldsAt a) v
  let l := a % 0x200 / 4
  if 0x700000 ≤ a ∧ a < 0x700200 then
    plain (if bitsOf v 11 2 = 3 then s.keepField (R.LANE_CFG.ADAPT l) v else v) s
  else if 0x700400 ≤ a ∧ a < 0x700600 then
    plain (if s.get (R.LANE_CFG.ADAPT l) = 2 then v else s.keepField (R.LANE_EQ.CTLE l) v) s
  else if 0x700600 ≤ a ∧ a < 0x700C00 then if s.get (R.LANE_CFG.ADAPT ((a - 0x700600) / 16)) = 2 then plain v s else s
  else if 0x700C00 ≤ a ∧ a < 0x700E00 then (plain v s).modLane l fun b => { b with flSet := true }
  else if 0x800000 ≤ a ∧ a < 0x800200 then
    plain (if bitsOf v 16 16 = 0 then s.keepField (R.LINK_CFG.ACK_TO l) v else v) s
  else if a = 0x801100 then plain (if bitsOf v 7 9 = 0 then s.keepField R.TWIN_STAT.PAIR_TO v else v) s
  else if a = 0x902000 then applyIf (v.testBit 23) rtAccess (plain v s)
  else if 0x903000 ≤ a ∧ a < 0x903280 then
    let n := (a - 0x903000) / 4
    let s := plain v s
    applyIf (v.testBit 12 && s.rtrState n == 0) (startDrain n 0) s
  else if 0xA00000 ≤ a ∧ a < 0xA02000 then applyIf s.pinsOpen (plain v) s
  else if 0xA02000 ≤ a ∧ a < 0xA03800 then writeTdcCfg ((a - 0xA02000) / 4) v s
  else if 0xB00000 ≤ a ∧ a < 0xB00040 then applyIf (!s.held 0xB1) (loadDac (a % 64 / 4) ⟨1, v % 4096, 0⟩) s
  else if a = 0xC00004 then
    let n := v % 2 ^ 14
    let s := plain (if n = 0 ∨ 10000 < n then s.keepField R.CFG_CTL.LOAD_TO v else v) s
    applyIf (!s.flag R.CFG_CTL.CFG_IE) (fun s => s.modCfg fun c => { c with statChanged := false }) s
  else plain v s

/-- A write of value `v` to the register word at full address `a`; an unassigned address takes none (R495). -/
def writeReg (path a v0 : Nat) (s : State) : State :=
  match cardAt a with
  | none => s
  | some (l, k) =>
    let wide := l.any fun f => decide (32 < f.lsb + f.w)
    let old := s.wordOf l
    let v := if !wide then v0
      else if k = 0 then v0 % 2 ^ 32 + old / 2 ^ 32 * 2 ^ 32 else old % 2 ^ 32 + v0 * 2 ^ 32
    if a < 0x1000 then writeImm path a v s else if a < 0x700000 then writeLow a v s else writeHigh a v s

/-! ## Expert windows -/

/-- Functions of which one must be unlocked for a write to the register at `a` (Table 17-7). -/
def expFuncs (a : Nat) : List Nat :=
  let o := a % 2 ^ 20
  let anyOf := fun lo n : Nat => (List.range n).map (lo + ·)
  match a / 2 ^ 20 with
  | 1 => if o < 0x2000 then [o / 64] else if 0x2200 ≤ o ∧ o < 0x2400 then [(o - 0x2200) / 4] else anyOf 0 128
  | 2 => if o < 0xC000 then [o / 384] else [(o - 0xC000) / 20]
  | 3 => if o < 0x600 then [o % 0x200 / 4] else anyOf 0 128
  | 4 =>
    if 0xC00 ≤ o ∧ o < 0xC40 then anyOf 0x98 4
    else if 0x1400 ≤ o then [0x98 + (o - 0x1400) / 4]
    else [0x98 + o % 0x400 / 256]
  | 5 => if o < 0xC0 then [if o < 96 then 0x9C else 0x9D] else [0x9C + (o - 0x100) / 4]
  | 6 => anyOf 0 256
  | 7 =>
    if 0x1400 ≤ o then [0x80 + (o - 0x1400) / 4]
    else if 0x1000 ≤ o then [0x80 + (o - 0x1000) / 32]
    else if 0x600 ≤ o ∧ o < 0xC00 then [0x80 + (o - 0x600) / 64]
    else [0x80 + o % 0x200 / 16]
  | 8 => if o < 0x400 then [0x80 + o % 0x200 / 16] else anyOf 0x80 24
  | 9 =>
    if 0x3000 ≤ o then
      let n := o % 0x400 / 4
      [if n < 128 then 0xA0 + quadOf n else 0xA4]
    else anyOf 0xA0 5
  | 10 => if o < 0x6000 then [0xA8 + o % 0x2000 / 768] else [0xA8 + (o - 0x6000) / 16]
  | 11 => [if o < 0x400 then 0xB1 else 0xB0]
  | 12 => [0xB3]
  | 13 => [0xB2]
  | _ => []

/-- Function `f` is unlocked (R500). -/
def State.unlocked' (s : State) (f : Nat) : Bool := s.bit (R.EXP_UNLK.UNLK (f / 32)) (f % 32)

/-- The list of posted writes, with what `EXP_STAT` shows of it. -/
def setPosted (l : List (Nat × Nat)) (s : State) : State :=
  ((s.modMgt fun g => { g with expWrites := l }).setB R.EXP_STAT.PEND (l != [])).set R.EXP_STAT.PEND_CNT l.length

/-- A write to the expert page is posted (R499). -/
def postExpert (a v : Nat) (s : State) : State :=
  match s.pageAddr a with
  | none => s.set R.EXP_STAT.BAD_WIN 1
  | some x =>
    if 16 ≤ s.mgt.expWrites.length then s.set R.EXP_STAT.WR_DROP 1 else setPosted (s.mgt.expWrites ++ [(x, v)]) s

/-! ## Crossings -/

/-- Function whose domain holds the register at address `a` (Table 17-2, Table 17-7); the registers of the mode controller,
of AON and of Milliner count as management's. (DESIGN CHOICE, assumption 211) -/
def xingFunc (a : Nat) : Nat :=
  if a = 0x60 ∨ a = 0x64 then 0xB3 else if 0x100 ≤ a ∧ a < 0x140 then 0xB2
  else if a < 0x1000 then 0xC0 else (expFuncs a).headD 0xC0

/-- The acknowledge of the handshake into function `f` returns: the write that it holds has reached its register, and the
pending one is sent (R88, R496). -/
def ackXing (f : Nat) (s : State) : State :=
  match (s.xing f).req with
  | none => s
  | some w => writeReg w.path w.addr w.val (s.modXing f Xing.advance)

/-- A write crosses into its register's domain (R496). With `acked`, the handshake has taken all that it holds, and takes
this write, before the next command; else this write stays in the crossing (R88). (DESIGN CHOICE, assumption 211) -/
def crossWrite (acked : Bool) (path a v : Nat) (s : State) : State :=
  let f := xingFunc a
  if acked then writeReg path a v (ackXing f (ackXing f s))
  else if (cardAt a).isNone then s else s.modXing f fun x => x.offer ⟨path, a, v⟩

/-- HANDSHAKE_TIMEOUT: the crossing into function `f` reaches 65,536 source cycles. An acknowledge at that edge completes the
transfer with `LATE`; otherwise the transfer is abandoned, the owner shows the timeout, and a pending value is sent (R89,
R93). (DEDUCED, assumption 42) -/
def execHandshakeTimeout (f : Nat) (ackAtEdge : Bool) (s : State) : Out :=
  if !s.up then .next s
  else if ackAtEdge then .next ((ackXing f s).modXing f fun x => { x with late := true })
  else .next (s.modXing f fun x => { x.advance with timedOut := true })

/-- EXPERT_WRITE_DELIVER: the oldest posted write crosses to its register, or is discarded where no function that owns it
is unlocked (R499). A function that is held in reset acknowledges nothing: the write waits in its crossing, and the posting
queue stalls while the pending slot is full (R88). (DESIGN CHOICE, assumption 211) -/
def execExpertWriteDeliver (s : State) : Out :=
  match s.mgt.expWrites with
  | [] => .next s
  | (a, v) :: l =>
    let acked := !s.held (xingFunc a)
    if !acked && (s.xing (xingFunc a)).pend.isSome then .next s
    else
      let s := setPosted l s
      if (cardAt a).isNone then .next s
      else if (expFuncs a).any s.unlocked' then .next (crossWrite acked 0 a v s)
      else .next (s.set R.EXP_STAT.DENIED 1)

/-! ## The bus -/

/-- A write on the management bus from path 0, the FCB, or 1, the test access port (R495, R496, R501). -/
def writeBus (acked : Bool) (path a0 v : Nat) (s : State) : State :=
  let a := a0 / 4 * 4
  if !s.up then s
  else if a < 0x1000 then crossWrite acked path a v s
  else if a < 0x2000 then
    let m := (a - 0x1000) / 256
    let o := a % 256
    if s.mbState m = 0 ∧ o < 128 then
      s.modMbox m fun b => { b with frame := bytesAt b.frame 0 o ++ leBytes 4 v ++ bytesAt b.frame (o + 4) (124 - o) }
    else s
  else postExpert a v s

/-- REGISTER_WRITE: a write on the FCB (R5, R494–R496). (DEDUCED, assumption 175) -/
def execRegisterWrite (addr : BitVec 16) (w : RegWrite) (s : State) : Out :=
  if s.fcbOn then .next (writeBus w.acked 0 addr.toNat w.val.toNat s) else .next s

/-- EXPERT_WINDOW_WRITE: a write on the FCB to the expert page (R499). (DEDUCED, assumption 175) -/
def execExpertWindowWrite (addr : BitVec 16) (val : BitVec 32) (s : State) : Out :=
  if s.fcbOn ∧ 0x2000 ≤ addr.toNat then .next (postExpert (addr.toNat / 4 * 4) val.toNat s) else .next s

/-! ## The test access port -/

/-- Listed opcodes (Table 17-21); any other acts as `BYPASS` (R518). (DEDUCED, assumption 174) -/
def tapListed (op : Nat) : Bool := decide (op ≤ 6) || op == 0x10

/-- TAP_UPDATE_IR (R518). (DEDUCED, assumption 174) -/
def execTapUpdateIr (opcode : BitVec 8) (s : State) : Out :=
  .next (s.modMgt fun g => { g with tapIr := if tapListed opcode.toNat then opcode.toNat else 0xFF })

/-- The instruction that acts: `FCBACC` acts as `BYPASS` without the full port (R467, R518). -/
def State.tapActs (s : State) : Nat :=
  if s.mgt.tapIr = 0x10 ∧ !s.flag R.SEC_PROT.JTAG_FULL then 0xFF else s.mgt.tapIr

/-- `IDCODE` (Table 17-21). -/
def State.idcode (s : State) : Nat := 2 ^ 28 * (s.aon.revision % 16) + 2 ^ 12 * 0x4B39 + 2 * 0x2A3 + 1

/-- FCBACC_UPDATE: Update-DR performs one access on the FCB address space (R519). (DEDUCED, assumption 174) -/
def execFcbaccUpdate (dr : BitVec 49) (s : State) : Out :=
  if s.tapActs ≠ 0x10 then .next s
  else
    let v := dr.toNat
    let a := v % 65536
    let d := bitsOf v 17 32
    if v.testBit 16 then .next (writeBus true 1 a d s)
    else
      let (r, s) := readBus a s
      .next (s.modMgt fun g => { g with fcbRead := r })

end Sys2Proof.Machine
end

