-- ==== Sys2Proof/Machine/Dispatch.lean ====
section
/-! DEFINITION. The meaning of each row of the opcode table: one arm per constructor, each one direct call. -/

namespace Sys2Proof.Machine

def exec (i : Instr) (s : State) : Host.Outcome State Fault Refusal :=
  match i with
  | .vaonPresent notOff => Sys2Proof.Machine.execVaonPresent notOff s
  | .vaonLost => Sys2Proof.Machine.execVaonLost s
  | .railPresent rail notOff => Sys2Proof.Machine.execRailPresent rail notOff s
  | .supplyFault ev => Sys2Proof.Machine.execSupplyFault ev s
  | .railOff rail notOff => Sys2Proof.Machine.execRailOff rail notOff s
  | .resetNLow short => Sys2Proof.Machine.execResetNLow short s
  | .resetNRise => Sys2Proof.Machine.execResetNRise s
  | .quickCheckEnd execd prog fails => Sys2Proof.Machine.execQuickCheckEnd execd prog fails s
  | .wakeNLow short => Sys2Proof.Machine.execWakeNLow short s
  | .tamperAssert short => Sys2Proof.Machine.execTamperAssert short s
  | .vioPresent g => Sys2Proof.Machine.execVioPresent g s
  | .vioLoss b => Sys2Proof.Machine.execVioLoss b s
  | .vioRestore b => Sys2Proof.Machine.execVioRestore b s
  | .quiescentCommit => Sys2Proof.Machine.execQuiescentCommit s
  | .wakeComplete => Sys2Proof.Machine.execWakeComplete s
  | .pairingTimeout => Sys2Proof.Machine.execPairingTimeout s
  | .mclkMeasure kHz => Sys2Proof.Machine.execMclkMeasure kHz s
  | .mclkLoss => Sys2Proof.Machine.execMclkLoss s
  | .mclkReturn kHz => Sys2Proof.Machine.execMclkReturn kHz s
  | .tickBoundary => Sys2Proof.Machine.execTickBoundary s
  | .tickLoad => Sys2Proof.Machine.execTickLoad s
  | .schedEntryFire h => Sys2Proof.Machine.execSchedEntryFire h s
  | .synthLock d => Sys2Proof.Machine.execSynthLock d s
  | .synthUnlock d => Sys2Proof.Machine.execSynthUnlock d s
  | .handshakeTimeout f ackAtEdge => Sys2Proof.Machine.execHandshakeTimeout f ackAtEdge s
  | .pointerResyncDone fifo => Sys2Proof.Machine.execPointerResyncDone fifo s
  | .flipFlopEdge e => Sys2Proof.Machine.execFlipFlopEdge e s
  | .clockSwitchComplete n sel dead => Sys2Proof.Machine.execClockSwitchComplete n sel dead s
  | .clockEnableChange n en => Sys2Proof.Machine.execClockEnableChange n en s
  | .fabSourceLost n => Sys2Proof.Machine.execFabSourceLost n s
  | .fabSourceReturn n => Sys2Proof.Machine.execFabSourceReturn n s
  | .shedPassUpdate n => Sys2Proof.Machine.execShedPassUpdate n s
  | .pillarContention r cluster k released => Sys2Proof.Machine.execPillarContention r cluster k released s
  | .seamClockLost p => Sys2Proof.Machine.execSeamClockLost p s
  | .bmPortAccess m pa pb => Sys2Proof.Machine.execBmPortAccess m pa pb s
  | .bmClrInput m => Sys2Proof.Machine.execBmClrInput m s
  | .bmBulkClearDone m => Sys2Proof.Machine.execBmBulkClearDone m s
  | .abEdge r ab inp => Sys2Proof.Machine.execAbEdge r ab inp s
  | .swapEdge r port delivered => Sys2Proof.Machine.execSwapEdge r port delivered s
  | .swapCycleEnd r => Sys2Proof.Machine.execSwapCycleEnd r s
  | .hostSwapTimeout r ackAtEdge => Sys2Proof.Machine.execHostSwapTimeout r ackAtEdge s
  | .swapMemberTimeout r => Sys2Proof.Machine.execSwapMemberTimeout r s
  | .rotationEdge r delivered => Sys2Proof.Machine.execRotationEdge r delivered s
  | .captureEdge r portReq atSwap race => Sys2Proof.Machine.execCaptureEdge r portReq atSwap race s
  | .hoodClaimGrant r p swapTarget => Sys2Proof.Machine.execHoodClaimGrant r p swapTarget s
  | .owReloadCommit r => Sys2Proof.Machine.execOwReloadCommit r s
  | .owCopyDone r landingError => Sys2Proof.Machine.execOwCopyDone r landingError s
  | .owRegionRelease r => Sys2Proof.Machine.execOwRegionRelease r s
  | .cachePortRequest r q => Sys2Proof.Machine.execCachePortRequest r q s
  | .bankCycle b => Sys2Proof.Machine.execBankCycle b s
  | .cachePortResponse r => Sys2Proof.Machine.execCachePortResponse r s
  | .handoverCommit b => Sys2Proof.Machine.execHandoverCommit b s
  | .handoverComplete b => Sys2Proof.Machine.execHandoverComplete b s
  | .fullPageBreak b => Sys2Proof.Machine.execFullPageBreak b s
  | .bankClearDone b => Sys2Proof.Machine.execBankClearDone b s
  | .bankPowerChangeDone b => Sys2Proof.Machine.execBankPowerChangeDone b s
  | .bankWake b => Sys2Proof.Machine.execBankWake b s
  | .spillCopy b => Sys2Proof.Machine.execSpillCopy b s
  | .cacheLineFill d line => Sys2Proof.Machine.execCacheLineFill d line s
  | .bulkPageAccess k => Sys2Proof.Machine.execBulkPageAccess k s
  | .bulkFullPageTimeout k => Sys2Proof.Machine.execBulkFullPageTimeout k s
  | .segmentClearDone sl => Sys2Proof.Machine.execSegmentClearDone sl s
  | .scrubUnit t => Sys2Proof.Machine.execScrubUnit t s
  | .bgScrubTick t => Sys2Proof.Machine.execBgScrubTick t s
  | .tdcEdge n e => Sys2Proof.Machine.execTdcEdge n e s
  | .hitArbiter b => Sys2Proof.Machine.execHitArbiter b s
  | .watermarkEmit b => Sys2Proof.Machine.execWatermarkEmit b s
  | .hitPortTransfer b hsReady => Sys2Proof.Machine.execHitPortTransfer b hsReady s
  | .tdcCalSwitch n => Sys2Proof.Machine.execTdcCalSwitch n s
  | .tdcCodeDensityDone core counts => Sys2Proof.Machine.execTdcCodeDensityDone core counts s
  | .tdcCalSwitchBack n => Sys2Proof.Machine.execTdcCalSwitchBack n s
  | .tdcRotationTurn b g => Sys2Proof.Machine.execTdcRotationTurn b g s
  | .tpReqPulse p => Sys2Proof.Machine.execTpReqPulse p s
  | .testPulseFire p => Sys2Proof.Machine.execTestPulseFire p s
  | .idelayStep n => Sys2Proof.Machine.execIdelayStep n s
  | .dacLoadApply k => Sys2Proof.Machine.execDacLoadApply k s
  | .hkpRoundEnd rds => Sys2Proof.Machine.execHkpRoundEnd rds s
  | .graceExpiry => Sys2Proof.Machine.execGraceExpiry s
  | .sensorRoundMissing => Sys2Proof.Machine.execSensorRoundMissing s
  | .lifeRecordWrite => Sys2Proof.Machine.execLifeRecordWrite s
  | .linkMonitorVisit g bad => Sys2Proof.Machine.execLinkMonitorVisit g bad s
  | .vertRemap g pos => Sys2Proof.Machine.execVertRemap g pos s
  | .pounceFrameSlot r upsets paths => Sys2Proof.Machine.execPounceFrameSlot r upsets paths s
  | .repairLoadStart => Sys2Proof.Machine.execRepairLoadStart s
  | .repairLoadEnd => Sys2Proof.Machine.execRepairLoadEnd s
  | .cfgPortWord w => Sys2Proof.Machine.execCfgPortWord w s
  | .cfgStreamPacket p => Sys2Proof.Machine.execCfgStreamPacket p s
  | .segmentHeader => Sys2Proof.Machine.execSegmentHeader s
  | .segmentForward words => Sys2Proof.Machine.execSegmentForward words s
  | .segmentRecord => Sys2Proof.Machine.execSegmentRecord s
  | .segmentEnd => Sys2Proof.Machine.execSegmentEnd s
  | .segmentTagCheck => Sys2Proof.Machine.execSegmentTagCheck s
  | .signatureVerify => Sys2Proof.Machine.execSignatureVerify s
  | .loadCommit => Sys2Proof.Machine.execLoadCommit s
  | .loadTimeout wordAtEdge => Sys2Proof.Machine.execLoadTimeout wordAtEdge s
  | .blockingLockDone => Sys2Proof.Machine.execBlockingLockDone s
  | .lockTimeout => Sys2Proof.Machine.execLockTimeout s
  | .blockingDelayEnd => Sys2Proof.Machine.execBlockingDelayEnd s
  | .feltingFillEnd => Sys2Proof.Machine.execFeltingFillEnd s
  | .imageRefreshStart slot => Sys2Proof.Machine.execImageRefreshStart slot s
  | .rdbkEnd => Sys2Proof.Machine.execRdbkEnd s
  | .npTxPacket r p aborted => Sys2Proof.Machine.execNpTxPacket r p aborted s
  | .routerHop n port => Sys2Proof.Machine.execRouterHop n port s
  | .wormAge n port => Sys2Proof.Machine.execWormAge n port s
  | .nocResponseRx ep => Sys2Proof.Machine.execNocResponseRx ep s
  | .txnTimeout ep seq respAtEdge => Sys2Proof.Machine.execTxnTimeout ep seq respAtEdge s
  | .npRxStall r => Sys2Proof.Machine.execNpRxStall r s
  | .doorPacketArrival ep p => Sys2Proof.Machine.execDoorPacketArrival ep p s
  | .routerDrainEnd n => Sys2Proof.Machine.execRouterDrainEnd n s
  | .routerDrainTimeout n tailAtEdge => Sys2Proof.Machine.execRouterDrainTimeout n tailAtEdge s
  | .meshResetDrainEnd q => Sys2Proof.Machine.execMeshResetDrainEnd q s
  | .laneSignalDetect l => Sys2Proof.Machine.execLaneSignalDetect l s
  | .blockLock l ofs complement senders => Sys2Proof.Machine.execBlockLock l ofs complement senders s
  | .trainingBlockRx l payload => Sys2Proof.Machine.execTrainingBlockRx l payload s
  | .tapRequestTimeout l ackAtEdge => Sys2Proof.Machine.execTapRequestTimeout l ackAtEdge s
  | .trainDone l => Sys2Proof.Machine.execTrainDone l s
  | .bitSlip l => Sys2Proof.Machine.execBitSlip l s
  | .alignMeasureDone l reads => Sys2Proof.Machine.execAlignMeasureDone l reads s
  | .laneEnterUp l => Sys2Proof.Machine.execLaneEnterUp l s
  | .bringupTimeout l upAtEdge => Sys2Proof.Machine.execBringupTimeout l upAtEdge s
  | .laneDownEvent l reason => Sys2Proof.Machine.execLaneDownEvent l reason s
  | .rxBufferFillCheck l fill => Sys2Proof.Machine.execRxBufferFillCheck l fill s
  | .elasticAdjust l idlePasses => Sys2Proof.Machine.execElasticAdjust l idlePasses s
  | .adaptFreeze l dataBlock => Sys2Proof.Machine.execAdaptFreeze l dataBlock s
  | .laneNoticeRx l sleep => Sys2Proof.Machine.execLaneNoticeRx l sleep s
  | .laneSignalWake l => Sys2Proof.Machine.execLaneSignalWake l s
  | .laneDozeExitDone l hdrOfs lMeas => Sys2Proof.Machine.execLaneDozeExitDone l hdrOfs lMeas s
  | .prbsCheck l rx headers => Sys2Proof.Machine.execPrbsCheck l rx headers s
  | .slicerCalTurn l => Sys2Proof.Machine.execSlicerCalTurn l s
  | .eyeScanEnd l counts => Sys2Proof.Machine.execEyeScanEnd l counts s
  | .tickMarkerRx l tick hold tcrc skew => Sys2Proof.Machine.execTickMarkerRx l tick hold tcrc skew s
  | .triggerSlotTx l slot td tv => Sys2Proof.Machine.execTriggerSlotTx l slot td tv s
  | .triggerSlotRx l slot blk => Sys2Proof.Machine.execTriggerSlotRx l slot blk s
  | .safeBlockRx l sender cause active => Sys2Proof.Machine.execSafeBlockRx l sender cause active s
  | .pktRx l lseqS lseqE h pcrc flits badBlocks => Sys2Proof.Machine.execPktRx l lseqS lseqE h pcrc flits badBlocks s
  | .ackRx l next nak credits => Sys2Proof.Machine.execAckRx l next nak credits s
  | .ackTimeout l ackAtEdge => Sys2Proof.Machine.execAckTimeout l ackAtEdge s
  | .bundleDownTimeout l => Sys2Proof.Machine.execBundleDownTimeout l s
  | .initRx l epoch dev role => Sys2Proof.Machine.execInitRx l epoch dev role s
  | .bridgeForward l fromLink => Sys2Proof.Machine.execBridgeForward l fromLink s
  | .announceTx => Sys2Proof.Machine.execAnnounceTx s
  | .announceRx l a => Sys2Proof.Machine.execAnnounceRx l a s
  | .parentTimeout => Sys2Proof.Machine.execParentTimeout s
  | .measRx l lMeas fine ownFine valid => Sys2Proof.Machine.execMeasRx l lMeas fine ownFine valid s
  | .syncAlignStep parentTime delta => Sys2Proof.Machine.execSyncAlignStep parentTime delta s
  | .alignedRx l hops aligned => Sys2Proof.Machine.execAlignedRx l hops aligned s
  | .pairIdRx id => Sys2Proof.Machine.execPairIdRx id s
  | .pairGoRx tick => Sys2Proof.Machine.execPairGoRx tick s
  | .pairStartTick => Sys2Proof.Machine.execPairStartTick s
  | .digestTx => Sys2Proof.Machine.execDigestTx s
  | .digestRx tick16 digest => Sys2Proof.Machine.execDigestRx tick16 digest s
  | .digestMissing => Sys2Proof.Machine.execDigestMissing s
  | .mgmtFrameRx l bytes => Sys2Proof.Machine.execMgmtFrameRx l bytes s
  | .mailboxMsgPacket p => Sys2Proof.Machine.execMailboxMsgPacket p s
  | .imgDataPacket p => Sys2Proof.Machine.execImgDataPacket p s
  | .millinerStart cause => Sys2Proof.Machine.execMillinerStart cause s
  | .watchdogExpiry => Sys2Proof.Machine.execWatchdogExpiry s
  | .lockstepMismatch => Sys2Proof.Machine.execLockstepMismatch s
  | .mailboxTake m => Sys2Proof.Machine.execMailboxTake m s
  | .mailboxComplete m => Sys2Proof.Machine.execMailboxComplete m s
  | .mailboxTimeout m doneAtEdge => Sys2Proof.Machine.execMailboxTimeout m doneAtEdge s
  | .sliceEnd o => Sys2Proof.Machine.execSliceEnd o s
  | .sliceBudgetExpiry o => Sys2Proof.Machine.execSliceBudgetExpiry o s
  | .funcResetDrainDone f => Sys2Proof.Machine.execFuncResetDrainDone f s
  | .expertWriteDeliver => Sys2Proof.Machine.execExpertWriteDeliver s
  | .registerWrite addr w => Sys2Proof.Machine.execRegisterWrite addr w s
  | .tickLoRead => Sys2Proof.Machine.execTickLoRead s
  | .devModeWake => Sys2Proof.Machine.execDevModeWake s
  | .devCtlRestart key alsoSafe => Sys2Proof.Machine.execDevCtlRestart key alsoSafe s
  | .devCtlSafe key => Sys2Proof.Machine.execDevCtlSafe key s
  | .rstFuncWrite inp val => Sys2Proof.Machine.execRstFuncWrite inp val s
  | .expertWindowWrite addr val => Sys2Proof.Machine.execExpertWindowWrite addr val s
  | .mbCtlGo m => Sys2Proof.Machine.execMbCtlGo m s
  | .mbCtlDoneClear m => Sys2Proof.Machine.execMbCtlDoneClear m s
  | .mbCtlAbort m => Sys2Proof.Machine.execMbCtlAbort m s
  | .mbCtlEvtPop m => Sys2Proof.Machine.execMbCtlEvtPop m s
  | .plumeSelWrite k val => Sys2Proof.Machine.execPlumeSelWrite k val s
  | .bankOwnGo b => Sys2Proof.Machine.execBankOwnGo b s
  | .bankStatClr b => Sys2Proof.Machine.execBankStatClr b s
  | .bmStatClr m => Sys2Proof.Machine.execBmStatClr m s
  | .segCfgClr sl => Sys2Proof.Machine.execSegCfgClr sl s
  | .splitCtlGo => Sys2Proof.Machine.execSplitCtlGo s
  | .rtAccGo => Sys2Proof.Machine.execRtAccGo s
  | .rtrCfgApply n => Sys2Proof.Machine.execRtrCfgApply n s
  | .tdcCfgCalReq n => Sys2Proof.Machine.execTdcCfgCalReq n s
  | .idelayWrite n taps => Sys2Proof.Machine.execIdelayWrite n taps s
  | .dacCodeWrite k code => Sys2Proof.Machine.execDacCodeWrite k code s
  | .swapTgtWrite sl w val => Sys2Proof.Machine.execSwapTgtWrite sl w val s
  | .thermCfgWrite val => Sys2Proof.Machine.execThermCfgWrite val s
  | .fcbaccUpdate dr => Sys2Proof.Machine.execFcbaccUpdate dr s
  | .unknownCommand mb => Sys2Proof.Machine.execUnknownCommand mb s
  | .idGet mb => Sys2Proof.Machine.execIdGet mb s
  | .fwInfo mb => Sys2Proof.Machine.execFwInfo mb s
  | .fwWrite mb copy off bytes => Sys2Proof.Machine.execFwWrite mb copy off bytes s
  | .fwCommit mb copy => Sys2Proof.Machine.execFwCommit mb copy s
  | .expertUnlock mb first count => Sys2Proof.Machine.execExpertUnlock mb first count s
  | .expertLock mb first count => Sys2Proof.Machine.execExpertLock mb first count s
  | .funcReset mb func action => Sys2Proof.Machine.execFuncReset mb func action s
  | .eventCfg mb box mask => Sys2Proof.Machine.execEventCfg mb box mask s
  | .mbConfig mb box timeout => Sys2Proof.Machine.execMbConfig mb box timeout s
  | .modeGet mb => Sys2Proof.Machine.execModeGet mb s
  | .modeSafe mb => Sys2Proof.Machine.execModeSafe mb s
  | .modeResume mb => Sys2Proof.Machine.execModeResume mb s
  | .modeQuiesce mb sleep wakeTick => Sys2Proof.Machine.execModeQuiesce mb sleep wakeTick s
  | .modeWake mb => Sys2Proof.Machine.execModeWake mb s
  | .modeShutdown mb test mask budget => Sys2Proof.Machine.execModeShutdown mb test mask budget s
  | .modeRestart mb => Sys2Proof.Machine.execModeRestart mb s
  | .modeBootGo mb source num => Sys2Proof.Machine.execModeBootGo mb source num s
  | .cfgLoad mb kind source num off ep timeout => Sys2Proof.Machine.execCfgLoad mb kind source num off ep timeout s
  | .cfgStatus mb => Sys2Proof.Machine.execCfgStatus mb s
  | .cfgAbort mb => Sys2Proof.Machine.execCfgAbort mb s
  | .imgInfo mb slot verify => Sys2Proof.Machine.execImgInfo mb slot verify s
  | .imgWrite mb slot len => Sys2Proof.Machine.execImgWrite mb slot len s
  | .imgData mb slot off bytes => Sys2Proof.Machine.execImgData mb slot off bytes s
  | .imgCommit mb slot => Sys2Proof.Machine.execImgCommit mb slot s
  | .imgBoot mb slot => Sys2Proof.Machine.execImgBoot mb slot s
  | .imgRefresh mb slot => Sys2Proof.Machine.execImgRefresh mb slot s
  | .cfgSource mb r p => Sys2Proof.Machine.execCfgSource mb r p s
  | .ctxStatus mb r => Sys2Proof.Machine.execCtxStatus mb r s
  | .ctxSwap mb isSet num plane tick => Sys2Proof.Machine.execCtxSwap mb isSet num plane tick s
  | .ctxSetDef mb set atomic mask planes => Sys2Proof.Machine.execCtxSetDef mb set atomic mask planes s
  | .ctxDiscard mb r p => Sys2Proof.Machine.execCtxDiscard mb r p s
  | .ctxRotate mb r start order arg => Sys2Proof.Machine.execCtxRotate mb r start order arg s
  | .ctxCapture mb r p => Sys2Proof.Machine.execCtxCapture mb r p s
  | .ctxCapFree mb r => Sys2Proof.Machine.execCtxCapFree mb r s
  | .cacheGet mb first count => Sys2Proof.Machine.execCacheGet mb first count s
  | .cacheOwn mb bank owner arm => Sys2Proof.Machine.execCacheOwn mb bank owner arm s
  | .cacheCode mb bank code pageT => Sys2Proof.Machine.execCacheCode mb bank code pageT s
  | .cacheClear mb bank => Sys2Proof.Machine.execCacheClear mb bank s
  | .cachePower mb bank state => Sys2Proof.Machine.execCachePower mb bank state s
  | .cacheWin mb win dev ep acc banks => Sys2Proof.Machine.execCacheWin mb win dev ep acc banks s
  | .cacheMode mb die group seg count => Sys2Proof.Machine.execCacheMode mb die group seg count s
  | .cacheFlush mb die inv => Sys2Proof.Machine.execCacheFlush mb die inv s
  | .cacheSpill mb bank base size => Sys2Proof.Machine.execCacheSpill mb bank base size s
  | .cacheRepair mb bank => Sys2Proof.Machine.execCacheRepair mb bank s
  | .bulkGet mb first count => Sys2Proof.Machine.execBulkGet mb first count s
  | .bulkCode mb seg t acc => Sys2Proof.Machine.execBulkCode mb seg t acc s
  | .bulkClear mb seg => Sys2Proof.Machine.execBulkClear mb seg s
  | .scrubStart mb target first last rowFirst rowLast => Sys2Proof.Machine.execScrubStart mb target first last rowFirst rowLast s
  | .scrubStatus mb handle clear => Sys2Proof.Machine.execScrubStatus mb handle clear s
  | .scrubAbort mb handle => Sys2Proof.Machine.execScrubAbort mb handle s
  | .scrubBg mb target rate => Sys2Proof.Machine.execScrubBg mb target rate s
  | .splitGo mb kind unit op bytes => Sys2Proof.Machine.execSplitGo mb kind unit op bytes s
  | .bmClear mb r bm => Sys2Proof.Machine.execBmClear mb r bm s
  | .bmGet mb r first count => Sys2Proof.Machine.execBmGet mb r first count s
  | .abFlags mb r clear => Sys2Proof.Machine.execAbFlags mb r clear s
  | .laneGet mb l => Sys2Proof.Machine.execLaneGet mb l s
  | .laneUp mb mask time => Sys2Proof.Machine.execLaneUp mb mask time s
  | .laneDown mb mask => Sys2Proof.Machine.execLaneDown mb mask s
  | .lanePower mb mask state => Sys2Proof.Machine.execLanePower mb mask state s
  | .laneFlSet mb l lat => Sys2Proof.Machine.execLaneFlSet mb l lat s
  | .laneSlip mb l count => Sys2Proof.Machine.execLaneSlip mb l count s
  | .laneTest mb l pattern invert loopback => Sys2Proof.Machine.execLaneTest mb l pattern invert loopback s
  | .laneErr mb l clear => Sys2Proof.Machine.execLaneErr mb l clear s
  | .laneEye mb l phase0 phase1 ofs0 ofs1 e => Sys2Proof.Machine.execLaneEye mb l phase0 phase1 ofs0 ofs1 e s
  | .laneEqSet mb l pre post ctle dfe adapt => Sys2Proof.Machine.execLaneEqSet mb l pre post ctle dfe adapt s
  | .linkGet mb l => Sys2Proof.Machine.execLinkGet mb l s
  | .drtSet mb entry mtch mask bundle valid => Sys2Proof.Machine.execDrtSet mb entry mtch mask bundle valid s
  | .drtGet mb first count => Sys2Proof.Machine.execDrtGet mb first count s
  | .linkIdSet mb dev => Sys2Proof.Machine.execLinkIdSet mb dev s
  | .twinGet mb => Sys2Proof.Machine.execTwinGet mb s
  | .twinPolicy mb policy timeout => Sys2Proof.Machine.execTwinPolicy mb policy timeout s
  | .timeGet mb => Sys2Proof.Machine.execTimeGet mb s
  | .schedAdd mb tick action target arg => Sys2Proof.Machine.execSchedAdd mb tick action target arg s
  | .schedCancel mb handle => Sys2Proof.Machine.execSchedCancel mb handle s
  | .schedList mb first count => Sys2Proof.Machine.execSchedList mb first count s
  | .clkSet mb domain mode mult div => Sys2Proof.Machine.execClkSet mb domain mode mult div s
  | .clkGet mb domain => Sys2Proof.Machine.execClkGet mb domain s
  | .timeSet mb tick boundary => Sys2Proof.Machine.execTimeSet mb tick boundary s
  | .syncRole mb prio => Sys2Proof.Machine.execSyncRole mb prio s
  | .syncGet mb => Sys2Proof.Machine.execSyncGet mb s
  | .syncAlign mb => Sys2Proof.Machine.execSyncAlign mb s
  | .linkAsym mb l ps => Sys2Proof.Machine.execLinkAsym mb l ps s
  | .pinGet mb n => Sys2Proof.Machine.execPinGet mb n s
  | .pinSet mb n val => Sys2Proof.Machine.execPinSet mb n val s
  | .tdcSet mb n val => Sys2Proof.Machine.execTdcSet mb n val s
  | .tdcCal mb n => Sys2Proof.Machine.execTdcCal mb n s
  | .tdcStat mb n => Sys2Proof.Machine.execTdcStat mb n s
  | .tpArm mb first count tick => Sys2Proof.Machine.execTpArm mb first count tick s
  | .dacSet mb k code => Sys2Proof.Machine.execDacSet mb k code s
  | .adcGet mb input => Sys2Proof.Machine.execAdcGet mb input s
  | .hkpRead mb first count => Sys2Proof.Machine.execHkpRead mb first count s
  | .hkpMask mb mask => Sys2Proof.Machine.execHkpMask mb mask s
  | .thermGet mb => Sys2Proof.Machine.execThermGet mb s
  | .thermSet mb limit grace floor => Sys2Proof.Machine.execThermSet mb limit grace floor s
  | .thermPeakClr mb => Sys2Proof.Machine.execThermPeakClr mb s
  | .lifeGet mb => Sys2Proof.Machine.execLifeGet mb s
  | .pwrGet mb => Sys2Proof.Machine.execPwrGet mb s
  | .vertGet mb first count => Sys2Proof.Machine.execVertGet mb first count s
  | .diePower mb q unit off => Sys2Proof.Machine.execDiePower mb q unit off s
  | .testGet mb => Sys2Proof.Machine.execTestGet mb s
  | .testResults mb record first count => Sys2Proof.Machine.execTestResults mb record first count s
  | .testRun mb slice unit budget => Sys2Proof.Machine.execTestRun mb slice unit budget s
  | .testPolicy mb policy => Sys2Proof.Machine.execTestPolicy mb policy s
  | .testFence mb => Sys2Proof.Machine.execTestFence mb s
  | .repairList mb soft first count => Sys2Proof.Machine.execRepairList mb soft first count s
  | .repairFuse mb first count failed vfuse => Sys2Proof.Machine.execRepairFuse mb first count failed vfuse s
  | .repairRetire mb entry vfuse => Sys2Proof.Machine.execRepairRetire mb entry vfuse s
  | .secStatus mb => Sys2Proof.Machine.execSecStatus mb s
  | .secBbkSet mb key check replace => Sys2Proof.Machine.execSecBbkSet mb key check replace s
  | .secZeroise mb => Sys2Proof.Machine.execSecZeroise mb s
  | .secFuseProg mb first count data vfuse failed => Sys2Proof.Machine.execSecFuseProg mb first count data vfuse failed s
  | .secFuseRead mb first count => Sys2Proof.Machine.execSecFuseRead mb first count s
  | .secPubkeySet mb idx key => Sys2Proof.Machine.execSecPubkeySet mb idx key s
  | .secRestrict mb mask minSvn => Sys2Proof.Machine.execSecRestrict mb mask minSvn s
  | .secTamperClr mb => Sys2Proof.Machine.execSecTamperClr mb s
  | .pounceSet mb en mode unc => Sys2Proof.Machine.execPounceSet mb en mode unc s
  | .pounceGet mb r clear => Sys2Proof.Machine.execPounceGet mb r clear s
  | .essLog mb first count clear => Sys2Proof.Machine.execEssLog mb first count clear s
  | .cfgRepair mb r p frame => Sys2Proof.Machine.execCfgRepair mb r p frame s
  | .rdbkStart mb kind r p first count path addr => Sys2Proof.Machine.execRdbkStart mb kind r p first count path addr s
  | .rdbkAbort mb => Sys2Proof.Machine.execRdbkAbort mb s
  | .plumeSet mb pin r probe en => Sys2Proof.Machine.execPlumeSet mb pin r probe en s
  | .plumeGet mb => Sys2Proof.Machine.execPlumeGet mb s
  | .nocRtSet mb ep entry hops valid => Sys2Proof.Machine.execNocRtSet mb ep entry hops valid s
  | .nocRtGet mb ep first count => Sys2Proof.Machine.execNocRtGet mb ep first count s
  | .nocRtrSet mb n pen vc2 => Sys2Proof.Machine.execNocRtrSet mb n pen vc2 s
  | .nocNiSet mb ep txnTo maxc dhops shed => Sys2Proof.Machine.execNocNiSet mb ep txnTo maxc dhops shed s
  | .nocStatus mb isEp n => Sys2Proof.Machine.execNocStatus mb isEp n s
  | .nocErrlog mb first count clear => Sys2Proof.Machine.execNocErrlog mb first count clear s
  | .calExport mb scope dest num => Sys2Proof.Machine.execCalExport mb scope dest num s
  | .calImport mb source num bytes force => Sys2Proof.Machine.execCalImport mb source num bytes force s
  | .calList mb => Sys2Proof.Machine.execCalList mb s
  | .calSave mb setBoot num => Sys2Proof.Machine.execCalSave mb setBoot num s
  | .tamperNHigh => Sys2Proof.Machine.execTamperNHigh s
  | .vbatLow low => Sys2Proof.Machine.execVbatLow low s
  | .vioAbsent g => Sys2Proof.Machine.execVioAbsent g s
  | .tapUpdateIr opcode => Sys2Proof.Machine.execTapUpdateIr opcode s
  | .nocPortRxFlit r ready => Sys2Proof.Machine.execNocPortRxFlit r ready s
  | .baseRRxBlock l rd rc hiBer => Sys2Proof.Machine.execBaseRRxBlock l rd rc hiBer s
  | .baseRTxBlock l td tc => Sys2Proof.Machine.execBaseRTxBlock l td tc s
  | .streamPositionTx l => Sys2Proof.Machine.execStreamPositionTx l s

end Sys2Proof.Machine
end

