-- ==== Sys2Proof/Safety.lean ====
section
/-! DEFINITION. What a run of the block keeps, in the terms that claims use. -/

namespace Sys2Proof.Machine

/-- Every store that a command can read back is in canonical form, keys strictly rising: register fields, rows of the
block memories, rows of the cache, pages of the Bulk Store, fuses, flip-flops and seam registers. Equal contents are then
equal data. -/
def State.wf (s : State) : Bool :=
  sorted s.regs && sorted s.bm.rows && sorted s.cache.rows && sorted s.bulk.pages && sorted s.sec.fuses
    && sorted s.fab.ff && sorted s.fab.seam

/-- What the manufacture of the device fixes: revision, grades and serial number. -/
def Aon.ident (a : Aon) : Nat × Bool × Bool × Bool × Nat := (a.revision, a.fastGrade, a.tempI, a.keyB, a.serial)

/-- What no command changes, and what every command keeps: the queue, the identity of the device, every blown fuse (R472),
and the canonical form of the stores. -/
structure Keeps (s t : State) : Prop where
  pending : t.pending = s.pending
  ident : t.aon.ident = s.aon.ident
  fuses : ∀ k, has s.sec.fuses k = true → has t.sec.fuses k = true
  wf : s.wf = true → t.wf = true

/-! ## Commands of the mailboxes -/

/-- Firmware serves the command `code` with arguments `args` in mailbox `mb`: the taken frame is the next thing to perform,
Milliner runs its firmware, and Test does not hold the command back (R502, R505). -/
def State.serves (s : State) (mb : Nat) (code : Nat) (args : List (Nat × Nat)) : Bool :=
  s.cmdDue mb code && !s.mgt.recovery && decide (s.mode ≠ mTest) && decide ((s.mbox mb).args = pack args) && packFits args

/-- As `serves`, for a command whose arguments end with a run of bytes. -/
def State.servesBytes (s : State) (mb : Nat) (code : Nat) (args : List (Nat × Nat)) (bytes : List Nat) : Bool :=
  s.cmdDue mb code && !s.mgt.recovery && decide (s.mode ≠ mTest) && decide ((s.mbox mb).args = pack args ++ bytes)
    && packFits args

/-- The state in which firmware has begun the command of mailbox `mb`. -/
def State.begun (s : State) (mb : Nat) : State := s.setMbox mb { s.mbox mb with started := true }

/-- Command `c` of mailbox `mb` completes in state `t`, with a status and result bytes for its completion frame. -/
def Completes (c : Instr) (mb : Nat) (s : State) (status : Nat) (result : List Nat) (t : State) : Prop :=
  exec c s = .next (setOutcome mb ⟨status, false, result⟩ t)

/-! ## Flip-flops -/

/-- From `s` to `t`, both flip-flops (0 FFA, 1 FFB) of the cell with inputs `x`, in the cluster with inputs `u` of region `r`,
have taken the values that rows 2 to 5 of Table 5-7 give at edge `e`, or between edges where `e` is none; every other
flip-flop of the device has its value. `i` lists the inputs of the region, from which the data inputs come. -/
def FollowsTable57 (s t : State) (r : Nat) (e : Option EdgeOf) (i : FabIn) (u : CluIn) (x : CellIn) : Prop :=
  let fr := s.frames r
  let n := 16 * u.cluster.val + x.cell.val
  let c := Config.cell fr n
  (c.used = true → ∀ b < 2,
    let set := if b = 0 then c.csA else c.csB
    let k := Config.ctl fr (4 * u.cluster.val + set.val)
    let srv := if b = 0 then c.srvA else c.srvB
    let clocked : Bool := match e with | some e => k.clk.val == e.clk && k.falling == e.falling | none => false
    let reset : Bool := !k.srZero && u.sr.getLsbD set
    t.ffVal r (2 * n + b) =
      if reset = true ∧ (k.async = true ∨ clocked = true) then srv
      else if clocked = true ∧ (k.ceOne = true ∨ u.ce.getLsbD set = true) then ffData fr i n b
      else s.ffVal r (2 * n + b)) ∧
  ∀ q j, (ffKey q j ≠ ffKey r (2 * n) ∧ ffKey q j ≠ ffKey r (2 * n + 1)) ∨ c.used = false → t.ffVal q j = s.ffVal q j

end Sys2Proof.Machine
end

