-- ==== Sys2Proof/Certificates/Slice0/Obligations.lean ====
section
/-! DEFINITION. The statements for the provers. Where a clause names an opaque constant of Config, it holds for every value
of that constant. -/

open Sys2Proof Sys2Proof.Machine

/-! ## The block as a whole -/

/-- A step takes the command at the front of the queue and runs it on the state with the rest of the queue. On an empty
queue the block idles, which is the model's choice (assumption 2). -/
def Obligations.StepRunsFront : Prop :=
  ∀ s : State, (s.pending = [] → step s = .next s) ∧
    ∀ (c : Instr) (q : List Instr), s.pending = c :: q → step s = exec c { s with pending := q }

/-- After reset no command waits, the device is in Standby, and every store is in its canonical form (the form is the
model's, assumption 7; that the model begins in Standby is its choice, assumption 5). -/
def Obligations.ResetIsCanonical : Prop :=
  State.reset.wf = true ∧ State.reset.pending = [] ∧ State.reset.mode = mStandby

/-- Every step keeps every store in its canonical form: the registers, the rows of the block memories and of the cache,
the pages of the Bulk Store, the fuses. The form is the model's (assumption 7); with it, equal contents are equal data.
-/
def Obligations.StepKeepsCanonicalForm : Prop :=
  ∀ s t : State, s.wf = true → step s = .next t → t.wf = true

/-- No command touches the queue of waiting commands or what manufacture fixed in the device, and a blown fuse stays
blown (the last after R472). -/
def Obligations.ExecKeepsQueueIdentityAndFuses : Prop :=
  ∀ (c : Instr) (s t : State), exec c s = .next t →
    t.pending = s.pending ∧ t.aon.ident = s.aon.ident ∧ ∀ k, has s.sec.fuses k = true → has t.sec.fuses k = true

/-- Every command, in every state, ends in a next state: none faults and none is refused. -/
def Obligations.EveryCommandIsPerformed : Prop :=
  ∀ (c : Instr) (s : State), ∃ t, exec c s = .next t

/-! ## Operating modes -/

/-- Hardware events of the mode controller act when they are due: VAON, `RESET_N`, `WAKE_N`, the commit point of
Quiescent and the end of a wake, the pairing timeout (after R38–R40, R42, R47–R49). A committed change of mode shows the
new mode, the mode before it and `MODE_CHG`, and touches no other field but the event fields of `MB_CTL` (after R32,
Table 2-2). Choices of the model in it: assumptions 18, 19, 20, 21, 22, 31, 32, 33, 175. -/
def Obligations.ModeEventsComplete : Prop :=
  (∀ s : State,
    (s.mode = mOff → ∀ notOff : Nat,
      let u := (s.set R.DEV_MODE.MODE mStandby).set R.PWR_STAT.RAIL_OK 1
      exec (.vaonPresent notOff) s =
        .next (if [1, 2, 3, 4, 7, 8, 9, 10, 13].any notOff.testBit = true then supplyFail 1 u
          else if notOff.testBit 5 = true ∨ notOff.testBit 6 = true then supplyFail 5 u else u)) ∧
    (s.up = true → exec (.resetNLow false) s = .next (enterStandby (s.modAon fun a => { a with resetHigh := false }))) ∧
    (s.up = false → exec (.resetNLow false) s = .next (s.modAon fun a => { a with resetHigh := false })) ∧
    (exec (.resetNLow true) s = if s.freeBit then exec (.resetNLow false) s.useFree else .next s.useFree) ∧
    (s.aon.resetHigh = false → s.mode = mStandby → s.railsUp = true → s.get R.DEV_MODE.STBY_FAULT = 0 →
      exec .resetNRise s = .next (enterBoot (s.modAon fun a => { a with resetHigh := true }))) ∧
    (s.aon.resetHigh = false → ¬ (s.mode = mStandby ∧ s.railsUp = true ∧ s.get R.DEV_MODE.STBY_FAULT = 0) →
      exec .resetNRise s = .next (s.modAon fun a => { a with resetHigh := true })) ∧
    (s.mode = mQuiescent ∨ s.aon.quiesceReq.isSome = true →
      exec (.wakeNLow false) s = .next (s.modAon fun a => { a with waking := true })) ∧
    (exec (.wakeNLow true) s = if s.freeBit then exec (.wakeNLow false) s.useFree else .next s.useFree) ∧
    (s.mode = mQuiescent ∨ s.aon.quiesceReq.isSome = true → s.fcbOn = true →
      exec .devModeWake s = .next ((s.set R.DEV_MODE.WAKE 1).modAon fun a => { a with waking := true })) ∧
    (s.mode = mRun ∨ s.mode = mTwin → s.cfg.load = none → ∀ sleep, s.aon.quiesceReq = some sleep →
      exec .quiescentCommit s = .next (forEach (s.running 0x0103) (fun n u => finishCmd n stOk [] false (commitCmd n u))
        (quiesce sleep (commitMode mQuiescent
          ((s.modAon fun a => { a with quiesceReq := none }).modAon fun a => { a with quiesceSleep := sleep }))))) ∧
    (¬ (s.mode = mRun ∨ s.mode = mTwin) ∨ s.cfg.load ≠ none → ∀ sleep, s.aon.quiesceReq = some sleep →
      exec .quiescentCommit s = .next (forEach (s.running 0x0103) (fun n u => finishCmd n stDenied [] false u)
        (clearWake (s.modAon fun a => { a with quiesceReq := none })))) ∧
    (s.mode = mQuiescent → s.aon.waking = true →
      let u := (unquiesce s).modFab fun f => { f with clocksOn := true }
      exec .wakeComplete s = .next (forEach s.aon.wakeCmds (fun n u => finishCmd n stOk [] false u)
        (commitMode u.topMode (u.modAon fun a => { a with wakeCmds := [] })))) ∧
    (s.mode = mBlocking → s.aon.pairWait = true →
      exec .pairingTimeout s = .next (commitMode s.topMode
        ((s.modAon fun a => { a with pairWait := false }).set R.DEV_MODE.TWIN_ALONE 1)))) ∧
  (∀ (m : Nat) (s : State), m < 16 → s.mode < 16 → s.mode ≠ m →
    (commitMode m s).mode = m ∧ (commitMode m s).get R.DEV_MODE.PREV_MODE = s.mode ∧
    (commitMode m s).get R.DEV_MODE.MODE_CHG = 1 ∧
    ∀ f : Fld, f.addr = 0x4 → f.lsb < 64 → f.lsb ≠ 0 → f.lsb ≠ 4 → f.lsb ≠ 24 → (commitMode m s).get f = s.get f)

/-- Group 01h and `TWIN_POLICY`: each command completes where Table 2-4 and Table 2-7 let it act (after R42, R46, R47,
R54). A restart and a shutdown without test follow the completion of their command: while a mailbox still holds it
nothing happens, and then the device goes to Standby, and a restart on to Boot (after R39, R54, R59, R503). A resume
from Safe is turned away, and changes nothing but its own mailbox, while a cause stands that only a restart ends (after
R46). Choices of the model in it: assumptions 10, 11, 20, 22, 23, 24, 25, 26, 39, 50, 140, 177, 196, 209, 210. -/
def Obligations.ModeCommandsComplete : Prop :=
  (∀ (mb : Fin 16) (s : State),
    (s.serves mb 0x0100 [] → Completes (.modeGet mb) mb s stOk (pack [(4, s.devMode), (4, s.cardWord 0x8)]) (s.begun mb)) ∧
    (s.serves mb 0x0101 [] → s.up = true → s.mode ≠ mSafe →
      Completes (.modeSafe mb) mb s stOk [] (enterSafe 1 (s.begun mb))) ∧
    (s.serves mb 0x0102 [] → s.mode = mSafe → (∀ c ∈ s.aon.safeCauses, c = 1 ∨ (c = 3 ∧ s.therm.cool = true)) →
      s.committed = true → s.cfg.load = none →
      Completes (.modeResume mb) mb s stOk []
        (driveDacs (commitMode mBlocking (startBlocking true false ((s.begun mb).modAon fun a => { a with safeCauses := [] }))))) ∧
    (∀ sleep, s.serves mb 0x0103 [(1, sleep), (6, 0)] → sleep < 2 → s.mode = mRun ∨ s.mode = mTwin →
      s.aon.quiesceReq = none → s.cfg.load = none →
      exec (.modeQuiesce mb sleep 0) s = .next ((s.begun mb).modAon fun a => { a with quiesceReq := some sleep })) ∧
    (∀ sleep wakeTick, s.serves mb 0x0103 [(1, sleep), (6, wakeTick)] → sleep < 2 → s.mode = mRun ∨ s.mode = mTwin →
      s.aon.quiesceReq = none → s.cfg.load = none → wakeTick ≠ 0 → s.tickAhead wakeTick = true →
      (∀ e ∈ s.clk.sched, ¬ (e.2.st = 1 ∧ e.2.tick = wakeTick ∧ e.2.action = 2)) →
      s.freeHandles ≠ [] → ∃ h ∈ s.freeHandles, exec (.modeQuiesce mb sleep wakeTick) s =
        .next (((s.begun mb).useFree.setSched h ⟨1, wakeTick, 2, 0, 0⟩).modAon fun a => { a with quiesceReq := some sleep })) ∧
    (s.serves mb 0x0104 [] → s.mode = mQuiescent →
      exec (.modeWake mb) s = .next (wakeSource ((s.begun mb).modAon fun a => { a with wakeCmds := a.wakeCmds ++ [s.serial mb] }))) ∧
    (∀ mask budget, s.serves mb 0x0105 [(1, 0), (2, mask), (4, budget)] → mask < 1024 →
      s.runClass = true ∨ s.mode = mQuiescent ∨ s.mode = mSafe → s.cfg.load = none →
      Completes (.modeShutdown mb 0 mask budget) mb s stOk []
        ((writeLife (s.begun mb)).modAon fun a => { a with exitDue := some (s.serial mb, false) })) ∧
    (∀ test mask budget, s.serves mb 0x0105 [(1, test), (2, mask), (4, budget)] → test = 1 ∨ test = 2 → mask < 1024 →
      s.runClass = true ∨ s.mode = mQuiescent ∨ s.mode = mSafe → s.cfg.load = none →
      Completes (.modeShutdown mb test mask budget) mb s stOk []
        (startTest (if test = 1 then List.range 10 else (List.range 10).filter fun i => mask.testBit i)
          (if budget = 0 then 2500 else budget) (writeLife (s.begun mb)))) ∧
    (s.serves mb 0x0106 [] → Completes (.modeRestart mb) mb s stOk []
      ((s.begun mb).modAon fun a => { a with exitDue := some (s.serial mb, true) })) ∧
    (∀ source num, s.serves mb 0x0107 [(1, source), (1, num)] →
      (s.mode = mBoot ∧ s.aon.bootReady = true ∧ s.get R.STRAP_LATCH.BOOT = 3) ∨ (s.mode = mSafe ∧ s.aon.safeCauses = [2]) →
      (source = 0 ∧ num < 5 ∧ (s.slot num).valid = true) ∨ source = 1 ∨ (source = 2 ∧ num < 96 ∧ s.sideReserved num = false ∧
        s.bit R.PWR_STAT.RAIL_OK 5 = true ∧ s.bit R.PWR_STAT.RAIL_OK 6 = true) →
      let u := commitMode mLoad (((s.begun mb).modCfg fun c => { c with golden := false }).modAon fun a => { a with safeCauses := [] })
      Completes (.modeBootGo mb source num) mb s stOk [] (startLoad (newLoad 0 source num 0 0 (u.get R.CFG_CTL.LOAD_TO) 0)
        (if source = 2 then laneForLoad true num u else u))) ∧
    (∀ policy t, s.serves mb 0x0415 [(1, policy), (2, 100 * t)] → policy < 2 → 1 ≤ t → t ≤ 511 → s.underTest 0x97 = false →
      Completes (.twinPolicy mb policy (100 * t)) mb s stOk []
        (((s.begun mb).set R.TWIN_STAT.POLICY policy).set R.TWIN_STAT.PAIR_TO t))) ∧
  (∀ (s : State) (n : Nat) (again : Bool), s.aon.exitDue = some (n, again) →
    ((s.mbOf n).isSome = true → leaveDue s = s) ∧
    (s.mbOf n = none → leaveDue s = if again then restart s else enterStandby s)) ∧
  (∀ (mb : Fin 16) (s : State) (c : Nat), s.serves mb 0x0102 [] → s.mode = mSafe → c ∈ s.aon.safeCauses → c ≠ 1 → c ≠ 3 →
    Completes (.modeResume mb) mb s stDenied [] (s.begun mb))

/-! ## Clocks and time -/

/-- The clock and tick events act when they are due: measurement, first lock, loss and return of MCLK (after R69–R72,
R74), the boundary and the load of the tick counter (after R74, R78), schedule entries (after R80, R83), synthesizer
locks (after R67), the end of a handshake (after R89, R93) and of a pointer resynchronisation (after R87), and the tick
snapshot (after R79). Choices of the model in it: assumptions 35, 36, 37, 38, 39, 41, 42, 203, 211, 212, 216. -/
def Obligations.TimeEventsComplete : Prop :=
  ∀ s : State, s.up = true →
    (∀ srcKHz kHz, s.mclkSource = true → s.mclkOf srcKHz = kHz → kHz ≠ 0 →
      let s1 := { (s.set R.MCLK_STAT.FREQ_KHZ kHz).setBit R.CLK_LOCK.LOCK 2 true with clk := { s.clk with prevMeas := some kHz } }
      (s.clk.lockMeas = none → measLocks kHz s.clk.prevMeas = true →
        let s2 := { s1 with clk := { s1.clk with lockMeas := some kHz, startDue := true } }
        exec (.mclkMeasure srcKHz) s = .next (judgeSettings (s2.set R.MCLK_STAT.PRESENT 1))) ∧
      (s.clk.lockMeas = none → measLocks kHz s.clk.prevMeas = false → exec (.mclkMeasure srcKHz) s = .next s1) ∧
      (∀ l, s.clk.lockMeas = some l → s.hold = true ∨ within1000ppm kHz l = true → exec (.mclkMeasure srcKHz) s = .next s1) ∧
      (∀ l, s.clk.lockMeas = some l → s.hold = false → within1000ppm kHz l = false →
        exec (.mclkMeasure srcKHz) s = .next (loseMclk s1))) ∧
    (∀ srcKHz, s.mclkSource = false ∨ s.mclkOf srcKHz = 0 → exec (.mclkMeasure srcKHz) s =
      .next ({ s with clk := { s.clk with prevMeas := none } }.setBit R.CLK_LOCK.LOCK 2 false)) ∧
    (s.clk.lockMeas.isSome = true → s.hold = false →
      exec .mclkLoss s = .next (loseMclk (s.setBit R.CLK_LOCK.LOCK 2 false))) ∧
    (∀ srcKHz kHz l, s.clk.lockMeas = some l → s.hold = true → s.mclkSource = true → s.mclkOf srcKHz = kHz →
      within1000ppm kHz l = true →
      exec (.mclkReturn srcKHz) s = .next (raise 0x0503 [] (syncHoldover false
        (((({ s with clk := { s.clk with lockMeas := some kHz } }.set R.MCLK_STAT.HOLD 0).set R.MCLK_STAT.RELOCK 1).set
          R.MCLK_STAT.PRESENT 1).setBit R.CLK_LOCK.LOCK 2 true)))) ∧
    (s.clk.startDue = true → exec .tickBoundary s =
      .next (beginTick 0 { s with clk := { s.clk with startDue := false, running := true } })) ∧
    (s.clk.startDue = false → s.clk.running = true → s.loadDue = false →
      exec .tickBoundary s = .next (beginTick ((s.clk.tick + 1) % 2 ^ 48) s)) ∧
    (∀ v, s.loadAt = some v →
      ∃ t, exec .tickLoad s = .next t ∧ t.clk.tick = v ∧ t.get R.MCLK_STAT.STEP = 1 ∧
        t.clk.loads = s.clk.loads.filter fun l => l.2 != s.nextTick) ∧
    (∀ h : Fin 256, (s.sched h).st = 4 →
      let u := s.setSched h { s.sched h with st := 2 }
      (s.runClass = true → ¬ ((s.sched h).action = 5 ∧ s.held 0xB1 = true) → s.mode ≠ mQuiescent →
        exec (.schedEntryFire h) s = .next (performEntry h (s.sched h) u)) ∧
      (s.mode = mQuiescent → (s.sched h).action = 2 ∨ (s.sched h).action = 3 →
        exec (.schedEntryFire h) s = .next (performEntry h (s.sched h)
          ((wakeSource s).setSched h { s.sched h with st := 2 }))) ∧
      (s.mode = mQuiescent → (s.sched h).action ≠ 2 → (s.sched h).action ≠ 3 →
        exec (.schedEntryFire h) s = .next (missEntry h (wakeSource s))) ∧
      (s.mode ≠ mQuiescent → s.runClass = false ∨ ((s.sched h).action = 5 ∧ s.held 0xB1 = true) →
        exec (.schedEntryFire h) s = .next (missEntry h s))) ∧
    (∀ d : Fin 25, s.bit R.CLK_LOCK.LOCK d = false → s.canLock d = true →
      let u := if settable d then (s.setBit R.CLK_LOCK.LOCK d true).setSynth d { s.synth d with wait := false }
        else s.setBit R.CLK_LOCK.LOCK d true
      exec (.synthLock d) s = .next (if 17 ≤ d.val ∧ d.val ≤ 20 then sideLocked d u
        else if 21 ≤ d.val then treeReturns (d.val - 21) u else u)) ∧
    (∀ d : Fin 25, s.bit R.CLK_LOCK.LOCK d = true → synthesized d = true →
      let u := raise 0x0501 [(1, d.val)] ((s.setBit R.CLK_LOCK.LOCK d false).setBit R.CLK_LOST.LOST d true)
      exec (.synthUnlock d) s = .next (if 17 ≤ d.val ∧ d.val ≤ 20 then sideLost d u
        else if 21 ≤ d.val then loseTree (d.val - 21) u else u)) ∧
    (∀ d : Fin 25, s.bit R.CLK_LOCK.LOCK d = true → 13 ≤ d.val → d.val ≤ 15 → exec (.synthUnlock d) s =
      .next ((s.setBit R.CLK_LOCK.LOCK d false).setBit R.CLK_LOST.LOST d true)) ∧
    (∀ f : Fin 256,
      exec (.handshakeTimeout f true) s = .next ((ackXing f s).modXing f fun x => { x with late := true }) ∧
      exec (.handshakeTimeout f false) s =
        .next (s.modXing f fun x => { x with req := x.pend, pend := none, timedOut := true })) ∧
    (∀ f : FifoId, s.resyncing (fifoNum f) = true → (fifoOwners f).any s.held = false →
      exec (.pointerResyncDone f) s =
        .next { s with clk := { s.clk with resync := s.clk.resync.filter fun n => n != fifoNum f } }) ∧
    (s.flag R.STRAP_LATCH.FCB_EN = true → ∃ t, exec .tickLoRead s = .next t ∧ t.get R.TICK_LO.TICK_L = s.clk.tick % 2 ^ 32 ∧
      t.get R.TICK_HI.TICK_H = s.clk.tick / 2 ^ 32 % 2 ^ 16 ∧ (t.get R.TICK_HI.SNAP_HOLD = if s.hold then 1 else 0) ∧
      (t.get R.TICK_HI.VALID = if s.clk.running then 1 else 0) ∧ t.clk = s.clk)

/-- The timing commands of Table 3-14 complete: what they return and what they change (after R66, R81, R84, R99).
Choices of the model in it: assumptions 10, 11, 34, 35, 36, 39, 40, 41, 177. -/
def Obligations.TimeCommandsComplete : Prop :=
  ∀ (mb : Fin 16) (s : State),
    (s.serves mb 0x0500 [] → ∃ w, Completes (.timeGet mb) mb s stOk
      (pack [(6, s.clk.tick), (4, w), (4, s.get R.CLK_LOCK.LOCK)]) (s.begun mb)) ∧
    (∀ tick action target arg, s.serves mb 0x0501 [(6, tick), (1, action), (2, target), (4, arg)] → s.tickAhead tick = true →
      schedArgsOk action target arg = true →
      (∀ e ∈ s.clk.sched, ¬ ((e.2.st = 1 ∨ e.2.st = 4) ∧ e.2.tick = tick ∧ e.2.action = action ∧ e.2.target = target)) →
      s.freeHandles ≠ [] → ∃ h, h < 256 ∧ (s.sched h).st ≠ 1 ∧ (s.sched h).st ≠ 4 ∧
        Completes (.schedAdd mb tick action target arg) mb s stOk (pack [(1, h)])
          ((s.begun mb).useFree.setSched h ⟨1, tick, action, target, arg⟩)) ∧
    (∀ h, s.serves mb 0x0502 [(2, h)] → h < 256 → (s.sched h).st = 1 →
      Completes (.schedCancel mb h) mb s stOk (pack [(1, 0)]) ((s.begun mb).setSched h ⟨0, 0, 0, 0, 0⟩)) ∧
    (∀ h, s.serves mb 0x0502 [(2, h)] → h < 256 → (s.sched h).st ≠ 1 →
      Completes (.schedCancel mb h) mb s stDenied (pack [(1, handleState s (s.sched h))]) (s.begun mb)) ∧
    (∀ first count, s.serves mb 0x0503 [(2, first), (1, count)] → first < 256 → 1 ≤ count → count ≤ 16 →
      Completes (.schedList mb first count) mb s stOk (pack (((List.range count).map (first + ·)).flatMap fun h =>
        let e := s.sched h;
        if h < 256 ∧ (e.st = 1 ∨ e.st = 4) then [(1, h), (6, e.tick), (1, e.action), (2, e.target), (4, e.arg)] else []))
        (s.begun mb)) ∧
    (∀ d mode n q, s.serves mb 0x0504 [(1, d), (1, mode), (1, n), (1, q)] → settable d = true → d ≤ 24 →
      (s.mode = mBoot ∨ s.mode = mLoad ∨ s.mode = mSafe ∨ s.mode = mQuiescent) → settingRange d mode n q = true →
      s.settingFreqOk d mode n q = true → (s.synth d).wait = false →
      Completes (.clkSet mb d mode n q) mb s stOk [] (changeSetting d mode n q (s.begun mb))) ∧
    (∀ d, s.serves mb 0x0505 [(1, d)] → settable d = true → d ≤ 24 →
      Completes (.clkGet mb d) mb s stOk (pack [(1, (s.synth d).mode), (1, (s.synth d).n), (1, (s.synth d).d),
        (4, s.domainKHz d), (1, s.get R.CLK_LOCK.LOCK / 2 ^ d % 2)]) (s.begun mb)) ∧
    (∀ d, s.serves mb 0x0505 [(1, d)] → settable d = false → d ≤ 24 →
      Completes (.clkGet mb d) mb s stOk (pack [(1, Config.clockSetting d 0), (1, Config.clockSetting d 1),
        (1, Config.clockSetting d 2), (4, s.domainKHz d), (1, s.get R.CLK_LOCK.LOCK / 2 ^ d % 2)]) (s.begun mb)) ∧
    (∀ tick b, s.serves mb 0x0506 [(6, tick), (6, b)] → s.clk.running = true → s.tickAhead b = true →
      Completes (.timeSet mb tick b) mb s stOk []
        { s.begun mb with clk := { s.clk with loads := s.clk.loads ++ [(tick, b)] } })

/-- R100: `CLK_SET` is `BUSY` while a change has not relocked; `TIME_SET` loads its value at the boundary that begins
its boundary tick, is `BAD_ARG` without a lead of 16 ticks, and is `DENIED` while the counter stands still. -/
def Obligations.SetCommandsWait : Prop :=
  (∀ (mb : Fin 16) (s : State) (d mode n q : Nat), s.serves mb 0x0504 [(1, d), (1, mode), (1, n), (1, q)] →
    settable d = true → d ≤ 24 → (s.mode = mBoot ∨ s.mode = mLoad ∨ s.mode = mSafe ∨ s.mode = mQuiescent) →
    settingRange d mode n q = true → s.settingFreqOk d mode n q = true → (s.synth d).wait = true →
    Completes (.clkSet mb d mode n q) mb s stBusy [] (s.begun mb)) ∧
  (∀ (mb : Fin 16) (s : State) (tick b : Nat), s.serves mb 0x0506 [(6, tick), (6, b)] →
    (s.clk.running = false → Completes (.timeSet mb tick b) mb s stDenied [] (s.begun mb)) ∧
    (s.clk.running = true → s.tickAhead b = false → Completes (.timeSet mb tick b) mb s stBadArg [] (s.begun mb)) ∧
    (s.clk.running = true → s.tickAhead b = true →
      ∃ t, exec (.timeSet mb tick b) s = .next t ∧ t.clk.loads = s.clk.loads ++ [(tick, b)] ∧ t.clk.tick = s.clk.tick)) ∧
  (∀ (s : State) (l : List (Nat × Nat)) (v b : Nat), s.up = true → s.clk.running = true → s.clk.loads = l ++ [(v, b)] →
    (b = (s.clk.tick + 1) % 2 ^ 48 → ∃ t, exec .tickLoad s = .next t ∧ t.clk.tick = v) ∧
    ((∀ e ∈ s.clk.loads, e.2 ≠ (s.clk.tick + 1) % 2 ^ 48) → exec .tickLoad s = .next s))

/-! ## Pins, TDCs and analogue channels -/

/-- The events of VIO groups, pins and DACs act when they are due (after R102, R106, R108, R124, R126). Choices of the
model in it: assumptions 44, 50, 52, 222. -/
def Obligations.PinEventsComplete : Prop :=
  ∀ s : State,
    (∀ g : Fin 8, ∃ t, exec (.vioPresent g) s = .next t ∧ g.val ∈ t.io.vio ∧ t.regs = s.regs ∧
      ∀ k ∈ t.io.vio, k = g.val ∨ k ∈ s.io.vio) ∧
    (∀ g : Fin 8, exec (.vioAbsent g) s = .next (s.modIo fun i => { i with vio := i.vio.filter fun k => k != g.val })) ∧
    (∀ b : Fin 32, s.runClass = true →
      (s.ioBank b).vioDown = false → exec (.vioLoss b) s = .next (raise 0x0601 [(1, b.val)]
        (((s.modBank b fun k => { k with vioDown := true }).set (R.BANK_CTL.VIO_LOSS b) 1).set (R.BANK_CTL.VIO_OK b) 0))) ∧
    (∀ b : Fin 32, (s.ioBank b).vioDown = true → exec (.vioRestore b) s =
      .next ((s.modBank b fun k => { k with vioDown := false }).set (R.BANK_CTL.VIO_OK b) 1)) ∧
    (∀ (n : Fin 1536) (taps : BitVec 9), s.pinsOpen = true →
      exec (.idelayWrite n taps) s = .next (s.set (R.PIN_CFG.IDELAY n) taps.toNat)) ∧
    (∀ n : Fin 1536, s.up = true → s.clocked 3 = true → (s.ch n).tap ≠ s.get (R.PIN_CFG.IDELAY n) → exec (.idelayStep n) s =
      .next (s.modCh n fun c => { c with tap := if c.tap < s.get (R.PIN_CFG.IDELAY n) then c.tap + 1 else c.tap - 1 })) ∧
    (∀ n : Fin 1536, s.up = true → s.clocked 3 = true → s.fab.writes = true → s.borderCause (bankRegion (n.val / 48)) = 0 →
      ((s.ch n).tp.busy = false → exec (.tpReqPulse ⟨n, false⟩) s =
        .next (armPulse n s.clk.tick (s.modCh n fun c => { c with tp := ⟨true, c.tp.pend⟩ }))) ∧
      ((s.ch n).tp.busy = true → (s.ch n).tp.pend = false →
        exec (.tpReqPulse ⟨n, false⟩) s = .next (s.modCh n fun c => { c with tp := ⟨true, true⟩ })) ∧
      ((s.ch n).tp.busy = true → (s.ch n).tp.pend = true → exec (.tpReqPulse ⟨n, false⟩) s =
        .next ((s.modCh n fun c => { c with tp := ⟨true, true⟩ }).modXing (bankFunc (n.val / 48)) fun x =>
          { x with overrun := true }))) ∧
    (∀ n : Fin 1536, s.up = true → s.clocked 3 = true → (s.ch n).tp.busy = true →
      ((s.ch n).tp.pend = true → exec (.tpReqPulse ⟨n, true⟩) s =
        .next (armPulse n s.clk.tick (s.modCh n fun c => { c with tp := ⟨true, false⟩ }))) ∧
      ((s.ch n).tp.pend = false → exec (.tpReqPulse ⟨n, true⟩) s = .next (s.modCh n fun c => { c with tp := ⟨false, false⟩ }))) ∧
    (∀ (n : Fin 1536) (sincePs q : Nat) (l : List Nat), s.up = true → s.clocked 3 = true → (s.ch n).armed = q :: l →
      tickLater s.clk.tick q = true → s.bankLive (n.val / 48) = true →
      s.get (R.PIN_CFG.DIR n) = 3 → s.get (R.TDC_CFG.P_WIDTH n) ≠ 0 →
      let w := s.get (R.TDC_CFG.P_WIDTH n)
      let co := min (s.get (R.TDC_CFG.P_COARSE n)) ((s.synth 3).n - 1)
      let u := s.modCh n fun c => { c with
        armed := c.armed.filter fun x => x != q
        pulse := some (q, co, s.get (R.TDC_CFG.P_FINE n), w) }
      exec (.testPulseFire ⟨n, sincePs⟩) s = .next (ownEdge n true
        (if u.records n false sincePs then w * u.tdcFs / 1000 else sincePs + w * u.tdcFs / 1000) ((q + 1) % tickMod) (co + w)
        (ownEdge n false sincePs ((q + 1) % tickMod) co u))) ∧
    (∀ (n : Fin 1536) (sincePs q : Nat) (l : List Nat), s.up = true → s.clocked 3 = true → (s.ch n).armed = q :: l →
      tickLater s.clk.tick q = true →
      s.bankLive (n.val / 48) = false ∨ s.get (R.PIN_CFG.DIR n) ≠ 3 ∨ s.get (R.TDC_CFG.P_WIDTH n) = 0 →
      exec (.testPulseFire ⟨n, sincePs⟩) s = .next (s.modCh n fun c => { c with armed := c.armed.filter fun x => x != q })) ∧
    (∀ (k : Fin 16) (code : BitVec 12), s.up = true → s.held 0xB1 = false →
      exec (.dacCodeWrite k code) s = .next (loadDac k ⟨1, code.toNat, 0⟩ s)) ∧
    (∀ (k : Fin 16) (win : DacLoad), s.up = true → s.clocked 16 = true → s.held 0xB1 = false →
      (at' s.io.loads k []).find? (fun d => d.rank == ((at' s.io.loads k []).map fun d => d.rank).foldl min 9) = some win →
      let lost := (at' s.io.loads k []).erase win
      let u := endLoad' stOk win (takeDac k win.code (s.modIo fun i => { i with loads := putD i.loads k [] [] }))
      exec (.dacLoadApply k) s = .next (forEach lost (endLoad' stBusy)
        (if lost = [] then u else u.setBit R.DAC_STAT.COLLIDE k true))) ∧
    (∀ k : Fin 16, s.up = true → s.clocked 16 = true → s.held 0xB1 = true → at' s.io.loads k [] ≠ [] →
      exec (.dacLoadApply k) s = .next (forEach (at' s.io.loads k []) dropLoad
        (s.modIo fun i => { i with loads := putD i.loads k [] [] })))

/-- The events of TDC channels and their calibration act when they are due (after R115–R118, R121–R123). Choices of the
model in it: assumptions 44, 45, 46, 47, 48, 49, 221. -/
def Obligations.TdcEventsComplete : Prop :=
  ∀ s : State,
    (∀ (n : Fin 1536) (e : TdcIn), s.up = true → s.bankLive (n.val / 48) = true → s.clocked 3 = true →
      s.flag (R.TDC_CFG.EN n) = true → (s.get (R.TDC_CFG.EDGE n)).testBit (if e.falling then 1 else 0) = true →
      4000 ≤ e.sincePs → s.oddOfPair n = false → s.held (bankFunc (n.val / 48)) = false → (7, n.val) ∉ s.test.fenced →
      e.tap = (s.ch n).tap → e.core.coarse < (s.synth 3).n → e.spare.coarse < (s.synth 3).n → (s.synth 3).n ≤ 125 → s.clk.tick < 2 ^ 48 →
      let u := s.modCh n fun c => { c with level := !e.falling }
      let st := if u.onSpare n (coreStamp e.core s.clk.tick) (coreStamp e.spare s.clk.tick) then coreStamp e.spare s.clk.tick
        else coreStamp e.core s.clk.tick
      ((s.ch n).fifo.length < 16 → ∃ w, exec (.tdcEdge n e) s = .next (u.modCh n fun c => { c with fifo := c.fifo ++ [w] }) ∧
        w / 2 ^ 16 % 2 ^ 48 = st.tick % 2 ^ 48 ∧ w / 2 ^ 8 % 2 ^ 8 = st.coarse ∧ w / 2 ^ 64 % 64 = n.val % 48) ∧
      (16 ≤ (s.ch n).fifo.length → exec (.tdcEdge n e) s = .next
        (((u.modCh n fun c => { c with lossNext := true }).incWrap (R.TDC_LOST.LOST n)).set (R.TDC_CFG.LOSS n) 1))) ∧
    (∀ (n : Fin 1536) (e : TdcIn), s.up = true → e.tap = (s.ch n).tap → e.core.coarse < (s.synth 3).n →
      e.spare.coarse < (s.synth 3).n → s.records n e.falling e.sincePs = false →
      exec (.tdcEdge n e) s = .next (s.modCh n fun c => { c with level := !e.falling })) ∧
    (∀ (b : Fin 32) (i : Nat), s.up = true → s.clocked 3 = true → s.held (bankFunc b) = false → s.resyncing b = false →
      s.nextChannel b (s.ioBank b).last = some i → (s.ioBank b).port.length < 256 →
      exec (.hitArbiter b) s = .next (pushPort b ((s.ch (48 * b.val + i)).fifo.headD 0 +
          if (s.ch (48 * b.val + i)).lossNext then 2 ^ 64 * 4096 else 0)
        ((s.modCh (48 * b.val + i) fun c => { c with fifo := c.fifo.drop 1, lossNext := false }).modBank b fun k =>
          { k with last := i }))) ∧
    (∀ (b : Fin 32) (i : Nat), s.up = true → s.clocked 3 = true → s.held (bankFunc b) = false → s.resyncing b = false →
      s.nextChannel b (s.ioBank b).last = some i → 256 ≤ (s.ioBank b).port.length →
      exec (.hitArbiter b) s = .next (s.set (R.BANK_CTL.STREAM_FULL b) 1)) ∧
    (∀ b : Fin 32, s.get (R.BANK_CTL.WMARK_PER b) ≠ 0 → s.bankLive b = true → s.clocked 3 = true → s.clk.running = true →
      s.held (bankFunc b) = false → s.resyncing b = false →
      let tick := s.wmNext b (s.get (R.BANK_CTL.WMARK_PER b))
      (∀ i < 48, ∀ h ∈ (s.ch (48 * b.val + i)).fifo, tickLater tick (h / 65536 % tickMod) = false) →
      tickLater tick s.clk.tick = false →
      ((s.ioBank b).port.length < 256 → exec (.watermarkEmit b) s = .next (pushPort b
        (65536 * tick + 2 ^ 64 * (16384 + if s.hold then 2048 else 0)) (s.modBank b fun k => { k with wmTick := some tick }))) ∧
      (256 ≤ (s.ioBank b).port.length → exec (.watermarkEmit b) s = .next (s.set (R.BANK_CTL.STREAM_FULL b) 1))) ∧
    (∀ (b : Fin 32) (hsReady : Bool), s.up = true → s.fab.clocksOn = true →
      let a := 2 ^ 21 * bankRegion b + 2 ^ 18 + 96
      let u := recordOuts (bankRegion b) [(a, hsReady)] s
      (∀ h l, u.present a = 1 → u.fab.writes = true → u.held (bankRegion b) = false → u.resyncing b = false →
        u.fab.cutHits.contains b.val = false → (u.ioBank b).port = h :: l →
        exec (.hitPortTransfer b hsReady) s = .next (u.modBank b fun k => { k with port := l, shown := some h })) ∧
      (u.present a ≠ 1 ∨ (u.ioBank b).port = [] → exec (.hitPortTransfer b hsReady) s = .next u)) ∧
    (∀ n : Fin 1536, s.up = true →
      (s.bit (R.BANK_CTL.SPARE_GONE (n.val / 48)) (n.val % 48 / 16) = false → s.calPending n = false →
        exec (.tdcCfgCalReq n) s = .next (((s.modGroup (chGroup n) fun g => { g with queue := g.queue ++ [n.val] }).modCh n fun c =>
          { c with cal := if (s.group (chGroup n)).serving = some n.val then c.cal else 1 }).set (R.TDC_CFG.CAL_REQ n) 1)) ∧
      (s.bit (R.BANK_CTL.SPARE_GONE (n.val / 48)) (n.val % 48 / 16) = true ∨ s.calPending n = true →
        exec (.tdcCfgCalReq n) s = .next s)) ∧
    (∀ (b : Fin 32) (g : Fin 3), s.up = true → s.clocked 3 = true → (s.group (3 * b.val + g.val)).stopped = false →
      (s.group (3 * b.val + g.val)).serving = none → s.bit (R.BANK_CTL.SPARE_GONE b) g = false → s.held (bankFunc b) = false →
      (∀ n q, (s.group (3 * b.val + g.val)).queue = n :: q → exec (.tdcRotationTurn b g) s =
        .next (connectSpare n (s.modGroup (3 * b.val + g.val) fun g => { g with queue := q, byReq := true }))) ∧
      ((s.group (3 * b.val + g.val)).queue = [] →
        (∀ i, s.nextTurn (3 * b.val + g.val) = some i → i ≠ 16 → exec (.tdcRotationTurn b g) s =
          .next (connectSpare (48 * b.val + 16 * g.val + i)
            (s.modGroup (3 * b.val + g.val) fun g => { g with next := (i + 1) % 17, byReq := false }))) ∧
        (s.nextTurn (3 * b.val + g.val) = some 16 → exec (.tdcRotationTurn b g) s =
          .next ((s.modGroup (3 * b.val + g.val) fun g => { g with next := 0, byReq := false }).modGroup (3 * b.val + g.val)
            fun q => { q with serving := some (1536 + (3 * b.val + g.val)) })) ∧
        (s.nextTurn (3 * b.val + g.val) = none → exec (.tdcRotationTurn b g) s = .next s))) ∧
    (∀ n : Fin 1536, s.clocked 3 = true → (s.ch n).cal = 2 → tickLater (s.ch n).switchTick s.clk.tick = false →
      exec (.tdcCalSwitch n) s = .next ((s.modCh n fun c => { c with cal := 3 }).set (R.TDC_CFG.ON_SPARE n) 1)) ∧
    (∀ (n : Fin 1536) (counts : List Nat), s.clocked 3 = true → (s.ch n).cal = 3 →
      (∀ tab, densityTable counts = some tab →
        exec (.tdcCodeDensityDone ⟨n.val, by omega⟩ counts) s = .next ((keepTable n tab s.useFree).modCh n fun x =>
          { x with cal := 4, switchTick := s.namedTick
                   oldTable := if s.io.tableKept.contains n.val then none else some (s.binTable n) })) ∧
      (densityTable counts = none → exec (.tdcCodeDensityDone ⟨n.val, by omega⟩ counts) s =
        .next (raise 0x0602 [(2, n.val)] ((((dropQueue (chGroup n) ((s.modCh n fun x =>
          { x with cal := 6, calTick := s.clk.tick }).modGroup (chGroup n) fun g =>
            { g with stopped := true, serving := none, byReq := false })).set (R.TDC_CFG.CAL_REQ n) 0).set
              (R.TDC_CFG.CORE_FAIL n) 1).setBit (R.BANK_CTL.SPARE_GONE (n.val / 48)) (n.val % 48 / 16) true)))) ∧
    (∀ (k : Fin 96) (counts : List Nat), s.clocked 3 = true → (s.group k).serving = some (1536 + k.val) →
      let u := s.modGroup k fun g => { g with serving := none }
      (∀ tab, densityTable counts = some tab →
        exec (.tdcCodeDensityDone ⟨1536 + k.val, by omega⟩ counts) s = .next (keepTable (1536 + k.val) tab u)) ∧
      (densityTable counts = none → exec (.tdcCodeDensityDone ⟨1536 + k.val, by omega⟩ counts) s =
        .next ((dropQueue k (u.modGroup k fun g => { g with stopped := true })).setBit
          (R.BANK_CTL.SPARE_GONE (k.val / 3)) (k.val % 3) true))) ∧
    (∀ n : Fin 1536, s.clocked 3 = true → (s.ch n).cal = 4 → tickLater (s.ch n).switchTick s.clk.tick = false →
      exec (.tdcCalSwitchBack n) s =
      .next (raise 0x0603 [(2, n.val)] (((endCal n ((s.modCh n fun c => { c with cal := 5, calTick := s.clk.tick, oldTable := none }).modGroup
        (chGroup n) fun g => { g with serving := some (spareCore n), byReq := false })).set (R.TDC_CFG.ON_SPARE n) 0).setBit
          (R.BANK_CTL.SPARE_BUSY (n.val / 48)) (n.val % 48 / 16) false)))

/-- The measurement commands of Table 4-13 complete (after R107, R122, R124, R126, R128, R129). Choices of the model in
it: assumptions 10, 11, 47, 49, 50, 51, 52, 176, 196. -/
def Obligations.MeasureCommandsComplete : Prop :=
  ∀ (mb : Fin 16) (s : State),
    (∀ n, s.serves mb 0x0600 [(2, n)] → n < 1536 → Completes (.pinGet mb n) mb s stOk (pack [(4, s.cardWord (0xA00000 + 4 * n)),
      (4, s.cardWord (0xA02000 + 4 * n)), (4, s.get (R.TDC_LOST.LOST n))]) (s.begun mb)) ∧
    (∀ n v, s.serves mb 0x0601 [(2, n), (4, v)] → n < 1536 → s.pinsOpen = true → fieldOf (R.PIN_CFG.STD n) v = s.get (R.PIN_CFG.STD n) →
      fieldOf (R.PIN_CFG.DIR n) v = s.get (R.PIN_CFG.DIR n) → fieldOf (R.PIN_CFG.SAFE n) v = s.get (R.PIN_CFG.SAFE n) →
      Completes (.pinSet mb n v) mb s stOk [] (writeFields (fieldsAt (0xA00000 + 4 * n)) v (s.begun mb))) ∧
    (∀ n v, s.serves mb 0x0602 [(2, n), (4, v)] → n < 1536 → s.tdcTested n = false →
      Completes (.tdcSet mb n v) mb s stOk [] (writeTdcCfg n v (s.begun mb))) ∧
    (∀ n, s.serves mb 0x0603 [(2, n)] → n < 1536 → s.tdcTested n = false →
      Completes (.tdcCal mb n) mb s (calRequest n (s.begun mb)).1 [] (calRequest n (s.begun mb)).2) ∧
    (∀ n, s.serves mb 0x0604 [(2, n)] → n < 1536 → s.tdcTested n = false →
      let st := match (s.ch n).cal with | 0 => 0 | 1 => 1 | 5 => 3 | 6 => 4 | _ => 2
      Completes (.tdcStat mb n) mb s stOk (pack [(1, if st ≠ 2 ∧ (s.group (chGroup n)).queue.contains n then 1 else st), (6, (s.ch n).calTick), (2, Config.binChecksum (s.binTable n) % 65536)])
        (s.begun mb)) ∧
    (∀ first count tick, s.serves mb 0x0605 [(2, first), (1, count), (6, tick)] → first < 1536 → 1 ≤ count → count ≤ 48 →
      first / 48 = (first + count - 1) / 48 → s.tickAhead tick = true →
      Completes (.tpArm mb first count tick) mb s stOk [] (forEach ((List.range count).map (first + ·)) (fun n u => u.modCh n fun c =>
        { c with armed := if c.armed.contains tick then c.armed else c.armed ++ [tick] }) (s.begun mb))) ∧
    (∀ k code, s.serves mb 0x0606 [(1, k), (2, code)] → k < 16 → code < 4096 → s.held 0xB1 = false →
      exec (.dacSet mb k code) s = .next (loadDac k ⟨2, code, s.serial mb⟩ (s.begun mb))) ∧
    (∀ i, s.serves mb 0x0607 [(1, i)] → i < 8 →
      Completes (.adcGet mb i) mb s stOk (pack [(4, s.cardWord (0xB00400 + 4 * (128 + i)))]) (s.begun mb)) ∧
    (∀ first count, s.serves mb 0x0608 [(1, first), (1, count)] → 1 ≤ count → count ≤ 32 → first + count ≤ 192 →
      Completes (.hkpRead mb first count) mb s stOk
        (pack ((List.range count).map fun k => (4, s.cardWord (0xB00400 + 4 * (first + k))))) (s.begun mb)) ∧
    (∀ m, s.serves mb 0x0609 [(24, m)] → (m % 2 ^ 96 = 0 →
        Completes (.hkpMask mb m) mb s stOk [] ((s.begun mb).modIo fun i => { i with hkpMask := m })) ∧
      (m % 2 ^ 96 ≠ 0 → Completes (.hkpMask mb m) mb s stBadArg [] (s.begun mb)))

/-! ## Flip-flops, clock nets, pillars and seams -/

/-- The flip-flops of a running region take their next values by rows 2 to 5 of Table 5-7: at an edge of their local
clock wire, at a rising edge that all four stages of their net pass, at the falling edge that follows it, and between
edges by an asynchronous set/reset; their data inputs come from the tables and carry stages of their cells, and no
register and no memory changes at an edge of a local wire or between edges (after R133–R139, R150, R160, R161). While
the global or region set/reset is held, or a fence holds the region, no edge of a region changes a flip-flop, a block
memory or an arithmetic block (after R139, R142, R143, R181). An edge that a stage of its net does not pass changes none
either (after R150). Choices of the model in it: assumptions 53, 55, 57, 62, 215. -/
def Obligations.FlipFlopTakesItsNextValue : Prop :=
  (∀ (s : State) (i : FabIn) (u : CluIn) (x : CellIn), s.up = true → i.clu = [u] → u.cells = [x] → u.hazard = 0 →
    (∀ (r : Fin 128) (falling : Bool) (via : Option Nat), (s.gate (16 * r.val)).isOpen = true → s.frozen r = false →
      via.all s.wirePasses = true →
      ∃ t, exec (.flipFlopEdge (.wire r u.cluster falling false via i)) s = .next t ∧
        FollowsTable57 s t r (some ⟨16, falling, false⟩) i u x ∧
        t.regs = s.regs ∧ t.bm = s.bm ∧ t.cache = s.cache ∧ t.bulk = s.bulk) ∧
    (∀ n : Fin 2048, s.passesNext n = true → (s.gate n).isOpen = true → s.frozen (n.val / 16) = false →
      at' s.fab.rel n 0 = 0 → at' s.fab.skip (2 * n.val) 0 = 0 → (s.ctxR (n.val / 16)).due = [] →
      ∃ t, exec (.flipFlopEdge (.net n false i)) s = .next t ∧
        FollowsTable57 s t (n.val / 16) (some ⟨n.val % 16, false, false⟩) i u x ∧ t.acted n false = true ∧
        n.val ∈ t.fab.high ∧ t.cache = s.cache ∧ t.bulk = s.bulk) ∧
    (∀ n : Fin 2048, n.val ∈ s.fab.high → s.frozen (n.val / 16) = false → at' s.fab.rel n 0 = 0 →
      at' s.fab.skip (2 * n.val + 1) 0 = 0 →
      ∃ t, exec (.flipFlopEdge (.net n true i)) s = .next t ∧
        FollowsTable57 s t (n.val / 16) (some ⟨n.val % 16, true, false⟩) i u x ∧ t.acted n true = true ∧
        n.val ∉ t.fab.high ∧ t.regs = s.regs ∧ t.bm = s.bm) ∧
    (∀ r : Fin 128, s.frozen r = false →
      ∃ t, exec (.flipFlopEdge (.between r i)) s = .next t ∧ FollowsTable57 s t r none i u x ∧
        t.regs = s.regs ∧ t.bm = s.bm ∧ t.cache = s.cache ∧ t.bulk = s.bulk)) ∧
  ((∀ (s : State) (e : FfEdge) (r : Nat), s.srHeld r = true ∨ s.flag (R.BORDER_STAT.FENCED r) = true →
    (∀ d ∈ (s.ctxR r).due, d.1 ≠ s.activePlane r) →
    (∃ n falling i, e = .net n falling i ∧ n.val / 16 = r) ∨ (∃ q c f w v i, e = .wire q c f w v i ∧ q.val = r) ∨
      (∃ q i, e = .between q i ∧ q.val = r) →
    ∃ t, exec (.flipFlopEdge e) s = .next t ∧ t.fab.ff = s.fab.ff ∧ t.bm = s.bm) ∧
  (∀ (s : State) (n : Fin 2048) (i : FabIn), s.up = true → s.passesNext n = false →
    ∃ t, exec (.flipFlopEdge (.net n false i)) s = .next t ∧ t.fab.ff = s.fab.ff ∧ t.bm = s.bm ∧ t.acted n false = false) ∧
  (∀ (s : State) (n : Fin 2048) (i : FabIn), n.val ∉ s.fab.high → exec (.flipFlopEdge (.net n true i)) s = .next s))

/-- A net that the shed gate slows to P passes exactly P of every 16 edges that leave its enable gate (after R155). -/
def Obligations.ShedGatePassesP : Prop :=
  ∀ (s : State) (n p : Nat), s.get (R.RCN_CFG.SHED_PASS n) = p → 1 ≤ p → p ≤ 16 → at' s.fab.phase n 0 = 0 →
    let run := (List.range 16).foldl (fun (a : Nat × State) _ =>
      (a.1 + if (shedStep n a.2).1 then 1 else 0, (shedStep n a.2).2)) (0, s)
    run.1 = p ∧ at' run.2.fab.phase n 0 = 0

/-- The events of region clock nets, of bidirectional pillars and of seam trees act when they are due (after R151–R153,
R156, R157, R174, R192). A pillar reads 0 with no driver enabled or with both held off, and else the value of its one
driver (after R173, R174). At an edge of a seam's tree every signal moves one register further: launch, two bridge
registers, capture (after R187, R189, Table 6-12). The launch stage takes what the border stage of the driving region
presents (after R191); a fenced signal, one that the active plane leaves unused, and every signal of a port that is off
present 0 (after R187, R188, R193). Without its tree a port keeps its registers (after R192). Choices of the model in
it: assumptions 53, 55, 58, 59, 184, 197, 215. -/
def Obligations.FabricEventsComplete : Prop :=
  (∀ s : State,
    (∀ (n : Fin 2048) (sel dead : Bool),
      let side := sel && s.flag (R.RCN_CFG.SW_EN n)
      n.val ∈ s.fab.switching ∨ s.flag (R.RCN_CFG.ACT_SRC n) ≠ side →
      let u := (s.modFab fun f => { f with switching := f.switching.filter fun k => k != n.val
                                           lost := f.lost.filter fun k => k != n.val }).setB (R.RCN_CFG.ACT_SRC n) side
      exec (.clockSwitchComplete n sel dead) s = .next (if dead = true then u.set (R.RCN_CFG.SW_DEAD n) 1 else u)) ∧
    (∀ (n : Fin 2048) (en : Bool), s.flag (R.RCN_CFG.CE_EN n) = true → ∃ t, exec (.clockEnableChange n en) s = .next t ∧
      (n.val ∈ t.fab.ceLow ↔ en = false) ∧ (∀ k, k ≠ n.val → (k ∈ t.fab.ceLow ↔ k ∈ s.fab.ceLow)) ∧ t.regs = s.regs) ∧
    (∀ n : Fin 2048, s.up = true → n.val ∉ s.fab.lost → sourceIn (n.val / 16) (s.netSrc n) = true → ∃ t, exec (.fabSourceLost n) s =
      .next (raise 0x0220 [(1, n.val / 16), (1, n.val % 16)] t) ∧ n.val ∈ t.fab.lost ∧ n.val ∉ t.fab.high ∧
        t = ((s.set (R.RCN_CFG.SRC_LOST n) 1).set (R.RCN_CFG.RUNNING n) 0).modFab fun _ => t.fab) ∧
    (∀ n : Fin 2048, exec (.fabSourceReturn n) s = .next (s.modFab fun f => { f with lost := f.lost.filter fun k => k != n.val })) ∧
    (∀ n : Fin 2048, at' s.fab.phase n.val 0 = 0 → (s.flag (R.RCN_CFG.SHEDDABLE n) = true →
        exec (.shedPassUpdate n) s = .next (s.set (R.RCN_CFG.SHED_PASS n) (s.get R.THERM_STAT.P))) ∧
      (s.flag (R.RCN_CFG.SHEDDABLE n) = false → exec (.shedPassUpdate n) s = .next (s.set (R.RCN_CFG.SHED_PASS n) 16))) ∧
    (∀ (r : Fin 128) (c : Fin 3136) (k : Fin 8), let a := pillarAddr r c (24 + k.val)
      s.hasActive r = true → a ∉ s.fab.pillarOff → exec (.pillarContention r c k false) s =
        .next (if s.pillarEn a 0 = true ∧ s.pillarEn a 1 = true then raise 0x0221 [(4, a)]
          (((((logEss 5 0 a 0xFFFF 0 0 (s.modFab fun f => { f with pillarOff := a :: f.pillarOff })).set
            R.PIL_STAT.PIL_CONT 1).inc R.PIL_STAT.PIL_COUNT).set R.PIL_STAT.PIL_ACTIVE 1).set R.PIL_LAST.ADDR a) else s)) ∧
    (∀ (r : Fin 128) (c : Fin 3136) (k : Fin 8), let a := pillarAddr r c (24 + k.val)
      exec (.pillarContention r c k true) s = .next (if s.pillarEn a 0 = true ∨ s.pillarEn a 1 = true then s
        else (s.modFab fun f => { f with pillarOff := f.pillarOff.filter fun x => x != a }).setB R.PIL_STAT.PIL_ACTIVE
          ((s.fab.pillarOff.filter fun x => x != a) != []))) ∧
    (∀ a : Nat, (a ∈ s.fab.pillarOff → s.pillar a = false) ∧
      (s.pillar a = true → s.pillarEn a 0 = true ∨ s.pillarEn a 1 = true) ∧
      (a ∉ s.fab.pillarOff → s.pillarEn a 0 = true → s.pillarEn a 1 = false → s.pillar a = (at' s.fab.pil a 0).testBit 2) ∧
      (a ∉ s.fab.pillarOff → s.pillarEn a 0 = false → s.pillarEn a 1 = true → s.pillar a = (at' s.fab.pil a 0).testBit 3)) ∧
    (∀ p : Fin 24, s.up = true → s.get (R.SEAM_CFG.SEAM_CLK p) ≠ 7 → s.fab.seamLost.contains p.val = false →
      exec (.seamClockLost p) s = .next (raise 0x0220 [(1, p.val)] (((s.modFab fun f =>
        { f with seamLost := p.val :: f.seamLost }).set (R.SEAM_CFG.CLK_LOST p) 1).set (R.SEAM_CFG.RUNNING p) 0)))) ∧
  (∀ (s : State) (p : Fin 24) (k : Nat) (l : List (Nat × Bool)), k < 2 * seamWidth p →
    (s.seamRuns p = true → sorted s.fab.seam = true →
      ∃ t, exec (.flipFlopEdge (.seam p l)) s = .next t ∧
        at' t.fab.seam (seamKey p k 0) 0 = (if t.present (seamAddr p k) = 1 then 1 else 0) ∧
        at' t.fab.seam (seamKey p k 1) 0 = at' s.fab.seam (seamKey p k 0) 0 ∧
        at' t.fab.seam (seamKey p k 2) 0 = at' s.fab.seam (seamKey p k 1) 0 ∧
        (t.capture p k = 0 ∨ t.capture p k = at' s.fab.seam (seamKey p k 2) 0) ∧
        (s.fab.seamFenced.contains (seamAddr p k) = false →
          Config.planeDrives (s.frames (seamDriver p k)) (seamAddr p k) = true →
          t.capture p k = at' s.fab.seam (seamKey p k 2) 0)) ∧
    (s.fab.seamFenced.contains (seamAddr p k) = true ∨ s.get (R.SEAM_CFG.SEAM_CLK p) = 7 ∨
      Config.planeDrives (s.frames (seamDriver p k)) (seamAddr p k) = false → s.capture p k = 0) ∧
    (s.seamRuns p = false → exec (.flipFlopEdge (.seam p l)) s = .next s))

/-! ## Block memories and arithmetic blocks -/

/-- What port A writes, a read of the same row through port B returns, lane by lane, at the widths of the two ports,
with `UNWR` = 0, and with no error where A wrote every lane read (after R198–R200, R203, R204). With an output register
it reaches `DOUT` at an edge with `OCE` (after R200). When port A writes a row that port B accesses at the same edge,
lanes written by both take the data of port A, the other lanes that B writes take B's, port B reports `COLL` and
`BM_STAT.COLL` is set (after R206, R208, Table 7-4). Choices of the model in it: assumptions 62, 65, 67, 199, 215, 219.
-/
def Obligations.BlockMemoryPortsAgree : Prop :=
  (∀ (s : State) (m : Fin 12288) (a b : BmIn), s.get (R.BM_STAT.CODE m) < 3 → s.portRuns m 0 = true → s.portRuns m 1 = true →
    s.fab.writes = true → s.flag (R.BM_STAT.CLR_BUSY m) = false → a.en = true → a.clr = false → b.en = true → b.we = 0 →
    let ca := s.bmCfg m 0
    let cb := s.bmCfg m 1
    let w := laneBits (s.get (R.BM_STAT.CODE m))
    bmMask ca a ≠ 0 → bmRow ca a = bmRow cb b →
    ∃ t u, exec (.bmPortAccess m (some a) none) s = .next t ∧ exec (.bmPortAccess m none (some b)) t = .next u ∧
      (∀ j, j < bmLanes cb → (bmMask ca a).testBit (bmLane cb b + j) = true →
        laneOf w (u.bmPort m 1).rDout j = laneOf w (bmData ca a w) (bmLane cb b + j)) ∧
      (u.bmPort m 1).rUnwr = false ∧
      (Nat.land (bmSpan cb b) (bmMask ca a) = bmSpan cb b → (u.bmPort m 1).rCor = false ∧ (u.bmPort m 1).rUnc = false) ∧
      (u.bmPort m 1).dout = if cb.oreg = false then (u.bmPort m 1).rDout
        else if b.oce = true then (t.bmPort m 1).rDout else (t.bmPort m 1).dout) ∧
  (∀ (s : State) (m : Fin 12288) (a b : BmIn), s.get (R.BM_STAT.CODE m) < 3 → s.portRuns m 0 = true → s.portRuns m 1 = true →
    s.fab.writes = true → s.flag (R.BM_STAT.CLR_BUSY m) = false → a.en = true → a.clr = false → b.en = true →
    let ca := s.bmCfg m 0
    let cb := s.bmCfg m 1
    let w := laneBits (s.get (R.BM_STAT.CODE m))
    bmMask ca a ≠ 0 → bmRow ca a = bmRow cb b →
    ∃ t v, exec (.bmPortAccess m (some a) (some b)) s = .next t ∧ lookup t.bm.rows (1024 * m.val + bmRow ca a) = some v ∧
      (∀ k, k < 4 → (bmMask ca a).testBit k = true → laneOf w v k = laneOf w (bmData ca a w) k) ∧
      (∀ k, k < 4 → (bmMask ca a).testBit k = false → (bmMask cb b).testBit k = true →
        laneOf w v k = laneOf w (bmData cb b w) k) ∧
      (t.bmPort m 1).rColl = true ∧ (cb.oreg = false → (t.bmPort m 1).coll = true) ∧ t.flag (R.BM_STAT.COLL m) = true)

/-- A read of an unwritten row, on either port, returns 0 with `UNWR` = 1, `COR` = 0 and `UNC` = 0, and sets no error
flag; the first write to it makes the whole row valid: lanes that the port does not write are filled with 0, and no lane
holds an error of its check bits (after R203). -/
def Obligations.UnwrittenRowReadsZeroAndIsWrittenWhole : Prop :=
  ∀ (s : State) (m : Fin 12288) (p : Fin 2) (i : BmIn), s.get (R.BM_STAT.CODE m) ≠ 3 → s.portRuns m p = true →
    i.en = true → i.clr = false → let c := s.bmCfg m p
    lookup s.bm.rows (1024 * m.val + bmRow c i) = none →
    let access := if p = 0 then Instr.bmPortAccess m (some i) none else Instr.bmPortAccess m none (some i)
    (i.we = 0 → ∃ t, exec access s = .next t ∧ (t.bmPort m p).rDout = 0 ∧ (t.bmPort m p).rUnwr = true ∧
      (t.bmPort m p).rCor = false ∧ (t.bmPort m p).rUnc = false ∧
      (c.oreg = false → (t.bmPort m p).dout = 0 ∧ (t.bmPort m p).unwr = true ∧ (t.bmPort m p).cor = false ∧
        (t.bmPort m p).unc = false) ∧ t.regs = s.regs ∧ t.bm.rows = s.bm.rows) ∧
    (bmMask c i ≠ 0 → s.fab.writes = true → s.flag (R.BM_STAT.CLR_BUSY m) = false →
      ∃ t v, exec access s = .next t ∧ lookup t.bm.rows (1024 * m.val + bmRow c i) = some v ∧
        ∀ k, k < 4 → lookup t.bm.inj (4 * (1024 * m.val + bmRow c i) + k) = none ∧
          laneOf (laneBits (s.get (R.BM_STAT.CODE m))) v k =
            if (bmMask c i).testBit k then laneOf (laneBits (s.get (R.BM_STAT.CODE m)))
              (bmData c i (laneBits (s.get (R.BM_STAT.CODE m)))) k else 0)

/-- The frame of a port access: a row that no port addresses, and a row at which no port writes a lane, keep contents,
check bits and valid bit, in this and in every other memory; and so do the flip-flops, the cache and the Bulk Store
(after R200, R202). Choices of the model in it: assumptions 62, 65, 67, 215, 219. -/
def Obligations.PortAccessWritesOnlyItsRow : Prop :=
  ∀ (s t : State) (m : Fin 12288) (pa pb : Option BmIn), exec (.bmPortAccess m pa pb) s = .next t →
    t.fab = s.fab ∧ t.cache = s.cache ∧ t.bulk = s.bulk ∧ t.bm.ab = s.bm.ab ∧
    ∀ key code c, (∀ a, pa = some a → key = 1024 * m.val + bmRow (s.bmCfg m 0) a → bmMask (s.bmCfg m 0) a = 0 ∨ s.fab.writes = false) →
      (∀ a, pb = some a → key = 1024 * m.val + bmRow (s.bmCfg m 1) a → bmMask (s.bmCfg m 1) a = 0 ∨ s.fab.writes = false) →
      lookup t.bm.rows key = lookup s.bm.rows key ∧
      readRow t.bm.rows t.bm.inj 4 code key c = readRow s.bm.rows s.bm.inj 4 code key c

/-- At an edge of an arithmetic block that the active plane uses: the pre-adder adds or subtracts as `PRE_SUB` says, its
sum is limited to the 24-bit range and a limited value sets `PRE_SAT`; the product of the operand and `B`, negated under
`NEG`, is added to the addend that `ZSEL` chooses; `P` wraps or saturates as `SAT` says and `OVF` is set on a signed
overflow; each `OVF` and `PRE_SAT` sets the sticky bit of the block (after R212, R213; registers and their enables by
R214 and R215; that the block above in the column has the number before is assumption 66). -/
def Obligations.ArithmeticBlockMultipliesAndAdds : Prop :=
  ∀ (s : State) (r : Fin 128) (k : Fin 160) (i : AbIn), i.rst = false →
    let cfg := s.abCfg r k
    s.hardRuns r = true → s.acted (16 * r.val + cfg.net) cfg.falling = true →
    let q := s.abReg r k
    let a : Int := if cfg.ireg then q.a.toInt else i.a.toInt
    let d : Int := if cfg.ireg then q.d.toInt else i.d.toInt
    let b : Int := if cfg.ireg then q.b.toInt else i.b.toInt
    let c : Int := if cfg.ireg then q.c.toInt else i.c.toInt
    let sub := if cfg.ireg then q.preSub else i.preSub
    let neg := if cfg.ireg then q.neg else i.neg
    let zsel := if cfg.ireg then q.zsel else i.zsel.val
    let sum := if cfg.preEn = false then a else if sub then a - d else a + d
    let limited := if sum < -8388608 then -8388608 else if 8388607 < sum then 8388607 else sum
    let dreg := cfg.dreg && cfg.preEn
    let operand := if dreg then q.opnd.toInt else limited
    let product := if neg then -(operand * b) else operand * b
    let z : Int := match zsel with
      | 0 => 0 | 1 => q.p.toInt | 2 => c
      | _ => if k.val % 8 = 0 then 0 else (s.abReg r (k.val - 1)).p.toInt
    let v := (if cfg.mreg then q.m.toInt else product) + z
    let satEnabled := if dreg then i.ceD else i.ceM
    ∃ t, exec (.abEdge r k i) s = .next t ∧ (cfg.used = false → t = s) ∧ (cfg.used = true →
      (i.ceP = true → ((t.abReg r k).ovf = true ↔ v < -(2 ^ 63) ∨ 2 ^ 63 ≤ v) ∧
        (cfg.sat = false → (t.abReg r k).p = BitVec.ofInt 64 v) ∧
        (cfg.sat = true → (t.abReg r k).p.toInt = if v < -(2 ^ 63) then -(2 ^ 63) else if 2 ^ 63 ≤ v then 2 ^ 63 - 1 else v)) ∧
      (i.ceM = true → (t.abReg r k).m.toInt = product) ∧
      (dreg = true → i.ceD = true → (t.abReg r k).opnd.toInt = limited) ∧
      (satEnabled = true → ((t.abReg r k).preSat = true ↔ limited ≠ sum)) ∧
      (t.bit (R.AB_FLAG.FLAG r (k.val / 32)) (k.val % 32) =
        (s.bit (R.AB_FLAG.FLAG r (k.val / 32)) (k.val % 32) || (i.ceP && (t.abReg r k).ovf) ||
          (satEnabled && (t.abReg r k).preSat))) ∧
      (∀ r' k', 160 * r' + k' ≠ 160 * r.val + k.val → t.abReg r' k' = s.abReg r' k') ∧ t.bm.rows = s.bm.rows ∧ t.fab = s.fab)

/-- A bulk clear starts on `CLR`, on `BM_STAT.CLR` and on `BM_CLEAR`, never for a memory in use by the last two, and
leaves every row of the memory unwritten when it is done; the commands of Table 7-10 answer (after R205, R222, Tables
7-8, 7-10). Choices of the model in it: assumptions 10, 11, 67. -/
def Obligations.BulkClearAndHardBlockCommandsComplete : Prop :=
  ∀ (mb : Fin 16) (s : State),
    (∀ m : Fin 12288, s.get (R.BM_STAT.CODE m) ≠ 3 → s.portRuns m 0 = true → exec (.bmClrInput m) s =
      .next (s.set (R.BM_STAT.CLR_BUSY m) 1)) ∧
    (∀ m : Fin 12288, s.flag (R.BM_STAT.CLR_BUSY m) = true → ∃ t, exec (.bmBulkClearDone m) s = .next t ∧
      t.flag (R.BM_STAT.CLR_BUSY m) = false ∧
      t.get (R.BM_STAT.CODE m) = s.get (R.BM_STAT.CODE m) ∧ (∀ row, row < 1024 → lookup t.bm.rows (1024 * m.val + row) = none) ∧
      ∀ key, key / 1024 ≠ m.val → lookup t.bm.rows key = lookup s.bm.rows key) ∧
    (∀ m : Fin 12288, s.up = true → (s.bmInUse m = false → exec (.bmStatClr m) s =
        .next ((s.set (R.BM_STAT.CLR_BUSY m) 1).set (R.BM_STAT.CLR m) 1)) ∧
      (s.bmInUse m = true → exec (.bmStatClr m) s = .next s)) ∧
    (∀ r m, s.serves mb 0x0380 [(1, r), (1, m)] → r < 128 → m < 96 → s.test.busy.contains r = false →
      (s.bmInUse (96 * r + m) = false → Completes (.bmClear mb r m) mb s stOk []
        ((s.begun mb).set (R.BM_STAT.CLR_BUSY (96 * r + m)) 1)) ∧
      (s.bmInUse (96 * r + m) = true → Completes (.bmClear mb r m) mb s stDenied [] (s.begun mb))) ∧
    (∀ r, s.serves mb 0x0380 [(1, r), (1, 255)] → r < 128 → s.test.busy.contains r = false →
      let all := (List.range 96).map (96 * r + ·)
      let t := forEach all (fun m u => if u.bmInUse m then u else u.set (R.BM_STAT.CLR_BUSY m) 1) (s.begun mb)
      (all.any s.bmInUse = false → Completes (.bmClear mb r 255) mb s stOk [] t) ∧
      (all.any s.bmInUse = true → Completes (.bmClear mb r 255) mb s stDenied [] t)) ∧
    (∀ r first count, s.serves mb 0x0381 [(1, r), (1, first), (1, count)] → r < 128 → 1 ≤ count → count ≤ 16 →
      first + count ≤ 96 → s.test.busy.contains r = false → Completes (.bmGet mb r first count) mb s stOk
        (pack ((List.range count).map fun k => (4, s.cardWord (0x200000 + 4 * (96 * r + first + k))))) (s.begun mb)) ∧
    (∀ r, s.serves mb 0x0382 [(1, r), (1, 0)] → r < 128 → Completes (.abFlags mb r 0) mb s stOk
      (pack ((List.range 5).map fun w => (4, s.get (R.AB_FLAG.FLAG r w)))) (s.begun mb)) ∧
    (∀ r, s.serves mb 0x0382 [(1, r), (1, 1)] → r < 128 → Completes (.abFlags mb r 1) mb s stOk
      (pack ((List.range 5).map fun w => (4, s.get (R.AB_FLAG.FLAG r w))))
      (forEach (List.range 5) (fun w s => s.set (R.AB_FLAG.FLAG r w) 0) (s.begun mb)))

/-! ## Contexts: swaps, swap sets, rotation, capture -/

/-- The swap edge: at an edge that the context clock has made, outside a swap cycle and its c1, an accepted request,
from a swap set, the host or the region's port, saves the live flip-flops in the shadow of the outgoing plane, brings
back those of the incoming plane, exchanges Active and Hood, counts the swap, and leaves every block memory, arithmetic
block and cache row alone (after R216, R225, R231, R238). Choices of the model in it: assumptions 53, 56, 57, 215. -/
def Obligations.SwapExchangesPlaneAndState : Prop :=
  ∀ (s : State) (r : Fin 128) (port : Option (Fin 4)) (got : Bool) (x : SwapSrc) (q : Nat), (s.ctxR r).edge = true → s.hasActive r = true →
    (s.ctxR r).inSwap = false → (s.ctxR r).c1 ≠ 2 → s.requests r port got = [(x, q)] → q < 4 → q ≠ s.activePlane r →
    s.activePlane r < 4 → s.swapReason r q (match x with | .host _ => true | _ => false) = none → (s.ctxR r).ow = 0 →
    sorted (s.plane r q).shadow = true →
    ∃ t, exec (.swapEdge r port got) s = .next t ∧ t.activePlane r = q ∧ t.planeState r q = psActive ∧
      t.planeState r (s.activePlane r) = psHood ∧ (t.plane r (s.activePlane r)).shadow = s.live r ∧
      (∀ i, i < 200704 → t.ffVal r i = ((Config.cell (s.plane r q).stored (i / 2)).used &&
        match lookup (s.plane r q).shadow i with
        | some v => v != 0
        | none => Config.ffInit (s.plane r q).stored i)) ∧
      t.get (R.CTX_STAT.SWAP_CNT r) = (s.get (R.CTX_STAT.SWAP_CNT r) + 1) % 2 ^ 13 ∧ (t.ctxR r).inSwap = true ∧
      (t.ctxR r).sets = (if (got || s.ctxAligned r) = true then [] else (s.ctxR r).sets) ∧
      (t.ctxR r).host = (if got = true ∧ s.clocked 9 = true then none else (s.ctxR r).host) ∧
      t.bm.rows = s.bm.rows ∧ t.bm.ports = s.bm.ports ∧ t.bm.ab = s.bm.ab ∧ t.cache = s.cache

/-- The other events of swaps and of capture act when they are due (after R229, R240–R242, R245, R248, R250–R254, R583).
A port request that Table 8-5 refuses leaves the region on its plane and sets `NACK` and `REASON`; at c1 of a swap it is
refused with reason 5, unless one of the reasons before it applies (after R244–R246). Choices of the model in it:
assumptions 10, 42, 53, 56, 57, 69, 70, 71, 73, 74, 215, 217. -/
def Obligations.ContextEventsComplete : Prop :=
  (∀ (s : State) (r : Fin 128),
    ((s.ctxR r).inSwap = true → s.passesNext (s.ctxNet r) = true → ∃ t, exec (.swapCycleEnd r) s = .next t ∧
      (t.ctxR r).inSwap = false ∧ (t.ctxR r).c1 = 1 ∧ t.activePlane r = s.activePlane r ∧ t.fab.ff = s.fab.ff) ∧
    (∀ n q, (s.ctxR r).host = some (n, q) → exec (.hostSwapTimeout r false) s = .next (finishCmd n stTimeout [] false
      (nackRegion r 7 (s.modCtx r fun c => { c with host := none })))) ∧
    (∀ n q, (s.ctxR r).host = some (n, q) → (s.ctxR r).sets = [] → s.clocked 9 = true → s.swapReason r q true = none →
      (s.ctxR r).edge = true → s.hasActive r = true → (s.ctxR r).inSwap = false → (s.ctxR r).c1 ≠ 2 →
      let u := (finishCmd n stOk [] true s).modCtx r fun c => { c with sets := [], host := none }
      exec (.hostSwapTimeout r true) s = .next (if q = s.activePlane r then u else swapEdge r q u)) ∧
    (∀ k q t rest, (s.ctxR r).sets = (k, q, t) :: rest → 16 ≤ s.since t → (∀ e ∈ rest, s.since e.2.2 < 16) →
      (s.ctxR r).rotStart = none → exec (.swapMemberTimeout r) s =
        .next (refuseMember k t r 7 (s.modCtx r fun c => { c with sets := rest }))) ∧
    (∀ t, (s.ctxR r).sets = [] → (s.ctxR r).rotStart = some t → t ≠ 0 → s.clk.running = true → tickLater t s.clk.tick = false →
      16 ≤ s.since t → exec (.swapMemberTimeout r) s =
        .next (refuseRotation r t 7 (s.modCtx r fun c => { c with sets := [] }))) ∧
    (∀ (k w : Fin 16) (v : BitVec 32), s.up = true → s.flag (R.SWAP_CTL.ARMED k) = true →
      exec (.swapTgtWrite k w v) s = .next (s.set (R.SWAP_CTL.WR_DROP k) 1)) ∧
    (∀ (k w : Fin 16) (v : BitVec 32) (i : Fin 8), s.up = true → s.flag (R.SWAP_CTL.ARMED k) = false → ∃ t,
      exec (.swapTgtWrite k w v) s = .next t ∧ t.get (R.SWAP_TGT.PLANE k w i) = v.toNat / 2 ^ (4 * i.val) % 4 ∧
        t.get (R.SWAP_TGT.MEMBER k w i) = v.toNat / 2 ^ (4 * i.val + 3) % 2) ∧
    (∀ got : Bool, (s.ctxR r).edge = true → s.flag (R.CTX_CFG.ROT_EN r) = true → (s.ctxR r).inSwap = false →
      (¬ (s.runClass = true ∧ s.borderCause r < 2) → exec (.rotationEdge r got) s = .next (endRotation r s)) ∧
      (s.runClass = true → s.borderCause r < 2 → s.flag (R.CTX_STAT.ROTATING r) = false → ∀ t, (s.ctxR r).rotStart = some t →
        (t = 0 ∧ got = true) ∨ (t ≠ 0 ∧ (got = true ∨ s.ctxAligned r = true) ∧ s.clk.running = true ∧
          tickLater t s.clk.tick = false ∧ s.since t < 16) →
        (∀ q ∈ s.rotOrder r, s.swapReason r q false = none) →
        exec (.rotationEdge r got) s = .next (startRotation r (rotateTo r ((s.rotOrder r).getD 0 0) s))) ∧
      (s.runClass = true → s.borderCause r < 2 → s.flag (R.CTX_STAT.ROTATING r) = false → ∀ t, (s.ctxR r).rotStart = some t →
        got = false → t = 0 ∨ s.ctxAligned r = false → exec (.rotationEdge r got) s = .next s) ∧
      (s.runClass = true → s.borderCause r < 2 → s.flag (R.CTX_STAT.ROTATING r) = true →
        ((s.ctxR r).rotPos + 1 < (s.rotOrder r).length → exec (.rotationEdge r got) s =
          .next ((rotateTo r ((s.rotOrder r).getD ((s.ctxR r).rotPos + 1) 0) s).modCtx r fun c =>
            { c with rotPos := c.rotPos + 1 })) ∧
        ((s.rotOrder r).length = (s.ctxR r).rotPos + 1 → (∀ q, (s.ctxR r).rotStop ≠ some (q, true)) →
          exec (.rotationEdge r got) s = .next ((rotateTo r ((s.rotOrder r).getD 0 0) s).modCtx r fun c =>
            { c with rotPos := 0, rotStop := (s.ctxR r).rotStop.map fun e => (e.1, got) })) ∧
        (∀ q, (s.rotOrder r).length = (s.ctxR r).rotPos + 1 → (s.ctxR r).rotStop = some (q, true) →
          exec (.rotationEdge r got) s = .next (endRotation r (rotateTo r q s))))) ∧
    (∀ (portReq atSwap : Bool) (race : List (Fin 200704 × Bool)),
      let port := portReq && (if atSwap then (s.ctxR r).portWas else s.flag (R.CTX_CFG.PORT_EN r)) && s.fab.writes
      let p := if atSwap then (s.ctxR r).swapFrom else s.activePlane r
      let answer := fun (st : Nat) (res : List Nat) (u : State) =>
        match (s.ctxR r).capReq with | some n => finishCmd n st res false u | none => u
      let s0 := s.modCtx r fun c => { c with capReq := none }
      (if atSwap then (s.ctxR r).inSwap else (s.ctxR r).edge) = true → s.hasActive r = true →
      port = true ∨ (s.ctxR r).capReq.isSome = true →
      (s.capBarred r p = true → exec (.captureEdge r portReq atSwap race) s = .next (answer stDenied [] s0)) ∧
      (s.capBarred r p = false → s.flag (R.CAP_STAT.FULL r) = true →
        exec (.captureEdge r portReq atSwap race) s = .next (answer stNoResource [] (s0.set (R.CAP_STAT.REFUSED r) 1))) ∧
      (s.capBarred r p = false → s.flag (R.CAP_STAT.FULL r) = false →
        let u := takeCapture r ⟨p, false, atSwap, s.clk.tick, (s.plane r p).prot, (s.plane r p).imageId, (s.plane r p).frames,
          if atSwap then (s.plane r p).shadow else s.raced r race (s.live r)⟩ s0
        exec (.captureEdge r portReq atSwap race) s = .next (answer stOk (pack [(1, p), (6, s.clk.tick)])
          (if port then u.modCtx r fun c => { c with capDone := true } else u))))) ∧
  (∀ (s : State) (r : Fin 128) (q : Fin 4) (got : Bool), (s.ctxR r).edge = true → s.hasActive r = true → (s.ctxR r).inSwap = false →
    s.flag (R.CTX_CFG.PORT_EN r) = true → s.fab.writes = true →
    (∀ k, (s.ctxR r).c1 ≠ 2 → (s.ctxR r).sets = [] → (s.ctxR r).host = none → s.swapReason r q false = some k →
      ∃ t, exec (.swapEdge r (some q) got) s = .next t ∧ t.activePlane r = s.activePlane r ∧ t.flag (R.CTX_STAT.NACK r) = true ∧
        t.get (R.CTX_STAT.REASON r) = k ∧ (t.ctxR r).nack = true ∧ t.fab = s.fab) ∧
    ((s.ctxR r).c1 = 2 → ∃ t, exec (.swapEdge r (some q) got) s = .next t ∧ t.activePlane r = s.activePlane r ∧
      t.flag (R.CTX_STAT.NACK r) = true ∧ t.get (R.CTX_STAT.REASON r) = (s.swapReason r q false).getD 5 ∧
      (t.ctxR r).nack = true ∧ t.fab = s.fab))

/-- The context commands of Table 8-12 complete or begin to run (after R229, R240, R248, R250, R253, R254, R259).
Choices of the model in it: assumptions 10, 11, 39, 69, 71, 72, 73, 74, 177, 213, 214. -/
def Obligations.ContextCommandsComplete : Prop :=
  ∀ (mb : Fin 16) (s : State),
    (∀ r, s.serves mb 0x0220 [(1, r)] → r < 128 → s.test.busy.contains r = false → Completes (.ctxStatus mb r) mb s stOk
      (pack [(4, s.cardWord (0x300000 + 4 * r)), (4, s.cardWord (0x300200 + 4 * r)), (4, s.cardWord (0x300400 + 4 * r))])
      (s.begun mb)) ∧
    (∀ r p tick, s.serves mb 0x0221 [(1, 0), (1, r), (1, p)] → r < 128 → p < 4 → s.test.busy.contains r = false →
      s.test.busy.contains (1024 + 4 * r + p) = false →
      (s.runClass = true → (s.ctxR r).host = none → exec (.ctxSwap mb 0 r p tick) s =
        .next ((s.begun mb).modCtx r fun c => { c with host := some (s.serial mb, p) })) ∧
      (s.runClass = false → Completes (.ctxSwap mb 0 r p tick) mb s stDenied []
        (nackRegion r ((s.swapReason r p true).getD 4) (s.begun mb)))) ∧
    (∀ k plane tick, s.serves mb 0x0221 [(1, 1), (1, k), (6, tick)] → k < 16 → s.tickAhead tick = true →
      (∀ e ∈ s.clk.sched, ¬ ((e.2.st = 1 ∨ e.2.st = 4) ∧ e.2.tick = tick ∧ e.2.action = 1 ∧ e.2.target = 0)) →
      (∀ e ∈ s.setMembers k, s.test.busy.contains e.1 = false) → s.freeHandles ≠ [] →
      ∃ h t, schedPlace tick 1 0 k (s.begun mb) = some (h, t) ∧
        Completes (.ctxSwap mb 1 k plane tick) mb s stOk (pack [(1, h)]) t) ∧
    (∀ k a m ps, s.serves mb 0x0222 [(1, k), (1, a), (16, m), (32, ps)] → k < 16 → a < 2 →
      (∀ r < 128, m.testBit r = true → s.test.busy.contains r = false) →
      (s.flag (R.SWAP_CTL.ARMED k) = true → Completes (.ctxSetDef mb k a m ps) mb s stBusy [] (s.begun mb)) ∧
      (s.flag (R.SWAP_CTL.ARMED k) = false → ∃ t, Completes (.ctxSetDef mb k a m ps) mb s stOk [] t ∧
        t.get (R.SWAP_CTL.ATOMIC k) = a ∧ ∀ r, r < 128 → t.flag (R.SWAP_TGT.MEMBER k (r / 8) (r % 8)) = m.testBit r ∧
          t.get (R.SWAP_TGT.PLANE k (r / 8) (r % 8)) = ps / 2 ^ (2 * r) % 4)) ∧
    (∀ r p, s.serves mb 0x0223 [(1, r), (1, p)] → r < 128 → p < 4 → s.test.busy.contains r = false →
      s.test.busy.contains (1024 + 4 * r + p) = false → s.rotates r p = false →
      s.armedPlane r p = false → s.planeState r p = psHood →
      (s.ctxRuns r = false → Completes (.ctxDiscard mb r p) mb s stOk [] (emptyPlane r p (s.begun mb))) ∧
      (s.ctxRuns r = true → exec (.ctxDiscard mb r p) s = .next ((s.begun mb).modCtx r fun c =>
        { c with due := c.due ++ [(p, psEmpty, s.serial mb)] }))) ∧
    (∀ r (order : List (Fin 4)) arg, s.serves mb 0x0224
        ([(1, r), (1, 1), (1, order.length)] ++ order.map (fun q => (1, q.val)) ++ [(6, arg)]) → r < 128 →
      s.test.busy.contains r = false → 2 ≤ order.length → order.length ≤ 4 → arg = 0 ∨ s.tickAhead arg = true →
      s.ctxTooFast r = false → (∀ q ∈ order, s.planeState r q.val = psHood ∨ s.planeState r q.val = psActive) →
      s.flag (R.CTX_CFG.ROT_EN r) = false → s.runClass = true → s.borderCause r < 2 → ∃ t,
        Completes (.ctxRotate mb r 1 order arg) mb s stOk [] t ∧ t.flag (R.CTX_CFG.ROT_EN r) = true ∧
        t.rotOrder r = order.map (·.val) ∧ (t.ctxR r).rotStart = some arg ∧ (t.ctxR r).rotStop = none) ∧
    (∀ r order q, s.serves mb 0x0224 [(1, r), (1, 0), (1, q)] → r < 128 → s.test.busy.contains r = false → q < 4 →
      s.flag (R.CTX_STAT.ROTATING r) = true → q ∈ s.rotOrder r → Completes (.ctxRotate mb r 0 order q) mb s stOk []
        ((s.begun mb).modCtx r fun c => { c with rotStop := some (q, false) })) ∧
    (∀ r p, s.serves mb 0x0225 [(1, r), (1, p)] → r < 128 → p < 4 → s.test.busy.contains r = false →
      s.test.busy.contains (1024 + 4 * r + p) = false → s.capBarred r p = false → s.flag (R.CAP_STAT.FULL r) = false →
      (s.planeState r p ≠ psActive → Completes (.ctxCapture mb r p) mb s stOk (pack [(1, p), (6, s.clk.tick)])
        (takeCapture r (s.capOf r p true false (s.plane r p).shadow) (s.begun mb))) ∧
      (s.planeState r p = psActive → s.mode = mSafe ∨ s.mode = mQuiescent → Completes (.ctxCapture mb r p) mb s stOk
        (pack [(1, p), (6, s.clk.tick)]) (takeCapture r (s.capOf r p false false (s.live r)) (s.begun mb))) ∧
      (s.planeState r p = psActive → ¬ (s.mode = mSafe ∨ s.mode = mQuiescent) → (s.ctxR r).capReq = none →
        exec (.ctxCapture mb r p) s = .next ((s.begun mb).modCtx r fun c => { c with capReq := some (s.serial mb) }))) ∧
    (∀ r, s.serves mb 0x0226 [(1, r)] → r < 128 → s.test.busy.contains r = false →
      Completes (.ctxCapFree mb r) mb s stOk [] (freeCapture r (s.begun mb)))

/-! ## The shared cache tier -/

/-- A bank cycle with one waiting request, of the region that owns the bank, answers a read with the row and its status,
takes the request from its FIFO and leaves every row alone; a request of a region that does not own it is refused with
`NOT_OWNER` and changes no row (after R264, R266, R269, Table 9-3). In the courtesy slot, the cycle at which the bank's
counter reads 15, a single-port bank serves the first requester that is not the owner; in every other cycle it serves
the owner first. A twin-port bank serves one of each. Requests that the bank refuses are answered before (after R269,
R275–R277). A write that its owner's port makes is read back by the next read of that row, in strong, light and raw
code, and no other row of any bank changes (after R264, R265, R280). Choices of the model in it: assumptions 75, 76, 78,
223. -/
def Obligations.BankCycleServesInTurn : Prop :=
  (∀ (s : State) (b : Fin 256) (r : Nat) (q : CpWait), s.up = true → s.clocked (5 + bankDie b) = true → s.portCands b = [(r, q)] →
    s.nocCands b = [] → s.spillDue b = false → q.dead = false → s.bankCode b ≠ 3 → (s.bank b).seq = none →
    (s.judgePort b r q = .serve → q.op = 0 → ∃ t, exec (.bankCycle b) s = .next t ∧
      (t.cpPort r).resps = (s.cpPort r).resps ++ [⟨q.tag, q.plane,
        if !(s.readCRow b q.row).valid then 3 else if (s.readCRow b q.row).unc then 2 else if (s.readCRow b q.row).cor then 1 else 0,
        (s.readCRow b q.row).data⟩] ∧
      (t.cpPort r).reqs = (s.cpPort r).reqs.erase q ∧ t.cache.rows = s.cache.rows ∧ t.cache.inj = s.cache.inj) ∧
    (s.judgePort b r q = .refuse 4 → ∃ t, exec (.bankCycle b) s = .next t ∧
      (t.cpPort r).resps = (s.cpPort r).resps ++ [⟨q.tag, q.plane, 4, 0⟩] ∧
      (t.cpPort r).reqs = (s.cpPort r).reqs.erase q ∧ t.flag (R.BANK_STAT.NOT_OWN b) = true ∧
      t.cache.rows = s.cache.rows ∧ t.cache.inj = s.cache.inj)) ∧
  (∀ (s : State) (b : Fin 256) (x y : Cand) (own oth : List Cand), s.up = true → s.clocked (5 + bankDie b) = true →
    let u := acceptAll b (refuseAll b (passCycle b s))
    u.cands b = (x :: own, y :: oth) →
    (twinBank b = false → (s.bank b).cyc = 15 → exec (.bankCycle b) s = .next (serveCand b y u)) ∧
    (twinBank b = false → (s.bank b).cyc ≠ 15 → exec (.bankCycle b) s = .next (serveCand b x u)) ∧
    (twinBank b = true → exec (.bankCycle b) s = .next (serveTwin b x y u))) ∧
  (∀ (s t : State) (b : Fin 256) (r : Nat) (q : CpWait), s.up = true → s.clocked (5 + bankDie b) = true → s.portCands b = [(r, q)] →
    s.nocCands b = [] → s.spillDue b = false → s.bankCode b < 3 → (s.bank b).seq = none → s.judgePort b r q = .serve → q.op = 1 → exec (.bankCycle b) s = .next t →
    (q.le = 2 ^ 128 - 1 → (t.readCRow b q.row).data = q.wdata % 2 ^ (128 * laneBits (s.bankCode b)) ∧
      (t.readCRow b q.row).valid = true ∧ (t.readCRow b q.row).cor = false ∧ (t.readCRow b q.row).unc = false) ∧
    (∀ key c, key ≠ rowKey b q.row → readRow t.cache.rows t.cache.inj 128 (s.bankCode b) key c =
      readRow s.cache.rows s.cache.inj 128 (s.bankCode b) key c) ∧
    t.bulk = s.bulk ∧ t.bm = s.bm ∧ t.fab = s.fab)

/-- A handover: `GO` is accepted unless R274 refuses it, the commit sets `PEND`, and with no request of the old owner
left the bank has its new owner, `PEND` and `GO` are 0, `HANDED` is 1, `CACHE_HANDED` is raised, and contents and code
are kept (after R272, R274). Choices of the model in it: assumptions 75, 81. -/
def Obligations.HandoverGivesTheBankToItsNextOwner : Prop :=
  ∀ (s : State) (b : Fin 256),
    (s.up = true → s.flag (R.BANK_OWN.GO b) = false → s.handRefused b = true →
      exec (.bankOwnGo b) s = .next (s.set (R.BANK_OWN.REFUSED b) 1)) ∧
    (s.up = true → s.flag (R.BANK_OWN.GO b) = false → s.handRefused b = false → ∃ t, exec (.bankOwnGo b) s = .next t ∧
      t.flag (R.BANK_OWN.GO b) = true ∧ (t.bank b).goDue = true ∧ t.get (R.BANK_OWN.OWNER b) = s.get (R.BANK_OWN.OWNER b)) ∧
    ((s.bank b).goDue = true → s.clocked (5 + bankDie b) = true → s.get (R.BANK_OWN.NEXT b) ≠ s.get (R.BANK_OWN.OWNER b) → ∃ t,
      exec (.handoverCommit b) s = .next t ∧ t.flag (R.BANK_OWN.PEND b) = true ∧ (t.bank b).goDue = false ∧
      t.get (R.BANK_OWN.OWNER b) = s.get (R.BANK_OWN.OWNER b) ∧ t.cache.rows = s.cache.rows) ∧
    (s.flag (R.BANK_OWN.PEND b) = true → s.clocked (5 + bankDie b) = true → s.oldRemains b = false → ∃ u, exec (.handoverComplete b) s =
        .next (raise 0x0301 [(1, b), (2, s.get (R.BANK_OWN.NEXT b)), (6, s.clk.tick)] u) ∧
      u.get (R.BANK_OWN.OWNER b) = s.get (R.BANK_OWN.NEXT b) ∧ u.flag (R.BANK_OWN.PEND b) = false ∧
      u.flag (R.BANK_OWN.GO b) = false ∧ u.flag (R.BANK_OWN.HANDED b) = true ∧ u.cache.rows = s.cache.rows ∧
      u.bankCode b = s.bankCode b ∧ u.get (R.BANK_CFG.PWR b) = s.get (R.BANK_CFG.PWR b))

/-- The other events of the cache tier act when they are due: requests and responses of the ports, clears, power
changes, page sequences, spill and line fills (after R263, R264, R282, R285, R287, R288, R290, R293). Choices of the
model in it: assumptions 79, 80, 83, 85, 86, 87. -/
def Obligations.CacheEventsComplete : Prop :=
  ∀ s : State,
    (∀ (r : Fin 128) (q : CpReq), s.cpClocked r = true → s.cpReady r = true → exec (.cachePortRequest r q) s =
      .next (s.modPort r fun p => { p with reqs := p.reqs ++ [⟨q.op.val, q.bank.val, q.row.toNat, q.le.toNat, q.wdata.toNat,
        q.tag.toNat, s.activePlane r, false⟩] })) ∧
    (∀ (r : Fin 128) (x : CpResp) (l : List CpResp), s.fab.clocksOn = true → s.held r = false → s.resyncing (64 + r.val) = false →
      (s.cpPort r).resps = x :: l → exec (.cachePortResponse r) s =
        .next (s.modPort r fun p => { p with resps := l, shown := some x })) ∧
    (∀ b : Fin 256, s.clocked (5 + bankDie b) = true →
      exec (.fullPageBreak b) s = .next (breakSeq b s) ∧
      (s.flag (R.BANK_STAT.CLR_BUSY b) = true → s.get (R.BANK_CFG.PWR b) ≠ 3 ∨ (s.bank b).acc ≠ [] → ∃ t,
        exec (.bankClearDone b) s = .next t ∧ t.flag (R.BANK_STAT.CLR_BUSY b) = false ∧ t.bankCode b = s.bankCode b ∧
        (∀ row, row < 16384 → lookup t.cache.rows (rowKey b row) = none) ∧
        ∀ key, key / 16384 ≠ b.val → lookup t.cache.rows key = lookup s.cache.rows key) ∧
      (∀ p, (s.bank b).pwrTo = some p → p < 3 → s.get (R.BANK_CFG.PWR b) = 3 → s.bankBusy b = false → ∃ t,
        exec (.bankPowerChangeDone b) s = .next t ∧ t.get (R.BANK_CFG.PWR b) = p ∧ (t.bank b).pwrTo = none ∧
        (p ≠ 2 → t.cache.rows = s.cache.rows) ∧
        (p = 2 → ∀ row, row < 16384 → lookup t.cache.rows (rowKey b row) = none)) ∧
      (s.get (R.BANK_CFG.PWR b) = 1 → s.mode ≠ mQuiescent → s.portCands b ≠ [] ∨ s.nocCands b ≠ [] ∨ s.scrubAsks b = true ∨
        (s.flag (R.SPILL_STAT.EN b) = true ∧ (s.bank b).uncopied ≠ 0) →
        exec (.bankWake b) s = .next (s.set (R.BANK_CFG.PWR b) 0)) ∧
      (s.spillDue b = true → (∀ c ∈ (s.cands b).1, c = .spill) ∨ twinBank b = true → ∃ t, exec (.spillCopy b) s = .next t ∧
        t.get (R.SPILL_STAT.PTR b) = (s.get (R.SPILL_STAT.PTR b) + (s.bank b).uncopied) % 16384 ∧ (t.bank b).uncopied = 0) ∧
      (s.spillDue b = true → (∃ c ∈ (s.cands b).1, c ≠ .spill) → twinBank b = false → (s.bank b).cyc = 15 → ∃ t,
        exec (.spillCopy b) s = .next t ∧ t.get (R.SPILL_STAT.PTR b) = (s.get (R.SPILL_STAT.PTR b) + 1) % 16384 ∧
        (t.bank b).uncopied = (s.bank b).uncopied - 1)) ∧
    (∀ b : Fin 256, s.up = true → s.clearDenied b = false → exec (.bankStatClr b) s =
      .next ((s.set (R.BANK_STAT.CLR_BUSY b) 1).set (R.BANK_STAT.CLR b) 1)) ∧
    (∀ (d : Fin 4) (line k w : Nat) (p : Pkt), pageOf (2048 * line) = some k → s.groupOf k = some d.val →
      s.lineWay d k = none → w < 12 → s.rxHead (0x90 + w) = some p → pktReq p = true ∨ p.typ = 2 →
      pageOf (w * 2 ^ 32 + p.off + p.reqSeq) = some k → s.groupBusy d = false →
      s.held (0x98 + d.val) = false → s.held (0x9C + k / stackPages) = false →
      exec (.cacheLineFill d line) s = .next (fillLine d k s))

/-- The cache commands of Table 9-14 complete (after R270, R272, R274, R283, R285, R288, R290–R293, R297). Choices of
the model in it: assumptions 10, 11, 79, 80, 81, 84, 87, 200. -/
def Obligations.CacheCommandsComplete : Prop :=
  ∀ (mb : Fin 16) (s : State),
    (∀ b n, s.serves mb 0x0300 [(1, b), (1, n)] → b + n ≤ 256 → 1 ≤ n → n ≤ 16 →
      (∀ k < n, s.test.busy.contains (256 + (b + k)) = false) →
      Completes (.cacheGet mb b n) mb s stOk (pack ((List.range n).flatMap fun k =>
        [(4, s.cardWord (0x400000 + 4 * (b + k))), (4, s.cardWord (0x400400 + 4 * (b + k))),
         (4, s.cardWord (0x400800 + 4 * (b + k))), (4, s.cardWord (0x401000 + 4 * (b + k)))])) (s.begun mb)) ∧
    (∀ b o arm, s.serves mb 0x0301 [(1, b), (2, o), (1, arm)] → arm < 2 → ownerUsed o = true →
      (o < 128 → s.flag (R.BORDER_STAT.FENCED o) = false) → s.test.busy.contains (256 + b) = false →
      (s.flag (R.BANK_OWN.PEND b) = true ∨ s.flag (R.BANK_OWN.GO b) = true →
        Completes (.cacheOwn mb b o arm) mb s stBusy [] (s.begun mb)) ∧
      (s.flag (R.BANK_OWN.PEND b) = false → s.flag (R.BANK_OWN.GO b) = false → s.flag (R.BANK_CFG.LAND b) = false →
        s.flag (R.BANK_CFG.CMODE b) = false → s.flag (R.BANK_CFG.OFFLINE b) = false →
        let u := (s.begun mb).set (R.BANK_OWN.NEXT b) o
        Completes (.cacheOwn mb b o arm) mb s stOk [] (if arm = 1 then u.set (R.BANK_OWN.ARM b) 1
          else (u.set (R.BANK_OWN.GO b) 1).modBank' b fun k => { k with goDue := true }))) ∧
    (∀ b c t, s.serves mb 0x0302 [(1, b), (1, c), (1, t)] → c < 4 → t < 5 → s.test.busy.contains (256 + b) = false →
      (s.get (R.BANK_OWN.OWNER b) = ownAgent → s.get (R.BANK_CFG.PWR b) = 0 → s.flag (R.BANK_CFG.LAND b) = false →
        s.flag (R.BANK_CFG.CMODE b) = false → Completes (.cacheCode mb b c t) mb s stOk []
          ((((s.begun mb).set (R.BANK_CFG.CODE b) c).set (R.BANK_CFG.PAGE_T b) t).set (R.BANK_STAT.CLR_BUSY b) 1)) ∧
      (s.get (R.BANK_OWN.OWNER b) ≠ ownAgent → Completes (.cacheCode mb b c t) mb s stDenied [] (s.begun mb))) ∧
    (∀ b, s.serves mb 0x0303 [(1, b)] → s.test.busy.contains (256 + b) = false → s.clearDenied b = false →
      Completes (.cacheClear mb b) mb s stOk [] ((s.begun mb).set (R.BANK_STAT.CLR_BUSY b) 1)) ∧
    (∀ b p, s.serves mb 0x0304 [(1, b), (1, p)] → p < 3 → s.test.busy.contains (256 + b) = false →
      ¬ (p = 2 ∧ s.get (R.BANK_OWN.OWNER b) < 128) → s.flag (R.BANK_CFG.LAND b) = false →
      s.flag (R.BANK_CFG.CMODE b) = false → s.flag (R.BANK_OWN.PEND b) = false → s.get (R.BANK_CFG.PWR b) ≠ 3 →
      s.therm.memOff.contains (bankDie b) = false →
      let u := ((s.begun mb).set (R.BANK_CFG.PWR b) 3).modBank' b fun k => { k with pwrTo := some p }
      Completes (.cachePower mb b p) mb s stOk [] (if s.get (R.BANK_CFG.PWR b) = p then s.begun mb
        else if s.get (R.BANK_CFG.PWR b) = 2 then u.set (R.BANK_STAT.CLR_BUSY b) 1 else u)) ∧
    (∀ w d e a banks, s.serves mb 0x0305 ([(1, w), (3, d), (2, e), (1, a), (1, banks.length)] ++ banks.map fun b => (1, b)) →
      w < 16 → d < 2 ^ 20 → e < 2 ^ 12 → a < 4 → banks.length ≤ 16 → (∀ b ∈ banks, s.test.busy.contains (256 + b) = false) →
      Completes (.cacheWin mb w d e a banks) mb s stOk [] (forEach banks (fun b u => u.set (R.BANK_CFG.NOC_ACC b) a)
        (((s.begun mb).set (R.NOC_WIN.DEVICE w) d).set (R.NOC_WIN.ENDPOINT w) e))) ∧
    (∀ d g seg n, s.serves mb 0x0306 [(1, d), (1, g), (1, seg), (1, n)] → d < 4 → g < 4 →
      (n = 0 → s.flag (R.CMODE_CFG.EN d) = false → Completes (.cacheMode mb d g seg n) mb s stOk [] (s.begun mb)) ∧
      (n = 0 → s.flag (R.CMODE_CFG.EN d) = true → s.held 0x9C = false → s.held 0x9D = false →
        Completes (.cacheMode mb d g seg n) mb s stOk [] (leaveCmode d (s.begun mb))) ∧
      (n ≠ 0 → seg + n ≤ 48 → s.flag (R.CMODE_CFG.EN d) = false →
        (∀ d' < 4, s.flag (R.CMODE_CFG.EN d') = true → s.get (R.CMODE_CFG.BASE_SEG d') + s.get (R.CMODE_CFG.SEG_CNT d') ≤ seg ∨
          seg + n ≤ s.get (R.CMODE_CFG.BASE_SEG d')) →
        (∀ f ∈ s.test.fenced, ¬ (f.1 = 5 ∧ seg ≤ f.2 ∧ f.2 < seg + n)) →
        (∀ w < 16, let b := 64 * d + 16 * g + w;
          s.test.busy.contains (256 + b) = false ∧ s.get (R.BANK_OWN.OWNER b) = ownAgent ∧ s.flag (R.BANK_CFG.LAND b) = false ∧
          s.get (R.BANK_CFG.PWR b) = 0 ∧ s.flag (R.BANK_OWN.PEND b) = false) →
        ∃ t, Completes (.cacheMode mb d g seg n) mb s stOk [] t ∧ t.flag (R.CMODE_CFG.EN d) = true ∧
          t.get (R.CMODE_CFG.GROUP d) = g ∧ t.get (R.CMODE_CFG.BASE_SEG d) = seg ∧ t.get (R.CMODE_CFG.SEG_CNT d) = n ∧
          ∀ w < 16, let b := 64 * d + 16 * g + w;
            t.flag (R.BANK_CFG.CMODE b) = true ∧ t.bankCode b = 0 ∧ t.flag (R.BANK_STAT.CLR_BUSY b) = true)) ∧
    (∀ d v, s.serves mb 0x0307 [(1, d), (1, v)] → d < 4 → v < 2 → s.flag (R.CMODE_CFG.EN d) = true →
      (∀ w < 16, s.test.busy.contains (256 + s.wayBank d w) = false) →
      s.held 0x9C = false → s.held 0x9D = false → Completes (.cacheFlush mb d v) mb s stOk
        (pack [(4, ((s.cm d).tags.filter fun e => e.2.2.1).length)]) (flushGroup d (v == 1) (s.begun mb)).2) ∧
    (∀ b a n, s.serves mb 0x0308 [(1, b), (5, a), (3, n)] → s.test.busy.contains (256 + b) = false →
      (n = 0 → Completes (.cacheSpill mb b a n) mb s stOk []
        (refreshSpill (((s.begun mb).set (R.SPILL_STAT.EN b) 0).modBank' b fun k => { k with uncopied := 0 }))) ∧
      (n ≠ 0 → a % 2048 = 0 → a + 2048 * n ≤ 0x5D0000000 ∨ (0x600000000 ≤ a ∧ a + 2048 * n ≤ 0xBD0000000) →
        (∀ f ∈ s.test.fenced, ¬ (f.1 = 5 ∧ a / 2 ^ 30 ≤ f.2 ∧ f.2 ≤ (a + 2048 * n - 1) / 2 ^ 30)) →
        s.flag (R.BANK_CFG.LAND b) = false → s.flag (R.BANK_CFG.CMODE b) = false →
        Completes (.cacheSpill mb b a n) mb s stOk [] (refreshSpill (((s.begun mb).set (R.SPILL_STAT.EN b) 1).modBank' b fun k =>
          { k with ringBase := a, ringSize := n, ringPos := 0, uncopied := 0 })))) ∧
    (∀ b, s.serves mb 0x0309 [(1, b)] → s.test.busy.contains (256 + b) = false → Completes (.cacheRepair mb b) mb s stOk
      (pack ((1, s.get (R.BANK_STAT.SPARES b)) :: (s.bank b).spares.map fun c => (2, c))) (s.begun mb))

/-! ## Bulk Store, scrubbing and the split-write window -/

/-- The last of four 512-byte writes that cover a page in ascending order stores the whole page whatever it held before,
and a read of the page then returns the bytes written with no error; no other page changes (after R307, R309, R310). A
partial write changes only the bytes it names: the rest of the page keeps its corrected contents, an unwritten page is
filled with 0, and a page with more errors than the code corrects refuses the write and is left unchanged (after R309,
R310, R312). Choices of the model in it: assumptions 87, 89, 91, 96. -/
def Obligations.PageWritesStoreTheirBytes : Prop :=
  (∀ (s : State) (k : Fin 2) (e g : Nat) (p : Pkt) (l : List (Nat × Pkt)) (q : BulkSeq), s.bulkHeads k = (e, p) :: l →
    s.clocked (10 + k.val) = true → ¬ (s.bulkScrubs k = true ∧ at' s.bulk.slot k 0 = 15) → s.bulkRefuses e p = none → pageOf (bulkAddr e p) = some g → s.groupOf g = none → lookup s.bulk.seqs g = some q →
    q.srcDev = p.srcDev → q.srcEp = p.srcEp → q.bytes.length = 1536 → p.reqSeq = 0 → p.len = 512 →
    bulkAddr e p % 2048 = 1536 → p.typ ≠ 0 → p.data.length = 512 → p.status = 0 → (∀ x ∈ q.bytes ++ p.data, x < 256) →
    ∃ t, exec (.bulkPageAccess k) s = .next t ∧ (t.readPage g).data = ofLeBytes (q.bytes ++ p.data) ∧
      (t.readPage g).valid = true ∧ (t.readPage g).cor = 0 ∧ (t.readPage g).unc = false ∧
      ∀ j, j ≠ g → lookup t.bulk.pages j = lookup s.bulk.pages j ∧ lookup t.bulk.inj j = lookup s.bulk.inj j) ∧
  (∀ (s : State) (k off : Nat) (bytes : List Nat), off + bytes.length ≤ 2048 → (s.readPage k).data < 2 ^ 16384 →
    (∀ x ∈ bytes, x < 256) →
    (partialWrite k off bytes s).1 = !(s.readPage k).unc ∧
    ((s.readPage k).unc = false ∨ (partialWrite k off bytes s).2.bulk.pages = s.bulk.pages ∧
      (partialWrite k off bytes s).2.bulk.inj = s.bulk.inj) ∧
    ((s.readPage k).unc = false → ∀ i, i < 2048 → bitsOf ((partialWrite k off bytes s).2.readPage k).data (8 * i) 8 =
      (if off ≤ i ∧ i < off + bytes.length then bytes.getD (i - off) 0 else bitsOf (s.readPage k).data (8 * i) 8)) ∧
    ∀ j, j ≠ k → lookup (partialWrite k off bytes s).2.bulk.pages j = lookup s.bulk.pages j)

/-- A scrub leaves a unit without errors as it is, and never makes a written unit unwritten or an unwritten one written,
in the cache, the block memories and the Bulk Store (after R320, R321). Choices of the model in it: assumption 88. -/
def Obligations.ScrubKeepsContents : Prop :=
  ∀ (s : State) (t u : Nat),
    (∀ b p i, s.bankCode b = 3 → i < 32 → has s.cache.rows (rowKey b (32 * p + i)) = has s.cache.rows (rowKey b (32 * p))) → ∀ k,
    has (scrubOne t u s).2.cache.rows k = has s.cache.rows k ∧ has (scrubOne t u s).2.bm.rows k = has s.bm.rows k ∧
    has (scrubOne t u s).2.bulk.pages k = has s.bulk.pages k ∧
    ((scrubOne t u s).1.corrected = false → lookup (scrubOne t u s).2.cache.rows k = lookup s.cache.rows k ∧
      lookup (scrubOne t u s).2.bm.rows k = lookup s.bm.rows k ∧ lookup (scrubOne t u s).2.bulk.pages k = lookup s.bulk.pages k)

/-- The other events of the Bulk Store, the scrubber and the split-write window act when they are due (after R309, R313,
R320, R323, R324, R327, R328). A segment clear makes every page of the segment unwritten, and keeps `T`, `ACC` and every
other segment (after R313). Choices of the model in it: assumptions 89, 90, 92, 94, 96, 196, 223. -/
def Obligations.BulkEventsComplete : Prop :=
  (∀ s : State,
    (∀ (k : Fin 2) (g : Nat) (q : BulkSeq), s.clocked (10 + k.val) = true →
      s.bulk.seqs.find? (fun e => e.1 / stackPages == k.val) = some (g, q) →
      exec (.bulkFullPageTimeout k) s = .next (breakBulk g s)) ∧
    (∀ g : Fin 48, s.up = true →
      exec (.segCfgClr g) s = .next ((s.set (R.SEG_CFG.CLR_BUSY g) 1).set (R.SEG_CFG.CLR g) 1)) ∧
    (∀ (t : Fin 7) (x : Scrub), s.bulk.passes.find? (fun y => y.target == t.val && decide (y.st < 2)) = some x →
      s.scrubRuns = true → s.scrubClock t = true → s.scrubTurn x = true →
      let v := scrubStep x (if 5 ≤ t.val then passSlot (t - 5) s else s)
      (∀ u, v.2.nextUnit v.1 = some u → exec (.scrubUnit t) s = .next (setPass { v.1 with unit := u } v.2)) ∧
      (v.2.nextUnit v.1 = none → exec (.scrubUnit t) s = .next (endPass v.1 2 v.2))) ∧
    (∀ t : Fin 7, (s.bgScrub t).rate ≠ 0 → s.scrubRuns = true → s.scrubClock t = true →
      (∀ y ∈ s.bulk.passes, ¬ (y.target = t.val ∧ y.st < 2)) →
      (t.val < 4 → s.held (0x98 + t.val) = false) → (5 ≤ t.val → s.held (0x97 + t.val) = false) →
      let due := (s.bgScrub t).rate * (if s.mode = mLimit then s.get R.THERM_STAT.P else 16) + (s.bgScrub t).part
      ∃ x u, (List.range (due / 16)).foldl (fun a _ => bgStep a) ({ s.bgScrub t with part := due % 16 }, s) = (x, u) ∧
        exec (.bgScrubTick t) s = .next (u.modBulk fun b => { b with bg := put b.bg t x })) ∧
    (s.up = true →
      let k := s.get R.SPLIT_CTL.KIND
      let u := s.get R.SPLIT_ADDR.UNIT
      (s.splitOpen k u = true → s.splitTested k u = false → exec .splitCtlGo s =
        .next (splitAccess k u (s.get R.SPLIT_CTL.OP) s)) ∧
      (s.splitOpen k u = false ∨ s.splitTested k u = true → exec .splitCtlGo s = .next (s.set R.SPLIT_CTL.DENIED 1)))) ∧
  (∀ (s : State) (g : Fin 48), s.flag (R.SEG_CFG.CLR_BUSY g) = true → s.clocked (10 + g.val / 24) = true → ∃ t,
    exec (.segmentClearDone g) s = .next t ∧
    t.flag (R.SEG_CFG.CLR_BUSY g) = false ∧ t.get (R.SEG_CFG.T g) = s.get (R.SEG_CFG.T g) ∧
    t.get (R.SEG_CFG.ACC g) = s.get (R.SEG_CFG.ACC g) ∧ (∀ k, segOfPage k = g.val → (t.readPage k).valid = false) ∧
    ∀ k, segOfPage k ≠ g.val → lookup t.bulk.pages k = lookup s.bulk.pages k)

/-- The commands of Table 10-11 complete (after R313, R315, R323, R324, R327, R328). Choices of the model in it:
assumptions 10, 11, 14, 91, 93, 94, 177, 196. -/
def Obligations.BulkCommandsComplete : Prop :=
  ∀ (mb : Fin 16) (s : State),
    (∀ g n, s.serves mb 0x0310 [(1, g), (1, n)] → g + n ≤ 48 → 1 ≤ n → n ≤ 16 → (∀ k < n, s.segTested (g + k) = false) →
      Completes (.bulkGet mb g n) mb s stOk (pack (((List.range n).map fun k => (4, s.segCfg (g + k))) ++
        [(4, s.bulkStat 0), (4, s.bulkStat 1)])) (s.begun mb)) ∧
    (∀ g t a, s.serves mb 0x0311 [(1, g), (1, t), (1, a)] → g < 48 → t < 5 → a < 3 → s.segTested g = false →
      (s.get (R.SEG_CFG.T g) = t → Completes (.bulkCode mb g t a) mb s stOk []
        (((s.begun mb).set (R.SEG_CFG.T g) t).set (R.SEG_CFG.ACC g) a)) ∧
      (s.get (R.SEG_CFG.T g) ≠ t → s.flag (R.SEG_CFG.CACHED g) = false → s.flag (R.SEG_CFG.SPILL g) = false →
        Completes (.bulkCode mb g t a) mb s stOk []
          ((((s.begun mb).set (R.SEG_CFG.T g) t).set (R.SEG_CFG.ACC g) a).set (R.SEG_CFG.CLR_BUSY g) 1)) ∧
      (s.get (R.SEG_CFG.T g) ≠ t → s.flag (R.SEG_CFG.CACHED g) = true ∨ s.flag (R.SEG_CFG.SPILL g) = true →
        Completes (.bulkCode mb g t a) mb s stDenied [] (s.begun mb))) ∧
    (∀ g, s.serves mb 0x0312 [(1, g)] → g < 48 → s.segTested g = false → s.flag (R.SEG_CFG.CACHED g) = false →
      s.flag (R.SEG_CFG.SPILL g) = false → Completes (.bulkClear mb g) mb s stOk []
        ((s.begun mb).set (R.SEG_CFG.CLR_BUSY g) 1)) ∧
    (∀ kind first last ra rb t a b h, s.serves mb 0x0313 (scrubArgs kind first last ra rb) →
      (kind = 0 ∧ first ≤ last ∧ bankDie first = bankDie last ∧ ra ≤ rb ∧ rb < 16384 ∧ t = bankDie first ∧ a = first ∧ b = last ∧
        ∀ k, first ≤ k → k ≤ last → s.bankTested k = false) ∨
      (kind = 1 ∧ first ≤ last ∧ last < 12288 ∧ ra ≤ rb ∧ rb < 1024 ∧ t = 4 ∧ a = first ∧ b = last ∧
        ∀ r ∈ s.test.busy, ¬ (r < 128 ∧ first / 96 ≤ r ∧ r ≤ last / 96)) ∨
      (kind = 2 ∧ first % 2048 = 0 ∧ last ≠ 0 ∧ pageOf first = some a ∧ pageOf (first + 2048 * (last - 1)) = some b ∧
        a / stackPages = b / stackPages ∧ t = 5 + a / stackPages ∧
        s.test.busy.contains (0x9C + a / stackPages) = false) →
      (List.range 8).find? (fun h => (s.scrubPass h).isNone) = some h →
      Completes (.scrubStart mb kind first last ra rb) mb s stOk (pack [(2, h)])
        ((s.begun mb).modBulk fun k => { k with passes := k.passes ++
          [s.newScrub h t a b (if kind = 2 then 0 else ra) (if kind = 2 then 0 else rb)] })) ∧
    (∀ h c x, s.serves mb 0x0314 [(2, h), (1, c)] → c < 2 → h < 8 → s.scrubPass h = some x →
      Completes (.scrubStatus mb h c) mb s stOk (scrubSummary x) (if x.st < 2 then s.begun mb else
        (s.begun mb).modBulk fun b => { b with passes := b.passes.filter fun y => y.handle != h })) ∧
    (∀ t c, s.serves mb 0x0314 [(2, 0x100 + t), (1, c)] → c < 2 → t < 7 → ∃ u,
      Completes (.scrubStatus mb (0x100 + t) c) mb s stOk (scrubSummary (s.bgScrub t)) u ∧
      (c = 0 → u = s.begun mb) ∧ (c = 1 → (u.bgScrub t).read = 0 ∧ (u.bgScrub t).uncorr = 0 ∧ (u.bgScrub t).firstFail = none ∧
        (u.bgScrub t).rate = (s.bgScrub t).rate ∧ (u.bgScrub t).unit = (s.bgScrub t).unit)) ∧
    (∀ h x, s.serves mb 0x0315 [(2, h)] → s.scrubPass h = some x →
      (x.st < 2 → ∃ t u, Completes (.scrubAbort mb h) mb s stOk (scrubSummary u) t ∧ t.scrubPass h = some u ∧ u.st = 3 ∧
        u.endTick = s.clk.tick) ∧
      (2 ≤ x.st → Completes (.scrubAbort mb h) mb s stOk (scrubSummary x) (s.begun mb))) ∧
    (∀ t r, s.serves mb 0x0316 [(1, t), (4, r)] → t < 7 → (5 ≤ t → s.test.busy.contains (0x97 + t) = false) → ∃ u,
      Completes (.scrubBg mb t r) mb s stOk [] u ∧
      (u.bgScrub t).rate = r ∧ u.regs = s.regs ∧ u.bulk.pages = s.bulk.pages) ∧
    (∀ k u bytes, splitFunc k u ≠ none → bytes.length ≤ splitSize k → s.splitTested k u = false → s.splitOpen k u = true →
      (s.servesBytes mb 0x0317 [(1, k), (5, u), (1, 1)] bytes → Completes (.splitGo mb k u 1 bytes) mb s stOk []
        (splitAccess k u 1 (setSplitBuf bytes (s.begun mb)))) ∧
      (bytes = [] → s.servesBytes mb 0x0317 [(1, k), (5, u), (1, 0)] [] → Completes (.splitGo mb k u 0 []) mb s stOk
        ((splitAccess k u 0 (s.begun mb)).splitBuf (splitSize k)) (splitAccess k u 0 (s.begun mb))))

/-! ## Serial lanes -/

/-- Bring-up: signal in Acquire leads to Frame, complemented blocks invert the input, block lock leads to Train, or to
Up in BASE-R operation, after a check of the lane order in a ganged quad (the timing lane stays in Frame in Boot), 16
Train done blocks to Align, the bit-slips to `HDR_OFS` = 0, the measurement to Align done, and the Align done exchange
to Up; a bring-up that ends in time is Up, and one that does not is Fail with the reason of its stage (after R338,
R340–R342, R346, R351–R353, Table 11-3). Choices of the model in it: assumptions 98, 101, 102, 122, 225. -/
def Obligations.LaneBringUpAdvances : Prop :=
  ∀ (s : State) (l : Fin 96),
    (s.laneState l = lsAcquire → exec (.laneSignalDetect l) s = .next ((s.set (R.LANE_STAT.CDR_LOCK l) 1).set
      (R.LANE_STAT.STATE l) lsFrame)) ∧
    (∀ ofs senders, s.laneState l = lsFrame → s.flag (R.LANE_STAT.BLK_LOCK l) = false → s.flag (R.LANE_CFG.RX_POL_AUTO l) = true →
      exec (.blockLock l ofs true senders) s = .next (s.set (R.LANE_STAT.RX_INV l) (1 - s.get (R.LANE_STAT.RX_INV l)))) ∧
    (∀ ofs senders, s.laneState l = lsFrame → s.flag (R.LANE_STAT.BLK_LOCK l) = false → ofs < 66 →
      s.flag (R.QUAD_STAT.GANG (l / 4)) = false ∨ laneOrder senders < 2 →
      ∃ t, exec (.blockLock l ofs false senders) s = .next t ∧
        t.laneState l = (if s.baseR l = true then lsUp
          else if s.mode = mBoot ∧ s.flag R.STRAP_LATCH.MCLK_SRC = true ∧ l.val = 0 then lsFrame else lsTrain) ∧
        t.get (R.LANE_STAT.HDR_OFS l) = ofs ∧ t.flag (R.LANE_STAT.BLK_LOCK l) = true ∧
        (s.flag (R.QUAD_STAT.GANG (l / 4)) = true → t.get (R.QUAD_STAT.REVERSED (l / 4)) = laneOrder senders)) ∧
    (∀ ofs senders, s.laneState l = lsFrame → s.flag (R.LANE_STAT.BLK_LOCK l) = false → ofs < 66 →
      s.flag (R.QUAD_STAT.GANG (l / 4)) = true → laneOrder senders = 2 → exec (.blockLock l ofs false senders) s =
        .next (raise 0x0401 [(1, l / 4)] (((s.set (R.LANE_STAT.HDR_OFS l) ofs).set (R.LANE_STAT.BLK_LOCK l) 1).set
          (R.QUAD_STAT.ORDER_ERR (l / 4)) 1))) ∧
    (s.laneState l = lsTrain → 16 ≤ (s.lst l).trainRx → ∃ t, exec (.trainDone l) s = .next t ∧ t.laneState l = lsAlign ∧
      (t.lst l).alignTx = !s.fixedMode l) ∧
    (∀ n, s.laneState l = lsAlign → (s.lst l).slips = n + 1 → ∃ t, exec (.bitSlip l) s = .next t ∧
      t.get (R.LANE_STAT.HDR_OFS l) = (s.get (R.LANE_STAT.HDR_OFS l) + 65) % 66 ∧ (t.lst l).slips = n ∧
      t.laneState l = lsAlign) ∧
    (∀ reads : List AlignRd, s.laneState l = lsAlign → s.fixedMode l = true → s.get (R.LANE_STAT.HDR_OFS l) = 0 →
      reads.length = 256 →
      let vals := reads.map (alignValue (s.synth (sideDomain l)).n)
      let hi := vals.foldl max 0
      let lo := vals.foldl min hi
      let u := (s.set (R.LANE_FL.L_MEAS l) (min hi 65535)).set (R.LANE_FLS.ARR_SPREAD l) (min (hi - lo) 255)
      (hi ≤ lo + 1 → exec (.alignMeasureDone l reads) s = .next (u.modLane l fun b => { b with alignTx := true })) ∧
      (lo + 1 < hi → exec (.alignMeasureDone l reads) s = .next (failLane l 7 u))) ∧
    (s.alignReady l = true → exec (.laneEnterUp l) s = .next (enterUp l false s)) ∧
    (s.bringing l = true → s.alignReady l = true → exec (.bringupTimeout l true) s = .next (enterUp l true s)) ∧
    (s.bringing l = true → exec (.bringupTimeout l false) s = .next (failLane l (s.stageReason l) s))

/-- A lane in Fail shows its state and its reason, and a lane that enters Up shows Up, with `FL_OK` = 1 exactly when the
lane is in fixed mode and `FL_LAT` obeys the rule of R353 (after R342, R353). An Up lane that goes down shows `DOWN`,
counts it in `DOWN_CNT`, is no longer Up, and shows the reason, unless its line rate is out of range (after R332, R343,
R358, R362). Choices of the model in it: assumption 102. -/
def Obligations.LaneStatusShowsItsState : Prop :=
  (∀ (s : State) (l : Fin 96) (k : Fin 16) (late : Bool),
    (failLane l k s).laneState l = lsFail ∧ (failLane l k s).get (R.LANE_STAT.REASON l) = k ∧
    (enterUp l late s).laneState l = lsUp ∧
    ((enterUp l late s).flag (R.LANE_STAT.FL_OK l) = true ↔ s.fixedMode l = true ∧
      flOk (s.laneK l) (s.get (R.LANE_FL.L_MEAS l)) (s.get (R.LANE_FL.FL_LAT l)) = true)) ∧
  (∀ (s : State) (l : Fin 96) (r : Nat), s.laneState l = lsUp → r ∈ [2, 3, 8, 0xA, 0xB, 0xC] →
    (s.lst l).rxHalf = 0 ∨ r ∉ [2, 3, 0xC] →
    ∃ t, exec (.laneDownEvent l r) s = .next t ∧ t.laneState l ≠ lsUp ∧ t.flag (R.LANE_STAT.DOWN l) = true ∧
      (s.rateOk l = true → t.get (R.LANE_STAT.REASON l) = r) ∧
      t.get (R.LANE_STAT.DOWN_CNT l) = min (s.get (R.LANE_STAT.DOWN_CNT l) + 1) 255 ∧
      t.flag (R.LINK_STAT.LINK_UP (s.bundleOf l)) = false)

/-- The transmitter's taps: a far request is acted on once, within the tap ranges, and the main tap is 63 minus both
(after R344, R345). A checker seeds itself from the bits it receives: whatever its register held, it locks on at most
1,024 bits more than the degree of its pattern, and then finds no error in the pattern (after R363). Descrambling gives
back what was scrambled, bit for bit, from the register that the scrambler had, and from any register after 58 bits
(after R336). Choices of the model in it: assumptions 101, 224, 225. -/
def Obligations.TapsScramblerAndPatternsFollowTheirRules : Prop :=
  (∀ (s t : State) (l : Fin 96) (w : BitVec 64), s.get (R.LANE_EQ.TX_PRE l) ≤ 12 → s.get (R.LANE_EQ.TX_POST l) ≤ 24 →
    s.get (R.LANE_EQ.PRE_PRESET l) ≤ 12 → s.get (R.LANE_EQ.POST_PRESET l) ≤ 24 →
    s.get (R.LANE_EQ.TX_MAIN l) = 63 - s.get (R.LANE_EQ.TX_PRE l) - s.get (R.LANE_EQ.TX_POST l) →
    exec (.trainingBlockRx l w) s = .next t →
    t.get (R.LANE_EQ.TX_PRE l) ≤ 12 ∧ t.get (R.LANE_EQ.TX_POST l) ≤ 24 ∧
    t.get (R.LANE_EQ.TX_MAIN l) = 63 - t.get (R.LANE_EQ.TX_PRE l) - t.get (R.LANE_EQ.TX_POST l) ∧
    (bitsOf w.toNat 20 4 = (s.lst l).ackSeq → t.regs = s.regs)) ∧
  (∀ (a : PrbsRd) (g n : Nat), a.lane.pattern ∈ [7, 15, 23, 31] → a.lane.clean = 0 → a.lock = false →
    1024 + a.lane.pattern ≤ n →
    let c := (prbsRun a.lane.pattern g n).1.foldl prbsStep a
    c.lock = true ∧ c.errs = a.errs ∧ a.lane.bits + n ≤ c.lane.bits + 1024 + a.lane.pattern ∧
      c.lane.bits + 1024 ≤ a.lane.bits + n) ∧
  (∀ (r q : Nat) (bits : List Bool),
    descramble r (scramble r bits).1 = bits ∧ (scramble r bits).2 = scramEnter r (scramble r bits).1 ∧
    (descramble q (scramble r bits).1).drop 58 = bits.drop 58 ∧
    (58 ≤ bits.length → scramEnter q (scramble r bits).1 = (scramble r bits).2))

/-- The other events of lanes act when they are due (after R344, R345, R348, R355, R357–R360, R363, R365, R366). Choices
of the model in it: assumptions 10, 98, 100, 101, 122, 127, 224, 225. -/
def Obligations.LaneEventsComplete : Prop :=
  ∀ (s : State) (l : Fin 96),
    (∀ w : BitVec 64, trainingOk w.toNat = true → s.laneState l = lsTrain → bitsOf w.toNat 20 4 ≠ (s.lst l).ackSeq → ∃ t,
      exec (.trainingBlockRx l w) s = .next t ∧ (t.lst l).ackSeq = bitsOf w.toNat 20 4) ∧
    (s.laneState l = lsTrain → (s.lst l).reqPend = true → exec (.tapRequestTimeout l true) s =
      .next ((s.set (R.LANE_STAT.LATE l) 1).modLane l fun b => { b with reqPend := false, retries := 0 })) ∧
    (∀ w : BitVec 64, trainingOk w.toNat = true → lsAcquire ≤ s.laneState l → s.laneState l ≤ lsAlign → s.laneState l ≠ lsTrain →
      exec (.trainingBlockRx l w) s = .next (s.modLane l fun b => { b with
        dscr := scramEnter b.dscr (bitList 64 w.toNat)
        trainRx := if bitsOf w.toNat 8 3 = 2 then b.trainRx + 1 else 0
        alignRx := if bitsOf w.toNat 8 3 = 4 then b.alignRx + 1 else 0 })) ∧
    (s.laneState l = lsTrain → (s.lst l).reqPend = true → (s.lst l).retries < 3 → exec (.tapRequestTimeout l false) s =
      .next (s.modLane l fun b => { b with retries := b.retries + 1, reqSeq := (b.reqSeq + 1) % 16 })) ∧
    (s.laneState l = lsTrain → (s.lst l).reqPend = true → 3 ≤ (s.lst l).retries → exec (.tapRequestTimeout l false) s =
      .next (failLane l 5 s)) ∧
    (∀ f, s.laneState l = lsUp → f ≤ 64 → s.fixedMode l = true →
      let e := ((s.lst l).flUsed - s.get (R.LANE_FL.L_MEAS l)) / s.laneK l
      let u := s.set (R.LANE_FLS.FILL l) f
      exec (.rxBufferFillCheck l f) s = .next (if f ≤ e + 2 ∧ e ≤ f + 2 then u
        else raise 0x0405 [(1, l)] (u.set (R.LANE_STAT.FL_SLIP l) 1))) ∧
    (∀ f, s.laneState l = lsUp → f ≤ 64 → s.fixedMode l = false →
      exec (.rxBufferFillCheck l f) s = .next (s.set (R.LANE_FLS.FILL l) f)) ∧
    (∀ f, s.laneState l = lsTest → (s.lst l).loop = 3 → s.laneAligned l = false → f = 0 ∨ 32 ≤ f →
      exec (.rxBufferFillCheck l f) s = .next (s.modLane l fun b => { b with lbSlip := true })) ∧
    (∀ f, s.laneState l = lsUp → 64 < f → exec (.rxBufferFillCheck l f) s = .next (downLane l 8 s)) ∧
    (s.laneState l = lsUp → s.fixedMode l = false → 48 < s.get (R.LANE_FLS.FILL l) → exec (.elasticAdjust l true) s =
      .next (s.set (R.LANE_FLS.FILL l) (s.get (R.LANE_FLS.FILL l) - 1))) ∧
    (s.laneState l = lsUp → s.fixedMode l = false → s.get (R.LANE_FLS.FILL l) < 16 → exec (.elasticAdjust l true) s =
      .next (s.set (R.LANE_FLS.FILL l) (s.get (R.LANE_FLS.FILL l) + 1))) ∧
    (s.laneState l = lsUp → exec (.adaptFreeze l false) s = .next (s.set (R.LANE_STAT.FROZEN l) 1) ∧
      exec (.adaptFreeze l true) s = .next (s.set (R.LANE_STAT.FROZEN l) 0)) ∧
    (∀ sleep, s.baseR l = false → s.laneState l = lsUp ∨ s.laneState l = lsDoze ∨ s.laneState l = lsSleep → exec (.laneNoticeRx l sleep) s =
      .next (s.modLane l fun b => { b with rxHalf := if sleep then lsSleep else lsDoze })) ∧
    ((s.lst l).rxHalf ≠ 0 ∨ s.laneState l = lsDoze ∨ s.laneState l = lsSleep →
      let u := raise 0x0406 [(1, l)] ((s.set (R.LANE_STAT.WOKE l) 1).modLane l fun b => { b with rxHalf := 0 })
      exec (.laneSignalWake l) s = .next (if s.flag (R.LANE_CFG.WAKE_TX l) then exitDoze l u else u)) ∧
    (∀ o m, s.laneState l = lsDoze → (s.lst l).exiting = true →
      s.fixedMode l = false ∨ (o = 0 ∧ m = s.get (R.LANE_FL.L_MEAS l)) →
      exec (.laneDozeExitDone l o m) s = .next (releaseDoors (settleUps (bundleCheckUp l (setLane l lsUp
        (s.modLane l fun b => { b with exiting := false })))))) ∧
    (∀ o m, s.laneState l = lsDoze → (s.lst l).exiting = true → s.fixedMode l = true → o < 66 →
      ¬ (o = 0 ∧ m = s.get (R.LANE_FL.L_MEAS l)) → ∃ t, exec (.laneDozeExitDone l o m) s = .next t ∧
        t.laneState l = lsAlign ∧ t.get (R.LANE_STAT.HDR_OFS l) = o ∧ (t.lst l).alignTx = false ∧
        (t.lst l).slips = if s.flag (R.LANE_CFG.AUTO_ALIGN l) = true then o else 0) ∧
    (∀ rx n, s.laneState l = lsUp → exec (.prbsCheck l rx n) s = .next (s.incBy (R.LANE_ERR.ERR_CNT l) n)) ∧
    (∀ rx n, s.laneState l = lsTest → (s.lst l).pattern ≠ 0 →
      let b := s.lst l
      let bits := if b.loop = 1 ∨ b.loop = 2 then (prbsRun b.pattern b.gen rx.length).1 else rx.map fun x => x != b.invert
      let a := bits.foldl prbsStep ⟨s.flag (R.LANE_ERR.PRBS_LOCK l), 0,
        { b with gen := (prbsRun b.pattern b.gen rx.length).2 }⟩
      ∃ t, exec (.prbsCheck l rx n) s = .next t ∧ t.flag (R.LANE_ERR.PRBS_LOCK l) = a.lock ∧ t.lst l = a.lane ∧
        t.get (R.LANE_ERR.ERR_CNT l) = min (s.get (R.LANE_ERR.ERR_CNT l) + a.errs) (2 ^ 32 - 1)) ∧
    (s.laneState l = lsUp → (s.lst l).eye = none → (s.lst l).turn < 4 → ∃ t, exec (.slicerCalTurn l) s = .next t ∧
      (t.lst l).turn = ((s.lst l).turn + 1) % 4 ∧ t.regs = s.regs ∧
      ∀ i, i ≠ (s.lst l).turn → (t.lst l).slicer.getD i 0 = (s.lst l).slicer.getD i 0) ∧
    (∀ e c, (s.lst l).eye = some e → c.length = e.points.length → exec (.eyeScanEnd l c) s =
      .next (finishCmd e.serial stOk (pack (c.map fun n => (5, n))) false (s.modLane l fun b => { b with eye := none })))

/-- The lane commands of Table 11-16 complete, or begin to run where they wait for the lane (after R347, R351, R353,
R358, R360, R363–R365, R368). Choices of the model in it: assumptions 10, 11, 99, 102, 196. -/
def Obligations.LaneCommandsComplete : Prop :=
  ∀ (mb : Fin 16) (s : State),
    (∀ l, s.serves mb 0x0400 [(1, l)] → l < 96 → s.laneTested l = false → Completes (.laneGet mb l) mb s stOk
      (pack [(4, s.cardWord (0x700000 + 4 * l)), (4, s.cardWord (0x700200 + 4 * l)), (4, s.cardWord (0x700400 + 4 * l)),
        (4, s.cardWord (0x700C00 + 4 * l)), (4, s.cardWord (0x700E00 + 4 * l))]) (s.begun mb)) ∧
    (∀ mask time, s.serves mb 0x0401 [(12, mask), (2, time)] → mask ≠ 0 → time = 0 ∨ (10 ≤ time ∧ time ≤ 5000) →
      s.runClass = true ∨ s.mode = mBlocking ∨ s.mode = mSafe →
      (∀ l ∈ maskLanes mask, s.laneTested l = false ∧ s.test.fenced.contains (8, l) = false) → ∃ t,
      exec (.laneUp mb mask time) s = .next t ∧
      ∀ l ∈ maskLanes mask, s.laneState l = lsIdle ∨ s.laneState l = lsFail ∨ s.laneState l = lsOff →
        (t.lst l).upMs = (if time = 0 then 500 else time) ∧
        (s.rateOk l = true → s.bit R.CLK_LOCK.LOCK (sideDomain l) = true → t.laneState l = lsAcquire)) ∧
    (∀ mask, s.serves mb 0x0402 [(12, mask)] → mask ≠ 0 → (∀ l ∈ maskLanes mask, s.laneTested l = false) → ∃ t,
      Completes (.laneDown mb mask) mb s stOk [] t ∧ ∀ l ∈ maskLanes mask, t.laneState l = lsIdle ∧
        t.flag (R.LINK_STAT.LINK_UP (s.bundleOf l)) = false) ∧
    (∀ mask p, s.serves mb 0x0403 [(12, mask), (1, p)] → mask ≠ 0 → p < 3 → (∀ l ∈ maskLanes mask, s.laneTested l = false) →
      ((∃ l ∈ maskLanes mask, s.bringing l = true ∨ (s.lst l).exiting = true) →
        Completes (.lanePower mb mask p) mb s stBusy [] (s.begun mb)) ∧
      ((∀ l ∈ maskLanes mask, (s.lst l).exiting = false ∧
          (s.laneState l = lsUp ∨ s.laneState l = lsDoze ∨ s.laneState l = lsSleep)) → ∃ t,
        Completes (.lanePower mb mask p) mb s stOk [] t ∧ ∀ l ∈ maskLanes mask,
          (s.laneState l = lsUp → t.laneState l = (if p = 0 then lsUp else if p = 1 then lsDoze else lsSleep)) ∧
          (s.laneState l = lsDoze → t.laneState l = lsDoze ∧ (t.lst l).exiting = (p == 0)))) ∧
    (∀ l v, s.serves mb 0x0404 [(1, l), (2, v)] → l < 96 → s.laneTested l = false → s.laneState l ≠ lsUp →
      (flOk (s.laneK l) (s.get (R.LANE_FL.L_MEAS l)) v = true → Completes (.laneFlSet mb l v) mb s stOk []
        (((s.begun mb).set (R.LANE_FL.FL_LAT l) v).modLane l fun b => { b with flSet := true })) ∧
      (flOk (s.laneK l) (s.get (R.LANE_FL.L_MEAS l)) v = false →
        Completes (.laneFlSet mb l v) mb s stBadArg [] (s.begun mb))) ∧
    (∀ l n, s.serves mb 0x0405 [(1, l), (1, n)] → l < 96 → 1 ≤ n → n ≤ 65 → s.laneTested l = false →
      (s.laneState l = lsAlign → exec (.laneSlip mb l n) s = .next ((s.begun mb).modLane l fun b =>
        { b with slips := n, slipCmd := s.serial mb })) ∧
      (s.laneState l ≠ lsAlign → Completes (.laneSlip mb l n) mb s stDenied [] (s.begun mb))) ∧
    (∀ l p inv loop, s.serves mb 0x0406 [(1, l), (1, p), (1, inv), (1, loop)] → l < 96 → p ∈ [0, 7, 15, 23, 31] → inv < 2 →
      loop < 4 → s.laneTested l = false → (s.lst l).loading = false ∨ loop = 0 → ∃ t,
      Completes (.laneTest mb l p inv loop) mb s stOk (pack [(1, if (s.lst l).lbSlip then 1 else 0)]) t ∧
      t.laneState l = (if p = 0 ∧ loop = 0 then lsIdle else lsTest) ∧ (t.lst l).pattern = p ∧ (t.lst l).loop = loop ∧
      (t.lst l).invert = (inv == 1) ∧ (t.lst l).lbSlip = false ∧ t.flag (R.LANE_ERR.PRBS_LOCK l) = false) ∧
    (∀ l c, s.serves mb 0x0407 [(1, l), (1, c)] → l < 96 → c < 2 → s.laneTested l = false →
      Completes (.laneErr mb l c) mb s stOk
        (pack [(4, s.get (R.LANE_ERR.ERR_CNT l)), (4, s.get (R.LANE_ERR.BIT_CNT l) + 2 ^ 31 * s.get (R.LANE_ERR.PRBS_LOCK l))])
        (if c = 1 then (((s.begun mb).set (R.LANE_ERR.ERR_CNT l) 0).set (R.LANE_ERR.BIT_CNT l) 0).modLane l
          fun b => { b with bits := 0 } else s.begun mb)) ∧
    (∀ l p0 p1 o0 o1 e, s.serves mb 0x0408 [(1, l), (1, p0), (1, p1), (1, o0), (1, o1), (1, e)] → l < 96 →
      -32 ≤ sbyte p0 → sbyte p0 ≤ sbyte p1 → sbyte p1 ≤ 31 → -127 ≤ sbyte o0 → sbyte o0 ≤ sbyte o1 → 16 ≤ e → e ≤ 36 →
      (sbyte p1 - sbyte p0 + 1) * (sbyte o1 - sbyte o0 + 1) ≤ 64 → s.laneTested l = false →
      ((s.lst l).eye = none → ∃ x t, exec (.laneEye mb l p0 p1 o0 o1 e) s = .next t ∧ (t.lst l).eye = some x ∧
        x.serial = s.serial mb ∧ (x.points.length : Int) = (sbyte p1 - sbyte p0 + 1) * (sbyte o1 - sbyte o0 + 1)) ∧
      ((s.lst l).eye ≠ none → Completes (.laneEye mb l p0 p1 o0 o1 e) mb s stBusy [] (s.begun mb))) ∧
    (∀ l p q c d a, s.serves mb 0x0409 ([(1, l), (1, p), (1, q), (1, c)] ++ (bytesAt d 0 12).map (fun v => (1, v)) ++ [(1, a)]) →
      l < 96 → a < 3 → eqRange p q c d = true → s.laneTested l = false →
      Completes (.laneEqSet mb l p q c d a) mb s stOk [] (writeEq l p q c d a (s.begun mb)))

/-! ## Links -/

/-- The trigger and packet channels of a link act on what they receive and send when it is due; a received block comes
over a physical lane, which a reversed quad delivers as another (after R341, R371, R373–R387, R402). Choices of the
model in it: assumptions 31, 103, 104, 105, 106, 107, 108, 109, 110, 111, 112, 120, 122, 126. -/
def Obligations.LinkEventsComplete : Prop :=
  ∀ (s : State) (x : Fin 96), let l := s.delivers x; let f := s.bundleOf x
    (∀ (tick crc skew : Nat) (hold : Bool), s.laneState l = lsUp → s.baseR l = false → ∃ t,
      exec (.tickMarkerRx x tick hold crc skew) s = .next t ∧ (t.trg l).rtick = tick ∧ (t.trg l).rhold = hold ∧
        (t.trg l).rbad = (tcrc (s.trg l).rxIv != crc) ∧ (t.trg l).rxIv = [] ∧
        t.get (R.LINK_STAT.TRG_ERR l) = (if tcrc (s.trg l).rxIv = crc then s.get (R.LINK_STAT.TRG_ERR l)
          else min (s.get (R.LINK_STAT.TRG_ERR l) + 1) 255) ∧
        (16 < skew → t.flag (R.LINK_STAT.SKEW_ERR (s.bundleOf l)) = true) ∧
        (s.fixedMode l = true → tick ≠ s.markTick l → t.flag (R.LINK_STAT.TICK_MIS l) = true)) ∧
    (∀ (slot : Nat) (td : BitVec 64) (tv : Bool), s.laneState x = lsUp → 1 ≤ slot → slot ≤ s.get (R.LINK_CFG.TRIG_SLOTS x) →
      let word := tv && s.fab.writes && !s.trgBlocked x && !(s.lst x).trgEmpty && !s.fab.cutLanes.contains x.val
      let u := sendSlot x slot 1 td.toNat td.toNat s
      (s.mode = mSafe → exec (.triggerSlotTx x slot td tv) s =
        .next (sendSlot x slot 3 0 (safePayload s.devId (s.get R.DEV_MODE.SAFE_CAUSE)) s)) ∧
      (s.mode ≠ mSafe → word = true → exec (.triggerSlotTx x slot td tv) s = .next (if s.flag (R.LINK_CFG.DIG_EN x) = true then
          (closeWords u).modLink fun k => { k with words := k.words ++ [(x.val, slot, td.toNat)], wordsTick := s.clk.tick }
        else u)) ∧
      (s.mode ≠ mSafe → word = false → exec (.triggerSlotTx x slot td tv) s = .next (sendSlot x slot 2 0 emptyPayload s))) ∧
    (∀ (slot : Nat) (b : SlotBlk), s.laneState l = lsUp → 1 ≤ slot → slot ≤ s.get (R.LINK_CFG.TRIG_SLOTS l) → ∃ t,
      exec (.triggerSlotRx x slot b) s = .next t ∧ (t.trg l).rslot = slot ∧ t.regs = s.regs ∧
      let cut := s.fab.cutLanes.contains l
      (∀ w, b = .word w → (t.trg l).rv = (!cut && !(s.lst l).trgEmpty) ∧
        (t.trg l).rd = (if cut = false ∧ (s.lst l).trgEmpty = false then w.toNat else 0)) ∧
      ((∀ w, b ≠ .word w) → (t.trg l).rv = false ∧ (t.trg l).rd = 0) ∧
      (t.trg l).rerr = (cut || match b with | .error _ => true | _ => false) ∧
      (∀ d c, cut = false → b = .safe d c → (t.trg l).rsafe = true)) ∧
    (∀ (sender cause : Nat) (on : Bool), s.laneState x = lsUp → s.baseR x = false → ∃ t,
      exec (.safeBlockRx x sender cause on) s = .next t ∧ (t.bdl f).safeSeen = on ∧ (t.trg x).rsafe = on ∧
        t.flag (R.LINK_STAT.PEER_SAFE f) = on) ∧
    (∀ (qs qe n vc bad : Nat) (pcrc : BitVec 32) (flits : List (BitVec 256)), s.streamOpen f = true →
      let good := pcrcOf qs n vc flits = pcrc.toNat ∧ qs = qe ∧ flits.length = n ∧ 1 ≤ n ∧ n ≤ 17 ∧ qs = (s.bdl f).rxSeq
      let p := pktOf (flits.map BitVec.toNat)
      (good → ∃ t, exec (.pktRx x qs qe ⟨n, vc⟩ pcrc flits bad) s = .next t ∧ (t.bdl f).rxSeq = (qs + 1) % 4096 ∧
        (t.bdl f).ackDue = true ∧ (t.bdl f).nakked = false ∧
        ((t.bdl f).rxPkts = (s.bdl f).rxPkts ++ [p] ∨
          s.flag (R.LINK_CFG.DUP_EN f) = true ∧ (t.bdl f).rxPkts = (s.bdl f).rxPkts ∧ (t.bdl f).dupCnt = (s.bdl f).dupCnt + 1)) ∧
      (¬ good → ∃ t, exec (.pktRx x qs qe ⟨n, vc⟩ pcrc flits bad) s = .next t ∧ (t.bdl f).rxPkts = (s.bdl f).rxPkts ∧
        (t.bdl f).rxSeq = (s.bdl f).rxSeq ∧ (t.bdl f).nakked = true ∧ ((s.bdl f).nakked = false → (t.bdl f).nakDue = true))) ∧
    (∀ (next : Nat) (nak : Bool) (credits : List Nat), s.streamOpen f = true → s.flag (R.LINK_STAT.BLOCKED f) = false →
      let kept := (s.bdl f).replay.filter fun e => !ackCovers (next % 4096) e.1
      let u := (if kept.length = (s.bdl f).replay.length then s else s.set (R.LINK_STAT.REPLAYS f) 0).modBdl f fun b =>
        { b with replay := kept, resend := min b.resend kept.length,
                 credits := (List.range 4).map fun v => min 68 (b.credits.getD v 0 + credits.getD v 0) }
      exec (.ackRx x next nak credits) s = .next (if nak then startReplay f u else u)) ∧
    (s.flag (R.LINK_STAT.LINK_UP f) = true → (s.bdl f).replay ≠ [] →
      exec (.ackTimeout x true) s = .next (s.set (R.LINK_STAT.LATE f) 1) ∧
      exec (.ackTimeout x false) s = .next (startReplay f s)) ∧
    (s.flag (R.LINK_STAT.LINK_UP f) = false → s.flag (R.LINK_STAT.BLOCKED f) = false → s.baseR f = false → s.up = true →
      exec (.bundleDownTimeout x) s = .next (blockChannel f s)) ∧
    (∀ (epoch dev role : Nat), s.streamOpen f = true → ∃ t,
      exec (.initRx x epoch dev role) s = .next t ∧ (t.bdl f).credits = [68, 68, 68, 68] ∧ (t.bdl f).farEpoch = some epoch ∧
        t.flag (R.LINK_STAT.BLOCKED f) = false ∧ (f = 92 → t.link.farRole = some role ∧ t.link.farDev = dev) ∧
        if (s.bdl f).farEpoch = some epoch ∧ (s.bdl f).ownAtLast = s.epochOf f then
          (t.bdl f).replay = (s.bdl f).replay ∧ (t.bdl f).txSeq = (s.bdl f).txSeq
        else (t.bdl f).replay = [] ∧ (t.bdl f).txSeq = 0 ∧ (t.bdl f).rxSeq = 0) ∧
    (∀ p, f = x.val → s.baseR f = false → s.rxHead (0x100 + f) = some p →
      exec (.bridgeForward x false) s = .next (exitBridge f p (popRx (0x100 + f) s))) ∧
    (∀ p ps, f = x.val → s.baseR f = false → (s.bdl f).rxPkts = p :: ps →
      let u := returnCredit f p (s.modBdl f fun b => { b with rxPkts := ps })
      let own := p.dev = s.devId ∨ ((s.lst x).loading = true ∧ s.mode = mLoad ∧ p.ep = 0xA1)
      (own → exec (.bridgeForward x true) s = .next (bridgeRoute f p.ep { p with dev := s.devId } u)) ∧
      (¬ own → p.dev = 0xFFFFF → p.typ = 2 → let v := bridgeRoute f p.ep p u
        exec (.bridgeForward x true) s = .next (forEach (v.treeLinks.filter fun k => k != f)
          (fun k => bridgeRoute f (0x100 + k) p) v)) ∧
      (¬ own → p.dev = 0xFFFFF → p.typ ≠ 2 → exec (.bridgeForward x true) s = .next (refusePkt p 0x0A s.devId u)) ∧
      (¬ own → p.dev ≠ 0xFFFFF → ∀ k, s.exitBundle p.dev = some k → k ≠ f → s.isSpaif k = true →
        exec (.bridgeForward x true) s = .next (bridgeRoute f (0x100 + k) p u)) ∧
      (¬ own → p.dev ≠ 0xFFFFF → s.exitBundle p.dev = none →
        exec (.bridgeForward x true) s = .next (refusePkt p 0x0A s.devId u))) ∧
    (s.flag (R.LINK_STAT.LINK_UP f) = true → s.baseR f = false → x.val = f + (s.bdl f).txPos % (s.bundleLanes f).length →
      (∀ c v ts, (s.bdl f).timing = (c, v) :: ts → exec (.streamPositionTx x) s =
        .next (sendStream f [(2, 0x5A + 2 ^ 8 * c + 2 ^ 12 * v)] (s.modBdl f fun b =>
          { b with timing := ts, lastKind := 1, lastVal := c + 16 * v }))) ∧
      ((s.bdl f).timing = [] → (s.bdl f).ackDue = true →
        let v := (s.bdl f).rxSeq + (if (s.bdl f).nakDue then 4096 else 0) + 2 ^ 16 * ofLeBytes (s.bdl f).giveBack
        exec (.streamPositionTx x) s = .next (sendStream f [(2, 0x4B + 2 ^ 8 * v)] (s.modBdl f fun b =>
          { b with ackDue := false, nakDue := false, giveBack := [0, 0, 0, 0], lastKind := 2, lastVal := v }))) ∧
      ((s.bdl f).timing = [] → (s.bdl f).ackDue = false → (s.bdl f).digest = none → (s.bdl f).mgmt = [] →
        s.nextPacket f = none → s.mode ≠ mSafe → exec (.streamPositionTx x) s =
          .next (sendStream f [(2, 0x2D)] (s.modBdl f fun b => { b with lastKind := 6, lastVal := 0 })))) ∧
    (∀ (rd : BitVec 64) (rc : BitVec 8) (h : Bool), s.laneState x = lsUp → s.baseR x = true → s.resyncing (256 + x) = false →
      exec (.baseRRxBlock x rd rc h) s = .next (s.modBdl x fun b => { b with brRx := some (rd.toNat, rc.toNat, h) })) ∧
    (∀ (td : BitVec 64) (tc : BitVec 8), s.laneState x = lsUp → s.baseR x = true → s.fab.writes = true →
      exec (.baseRTxBlock x td tc) s = .next (s.modBdl x fun b => { b with brTx := some (td.toNat, tc.toNat) }))

/-- A bundle that sends keeps R380 and R381: it never spends a credit that it does not hold, its replay buffer never
holds more than 64 packets, and it leaves a sent packet there until an acknowledgement covers it; no other bundle
changes. Choices of the model in it: assumption 109. -/
def Obligations.SenderKeepsReplayAndCredit : Prop :=
  ∀ (s t : State) (l : Fin 96), (s.bdl (s.bundleOf l)).replay.length ≤ 64 → exec (.streamPositionTx l) s = .next t →
    (t.bdl (s.bundleOf l)).replay.length ≤ 64 ∧
    ((t.bdl (s.bundleOf l)).replay = (s.bdl (s.bundleOf l)).replay ∨
      ∃ p, (t.bdl (s.bundleOf l)).replay = (s.bdl (s.bundleOf l)).replay ++ [((s.bdl (s.bundleOf l)).txSeq, p)] ∧
        (s.bdl (s.bundleOf l)).replay.length < 64 ∧ pktFlits p ≤ (s.bdl (s.bundleOf l)).credits.getD p.vc 0 ∧
        (t.bdl (s.bundleOf l)).txSeq = ((s.bdl (s.bundleOf l)).txSeq + 1) % 4096) ∧
    (∀ k, k ≠ s.bundleOf l → t.bdl k = s.bdl k) ∧ t.regs = s.regs

/-- The messages of timing links, of Twin pairs and of the management channel act when they are due (after R42,
R389–R400). Choices of the model in it: assumptions 33, 37, 105, 113, 114, 115, 116, 117, 118, 119, 120, 121, 212, 228.
-/
def Obligations.TimingAndTwinEventsComplete : Prop :=
  ∀ s : State, let parent := s.get R.SYNC_STAT.PARENT
    (s.up = true → ∃ t, exec .announceTx s = .next t ∧ t.link.stable = s.link.stable + 1 ∧ ∀ l ∈ s.timingLinks,
      let c := s.link.crown.getD (s.prio, s.devId)
      (t.bdl l).silent = (s.bdl l).silent + 1 ∧ (t.bdl l).timing = (s.bdl l).timing ++
        (if s.get R.SYNC_STAT.STATE = 4 ∧ s.link.stable = 7 then [(6, 32)] else []) ++
        [(0, s.get R.SYNC_STAT.HOPS + 2 ^ 5 * c.1 + 2 ^ 13 * c.2 + 2 ^ 33 * (s.synth (sideDomain l)).n
          + 2 ^ 40 * s.get (R.LANE_CFG.KDIV l) + 2 ^ 42 * (if s.crownHold then 1 else 0))]) ∧
    (∀ (l : Fin 96) (a : Announce), s.timingLinks.contains (s.bundleOf l) = true → s.streamOpen (s.bundleOf l) = true →
      let u := s.modBdl (s.bundleOf l) fun b => { b with heard := some a, silent := 0 }
      (s.runClass = true → exec (.announceRx l a) s =
        .next (if betterCrown (a.prio, a.crown) (s.link.crown.getD (255, 0xFFFFF)) then
          raise 0x0510 [(1, a.prio), (3, a.crown)] u else u)) ∧
      (s.runClass = false → let v := adoptMK (s.bundleOf l) a (elect u)
        exec (.announceRx l a) s = .next (if v.flag R.STRAP_LATCH.MCLK_SRC = true ∧ v.get R.SYNC_STAT.PARENT ≠ 0x7F then
          v.modLink fun k => { k with mclkLane := v.get R.SYNC_STAT.PARENT } else v))) ∧
    (parent ≠ 0x7F → 8 ≤ (s.bdl parent).silent →
      let u := s.modBdl parent fun b => { b with heard := none, aligned := false }
      exec .parentTimeout s = .next (if s.runClass = false then elect u
        else if s.flag R.STRAP_LATCH.MCLK_SRC = true ∧ s.clk.lockMeas.isSome = true ∧ s.hold = false then loseMclk u else u)) ∧
    (∀ (l : Fin 96) (m f o : Nat), s.timingLinks.contains (s.bundleOf l) = true → s.streamOpen (s.bundleOf l) = true →
      let u := s.modBdl (s.bundleOf l) fun b => { b with farMeas := some (m, f), ownFine := o }
      exec (.measRx l m f o true) s = .next (if s.get R.SYNC_STAT.STATE = 3 ∧ parent = s.bundleOf l then
        u.set R.SYNC_STAT.RESID (satByte ((u.offset (s.bundleOf l)).getD 0)) else u)) ∧
    (∀ (p : Nat) (d : Int), s.link.align ≠ none → parent ≠ 0x7F → (s.bdl parent).aligned = true → s.offset parent = some d →
      let w : Int := s.tickSteps parent
      let follower := !s.flag R.STRAP_LATCH.MCLK_SRC
      let ticks : Int := if w = 0 then 0 else (d + (if follower then w / 2 else 0)) / w
      let done := (-2 ≤ d ∧ d ≤ 2) ∨ (follower = true ∧ ticks = 0)
      (done → exec (.syncAlignStep p d) s = .next (endAlign 3 stOk d s)) ∧
      (¬ done → 4 ≤ s.link.tries → exec (.syncAlignStep p d) s = .next (endAlign 7 stTimeout d s)) ∧
      (¬ done → s.link.tries < 4 → ∃ t, exec (.syncAlignStep p d) s = .next t ∧ t.get R.SYNC_STAT.STATE = 2 ∧
        t.link.tries = s.link.tries + 1 ∧ t.link.delta = d ∧
        t.clk.phase = s.clk.phase + (if follower then 0 else d - ticks * w) ∧
        (ticks ≠ 0 → ((p + 1) % tickMod, (s.clk.tick + 1) % tickMod) ∈ t.clk.loads))) ∧
    (∀ (l : Fin 96) (h : Nat) (on : Bool), s.timingLinks.contains (s.bundleOf l) = true → s.streamOpen (s.bundleOf l) = true →
      let u := s.modBdl (s.bundleOf l) fun b => { b with aligned := on }
      exec (.alignedRx l h on) s = .next (if on = true ∧ parent = s.bundleOf l ∧ s.link.align = none ∧ s.link.alignDue = true ∧
          s.runClass = false ∧ h ≤ 24 then
        (u.modLink fun k => { k with align := some [], tries := 0, alignDue := false }).set R.SYNC_STAT.STATE 2 else u)) ∧
    (∀ id : Nat, s.streamOpen 92 = true →
      exec (.pairIdRx id) s = .next (tryPair (s.modLink fun k => { k with farImage := some (id % 2 ^ 32) }))) ∧
    (∀ tick : Nat, s.pairReady = true → s.streamOpen 92 = true → s.get R.STRAP_LATCH.TWIN = 2 → ∃ t,
      exec (.pairGoRx tick) s = .next t ∧ t.link.start = some (tick % tickMod) ∧ t.link.pairId = s.link.farDev ∧
        (t.bdl 92).timing = (s.bdl 92).timing ++ [(5, tick)]) ∧
    (s.link.start = some s.clk.tick → ∃ t, exec .pairStartTick s = .next t ∧ t.link.start = none ∧
      (s.pairing = true → s.flag (R.LINK_STAT.LINK_UP 92) = true →
        t.flag R.DEV_MODE.COND_TWIN = true ∧ t.flag R.TWIN_STAT.PAIRED = true)) ∧
    (s.flag R.DEV_MODE.COND_TWIN = true → s.flag (R.LINK_STAT.LINK_UP 92) = true → ∃ t, exec .digestTx s = .next t ∧
      let tick := (s.clk.tick + (tickMod - 1)) % tickMod
      (t.bdl 92).digest = some (tick % 65536, at' (closeWords s).link.digests tick (digestOf [])) ∧ t.regs = s.regs) ∧
    (∀ (t16 t : Nat) (d : Nat) (g : BitVec 32), s.flag R.DEV_MODE.COND_TWIN = true → s.streamOpen 92 = true →
      (s.link.digests.find? fun e => e.1 % 65536 == t16) = some (t, d) →
      (d = g.toNat → exec (.digestRx t16 g) s = .next s) ∧
      (d ≠ g.toNat →
        let u := raise 0x0413 [(6, t)] (((s.modLink fun k => { k with lastDiv := t }).set
          R.TWIN_STAT.DIVERGE 1).inc R.TWIN_STAT.DIV_CNT)
        exec (.digestRx t16 g) s = .next (if s.flag R.TWIN_STAT.POLICY = true ∧ s.get R.ESS_TOTAL.TOTAL ≠ s.integ.pairTotal then
          (if s.freeBit then u.useFree else enterSafe 9 (u.useFree.set R.TWIN_STAT.SILENCED 1)) else u))) ∧
    (s.flag R.DEV_MODE.COND_TWIN = true → ∃ t, exec .digestMissing s = .next t ∧ t.flag R.DEV_MODE.COND_TWIN = false ∧
      t.flag R.DEV_MODE.TWIN_ALONE = true ∧ t.flag R.TWIN_STAT.LOST = true)

/-- The link and synchronisation commands of Table 12-11 complete, or begin to run where they wait for an alignment
(after R386, R388, R389, R392, R393, R403). Choices of the model in it: assumptions 10, 11, 113, 115, 196, 228. -/
def Obligations.LinkCommandsComplete : Prop :=
  ∀ (mb : Fin 16) (s : State),
    (∀ l, s.serves mb 0x0410 [(1, l)] → l < 96 → s.laneTested l = false → Completes (.linkGet mb l) mb s stOk (pack
      [(4, s.cardWord (0x800000 + 4 * l)), (4, s.cardWord (0x800200 + 4 * l)), (4, (s.bdl l).dupCnt), (4, (s.bdl l).replayTot)])
      (s.begun mb)) ∧
    (∀ e m k b v, s.serves mb 0x0411 [(2, e), (3, m), (3, k), (1, b), (1, v)] → e < 256 → m < 2 ^ 20 → k < 2 ^ 20 → b < 96 → v < 2 →
      Completes (.drtSet mb e m k b v) mb s stOk [] (((((s.begun mb).set (R.DRT.MATCH e) m).set (R.DRT.MASK e) k).set
        (R.DRT.BUNDLE e) b).set (R.DRT.VALID e) v)) ∧
    (∀ e n, s.serves mb 0x0412 [(2, e), (1, n)] → e + n ≤ 256 → 1 ≤ n → n ≤ 16 →
      Completes (.drtGet mb e n) mb s stOk (pack ((List.range n).flatMap fun k => [(3, s.get (R.DRT.MATCH (e + k))),
        (3, s.get (R.DRT.MASK (e + k))), (1, s.get (R.DRT.BUNDLE (e + k))), (1, s.get (R.DRT.VALID (e + k)))])) (s.begun mb)) ∧
    (∀ d, s.serves mb 0x0413 [(3, d)] →
      (0xFFFFE ≤ d → Completes (.linkIdSet mb d) mb s stBadArg [] (s.begun mb)) ∧
      (d < 0xFFFFE → s.runClass = true → Completes (.linkIdSet mb d) mb s stDenied [] (s.begun mb)) ∧
      (d < 0xFFFFE → s.runClass = false → Completes (.linkIdSet mb d) mb s stOk [] ((s.begun mb).set R.DEV_ID.ID d))) ∧
    (s.serves mb 0x0414 [] → s.underTest 0x97 = false → Completes (.twinGet mb) mb s stOk
      (pack [(4, s.cardWord 0x801100), (3, s.link.pairId), (6, s.link.lastDiv)]) (s.begun mb)) ∧
    (∀ p, s.serves mb 0x0415 [(1, p), (2, 0)] → p < 2 → s.underTest 0x97 = false →
      Completes (.twinPolicy mb p 0) mb s stOk [] ((s.begun mb).set R.TWIN_STAT.POLICY p)) ∧
    (∀ p, s.serves mb 0x0510 [(1, p)] → p < 256 →
      (s.devId = 0xFFFFE → Completes (.syncRole mb p) mb s stDenied [] (s.begun mb)) ∧
      (s.devId ≠ 0xFFFFE → let u := (s.begun mb).set R.SYNC_STAT.PRIO p
        Completes (.syncRole mb p) mb s stOk [] (if s.runClass = true then u else elect u))) ∧
    (s.serves mb 0x0511 [] → Completes (.syncGet mb) mb s stOk (pack [(4, s.cardWord 0x801000), (4, s.get R.SYNC_CROWN.CROWN),
      (2, s.get (R.LANE_FL.L_MEAS (s.get R.SYNC_STAT.PARENT))), (2, ((s.bdl (s.get R.SYNC_STAT.PARENT)).farMeas.getD (0, 0)).1)])
      (s.begun mb)) ∧
    (s.serves mb 0x0512 [] →
      (s.get R.SYNC_STAT.PARENT = 0x7F → Completes (.syncAlign mb) mb s stDenied [] (s.begun mb)) ∧
      (s.get R.SYNC_STAT.PARENT ≠ 0x7F → ∃ t, exec (.syncAlign mb) s = .next t ∧
        t.link.align = some (s.link.align.getD [] ++ [s.serial mb]) ∧ t.get R.SYNC_STAT.STATE = 2 ∧
        t.link.tries = if s.link.align = none then 0 else s.link.tries)) ∧
    (∀ (l : Nat) (ps : Int), s.serves mb 0x0513 [(1, l), (3, ofSigned 24 ps)] → l < 96 → -100000 ≤ ps → ps ≤ 100000 →
      s.laneTested l = false → Completes (.linkAsym mb l ps) mb s stOk (pack [(4, ofSigned 32 (s.psToSteps l ps))])
        ((s.begun mb).modBdl l fun b => { b with asym := ps }))

/-! ## The NoC -/

/-- The events of routers, doors and interfaces act when they are due (after R404–R408, R410, R413, R414, R417, R418,
R422–R428). Choices of the model in it: assumptions 14, 42, 123, 124, 125, 126, 127, 128, 130, 131, 204, 226. -/
def Obligations.NocEventsComplete : Prop :=
  ∀ s : State,
    (∀ (r : Fin 128) (p : Pkt), s.runClass = true ∨ s.mode = mBlocking → s.borderBlocks r = false → s.regionDown r = false →
      s.resyncing (512 + r.val) = false → s.npClocked r = true → s.clocked 4 = true →
      exec (.npTxPacket r p false) s = .next (niInject r p s)) ∧
    (∀ (r : Fin 128) (p : Pkt), s.flag (R.BORDER_STAT.HOLDING r) = true →
      exec (.npTxPacket r p true) s = .next (s.set (R.NI_STAT.TX_ABORT r) 1)) ∧
    (∀ (n : Fin 160) (port : Fin 6) (w : Worm), let u := localSlot n port s
      s.nocRuns = true → s.mode ≠ mBoot ∨ 128 ≤ n.val → (u.headsAt n port).find? (u.hopActs n) = some w →
      let h := w.pkt.route % 8
      let v := dropWorm w u
      let p := { w.pkt with route := w.pkt.route / 8 + 7 * 2 ^ 81 }
      (2 ≤ u.rtrState n → exec (.routerHop n port) s = .next (refusePkt w.pkt 0x0C (meshFunc (meshOf n)) v)) ∧
      (u.rtrState n < 2 → 6 ≤ w.pkt.typ → exec (.routerHop n port) s = .next (refusePkt w.pkt 0x0E w.pkt.typ v)) ∧
      (u.rtrState n < 2 → w.pkt.typ < 6 → hopPort n h = none →
        exec (.routerHop n port) s = .next (brokenAt n h w.pkt v)) ∧
      (∀ o, u.rtrState n < 2 → w.pkt.typ < 6 → hopPort n h = some o →
        ((u.penAct n).testBit o = false → exec (.routerHop n port) s = .next (brokenAt n h w.pkt v)) ∧
        ((u.penAct n).testBit o = true → o = 4 → exec (.routerHop n port) s =
          .next (if ejects n w.tgt = false then brokenAt n h w.pkt v
            else if doored w.tgt = true then v.modNoc fun m => { m with door := pushAt m.door w.tgt p }
            else deliverAt w.tgt p v)) ∧
        ((u.penAct n).testBit o = true → o ≠ 4 → ∀ m ip, neighbour n o = (m, ip) → exec (.routerHop n port) s =
          .next (if 2 ≤ u.rtrState m then refusePkt w.pkt 0x0C (meshFunc (meshOf m)) v
            else v.modNoc fun k => { k with worms := k.worms ++ [⟨m, ip, w.tgt, p⟩] })))) ∧
    (∀ (n : Fin 160) (port : Fin 6), s.nocRuns = true → ∃ t, exec (.wormAge n port) s = .next t ∧ t.regs = s.regs ∧
      t.noc.worms = s.noc.worms.map (fun w => if (s.headsAt n port).contains w = true then
        { w with pkt := { w.pkt with age := min (w.pkt.age + 1) 15 } } else w) ∧
      ∀ e, at' t.noc.door e [] = if port.val = 4 ∧ endpointElem e = n.val then
        (at' s.noc.door e []).map (fun p => { p with age := min (p.age + 1) 15 }) else at' s.noc.door e []) ∧
    (∀ (e : Fin 1024) (p : Pkt) (rest : List Pkt), at' s.noc.resp e [] = p :: rest →
      let u := s.modNoc fun n => { n with resp := listAt n.resp e rest }
      let l := at' s.noc.out e []
      (∀ q, (l.find? fun q => q.seq == p.reqSeq) = some q → exec (.nocResponseRx e) s = .next (sendWaiting e (u.modNoc fun n =>
        { n with out := listAt n.out e (l.erase q), rx := pushAt n.rx e p }))) ∧
      ((l.find? fun q => q.seq == p.reqSeq) = none →
        exec (.nocResponseRx e) s = .next (u.set (R.NI_STAT.LATE_DROP e) 1))) ∧
    (∀ (e : Fin 1024) (q : Pkt) (seq : Nat), let l := at' s.noc.out e []
      s.nocRuns = true → s.get (R.NI_CFG.TXN_TO e) ≠ 0 → (l.find? fun q => q.seq == seq) = some q →
      exec (.txnTimeout e seq false) s = .next (sendWaiting e (((s.set (R.NI_STAT.TIMEOUT e) 1).inc (R.NI_STAT.TO_CNT e)).modNoc
        fun n => { n with out := listAt n.out e (l.erase q), rx := pushAt n.rx e (pktAnswer q 0x0F 0 [] false) })) ∧
      (∀ p, ((at' s.noc.resp e []).find? fun p => p.reqSeq == seq) = some p → exec (.txnTimeout e seq true) s =
        .next (sendWaiting e ((s.set (R.NI_STAT.LATE e) 1).modNoc fun n => { n with
          resp := listAt n.resp e ((at' n.resp e []).erase p), out := listAt n.out e (l.erase q),
          rx := pushAt n.rx e { p with late := true } })))) ∧
    (∀ (r : Fin 128) (p : Pkt), s.rxHead r = some p → at' s.noc.rxFlit r 0 = 0 → exec (.npRxStall r) s =
      .next (refusePkt p 0x0D r (popRx r (s.set (R.NI_STAT.RX_STALL r) 1)))) ∧
    (∀ (r : Fin 128) (p : Pkt), s.rxHead r = some p → s.borderBlocks r = false → s.regionDown r = false →
      s.resyncing (512 + r.val) = false → s.npClocked r = true →
      let k := at' s.noc.rxFlit r 0 + 1
      exec (.nocPortRxFlit r true) s = .next (if k < pktFlits p then s.modNoc fun n => { n with rxFlit := putD n.rxFlit r 0 k }
        else (popRx r s).modNoc fun n => { n with rxFlit := putD n.rxFlit r 0 0 })) ∧
    (∀ (e : Fin 1024) (p : Pkt) (l : List Pkt), s.up = true → at' s.noc.door e [] = p :: l →
      let u := s.modNoc fun n => { n with door := listAt n.door e l }
      (s.asleep e = false → exec (.doorPacketArrival e p) s = .next (deliverAt e p u)) ∧
      (s.asleep e = true → let v := (u.set (R.NI_STAT.HELD e) 1).modNoc fun n => { n with heldHdr := pushAt n.heldHdr e p }
        exec (.doorPacketArrival e p) s = .next (if e.val < 0x100 then { v with aon := { v.aon with waking := true } }
          else forEach (v.bundleLanes (e - 0x100)) exitDoze v))) ∧
    (∀ n : Fin 160, s.rtrState n = 1 → s.clocked 4 = true → exec (.routerDrainEnd n) s = .next (finishDrain n false s) ∧
      exec (.routerDrainTimeout n true) s = .next (finishDrain n true s) ∧
      exec (.routerDrainTimeout n false) s = .next (finishCmd (at' s.noc.drain n 0) stTimeout [] false
        (((s.set (R.RTR_CFG.APPLY n) 0).set (R.RTR_STAT.DRAIN_TO n) 1).modNoc fun m => { m with drain := del m.drain n }))) ∧
    (∀ q : Fin 5, at' s.noc.rst q 0 = 2 → exec (.meshResetDrainEnd q) s = .next (cutMesh q s)) ∧
    (s.up = true → exec .rtAccGo s = .next (rtAccess s)) ∧
    (∀ n : Fin 160, s.up = true → s.rtrState n = 0 → exec (.rtrCfgApply n) s = .next (startDrain n 0 s))

/-- No packet is ever discarded without a response or a log entry: where an element cannot perform a packet, its
requester on this device gets an error response with the status and `REQ_SEQ`, on the virtual channel of R411, one on
another device gets it over the bridge toward it, or the error log gains an entry (after R411, R420, R421). Choices of
the model in it: assumption 126. -/
def Obligations.RefusedPacketIsAnsweredOrLogged : Prop :=
  ∀ (p : Pkt) (status info : Nat) (s : State),
    (pktReq p = true → p.srcDev = s.devId → ∃ r, at' (refusePkt p status info s).noc.resp p.srcEp [] =
        at' s.noc.resp p.srcEp [] ++ [r] ∧ r.status = status ∧ r.reqSeq = p.seq ∧ r.cls = p.cls ∧ r.len = 0 ∧
        r.vc = (if p.vc = 3 then 3 else 1)) ∧
    (∀ k, pktReq p = true → p.srcDev ≠ s.devId → s.exitBundle p.srcDev = some k → ∃ r,
        at' (refusePkt p status info s).noc.rx (0x100 + k) [] = at' s.noc.rx (0x100 + k) [] ++ [r] ∧ r.status = status ∧
        r.reqSeq = p.seq ∧ r.dev = p.srcDev ∧ r.ep = p.srcEp) ∧
    (pktReq p = true → p.srcDev ≠ s.devId → s.exitBundle p.srcDev = none → ∃ l e,
        (refusePkt p status info s).noc.log = l ++ [e] ∧ e.status = 0x0A ∧ e.dev = p.srcDev ∧ e.ep = p.srcEp) ∧
    (pktReq p = false → ∃ l e, (refusePkt p status info s).noc.log = l ++ [e] ∧ e.status = status ∧ e.tick = s.clk.tick ∧
        e.srcEp = p.srcEp ∧ e.ep = p.ep ∧ e.off = p.off ∧ e.seq = p.seq ∧
        (s.noc.log.length < 64 → l = s.noc.log ∧ (refusePkt p status info s).noc.ovf = s.noc.ovf) ∧
        (64 ≤ s.noc.log.length → l = s.noc.log.drop 1 ∧ (refusePkt p status info s).noc.ovf = s.noc.ovf + 1))

/-- The source interface writes its own fields over those supplied: every request that enters the network or waits bears
the next `SEQ`, the tick, the interface as its source, `DHOPS`, and a class of at most `MAXCLASS`; and no interface ever
awaits more than 64 responses. A packet that Limit slows waits at its interface until P sixteenths of the flit slots
make up its flits (after R410, R418, R419). Choices of the model in it: assumptions 128, 226. -/
def Obligations.InterfaceStampsItsRequests : Prop :=
  ∀ (s : State) (e : Nat) (p : Pkt),
    (pktReq p = true → s.shedNi e p = false → at' s.noc.shed e [] = [] ∨ p.vc ≠ 0 → ∃ q : Pkt,
      q.seq = (at' s.noc.seq e 0 + 1) % 65536 ∧ q.tick = s.clk.tick ∧ q.hold = s.hold ∧ q.srcEp = e ∧ q.srcDev = s.devId ∧
      q.dhops = s.get (R.NI_CFG.DHOPS e) ∧ q.cls = min p.cls (s.get (R.NI_CFG.MAXCLASS e)) ∧ q.dev = p.dev ∧ q.ep = p.ep ∧
      q.off = p.off ∧ q.typ = p.typ ∧ q.len = p.len ∧ q.vc = p.vc ∧ q.data = p.data ∧
      ((at' s.noc.out e []).length < 64 → at' (niInject e p s).noc.out e [] = at' s.noc.out e [] ++ [q]) ∧
      (64 ≤ (at' s.noc.out e []).length → at' (niInject e p s).noc.out e [] = at' s.noc.out e [] ∧
        at' (niInject e p s).noc.wait e [] = at' s.noc.wait e [] ++ [q]) ∧
      at' (niInject e p s).noc.seq e 0 = q.seq) ∧
    (s.shedNi e p = true → at' (niInject e p s).noc.shed e [] = at' s.noc.shed e [] ++ [p] ∧
      (niInject e p s).noc.worms = s.noc.worms ∧ (niInject e p s).noc.out = s.noc.out) ∧
    (∀ rest, at' s.noc.shed e [] = p :: rest → s.shedNi e p = true → s.get R.THERM_STAT.P ≤ 16 →
      let v := at' s.noc.saved e 0 + s.get R.THERM_STAT.P
      (v < 16 * pktFlits p → at' (shedSlot e s).noc.saved e 0 = v ∧ (shedSlot e s).noc.worms = s.noc.worms) ∧
      (16 * pktFlits p ≤ v → shedSlot e s =
        niSend e p (s.modNoc fun n => { n with shed := listAt n.shed e rest, saved := putD n.saved e 0 0 })))

/-- The NoC commands of Table 13-16 complete, or begin to run where they wait for a drain (after R414, R415, R421, R426,
R429). Choices of the model in it: assumptions 10, 11, 14, 131, 196, 204. -/
def Obligations.NocCommandsComplete : Prop :=
  ∀ (mb : Fin 16) (s : State), let free := fun k => s.underTest (meshFunc (meshOf k)) = false
    (∀ e i h v, s.serves mb 0x0B00 [(2, e), (2, i), (11, h), (1, v)] → endpointExists e = true → i < 1024 → v < 2 →
      (hopsOk (decide (128 ≤ endpointElem e)) h = true → free (endpointElem e) →
        Completes (.nocRtSet mb e i h v) mb s stOk [] (setRoute e i h v (s.begun mb))) ∧
      (hopsOk (decide (128 ≤ endpointElem e)) h = false →
        Completes (.nocRtSet mb e i h v) mb s stBadArg [] (s.begun mb))) ∧
    (∀ e i n, s.serves mb 0x0B01 [(2, e), (2, i), (1, n)] → endpointExists e = true → i + n ≤ 1024 → 1 ≤ n → n ≤ 16 →
      free (endpointElem e) → Completes (.nocRtGet mb e i n) mb s stOk (pack ((List.range n).flatMap fun k =>
        [(11, at' s.noc.rt (e * 1024 + i + k) 0 % 2 ^ 84), (1, at' s.noc.rt (e * 1024 + i + k) 0 / 2 ^ 84)])) (s.begun mb)) ∧
    (∀ n pen vc2, s.serves mb 0x0B02 [(1, n), (1, pen), (1, vc2)] → n < 160 → pen < 64 → vc2 < 64 → free n →
      (s.rtrState n ≠ 1 → exec (.nocRtrSet mb n pen vc2) s = .next (startDrain n (s.serial mb)
        (((s.begun mb).set (R.RTR_CFG.PEN n) (Nat.land pen (portMask n))).set (R.RTR_CFG.VC2 n) (Nat.land vc2 (portMask n))))) ∧
      (s.rtrState n = 1 → Completes (.nocRtrSet mb n pen vc2) mb s stBusy [] (s.begun mb))) ∧
    (∀ e tmo c d sh, s.serves mb 0x0B03 [(2, e), (2, tmo), (1, c), (1, d), (1, sh)] → endpointExists e = true →
      c < 8 → d < 32 → sh < 2 → free (endpointElem e) →
      let u := (((s.begun mb).set (R.NI_CFG.TXN_TO e) tmo).set (R.NI_CFG.DHOPS e) d).set (R.NI_CFG.SHED e) sh
      Completes (.nocNiSet mb e tmo c d sh) mb s stOk [] (if e = 0xA0 then u else u.set (R.NI_CFG.MAXCLASS e) c)) ∧
    (∀ n, s.serves mb 0x0B04 [(1, 0), (2, n)] → n < 160 → free n → Completes (.nocStatus mb 0 n) mb s stOk (pack
      [(4, Nat.land (s.get (R.RTR_CFG.PEN n)) (portMask n) + 2 ^ 6 * s.get (R.RTR_CFG.VC2 n) + 2 ^ 12 * s.get (R.RTR_CFG.APPLY n)),
       (4, s.penAct n + 2 ^ 6 * s.vc2Act n + 2 ^ 12 * s.rtrState n + 2 ^ 14 * s.get (R.RTR_STAT.DRAIN_TO n)
          + 2 ^ 16 * s.get (R.RTR_STAT.BROKEN_CNT n))]) (s.begun mb)) ∧
    (∀ e, s.serves mb 0x0B04 [(1, 1), (2, e)] → endpointExists e = true → free (endpointElem e) →
      Completes (.nocStatus mb 1 e) mb s stOk (pack
        [(4, s.get (R.NI_CFG.TXN_TO e) + 2 ^ 16 * s.get (R.NI_CFG.MAXCLASS e) + 2 ^ 19 * s.get (R.NI_CFG.DHOPS e)
          + 2 ^ 24 * s.get (R.NI_CFG.SHED e) + 2 ^ 25 * (if s.niEn e then 1 else 0)),
         (4, s.get (R.NI_STAT.TIMEOUT e) + 2 * s.get (R.NI_STAT.LATE e) + 4 * s.get (R.NI_STAT.LATE_DROP e)
          + 8 * s.get (R.NI_STAT.CLAMP e) + 16 * s.get (R.NI_STAT.TX_ABORT e) + 32 * s.get (R.NI_STAT.RX_STALL e)
          + 64 * s.get (R.NI_STAT.HELD e) + 256 * s.get (R.NI_STAT.OUTSTANDING e)
          + 65536 * s.get (R.NI_STAT.TO_CNT e))]) (s.begun mb)) ∧
    (∀ first n clear, s.serves mb 0x0B05 [(1, first), (1, n), (1, clear)] → first < 64 → 1 ≤ n → n ≤ 16 → clear < 2 →
      Completes (.nocErrlog mb first n clear) mb s stOk (pack ((((s.noc.log.drop first).take n).flatMap fun e =>
          [(6, e.tick), (1, e.status), (3, e.srcDev), (2, e.srcEp), (8, e.off + 2 ^ 32 * e.ep + 2 ^ 44 * e.dev), (2, e.seq),
           (4, e.errinfo)]) ++ [(4, s.noc.ovf)]))
        (if clear = 1 then (s.begun mb).modNoc fun n => { n with log := [], ovf := 0 } else s.begun mb))

/-! ## Configuration loading and Blocking -/

/-- The stream of segments: what arrives is taken, forwarded, parsed, checked and committed when it is due (after R143,
R227, R255–R257, R432–R446, R455, R460–R463). Choices of the model in it: assumptions 10, 53, 126, 132, 133, 135, 137,
139, 146, 218. -/
def Obligations.LoadEventsComplete : Prop :=
  ∀ s : State, s.cfgRuns = true →
    (∀ w : BitVec 64, s.cfg.discard = false → s.cfg.skipLeft = 0 →
      (s.cfg.input.length < Config.cfgBuffer + 16 → exec (.cfgPortWord w) s =
        .next (s.modCfg fun c => { c with input := c.input ++ [w.toNat] })) ∧
      (Config.cfgBuffer + 16 ≤ s.cfg.input.length → exec (.cfgPortWord w) s = .next (s.set R.CFG_STAT.OVERRUN 1))) ∧
    (∀ w : BitVec 64, s.cfg.discard = false → 0 < s.cfg.skipLeft → exec (.cfgPortWord w) s =
      .next (s.modCfg fun c => { c with skipLeft := c.skipLeft - 1 })) ∧
    (∀ (p : Pkt) (l : Load), s.rxHead 0xA1 = some p → p.typ = 2 → s.cfg.load = some l → fromSource l p = true →
      (p.off = l.pos % 2 ^ 32 → p.data.length % 8 = 0 → exec (.cfgStreamPacket p) s = .next ((popRx 0xA1 s).modLoad fun l =>
        { l with pos := l.pos + p.data.length, buf := l.buf ++ bytesWords p.data })) ∧
      (p.off ≠ l.pos % 2 ^ 32 → exec (.cfgStreamPacket p) s = .next (logNoc p 2 0 (popRx 0xA1 s)))) ∧
    (∀ l : Load, s.cfg.load = some l → l.stage = 0 → (s.ready l 6).length = 6 →
      let h := s.ready l 6
      exec .segmentHeader s = .next (loadHeader l h s) ∧
      (magicOk (h.getD 0 0) = false → loadHeader l h s =
        failLoad stForeign (if l.source = 1 then discardPort (takeWords 6 s) else takeWords 6 s))) ∧
    ((s.cfg.load.filter fun l => l.stage == 0) = none → s.portFree = true →
      exec .segmentHeader s = .next (portHeader s)) ∧
    (∀ (h r : List Nat), s.cfg.load = none → s.cfg.fwdLeft = 0 → s.cfg.skipLeft = 0 → s.cfg.discard = false →
      s.cfg.input = h ++ r → h.length = 6 → magicOk (h.getD 0 0) = true → s.flag R.STRAP_LATCH.FIRST = true →
      h.getD 1 0 % 32 ≠ s.get R.CFG_STAT.POSITION → s.get R.CFG_STAT.POSITION ≠ 31 → ∃ t, exec .segmentHeader s = .next t ∧
        t.cfg.cfgo = s.cfg.cfgo ++ h.set 1 (h.getD 1 0 + 256) ∧ t.cfg.fwdLeft = restWords h ∧ t.cfg.input = r ∧
        t.flag R.CFG_STAT.FWD = true) ∧
    (∀ n : Nat, 0 < s.cfg.fwdLeft → let k := min n (min s.cfg.fwdLeft s.cfg.input.length)
      let u := (sendCfgo (s.cfg.input.take k) s).modCfg fun c => { c with input := c.input.drop k, fwdLeft := c.fwdLeft - k }
      exec (.segmentForward n) s = .next (if s.cfg.fwdLeft = k then u.set R.CFG_STAT.FWD 0 else u)) ∧
    (∀ (l : Load) (n : Nat), s.cfg.load = some l → l.stage = 1 → l.stopped = false → s.plainWord l l.parsed % 256 ≠ 255 →
      s.bodyWords l (s.plainWord l l.parsed) = some n → l.parsed + 1 + n ≤ l.length → l.body.length = l.parsed + 1 + n →
      let x := (List.range (1 + n)).map fun i => s.plainWord l (l.parsed + i)
      let u := takePlanes (recordPlanes x) s
      (l.kind = 2 → ∀ k ∈ recordPlanes x, (s.ctxR (k / 4)).claimReq = none) → exec .segmentRecord s =
        .next (if u.cfg.load.isSome = true ∧ u.hasPlanes (recordPlanes x) = true then holdRecord x u else u)) ∧
    (∀ l : Load, s.cfg.load = some l → l.stage = 1 → l.stopped = false → l.body.length = l.parsed + 1 →
      s.plainWord l l.parsed % 256 ≠ 255 → s.bodyWords l (s.plainWord l l.parsed) = none →
      exec .segmentRecord s = .next (s.modLoad fun l => { l with stopped := true })) ∧
    (∀ l : Load, s.cfg.load = some l → l.stage = 1 → l.stopped = false → l.kind = 0 → l.isPartial = false →
      l.body.length = l.parsed + 1 → l.parsed + 1 ≤ l.length → s.plainWord l l.parsed % 256 = 9 →
      l.landUsed + 8 ≤ l.banks.length * 2 ^ 21 → ∃ t m, exec .segmentRecord s = .next t ∧ t.cfg.load = some m ∧
        m.parked = l.parked ++ [[s.plainWord l l.parsed]] ∧ m.parsed = l.parsed + 1 ∧ t.regs = s.regs ∧ t.clk = s.clk) ∧
    (∀ l : Load, s.cfg.load = some l → l.stage = 1 → l.stopped = false → l.body.length = l.parsed + 1 →
      s.plainWord l l.parsed % 256 = 255 →
      (l.length = l.parsed + 1 → ∃ t m, exec .segmentEnd s = .next t ∧ t.cfg.load = some m ∧ m.stage = 2 ∧ m.ended = true ∧
        m.incomplete = (l.incomplete || !s.complete l)) ∧
      (l.parsed + 1 < l.length → exec .segmentEnd s = .next (failLoad stShort s))) ∧
    (∀ l : Load, s.cfg.load = some l → l.stage = 2 → l.body.length = l.length → (s.ready l 2).length = 2 →
      let t := setCfgState 3 (takeWords 2 s)
      let tag := (s.ready l 2).flatMap (leBytes 8)
      let left := if l.signed = true then 12 else 0
      let good := gcmTag (s.segKey l) l.iv l.aad (l.body.flatMap (leBytes 8)) = tag
      let u := t.modLoad fun l => { l with tag := ofLeBytes tag, stage := 3 }
      (¬ good → exec .segmentTagCheck s = .next (refuseTrailer l left (authFail 8) t) ∧
        (2 ≤ l.kind → (refuseTrailer l left (authFail 8) t).cfg.load = none ∧
          (refuseTrailer l left (authFail 8) t).get R.CFG_STAT.LAST_STATUS = stAuthFail)) ∧
      (good → l.stopped = true ∨ l.incomplete = true →
        exec .segmentTagCheck s = .next (refuseTrailer l left (failLoad stDenied) t)) ∧
      (good → l.stopped = false → l.incomplete = false →
        exec .segmentTagCheck s = .next (if l.signed = true then u else authenticated u))) ∧
    (∀ (l : Load) (w : List Nat), s.cfg.load = some l → l.stage = 3 → s.ready l 12 = w → w.length = 12 →
      exec .signatureVerify s = .next (if ecdsaOk (at' s.sec.pubKeys (bitsOf l.keysel 2 1) 0 % 2 ^ 384)
          (at' s.sec.pubKeys (bitsOf l.keysel 2 1) 0 / 2 ^ 384) (numAt (w.flatMap (leBytes 8)) 0 48)
          (numAt (w.flatMap (leBytes 8)) 48 48) (sha384 (l.aad ++ l.body.flatMap (leBytes 8) ++ leBytes 16 l.tag))
        then authenticated (takeWords 12 s) else authFail 9 (takeWords 12 s))) ∧
    (∀ l : Load, s.cfg.load = some l → l.stage = 4 → l.kind < 2 → ∃ t, exec .loadCommit s = .next t ∧ t.cfg.load = none ∧
      t.mode = mBlocking ∧ t.get R.CFG_ID.IMAGE_ID = l.imageId ∧ t.cfg.blk.active = true ∧ t.cfg.blk.step = 0) ∧
    (∀ l : Load, s.cfg.load = some l → l.source ≠ 0 →
      exec (.loadTimeout true) s = .next (s.modLoad fun l => { l with late := true }) ∧
      let u := (s.modCfg fun c => { c with discard := false, fwdLeft := 0, skipLeft := 0 }).set R.CFG_STAT.FWD 0
      (u.waitsFirst l = false → l.stage ≠ 4 → exec (.loadTimeout false) s = .next (failLoad stShort
        (if l.source = 1 then u.modCfg fun c => { c with input := [] } else u)))) ∧
    (∀ (r : Fin 128) (p : Fin 4) (w : Bool), s.clocked 9 = true → (s.ctxR r).edge = true → (s.ctxR r).claimReq = some p.val →
      exec (.hoodClaimGrant r p w) s = .next (decideClaim r p (if w then some stDenied else s.claimRefused r p) s)) ∧
    (∀ (r : Fin 128) (l : Load), s.owLoad r = some l → (s.ctxR r).edge = true → (s.ctxR r).ow = 2 ∨ (s.ctxR r).ow = 4 →
      exec (.owReloadCommit r) s = .next (if has l.staged (4 * r + s.activePlane r) = true then owCommit r s
        else owLeave r (refreshReblock (s.modCtx r fun c => { c with ow := 0 })))) ∧
    (∀ (r : Fin 128) (l : Load), s.owLoad r = some l → (s.ctxR r).ow = 3 →
      (∃ t, exec (.owCopyDone r false) s = .next t ∧ (t.ctxR r).ow = 5 ∧
        (t.plane r (s.ctxR r).owPlane).frames = (at' l.staged (4 * r.val + (s.ctxR r).owPlane) Plane.empty).frames) ∧
      exec (.owCopyDone r true) s = .next (owLeave r (raise 0x0211 [(1, r)]
        (((s.set (R.CTX_STAT.OW_FAIL r) 1).modCtx r fun c => { c with ow := 4 }).modLoad fun l => { l with incomplete := true })))) ∧
    (∀ (r : Fin 128) (l : Load), s.owLoad r = some l → (s.ctxR r).ow = 5 → s.ctxNet r ∉ s.fab.lost → ∃ t,
      exec (.owRegionRelease r) s = .next (owLeave r t) ∧ (t.ctxR r).ow = 0)

/-- Nothing of an overwrite-active reload reaches the running device before its segment is authenticated: while records
arrive, and at `END`, no plane, no block memory and no flip-flop changes (after R435, Table 14-4). -/
def Obligations.RecordsWaitForTheTag : Prop :=
  ∀ (s t : State) (l : Load), s.cfg.load = some l → l.kind = 3 → l.planes = [] →
    (exec .segmentRecord s = .next t ∨ exec .segmentEnd s = .next t) →
    t.ctx.planes = s.ctx.planes ∧ t.bm = s.bm ∧ t.fab = s.fab ∧ t.io = s.io ∧ t.noc.rt = s.noc.rt

/-- Blocking runs its steps, felting fill included, and the image store is refreshed and filled (after R73, R440,
R451–R453, R455). Choices of the model in it: assumptions 142, 201, 202. -/
def Obligations.BlockingEventsComplete : Prop :=
  ∀ s : State,
    (s.cfg.blk.active = true → s.cfg.blk.step = 0 → s.cfg.blk.delay = false → s.flag R.BLK_STAT.FILLING = false →
      s.allLocked = true → exec .blockingLockDone s = .next (retrainBootLanes (((s.setBit R.BLK_STAT.DONE 0 true).modFab fun f =>
        { f with clocksOn := true }).modCfg fun c => { c with blk := { c.blk with delay := true } }))) ∧
    (s.cfg.blk.active = true → s.cfg.blk.step = 0 → s.bit R.BLK_STAT.DONE 0 = false →
      exec .lockTimeout s = .next (enterSafe 6 (s.set R.BLK_STAT.FAIL 1))) ∧
    (s.cfg.blk.active = true → s.cfg.blk.delay = true → s.cfg.blk.step = 0 → s.cfg.blk.fill = true → ∃ t,
      exec .blockingDelayEnd s = .next t ∧ t.flag R.BLK_STAT.FILLING = true ∧ t.cfg.blk.delay = false ∧
        t.cfg.blk.fill = false) ∧
    (∀ c, s.cfg.blk.active = true → s.cfg.blk.delay = true → s.cfg.blk.fill = false → s.cfg.blk.step < 3 →
      s.blkCode (s.cfg.blk.step + 1) = c → (c = 1 → s.cfg.blk.resume = false) → ∃ t, exec .blockingDelayEnd s = .next t ∧
        t.get R.BLK_STAT.CUR = c ∧ t.bit R.BLK_STAT.DONE c = true ∧ t.cfg.blk.step = s.cfg.blk.step + 1 ∧
        (c = 1 → t.flag R.FAB_CTL.GSR_HELD = false) ∧ (c = 2 → t.fab.writes = true) ∧ (c = 3 → t.io.released = true)) ∧
    (s.cfg.blk.active = true → s.cfg.blk.delay = true → s.cfg.blk.step = 3 → exec .blockingDelayEnd s = .next (endBlocking s)) ∧
    (s.cfg.blk.active = true → s.flag R.BLK_STAT.FILLING = true → (∀ b, b < 256 → s.cands b = ([], [])) → ∃ t, exec .feltingFillEnd s = .next (nextStep t) ∧
      t.flag R.BLK_STAT.FILLING = false ∧ (∀ k, has s.bm.rows k = true → lookup t.bm.rows k = lookup s.bm.rows k)) ∧
    (∀ k : Fin 5, s.up = true → s.mgt.running = true → s.clocked 12 = true →
      (s.cfg.refresh = none → (s.slot k).valid = true → 8760 ≤ (s.slot k).ageH →
        exec (.imageRefreshStart k) s = .next (s.modCfg fun c => { c with refresh := some (k.val, 0) })) ∧
      (∀ u, s.cfg.refresh = some (k.val, u) → s.cfg.load = none → let n := 2 * (((s.slot k).length + 262143) / 262144)
        (n ≤ u → exec (.imageRefreshStart k) s = .next ((s.setSlot k { s.slot k with ageH := 0, writes := (s.slot k).writes + 1 }).modCfg
          fun c => { c with refresh := none })) ∧
        (u < n → let j := if u % 2 = 0 then s.cfg.journal ++ [(k.val, u / 2)]
            else s.cfg.journal.filter fun e => e != (k.val, u / 2)
          exec (.imageRefreshStart k) s = .next (s.modCfg fun c => { c with refresh := some (k.val, u + 1), journal := j })))) ∧
    (∀ (p : Pkt) (k : Nat), s.up = true → s.rxHead 0xA2 = some p → p.typ = 2 → k < 5 → (∀ j, j < k → (s.slot j).writing = false) →
      (s.slot k).writing = true → s.slotBarred k = false → p.off = (s.slot k).bytes.length →
      p.off + p.data.length ≤ (s.slot k).declared → exec (.imgDataPacket p) s =
        .next ((popRx 0xA2 s).setSlot k { s.slot k with bytes := (s.slot k).bytes ++ p.data }))

/-- The configuration commands of Table 14-14 complete, or begin the load that they name (after R439, R440, R448, R449,
R455, R467). Choices of the model in it: assumptions 10, 11, 139, 142, 143, 196. -/
def Obligations.ConfigCommandsComplete : Prop :=
  ∀ (mb : Fin 16) (s : State),
    (∀ kind source num off ep ms,
      s.serves mb 0x0200 ([(1, kind), (1, source)] ++ sourceArgs source num off ep ++ [(2, ms)]) → kind < 4 →
      badSource source num ep = false → ms ≤ 10000 → s.cfg.load = none → (source = 2 → s.laneTested num = false) →
      (source = 0 → (s.slot num).valid = true → off % 8 = 0 ∧ off < (s.slot num).length) →
      (s.kindAllowed kind = false → Completes (.cfgLoad mb kind source num off ep ms) mb s stDenied [] (s.begun mb)) ∧
      (s.kindAllowed kind = true → (source = 2 → kind = 0 → s.sideReserved num = false) →
        (source = 0 → (s.slot num).valid = true) →
        let u := yieldRepair (s.begun mb)
        let v := if kind = 1 then enterReload (if source = 2 then some num else none) u else u
        let w := if source = 2 then laneForLoad (kind == 0) num v else v
        exec (.cfgLoad mb kind source num off ep ms) s = .next (startLoad (newLoad kind source num ep (if source = 0 then off else 0)
          (if ms = 0 then 100 else ms) (s.serial mb)) w)) ∧
      (s.kindAllowed kind = true → source = 0 → (s.slot num).valid = false → kind ≠ 0 →
        let u := setLast stShort (yieldRepair (s.begun mb))
        let l := newLoad kind 0 num ep off (if ms = 0 then 100 else ms) (s.serial mb)
        Completes (.cfgLoad mb kind source num off ep ms) mb s stShort (loadResult l stShort false) u)) ∧
    (s.serves mb 0x0201 [] → Completes (.cfgStatus mb) mb s stOk (pack [(4, s.cardWord 0xC00000), (4, s.get R.CFG_ID.IMAGE_ID),
      (4, s.cardWord 0xC0001C), (4, s.cfg.received)]) (s.begun mb)) ∧
    (s.serves mb 0x0202 [] →
      (s.cfg.load = none → Completes (.cfgAbort mb) mb s stDenied [] (s.begun mb)) ∧
      (s.cfg.load ≠ none → s.loadCommitted = false →
        Completes (.cfgAbort mb) mb s stOk [] (endLoadWith stShort true true (s.begun mb)))) ∧
    (∀ k, s.serves mb 0x0203 [(1, k), (1, 0)] → k < 5 → s.slotTested k = false → Completes (.imgInfo mb k 0) mb s stOk
      (pack [(1, if (s.slot k).valid then 1 else 0), (4, (s.slot k).length), (4, (s.slot k).imageId), (4, (s.slot k).crc),
        (4, (s.slot k).writes), (4, (s.slot k).ageH)]) (s.begun mb)) ∧
    (∀ k, s.serves mb 0x0203 [(1, k), (1, 1)] → k < 5 → s.slotTested k = false → s.slotInUse k = false →
      (s.slot k).writing = false → s.refreshing k = false →
      let c := crc32 ((s.slot k).bytes.take (s.slot k).length)
      Completes (.imgInfo mb k 1) mb s stOk (pack (slotEntry (s.slot k) ++ [(4, c), (1, if c = (s.slot k).crc then 1 else 0)]))
        (s.begun mb)) ∧
    (∀ k n, s.serves mb 0x0204 [(1, k), (4, n)] → k < 5 → n ≤ 201326592 → s.slotTested k = false → s.slotInUse k = false → s.refreshing k = false →
      (s.slotBarred k = false → Completes (.imgWrite mb k n) mb s stOk [] ((s.begun mb).setSlot k { ImgSlot.init with
        declared := n, writes := (s.slot k).writes + 1, writing := true })) ∧
      (s.slotBarred k = true → Completes (.imgWrite mb k n) mb s stDenied [] (s.begun mb))) ∧
    (∀ k off bytes, s.servesBytes mb 0x0205 [(1, k), (4, off)] bytes → k < 5 → s.slotBarred k = false →
      (s.slot k).writing = true →
      (off = (s.slot k).bytes.length → off + bytes.length ≤ (s.slot k).declared → Completes (.imgData mb k off bytes) mb s stOk []
        ((s.begun mb).setSlot k { s.slot k with bytes := (s.slot k).bytes ++ bytes })) ∧
      (off ≠ (s.slot k).bytes.length → Completes (.imgData mb k off bytes) mb s stBadArg [] (s.begun mb))) ∧
    (∀ k, s.serves mb 0x0206 [(1, k)] → k < 5 → (s.slot k).writing = true → (s.slot k).declared ≤ (s.slot k).bytes.length →
      magicOk (slotWord (s.slot k) 0) = true → ∃ t, Completes (.imgCommit mb k) mb s stOk (leBytes 4 (crc32 (s.slot k).bytes)) t ∧
        (t.slot k).valid = true ∧ (t.slot k).bytes = (s.slot k).bytes ∧ (t.slot k).length = (s.slot k).bytes.length ∧
        (t.slot k).crc = crc32 (s.slot k).bytes) ∧
    (∀ k, s.serves mb 0x0207 [(1, k)] → 1 ≤ k → k ≤ 4 → s.slotTested k = false →
      ((s.slot k).valid = true → Completes (.imgBoot mb k) mb s stOk [] ((s.begun mb).modCfg fun c => { c with bootSlot := k })) ∧
      ((s.slot k).valid = false → Completes (.imgBoot mb k) mb s stDenied [] (s.begun mb))) ∧
    (∀ k, s.serves mb 0x0208 [(1, k)] → k < 5 → s.slotTested k = false → s.slotBarred k = false → s.cfg.refresh = none → (s.slot k).writing = false →
      Completes (.imgRefresh mb k) mb s stOk [] ((s.begun mb).modCfg fun c => { c with refresh := some (k, 0) })) ∧
    (∀ r p, s.serves mb 0x0209 [(1, r), (1, p)] → r < 128 → p < 4 → s.test.busy.contains (1024 + 4 * r + p) = false →
      Completes (.cfgSource mb r p) mb s stOk (pack (match (s.plane r p).source with
        | some (k, o) => [(1, k), (4, o)]
        | none => [(1, 255), (4, 0)])) (s.begun mb))

/-! ## Security -/

/-- Tamper, the supply of the key memory and the security commands of Table 15-8 act (after R458, R459, R466 and
R469–R473). Choices of the model in it: assumptions 10, 11, 21, 141, 147. -/
def Obligations.SecurityCommandsComplete : Prop :=
  (∀ s : State,
    (∃ t, exec (.tamperAssert false) s = .next t ∧ t.sec.bbk = none ∧ t.flag R.SEC_STAT.TAMPERED = true ∧
      t.flag R.SEC_STAT.TAMPER_NOW = true ∧ t.flag R.SEC_STAT.BBK_VALID = false ∧ t.mode = s.mode) ∧
    exec (.tamperAssert true) s = .next (let u := s.set R.SEC_STAT.TAMPER_NOW 1
      if s.freeBit = true then (raise 0x0902 [] ((zeroise u).set R.SEC_STAT.TAMPERED 1)).useFree else u.useFree) ∧
    exec .tamperNHigh s = .next (s.set R.SEC_STAT.TAMPER_NOW 0) ∧
    (∃ t, exec (.vbatLow false) s = .next t ∧ t.sec.bbk = s.sec.bbk ∧ t.flag R.SEC_STAT.VBAT_LOW = false ∧
      t.sec.vbatGood = true) ∧
    (s.mode = mOff → ∃ t, exec (.vbatLow true) s = .next t ∧ t.sec.bbk = none ∧ t.flag R.SEC_STAT.VBAT_LOW = true) ∧
    (s.mode ≠ mOff → ∃ t, exec (.vbatLow true) s = .next t ∧ t.sec.bbk = s.sec.bbk ∧ t.flag R.SEC_STAT.VBAT_LOW = true)) ∧
  ∀ (mb : Fin 16) (s : State),
    (s.serves mb 0x0900 [] → Completes (.secStatus mb) mb s stOk (pack [(4, s.cardWord 0x60), (4, s.cardWord 0x64)])
      (s.begun mb)) ∧
    (∀ key check r, s.serves mb 0x0901 [(32, key), (2, check), (1, r)] → r < 2 → s.aon.keyB = true →
      s.flag R.SEC_PROT.BBK_OK = true → s.flag R.SEC_STAT.TAMPER_NOW = false → s.bbkLoad = false →
      (r = 1 ∨ s.flag R.SEC_STAT.BBK_VALID = false) →
      (keyCheck key = check → Completes (.secBbkSet mb key check r) mb s stOk []
        (refreshBbk ((s.begun mb).modSec fun x => { x with bbk := some key }))) ∧
      (keyCheck key ≠ check → Completes (.secBbkSet mb key check r) mb s stBadArg [] (s.begun mb))) ∧
    (∀ key check r, s.serves mb 0x0901 [(32, key), (2, check), (1, r)] → r < 2 →
      (s.aon.keyB = false → Completes (.secBbkSet mb key check r) mb s stNoResource [] (s.begun mb)) ∧
      (s.aon.keyB = true → s.flag R.SEC_STAT.TAMPER_NOW = true →
        Completes (.secBbkSet mb key check r) mb s stDenied [] (s.begun mb))) ∧
    (s.serves mb 0x0902 [] → Completes (.secZeroise mb) mb s stOk [] (zeroise (s.begun mb))) ∧
    (∀ a n d vfuse failed, s.serves mb 0x0903 [(2, a), (2, n), ((n + 7) / 8, d)] → 1 ≤ n → n ≤ 1024 → a + n ≤ 0x44B →
      let want := (List.range n).filter fun i => d.testBit i
      let left := want.length - (want.filter fun i => !failed.contains (a + i)).length
      (s.flag R.SEC_PROT.SECFUSE_WR = true → ∃ t, Completes (.secFuseProg mb a n d vfuse failed) mb s
          (if vfuse = true then stOk else stNoResource) (pack [(2, left)]) t ∧
        (∀ i, i < n → d.testBit i = true → failed.contains (a + i) = false → at' t.sec.fuses (a + i) 0 = 1) ∧
        (∀ k, (∀ i, i < n → d.testBit i = true → failed.contains (a + i) = false → k ≠ a + i) →
          at' t.sec.fuses k 0 = at' s.sec.fuses k 0) ∧ t.regs = s.regs) ∧
      (s.flag R.SEC_PROT.SECFUSE_WR = false →
        Completes (.secFuseProg mb a n d vfuse failed) mb s stDenied [] (s.begun mb))) ∧
    (∀ a n, s.serves mb 0x0904 [(2, a), (2, n)] → 1 ≤ n → n ≤ 1024 → a + n ≤ 0x4000 →
      Completes (.secFuseRead mb a n) mb s stOk
        (pack [((n + 7) / 8, (List.range n).foldl (fun v i => v + s.fuseShown (a + i) * 2 ^ i) 0)]) (s.begun mb)) ∧
    (∀ a, s.serves mb 0x0904 [(2, a), (2, 1)] → a < 0x100 →
      Completes (.secFuseRead mb a 1) mb s stOk (pack [(1, if s.fuseKeyGood then 1 else 0)]) (s.begun mb)) ∧
    (∀ k key, s.serves mb 0x0905 [(1, k), (96, key)] → k < 2 →
      (s.hashSet k = false ∨ pubHash key = s.fuseBits (hashFuse k) 384 → Completes (.secPubkeySet mb k key) mb s stOk []
        ((s.begun mb).modSec fun x => { x with pubKeys := put x.pubKeys k key })) ∧
      (s.hashSet k = true → pubHash key ≠ s.fuseBits (hashFuse k) 384 →
        Completes (.secPubkeySet mb k key) mb s stBadArg [] (s.begun mb))) ∧
    (∀ mask v, s.serves mb 0x0906 [(4, mask), (1, v)] → v ≤ 15 → mask < 2 ^ 18 → mask.testBit 0 = false →
      (s.get R.SEC_PROT.MIN_SVN ≤ v → ∃ r t, Completes (.secRestrict mb mask v) mb s stOk r t ∧ t.get R.SEC_PROT.MIN_SVN = v ∧
        (∀ f ∈ allowBits, t.flag f = (s.flag f && !mask.testBit f.lsb)) ∧
        t.flag R.SEC_PROT.SIG_REQ = (s.flag R.SEC_PROT.SIG_REQ || mask.testBit 1) ∧
        (∀ k, k < 2 → t.bit R.SEC_PROT.PK_OK k = (s.bit R.SEC_PROT.PK_OK k && !mask.testBit (16 + k)))) ∧
      (v < s.get R.SEC_PROT.MIN_SVN → Completes (.secRestrict mb mask v) mb s stBadArg [] (s.begun mb))) ∧
    (s.serves mb 0x0907 [] →
      (s.flag R.SEC_STAT.TAMPER_NOW = true → Completes (.secTamperClr mb) mb s stDenied [] (s.begun mb)) ∧
      (s.flag R.SEC_STAT.TAMPER_NOW = false → ∃ r, Completes (.secTamperClr mb) mb s stOk r
        ((s.begun mb).set R.SEC_STAT.TAMPERED 0)))

/-- `SEC_RESTRICT` only narrows: no permission of `SEC_PROT` comes back, `SIG_REQ` never clears, `MIN_SVN` never falls,
the lock stays, and a named permission is gone (after R466). Choices of the model in it: assumptions 10, 11. -/
def Obligations.RestrictOnlyNarrows : Prop :=
  ∀ (mb : Fin 16) (s t : State) (mask v : Nat), exec (.secRestrict mb mask v) s = .next t →
    (∀ f ∈ allowBits, t.flag f = true → s.flag f = true) ∧
    (∀ k, t.bit R.SEC_PROT.PK_OK k = true → s.bit R.SEC_PROT.PK_OK k = true) ∧
    (s.flag R.SEC_PROT.SIG_REQ = true → t.flag R.SEC_PROT.SIG_REQ = true) ∧
    s.get R.SEC_PROT.MIN_SVN ≤ t.get R.SEC_PROT.MIN_SVN ∧ t.get R.SEC_PROT.LOCK = s.get R.SEC_PROT.LOCK ∧
    (s.serves mb 0x0906 [(4, mask), (1, v)] → mask.testBit 0 = false → mask < 2 ^ 18 → v ≤ 15 → s.get R.SEC_PROT.MIN_SVN ≤ v →
      (∀ f ∈ allowBits, mask.testBit f.lsb = true → t.flag f = false) ∧ t.get R.SEC_PROT.MIN_SVN = v)

/-! ## Configuration integrity and observation -/

/-- Pounce, the repair loads, read-back and the plume registers act (after R475–R482, R484–R486 and R488): a plane that
pounce skips, one corrected essential bit, one correctable bit without effect, two errors in a word of a hood, a repair
asked for and ended, a read-back that has left, a selection. Choices of the model in it: assumptions 53, 149, 150, 151,
152, 153, 155, 156, 157, 175. -/
def Obligations.IntegrityEventsComplete : Prop :=
  ∀ s : State,
    (∀ (r : Fin 128) (ups : List Nat) (paths : List (VertGroup × Nat)), s.pounceRuns = true → s.clocked 9 = true →
      s.slotTaken r = false → let u := (limitSlot r s).2
      ((limitSlot r s).1 = false → exec (.pounceFrameSlot r ups paths) s = .next u) ∧
      ((limitSlot r s).1 = true → let n := at' u.integ.pos r 0
        let p := u.passPlane r (n / 1372)
        let v := (checkFrame r p (n % 1372) (upsetFrame r p (n % 1372) ups u)).2
        exec (.pounceFrameSlot r ups paths) s = .next (stepPounce r (if u.pounceSkips r p = true then u
          else if v.planeState r p = psActive then checkPaths r (n % 1372) paths v else v)))) ∧
    (∀ (r : Fin 128) (n p f : Nat), s.pounceRuns = true → s.clocked 9 = true → s.slotTaken r = false → s.mode ≠ mLimit →
      at' s.integ.pos r 0 = n → s.passPlane r (n / 1372) = p → n % 1372 = f →
      (s.pounceSkips r p = true → exec (.pounceFrameSlot r [] []) s = .next (stepPounce r s)) ∧
      (∀ i, i < 4096 → s.pounceSkips r p = false → at' (s.plane r p).bad f [] = [] → (s.plane r p).mapBad = [] →
        (at' (s.plane r p).essmap f 0).testBit (i / 64) = true →
        ∃ t, exec (.pounceFrameSlot r [i] []) s = .next t ∧ at' (t.plane r p).bad f [] = [] ∧
          at' t.integ.pos r 0 = (n + 1) % 5488 ∧ t.get (R.POUNCE_CNT.ESS_CNT r) = (s.inc (R.POUNCE_CNT.ESS_CNT r)).get
            (R.POUNCE_CNT.ESS_CNT r) ∧ t.get R.LOG_STAT.NEW = 1 ∧ t.integ.queue = s.integ.queue) ∧
      (∀ i, i < 4096 → s.pounceSkips r p = false → at' (s.plane r p).bad f [] = [] → (s.plane r p).mapBad = [] →
        (at' (s.plane r p).essmap f 0).testBit (i / 64) = false →
        ∃ t, exec (.pounceFrameSlot r [i] []) s = .next t ∧ at' (t.plane r p).bad f [] = [] ∧ t.integ.log = s.integ.log ∧
          t.get (R.POUNCE_CNT.BEN_CNT r) = (s.inc (R.POUNCE_CNT.BEN_CNT r)).get (R.POUNCE_CNT.BEN_CNT r) ∧
          t.mgt = s.mgt) ∧
      (s.pounceSkips r p = false → at' (s.plane r p).bad f [] = [] → (s.plane r p).mapBad = [] → s.repairKnown (4 * r + p) f = false →
        at' (s.plane r p).essmap f 0 = 0 →
        ∃ t, exec (.pounceFrameSlot r [0, 8] []) s = .next t ∧ (4 * r.val + p, f) ∈ t.integ.queue ∧ t.integ.log = s.integ.log ∧
          t.get (R.POUNCE_CNT.UNC_CNT r) = (s.inc (R.POUNCE_CNT.UNC_CNT r)).get (R.POUNCE_CNT.UNC_CNT r))) ∧
    (∀ (x : Repair) (u : State), s.cfgRuns = true → s.mgt.running = true → s.held 0xB5 = false → s.cfg.load = none →
      s.integ.repair = none → s.runClass = true ∨ s.mode = mSafe → nextRepair s = some (x, u) →
      let v := u.modInteg fun i => { i with repair := some x }
      let r := x.key / 4
      let p := x.key % 4
      exec .repairLoadStart s = .next (if (v.sourceHeader (v.plane r p)).isNone = true then dropRepair x stDenied psHood v
        else if v.planeState r p = psActive then v else askClaim r p v)) ∧
    (∀ (k : Nat) (fs : List Nat), s.integ.asks = [] → s.integ.queue = fs.map (fun f => (k, f)) → fs ≠ [] → fs.length ≤ 64 →
      nextRepair s = some (⟨k, fs, 0, 0, false⟩, s.modInteg fun i => { i with queue := [] })) ∧
    (∀ (x : Repair) (k off : Nat) (h : List Nat), s.integ.repair = some x → s.cfgRuns = true → s.held 0xB5 = false →
      (s.ctxR (x.key / 4)).claimReq ≠ some (x.key % 4) → s.sourceHeader (s.plane (x.key / 4) (x.key % 4)) = some (k, off, h) →
      (∀ l, s.repairSegment k off h = .ok l → exec .repairLoadEnd s = .next
        (if x.frames.all (fun f => has (at' l.staged x.key Plane.empty).frames f) = true then
          endRepair x (writeRepair x (at' l.staged x.key Plane.empty) s) else dropRepair x stDenied psEmpty s)) ∧
      (∀ c st, s.repairSegment k off h = .error (c, st) → exec .repairLoadEnd s = .next (dropRepair x st psEmpty
        (if st = stAuthFail then raise 0x0901 [(1, 0), (1, c)] (s.inc R.SEC_STAT.AUTH_CNT) else s)))) ∧
    (∀ x : Rdbk, s.integ.rdbk = some x → s.up = true → (x.path = 0 → s.cfg.fwdLeft = 0 ∧ s.flag R.CFG_STAT.FWD = false) →
      (x.kind = 0 → ∀ c, (s.ctxR x.region).cap = some c → c.prot = false ∨ s.flag R.SEC_PROT.DBG_READ = true →
        exec .rdbkEnd s = .next (endRdbk stOk (freeCapture x.region (sendRdbk x (captureStream x.region c) s)))) ∧
      (x.kind ≠ 0 → s.planeState x.region x.plane ≠ psEmpty → s.planeState x.region x.plane ≠ psLoading →
        let a := readFrames x.region x.plane x.first x.count s
        exec .rdbkEnd s = .next (endRdbk stOk (sendRdbk x (withCrc ([rdbkWord0 1 x.region x.plane false false, 0,
          x.first + x.count * 2 ^ 16, (a.2.plane x.region x.plane).imageId] ++ a.1)) a.2)))) ∧
    (∀ (k : Fin 16) (v : BitVec 32), s.fcbOn = true → ∃ t, exec (.plumeSelWrite k v) s = .next t ∧
      t.get (R.PLUME_SEL.REGION k) = v.toNat % 128 ∧ t.get (R.PLUME_SEL.PROBE k) = v.toNat / 128 % 256 ∧
      t.get (R.PLUME_SEL.EN k) = v.toNat / 2 ^ 15 % 2 ∧ t.get (R.PLUME_SEL.STATE k) =
        (if v.toNat / 2 ^ 15 % 2 = 1 ∧ s.plumeBarred (v.toNat % 128) = true then 2 else 0))

/-- The commands of Table 16-10 complete (after R481, R483, R484, R486, R488, R489). Choices of the model in it:
assumptions 10, 11, 14, 154, 155, 156, 157, 197. -/
def Obligations.ObservationCommandsComplete : Prop :=
  ∀ (mb : Fin 16) (s : State),
    (∀ en mode unc, s.serves mb 0x0A00 [(1, en), (1, mode), (1, unc)] → en < 2 → mode < 4 → unc < 4 →
      Completes (.pounceSet mb en mode unc) mb s stOk []
        ((((s.begun mb).set R.POUNCE_CTL.EN en).set R.POUNCE_CTL.MODE mode).set R.POUNCE_CTL.UNC_ACT unc)) ∧
    (∀ r clear, s.serves mb 0x0A01 [(1, r), (1, clear)] → r < 128 → clear < 2 → s.test.busy.contains r = false →
      Completes (.pounceGet mb r clear) mb s stOk (pack [(4, s.pounceStat), (4, s.cardWord (0xD00100 + 4 * r))])
        (if clear = 1 then (((s.begun mb).set (R.POUNCE_CNT.BEN_CNT r) 0).set (R.POUNCE_CNT.ESS_CNT r) 0).set
          (R.POUNCE_CNT.UNC_CNT r) 0 else s.begun mb)) ∧
    (∀ first count clear, s.serves mb 0x0A02 [(1, first), (1, count), (1, clear)] → first < 256 → 1 ≤ count → count ≤ 8 → clear < 2 →
      ∃ t, Completes (.essLog mb first count clear) mb s stOk
          (pack (((s.integ.log.drop first).take count).flatMap EssEnt.fields ++
            [(4, s.get R.ESS_TOTAL.TOTAL), (2, s.get R.LOG_STAT.OVF_CNT)])) t ∧
        (clear = 0 → t.integ.log = s.integ.log) ∧
        (clear = 1 → t.integ.log = s.integ.log.take first ++ s.integ.log.drop (first + count))) ∧
    (∀ r p frame, s.serves mb 0x0A03 [(1, r), (1, p), (2, frame)] → r < 128 → p < 4 → frame < 1372 ∨ frame = 0xFFFF →
      s.test.busy.contains r = false → s.test.busy.contains (1024 + 4 * r + p) = false → s.cfg.load = none →
      s.planeState r p ≠ psEmpty → s.planeState r p ≠ psLoading ∨ (s.ctxR r).claim = some p →
      let two := fun l : List Nat => (List.range 8).any fun w => decide (2 ≤ (l.filter fun i => i % 8 == w).length)
      let fs := if frame = 0xFFFF then ((s.plane r p).bad.filter fun e => two e.2).map fun e => e.1 else [frame]
      (fs = [] → Completes (.cfgRepair mb r p frame) mb s stOk (pack [(2, 0)]) (s.begun mb)) ∧
      (fs ≠ [] → ∃ t, exec (.cfgRepair mb r p frame) s = .next t ∧ t.ctx = s.ctx ∧
        t.integ.asks = s.integ.asks ++ [((s.begun mb).serial mb, 4 * r + p, 0, fs)])) ∧
    (∀ kind r p first count path addr, s.serves mb 0x0A04 ([(1, kind), (1, r), (1, p), (2, first), (2, count), (1, path)] ++
        if path = 1 then [(8, addr)] else []) → r < 128 → p < 4 → path < 2 → s.test.busy.contains r = false →
      s.integ.rdbk = none →
      (kind = 0 ∧ (∃ c, (s.ctxR r).cap = some c ∧ (c.prot = false ∨ s.flag R.SEC_PROT.DBG_READ = true)) ∨
        kind = 1 ∧ 1 ≤ count ∧ first + count ≤ 1372 ∧ s.test.busy.contains (1024 + 4 * r + p) = false ∧
          s.planeState r p ≠ psEmpty ∧ s.planeState r p ≠ psLoading ∧ s.capBarred r p = false) →
      Completes (.rdbkStart mb kind r p first count path addr) mb s stOk []
        ((s.begun mb).modInteg fun i => { i with rdbk := some ⟨kind, r, p, first, count, path, addr⟩ })) ∧
    (s.serves mb 0x0A05 [] →
      (s.integ.rdbk = none → Completes (.rdbkAbort mb) mb s stOk (pack [(4, 0)]) (s.begun mb)) ∧
      (s.integ.rdbk.isSome = true → ∃ n t, Completes (.rdbkAbort mb) mb s stOk (pack [(4, n)]) t ∧
        t.integ.rdbk = none ∧ t.ctx = s.ctx)) ∧
    (∀ pin r probe en, s.serves mb 0x0A06 [(1, pin), (1, r), (1, probe), (1, en)] → pin < 16 → r < 128 → en < 2 →
      s.test.busy.contains r = false →
      (s.plumeBarred r = false ∨ en = 0 →
        (s.plumeWritten pin = false → Completes (.plumeSet mb pin r probe en) mb s stOk [] (selectPlume pin r probe en (s.begun mb))) ∧
        (s.plumeWritten pin = true → Completes (.plumeSet mb pin r probe en) mb s stBusy [] (s.begun mb))) ∧
      (en = 1 → s.plumeBarred r = true → Completes (.plumeSet mb pin r probe en) mb s stDenied [] (s.begun mb))) ∧
    (s.serves mb 0x0A07 [] → Completes (.plumeGet mb) mb s stOk
      (pack ((List.range 16).map fun k => (4, s.plumeWord k))) (s.begun mb))

/-! ## Milliner, the mailboxes and the management bus -/

/-- A frame is posted, taken, answered, timed out, aborted and refused on the four paths (after R395 and R501–R508).
What waits for the management channel or the NoC leaves at the same steps (`flushSent`), and a restart that waited for
its answer follows it (`leaveDue`, R54). Choices of the model in it: assumptions 10, 12, 22, 126, 159, 160, 161, 162,
163, 164, 165, 172, 175, 210. -/
def Obligations.MailboxEventsComplete : Prop :=
  ∀ (m : Fin 16) (s : State),
    (s.fcbOn = true → s.mbFree m 0 0 0 = true → exec (.mbCtlGo m) s = .next (postFrame m 0 0 0 (s.mbox m).frame s)) ∧
    (s.fcbOn = true → s.mbFree m 0 0 0 = false → exec (.mbCtlGo m) s = .next (s.set (R.MB_CTL.COLLIDE m) 1)) ∧
    (s.fcbOn = true → s.mbState m = 3 →
      exec (.mbCtlDoneClear m) s = .next ((s.set (R.MB_CTL.STATE m) 0).set (R.MB_CTL.DONE m) 0)) ∧
    (s.fcbOn = true → exec (.mbCtlEvtPop m) s = .next (s.setQueue m ((s.mbox m).queue.drop 1))) ∧
    (s.fcbOn = true → exec (.mbCtlAbort m) s = .next (flushSent (requestAbort m s))) ∧
    (s.mbState m = 0 ∨ s.mbState m = 3 ∨ s.flag (R.MB_CTL.ABORT m) = true → requestAbort m s = s) ∧
    (s.flag (R.MB_CTL.ABORT m) = false → s.mbState m = 1 →
      requestAbort m s = (s.modMbox m fun b => { b with abortReq := true }).set (R.MB_CTL.ABORT m) 1) ∧
    (s.flag (R.MB_CTL.ABORT m) = false → s.mbState m = 2 → s.mgt.running = true → (s.mbox m).stage = 2 →
      (s.mbox m).outcome = none → (s.mbox m).started = false → (requestAbort m s).flag (R.MB_CTL.ABORT m) = true ∧
        ((requestAbort m s).mbox m).outcome = some ⟨stCancelled, false, []⟩ ∧
        ∀ k, k ≠ m.val → (requestAbort m s).mbox k = s.mbox k) ∧
    (s.up = true → s.mgt.running = true → s.takable.contains m.val = true →
      (∀ k ∈ s.takable, (s.mbox m).postSeq ≤ (s.mbox k).postSeq) →
      exec (.mailboxTake m) s = .next (flushSent (takeFrame m s)) ∧ (takeFrame m s).mbState m = 2 ∧
      ((s.mbox m).abortReq = false → (s.mbox m).serial = 0 → frMore (s.mbox m).frame = false → frCont (s.mbox m).frame = false →
        frAlen (s.mbox m).frame = frAtotal (s.mbox m).frame → frAlen (s.mbox m).frame ≤ 120 →
        let b := (takeFrame m s).mbox m
        b.cmd = frCmd (s.mbox m).frame ∧ b.tag = frTag (s.mbox m).frame ∧ b.stage = 2 ∧ b.outcome = none ∧ b.started = false ∧
          b.args = bytesAt (s.mbox m).frame 8 (frAlen (s.mbox m).frame)) ∧
      ((s.mbox m).abortReq = false → 120 < frAlen (s.mbox m).frame →
        ((takeFrame m s).mbox m).outcome = some ⟨stBadFrame, false, []⟩)) ∧
    (s.answerReady m = true → exec (.mailboxComplete m) s = .next (leaveDue (flushSent (completeMbox m false s)))) ∧
    (∀ o : Outc, (s.mbox m).stage = 2 → (s.mbox m).outcome = some o → (s.mbox m).path < 2 → o.result.length ≤ 112 →
      let t := completeMbox m false s
      t.mbState m = 3 ∧ t.get (R.MB_CTL.DONE m) = 1 ∧ t.get (R.MB_CTL.ABORT m) = 0 ∧ (t.mbox m).held = false ∧
        (t.mbox m).serial = 0 ∧ numAt (t.mbox m).comp 0 2 = o.status % 65536 ∧ ∀ k, k ≠ m.val → t.mbox k = s.mbox k) ∧
    (s.up = true → (s.mbState m = 1 ∨ s.mbState m = 2) → (s.mbox m).timeoutMs ≠ 0 →
      exec (.mailboxTimeout m false) s = .next (leaveDue (flushSent (timeoutMbox m s))) ∧
      (s.answerReady m = true → exec (.mailboxTimeout m true) s = .next (leaveDue (flushSent (completeMbox m true s))))) ∧
    (∀ l : Fin 96, s.streamOpen (s.bundleOf l) = true → s.flag (R.LINK_CFG.MGMT_EN (s.bundleOf l)) = true →
      exec (.mgmtFrameRx l (mgmtFrame m [4])) s = .next (flushSent (abortMbox m s))) ∧
    (∀ (l : Fin 96) (rec_ : List Nat), s.streamOpen (s.bundleOf l) = true → s.flag (R.LINK_CFG.MGMT_EN (s.bundleOf l)) = true →
      rec_.length = 129 → (∀ x ∈ rec_, x < 256) → rec_.head? = some 1 → s.mgt.running = true → s.mgt.recovery = false →
      (s.mbFree m 2 (s.bundleOf l) 0 = true → exec (.mgmtFrameRx l (mgmtFrame m rec_)) s =
        .next (postFrame m 2 (s.bundleOf l) 0 rec_.tail s)) ∧
      (s.mbFree m 2 (s.bundleOf l) 0 = false → exec (.mgmtFrameRx l (mgmtFrame m rec_)) s =
        .next (flushSent (refuseFrame m 2 (s.bundleOf l) 0 (frTag rec_.tail) s)))) ∧
    (∀ (l : Fin 96) (b : List Nat), s.streamOpen (s.bundleOf l) = true → s.flag (R.LINK_CFG.MGMT_EN (s.bundleOf l)) = true →
      4 ≤ b.length → numAt b (b.length - 2) 2 ≠ crc16 (b.take (b.length - 2)) →
      exec (.mgmtFrameRx l b) s = .next (s.inc (R.LINK_STAT.MGMT_ERR (s.bundleOf l)))) ∧
    (∀ p : Pkt, s.up = true → s.rxHead 0xA0 = some p → p.typ = 5 →
      (p.off = m.val → p.data.length = 128 → s.mgt.running = true → s.mgt.recovery = false →
        (popRx 0xA0 s).mbFree m 3 p.srcDev p.srcEp = true →
        exec (.mailboxMsgPacket p) s = .next (postFrame m 3 p.srcDev p.srcEp p.data (popRx 0xA0 s))) ∧
      (p.off = m.val → p.data.length = 128 → s.mgt.running = true → s.mgt.recovery = false →
        (popRx 0xA0 s).mbFree m 3 p.srcDev p.srcEp = false → exec (.mailboxMsgPacket p) s =
          .next (flushSent (refuseFrame m 3 p.srcDev p.srcEp (frTag p.data) (popRx 0xA0 s)))) ∧
      (p.off = 16 + m.val → exec (.mailboxMsgPacket p) s = .next (flushSent (abortMbox m (popRx 0xA0 s)))) ∧
      (p.off = m.val → p.data.length ≠ 128 → exec (.mailboxMsgPacket p) s = .next (logNoc p 2 0 (popRx 0xA0 s))))

/-- Milliner starts, is reset by its watchdog and by a lockstep mismatch, and functions are held and released from the
immediate window (after R39, R491–R493, R497, R510, R515 and R516). Choices of the model in it: assumptions 17, 20, 22,
24, 29, 164, 167, 168, 175, 178, 210, 211. -/
def Obligations.ResetEventsComplete : Prop :=
  ∀ s : State,
    (∀ c : Fin 3, s.up = true → s.mgt.startDue = some c.val → s.held 0xC0 = false → s.mgt.lockstop = false →
      let u := s.set R.WDOG_STAT.PERIOD_MS 1000
      let v := if c.val = 0 then u.set R.WDOG_STAT.RESTARTS 0 else u.inc R.WDOG_STAT.RESTARTS
      (∀ k, s.fwPick = some k → exec (.millinerStart c) s = .next (flushSent (raise 0x0002 [(1, c)]
        (v.modMgt fun g => { g with running := true, recovery := false, startDue := none, copy := k })))) ∧
      (s.fwPick = none → exec (.millinerStart c) s =
        .next (v.modMgt fun g => { g with running := true, recovery := true, startDue := none }))) ∧
    (s.up = true → s.mgt.lockstop = false → exec .watchdogExpiry s =
      .next (millinerReset (if s.held 0xC0 = true then none else some 2) (safeNow 7 (s.set R.WDOG_STAT.EXPIRED 1)))) ∧
    (s.up = true → s.mgt.lockstop = false → s.held 0xC0 = false → exec .lockstepMismatch s =
      .next ((millinerReset none (safeNow 8 (s.set R.WDOG_STAT.LOCKSTEP 1))).modMgt fun g => { g with lockstop := true })) ∧
    (s.up = true → s.mgt.lockstop = false → s.mode ≠ mSafe → s.mode ≠ mTest → ∃ t, exec .watchdogExpiry s = .next t ∧
      t.mode = mSafe ∧ t.get R.DEV_MODE.SAFE_CAUSE = 7 ∧ t.get R.WDOG_STAT.EXPIRED = 1 ∧ t.mgt.running = false ∧
      (s.held 0xC0 = false → t.mgt.startDue = some 2) ∧ ∀ i : Fin 8, t.get (R.EXP_UNLK.UNLK i) = 0) ∧
    (s.up = true → s.mgt.lockstop = false → s.held 0xC0 = false → s.mode ≠ mSafe → s.mode ≠ mTest → ∃ t,
      exec .lockstepMismatch s = .next t ∧ t.mode = mSafe ∧ t.get R.DEV_MODE.SAFE_CAUSE = 8 ∧ t.get R.WDOG_STAT.LOCKSTEP = 1 ∧
        t.mgt.running = false ∧ t.mgt.lockstop = true ∧ t.mgt.startDue = none) ∧
    (s.fcbOn = true → ∀ both, exec (.devCtlRestart 0xA5 both) s = .next (tryBoot (enterStandby s))) ∧
    (s.fcbOn = true → ∀ k both, k ≠ 0xA5 → exec (.devCtlRestart k both) s = .next s ∧ exec (.devCtlSafe k) s = .next s) ∧
    (s.fcbOn = true → s.mode ≠ mSafe → s.mode ≠ mTest → ∃ t, exec (.devCtlSafe 0xA5) s = .next t ∧ t.mode = mSafe ∧
      t.get R.DEV_MODE.SAFE_CAUSE = 1 ∧ t.get R.DEV_MODE.PREV_MODE = s.mode ∧ t.fab.clocksOn = false ∧ t.io.released = false) ∧
    (s.fcbOn = true → s.mode = mSafe → exec (.devCtlSafe 0xA5) s = .next (enterSafe 1 s)) ∧
    (s.fcbOn = true → s.mode = mTest → exec (.devCtlSafe 0xA5) s = .next s) ∧
    (∀ (i : Fin 8) (v : BitVec 32), s.fcbOn = true → exec (.rstFuncWrite i v) s = .next (writeRst i v.toNat s)) ∧
    (∀ (i : Fin 8) (j : Fin 32), let f := 32 * i.val + j.val
      s.fcbOn = true → funcAssigned f = true → (s.test.busy.any fun k => busyFunc k == f) = false →
      (s.get (R.RST_FUNC.HOLD i) = 0 → exec (.rstFuncWrite i (BitVec.ofNat 32 (2 ^ j.val))) s =
        .next (holdFunc f (s.setBit (R.RST_FUNC.HOLD i) j true))) ∧
      (s.get (R.RST_FUNC.HOLD i) = 2 ^ j.val → exec (.rstFuncWrite i 0) s =
        .next (releaseFunc f (s.setBit (R.RST_FUNC.HOLD i) j false)))) ∧
    (s.fcbOn = true → ∀ i : Fin 8, exec (.rstFuncWrite i (BitVec.ofNat 32 (s.get (R.RST_FUNC.HOLD i)))) s = .next s) ∧
    (∀ f : Fin 256, f.val ∈ s.mgt.draining → s.held f = true → s.drained f = true → ∃ t,
      exec (.funcResetDrainDone f) s = .next t ∧ t.bit (R.RST_ACT.ACT (f.val / 32)) (f.val % 32) = true ∧
        f.val ∉ t.mgt.draining ∧ t.ctx = s.ctx)

/-- The management bus: a write crosses to its register, where it acts by the access codes of its card (after R5), or
stays in its handshake with one value pending, and a further one replaces that with `OVERRUN` (after R88, R496); an
unassigned address takes none (after R495), a write to the expert page is posted and delivered in order, and only to an
unlocked function (after R499), and the test access port makes the same accesses (after R518, R519). Choices of the
model in it: assumptions 10, 171, 174, 175, 176, 211. -/
def Obligations.BusAccessesComplete : Prop :=
  ∀ s : State,
    (∀ (a : BitVec 16) (v : BitVec 32), s.fcbOn = true → a.toNat < 0x1000 → let a' := a.toNat / 4 * 4
      let f := xingFunc a'
      exec (.registerWrite a ⟨v, true⟩) s = .next (writeReg 0 a' v.toNat (ackXing f (ackXing f s))) ∧
      ((s.xing f).req = none → ackXing f s = s) ∧
      ((cardAt a').isSome = true →
        exec (.registerWrite a ⟨v, false⟩) s = .next (s.modXing f fun x => x.offer ⟨0, a', v.toNat⟩)) ∧
      (cardAt a' = none → exec (.registerWrite a ⟨v, false⟩) s = .next s ∧
        ((s.xing f).req = none → exec (.registerWrite a ⟨v, true⟩) s = .next s))) ∧
    (∀ (x : Xing) (w : XWrite),
      (x.req = none → (x.offer w).req = some w ∧ (x.offer w).pend = x.pend ∧ (x.offer w).overrun = x.overrun) ∧
      (x.req.isSome = true → (x.offer w).req = x.req ∧ (x.offer w).pend = some w ∧
        (x.offer w).overrun = (x.overrun || x.pend.isSome))) ∧
    (∀ a v, a ∈ [0x4C, 0x50, 0x68, 0x6C, 0x70] → writeReg 0 a v s = writeFields (fieldsAt a) v s) ∧
    (∀ (m : Fin 16) (o : Fin 32) (v : BitVec 32) (k : Bool), s.fcbOn = true →
      (s.mbState m ≠ 0 →
        exec (.registerWrite (BitVec.ofNat 16 (0x1000 + 256 * m.val + 4 * o.val)) ⟨v, k⟩) s = .next s) ∧
      (s.mbState m = 0 → (s.mbox m).frame.length = 128 → ∃ t,
        exec (.registerWrite (BitVec.ofNat 16 (0x1000 + 256 * m.val + 4 * o.val)) ⟨v, k⟩) s = .next t ∧ t.regs = s.regs ∧
          numAt (t.mbox m).frame (4 * o.val) 4 = v.toNat ∧ (t.mbox m).frame.length = 128)) ∧
    (∀ a v x, s.fcbOn = true → 0x2000 ≤ a.toNat → s.pageAddr (a.toNat / 4 * 4) = some x →
      (s.mgt.expWrites.length < 16 →
        exec (.expertWindowWrite a v) s = .next (setPosted (s.mgt.expWrites ++ [(x, v.toNat)]) s)) ∧
      (16 ≤ s.mgt.expWrites.length → exec (.expertWindowWrite a v) s = .next (s.set R.EXP_STAT.WR_DROP 1))) ∧
    (∀ a v, s.fcbOn = true → 0x2000 ≤ a.toNat → s.pageAddr (a.toNat / 4 * 4) = none →
      exec (.expertWindowWrite a v) s = .next (s.set R.EXP_STAT.BAD_WIN 1)) ∧
    (∀ a v l, s.mgt.expWrites = (a, v) :: l → s.held (xingFunc a) = false ∨ (s.xing (xingFunc a)).pend = none →
      ((cardAt a).isSome = true → (expFuncs a).any s.unlocked' = true → exec .expertWriteDeliver s =
        .next (crossWrite (!s.held (xingFunc a)) 0 a v (setPosted l s))) ∧
      ((cardAt a).isSome = true → (expFuncs a).any s.unlocked' = false →
        exec .expertWriteDeliver s = .next ((setPosted l s).set R.EXP_STAT.DENIED 1)) ∧
      (cardAt a = none → exec .expertWriteDeliver s = .next (setPosted l s))) ∧
    (∀ a v l, s.mgt.expWrites = (a, v) :: l → s.held (xingFunc a) = true → (s.xing (xingFunc a)).pend.isSome = true →
      exec .expertWriteDeliver s = .next s) ∧
    (∀ op : BitVec 8, ∃ t, exec (.tapUpdateIr op) s = .next t ∧ t.regs = s.regs ∧
      (op.toNat ≤ 6 → t.mgt.tapIr = op.toNat) ∧ (op = 0x10 → t.mgt.tapIr = 0x10) ∧
      (6 < op.toNat → op ≠ 0x10 → t.mgt.tapIr = 0xFF)) ∧
    (∀ dr : BitVec 49, s.mgt.tapIr = 0x10 → s.flag R.SEC_PROT.JTAG_FULL = true →
      (dr.toNat.testBit 16 = true →
        exec (.fcbaccUpdate dr) s = .next (writeBus true 1 (dr.toNat % 65536) (dr.toNat / 2 ^ 17 % 2 ^ 32) s)) ∧
      (dr.toNat.testBit 16 = false → ∃ t, exec (.fcbaccUpdate dr) s = .next t ∧
        t.mgt.fcbRead = (readBus (dr.toNat % 65536) s).1)) ∧
    (∀ dr : BitVec 49, s.flag R.SEC_PROT.JTAG_FULL = false → exec (.fcbaccUpdate dr) s = .next s)

/-- The identity, control and calibration commands of Tables 17-18 and 17-23 complete (after R500, R506, R509,
R512–R514, R520–R522). Choices of the model in it: assumptions 10, 11, 12, 16, 17, 129, 166, 169, 170, 171, 172, 178,
179, 180, 181. -/
def Obligations.IdentityCommandsComplete : Prop :=
  ∀ (mb : Fin 16) (s : State),
    (∀ c, s.cmdDue mb c = true → assignedCode c = false →
      exec (.unknownCommand mb) s = .next (setOutcome mb ⟨stBadCmd, false, []⟩ s)) ∧
    (s.serves mb 0x0000 [] → Completes (.idGet mb) mb s stOk (pack [(4, s.devType), (16, s.aon.serial), (3, s.devId),
      (4, s.get R.CFG_ID.IMAGE_ID), (1, if s.mgt.recovery = true then 0xFF else s.mgt.copy),
      (4, if s.mgt.recovery = true then 0 else (s.fwCopy s.mgt.copy).version)]) (s.begun mb)) ∧
    (s.serves mb 0x0001 [] → Completes (.fwInfo mb) mb s stOk (pack (((List.range 2).flatMap fun k =>
      [(1, if (s.fwCopy k).valid then 1 else 0), (4, (s.fwCopy k).version), (4, (s.fwCopy k).length)]) ++ [(1, s.fwRunning)]))
      (s.begun mb)) ∧
    (∀ c off bs, s.servesBytes mb 0x0002 [(1, c), (4, off)] bs = true → c < 2 → bs.length ≤ 4096 → off + bs.length ≤ 2 ^ 20 →
      (c ≠ s.fwRunning → ∃ t, Completes (.fwWrite mb c off bs) mb s stOk [] t ∧ (t.fwCopy c).valid = false ∧
        (∀ i, i < bs.length → lookup (t.fwCopy c).bytes (off + i) = bs[i]?) ∧ t.fwCopy (1 - c) = s.fwCopy (1 - c)) ∧
      (c = s.fwRunning → Completes (.fwWrite mb c off bs) mb s stDenied [] (s.begun mb))) ∧
    (∀ c, s.serves mb 0x0003 [(1, c)] → c < 2 → (s.fwCopy c).valid = true →
      Completes (.fwCommit mb c) mb s stOk (pack [(4, (s.fwCopy c).version)]) (s.begun mb)) ∧
    (∀ c, s.serves mb 0x0003 [(1, c)] → c < 2 → (s.fwCopy c).valid = false →
      ∃ r t, Completes (.fwCommit mb c) mb s (if Config.firmware (s.fwCopy c).bytes = 0 then stAuthFail else stOk) r t ∧
        t.mgt.copy = s.mgt.copy ∧ t.fwCopy (1 - c) = s.fwCopy (1 - c) ∧ ((t.fwCopy c).valid = true ↔ Config.firmware (s.fwCopy c).bytes ≠ 0) ∧
        (Config.firmware (s.fwCopy c).bytes ≠ 0 → (t.fwCopy c).version = (Config.firmware (s.fwCopy c).bytes - 1) % 2 ^ 32)) ∧
    (∀ a n, s.serves mb 0x0004 [(1, a), (2, n)] → 1 ≤ n → a + n ≤ 256 →
      (s.flag R.SEC_PROT.EXPERT_OK = true →
        (s.test.busy.any fun k => decide (a ≤ busyFunc k) && decide (busyFunc k < a + n)) = false → ∃ r t, Completes (.expertUnlock mb a n) mb s stOk r t ∧
        ∀ f : Fin 256, t.unlocked' f = (decide (a ≤ f.val ∧ f.val < a + n) || s.unlocked' f)) ∧
      (s.flag R.SEC_PROT.EXPERT_OK = false → Completes (.expertUnlock mb a n) mb s stDenied [] (s.begun mb))) ∧
    (∀ a n, s.serves mb 0x0005 [(1, a), (2, n)] → 1 ≤ n → a + n ≤ 256 → ∃ r t, Completes (.expertLock mb a n) mb s stOk r t ∧
      ∀ f : Fin 256, t.unlocked' f = (!decide (a ≤ f.val ∧ f.val < a + n) && s.unlocked' f)) ∧
    (∀ f a, s.serves mb 0x0006 [(1, f), (1, a)] → a < 3 → funcAssigned f = true →
      (f ≠ 0xC0 → Completes (.funcReset mb f a) mb s stOk []
        (if a = 2 then pulseFunc f (s.begun mb) else setFunc f (a == 1) (s.begun mb))) ∧
      (f = 0xC0 → Completes (.funcReset mb f a) mb s stDenied [] (s.begun mb))) ∧
    (∀ box mask, s.serves mb 0x0007 [(1, box), (2, mask)] → box < 16 → ∃ t,
      Completes (.eventCfg mb box mask) mb s stOk (pack [(2, (s.mbox box).mask)]) t ∧ (t.mbox box).mask = mask ∧
        (t.mbox box).evtPath = (s.mbox mb).path ∧ t.get (R.MB_CTL.EVT_LOST box) = 0 ∧
        (2 ≤ (s.mbox mb).path → (t.mbox box).queue = [])) ∧
    (∀ box ms, s.serves mb 0x0008 [(1, box), (2, ms)] → box < 16 → ms ≤ 60000 → Completes (.mbConfig mb box ms) mb s stOk []
      ((s.begun mb).modMbox box fun b => { b with timeoutMs := ms })) ∧
    (∀ scope, 1 ≤ scope → scope < 32 → let b := s.calRecord scope
      let r := pack [(4, b.length), (4, crc32 (b.take (b.length - 8)))]
      (s.serves mb 0x0C00 [(1, scope), (1, 0)] →
        (b.length ≤ 8192 → ∀ n, Completes (.calExport mb scope 0 n) mb s stOk b (s.begun mb)) ∧
        (8192 < b.length → ∀ n, Completes (.calExport mb scope 0 n) mb s stNoResource [] (s.begun mb))) ∧
      (∀ n, s.serves mb 0x0C00 [(1, scope), (1, 1), (8, n)] → Completes (.calExport mb scope 1 n) mb s stOk r
        (sendWrites 0xA0 (bitsOf n 44 20) (bitsOf n 32 12) (b.length / 512 + 1) (n % 2 ^ 32) b (s.begun mb))) ∧
      (∀ n, s.serves mb 0x0C00 [(1, scope), (1, 2), (1, n)] → n < 8 →
        Completes (.calExport mb scope 2 n) mb s stOk r (storeCal n b (s.begun mb)))) ∧
    (∀ n force bytes l, s.servesBytes mb 0x0C01 [(1, 0)] (bytes ++ [force]) = true → force < 2 → bytes.length ≤ 8192 →
      calParse bytes = some l → s.calStatus l = stOk → force = 1 ∨ numAt bytes 8 16 = s.aon.serial →
      Completes (.calImport mb 0 n bytes force) mb s stOk (pack [(2, (calUnits l).length)]) (writeCal l (s.begun mb))) ∧
    (∀ n force bs b l, s.serves mb 0x0C01 [(1, 2), (1, n), (1, force)] → n < 8 → force < 2 → lookup s.mgt.cal n = some b →
      calParse b.bytes = some l → s.calStatus l = stOk →
      (force = 1 ∨ numAt b.bytes 8 16 = s.aon.serial → Completes (.calImport mb 2 n bs force) mb s stOk
        (pack [(2, (calUnits l).length)]) (writeCal l (s.begun mb))) ∧
      (force = 0 → numAt b.bytes 8 16 ≠ s.aon.serial → Completes (.calImport mb 2 n bs force) mb s stDenied [] (s.begun mb))) ∧
    (s.serves mb 0x0C02 [] → Completes (.calList mb) mb s stOk (pack (((List.range 8).flatMap fun n =>
      match lookup s.mgt.cal n with
      | none => [(1, 0), (4, 0), (6, 0), (1, 0)]
      | some r => [(1, 1), (4, r.bytes.length), (6, numAt r.bytes 24 6), (1, r.bytes.getD 30 0)]) ++ [(1, s.mgt.calBoot)]))
      (s.begun mb)) ∧
    (∀ b n, s.serves mb 0x0C03 [(1, b), (1, n)] → b < 2 → n < 8 ∨ (b = 1 ∧ n = 255) → Completes (.calSave mb b n) mb s stOk []
      ((s.begun mb).modMgt fun g =>
        if b = 1 then { g with calBoot := n } else { g with cal := g.cal.filter fun e => e.1 != n }))

/-! ## Supplies, heat and service life -/

/-- Supplies, thermal rounds, the life record and the vertical groups act (after R524–R529, R536, R537, R540, R545,
R547–R550 and Table 18-7). The pass value in Limit is that of Table 18-5 (after R538): 15 below `T_LIMIT`, one less for
each half degree above it, and never below `FLOOR`. Choices of the model in it: assumptions 15, 18, 19, 30, 43, 97, 148,
175, 182, 183, 184, 187, 188, 206, 207, 210. -/
def Obligations.SupplyAndHeatEventsComplete : Prop :=
  (∀ s : State,
    (s.mode ≠ mOff → ∃ t, exec .vaonLost s = .next t ∧ t.mode = mOff ∧ t.get R.PWR_STAT.RAIL_OK = 0 ∧ t.sec.fuses = s.sec.fuses ∧
      t.cfg.slots = s.cfg.slots ∧ t.bm.rows = [] ∧ t.cache.rows = [] ∧ t.bulk.pages = [] ∧
      (s.sec.vbatGood = true → t.sec.bbk = s.sec.bbk) ∧ (s.sec.vbatGood = false → t.sec.bbk = none)) ∧
    (∀ (r : Fin 14) (k : Nat), s.mode ≠ mOff → r.val ≠ 0 → r.val ≠ 13 → s.bit R.PWR_STAT.RAIL_OK r = false →
      (s.orderFault r k = none → exec (.railPresent r k) s = .next (tryBoot (setRail r true s))) ∧
      (∀ c, s.orderFault r k = some c → exec (.railPresent r k) s = .next (supplyFail c (setRail r true s)) ∧
        (s.mode = mStandby → s.get R.DEV_MODE.STBY_FAULT = 0 →
          supplyFail c (setRail r true s) = (setRail r true s).set R.DEV_MODE.STBY_FAULT c))) ∧
    (∀ r : Fin 14, s.up = true → 1 ≤ r.val → r.val ≤ 10 → s.get R.DEV_MODE.STBY_FAULT = 0 →
      (s.bit R.PWR_STAT.RAIL_OK r = true → ∃ t, exec (.supplyFault (.lost r)) s = .next t ∧ t.mode = mStandby ∧
        t.get R.DEV_MODE.STBY_FAULT = 0x10 + r.val ∧ t.bit R.PWR_STAT.RAIL_OK r = false ∧ t.bm.rows = [] ∧ t.bulk.pages = []) ∧
      (∃ t, exec (.supplyFault (.overV r)) s = .next t ∧ t.mode = mStandby ∧ t.get R.DEV_MODE.STBY_FAULT = 0x20 + r.val)) ∧
    (∀ r : Fin 14, s.mode = mStandby → r.val ≠ 0 → r.val ≠ 13 → s.bit R.PWR_STAT.RAIL_OK r = true →
      exec (.supplyFault (.lost r)) s = .next (setRail r false s)) ∧
    (∀ c : Fin 64, s.mode ≠ mOff → c.val ∈ [1, 2, 3, 4, 5, 0x30] →
      exec (.supplyFault (.order c)) s = .next (supplyFail c s)) ∧
    (∀ (r : Fin 14) (k : Nat), s.mode ≠ mOff → r.val ≠ 0 → r.val ≠ 13 → s.bit R.PWR_STAT.RAIL_OK r = true →
      exec (.railOff r k) s = .next (if s.up = true ∧ r.val ≤ 10 then supplyFail (0x10 + r.val) (setRail r false s)
        else if (laterRails r).any k.testBit = true then supplyFail 0x30 (setRail r false s) else setRail r false s)) ∧
    (∀ rds, s.up = true → s.clocked 16 = true → exec (.hkpRoundEnd rds) s = .next (judgeThermal (forEach (List.range 24) ageDie
      (countLife (forEach (List.range 2) bulkHot (takeHeat (refreshVio (publishRound rds s)))))))) ∧
    (s.up = true → s.get R.THERM_STAT.STATE = 1 → ∃ t, exec .graceExpiry s = .next t ∧ t.get R.THERM_STAT.STATE = 2 ∧
      t.flag R.DEV_MODE.COND_LIMIT = true ∧ t.get R.THERM_STAT.P = limitP s.tmax s.therm.tLimit s.therm.floor % 32 ∧
      (s.runClass = true → t.mode = mLimit)) ∧
    (s.up = true → exec .sensorRoundMissing s = .next (thermTrip 0xFF ((s.set R.THERM_STAT.SENS_LOST 1).modTherm fun t =>
      { t with cool := false }))) ∧
    (s.up = true → s.mode ≠ mSafe → s.mode ≠ mTest → ∃ t, exec .sensorRoundMissing s = .next t ∧ t.mode = mSafe ∧
      t.get R.DEV_MODE.SAFE_CAUSE = 3 ∧ t.get R.THERM_STAT.SENS_LOST = 1 ∧ t.get R.THERM_STAT.STATE = 3) ∧
    (s.up = true → s.mgt.running = true → exec .lifeRecordWrite s = .next (s.modTherm fun t =>
      { t with recA := t.binA, recB := t.binB, recC := t.binC, recD := t.binD })) ∧
    (∀ (g : VertGroup) (bad : List Nat), s.up = true → (s.vgroup g.addr).fenced = false → ∃ t,
      exec (.linkMonitorVisit g bad) s = .next t ∧ ∀ a, a ≠ g.addr → t.vgroup a = s.vgroup a) ∧
    (∀ (g : VertGroup) (p n : Nat), s.up = true → s.vgroup g.addr = ⟨[(p, n)], [], false⟩ → n < 3 →
      let u := s.modVert g.addr fun v => { v with bad := [(p, n + 1)] }
      exec (.linkMonitorVisit g [p]) s = .next (if n < 2 ∨ (s.freeSpare g.addr).isSome = true then u else fenceGroup g u)) ∧
    (∀ (g : VertGroup) (p k : Nat), s.up = true → (s.vgroup g.addr).fenced = false → at' (s.vgroup g.addr).bad p 0 = 3 →
      s.freeSpare g.addr = some k → k < groupSpares g.addr ∧ s.spareTaken g.addr k = false ∧
        (∀ j, j < k → s.spareTaken g.addr j = true) ∧ ∃ t, exec (.vertRemap g p) s = .next t ∧
        (t.vgroup g.addr).remapped = (s.vgroup g.addr).remapped ++ [(p, k)] ∧ t.get R.VERT_STAT.VERT_NEW = 1 ∧
        t.get R.VERT_STAT.REMAPS = (s.inc R.VERT_STAT.REMAPS).get R.VERT_STAT.REMAPS ∧
        (s.test.soft.length < 4096 → t.test.soft = s.test.soft ++ [⟨1, g.addr, p, k, true, false⟩]) ∧
        (4096 ≤ s.test.soft.length → t.test.soft = s.test.soft ∧ t.get R.FUSE_LEFT.SOFT_FULL = 1)) ∧
    (∀ v : BitVec 32, s.fcbOn = true →
      (960 ≤ v.toNat % 4096 → v.toNat % 4096 ≤ 1680 → 10 ≤ v.toNat / 4096 % 8192 → v.toNat / 4096 % 8192 ≤ 5000 →
        4 ≤ v.toNat / 2 ^ 25 % 16 → ∃ t, exec (.thermCfgWrite v) s = .next t ∧ t.get R.THERM_CFG.T_LIMIT = v.toNat % 4096 ∧
          t.get R.THERM_CFG.GRACE_MS = v.toNat / 4096 % 8192 ∧ t.get R.THERM_CFG.FLOOR = v.toNat / 2 ^ 25 % 16 ∧
          t.get R.THERM_CFG.THERM_IE = v.toNat / 2 ^ 29 % 2 ∧ t.therm = s.therm) ∧
      (v.toNat % 4096 < 960 ∨ 1680 < v.toNat % 4096 ∨ v.toNat / 4096 % 8192 < 10 ∨ 5000 < v.toNat / 4096 % 8192 ∨
        v.toNat / 2 ^ 25 % 16 < 4 →
        exec (.thermCfgWrite v) s = .next (s.set R.THERM_STAT.CFG_REJ 1)))) ∧
  (∀ (tmax : Int) (limit floor : Nat), floor ≤ 15 →
    (tmax < limit → limitP tmax limit floor = 15) ∧
    (∀ k : Nat, (limit : Int) + 8 * k ≤ tmax → tmax < limit + 8 * (k + 1) → limitP tmax limit floor = max floor (15 - k)) ∧
    floor ≤ limitP tmax limit floor ∧ limitP tmax limit floor ≤ 15)

/-- The thermal and power commands of Table 18-14 complete (after R532, R540, R551). Choices of the model in it:
assumptions 10, 11, 79, 183, 185, 186, 196. -/
def Obligations.PowerCommandsComplete : Prop :=
  ∀ (mb : Fin 16) (s : State),
    (s.serves mb 0x0700 [] → Completes (.thermGet mb) mb s stOk (pack ([(4, s.cardWord 0x700), (4, s.cardWord 0x704),
      (4, s.cardWord 0x708)] ++ (List.range 24).map fun d => (2, ofSigned 16 (at' s.therm.dieMax d 0)))) (s.begun mb)) ∧
    (∀ l g f, s.serves mb 0x0701 [(2, l), (2, g), (1, f)] → 960 ≤ l → l ≤ 1680 → 10 ≤ g → g ≤ 5000 → 4 ≤ f → f ≤ 15 →
      Completes (.thermSet mb l g f) mb s stOk []
        ((((s.begun mb).set R.THERM_CFG.T_LIMIT l).set R.THERM_CFG.GRACE_MS g).set R.THERM_CFG.FLOOR f)) ∧
    (s.serves mb 0x0702 [] → Completes (.thermPeakClr mb) mb s stOk (pack [(2, s.get R.THERM_TEMP.TPEAK)])
      ((s.begun mb).set R.THERM_TEMP.TPEAK s.tmaxRaw)) ∧
    (s.serves mb 0x0703 [] → Completes (.lifeGet mb) mb s stOk (pack ([(4, roundHours s.therm.binA), (4, roundHours s.therm.binB),
      (4, roundHours s.therm.binC), (4, roundHours s.therm.binD), (4, s.get R.LIFE_USED.PPM)] ++
      (List.range 24).map fun d => (2, ofSigned 16 (at' s.therm.slowdown d 0)))) (s.begun mb)) ∧
    (s.serves mb 0x0704 [] → Completes (.pwrGet mb) mb s stOk (pack ((4, s.get R.PWR_STAT.RAIL_OK) ::
      (List.range 14).map fun i => (2, s.get (R.HKP_RES.VALUE (168 + i))))) (s.begun mb)) ∧
    (∀ a n, s.serves mb 0x0705 [(2, a), (1, n)] → 1 ≤ n → n ≤ 16 → Completes (.vertGet mb a n) mb s stOk
      (pack (((s.therm.fences.drop a).take n).flatMap fun e => [(4, e.addr), (4, e.element), (6, e.tick)])) (s.begun mb)) ∧
    (∀ q u o, s.serves mb 0x0706 [(1, q), (1, u), (1, o)] → q < 4 → u < 2 → o < 2 → s.quadTested q u = false →
      (s.mode ≠ mSafe → Completes (.diePower mb q u o) mb s stDenied [] (s.begun mb)) ∧
      (s.mode = mSafe →
        (u = 0 → o = 1 → Completes (.diePower mb q u o) mb s stOk []
          (if q ∈ s.therm.upperOff then s.begun mb else upperUnitOff q (s.begun mb))) ∧
        (u = 0 → o = 0 → q ∈ s.therm.memOff → Completes (.diePower mb q u o) mb s stDenied [] (s.begun mb)) ∧
        (u = 0 → o = 0 → q ∉ s.therm.memOff → Completes (.diePower mb q u o) mb s stOk []
          ((s.begun mb).modTherm fun t => { t with upperOff := t.upperOff.filter fun k => k != q })) ∧
        (u = 1 → o = 1 → q ∉ s.therm.upperOff → Completes (.diePower mb q u o) mb s stDenied [] (s.begun mb)) ∧
        (u = 1 → o = 1 → q ∈ s.therm.upperOff → (∀ i, i < 64 → s.flag (R.BANK_CFG.LAND (64 * q + i)) = false ∧
            s.flag (R.BANK_CFG.CMODE (64 * q + i)) = false) → Completes (.diePower mb q u o) mb s stOk []
          (if q ∈ s.therm.memOff then s.begun mb else forEach ((List.range 64).map (64 * q + ·)) (fun b => startPower b 2)
            ((s.begun mb).modTherm fun t => { t with memOff := q :: t.memOff }))) ∧
        (u = 1 → o = 0 → Completes (.diePower mb q u o) mb s stOk []
          ((s.begun mb).modTherm fun t => { t with memOff := t.memOff.filter fun k => k != q }))))

/-! ## Self-test and repair -/

/-- The quick check and the slices end, and the test and repair commands of Table 19-11 complete (after R553, R554,
R558–R560, R564–R566 and R569). Choices of the model in it: assumptions 10, 11, 27, 189, 190, 191, 194, 195. -/
def Obligations.SelfTestCompletes : Prop :=
  (∀ s : State,
    (∀ e p f, s.aon.bootReady = false → s.mgt.running = true → s.mgt.recovery = false → s.mode = mBoot →
      (recordQuick e p f s).unrepairable [0, 1] = [] → s.flag R.STRAP_LATCH.STRAP_ERR = false →
      ∃ t, exec (.quickCheckEnd e p f) s = .next t ∧ t.aon.bootReady = true ∧
        t.get R.TEST_STAT.QUICK_INC = (if e < p then 1 else 0) ∧
        t.flag R.TEST_STAT.QUICK_FAIL = ((handleFails f s).1.any fun x => x.1 == 1 || x.1 == 3) ∧
        (s.flag R.STRAP_LATCH.SAFE = true → t.mode = mSafe ∧ t.get R.DEV_MODE.SAFE_CAUSE = 2) ∧
        (s.flag R.STRAP_LATCH.SAFE = false → s.get R.STRAP_LATCH.BOOT = 1 → t.mode = mLoad)) ∧
    (∀ e p f, s.aon.bootReady = false → s.mgt.running = true → s.mgt.recovery = false → s.mode = mBoot → s.test.policy = 0 →
      (recordQuick e p f s).unrepairable [0, 1] ≠ [] → ∃ t, exec (.quickCheckEnd e p f) s = .next t ∧ t.mode = mSafe) ∧
    (∀ o, exec (.sliceEnd o) s = .next (endSlice o false false s) ∧
      exec (.sliceBudgetExpiry o) s = .next (endSlice o o.lastAtEdge false s)) ∧
    (∀ (o : SliceOutcome) (late : Bool) (x : TestRun), s.test.run = some x → x.kind = 2 → x.slice ≠ 0 → x.slice < 10 →
      (endSlice o late false s).get (R.SLICE_RES.RESULT x.slice) = sliceResult x.prog o (handleFails o.fails s).1 false ∧
      (o.exec ≠ x.prog → (endSlice o late false s).get (R.SLICE_RES.RESULT x.slice) = 4) ∧
      (o.exec = x.prog → o.fails = [] →
        (endSlice o late false s).get (R.SLICE_RES.RESULT x.slice) = if o.sigOk then 1 else 3) ∧
      (endSlice o late false s).flag (R.SLICE_RES.LATE x.slice) = late ∧
      (endSlice o late false s).mode = s.mode ∧ (endSlice o late false s).get R.TEST_STAT.SLICE_DONE = 1) ∧
    (∀ (o : SliceOutcome) (late : Bool) (x : TestRun), s.test.run = some x → x.kind = 0 → s.mode = mTest →
      (s.test.queue = [] → (endSlice o late false s).mode = mStandby ∧ (endSlice o late false s).aon.testDone = true) ∧
      (∀ i q, s.test.queue = i :: q → i < 16 → (endSlice o late false s).mode = mTest ∧
        (endSlice o late false s).get R.TEST_STAT.SLICE = i ∧ (endSlice o late false s).get R.TEST_STAT.RUNNING = 1))) ∧
  ∀ (mb : Fin 16) (s : State),
    (s.cmdDue mb 0x0800 = true → s.mgt.recovery = false → (s.mbox mb).args = [] →
      Completes (.testGet mb) mb s stOk (pack s.testWords) (s.begun mb)) ∧
    (∀ k a n, s.serves mb 0x0801 [(1, k), (2, a), (1, n)] → k < 3 → 1 ≤ n → n ≤ 6 →
      (∀ r, lookup s.test.recs k = some r → a < (r.items k).length →
        Completes (.testResults mb k a n) mb s stOk (((r.items k).drop a).take n).flatten (s.begun mb)) ∧
      (∀ r, lookup s.test.recs k = some r → (r.items k).length ≤ a →
        Completes (.testResults mb k a n) mb s stBadArg [] (s.begun mb)) ∧
      (lookup s.test.recs k = none → Completes (.testResults mb k a n) mb s stBadArg [] (s.begun mb))) ∧
    (∀ i u b, s.serves mb 0x0802 [(1, i), (2, u), (2, b)] → i < 10 → u < serviceCount i → 1 ≤ b → b ≤ 10000 →
      (s.runClass = true ∨ s.mode = mSafe ∨ s.mode = mQuiescent) → s.test.run = none →
      (s.isolated i u = true → exec (.testRun mb i u b) s = .next (startService i u b ((s.begun mb).serial mb) (s.begun mb))) ∧
      (s.isolated i u = false → Completes (.testRun mb i u b) mb s stDenied [] (s.begun mb))) ∧
    (∀ i u b, s.serves mb 0x0802 [(1, i), (2, u), (2, b)] → i < 10 → serviceCount i = 0 → 1 ≤ b → b ≤ 10000 →
      Completes (.testRun mb i u b) mb s stDenied [] (s.begun mb)) ∧
    (∀ p, s.serves mb 0x0803 [(1, p)] → p < 2 →
      (p = 0 ∨ s.flag R.SEC_PROT.EXPERT_OK = true → Completes (.testPolicy mb p) mb s stOk []
        (refreshUnrep ((s.begun mb).modTest fun t => { t with policy := p }))) ∧
      (p = 1 → s.flag R.SEC_PROT.EXPERT_OK = false → Completes (.testPolicy mb p) mb s stDenied [] (s.begun mb))) ∧
    (s.serves mb 0x0804 [] →
      (s.mode = mSafe → 4 ∈ s.aon.safeCauses → s.flag R.SEC_PROT.EXPERT_OK = true → Completes (.testFence mb) mb s stOk
        (pack [(2, (s.unrepairable [0, 1]).length)]) (fenceAll (s.begun mb)).2) ∧
      (s.mode ≠ mSafe → Completes (.testFence mb) mb s stDenied [] (s.begun mb))) ∧
    (∀ a n, s.serves mb 0x0805 [(1, 0), (2, a), (1, n)] → 1 ≤ n → n ≤ 8 → a + n ≤ 285 → Completes (.repairList mb 0 a n) mb s stOk
      (pack ((List.range n).map fun i => (8, (at' s.test.fuse (a + i) RepairEnt.blank).word))) (s.begun mb)) ∧
    (∀ a n, s.serves mb 0x0805 [(1, 1), (2, a), (1, n)] → 1 ≤ n → n ≤ 8 → a + n ≤ 4096 → Completes (.repairList mb 1 a n) mb s
      stOk (pack (((s.test.soft.drop a).take n).map fun e => (8, e.word))) (s.begun mb)) ∧
    (∀ a n fl, s.serves mb 0x0806 [(2, a), (1, n)] → 1 ≤ n → n ≤ 64 → a + n ≤ 4096 → s.mode ≠ mTest →
      (s.freeFuses ≠ [] → ∃ r t, Completes (.repairFuse mb a n fl true) mb s stOk r t ∧
        (∀ j, at' s.test.fuse j RepairEnt.blank ≠ RepairEnt.blank →
          at' t.test.fuse j RepairEnt.blank = at' s.test.fuse j RepairEnt.blank) ∧
        ∀ e ∈ s.test.soft, e.kind = 8 → e ∈ t.test.soft) ∧
      (s.freeFuses = [] → Completes (.repairFuse mb a n fl true) mb s stNoResource [] (s.begun mb)) ∧
      Completes (.repairFuse mb a n fl false) mb s stNoResource [] (s.begun mb)) ∧
    (∀ a e k, s.serves mb 0x0806 [(2, a), (1, 1)] → a < 4096 → s.mode ≠ mTest → s.test.soft[a]? = some e → e.kind ≠ 8 →
      s.freeFuses.head? = some k →
      (∃ r t, Completes (.repairFuse mb a 1 [] true) mb s stOk r t ∧ at' t.test.fuse k RepairEnt.blank = e ∧
        t.test.soft = s.test.soft.erase e ∧ ∀ j, j ≠ k → at' t.test.fuse j RepairEnt.blank = at' s.test.fuse j RepairEnt.blank) ∧
      (∃ r t, Completes (.repairFuse mb a 1 [a] true) mb s stOk r t ∧ (at' t.test.fuse k RepairEnt.blank).retired = true ∧
        t.test.soft = s.test.soft)) ∧
    (∀ e, s.serves mb 0x0807 [(2, e)] → e < 285 → s.mode ≠ mTest →
      Completes (.repairRetire mb e false) mb s stNoResource [] (s.begun mb)) ∧
    (∀ e, s.serves mb 0x0807 [(2, e)] → e < 285 → s.mode ≠ mTest → s.freeFuses ≠ [] → ∃ t,
      Completes (.repairRetire mb e true) mb s stOk [] t ∧ at' t.test.fuse e RepairEnt.blank =
        { at' s.test.fuse e RepairEnt.blank with retired := true } ∧ t.test.soft = s.test.soft)
end

