-- ==== Sys2Proof/Laws/Map.lean ====
section
/-! SUPPORT. What the operations on sparse maps do: reading after writing, and the canonical form they keep. -/

namespace Sys2Proof.Machine

variable {α : Type}

theorem lookup_put_same (m : SMap α) (k : Nat) (v : α) : lookup (put m k v) k = some v := by
  induction m with
  | nil => simp [put, lookup]
  | cons e m ih =>
    obtain ⟨k', v'⟩ := e
    simp only [put]
    split
    · simp [lookup]
    · split
      · simp [lookup]
      · next h1 h2 => simp [lookup, h2, ih]

theorem lookup_put_ne (m : SMap α) {k j : Nat} (v : α) (h : j ≠ k) : lookup (put m k v) j = lookup m j := by
  induction m with
  | nil => simp [put, lookup, h]
  | cons e m ih =>
    obtain ⟨k', v'⟩ := e
    simp only [put]
    split
    · simp [lookup, h]
    · split
      · next h2 => subst h2; simp [lookup, h]
      · simp only [lookup, ih]

theorem lookup_filter_keep (m : SMap α) (p : Nat → Bool) {k : Nat} (h : p k = true) :
    lookup (m.filter fun e => p e.1) k = lookup m k := by
  induction m with
  | nil => rfl
  | cons e m ih =>
    obtain ⟨k', v'⟩ := e
    by_cases hk : k = k'
    · subst hk; simp [List.filter, h, lookup]
    · by_cases hp : p k' = true
      · simp [List.filter, hp, lookup, hk, ih]
      · simp [List.filter, hp, lookup, hk, ih]

theorem lookup_filter_drop (m : SMap α) (p : Nat → Bool) {k : Nat} (h : p k = false) :
    lookup (m.filter fun e => p e.1) k = none := by
  induction m with
  | nil => rfl
  | cons e m ih =>
    obtain ⟨k', v'⟩ := e
    by_cases hp : p k' = true
    · have hk : k ≠ k' := by rintro rfl; simp [h] at hp
      simp [List.filter, hp, lookup, hk, ih]
    · simp [List.filter, hp, ih]

theorem lookup_del_same (m : SMap α) (k : Nat) : lookup (del m k) k = none :=
  lookup_filter_drop m (fun j => j != k) (by simp)

theorem lookup_del_ne (m : SMap α) {k j : Nat} (h : j ≠ k) : lookup (del m k) j = lookup m j :=
  lookup_filter_keep m (fun j => j != k) (by simpa using h)

theorem lookup_dropKeys (m : SMap α) (p : Nat → Bool) (k : Nat) :
    lookup (dropKeys m p) k = if p k then none else lookup m k := by
  by_cases h : p k = true
  · rw [if_pos h]; exact lookup_filter_drop m (fun j => !p j) (by simp [h])
  · rw [if_neg h]; exact lookup_filter_keep m (fun j => !p j) (by simp [h])

/-- A write with a default reads back. -/
theorem at'_putD_same [DecidableEq α] (m : SMap α) (k : Nat) (d v : α) : at' (putD m k d v) k d = v := by
  unfold at' putD
  split
  · next h => simp [lookup_del_same, h]
  · simp [lookup_put_same]

theorem lookup_putD_ne [DecidableEq α] (m : SMap α) {k j : Nat} (d v : α) (h : j ≠ k) :
    lookup (putD m k d v) j = lookup m j := by
  unfold putD
  split
  · exact lookup_del_ne m h
  · exact lookup_put_ne m v h

theorem at'_putD_ne [DecidableEq α] (m : SMap α) {k j : Nat} (d e v : α) (h : j ≠ k) :
    at' (putD m k d v) j e = at' m j e := by unfold at'; rw [lookup_putD_ne m d v h]

theorem at'_put_same (m : SMap α) (k : Nat) (d v : α) : at' (put m k v) k d = v := by
  unfold at'; rw [lookup_put_same]; rfl

theorem at'_put_ne (m : SMap α) {k j : Nat} (d v : α) (h : j ≠ k) : at' (put m k v) j d = at' m j d := by
  unfold at'; rw [lookup_put_ne m v h]

theorem has_put (m : SMap α) (k j : Nat) (v : α) (h : has m j = true) : has (put m k v) j = true := by
  by_cases hj : j = k
  · subst hj; unfold has; rw [lookup_put_same]; rfl
  · unfold has; rw [lookup_put_ne m v hj]; exact h

/-! ## The canonical form -/

/-- Keys of a canonical map rise: every later key lies above the first. -/
theorem sorted_iff_pairwise (m : SMap α) : sorted m = true ↔ m.Pairwise fun a b => a.1 < b.1 := by
  induction m with
  | nil => simp [sorted]
  | cons e m ih =>
    cases m with
    | nil => simp [sorted]
    | cons f m =>
      obtain ⟨k, v⟩ := e
      obtain ⟨k', v'⟩ := f
      rw [sorted, Bool.and_eq_true, decide_eq_true_eq, ih]
      constructor
      · rintro ⟨h1, h2⟩
        refine List.pairwise_cons.2 ⟨?_, h2⟩
        intro a ha
        rcases List.mem_cons.1 ha with rfl | ha
        · exact h1
        · exact Nat.lt_trans h1 ((List.pairwise_cons.1 h2).1 a ha)
      · intro h
        obtain ⟨h1, h2⟩ := List.pairwise_cons.1 h
        exact ⟨h1 _ (List.mem_cons_self ..), h2⟩

theorem sorted_filter (m : SMap α) (p : Nat × α → Bool) (h : sorted m = true) : sorted (m.filter p) = true := by
  rw [sorted_iff_pairwise] at *
  exact h.filter p

theorem sorted_del (m : SMap α) (k : Nat) (h : sorted m = true) : sorted (del m k) = true := sorted_filter m _ h

theorem sorted_dropKeys (m : SMap α) (p : Nat → Bool) (h : sorted m = true) : sorted (dropKeys m p) = true :=
  sorted_filter m _ h

theorem put_keys (m : SMap α) (k : Nat) (v : α) : ∀ e ∈ put m k v, e.1 = k ∨ ∃ f ∈ m, f.1 = e.1 := by
  induction m with
  | nil => intro e he; simp [put] at he; subst he; exact .inl rfl
  | cons f m ih =>
    obtain ⟨k', v'⟩ := f
    intro e he
    simp only [put] at he
    split at he
    · rcases List.mem_cons.1 he with rfl | he
      · exact .inl rfl
      · exact .inr ⟨e, he, rfl⟩
    · split at he
      · rcases List.mem_cons.1 he with rfl | he
        · exact .inl rfl
        · exact .inr ⟨e, List.mem_cons_of_mem _ he, rfl⟩
      · rcases List.mem_cons.1 he with rfl | he
        · exact .inr ⟨_, List.mem_cons_self .., rfl⟩
        · rcases ih e he with h | ⟨f, hf, h⟩
          · exact .inl h
          · exact .inr ⟨f, List.mem_cons_of_mem _ hf, h⟩

theorem sorted_put (m : SMap α) (k : Nat) (v : α) (h : sorted m = true) : sorted (put m k v) = true := by
  rw [sorted_iff_pairwise] at *
  induction m with
  | nil => simp [put]
  | cons f m ih =>
    obtain ⟨k', v'⟩ := f
    obtain ⟨h1, h2⟩ := List.pairwise_cons.1 h
    simp only [put]
    split
    · next hk =>
      refine List.pairwise_cons.2 ⟨?_, h⟩
      intro e he
      rcases List.mem_cons.1 he with rfl | he
      · exact hk
      · exact Nat.lt_trans hk (h1 e he)
    · split
      · next hk => subst hk; exact List.pairwise_cons.2 ⟨h1, h2⟩
      · next hk1 hk2 =>
        refine List.pairwise_cons.2 ⟨?_, ih h2⟩
        intro e he
        rcases put_keys m k v e he with h3 | ⟨f, hf, h3⟩
        · show k' < e.1
          omega
        · rw [← h3]; exact h1 f hf

theorem sorted_putD [DecidableEq α] (m : SMap α) (k : Nat) (d v : α) (h : sorted m = true) :
    sorted (putD m k d v) = true := by
  unfold putD
  split
  · exact sorted_del m k h
  · exact sorted_put m k v h

/-- A fold whose steps keep the canonical form keeps it. -/
theorem sorted_foldl {β : Type} (l : List β) (f : SMap α → β → SMap α) (m : SMap α)
    (hf : ∀ m b, sorted m = true → sorted (f m b) = true) (h : sorted m = true) : sorted (l.foldl f m) = true := by
  induction l generalizing m with
  | nil => exact h
  | cons b l ih => exact ih (f m b) (hf m b h)

end Sys2Proof.Machine
end

