-- ==== Sys2Proof/Laws/State.lean ====
section
/-! SUPPORT. What each update of the state leaves alone: one lemma for each field that an update does not touch. -/

namespace Sys2Proof.Machine

@[simp] theorem State.set_pending (s : State) (f : Fld) (v : Nat) : (s.set f v).pending = s.pending := rfl
@[simp] theorem State.set_free (s : State) (f : Fld) (v : Nat) : (s.set f v).free = s.free := rfl
@[simp] theorem State.set_aon (s : State) (f : Fld) (v : Nat) : (s.set f v).aon = s.aon := rfl
@[simp] theorem State.set_mgt (s : State) (f : Fld) (v : Nat) : (s.set f v).mgt = s.mgt := rfl
@[simp] theorem State.set_therm (s : State) (f : Fld) (v : Nat) : (s.set f v).therm = s.therm := rfl
@[simp] theorem State.set_clk (s : State) (f : Fld) (v : Nat) : (s.set f v).clk = s.clk := rfl
@[simp] theorem State.set_noc (s : State) (f : Fld) (v : Nat) : (s.set f v).noc = s.noc := rfl
@[simp] theorem State.set_lane (s : State) (f : Fld) (v : Nat) : (s.set f v).lane = s.lane := rfl
@[simp] theorem State.set_link (s : State) (f : Fld) (v : Nat) : (s.set f v).link = s.link := rfl
@[simp] theorem State.set_test (s : State) (f : Fld) (v : Nat) : (s.set f v).test = s.test := rfl
@[simp] theorem State.set_io (s : State) (f : Fld) (v : Nat) : (s.set f v).io = s.io := rfl
@[simp] theorem State.set_fab (s : State) (f : Fld) (v : Nat) : (s.set f v).fab = s.fab := rfl
@[simp] theorem State.set_bm (s : State) (f : Fld) (v : Nat) : (s.set f v).bm = s.bm := rfl
@[simp] theorem State.set_ctx (s : State) (f : Fld) (v : Nat) : (s.set f v).ctx = s.ctx := rfl
@[simp] theorem State.set_cache (s : State) (f : Fld) (v : Nat) : (s.set f v).cache = s.cache := rfl
@[simp] theorem State.set_bulk (s : State) (f : Fld) (v : Nat) : (s.set f v).bulk = s.bulk := rfl
@[simp] theorem State.set_cfg (s : State) (f : Fld) (v : Nat) : (s.set f v).cfg = s.cfg := rfl
@[simp] theorem State.set_sec (s : State) (f : Fld) (v : Nat) : (s.set f v).sec = s.sec := rfl
@[simp] theorem State.set_integ (s : State) (f : Fld) (v : Nat) : (s.set f v).integ = s.integ := rfl
@[simp] theorem State.set_mbox (s : State) (f : Fld) (v : Nat) (k : Nat) : (s.set f v).mbox k = s.mbox k := rfl

@[simp] theorem State.setMbox_pending (s : State) (m : Nat) (b : Mbox) : (s.setMbox m b).pending = s.pending := rfl
@[simp] theorem State.setMbox_regs (s : State) (m : Nat) (b : Mbox) : (s.setMbox m b).regs = s.regs := rfl
@[simp] theorem State.setMbox_free (s : State) (m : Nat) (b : Mbox) : (s.setMbox m b).free = s.free := rfl
@[simp] theorem State.setMbox_aon (s : State) (m : Nat) (b : Mbox) : (s.setMbox m b).aon = s.aon := rfl
@[simp] theorem State.setMbox_therm (s : State) (m : Nat) (b : Mbox) : (s.setMbox m b).therm = s.therm := rfl
@[simp] theorem State.setMbox_clk (s : State) (m : Nat) (b : Mbox) : (s.setMbox m b).clk = s.clk := rfl
@[simp] theorem State.setMbox_noc (s : State) (m : Nat) (b : Mbox) : (s.setMbox m b).noc = s.noc := rfl
@[simp] theorem State.setMbox_lane (s : State) (m : Nat) (b : Mbox) : (s.setMbox m b).lane = s.lane := rfl
@[simp] theorem State.setMbox_link (s : State) (m : Nat) (b : Mbox) : (s.setMbox m b).link = s.link := rfl
@[simp] theorem State.setMbox_test (s : State) (m : Nat) (b : Mbox) : (s.setMbox m b).test = s.test := rfl
@[simp] theorem State.setMbox_io (s : State) (m : Nat) (b : Mbox) : (s.setMbox m b).io = s.io := rfl
@[simp] theorem State.setMbox_fab (s : State) (m : Nat) (b : Mbox) : (s.setMbox m b).fab = s.fab := rfl
@[simp] theorem State.setMbox_bm (s : State) (m : Nat) (b : Mbox) : (s.setMbox m b).bm = s.bm := rfl
@[simp] theorem State.setMbox_ctx (s : State) (m : Nat) (b : Mbox) : (s.setMbox m b).ctx = s.ctx := rfl
@[simp] theorem State.setMbox_cache (s : State) (m : Nat) (b : Mbox) : (s.setMbox m b).cache = s.cache := rfl
@[simp] theorem State.setMbox_bulk (s : State) (m : Nat) (b : Mbox) : (s.setMbox m b).bulk = s.bulk := rfl
@[simp] theorem State.setMbox_cfg (s : State) (m : Nat) (b : Mbox) : (s.setMbox m b).cfg = s.cfg := rfl
@[simp] theorem State.setMbox_sec (s : State) (m : Nat) (b : Mbox) : (s.setMbox m b).sec = s.sec := rfl
@[simp] theorem State.setMbox_integ (s : State) (m : Nat) (b : Mbox) : (s.setMbox m b).integ = s.integ := rfl
@[simp] theorem State.setMbox_get (s : State) (m : Nat) (b : Mbox) (g : Fld) : (s.setMbox m b).get g = s.get g := rfl

@[simp] theorem State.modMbox_pending (s : State) (m : Nat) (f : Mbox → Mbox) : (s.modMbox m f).pending = s.pending := rfl
@[simp] theorem State.modMbox_regs (s : State) (m : Nat) (f : Mbox → Mbox) : (s.modMbox m f).regs = s.regs := rfl
@[simp] theorem State.modMbox_free (s : State) (m : Nat) (f : Mbox → Mbox) : (s.modMbox m f).free = s.free := rfl
@[simp] theorem State.modMbox_aon (s : State) (m : Nat) (f : Mbox → Mbox) : (s.modMbox m f).aon = s.aon := rfl
@[simp] theorem State.modMbox_therm (s : State) (m : Nat) (f : Mbox → Mbox) : (s.modMbox m f).therm = s.therm := rfl
@[simp] theorem State.modMbox_clk (s : State) (m : Nat) (f : Mbox → Mbox) : (s.modMbox m f).clk = s.clk := rfl
@[simp] theorem State.modMbox_noc (s : State) (m : Nat) (f : Mbox → Mbox) : (s.modMbox m f).noc = s.noc := rfl
@[simp] theorem State.modMbox_lane (s : State) (m : Nat) (f : Mbox → Mbox) : (s.modMbox m f).lane = s.lane := rfl
@[simp] theorem State.modMbox_link (s : State) (m : Nat) (f : Mbox → Mbox) : (s.modMbox m f).link = s.link := rfl
@[simp] theorem State.modMbox_test (s : State) (m : Nat) (f : Mbox → Mbox) : (s.modMbox m f).test = s.test := rfl
@[simp] theorem State.modMbox_io (s : State) (m : Nat) (f : Mbox → Mbox) : (s.modMbox m f).io = s.io := rfl
@[simp] theorem State.modMbox_fab (s : State) (m : Nat) (f : Mbox → Mbox) : (s.modMbox m f).fab = s.fab := rfl
@[simp] theorem State.modMbox_bm (s : State) (m : Nat) (f : Mbox → Mbox) : (s.modMbox m f).bm = s.bm := rfl
@[simp] theorem State.modMbox_ctx (s : State) (m : Nat) (f : Mbox → Mbox) : (s.modMbox m f).ctx = s.ctx := rfl
@[simp] theorem State.modMbox_cache (s : State) (m : Nat) (f : Mbox → Mbox) : (s.modMbox m f).cache = s.cache := rfl
@[simp] theorem State.modMbox_bulk (s : State) (m : Nat) (f : Mbox → Mbox) : (s.modMbox m f).bulk = s.bulk := rfl
@[simp] theorem State.modMbox_cfg (s : State) (m : Nat) (f : Mbox → Mbox) : (s.modMbox m f).cfg = s.cfg := rfl
@[simp] theorem State.modMbox_sec (s : State) (m : Nat) (f : Mbox → Mbox) : (s.modMbox m f).sec = s.sec := rfl
@[simp] theorem State.modMbox_integ (s : State) (m : Nat) (f : Mbox → Mbox) : (s.modMbox m f).integ = s.integ := rfl
@[simp] theorem State.modMbox_get (s : State) (m : Nat) (f : Mbox → Mbox) (g : Fld) : (s.modMbox m f).get g = s.get g := rfl

@[simp] theorem State.send_pending (s : State) (o : OutMsg) : (s.send o).pending = s.pending := rfl
@[simp] theorem State.send_regs (s : State) (o : OutMsg) : (s.send o).regs = s.regs := rfl
@[simp] theorem State.send_free (s : State) (o : OutMsg) : (s.send o).free = s.free := rfl
@[simp] theorem State.send_aon (s : State) (o : OutMsg) : (s.send o).aon = s.aon := rfl
@[simp] theorem State.send_therm (s : State) (o : OutMsg) : (s.send o).therm = s.therm := rfl
@[simp] theorem State.send_clk (s : State) (o : OutMsg) : (s.send o).clk = s.clk := rfl
@[simp] theorem State.send_noc (s : State) (o : OutMsg) : (s.send o).noc = s.noc := rfl
@[simp] theorem State.send_lane (s : State) (o : OutMsg) : (s.send o).lane = s.lane := rfl
@[simp] theorem State.send_link (s : State) (o : OutMsg) : (s.send o).link = s.link := rfl
@[simp] theorem State.send_test (s : State) (o : OutMsg) : (s.send o).test = s.test := rfl
@[simp] theorem State.send_io (s : State) (o : OutMsg) : (s.send o).io = s.io := rfl
@[simp] theorem State.send_fab (s : State) (o : OutMsg) : (s.send o).fab = s.fab := rfl
@[simp] theorem State.send_bm (s : State) (o : OutMsg) : (s.send o).bm = s.bm := rfl
@[simp] theorem State.send_ctx (s : State) (o : OutMsg) : (s.send o).ctx = s.ctx := rfl
@[simp] theorem State.send_cache (s : State) (o : OutMsg) : (s.send o).cache = s.cache := rfl
@[simp] theorem State.send_bulk (s : State) (o : OutMsg) : (s.send o).bulk = s.bulk := rfl
@[simp] theorem State.send_cfg (s : State) (o : OutMsg) : (s.send o).cfg = s.cfg := rfl
@[simp] theorem State.send_sec (s : State) (o : OutMsg) : (s.send o).sec = s.sec := rfl
@[simp] theorem State.send_integ (s : State) (o : OutMsg) : (s.send o).integ = s.integ := rfl
@[simp] theorem State.send_get (s : State) (o : OutMsg) (g : Fld) : (s.send o).get g = s.get g := rfl

@[simp] theorem State.useFree_pending (s : State) : (s.useFree).pending = s.pending := rfl
@[simp] theorem State.useFree_regs (s : State) : (s.useFree).regs = s.regs := rfl
@[simp] theorem State.useFree_aon (s : State) : (s.useFree).aon = s.aon := rfl
@[simp] theorem State.useFree_mgt (s : State) : (s.useFree).mgt = s.mgt := rfl
@[simp] theorem State.useFree_therm (s : State) : (s.useFree).therm = s.therm := rfl
@[simp] theorem State.useFree_clk (s : State) : (s.useFree).clk = s.clk := rfl
@[simp] theorem State.useFree_noc (s : State) : (s.useFree).noc = s.noc := rfl
@[simp] theorem State.useFree_lane (s : State) : (s.useFree).lane = s.lane := rfl
@[simp] theorem State.useFree_link (s : State) : (s.useFree).link = s.link := rfl
@[simp] theorem State.useFree_test (s : State) : (s.useFree).test = s.test := rfl
@[simp] theorem State.useFree_io (s : State) : (s.useFree).io = s.io := rfl
@[simp] theorem State.useFree_fab (s : State) : (s.useFree).fab = s.fab := rfl
@[simp] theorem State.useFree_bm (s : State) : (s.useFree).bm = s.bm := rfl
@[simp] theorem State.useFree_ctx (s : State) : (s.useFree).ctx = s.ctx := rfl
@[simp] theorem State.useFree_cache (s : State) : (s.useFree).cache = s.cache := rfl
@[simp] theorem State.useFree_bulk (s : State) : (s.useFree).bulk = s.bulk := rfl
@[simp] theorem State.useFree_cfg (s : State) : (s.useFree).cfg = s.cfg := rfl
@[simp] theorem State.useFree_sec (s : State) : (s.useFree).sec = s.sec := rfl
@[simp] theorem State.useFree_integ (s : State) : (s.useFree).integ = s.integ := rfl
@[simp] theorem State.useFree_get (s : State) (g : Fld) : (s.useFree).get g = s.get g := rfl
@[simp] theorem State.useFree_mbox (s : State) (k : Nat) : (s.useFree).mbox k = s.mbox k := rfl

@[simp] theorem State.begun_pending (s : State) (mb : Nat) : (s.begun mb).pending = s.pending := rfl
@[simp] theorem State.begun_regs (s : State) (mb : Nat) : (s.begun mb).regs = s.regs := rfl
@[simp] theorem State.begun_free (s : State) (mb : Nat) : (s.begun mb).free = s.free := rfl
@[simp] theorem State.begun_aon (s : State) (mb : Nat) : (s.begun mb).aon = s.aon := rfl
@[simp] theorem State.begun_therm (s : State) (mb : Nat) : (s.begun mb).therm = s.therm := rfl
@[simp] theorem State.begun_clk (s : State) (mb : Nat) : (s.begun mb).clk = s.clk := rfl
@[simp] theorem State.begun_noc (s : State) (mb : Nat) : (s.begun mb).noc = s.noc := rfl
@[simp] theorem State.begun_lane (s : State) (mb : Nat) : (s.begun mb).lane = s.lane := rfl
@[simp] theorem State.begun_link (s : State) (mb : Nat) : (s.begun mb).link = s.link := rfl
@[simp] theorem State.begun_test (s : State) (mb : Nat) : (s.begun mb).test = s.test := rfl
@[simp] theorem State.begun_io (s : State) (mb : Nat) : (s.begun mb).io = s.io := rfl
@[simp] theorem State.begun_fab (s : State) (mb : Nat) : (s.begun mb).fab = s.fab := rfl
@[simp] theorem State.begun_bm (s : State) (mb : Nat) : (s.begun mb).bm = s.bm := rfl
@[simp] theorem State.begun_ctx (s : State) (mb : Nat) : (s.begun mb).ctx = s.ctx := rfl
@[simp] theorem State.begun_cache (s : State) (mb : Nat) : (s.begun mb).cache = s.cache := rfl
@[simp] theorem State.begun_bulk (s : State) (mb : Nat) : (s.begun mb).bulk = s.bulk := rfl
@[simp] theorem State.begun_cfg (s : State) (mb : Nat) : (s.begun mb).cfg = s.cfg := rfl
@[simp] theorem State.begun_sec (s : State) (mb : Nat) : (s.begun mb).sec = s.sec := rfl
@[simp] theorem State.begun_integ (s : State) (mb : Nat) : (s.begun mb).integ = s.integ := rfl
@[simp] theorem State.begun_get (s : State) (mb : Nat) (g : Fld) : (s.begun mb).get g = s.get g := rfl

@[simp] theorem State.modAon_pending (s : State) (f : Aon → Aon) : (s.modAon f).pending = s.pending := rfl
@[simp] theorem State.modAon_regs (s : State) (f : Aon → Aon) : (s.modAon f).regs = s.regs := rfl
@[simp] theorem State.modAon_free (s : State) (f : Aon → Aon) : (s.modAon f).free = s.free := rfl
@[simp] theorem State.modAon_mgt (s : State) (f : Aon → Aon) : (s.modAon f).mgt = s.mgt := rfl
@[simp] theorem State.modAon_therm (s : State) (f : Aon → Aon) : (s.modAon f).therm = s.therm := rfl
@[simp] theorem State.modAon_clk (s : State) (f : Aon → Aon) : (s.modAon f).clk = s.clk := rfl
@[simp] theorem State.modAon_noc (s : State) (f : Aon → Aon) : (s.modAon f).noc = s.noc := rfl
@[simp] theorem State.modAon_lane (s : State) (f : Aon → Aon) : (s.modAon f).lane = s.lane := rfl
@[simp] theorem State.modAon_link (s : State) (f : Aon → Aon) : (s.modAon f).link = s.link := rfl
@[simp] theorem State.modAon_test (s : State) (f : Aon → Aon) : (s.modAon f).test = s.test := rfl
@[simp] theorem State.modAon_io (s : State) (f : Aon → Aon) : (s.modAon f).io = s.io := rfl
@[simp] theorem State.modAon_fab (s : State) (f : Aon → Aon) : (s.modAon f).fab = s.fab := rfl
@[simp] theorem State.modAon_bm (s : State) (f : Aon → Aon) : (s.modAon f).bm = s.bm := rfl
@[simp] theorem State.modAon_ctx (s : State) (f : Aon → Aon) : (s.modAon f).ctx = s.ctx := rfl
@[simp] theorem State.modAon_cache (s : State) (f : Aon → Aon) : (s.modAon f).cache = s.cache := rfl
@[simp] theorem State.modAon_bulk (s : State) (f : Aon → Aon) : (s.modAon f).bulk = s.bulk := rfl
@[simp] theorem State.modAon_cfg (s : State) (f : Aon → Aon) : (s.modAon f).cfg = s.cfg := rfl
@[simp] theorem State.modAon_sec (s : State) (f : Aon → Aon) : (s.modAon f).sec = s.sec := rfl
@[simp] theorem State.modAon_integ (s : State) (f : Aon → Aon) : (s.modAon f).integ = s.integ := rfl
@[simp] theorem State.modAon_aon (s : State) (f : Aon → Aon) : (s.modAon f).aon = f s.aon := rfl
@[simp] theorem State.modAon_get (s : State) (f : Aon → Aon) (g : Fld) : (s.modAon f).get g = s.get g := rfl
@[simp] theorem State.modAon_mbox (s : State) (f : Aon → Aon) (k : Nat) : (s.modAon f).mbox k = s.mbox k := rfl

@[simp] theorem State.modTherm_pending (s : State) (f : Therm → Therm) : (s.modTherm f).pending = s.pending := rfl
@[simp] theorem State.modTherm_regs (s : State) (f : Therm → Therm) : (s.modTherm f).regs = s.regs := rfl
@[simp] theorem State.modTherm_free (s : State) (f : Therm → Therm) : (s.modTherm f).free = s.free := rfl
@[simp] theorem State.modTherm_aon (s : State) (f : Therm → Therm) : (s.modTherm f).aon = s.aon := rfl
@[simp] theorem State.modTherm_mgt (s : State) (f : Therm → Therm) : (s.modTherm f).mgt = s.mgt := rfl
@[simp] theorem State.modTherm_clk (s : State) (f : Therm → Therm) : (s.modTherm f).clk = s.clk := rfl
@[simp] theorem State.modTherm_noc (s : State) (f : Therm → Therm) : (s.modTherm f).noc = s.noc := rfl
@[simp] theorem State.modTherm_lane (s : State) (f : Therm → Therm) : (s.modTherm f).lane = s.lane := rfl
@[simp] theorem State.modTherm_link (s : State) (f : Therm → Therm) : (s.modTherm f).link = s.link := rfl
@[simp] theorem State.modTherm_test (s : State) (f : Therm → Therm) : (s.modTherm f).test = s.test := rfl
@[simp] theorem State.modTherm_io (s : State) (f : Therm → Therm) : (s.modTherm f).io = s.io := rfl
@[simp] theorem State.modTherm_fab (s : State) (f : Therm → Therm) : (s.modTherm f).fab = s.fab := rfl
@[simp] theorem State.modTherm_bm (s : State) (f : Therm → Therm) : (s.modTherm f).bm = s.bm := rfl
@[simp] theorem State.modTherm_ctx (s : State) (f : Therm → Therm) : (s.modTherm f).ctx = s.ctx := rfl
@[simp] theorem State.modTherm_cache (s : State) (f : Therm → Therm) : (s.modTherm f).cache = s.cache := rfl
@[simp] theorem State.modTherm_bulk (s : State) (f : Therm → Therm) : (s.modTherm f).bulk = s.bulk := rfl
@[simp] theorem State.modTherm_cfg (s : State) (f : Therm → Therm) : (s.modTherm f).cfg = s.cfg := rfl
@[simp] theorem State.modTherm_sec (s : State) (f : Therm → Therm) : (s.modTherm f).sec = s.sec := rfl
@[simp] theorem State.modTherm_integ (s : State) (f : Therm → Therm) : (s.modTherm f).integ = s.integ := rfl
@[simp] theorem State.modTherm_therm (s : State) (f : Therm → Therm) : (s.modTherm f).therm = f s.therm := rfl
@[simp] theorem State.modTherm_get (s : State) (f : Therm → Therm) (g : Fld) : (s.modTherm f).get g = s.get g := rfl
@[simp] theorem State.modTherm_mbox (s : State) (f : Therm → Therm) (k : Nat) : (s.modTherm f).mbox k = s.mbox k := rfl

@[simp] theorem State.modMgt_pending (s : State) (f : Mgt → Mgt) : (s.modMgt f).pending = s.pending := rfl
@[simp] theorem State.modMgt_regs (s : State) (f : Mgt → Mgt) : (s.modMgt f).regs = s.regs := rfl
@[simp] theorem State.modMgt_free (s : State) (f : Mgt → Mgt) : (s.modMgt f).free = s.free := rfl
@[simp] theorem State.modMgt_aon (s : State) (f : Mgt → Mgt) : (s.modMgt f).aon = s.aon := rfl
@[simp] theorem State.modMgt_therm (s : State) (f : Mgt → Mgt) : (s.modMgt f).therm = s.therm := rfl
@[simp] theorem State.modMgt_clk (s : State) (f : Mgt → Mgt) : (s.modMgt f).clk = s.clk := rfl
@[simp] theorem State.modMgt_noc (s : State) (f : Mgt → Mgt) : (s.modMgt f).noc = s.noc := rfl
@[simp] theorem State.modMgt_lane (s : State) (f : Mgt → Mgt) : (s.modMgt f).lane = s.lane := rfl
@[simp] theorem State.modMgt_link (s : State) (f : Mgt → Mgt) : (s.modMgt f).link = s.link := rfl
@[simp] theorem State.modMgt_test (s : State) (f : Mgt → Mgt) : (s.modMgt f).test = s.test := rfl
@[simp] theorem State.modMgt_io (s : State) (f : Mgt → Mgt) : (s.modMgt f).io = s.io := rfl
@[simp] theorem State.modMgt_fab (s : State) (f : Mgt → Mgt) : (s.modMgt f).fab = s.fab := rfl
@[simp] theorem State.modMgt_bm (s : State) (f : Mgt → Mgt) : (s.modMgt f).bm = s.bm := rfl
@[simp] theorem State.modMgt_ctx (s : State) (f : Mgt → Mgt) : (s.modMgt f).ctx = s.ctx := rfl
@[simp] theorem State.modMgt_cache (s : State) (f : Mgt → Mgt) : (s.modMgt f).cache = s.cache := rfl
@[simp] theorem State.modMgt_bulk (s : State) (f : Mgt → Mgt) : (s.modMgt f).bulk = s.bulk := rfl
@[simp] theorem State.modMgt_cfg (s : State) (f : Mgt → Mgt) : (s.modMgt f).cfg = s.cfg := rfl
@[simp] theorem State.modMgt_sec (s : State) (f : Mgt → Mgt) : (s.modMgt f).sec = s.sec := rfl
@[simp] theorem State.modMgt_integ (s : State) (f : Mgt → Mgt) : (s.modMgt f).integ = s.integ := rfl
@[simp] theorem State.modMgt_mgt (s : State) (f : Mgt → Mgt) : (s.modMgt f).mgt = f s.mgt := rfl
@[simp] theorem State.modMgt_get (s : State) (f : Mgt → Mgt) (g : Fld) : (s.modMgt f).get g = s.get g := rfl

@[simp] theorem State.modBm_pending (s : State) (f : Bm → Bm) : (s.modBm f).pending = s.pending := rfl
@[simp] theorem State.modBm_regs (s : State) (f : Bm → Bm) : (s.modBm f).regs = s.regs := rfl
@[simp] theorem State.modBm_free (s : State) (f : Bm → Bm) : (s.modBm f).free = s.free := rfl
@[simp] theorem State.modBm_aon (s : State) (f : Bm → Bm) : (s.modBm f).aon = s.aon := rfl
@[simp] theorem State.modBm_mgt (s : State) (f : Bm → Bm) : (s.modBm f).mgt = s.mgt := rfl
@[simp] theorem State.modBm_therm (s : State) (f : Bm → Bm) : (s.modBm f).therm = s.therm := rfl
@[simp] theorem State.modBm_clk (s : State) (f : Bm → Bm) : (s.modBm f).clk = s.clk := rfl
@[simp] theorem State.modBm_noc (s : State) (f : Bm → Bm) : (s.modBm f).noc = s.noc := rfl
@[simp] theorem State.modBm_lane (s : State) (f : Bm → Bm) : (s.modBm f).lane = s.lane := rfl
@[simp] theorem State.modBm_link (s : State) (f : Bm → Bm) : (s.modBm f).link = s.link := rfl
@[simp] theorem State.modBm_test (s : State) (f : Bm → Bm) : (s.modBm f).test = s.test := rfl
@[simp] theorem State.modBm_io (s : State) (f : Bm → Bm) : (s.modBm f).io = s.io := rfl
@[simp] theorem State.modBm_fab (s : State) (f : Bm → Bm) : (s.modBm f).fab = s.fab := rfl
@[simp] theorem State.modBm_ctx (s : State) (f : Bm → Bm) : (s.modBm f).ctx = s.ctx := rfl
@[simp] theorem State.modBm_cache (s : State) (f : Bm → Bm) : (s.modBm f).cache = s.cache := rfl
@[simp] theorem State.modBm_bulk (s : State) (f : Bm → Bm) : (s.modBm f).bulk = s.bulk := rfl
@[simp] theorem State.modBm_cfg (s : State) (f : Bm → Bm) : (s.modBm f).cfg = s.cfg := rfl
@[simp] theorem State.modBm_sec (s : State) (f : Bm → Bm) : (s.modBm f).sec = s.sec := rfl
@[simp] theorem State.modBm_integ (s : State) (f : Bm → Bm) : (s.modBm f).integ = s.integ := rfl
@[simp] theorem State.modBm_bm (s : State) (f : Bm → Bm) : (s.modBm f).bm = f s.bm := rfl
@[simp] theorem State.modBm_get (s : State) (f : Bm → Bm) (g : Fld) : (s.modBm f).get g = s.get g := rfl
@[simp] theorem State.modBm_mbox (s : State) (f : Bm → Bm) (k : Nat) : (s.modBm f).mbox k = s.mbox k := rfl

@[simp] theorem State.modCache_pending (s : State) (f : Cache → Cache) : (s.modCache f).pending = s.pending := rfl
@[simp] theorem State.modCache_regs (s : State) (f : Cache → Cache) : (s.modCache f).regs = s.regs := rfl
@[simp] theorem State.modCache_free (s : State) (f : Cache → Cache) : (s.modCache f).free = s.free := rfl
@[simp] theorem State.modCache_aon (s : State) (f : Cache → Cache) : (s.modCache f).aon = s.aon := rfl
@[simp] theorem State.modCache_mgt (s : State) (f : Cache → Cache) : (s.modCache f).mgt = s.mgt := rfl
@[simp] theorem State.modCache_therm (s : State) (f : Cache → Cache) : (s.modCache f).therm = s.therm := rfl
@[simp] theorem State.modCache_clk (s : State) (f : Cache → Cache) : (s.modCache f).clk = s.clk := rfl
@[simp] theorem State.modCache_noc (s : State) (f : Cache → Cache) : (s.modCache f).noc = s.noc := rfl
@[simp] theorem State.modCache_lane (s : State) (f : Cache → Cache) : (s.modCache f).lane = s.lane := rfl
@[simp] theorem State.modCache_link (s : State) (f : Cache → Cache) : (s.modCache f).link = s.link := rfl
@[simp] theorem State.modCache_test (s : State) (f : Cache → Cache) : (s.modCache f).test = s.test := rfl
@[simp] theorem State.modCache_io (s : State) (f : Cache → Cache) : (s.modCache f).io = s.io := rfl
@[simp] theorem State.modCache_fab (s : State) (f : Cache → Cache) : (s.modCache f).fab = s.fab := rfl
@[simp] theorem State.modCache_bm (s : State) (f : Cache → Cache) : (s.modCache f).bm = s.bm := rfl
@[simp] theorem State.modCache_ctx (s : State) (f : Cache → Cache) : (s.modCache f).ctx = s.ctx := rfl
@[simp] theorem State.modCache_bulk (s : State) (f : Cache → Cache) : (s.modCache f).bulk = s.bulk := rfl
@[simp] theorem State.modCache_cfg (s : State) (f : Cache → Cache) : (s.modCache f).cfg = s.cfg := rfl
@[simp] theorem State.modCache_sec (s : State) (f : Cache → Cache) : (s.modCache f).sec = s.sec := rfl
@[simp] theorem State.modCache_integ (s : State) (f : Cache → Cache) : (s.modCache f).integ = s.integ := rfl
@[simp] theorem State.modCache_cache (s : State) (f : Cache → Cache) : (s.modCache f).cache = f s.cache := rfl
@[simp] theorem State.modCache_get (s : State) (f : Cache → Cache) (g : Fld) : (s.modCache f).get g = s.get g := rfl
@[simp] theorem State.modCache_mbox (s : State) (f : Cache → Cache) (k : Nat) : (s.modCache f).mbox k = s.mbox k := rfl

@[simp] theorem State.modBulk_pending (s : State) (f : Bulk → Bulk) : (s.modBulk f).pending = s.pending := rfl
@[simp] theorem State.modBulk_regs (s : State) (f : Bulk → Bulk) : (s.modBulk f).regs = s.regs := rfl
@[simp] theorem State.modBulk_free (s : State) (f : Bulk → Bulk) : (s.modBulk f).free = s.free := rfl
@[simp] theorem State.modBulk_aon (s : State) (f : Bulk → Bulk) : (s.modBulk f).aon = s.aon := rfl
@[simp] theorem State.modBulk_mgt (s : State) (f : Bulk → Bulk) : (s.modBulk f).mgt = s.mgt := rfl
@[simp] theorem State.modBulk_therm (s : State) (f : Bulk → Bulk) : (s.modBulk f).therm = s.therm := rfl
@[simp] theorem State.modBulk_clk (s : State) (f : Bulk → Bulk) : (s.modBulk f).clk = s.clk := rfl
@[simp] theorem State.modBulk_noc (s : State) (f : Bulk → Bulk) : (s.modBulk f).noc = s.noc := rfl
@[simp] theorem State.modBulk_lane (s : State) (f : Bulk → Bulk) : (s.modBulk f).lane = s.lane := rfl
@[simp] theorem State.modBulk_link (s : State) (f : Bulk → Bulk) : (s.modBulk f).link = s.link := rfl
@[simp] theorem State.modBulk_test (s : State) (f : Bulk → Bulk) : (s.modBulk f).test = s.test := rfl
@[simp] theorem State.modBulk_io (s : State) (f : Bulk → Bulk) : (s.modBulk f).io = s.io := rfl
@[simp] theorem State.modBulk_fab (s : State) (f : Bulk → Bulk) : (s.modBulk f).fab = s.fab := rfl
@[simp] theorem State.modBulk_bm (s : State) (f : Bulk → Bulk) : (s.modBulk f).bm = s.bm := rfl
@[simp] theorem State.modBulk_ctx (s : State) (f : Bulk → Bulk) : (s.modBulk f).ctx = s.ctx := rfl
@[simp] theorem State.modBulk_cache (s : State) (f : Bulk → Bulk) : (s.modBulk f).cache = s.cache := rfl
@[simp] theorem State.modBulk_cfg (s : State) (f : Bulk → Bulk) : (s.modBulk f).cfg = s.cfg := rfl
@[simp] theorem State.modBulk_sec (s : State) (f : Bulk → Bulk) : (s.modBulk f).sec = s.sec := rfl
@[simp] theorem State.modBulk_integ (s : State) (f : Bulk → Bulk) : (s.modBulk f).integ = s.integ := rfl
@[simp] theorem State.modBulk_bulk (s : State) (f : Bulk → Bulk) : (s.modBulk f).bulk = f s.bulk := rfl
@[simp] theorem State.modBulk_get (s : State) (f : Bulk → Bulk) (g : Fld) : (s.modBulk f).get g = s.get g := rfl
@[simp] theorem State.modBulk_mbox (s : State) (f : Bulk → Bulk) (k : Nat) : (s.modBulk f).mbox k = s.mbox k := rfl

@[simp] theorem State.modFab_pending (s : State) (f : Fab → Fab) : (s.modFab f).pending = s.pending := rfl
@[simp] theorem State.modFab_regs (s : State) (f : Fab → Fab) : (s.modFab f).regs = s.regs := rfl
@[simp] theorem State.modFab_free (s : State) (f : Fab → Fab) : (s.modFab f).free = s.free := rfl
@[simp] theorem State.modFab_aon (s : State) (f : Fab → Fab) : (s.modFab f).aon = s.aon := rfl
@[simp] theorem State.modFab_mgt (s : State) (f : Fab → Fab) : (s.modFab f).mgt = s.mgt := rfl
@[simp] theorem State.modFab_therm (s : State) (f : Fab → Fab) : (s.modFab f).therm = s.therm := rfl
@[simp] theorem State.modFab_clk (s : State) (f : Fab → Fab) : (s.modFab f).clk = s.clk := rfl
@[simp] theorem State.modFab_noc (s : State) (f : Fab → Fab) : (s.modFab f).noc = s.noc := rfl
@[simp] theorem State.modFab_lane (s : State) (f : Fab → Fab) : (s.modFab f).lane = s.lane := rfl
@[simp] theorem State.modFab_link (s : State) (f : Fab → Fab) : (s.modFab f).link = s.link := rfl
@[simp] theorem State.modFab_test (s : State) (f : Fab → Fab) : (s.modFab f).test = s.test := rfl
@[simp] theorem State.modFab_io (s : State) (f : Fab → Fab) : (s.modFab f).io = s.io := rfl
@[simp] theorem State.modFab_bm (s : State) (f : Fab → Fab) : (s.modFab f).bm = s.bm := rfl
@[simp] theorem State.modFab_ctx (s : State) (f : Fab → Fab) : (s.modFab f).ctx = s.ctx := rfl
@[simp] theorem State.modFab_cache (s : State) (f : Fab → Fab) : (s.modFab f).cache = s.cache := rfl
@[simp] theorem State.modFab_bulk (s : State) (f : Fab → Fab) : (s.modFab f).bulk = s.bulk := rfl
@[simp] theorem State.modFab_cfg (s : State) (f : Fab → Fab) : (s.modFab f).cfg = s.cfg := rfl
@[simp] theorem State.modFab_sec (s : State) (f : Fab → Fab) : (s.modFab f).sec = s.sec := rfl
@[simp] theorem State.modFab_integ (s : State) (f : Fab → Fab) : (s.modFab f).integ = s.integ := rfl
@[simp] theorem State.modFab_fab (s : State) (f : Fab → Fab) : (s.modFab f).fab = f s.fab := rfl
@[simp] theorem State.modFab_get (s : State) (f : Fab → Fab) (g : Fld) : (s.modFab f).get g = s.get g := rfl
@[simp] theorem State.modFab_mbox (s : State) (f : Fab → Fab) (k : Nat) : (s.modFab f).mbox k = s.mbox k := rfl

@[simp] theorem State.modCfg_pending (s : State) (f : Cfg → Cfg) : (s.modCfg f).pending = s.pending := rfl
@[simp] theorem State.modCfg_regs (s : State) (f : Cfg → Cfg) : (s.modCfg f).regs = s.regs := rfl
@[simp] theorem State.modCfg_free (s : State) (f : Cfg → Cfg) : (s.modCfg f).free = s.free := rfl
@[simp] theorem State.modCfg_aon (s : State) (f : Cfg → Cfg) : (s.modCfg f).aon = s.aon := rfl
@[simp] theorem State.modCfg_mgt (s : State) (f : Cfg → Cfg) : (s.modCfg f).mgt = s.mgt := rfl
@[simp] theorem State.modCfg_therm (s : State) (f : Cfg → Cfg) : (s.modCfg f).therm = s.therm := rfl
@[simp] theorem State.modCfg_clk (s : State) (f : Cfg → Cfg) : (s.modCfg f).clk = s.clk := rfl
@[simp] theorem State.modCfg_noc (s : State) (f : Cfg → Cfg) : (s.modCfg f).noc = s.noc := rfl
@[simp] theorem State.modCfg_lane (s : State) (f : Cfg → Cfg) : (s.modCfg f).lane = s.lane := rfl
@[simp] theorem State.modCfg_link (s : State) (f : Cfg → Cfg) : (s.modCfg f).link = s.link := rfl
@[simp] theorem State.modCfg_test (s : State) (f : Cfg → Cfg) : (s.modCfg f).test = s.test := rfl
@[simp] theorem State.modCfg_io (s : State) (f : Cfg → Cfg) : (s.modCfg f).io = s.io := rfl
@[simp] theorem State.modCfg_fab (s : State) (f : Cfg → Cfg) : (s.modCfg f).fab = s.fab := rfl
@[simp] theorem State.modCfg_bm (s : State) (f : Cfg → Cfg) : (s.modCfg f).bm = s.bm := rfl
@[simp] theorem State.modCfg_ctx (s : State) (f : Cfg → Cfg) : (s.modCfg f).ctx = s.ctx := rfl
@[simp] theorem State.modCfg_cache (s : State) (f : Cfg → Cfg) : (s.modCfg f).cache = s.cache := rfl
@[simp] theorem State.modCfg_bulk (s : State) (f : Cfg → Cfg) : (s.modCfg f).bulk = s.bulk := rfl
@[simp] theorem State.modCfg_sec (s : State) (f : Cfg → Cfg) : (s.modCfg f).sec = s.sec := rfl
@[simp] theorem State.modCfg_integ (s : State) (f : Cfg → Cfg) : (s.modCfg f).integ = s.integ := rfl
@[simp] theorem State.modCfg_cfg (s : State) (f : Cfg → Cfg) : (s.modCfg f).cfg = f s.cfg := rfl
@[simp] theorem State.modCfg_get (s : State) (f : Cfg → Cfg) (g : Fld) : (s.modCfg f).get g = s.get g := rfl
@[simp] theorem State.modCfg_mbox (s : State) (f : Cfg → Cfg) (k : Nat) : (s.modCfg f).mbox k = s.mbox k := rfl

@[simp] theorem State.modIo_pending (s : State) (f : Io → Io) : (s.modIo f).pending = s.pending := rfl
@[simp] theorem State.modIo_regs (s : State) (f : Io → Io) : (s.modIo f).regs = s.regs := rfl
@[simp] theorem State.modIo_free (s : State) (f : Io → Io) : (s.modIo f).free = s.free := rfl
@[simp] theorem State.modIo_aon (s : State) (f : Io → Io) : (s.modIo f).aon = s.aon := rfl
@[simp] theorem State.modIo_mgt (s : State) (f : Io → Io) : (s.modIo f).mgt = s.mgt := rfl
@[simp] theorem State.modIo_therm (s : State) (f : Io → Io) : (s.modIo f).therm = s.therm := rfl
@[simp] theorem State.modIo_clk (s : State) (f : Io → Io) : (s.modIo f).clk = s.clk := rfl
@[simp] theorem State.modIo_noc (s : State) (f : Io → Io) : (s.modIo f).noc = s.noc := rfl
@[simp] theorem State.modIo_lane (s : State) (f : Io → Io) : (s.modIo f).lane = s.lane := rfl
@[simp] theorem State.modIo_link (s : State) (f : Io → Io) : (s.modIo f).link = s.link := rfl
@[simp] theorem State.modIo_test (s : State) (f : Io → Io) : (s.modIo f).test = s.test := rfl
@[simp] theorem State.modIo_fab (s : State) (f : Io → Io) : (s.modIo f).fab = s.fab := rfl
@[simp] theorem State.modIo_bm (s : State) (f : Io → Io) : (s.modIo f).bm = s.bm := rfl
@[simp] theorem State.modIo_ctx (s : State) (f : Io → Io) : (s.modIo f).ctx = s.ctx := rfl
@[simp] theorem State.modIo_cache (s : State) (f : Io → Io) : (s.modIo f).cache = s.cache := rfl
@[simp] theorem State.modIo_bulk (s : State) (f : Io → Io) : (s.modIo f).bulk = s.bulk := rfl
@[simp] theorem State.modIo_cfg (s : State) (f : Io → Io) : (s.modIo f).cfg = s.cfg := rfl
@[simp] theorem State.modIo_sec (s : State) (f : Io → Io) : (s.modIo f).sec = s.sec := rfl
@[simp] theorem State.modIo_integ (s : State) (f : Io → Io) : (s.modIo f).integ = s.integ := rfl
@[simp] theorem State.modIo_io (s : State) (f : Io → Io) : (s.modIo f).io = f s.io := rfl
@[simp] theorem State.modIo_get (s : State) (f : Io → Io) (g : Fld) : (s.modIo f).get g = s.get g := rfl
@[simp] theorem State.modIo_mbox (s : State) (f : Io → Io) (k : Nat) : (s.modIo f).mbox k = s.mbox k := rfl

@[simp] theorem State.modNoc_pending (s : State) (f : Noc → Noc) : (s.modNoc f).pending = s.pending := rfl
@[simp] theorem State.modNoc_regs (s : State) (f : Noc → Noc) : (s.modNoc f).regs = s.regs := rfl
@[simp] theorem State.modNoc_free (s : State) (f : Noc → Noc) : (s.modNoc f).free = s.free := rfl
@[simp] theorem State.modNoc_aon (s : State) (f : Noc → Noc) : (s.modNoc f).aon = s.aon := rfl
@[simp] theorem State.modNoc_mgt (s : State) (f : Noc → Noc) : (s.modNoc f).mgt = s.mgt := rfl
@[simp] theorem State.modNoc_therm (s : State) (f : Noc → Noc) : (s.modNoc f).therm = s.therm := rfl
@[simp] theorem State.modNoc_clk (s : State) (f : Noc → Noc) : (s.modNoc f).clk = s.clk := rfl
@[simp] theorem State.modNoc_lane (s : State) (f : Noc → Noc) : (s.modNoc f).lane = s.lane := rfl
@[simp] theorem State.modNoc_link (s : State) (f : Noc → Noc) : (s.modNoc f).link = s.link := rfl
@[simp] theorem State.modNoc_test (s : State) (f : Noc → Noc) : (s.modNoc f).test = s.test := rfl
@[simp] theorem State.modNoc_io (s : State) (f : Noc → Noc) : (s.modNoc f).io = s.io := rfl
@[simp] theorem State.modNoc_fab (s : State) (f : Noc → Noc) : (s.modNoc f).fab = s.fab := rfl
@[simp] theorem State.modNoc_bm (s : State) (f : Noc → Noc) : (s.modNoc f).bm = s.bm := rfl
@[simp] theorem State.modNoc_ctx (s : State) (f : Noc → Noc) : (s.modNoc f).ctx = s.ctx := rfl
@[simp] theorem State.modNoc_cache (s : State) (f : Noc → Noc) : (s.modNoc f).cache = s.cache := rfl
@[simp] theorem State.modNoc_bulk (s : State) (f : Noc → Noc) : (s.modNoc f).bulk = s.bulk := rfl
@[simp] theorem State.modNoc_cfg (s : State) (f : Noc → Noc) : (s.modNoc f).cfg = s.cfg := rfl
@[simp] theorem State.modNoc_sec (s : State) (f : Noc → Noc) : (s.modNoc f).sec = s.sec := rfl
@[simp] theorem State.modNoc_integ (s : State) (f : Noc → Noc) : (s.modNoc f).integ = s.integ := rfl
@[simp] theorem State.modNoc_noc (s : State) (f : Noc → Noc) : (s.modNoc f).noc = f s.noc := rfl
@[simp] theorem State.modNoc_get (s : State) (f : Noc → Noc) (g : Fld) : (s.modNoc f).get g = s.get g := rfl
@[simp] theorem State.modNoc_mbox (s : State) (f : Noc → Noc) (k : Nat) : (s.modNoc f).mbox k = s.mbox k := rfl

@[simp] theorem State.modLane_pending (s : State) (l : Nat) (f : LaneSt → LaneSt) : (s.modLane l f).pending = s.pending := rfl
@[simp] theorem State.modLane_regs (s : State) (l : Nat) (f : LaneSt → LaneSt) : (s.modLane l f).regs = s.regs := rfl
@[simp] theorem State.modLane_free (s : State) (l : Nat) (f : LaneSt → LaneSt) : (s.modLane l f).free = s.free := rfl
@[simp] theorem State.modLane_aon (s : State) (l : Nat) (f : LaneSt → LaneSt) : (s.modLane l f).aon = s.aon := rfl
@[simp] theorem State.modLane_mgt (s : State) (l : Nat) (f : LaneSt → LaneSt) : (s.modLane l f).mgt = s.mgt := rfl
@[simp] theorem State.modLane_therm (s : State) (l : Nat) (f : LaneSt → LaneSt) : (s.modLane l f).therm = s.therm := rfl
@[simp] theorem State.modLane_clk (s : State) (l : Nat) (f : LaneSt → LaneSt) : (s.modLane l f).clk = s.clk := rfl
@[simp] theorem State.modLane_noc (s : State) (l : Nat) (f : LaneSt → LaneSt) : (s.modLane l f).noc = s.noc := rfl
@[simp] theorem State.modLane_link (s : State) (l : Nat) (f : LaneSt → LaneSt) : (s.modLane l f).link = s.link := rfl
@[simp] theorem State.modLane_test (s : State) (l : Nat) (f : LaneSt → LaneSt) : (s.modLane l f).test = s.test := rfl
@[simp] theorem State.modLane_io (s : State) (l : Nat) (f : LaneSt → LaneSt) : (s.modLane l f).io = s.io := rfl
@[simp] theorem State.modLane_fab (s : State) (l : Nat) (f : LaneSt → LaneSt) : (s.modLane l f).fab = s.fab := rfl
@[simp] theorem State.modLane_bm (s : State) (l : Nat) (f : LaneSt → LaneSt) : (s.modLane l f).bm = s.bm := rfl
@[simp] theorem State.modLane_ctx (s : State) (l : Nat) (f : LaneSt → LaneSt) : (s.modLane l f).ctx = s.ctx := rfl
@[simp] theorem State.modLane_cache (s : State) (l : Nat) (f : LaneSt → LaneSt) : (s.modLane l f).cache = s.cache := rfl
@[simp] theorem State.modLane_bulk (s : State) (l : Nat) (f : LaneSt → LaneSt) : (s.modLane l f).bulk = s.bulk := rfl
@[simp] theorem State.modLane_cfg (s : State) (l : Nat) (f : LaneSt → LaneSt) : (s.modLane l f).cfg = s.cfg := rfl
@[simp] theorem State.modLane_sec (s : State) (l : Nat) (f : LaneSt → LaneSt) : (s.modLane l f).sec = s.sec := rfl
@[simp] theorem State.modLane_integ (s : State) (l : Nat) (f : LaneSt → LaneSt) : (s.modLane l f).integ = s.integ := rfl
@[simp] theorem State.modLane_get (s : State) (l : Nat) (f : LaneSt → LaneSt) (g : Fld) : (s.modLane l f).get g = s.get g := rfl
@[simp] theorem State.modLane_mbox (s : State) (l : Nat) (f : LaneSt → LaneSt) (k : Nat) : (s.modLane l f).mbox k = s.mbox k := rfl

@[simp] theorem State.modBdl_pending (s : State) (b : Nat) (f : Bundle → Bundle) : (s.modBdl b f).pending = s.pending := rfl
@[simp] theorem State.modBdl_regs (s : State) (b : Nat) (f : Bundle → Bundle) : (s.modBdl b f).regs = s.regs := rfl
@[simp] theorem State.modBdl_free (s : State) (b : Nat) (f : Bundle → Bundle) : (s.modBdl b f).free = s.free := rfl
@[simp] theorem State.modBdl_aon (s : State) (b : Nat) (f : Bundle → Bundle) : (s.modBdl b f).aon = s.aon := rfl
@[simp] theorem State.modBdl_mgt (s : State) (b : Nat) (f : Bundle → Bundle) : (s.modBdl b f).mgt = s.mgt := rfl
@[simp] theorem State.modBdl_therm (s : State) (b : Nat) (f : Bundle → Bundle) : (s.modBdl b f).therm = s.therm := rfl
@[simp] theorem State.modBdl_clk (s : State) (b : Nat) (f : Bundle → Bundle) : (s.modBdl b f).clk = s.clk := rfl
@[simp] theorem State.modBdl_noc (s : State) (b : Nat) (f : Bundle → Bundle) : (s.modBdl b f).noc = s.noc := rfl
@[simp] theorem State.modBdl_lane (s : State) (b : Nat) (f : Bundle → Bundle) : (s.modBdl b f).lane = s.lane := rfl
@[simp] theorem State.modBdl_test (s : State) (b : Nat) (f : Bundle → Bundle) : (s.modBdl b f).test = s.test := rfl
@[simp] theorem State.modBdl_io (s : State) (b : Nat) (f : Bundle → Bundle) : (s.modBdl b f).io = s.io := rfl
@[simp] theorem State.modBdl_fab (s : State) (b : Nat) (f : Bundle → Bundle) : (s.modBdl b f).fab = s.fab := rfl
@[simp] theorem State.modBdl_bm (s : State) (b : Nat) (f : Bundle → Bundle) : (s.modBdl b f).bm = s.bm := rfl
@[simp] theorem State.modBdl_ctx (s : State) (b : Nat) (f : Bundle → Bundle) : (s.modBdl b f).ctx = s.ctx := rfl
@[simp] theorem State.modBdl_cache (s : State) (b : Nat) (f : Bundle → Bundle) : (s.modBdl b f).cache = s.cache := rfl
@[simp] theorem State.modBdl_bulk (s : State) (b : Nat) (f : Bundle → Bundle) : (s.modBdl b f).bulk = s.bulk := rfl
@[simp] theorem State.modBdl_cfg (s : State) (b : Nat) (f : Bundle → Bundle) : (s.modBdl b f).cfg = s.cfg := rfl
@[simp] theorem State.modBdl_sec (s : State) (b : Nat) (f : Bundle → Bundle) : (s.modBdl b f).sec = s.sec := rfl
@[simp] theorem State.modBdl_integ (s : State) (b : Nat) (f : Bundle → Bundle) : (s.modBdl b f).integ = s.integ := rfl
@[simp] theorem State.modBdl_get (s : State) (b : Nat) (f : Bundle → Bundle) (g : Fld) : (s.modBdl b f).get g = s.get g := rfl
@[simp] theorem State.modBdl_mbox (s : State) (b : Nat) (f : Bundle → Bundle) (k : Nat) : (s.modBdl b f).mbox k = s.mbox k := rfl

@[simp] theorem State.modLink_pending (s : State) (f : Link → Link) : (s.modLink f).pending = s.pending := rfl
@[simp] theorem State.modLink_regs (s : State) (f : Link → Link) : (s.modLink f).regs = s.regs := rfl
@[simp] theorem State.modLink_free (s : State) (f : Link → Link) : (s.modLink f).free = s.free := rfl
@[simp] theorem State.modLink_aon (s : State) (f : Link → Link) : (s.modLink f).aon = s.aon := rfl
@[simp] theorem State.modLink_mgt (s : State) (f : Link → Link) : (s.modLink f).mgt = s.mgt := rfl
@[simp] theorem State.modLink_therm (s : State) (f : Link → Link) : (s.modLink f).therm = s.therm := rfl
@[simp] theorem State.modLink_clk (s : State) (f : Link → Link) : (s.modLink f).clk = s.clk := rfl
@[simp] theorem State.modLink_noc (s : State) (f : Link → Link) : (s.modLink f).noc = s.noc := rfl
@[simp] theorem State.modLink_lane (s : State) (f : Link → Link) : (s.modLink f).lane = s.lane := rfl
@[simp] theorem State.modLink_test (s : State) (f : Link → Link) : (s.modLink f).test = s.test := rfl
@[simp] theorem State.modLink_io (s : State) (f : Link → Link) : (s.modLink f).io = s.io := rfl
@[simp] theorem State.modLink_fab (s : State) (f : Link → Link) : (s.modLink f).fab = s.fab := rfl
@[simp] theorem State.modLink_bm (s : State) (f : Link → Link) : (s.modLink f).bm = s.bm := rfl
@[simp] theorem State.modLink_ctx (s : State) (f : Link → Link) : (s.modLink f).ctx = s.ctx := rfl
@[simp] theorem State.modLink_cache (s : State) (f : Link → Link) : (s.modLink f).cache = s.cache := rfl
@[simp] theorem State.modLink_bulk (s : State) (f : Link → Link) : (s.modLink f).bulk = s.bulk := rfl
@[simp] theorem State.modLink_cfg (s : State) (f : Link → Link) : (s.modLink f).cfg = s.cfg := rfl
@[simp] theorem State.modLink_sec (s : State) (f : Link → Link) : (s.modLink f).sec = s.sec := rfl
@[simp] theorem State.modLink_integ (s : State) (f : Link → Link) : (s.modLink f).integ = s.integ := rfl
@[simp] theorem State.modLink_link (s : State) (f : Link → Link) : (s.modLink f).link = f s.link := rfl
@[simp] theorem State.modLink_get (s : State) (f : Link → Link) (g : Fld) : (s.modLink f).get g = s.get g := rfl
@[simp] theorem State.modLink_mbox (s : State) (f : Link → Link) (k : Nat) : (s.modLink f).mbox k = s.mbox k := rfl

@[simp] theorem State.modSec_pending (s : State) (f : Sec → Sec) : (s.modSec f).pending = s.pending := rfl
@[simp] theorem State.modSec_regs (s : State) (f : Sec → Sec) : (s.modSec f).regs = s.regs := rfl
@[simp] theorem State.modSec_free (s : State) (f : Sec → Sec) : (s.modSec f).free = s.free := rfl
@[simp] theorem State.modSec_aon (s : State) (f : Sec → Sec) : (s.modSec f).aon = s.aon := rfl
@[simp] theorem State.modSec_mgt (s : State) (f : Sec → Sec) : (s.modSec f).mgt = s.mgt := rfl
@[simp] theorem State.modSec_therm (s : State) (f : Sec → Sec) : (s.modSec f).therm = s.therm := rfl
@[simp] theorem State.modSec_clk (s : State) (f : Sec → Sec) : (s.modSec f).clk = s.clk := rfl
@[simp] theorem State.modSec_noc (s : State) (f : Sec → Sec) : (s.modSec f).noc = s.noc := rfl
@[simp] theorem State.modSec_lane (s : State) (f : Sec → Sec) : (s.modSec f).lane = s.lane := rfl
@[simp] theorem State.modSec_link (s : State) (f : Sec → Sec) : (s.modSec f).link = s.link := rfl
@[simp] theorem State.modSec_test (s : State) (f : Sec → Sec) : (s.modSec f).test = s.test := rfl
@[simp] theorem State.modSec_io (s : State) (f : Sec → Sec) : (s.modSec f).io = s.io := rfl
@[simp] theorem State.modSec_fab (s : State) (f : Sec → Sec) : (s.modSec f).fab = s.fab := rfl
@[simp] theorem State.modSec_bm (s : State) (f : Sec → Sec) : (s.modSec f).bm = s.bm := rfl
@[simp] theorem State.modSec_ctx (s : State) (f : Sec → Sec) : (s.modSec f).ctx = s.ctx := rfl
@[simp] theorem State.modSec_cache (s : State) (f : Sec → Sec) : (s.modSec f).cache = s.cache := rfl
@[simp] theorem State.modSec_bulk (s : State) (f : Sec → Sec) : (s.modSec f).bulk = s.bulk := rfl
@[simp] theorem State.modSec_cfg (s : State) (f : Sec → Sec) : (s.modSec f).cfg = s.cfg := rfl
@[simp] theorem State.modSec_integ (s : State) (f : Sec → Sec) : (s.modSec f).integ = s.integ := rfl
@[simp] theorem State.modSec_sec (s : State) (f : Sec → Sec) : (s.modSec f).sec = f s.sec := rfl
@[simp] theorem State.modSec_get (s : State) (f : Sec → Sec) (g : Fld) : (s.modSec f).get g = s.get g := rfl
@[simp] theorem State.modSec_mbox (s : State) (f : Sec → Sec) (k : Nat) : (s.modSec f).mbox k = s.mbox k := rfl

@[simp] theorem State.modInteg_pending (s : State) (f : Integ → Integ) : (s.modInteg f).pending = s.pending := rfl
@[simp] theorem State.modInteg_regs (s : State) (f : Integ → Integ) : (s.modInteg f).regs = s.regs := rfl
@[simp] theorem State.modInteg_free (s : State) (f : Integ → Integ) : (s.modInteg f).free = s.free := rfl
@[simp] theorem State.modInteg_aon (s : State) (f : Integ → Integ) : (s.modInteg f).aon = s.aon := rfl
@[simp] theorem State.modInteg_mgt (s : State) (f : Integ → Integ) : (s.modInteg f).mgt = s.mgt := rfl
@[simp] theorem State.modInteg_therm (s : State) (f : Integ → Integ) : (s.modInteg f).therm = s.therm := rfl
@[simp] theorem State.modInteg_clk (s : State) (f : Integ → Integ) : (s.modInteg f).clk = s.clk := rfl
@[simp] theorem State.modInteg_noc (s : State) (f : Integ → Integ) : (s.modInteg f).noc = s.noc := rfl
@[simp] theorem State.modInteg_lane (s : State) (f : Integ → Integ) : (s.modInteg f).lane = s.lane := rfl
@[simp] theorem State.modInteg_link (s : State) (f : Integ → Integ) : (s.modInteg f).link = s.link := rfl
@[simp] theorem State.modInteg_test (s : State) (f : Integ → Integ) : (s.modInteg f).test = s.test := rfl
@[simp] theorem State.modInteg_io (s : State) (f : Integ → Integ) : (s.modInteg f).io = s.io := rfl
@[simp] theorem State.modInteg_fab (s : State) (f : Integ → Integ) : (s.modInteg f).fab = s.fab := rfl
@[simp] theorem State.modInteg_bm (s : State) (f : Integ → Integ) : (s.modInteg f).bm = s.bm := rfl
@[simp] theorem State.modInteg_ctx (s : State) (f : Integ → Integ) : (s.modInteg f).ctx = s.ctx := rfl
@[simp] theorem State.modInteg_cache (s : State) (f : Integ → Integ) : (s.modInteg f).cache = s.cache := rfl
@[simp] theorem State.modInteg_bulk (s : State) (f : Integ → Integ) : (s.modInteg f).bulk = s.bulk := rfl
@[simp] theorem State.modInteg_cfg (s : State) (f : Integ → Integ) : (s.modInteg f).cfg = s.cfg := rfl
@[simp] theorem State.modInteg_sec (s : State) (f : Integ → Integ) : (s.modInteg f).sec = s.sec := rfl
@[simp] theorem State.modInteg_integ (s : State) (f : Integ → Integ) : (s.modInteg f).integ = f s.integ := rfl
@[simp] theorem State.modInteg_get (s : State) (f : Integ → Integ) (g : Fld) : (s.modInteg f).get g = s.get g := rfl
@[simp] theorem State.modInteg_mbox (s : State) (f : Integ → Integ) (k : Nat) : (s.modInteg f).mbox k = s.mbox k := rfl

@[simp] theorem State.modTest_pending (s : State) (f : Test → Test) : (s.modTest f).pending = s.pending := rfl
@[simp] theorem State.modTest_regs (s : State) (f : Test → Test) : (s.modTest f).regs = s.regs := rfl
@[simp] theorem State.modTest_free (s : State) (f : Test → Test) : (s.modTest f).free = s.free := rfl
@[simp] theorem State.modTest_aon (s : State) (f : Test → Test) : (s.modTest f).aon = s.aon := rfl
@[simp] theorem State.modTest_mgt (s : State) (f : Test → Test) : (s.modTest f).mgt = s.mgt := rfl
@[simp] theorem State.modTest_therm (s : State) (f : Test → Test) : (s.modTest f).therm = s.therm := rfl
@[simp] theorem State.modTest_clk (s : State) (f : Test → Test) : (s.modTest f).clk = s.clk := rfl
@[simp] theorem State.modTest_noc (s : State) (f : Test → Test) : (s.modTest f).noc = s.noc := rfl
@[simp] theorem State.modTest_lane (s : State) (f : Test → Test) : (s.modTest f).lane = s.lane := rfl
@[simp] theorem State.modTest_link (s : State) (f : Test → Test) : (s.modTest f).link = s.link := rfl
@[simp] theorem State.modTest_io (s : State) (f : Test → Test) : (s.modTest f).io = s.io := rfl
@[simp] theorem State.modTest_fab (s : State) (f : Test → Test) : (s.modTest f).fab = s.fab := rfl
@[simp] theorem State.modTest_bm (s : State) (f : Test → Test) : (s.modTest f).bm = s.bm := rfl
@[simp] theorem State.modTest_ctx (s : State) (f : Test → Test) : (s.modTest f).ctx = s.ctx := rfl
@[simp] theorem State.modTest_cache (s : State) (f : Test → Test) : (s.modTest f).cache = s.cache := rfl
@[simp] theorem State.modTest_bulk (s : State) (f : Test → Test) : (s.modTest f).bulk = s.bulk := rfl
@[simp] theorem State.modTest_cfg (s : State) (f : Test → Test) : (s.modTest f).cfg = s.cfg := rfl
@[simp] theorem State.modTest_sec (s : State) (f : Test → Test) : (s.modTest f).sec = s.sec := rfl
@[simp] theorem State.modTest_integ (s : State) (f : Test → Test) : (s.modTest f).integ = s.integ := rfl
@[simp] theorem State.modTest_test (s : State) (f : Test → Test) : (s.modTest f).test = f s.test := rfl
@[simp] theorem State.modTest_get (s : State) (f : Test → Test) (g : Fld) : (s.modTest f).get g = s.get g := rfl
@[simp] theorem State.modTest_mbox (s : State) (f : Test → Test) (k : Nat) : (s.modTest f).mbox k = s.mbox k := rfl

@[simp] theorem State.modPlane_pending (s : State) (r p : Nat) (f : Plane → Plane) : (s.modPlane r p f).pending = s.pending := rfl
@[simp] theorem State.modPlane_regs (s : State) (r p : Nat) (f : Plane → Plane) : (s.modPlane r p f).regs = s.regs := rfl
@[simp] theorem State.modPlane_free (s : State) (r p : Nat) (f : Plane → Plane) : (s.modPlane r p f).free = s.free := rfl
@[simp] theorem State.modPlane_aon (s : State) (r p : Nat) (f : Plane → Plane) : (s.modPlane r p f).aon = s.aon := rfl
@[simp] theorem State.modPlane_mgt (s : State) (r p : Nat) (f : Plane → Plane) : (s.modPlane r p f).mgt = s.mgt := rfl
@[simp] theorem State.modPlane_therm (s : State) (r p : Nat) (f : Plane → Plane) : (s.modPlane r p f).therm = s.therm := rfl
@[simp] theorem State.modPlane_clk (s : State) (r p : Nat) (f : Plane → Plane) : (s.modPlane r p f).clk = s.clk := rfl
@[simp] theorem State.modPlane_noc (s : State) (r p : Nat) (f : Plane → Plane) : (s.modPlane r p f).noc = s.noc := rfl
@[simp] theorem State.modPlane_lane (s : State) (r p : Nat) (f : Plane → Plane) : (s.modPlane r p f).lane = s.lane := rfl
@[simp] theorem State.modPlane_link (s : State) (r p : Nat) (f : Plane → Plane) : (s.modPlane r p f).link = s.link := rfl
@[simp] theorem State.modPlane_test (s : State) (r p : Nat) (f : Plane → Plane) : (s.modPlane r p f).test = s.test := rfl
@[simp] theorem State.modPlane_io (s : State) (r p : Nat) (f : Plane → Plane) : (s.modPlane r p f).io = s.io := rfl
@[simp] theorem State.modPlane_fab (s : State) (r p : Nat) (f : Plane → Plane) : (s.modPlane r p f).fab = s.fab := rfl
@[simp] theorem State.modPlane_bm (s : State) (r p : Nat) (f : Plane → Plane) : (s.modPlane r p f).bm = s.bm := rfl
@[simp] theorem State.modPlane_cache (s : State) (r p : Nat) (f : Plane → Plane) : (s.modPlane r p f).cache = s.cache := rfl
@[simp] theorem State.modPlane_bulk (s : State) (r p : Nat) (f : Plane → Plane) : (s.modPlane r p f).bulk = s.bulk := rfl
@[simp] theorem State.modPlane_cfg (s : State) (r p : Nat) (f : Plane → Plane) : (s.modPlane r p f).cfg = s.cfg := rfl
@[simp] theorem State.modPlane_sec (s : State) (r p : Nat) (f : Plane → Plane) : (s.modPlane r p f).sec = s.sec := rfl
@[simp] theorem State.modPlane_integ (s : State) (r p : Nat) (f : Plane → Plane) : (s.modPlane r p f).integ = s.integ := rfl
@[simp] theorem State.modPlane_get (s : State) (r p : Nat) (f : Plane → Plane) (g : Fld) : (s.modPlane r p f).get g = s.get g := rfl
@[simp] theorem State.modPlane_mbox (s : State) (r p : Nat) (f : Plane → Plane) (k : Nat) : (s.modPlane r p f).mbox k = s.mbox k := rfl

@[simp] theorem State.modCtx_pending (s : State) (r : Nat) (f : CtxR → CtxR) : (s.modCtx r f).pending = s.pending := rfl
@[simp] theorem State.modCtx_regs (s : State) (r : Nat) (f : CtxR → CtxR) : (s.modCtx r f).regs = s.regs := rfl
@[simp] theorem State.modCtx_free (s : State) (r : Nat) (f : CtxR → CtxR) : (s.modCtx r f).free = s.free := rfl
@[simp] theorem State.modCtx_aon (s : State) (r : Nat) (f : CtxR → CtxR) : (s.modCtx r f).aon = s.aon := rfl
@[simp] theorem State.modCtx_mgt (s : State) (r : Nat) (f : CtxR → CtxR) : (s.modCtx r f).mgt = s.mgt := rfl
@[simp] theorem State.modCtx_therm (s : State) (r : Nat) (f : CtxR → CtxR) : (s.modCtx r f).therm = s.therm := rfl
@[simp] theorem State.modCtx_clk (s : State) (r : Nat) (f : CtxR → CtxR) : (s.modCtx r f).clk = s.clk := rfl
@[simp] theorem State.modCtx_noc (s : State) (r : Nat) (f : CtxR → CtxR) : (s.modCtx r f).noc = s.noc := rfl
@[simp] theorem State.modCtx_lane (s : State) (r : Nat) (f : CtxR → CtxR) : (s.modCtx r f).lane = s.lane := rfl
@[simp] theorem State.modCtx_link (s : State) (r : Nat) (f : CtxR → CtxR) : (s.modCtx r f).link = s.link := rfl
@[simp] theorem State.modCtx_test (s : State) (r : Nat) (f : CtxR → CtxR) : (s.modCtx r f).test = s.test := rfl
@[simp] theorem State.modCtx_io (s : State) (r : Nat) (f : CtxR → CtxR) : (s.modCtx r f).io = s.io := rfl
@[simp] theorem State.modCtx_fab (s : State) (r : Nat) (f : CtxR → CtxR) : (s.modCtx r f).fab = s.fab := rfl
@[simp] theorem State.modCtx_bm (s : State) (r : Nat) (f : CtxR → CtxR) : (s.modCtx r f).bm = s.bm := rfl
@[simp] theorem State.modCtx_cache (s : State) (r : Nat) (f : CtxR → CtxR) : (s.modCtx r f).cache = s.cache := rfl
@[simp] theorem State.modCtx_bulk (s : State) (r : Nat) (f : CtxR → CtxR) : (s.modCtx r f).bulk = s.bulk := rfl
@[simp] theorem State.modCtx_cfg (s : State) (r : Nat) (f : CtxR → CtxR) : (s.modCtx r f).cfg = s.cfg := rfl
@[simp] theorem State.modCtx_sec (s : State) (r : Nat) (f : CtxR → CtxR) : (s.modCtx r f).sec = s.sec := rfl
@[simp] theorem State.modCtx_integ (s : State) (r : Nat) (f : CtxR → CtxR) : (s.modCtx r f).integ = s.integ := rfl
@[simp] theorem State.modCtx_get (s : State) (r : Nat) (f : CtxR → CtxR) (g : Fld) : (s.modCtx r f).get g = s.get g := rfl
@[simp] theorem State.modCtx_mbox (s : State) (r : Nat) (f : CtxR → CtxR) (k : Nat) : (s.modCtx r f).mbox k = s.mbox k := rfl

@[simp] theorem State.setSynth_pending (s : State) (d : Nat) (y : Synth) : (s.setSynth d y).pending = s.pending := rfl
@[simp] theorem State.setSynth_regs (s : State) (d : Nat) (y : Synth) : (s.setSynth d y).regs = s.regs := rfl
@[simp] theorem State.setSynth_free (s : State) (d : Nat) (y : Synth) : (s.setSynth d y).free = s.free := rfl
@[simp] theorem State.setSynth_aon (s : State) (d : Nat) (y : Synth) : (s.setSynth d y).aon = s.aon := rfl
@[simp] theorem State.setSynth_mgt (s : State) (d : Nat) (y : Synth) : (s.setSynth d y).mgt = s.mgt := rfl
@[simp] theorem State.setSynth_therm (s : State) (d : Nat) (y : Synth) : (s.setSynth d y).therm = s.therm := rfl
@[simp] theorem State.setSynth_noc (s : State) (d : Nat) (y : Synth) : (s.setSynth d y).noc = s.noc := rfl
@[simp] theorem State.setSynth_lane (s : State) (d : Nat) (y : Synth) : (s.setSynth d y).lane = s.lane := rfl
@[simp] theorem State.setSynth_link (s : State) (d : Nat) (y : Synth) : (s.setSynth d y).link = s.link := rfl
@[simp] theorem State.setSynth_test (s : State) (d : Nat) (y : Synth) : (s.setSynth d y).test = s.test := rfl
@[simp] theorem State.setSynth_io (s : State) (d : Nat) (y : Synth) : (s.setSynth d y).io = s.io := rfl
@[simp] theorem State.setSynth_fab (s : State) (d : Nat) (y : Synth) : (s.setSynth d y).fab = s.fab := rfl
@[simp] theorem State.setSynth_bm (s : State) (d : Nat) (y : Synth) : (s.setSynth d y).bm = s.bm := rfl
@[simp] theorem State.setSynth_ctx (s : State) (d : Nat) (y : Synth) : (s.setSynth d y).ctx = s.ctx := rfl
@[simp] theorem State.setSynth_cache (s : State) (d : Nat) (y : Synth) : (s.setSynth d y).cache = s.cache := rfl
@[simp] theorem State.setSynth_bulk (s : State) (d : Nat) (y : Synth) : (s.setSynth d y).bulk = s.bulk := rfl
@[simp] theorem State.setSynth_cfg (s : State) (d : Nat) (y : Synth) : (s.setSynth d y).cfg = s.cfg := rfl
@[simp] theorem State.setSynth_sec (s : State) (d : Nat) (y : Synth) : (s.setSynth d y).sec = s.sec := rfl
@[simp] theorem State.setSynth_integ (s : State) (d : Nat) (y : Synth) : (s.setSynth d y).integ = s.integ := rfl
@[simp] theorem State.setSynth_get (s : State) (d : Nat) (y : Synth) (g : Fld) : (s.setSynth d y).get g = s.get g := rfl
@[simp] theorem State.setSynth_mbox (s : State) (d : Nat) (y : Synth) (k : Nat) : (s.setSynth d y).mbox k = s.mbox k := rfl

@[simp] theorem State.setXing_pending (s : State) (x : Nat) (f : Xing) : (s.setXing x f).pending = s.pending := rfl
@[simp] theorem State.setXing_regs (s : State) (x : Nat) (f : Xing) : (s.setXing x f).regs = s.regs := rfl
@[simp] theorem State.setXing_free (s : State) (x : Nat) (f : Xing) : (s.setXing x f).free = s.free := rfl
@[simp] theorem State.setXing_aon (s : State) (x : Nat) (f : Xing) : (s.setXing x f).aon = s.aon := rfl
@[simp] theorem State.setXing_mgt (s : State) (x : Nat) (f : Xing) : (s.setXing x f).mgt = s.mgt := rfl
@[simp] theorem State.setXing_therm (s : State) (x : Nat) (f : Xing) : (s.setXing x f).therm = s.therm := rfl
@[simp] theorem State.setXing_noc (s : State) (x : Nat) (f : Xing) : (s.setXing x f).noc = s.noc := rfl
@[simp] theorem State.setXing_lane (s : State) (x : Nat) (f : Xing) : (s.setXing x f).lane = s.lane := rfl
@[simp] theorem State.setXing_link (s : State) (x : Nat) (f : Xing) : (s.setXing x f).link = s.link := rfl
@[simp] theorem State.setXing_test (s : State) (x : Nat) (f : Xing) : (s.setXing x f).test = s.test := rfl
@[simp] theorem State.setXing_io (s : State) (x : Nat) (f : Xing) : (s.setXing x f).io = s.io := rfl
@[simp] theorem State.setXing_fab (s : State) (x : Nat) (f : Xing) : (s.setXing x f).fab = s.fab := rfl
@[simp] theorem State.setXing_bm (s : State) (x : Nat) (f : Xing) : (s.setXing x f).bm = s.bm := rfl
@[simp] theorem State.setXing_ctx (s : State) (x : Nat) (f : Xing) : (s.setXing x f).ctx = s.ctx := rfl
@[simp] theorem State.setXing_cache (s : State) (x : Nat) (f : Xing) : (s.setXing x f).cache = s.cache := rfl
@[simp] theorem State.setXing_bulk (s : State) (x : Nat) (f : Xing) : (s.setXing x f).bulk = s.bulk := rfl
@[simp] theorem State.setXing_cfg (s : State) (x : Nat) (f : Xing) : (s.setXing x f).cfg = s.cfg := rfl
@[simp] theorem State.setXing_sec (s : State) (x : Nat) (f : Xing) : (s.setXing x f).sec = s.sec := rfl
@[simp] theorem State.setXing_integ (s : State) (x : Nat) (f : Xing) : (s.setXing x f).integ = s.integ := rfl
@[simp] theorem State.setXing_get (s : State) (x : Nat) (f : Xing) (g : Fld) : (s.setXing x f).get g = s.get g := rfl
@[simp] theorem State.setXing_mbox (s : State) (x : Nat) (f : Xing) (k : Nat) : (s.setXing x f).mbox k = s.mbox k := rfl

@[simp] theorem State.modXing_pending (s : State) (x : Nat) (f : Xing → Xing) : (s.modXing x f).pending = s.pending := rfl
@[simp] theorem State.modXing_regs (s : State) (x : Nat) (f : Xing → Xing) : (s.modXing x f).regs = s.regs := rfl
@[simp] theorem State.modXing_free (s : State) (x : Nat) (f : Xing → Xing) : (s.modXing x f).free = s.free := rfl
@[simp] theorem State.modXing_aon (s : State) (x : Nat) (f : Xing → Xing) : (s.modXing x f).aon = s.aon := rfl
@[simp] theorem State.modXing_mgt (s : State) (x : Nat) (f : Xing → Xing) : (s.modXing x f).mgt = s.mgt := rfl
@[simp] theorem State.modXing_therm (s : State) (x : Nat) (f : Xing → Xing) : (s.modXing x f).therm = s.therm := rfl
@[simp] theorem State.modXing_noc (s : State) (x : Nat) (f : Xing → Xing) : (s.modXing x f).noc = s.noc := rfl
@[simp] theorem State.modXing_lane (s : State) (x : Nat) (f : Xing → Xing) : (s.modXing x f).lane = s.lane := rfl
@[simp] theorem State.modXing_link (s : State) (x : Nat) (f : Xing → Xing) : (s.modXing x f).link = s.link := rfl
@[simp] theorem State.modXing_test (s : State) (x : Nat) (f : Xing → Xing) : (s.modXing x f).test = s.test := rfl
@[simp] theorem State.modXing_io (s : State) (x : Nat) (f : Xing → Xing) : (s.modXing x f).io = s.io := rfl
@[simp] theorem State.modXing_fab (s : State) (x : Nat) (f : Xing → Xing) : (s.modXing x f).fab = s.fab := rfl
@[simp] theorem State.modXing_bm (s : State) (x : Nat) (f : Xing → Xing) : (s.modXing x f).bm = s.bm := rfl
@[simp] theorem State.modXing_ctx (s : State) (x : Nat) (f : Xing → Xing) : (s.modXing x f).ctx = s.ctx := rfl
@[simp] theorem State.modXing_cache (s : State) (x : Nat) (f : Xing → Xing) : (s.modXing x f).cache = s.cache := rfl
@[simp] theorem State.modXing_bulk (s : State) (x : Nat) (f : Xing → Xing) : (s.modXing x f).bulk = s.bulk := rfl
@[simp] theorem State.modXing_cfg (s : State) (x : Nat) (f : Xing → Xing) : (s.modXing x f).cfg = s.cfg := rfl
@[simp] theorem State.modXing_sec (s : State) (x : Nat) (f : Xing → Xing) : (s.modXing x f).sec = s.sec := rfl
@[simp] theorem State.modXing_integ (s : State) (x : Nat) (f : Xing → Xing) : (s.modXing x f).integ = s.integ := rfl
@[simp] theorem State.modXing_get (s : State) (x : Nat) (f : Xing → Xing) (g : Fld) : (s.modXing x f).get g = s.get g := rfl
@[simp] theorem State.modXing_mbox (s : State) (x : Nat) (f : Xing → Xing) (k : Nat) : (s.modXing x f).mbox k = s.mbox k := rfl

@[simp] theorem State.addLoad_pending (s : State) (v b : Nat) : (s.addLoad v b).pending = s.pending := rfl
@[simp] theorem State.addLoad_regs (s : State) (v b : Nat) : (s.addLoad v b).regs = s.regs := rfl
@[simp] theorem State.addLoad_free (s : State) (v b : Nat) : (s.addLoad v b).free = s.free := rfl
@[simp] theorem State.addLoad_aon (s : State) (v b : Nat) : (s.addLoad v b).aon = s.aon := rfl
@[simp] theorem State.addLoad_mgt (s : State) (v b : Nat) : (s.addLoad v b).mgt = s.mgt := rfl
@[simp] theorem State.addLoad_therm (s : State) (v b : Nat) : (s.addLoad v b).therm = s.therm := rfl
@[simp] theorem State.addLoad_noc (s : State) (v b : Nat) : (s.addLoad v b).noc = s.noc := rfl
@[simp] theorem State.addLoad_lane (s : State) (v b : Nat) : (s.addLoad v b).lane = s.lane := rfl
@[simp] theorem State.addLoad_link (s : State) (v b : Nat) : (s.addLoad v b).link = s.link := rfl
@[simp] theorem State.addLoad_test (s : State) (v b : Nat) : (s.addLoad v b).test = s.test := rfl
@[simp] theorem State.addLoad_io (s : State) (v b : Nat) : (s.addLoad v b).io = s.io := rfl
@[simp] theorem State.addLoad_fab (s : State) (v b : Nat) : (s.addLoad v b).fab = s.fab := rfl
@[simp] theorem State.addLoad_bm (s : State) (v b : Nat) : (s.addLoad v b).bm = s.bm := rfl
@[simp] theorem State.addLoad_ctx (s : State) (v b : Nat) : (s.addLoad v b).ctx = s.ctx := rfl
@[simp] theorem State.addLoad_cache (s : State) (v b : Nat) : (s.addLoad v b).cache = s.cache := rfl
@[simp] theorem State.addLoad_bulk (s : State) (v b : Nat) : (s.addLoad v b).bulk = s.bulk := rfl
@[simp] theorem State.addLoad_cfg (s : State) (v b : Nat) : (s.addLoad v b).cfg = s.cfg := rfl
@[simp] theorem State.addLoad_sec (s : State) (v b : Nat) : (s.addLoad v b).sec = s.sec := rfl
@[simp] theorem State.addLoad_integ (s : State) (v b : Nat) : (s.addLoad v b).integ = s.integ := rfl
@[simp] theorem State.addLoad_get (s : State) (v b : Nat) (g : Fld) : (s.addLoad v b).get g = s.get g := rfl
@[simp] theorem State.addLoad_mbox (s : State) (v b : Nat) (k : Nat) : (s.addLoad v b).mbox k = s.mbox k := rfl

@[simp] theorem State.setB_pending (s : State) (f : Fld) (b : Bool) : (s.setB f b).pending = s.pending := rfl
@[simp] theorem State.setB_free (s : State) (f : Fld) (b : Bool) : (s.setB f b).free = s.free := rfl
@[simp] theorem State.setB_aon (s : State) (f : Fld) (b : Bool) : (s.setB f b).aon = s.aon := rfl
@[simp] theorem State.setB_mgt (s : State) (f : Fld) (b : Bool) : (s.setB f b).mgt = s.mgt := rfl
@[simp] theorem State.setB_therm (s : State) (f : Fld) (b : Bool) : (s.setB f b).therm = s.therm := rfl
@[simp] theorem State.setB_clk (s : State) (f : Fld) (b : Bool) : (s.setB f b).clk = s.clk := rfl
@[simp] theorem State.setB_noc (s : State) (f : Fld) (b : Bool) : (s.setB f b).noc = s.noc := rfl
@[simp] theorem State.setB_lane (s : State) (f : Fld) (b : Bool) : (s.setB f b).lane = s.lane := rfl
@[simp] theorem State.setB_link (s : State) (f : Fld) (b : Bool) : (s.setB f b).link = s.link := rfl
@[simp] theorem State.setB_test (s : State) (f : Fld) (b : Bool) : (s.setB f b).test = s.test := rfl
@[simp] theorem State.setB_io (s : State) (f : Fld) (b : Bool) : (s.setB f b).io = s.io := rfl
@[simp] theorem State.setB_fab (s : State) (f : Fld) (b : Bool) : (s.setB f b).fab = s.fab := rfl
@[simp] theorem State.setB_bm (s : State) (f : Fld) (b : Bool) : (s.setB f b).bm = s.bm := rfl
@[simp] theorem State.setB_ctx (s : State) (f : Fld) (b : Bool) : (s.setB f b).ctx = s.ctx := rfl
@[simp] theorem State.setB_cache (s : State) (f : Fld) (b : Bool) : (s.setB f b).cache = s.cache := rfl
@[simp] theorem State.setB_bulk (s : State) (f : Fld) (b : Bool) : (s.setB f b).bulk = s.bulk := rfl
@[simp] theorem State.setB_cfg (s : State) (f : Fld) (b : Bool) : (s.setB f b).cfg = s.cfg := rfl
@[simp] theorem State.setB_sec (s : State) (f : Fld) (b : Bool) : (s.setB f b).sec = s.sec := rfl
@[simp] theorem State.setB_integ (s : State) (f : Fld) (b : Bool) : (s.setB f b).integ = s.integ := rfl
@[simp] theorem State.setB_mbox (s : State) (f : Fld) (b : Bool) (k : Nat) : (s.setB f b).mbox k = s.mbox k := rfl

@[simp] theorem State.setBit_pending (s : State) (f : Fld) (i : Nat) (b : Bool) : (s.setBit f i b).pending = s.pending := by unfold State.setBit; split <;> rfl
@[simp] theorem State.setBit_free (s : State) (f : Fld) (i : Nat) (b : Bool) : (s.setBit f i b).free = s.free := by unfold State.setBit; split <;> rfl
@[simp] theorem State.setBit_aon (s : State) (f : Fld) (i : Nat) (b : Bool) : (s.setBit f i b).aon = s.aon := by unfold State.setBit; split <;> rfl
@[simp] theorem State.setBit_mgt (s : State) (f : Fld) (i : Nat) (b : Bool) : (s.setBit f i b).mgt = s.mgt := by unfold State.setBit; split <;> rfl
@[simp] theorem State.setBit_therm (s : State) (f : Fld) (i : Nat) (b : Bool) : (s.setBit f i b).therm = s.therm := by unfold State.setBit; split <;> rfl
@[simp] theorem State.setBit_clk (s : State) (f : Fld) (i : Nat) (b : Bool) : (s.setBit f i b).clk = s.clk := by unfold State.setBit; split <;> rfl
@[simp] theorem State.setBit_noc (s : State) (f : Fld) (i : Nat) (b : Bool) : (s.setBit f i b).noc = s.noc := by unfold State.setBit; split <;> rfl
@[simp] theorem State.setBit_lane (s : State) (f : Fld) (i : Nat) (b : Bool) : (s.setBit f i b).lane = s.lane := by unfold State.setBit; split <;> rfl
@[simp] theorem State.setBit_link (s : State) (f : Fld) (i : Nat) (b : Bool) : (s.setBit f i b).link = s.link := by unfold State.setBit; split <;> rfl
@[simp] theorem State.setBit_test (s : State) (f : Fld) (i : Nat) (b : Bool) : (s.setBit f i b).test = s.test := by unfold State.setBit; split <;> rfl
@[simp] theorem State.setBit_io (s : State) (f : Fld) (i : Nat) (b : Bool) : (s.setBit f i b).io = s.io := by unfold State.setBit; split <;> rfl
@[simp] theorem State.setBit_fab (s : State) (f : Fld) (i : Nat) (b : Bool) : (s.setBit f i b).fab = s.fab := by unfold State.setBit; split <;> rfl
@[simp] theorem State.setBit_bm (s : State) (f : Fld) (i : Nat) (b : Bool) : (s.setBit f i b).bm = s.bm := by unfold State.setBit; split <;> rfl
@[simp] theorem State.setBit_ctx (s : State) (f : Fld) (i : Nat) (b : Bool) : (s.setBit f i b).ctx = s.ctx := by unfold State.setBit; split <;> rfl
@[simp] theorem State.setBit_cache (s : State) (f : Fld) (i : Nat) (b : Bool) : (s.setBit f i b).cache = s.cache := by unfold State.setBit; split <;> rfl
@[simp] theorem State.setBit_bulk (s : State) (f : Fld) (i : Nat) (b : Bool) : (s.setBit f i b).bulk = s.bulk := by unfold State.setBit; split <;> rfl
@[simp] theorem State.setBit_cfg (s : State) (f : Fld) (i : Nat) (b : Bool) : (s.setBit f i b).cfg = s.cfg := by unfold State.setBit; split <;> rfl
@[simp] theorem State.setBit_sec (s : State) (f : Fld) (i : Nat) (b : Bool) : (s.setBit f i b).sec = s.sec := by unfold State.setBit; split <;> rfl
@[simp] theorem State.setBit_integ (s : State) (f : Fld) (i : Nat) (b : Bool) : (s.setBit f i b).integ = s.integ := by unfold State.setBit; split <;> rfl
@[simp] theorem State.setBit_mbox (s : State) (f : Fld) (i : Nat) (b : Bool) (k : Nat) : (s.setBit f i b).mbox k = s.mbox k := by unfold State.setBit; split <;> rfl

@[simp] theorem State.inc_pending (s : State) (f : Fld) : (s.inc f).pending = s.pending := rfl
@[simp] theorem State.inc_free (s : State) (f : Fld) : (s.inc f).free = s.free := rfl
@[simp] theorem State.inc_aon (s : State) (f : Fld) : (s.inc f).aon = s.aon := rfl
@[simp] theorem State.inc_mgt (s : State) (f : Fld) : (s.inc f).mgt = s.mgt := rfl
@[simp] theorem State.inc_therm (s : State) (f : Fld) : (s.inc f).therm = s.therm := rfl
@[simp] theorem State.inc_clk (s : State) (f : Fld) : (s.inc f).clk = s.clk := rfl
@[simp] theorem State.inc_noc (s : State) (f : Fld) : (s.inc f).noc = s.noc := rfl
@[simp] theorem State.inc_lane (s : State) (f : Fld) : (s.inc f).lane = s.lane := rfl
@[simp] theorem State.inc_link (s : State) (f : Fld) : (s.inc f).link = s.link := rfl
@[simp] theorem State.inc_test (s : State) (f : Fld) : (s.inc f).test = s.test := rfl
@[simp] theorem State.inc_io (s : State) (f : Fld) : (s.inc f).io = s.io := rfl
@[simp] theorem State.inc_fab (s : State) (f : Fld) : (s.inc f).fab = s.fab := rfl
@[simp] theorem State.inc_bm (s : State) (f : Fld) : (s.inc f).bm = s.bm := rfl
@[simp] theorem State.inc_ctx (s : State) (f : Fld) : (s.inc f).ctx = s.ctx := rfl
@[simp] theorem State.inc_cache (s : State) (f : Fld) : (s.inc f).cache = s.cache := rfl
@[simp] theorem State.inc_bulk (s : State) (f : Fld) : (s.inc f).bulk = s.bulk := rfl
@[simp] theorem State.inc_cfg (s : State) (f : Fld) : (s.inc f).cfg = s.cfg := rfl
@[simp] theorem State.inc_sec (s : State) (f : Fld) : (s.inc f).sec = s.sec := rfl
@[simp] theorem State.inc_integ (s : State) (f : Fld) : (s.inc f).integ = s.integ := rfl
@[simp] theorem State.inc_mbox (s : State) (f : Fld) (k : Nat) : (s.inc f).mbox k = s.mbox k := rfl

@[simp] theorem State.incWrap_pending (s : State) (f : Fld) : (s.incWrap f).pending = s.pending := rfl
@[simp] theorem State.incWrap_free (s : State) (f : Fld) : (s.incWrap f).free = s.free := rfl
@[simp] theorem State.incWrap_aon (s : State) (f : Fld) : (s.incWrap f).aon = s.aon := rfl
@[simp] theorem State.incWrap_mgt (s : State) (f : Fld) : (s.incWrap f).mgt = s.mgt := rfl
@[simp] theorem State.incWrap_therm (s : State) (f : Fld) : (s.incWrap f).therm = s.therm := rfl
@[simp] theorem State.incWrap_clk (s : State) (f : Fld) : (s.incWrap f).clk = s.clk := rfl
@[simp] theorem State.incWrap_noc (s : State) (f : Fld) : (s.incWrap f).noc = s.noc := rfl
@[simp] theorem State.incWrap_lane (s : State) (f : Fld) : (s.incWrap f).lane = s.lane := rfl
@[simp] theorem State.incWrap_link (s : State) (f : Fld) : (s.incWrap f).link = s.link := rfl
@[simp] theorem State.incWrap_test (s : State) (f : Fld) : (s.incWrap f).test = s.test := rfl
@[simp] theorem State.incWrap_io (s : State) (f : Fld) : (s.incWrap f).io = s.io := rfl
@[simp] theorem State.incWrap_fab (s : State) (f : Fld) : (s.incWrap f).fab = s.fab := rfl
@[simp] theorem State.incWrap_bm (s : State) (f : Fld) : (s.incWrap f).bm = s.bm := rfl
@[simp] theorem State.incWrap_ctx (s : State) (f : Fld) : (s.incWrap f).ctx = s.ctx := rfl
@[simp] theorem State.incWrap_cache (s : State) (f : Fld) : (s.incWrap f).cache = s.cache := rfl
@[simp] theorem State.incWrap_bulk (s : State) (f : Fld) : (s.incWrap f).bulk = s.bulk := rfl
@[simp] theorem State.incWrap_cfg (s : State) (f : Fld) : (s.incWrap f).cfg = s.cfg := rfl
@[simp] theorem State.incWrap_sec (s : State) (f : Fld) : (s.incWrap f).sec = s.sec := rfl
@[simp] theorem State.incWrap_integ (s : State) (f : Fld) : (s.incWrap f).integ = s.integ := rfl
@[simp] theorem State.incWrap_mbox (s : State) (f : Fld) (k : Nat) : (s.incWrap f).mbox k = s.mbox k := rfl

@[simp] theorem State.clear_pending (s : State) (f : Fld) : (s.clear f).pending = s.pending := rfl
@[simp] theorem State.clear_free (s : State) (f : Fld) : (s.clear f).free = s.free := rfl
@[simp] theorem State.clear_aon (s : State) (f : Fld) : (s.clear f).aon = s.aon := rfl
@[simp] theorem State.clear_mgt (s : State) (f : Fld) : (s.clear f).mgt = s.mgt := rfl
@[simp] theorem State.clear_therm (s : State) (f : Fld) : (s.clear f).therm = s.therm := rfl
@[simp] theorem State.clear_clk (s : State) (f : Fld) : (s.clear f).clk = s.clk := rfl
@[simp] theorem State.clear_noc (s : State) (f : Fld) : (s.clear f).noc = s.noc := rfl
@[simp] theorem State.clear_lane (s : State) (f : Fld) : (s.clear f).lane = s.lane := rfl
@[simp] theorem State.clear_link (s : State) (f : Fld) : (s.clear f).link = s.link := rfl
@[simp] theorem State.clear_test (s : State) (f : Fld) : (s.clear f).test = s.test := rfl
@[simp] theorem State.clear_io (s : State) (f : Fld) : (s.clear f).io = s.io := rfl
@[simp] theorem State.clear_fab (s : State) (f : Fld) : (s.clear f).fab = s.fab := rfl
@[simp] theorem State.clear_bm (s : State) (f : Fld) : (s.clear f).bm = s.bm := rfl
@[simp] theorem State.clear_ctx (s : State) (f : Fld) : (s.clear f).ctx = s.ctx := rfl
@[simp] theorem State.clear_cache (s : State) (f : Fld) : (s.clear f).cache = s.cache := rfl
@[simp] theorem State.clear_bulk (s : State) (f : Fld) : (s.clear f).bulk = s.bulk := rfl
@[simp] theorem State.clear_cfg (s : State) (f : Fld) : (s.clear f).cfg = s.cfg := rfl
@[simp] theorem State.clear_sec (s : State) (f : Fld) : (s.clear f).sec = s.sec := rfl
@[simp] theorem State.clear_integ (s : State) (f : Fld) : (s.clear f).integ = s.integ := rfl
@[simp] theorem State.clear_mbox (s : State) (f : Fld) (k : Nat) : (s.clear f).mbox k = s.mbox k := rfl

@[simp] theorem State.modCh_pending (s : State) (n : Nat) (f : TdcCh → TdcCh) : (s.modCh n f).pending = s.pending := rfl
@[simp] theorem State.modCh_regs (s : State) (n : Nat) (f : TdcCh → TdcCh) : (s.modCh n f).regs = s.regs := rfl
@[simp] theorem State.modCh_free (s : State) (n : Nat) (f : TdcCh → TdcCh) : (s.modCh n f).free = s.free := rfl
@[simp] theorem State.modCh_aon (s : State) (n : Nat) (f : TdcCh → TdcCh) : (s.modCh n f).aon = s.aon := rfl
@[simp] theorem State.modCh_mgt (s : State) (n : Nat) (f : TdcCh → TdcCh) : (s.modCh n f).mgt = s.mgt := rfl
@[simp] theorem State.modCh_therm (s : State) (n : Nat) (f : TdcCh → TdcCh) : (s.modCh n f).therm = s.therm := rfl
@[simp] theorem State.modCh_clk (s : State) (n : Nat) (f : TdcCh → TdcCh) : (s.modCh n f).clk = s.clk := rfl
@[simp] theorem State.modCh_noc (s : State) (n : Nat) (f : TdcCh → TdcCh) : (s.modCh n f).noc = s.noc := rfl
@[simp] theorem State.modCh_lane (s : State) (n : Nat) (f : TdcCh → TdcCh) : (s.modCh n f).lane = s.lane := rfl
@[simp] theorem State.modCh_link (s : State) (n : Nat) (f : TdcCh → TdcCh) : (s.modCh n f).link = s.link := rfl
@[simp] theorem State.modCh_test (s : State) (n : Nat) (f : TdcCh → TdcCh) : (s.modCh n f).test = s.test := rfl
@[simp] theorem State.modCh_fab (s : State) (n : Nat) (f : TdcCh → TdcCh) : (s.modCh n f).fab = s.fab := rfl
@[simp] theorem State.modCh_bm (s : State) (n : Nat) (f : TdcCh → TdcCh) : (s.modCh n f).bm = s.bm := rfl
@[simp] theorem State.modCh_ctx (s : State) (n : Nat) (f : TdcCh → TdcCh) : (s.modCh n f).ctx = s.ctx := rfl
@[simp] theorem State.modCh_cache (s : State) (n : Nat) (f : TdcCh → TdcCh) : (s.modCh n f).cache = s.cache := rfl
@[simp] theorem State.modCh_bulk (s : State) (n : Nat) (f : TdcCh → TdcCh) : (s.modCh n f).bulk = s.bulk := rfl
@[simp] theorem State.modCh_cfg (s : State) (n : Nat) (f : TdcCh → TdcCh) : (s.modCh n f).cfg = s.cfg := rfl
@[simp] theorem State.modCh_sec (s : State) (n : Nat) (f : TdcCh → TdcCh) : (s.modCh n f).sec = s.sec := rfl
@[simp] theorem State.modCh_integ (s : State) (n : Nat) (f : TdcCh → TdcCh) : (s.modCh n f).integ = s.integ := rfl
@[simp] theorem State.modCh_get (s : State) (n : Nat) (f : TdcCh → TdcCh) (g : Fld) : (s.modCh n f).get g = s.get g := rfl
@[simp] theorem State.modCh_mbox (s : State) (n : Nat) (f : TdcCh → TdcCh) (k : Nat) : (s.modCh n f).mbox k = s.mbox k := rfl

@[simp] theorem State.modBank_pending (s : State) (b : Nat) (f : IoBank → IoBank) : (s.modBank b f).pending = s.pending := rfl
@[simp] theorem State.modBank_regs (s : State) (b : Nat) (f : IoBank → IoBank) : (s.modBank b f).regs = s.regs := rfl
@[simp] theorem State.modBank_free (s : State) (b : Nat) (f : IoBank → IoBank) : (s.modBank b f).free = s.free := rfl
@[simp] theorem State.modBank_aon (s : State) (b : Nat) (f : IoBank → IoBank) : (s.modBank b f).aon = s.aon := rfl
@[simp] theorem State.modBank_mgt (s : State) (b : Nat) (f : IoBank → IoBank) : (s.modBank b f).mgt = s.mgt := rfl
@[simp] theorem State.modBank_therm (s : State) (b : Nat) (f : IoBank → IoBank) : (s.modBank b f).therm = s.therm := rfl
@[simp] theorem State.modBank_clk (s : State) (b : Nat) (f : IoBank → IoBank) : (s.modBank b f).clk = s.clk := rfl
@[simp] theorem State.modBank_noc (s : State) (b : Nat) (f : IoBank → IoBank) : (s.modBank b f).noc = s.noc := rfl
@[simp] theorem State.modBank_lane (s : State) (b : Nat) (f : IoBank → IoBank) : (s.modBank b f).lane = s.lane := rfl
@[simp] theorem State.modBank_link (s : State) (b : Nat) (f : IoBank → IoBank) : (s.modBank b f).link = s.link := rfl
@[simp] theorem State.modBank_test (s : State) (b : Nat) (f : IoBank → IoBank) : (s.modBank b f).test = s.test := rfl
@[simp] theorem State.modBank_fab (s : State) (b : Nat) (f : IoBank → IoBank) : (s.modBank b f).fab = s.fab := rfl
@[simp] theorem State.modBank_bm (s : State) (b : Nat) (f : IoBank → IoBank) : (s.modBank b f).bm = s.bm := rfl
@[simp] theorem State.modBank_ctx (s : State) (b : Nat) (f : IoBank → IoBank) : (s.modBank b f).ctx = s.ctx := rfl
@[simp] theorem State.modBank_cache (s : State) (b : Nat) (f : IoBank → IoBank) : (s.modBank b f).cache = s.cache := rfl
@[simp] theorem State.modBank_bulk (s : State) (b : Nat) (f : IoBank → IoBank) : (s.modBank b f).bulk = s.bulk := rfl
@[simp] theorem State.modBank_cfg (s : State) (b : Nat) (f : IoBank → IoBank) : (s.modBank b f).cfg = s.cfg := rfl
@[simp] theorem State.modBank_sec (s : State) (b : Nat) (f : IoBank → IoBank) : (s.modBank b f).sec = s.sec := rfl
@[simp] theorem State.modBank_integ (s : State) (b : Nat) (f : IoBank → IoBank) : (s.modBank b f).integ = s.integ := rfl
@[simp] theorem State.modBank_get (s : State) (b : Nat) (f : IoBank → IoBank) (g : Fld) : (s.modBank b f).get g = s.get g := rfl
@[simp] theorem State.modBank_mbox (s : State) (b : Nat) (f : IoBank → IoBank) (k : Nat) : (s.modBank b f).mbox k = s.mbox k := rfl

@[simp] theorem State.modGroup_pending (s : State) (n : Nat) (f : CalGroup → CalGroup) : (s.modGroup n f).pending = s.pending := rfl
@[simp] theorem State.modGroup_regs (s : State) (n : Nat) (f : CalGroup → CalGroup) : (s.modGroup n f).regs = s.regs := rfl
@[simp] theorem State.modGroup_free (s : State) (n : Nat) (f : CalGroup → CalGroup) : (s.modGroup n f).free = s.free := rfl
@[simp] theorem State.modGroup_aon (s : State) (n : Nat) (f : CalGroup → CalGroup) : (s.modGroup n f).aon = s.aon := rfl
@[simp] theorem State.modGroup_mgt (s : State) (n : Nat) (f : CalGroup → CalGroup) : (s.modGroup n f).mgt = s.mgt := rfl
@[simp] theorem State.modGroup_therm (s : State) (n : Nat) (f : CalGroup → CalGroup) : (s.modGroup n f).therm = s.therm := rfl
@[simp] theorem State.modGroup_clk (s : State) (n : Nat) (f : CalGroup → CalGroup) : (s.modGroup n f).clk = s.clk := rfl
@[simp] theorem State.modGroup_noc (s : State) (n : Nat) (f : CalGroup → CalGroup) : (s.modGroup n f).noc = s.noc := rfl
@[simp] theorem State.modGroup_lane (s : State) (n : Nat) (f : CalGroup → CalGroup) : (s.modGroup n f).lane = s.lane := rfl
@[simp] theorem State.modGroup_link (s : State) (n : Nat) (f : CalGroup → CalGroup) : (s.modGroup n f).link = s.link := rfl
@[simp] theorem State.modGroup_test (s : State) (n : Nat) (f : CalGroup → CalGroup) : (s.modGroup n f).test = s.test := rfl
@[simp] theorem State.modGroup_fab (s : State) (n : Nat) (f : CalGroup → CalGroup) : (s.modGroup n f).fab = s.fab := rfl
@[simp] theorem State.modGroup_bm (s : State) (n : Nat) (f : CalGroup → CalGroup) : (s.modGroup n f).bm = s.bm := rfl
@[simp] theorem State.modGroup_ctx (s : State) (n : Nat) (f : CalGroup → CalGroup) : (s.modGroup n f).ctx = s.ctx := rfl
@[simp] theorem State.modGroup_cache (s : State) (n : Nat) (f : CalGroup → CalGroup) : (s.modGroup n f).cache = s.cache := rfl
@[simp] theorem State.modGroup_bulk (s : State) (n : Nat) (f : CalGroup → CalGroup) : (s.modGroup n f).bulk = s.bulk := rfl
@[simp] theorem State.modGroup_cfg (s : State) (n : Nat) (f : CalGroup → CalGroup) : (s.modGroup n f).cfg = s.cfg := rfl
@[simp] theorem State.modGroup_sec (s : State) (n : Nat) (f : CalGroup → CalGroup) : (s.modGroup n f).sec = s.sec := rfl
@[simp] theorem State.modGroup_integ (s : State) (n : Nat) (f : CalGroup → CalGroup) : (s.modGroup n f).integ = s.integ := rfl
@[simp] theorem State.modGroup_get (s : State) (n : Nat) (f : CalGroup → CalGroup) (g : Fld) : (s.modGroup n f).get g = s.get g := rfl
@[simp] theorem State.modGroup_mbox (s : State) (n : Nat) (f : CalGroup → CalGroup) (k : Nat) : (s.modGroup n f).mbox k = s.mbox k := rfl

@[simp] theorem State.modTrg_pending (s : State) (l : Nat) (f : TrgPort → TrgPort) : (s.modTrg l f).pending = s.pending := rfl
@[simp] theorem State.modTrg_regs (s : State) (l : Nat) (f : TrgPort → TrgPort) : (s.modTrg l f).regs = s.regs := rfl
@[simp] theorem State.modTrg_free (s : State) (l : Nat) (f : TrgPort → TrgPort) : (s.modTrg l f).free = s.free := rfl
@[simp] theorem State.modTrg_aon (s : State) (l : Nat) (f : TrgPort → TrgPort) : (s.modTrg l f).aon = s.aon := rfl
@[simp] theorem State.modTrg_mgt (s : State) (l : Nat) (f : TrgPort → TrgPort) : (s.modTrg l f).mgt = s.mgt := rfl
@[simp] theorem State.modTrg_therm (s : State) (l : Nat) (f : TrgPort → TrgPort) : (s.modTrg l f).therm = s.therm := rfl
@[simp] theorem State.modTrg_clk (s : State) (l : Nat) (f : TrgPort → TrgPort) : (s.modTrg l f).clk = s.clk := rfl
@[simp] theorem State.modTrg_noc (s : State) (l : Nat) (f : TrgPort → TrgPort) : (s.modTrg l f).noc = s.noc := rfl
@[simp] theorem State.modTrg_lane (s : State) (l : Nat) (f : TrgPort → TrgPort) : (s.modTrg l f).lane = s.lane := rfl
@[simp] theorem State.modTrg_test (s : State) (l : Nat) (f : TrgPort → TrgPort) : (s.modTrg l f).test = s.test := rfl
@[simp] theorem State.modTrg_io (s : State) (l : Nat) (f : TrgPort → TrgPort) : (s.modTrg l f).io = s.io := rfl
@[simp] theorem State.modTrg_fab (s : State) (l : Nat) (f : TrgPort → TrgPort) : (s.modTrg l f).fab = s.fab := rfl
@[simp] theorem State.modTrg_bm (s : State) (l : Nat) (f : TrgPort → TrgPort) : (s.modTrg l f).bm = s.bm := rfl
@[simp] theorem State.modTrg_ctx (s : State) (l : Nat) (f : TrgPort → TrgPort) : (s.modTrg l f).ctx = s.ctx := rfl
@[simp] theorem State.modTrg_cache (s : State) (l : Nat) (f : TrgPort → TrgPort) : (s.modTrg l f).cache = s.cache := rfl
@[simp] theorem State.modTrg_bulk (s : State) (l : Nat) (f : TrgPort → TrgPort) : (s.modTrg l f).bulk = s.bulk := rfl
@[simp] theorem State.modTrg_cfg (s : State) (l : Nat) (f : TrgPort → TrgPort) : (s.modTrg l f).cfg = s.cfg := rfl
@[simp] theorem State.modTrg_sec (s : State) (l : Nat) (f : TrgPort → TrgPort) : (s.modTrg l f).sec = s.sec := rfl
@[simp] theorem State.modTrg_integ (s : State) (l : Nat) (f : TrgPort → TrgPort) : (s.modTrg l f).integ = s.integ := rfl
@[simp] theorem State.modTrg_get (s : State) (l : Nat) (f : TrgPort → TrgPort) (g : Fld) : (s.modTrg l f).get g = s.get g := rfl
@[simp] theorem State.modTrg_mbox (s : State) (l : Nat) (f : TrgPort → TrgPort) (k : Nat) : (s.modTrg l f).mbox k = s.mbox k := rfl

@[simp] theorem State.modBank'_pending (s : State) (b : Nat) (f : Bank → Bank) : (s.modBank' b f).pending = s.pending := rfl
@[simp] theorem State.modBank'_regs (s : State) (b : Nat) (f : Bank → Bank) : (s.modBank' b f).regs = s.regs := rfl
@[simp] theorem State.modBank'_free (s : State) (b : Nat) (f : Bank → Bank) : (s.modBank' b f).free = s.free := rfl
@[simp] theorem State.modBank'_aon (s : State) (b : Nat) (f : Bank → Bank) : (s.modBank' b f).aon = s.aon := rfl
@[simp] theorem State.modBank'_mgt (s : State) (b : Nat) (f : Bank → Bank) : (s.modBank' b f).mgt = s.mgt := rfl
@[simp] theorem State.modBank'_therm (s : State) (b : Nat) (f : Bank → Bank) : (s.modBank' b f).therm = s.therm := rfl
@[simp] theorem State.modBank'_clk (s : State) (b : Nat) (f : Bank → Bank) : (s.modBank' b f).clk = s.clk := rfl
@[simp] theorem State.modBank'_noc (s : State) (b : Nat) (f : Bank → Bank) : (s.modBank' b f).noc = s.noc := rfl
@[simp] theorem State.modBank'_lane (s : State) (b : Nat) (f : Bank → Bank) : (s.modBank' b f).lane = s.lane := rfl
@[simp] theorem State.modBank'_link (s : State) (b : Nat) (f : Bank → Bank) : (s.modBank' b f).link = s.link := rfl
@[simp] theorem State.modBank'_test (s : State) (b : Nat) (f : Bank → Bank) : (s.modBank' b f).test = s.test := rfl
@[simp] theorem State.modBank'_io (s : State) (b : Nat) (f : Bank → Bank) : (s.modBank' b f).io = s.io := rfl
@[simp] theorem State.modBank'_fab (s : State) (b : Nat) (f : Bank → Bank) : (s.modBank' b f).fab = s.fab := rfl
@[simp] theorem State.modBank'_bm (s : State) (b : Nat) (f : Bank → Bank) : (s.modBank' b f).bm = s.bm := rfl
@[simp] theorem State.modBank'_ctx (s : State) (b : Nat) (f : Bank → Bank) : (s.modBank' b f).ctx = s.ctx := rfl
@[simp] theorem State.modBank'_bulk (s : State) (b : Nat) (f : Bank → Bank) : (s.modBank' b f).bulk = s.bulk := rfl
@[simp] theorem State.modBank'_cfg (s : State) (b : Nat) (f : Bank → Bank) : (s.modBank' b f).cfg = s.cfg := rfl
@[simp] theorem State.modBank'_sec (s : State) (b : Nat) (f : Bank → Bank) : (s.modBank' b f).sec = s.sec := rfl
@[simp] theorem State.modBank'_integ (s : State) (b : Nat) (f : Bank → Bank) : (s.modBank' b f).integ = s.integ := rfl
@[simp] theorem State.modBank'_get (s : State) (b : Nat) (f : Bank → Bank) (g : Fld) : (s.modBank' b f).get g = s.get g := rfl
@[simp] theorem State.modBank'_mbox (s : State) (b : Nat) (f : Bank → Bank) (k : Nat) : (s.modBank' b f).mbox k = s.mbox k := rfl

@[simp] theorem State.modPort_pending (s : State) (r : Nat) (f : CpPort → CpPort) : (s.modPort r f).pending = s.pending := rfl
@[simp] theorem State.modPort_regs (s : State) (r : Nat) (f : CpPort → CpPort) : (s.modPort r f).regs = s.regs := rfl
@[simp] theorem State.modPort_free (s : State) (r : Nat) (f : CpPort → CpPort) : (s.modPort r f).free = s.free := rfl
@[simp] theorem State.modPort_aon (s : State) (r : Nat) (f : CpPort → CpPort) : (s.modPort r f).aon = s.aon := rfl
@[simp] theorem State.modPort_mgt (s : State) (r : Nat) (f : CpPort → CpPort) : (s.modPort r f).mgt = s.mgt := rfl
@[simp] theorem State.modPort_therm (s : State) (r : Nat) (f : CpPort → CpPort) : (s.modPort r f).therm = s.therm := rfl
@[simp] theorem State.modPort_clk (s : State) (r : Nat) (f : CpPort → CpPort) : (s.modPort r f).clk = s.clk := rfl
@[simp] theorem State.modPort_noc (s : State) (r : Nat) (f : CpPort → CpPort) : (s.modPort r f).noc = s.noc := rfl
@[simp] theorem State.modPort_lane (s : State) (r : Nat) (f : CpPort → CpPort) : (s.modPort r f).lane = s.lane := rfl
@[simp] theorem State.modPort_link (s : State) (r : Nat) (f : CpPort → CpPort) : (s.modPort r f).link = s.link := rfl
@[simp] theorem State.modPort_test (s : State) (r : Nat) (f : CpPort → CpPort) : (s.modPort r f).test = s.test := rfl
@[simp] theorem State.modPort_io (s : State) (r : Nat) (f : CpPort → CpPort) : (s.modPort r f).io = s.io := rfl
@[simp] theorem State.modPort_fab (s : State) (r : Nat) (f : CpPort → CpPort) : (s.modPort r f).fab = s.fab := rfl
@[simp] theorem State.modPort_bm (s : State) (r : Nat) (f : CpPort → CpPort) : (s.modPort r f).bm = s.bm := rfl
@[simp] theorem State.modPort_ctx (s : State) (r : Nat) (f : CpPort → CpPort) : (s.modPort r f).ctx = s.ctx := rfl
@[simp] theorem State.modPort_bulk (s : State) (r : Nat) (f : CpPort → CpPort) : (s.modPort r f).bulk = s.bulk := rfl
@[simp] theorem State.modPort_cfg (s : State) (r : Nat) (f : CpPort → CpPort) : (s.modPort r f).cfg = s.cfg := rfl
@[simp] theorem State.modPort_sec (s : State) (r : Nat) (f : CpPort → CpPort) : (s.modPort r f).sec = s.sec := rfl
@[simp] theorem State.modPort_integ (s : State) (r : Nat) (f : CpPort → CpPort) : (s.modPort r f).integ = s.integ := rfl
@[simp] theorem State.modPort_get (s : State) (r : Nat) (f : CpPort → CpPort) (g : Fld) : (s.modPort r f).get g = s.get g := rfl
@[simp] theorem State.modPort_mbox (s : State) (r : Nat) (f : CpPort → CpPort) (k : Nat) : (s.modPort r f).mbox k = s.mbox k := rfl

@[simp] theorem State.modVert_pending (s : State) (a : Nat) (f : VGroup → VGroup) : (s.modVert a f).pending = s.pending := rfl
@[simp] theorem State.modVert_regs (s : State) (a : Nat) (f : VGroup → VGroup) : (s.modVert a f).regs = s.regs := rfl
@[simp] theorem State.modVert_free (s : State) (a : Nat) (f : VGroup → VGroup) : (s.modVert a f).free = s.free := rfl
@[simp] theorem State.modVert_aon (s : State) (a : Nat) (f : VGroup → VGroup) : (s.modVert a f).aon = s.aon := rfl
@[simp] theorem State.modVert_mgt (s : State) (a : Nat) (f : VGroup → VGroup) : (s.modVert a f).mgt = s.mgt := rfl
@[simp] theorem State.modVert_clk (s : State) (a : Nat) (f : VGroup → VGroup) : (s.modVert a f).clk = s.clk := rfl
@[simp] theorem State.modVert_noc (s : State) (a : Nat) (f : VGroup → VGroup) : (s.modVert a f).noc = s.noc := rfl
@[simp] theorem State.modVert_lane (s : State) (a : Nat) (f : VGroup → VGroup) : (s.modVert a f).lane = s.lane := rfl
@[simp] theorem State.modVert_link (s : State) (a : Nat) (f : VGroup → VGroup) : (s.modVert a f).link = s.link := rfl
@[simp] theorem State.modVert_test (s : State) (a : Nat) (f : VGroup → VGroup) : (s.modVert a f).test = s.test := rfl
@[simp] theorem State.modVert_io (s : State) (a : Nat) (f : VGroup → VGroup) : (s.modVert a f).io = s.io := rfl
@[simp] theorem State.modVert_fab (s : State) (a : Nat) (f : VGroup → VGroup) : (s.modVert a f).fab = s.fab := rfl
@[simp] theorem State.modVert_bm (s : State) (a : Nat) (f : VGroup → VGroup) : (s.modVert a f).bm = s.bm := rfl
@[simp] theorem State.modVert_ctx (s : State) (a : Nat) (f : VGroup → VGroup) : (s.modVert a f).ctx = s.ctx := rfl
@[simp] theorem State.modVert_cache (s : State) (a : Nat) (f : VGroup → VGroup) : (s.modVert a f).cache = s.cache := rfl
@[simp] theorem State.modVert_bulk (s : State) (a : Nat) (f : VGroup → VGroup) : (s.modVert a f).bulk = s.bulk := rfl
@[simp] theorem State.modVert_cfg (s : State) (a : Nat) (f : VGroup → VGroup) : (s.modVert a f).cfg = s.cfg := rfl
@[simp] theorem State.modVert_sec (s : State) (a : Nat) (f : VGroup → VGroup) : (s.modVert a f).sec = s.sec := rfl
@[simp] theorem State.modVert_integ (s : State) (a : Nat) (f : VGroup → VGroup) : (s.modVert a f).integ = s.integ := rfl
@[simp] theorem State.modVert_get (s : State) (a : Nat) (f : VGroup → VGroup) (g : Fld) : (s.modVert a f).get g = s.get g := rfl
@[simp] theorem State.modVert_mbox (s : State) (a : Nat) (f : VGroup → VGroup) (k : Nat) : (s.modVert a f).mbox k = s.mbox k := rfl

/-! ## Register fields -/

/-- A field reads what was last written to it, cut to its width. -/
theorem State.get_set_same (s : State) (f : Fld) (v : Nat) : (s.set f v).get f = v % 2 ^ f.w :=
  at'_putD_same s.regs f.key f.rst (v % 2 ^ f.w)

/-- A write leaves every field with another key alone. -/
theorem State.get_set_ne (s : State) {f g : Fld} (v : Nat) (h : g.key ≠ f.key) : (s.set f v).get g = s.get g :=
  at'_putD_ne s.regs f.rst g.rst (v % 2 ^ f.w) h

/-! ## Mailboxes -/

/-- Mailbox `m` holds what was last put into it. -/
@[simp] theorem State.mbox_setMbox_same (s : State) (m : Nat) (b : Mbox) : (s.setMbox m b).mbox m = b :=
  at'_putD_same s.mgt.mbx m (Mbox.init m) b

/-- A change of one mailbox leaves the others alone. -/
theorem State.mbox_setMbox_ne (s : State) {m k : Nat} (b : Mbox) (h : k ≠ m) : (s.setMbox m b).mbox k = s.mbox k :=
  at'_putD_ne s.mgt.mbx (Mbox.init m) (Mbox.init k) b h

end Sys2Proof.Machine
end

