-- ==== Sys2Proof/Laws/Begun.lean ====
section
/-! SUPPORT. Beginning a command changes its own mailbox only: whatever is read of the rest of the state reads the same. -/

namespace Sys2Proof.Machine

@[simp] theorem begun_get (s : State) (mb : Nat) (f : Fld) : (s.begun mb).get f = s.get f := (rfl)
@[simp] theorem begun_flag (s : State) (mb : Nat) (f : Fld) : (s.begun mb).flag f = s.flag f := (rfl)
@[simp] theorem begun_bit (s : State) (mb : Nat) (f : Fld) (i : Nat) : (s.begun mb).bit f i = s.bit f i := (rfl)
@[simp] theorem begun_wordOf (s : State) (mb : Nat) (l : List Fld) : (s.begun mb).wordOf l = s.wordOf l := (rfl)
@[simp] theorem begun_cardWord (s : State) (mb : Nat) (a : Nat) : (s.begun mb).cardWord a = s.cardWord a := (rfl)
@[simp] theorem begun_freeBelow (s : State) (mb : Nat) (n : Nat) : (s.begun mb).freeBelow n = s.freeBelow n := (rfl)
@[simp] theorem begun_freeBit (s : State) (mb : Nat) : (s.begun mb).freeBit = s.freeBit := (rfl)
@[simp] theorem begun_held (s : State) (mb : Nat) (f : Nat) : (s.begun mb).held f = s.held f := (rfl)
@[simp] theorem begun_actHeld (s : State) (mb : Nat) (f : Nat) : (s.begun mb).actHeld f = s.actHeld f := (rfl)
@[simp] theorem begun_mode (s : State) (mb : Nat) : (s.begun mb).mode = s.mode := (rfl)
@[simp] theorem begun_runClass (s : State) (mb : Nat) : (s.begun mb).runClass = s.runClass := (rfl)
@[simp] theorem begun_up (s : State) (mb : Nat) : (s.begun mb).up = s.up := (rfl)
@[simp] theorem begun_fcbOn (s : State) (mb : Nat) : (s.begun mb).fcbOn = s.fcbOn := (rfl)
@[simp] theorem begun_topMode (s : State) (mb : Nat) : (s.begun mb).topMode = s.topMode := (rfl)
@[simp] theorem begun_tickAhead (s : State) (mb : Nat) (t : Nat) : (s.begun mb).tickAhead t = s.tickAhead t := (rfl)
@[simp] theorem begun_clocked (s : State) (mb : Nat) (d : Nat) : (s.begun mb).clocked d = s.clocked d := (rfl)
@[simp] theorem begun_hold (s : State) (mb : Nat) : (s.begun mb).hold = s.hold := (rfl)
@[simp] theorem begun_resyncing (s : State) (mb : Nat) (n : Nat) : (s.begun mb).resyncing n = s.resyncing n := (rfl)
@[simp] theorem begun_devMode (s : State) (mb : Nat) : (s.begun mb).devMode = s.devMode := (rfl)
@[simp] theorem begun_testLeft (s : State) (mb : Nat) : (s.begun mb).testLeft = s.testLeft := (rfl)
@[simp] theorem begun_devId (s : State) (mb : Nat) : (s.begun mb).devId = s.devId := (rfl)
@[simp] theorem begun_exitBundle (s : State) (mb : Nat) (d : Nat) : (s.begun mb).exitBundle d = s.exitBundle d := (rfl)
@[simp] theorem begun_isSpaif (s : State) (mb : Nat) (l : Nat) : (s.begun mb).isSpaif l = s.isSpaif l := (rfl)
@[simp] theorem begun_routeOf (s : State) (mb : Nat) (e d : Nat) : (s.begun mb).routeOf e d = s.routeOf e d := (rfl)
@[simp] theorem begun_treeLinks (s : State) (mb : Nat) : (s.begun mb).treeLinks = s.treeLinks := (rfl)
@[simp] theorem begun_shedNi (s : State) (mb : Nat) (e : Nat) (p : Pkt) : (s.begun mb).shedNi e p = s.shedNi e p := (rfl)
@[simp] theorem begun_rxHead (s : State) (mb : Nat) (e : Nat) : (s.begun mb).rxHead e = s.rxHead e := (rfl)
@[simp] theorem begun_segT (s : State) (mb : Nat) (g : Nat) : (s.begun mb).segT g = s.segT g := (rfl)
@[simp] theorem begun_rawPage (s : State) (mb : Nat) (k : Nat) : (s.begun mb).rawPage k = s.rawPage k := (rfl)
@[simp] theorem begun_readPage (s : State) (mb : Nat) (k : Nat) : (s.begun mb).readPage k = s.readPage k := (rfl)
@[simp] theorem begun_bank (s : State) (mb : Nat) (b : Nat) : (s.begun mb).bank b = s.bank b := (rfl)
@[simp] theorem begun_bankCode (s : State) (mb : Nat) (b : Nat) : (s.begun mb).bankCode b = s.bankCode b := (rfl)
@[simp] theorem begun_bankT (s : State) (mb : Nat) (b : Nat) : (s.begun mb).bankT b = s.bankT b := (rfl)
@[simp] theorem begun_pageRows (s : State) (mb : Nat) (b p : Nat) : (s.begun mb).pageRows b p = s.pageRows b p := (rfl)
@[simp] theorem begun_rawLane (s : State) (mb : Nat) (b row k : Nat) : (s.begun mb).rawLane b row k = s.rawLane b row k := (rfl)
@[simp] theorem begun_pageStored (s : State) (mb : Nat) (b p : Nat) : (s.begun mb).pageStored b p = s.pageStored b p := (rfl)
@[simp] theorem begun_pageErrs (s : State) (mb : Nat) (b p t : Nat) (rows : List Nat) : (s.begun mb).pageErrs b p t rows = s.pageErrs b p t rows := (rfl)
@[simp] theorem begun_readCPage (s : State) (mb : Nat) (b p : Nat) : (s.begun mb).readCPage b p = s.readCPage b p := (rfl)
@[simp] theorem begun_readCRow (s : State) (mb : Nat) (b row : Nat) : (s.begun mb).readCRow b row = s.readCRow b row := (rfl)
@[simp] theorem begun_cm (s : State) (mb : Nat) (d : Nat) : (s.begun mb).cm d = s.cm d := (rfl)
@[simp] theorem begun_groupOf (s : State) (mb : Nat) (k : Nat) : (s.begun mb).groupOf k = s.groupOf k := (rfl)
@[simp] theorem begun_wayBank (s : State) (mb : Nat) (d w : Nat) : (s.begun mb).wayBank d w = s.wayBank d w := (rfl)
@[simp] theorem begun_lineWay (s : State) (mb : Nat) (d k : Nat) : (s.begun mb).lineWay d k = s.lineWay d k := (rfl)
@[simp] theorem begun_readLine (s : State) (mb : Nat) (d w st : Nat) : (s.begun mb).readLine d w st = s.readLine d w st := (rfl)
@[simp] theorem begun_victim (s : State) (mb : Nat) (d st : Nat) : (s.begun mb).victim d st = s.victim d st := (rfl)
@[simp] theorem begun_plane (s : State) (mb : Nat) (r p : Nat) : (s.begun mb).plane r p = s.plane r p := (rfl)
@[simp] theorem begun_ctxR (s : State) (mb : Nat) (r : Nat) : (s.begun mb).ctxR r = s.ctxR r := (rfl)
@[simp] theorem begun_planeState (s : State) (mb : Nat) (r p : Nat) : (s.begun mb).planeState r p = s.planeState r p := (rfl)
@[simp] theorem begun_activePlane (s : State) (mb : Nat) (r : Nat) : (s.begun mb).activePlane r = s.activePlane r := (rfl)
@[simp] theorem begun_hasActive (s : State) (mb : Nat) (r : Nat) : (s.begun mb).hasActive r = s.hasActive r := (rfl)
@[simp] theorem begun_planeUses (s : State) (mb : Nat) (r p m : Nat) : (s.begun mb).planeUses r p m = s.planeUses r p m := (rfl)
@[simp] theorem begun_gate (s : State) (mb : Nat) (n : Nat) : (s.begun mb).gate n = s.gate n := (rfl)
@[simp] theorem begun_stopAsked (s : State) (mb : Nat) (r : Nat) : (s.begun mb).stopAsked r = s.stopAsked r := (rfl)
@[simp] theorem begun_netSrc (s : State) (mb : Nat) (n : Nat) : (s.begun mb).netSrc n = s.netSrc n := (rfl)
@[simp] theorem begun_ctxNet (s : State) (mb : Nat) (r : Nat) : (s.begun mb).ctxNet r = s.ctxNet r := (rfl)
@[simp] theorem begun_ctxRuns (s : State) (mb : Nat) (r : Nat) : (s.begun mb).ctxRuns r = s.ctxRuns r := (rfl)
@[simp] theorem begun_lockedTree (s : State) (mb : Nat) (src : Nat) : (s.begun mb).lockedTree src = s.lockedTree src := (rfl)
@[simp] theorem begun_relatedNet (s : State) (mb : Nat) (n : Nat) : (s.begun mb).relatedNet n = s.relatedNet n := (rfl)
@[simp] theorem begun_sourceRuns (s : State) (mb : Nat) (n : Nat) : (s.begun mb).sourceRuns n = s.sourceRuns n := (rfl)
@[simp] theorem begun_enableLow (s : State) (mb : Nat) (n : Nat) : (s.begun mb).enableLow n = s.enableLow n := (rfl)
@[simp] theorem begun_shedPasses (s : State) (mb : Nat) (n : Nat) : (s.begun mb).shedPasses n = s.shedPasses n := (rfl)
@[simp] theorem begun_nextGate (s : State) (mb : Nat) (n : Nat) : (s.begun mb).nextGate n = s.nextGate n := (rfl)
@[simp] theorem begun_passesNext (s : State) (mb : Nat) (n : Nat) : (s.begun mb).passesNext n = s.passesNext n := (rfl)
@[simp] theorem begun_acted (s : State) (mb : Nat) (n : Nat) (falling : Bool) : (s.begun mb).acted n falling = s.acted n falling := (rfl)
@[simp] theorem begun_ctxAligned (s : State) (mb : Nat) (r : Nat) : (s.begun mb).ctxAligned r = s.ctxAligned r := (rfl)
@[simp] theorem begun_srHeld (s : State) (mb : Nat) (r : Nat) : (s.begun mb).srHeld r = s.srHeld r := (rfl)
@[simp] theorem begun_borderCause (s : State) (mb : Nat) (r : Nat) : (s.begun mb).borderCause r = s.borderCause r := (rfl)
@[simp] theorem begun_frames (s : State) (mb : Nat) (r : Nat) : (s.begun mb).frames r = s.frames r := (rfl)
@[simp] theorem begun_output (s : State) (mb : Nat) (a : Nat) : (s.begun mb).output a = s.output a := (rfl)
@[simp] theorem begun_borderPolicy (s : State) (mb : Nat) (c a : Nat) : (s.begun mb).borderPolicy c a = s.borderPolicy c a := (rfl)
@[simp] theorem begun_present (s : State) (mb : Nat) (a : Nat) : (s.begun mb).present a = s.present a := (rfl)
@[simp] theorem begun_ones (s : State) (mb : Nat) (rs : List Nat) : (s.begun mb).ones rs = s.ones rs := (rfl)
@[simp] theorem begun_protPlane (s : State) (mb : Nat) (r p : Nat) : (s.begun mb).protPlane r p = s.protPlane r p := (rfl)
@[simp] theorem begun_plumeState (s : State) (mb : Nat) (k : Nat) : (s.begun mb).plumeState k = s.plumeState k := (rfl)
@[simp] theorem begun_ffVal (s : State) (mb : Nat) (r i : Nat) : (s.begun mb).ffVal r i = s.ffVal r i := (rfl)
@[simp] theorem begun_live (s : State) (mb : Nat) (r : Nat) : (s.begun mb).live r = s.live r := (rfl)
@[simp] theorem begun_netSet (s : State) (mb : Nat) (n : Nat) : (s.begun mb).netSet n = s.netSet n := (rfl)
@[simp] theorem begun_pillarEn (s : State) (mb : Nat) (a tier : Nat) : (s.begun mb).pillarEn a tier = s.pillarEn a tier := (rfl)
@[simp] theorem begun_pillar (s : State) (mb : Nat) (a : Nat) : (s.begun mb).pillar a = s.pillar a := (rfl)
@[simp] theorem begun_cpPort (s : State) (mb : Nat) (r : Nat) : (s.begun mb).cpPort r = s.cpPort r := (rfl)
@[simp] theorem begun_cpReady (s : State) (mb : Nat) (r : Nat) : (s.begun mb).cpReady r = s.cpReady r := (rfl)
@[simp] theorem begun_cpClocked (s : State) (mb : Nat) (r : Nat) : (s.begun mb).cpClocked r = s.cpClocked r := (rfl)
@[simp] theorem begun_cpFerr (s : State) (mb : Nat) (r : Nat) : (s.begun mb).cpFerr r = s.cpFerr r := (rfl)
@[simp] theorem begun_accepted (s : State) (mb : Nat) (r : Nat) : (s.begun mb).accepted r = s.accepted r := (rfl)
@[simp] theorem begun_bankOut (s : State) (mb : Nat) (b : Nat) : (s.begun mb).bankOut b = s.bankOut b := (rfl)
@[simp] theorem begun_bankTested (s : State) (mb : Nat) (b : Nat) : (s.begun mb).bankTested b = s.bankTested b := (rfl)
@[simp] theorem begun_bankOff (s : State) (mb : Nat) (b : Nat) : (s.begun mb).bankOff b = s.bankOff b := (rfl)
@[simp] theorem begun_bankServes (s : State) (mb : Nat) (b : Nat) : (s.begun mb).bankServes b = s.bankServes b := (rfl)
@[simp] theorem begun_judgePort (s : State) (mb : Nat) (b r : Nat) (q : CpWait) : (s.begun mb).judgePort b r q = s.judgePort b r q := (rfl)
@[simp] theorem begun_winMatches (s : State) (mb : Nat) (w : Nat) (p : Pkt) : (s.begun mb).winMatches w p = s.winMatches w p := (rfl)
@[simp] theorem begun_ownerIs (s : State) (mb : Nat) (o : Nat) (p : Pkt) : (s.begun mb).ownerIs o p = s.ownerIs o p := (rfl)
@[simp] theorem begun_badOffset (s : State) (mb : Nat) (d : Nat) (p : Pkt) : (s.begun mb).badOffset d p = s.badOffset d p := (rfl)
@[simp] theorem begun_judgeNoc (s : State) (mb : Nat) (b e : Nat) (p : Pkt) : (s.begun mb).judgeNoc b e p = s.judgeNoc b e p := (rfl)
@[simp] theorem begun_bankErr (s : State) (mb : Nat) (b status : Nat) : (s.begun mb).bankErr b status = s.bankErr b status := (rfl)
@[simp] theorem begun_handRefused (s : State) (mb : Nat) (b : Nat) : (s.begun mb).handRefused b = s.handRefused b := (rfl)
@[simp] theorem begun_markRows (s : State) (mb : Nat) (b w : Nat) : (s.begun mb).markRows b w = s.markRows b w := (rfl)
@[simp] theorem begun_portCands (s : State) (mb : Nat) (b : Nat) : (s.begun mb).portCands b = s.portCands b := (rfl)
@[simp] theorem begun_nocCands (s : State) (mb : Nat) (b : Nat) : (s.begun mb).nocCands b = s.nocCands b := (rfl)
@[simp] theorem begun_spillDue (s : State) (mb : Nat) (b : Nat) : (s.begun mb).spillDue b = s.spillDue b := (rfl)
@[simp] theorem begun_cands (s : State) (mb : Nat) (b : Nat) : (s.begun mb).cands b = s.cands b := (rfl)
@[simp] theorem begun_bankSpare (s : State) (mb : Nat) (b : Nat) : (s.begun mb).bankSpare b = s.bankSpare b := (rfl)
@[simp] theorem begun_oldRemains (s : State) (mb : Nat) (b : Nat) : (s.begun mb).oldRemains b = s.oldRemains b := (rfl)
@[simp] theorem begun_clearDenied (s : State) (mb : Nat) (b : Nat) : (s.begun mb).clearDenied b = s.clearDenied b := (rfl)
@[simp] theorem begun_bankBusy (s : State) (mb : Nat) (b : Nat) : (s.begun mb).bankBusy b = s.bankBusy b := (rfl)
@[simp] theorem begun_groupBusy (s : State) (mb : Nat) (d : Nat) : (s.begun mb).groupBusy d = s.groupBusy d := (rfl)
@[simp] theorem begun_hardRuns (s : State) (mb : Nat) (r : Nat) : (s.begun mb).hardRuns r = s.hardRuns r := (rfl)
@[simp] theorem begun_bmCfg (s : State) (mb : Nat) (m k : Nat) : (s.begun mb).bmCfg m k = s.bmCfg m k := (rfl)
@[simp] theorem begun_portRuns (s : State) (mb : Nat) (m k : Nat) : (s.begun mb).portRuns m k = s.portRuns m k := (rfl)
@[simp] theorem begun_bmPort (s : State) (mb : Nat) (m k : Nat) : (s.begun mb).bmPort m k = s.bmPort m k := (rfl)
@[simp] theorem begun_portAt (s : State) (mb : Nat) (m k : Nat) (p : Option BmIn) : (s.begun mb).portAt m k p = s.portAt m k p := (rfl)
@[simp] theorem begun_bmInUse (s : State) (mb : Nat) (m : Nat) : (s.begun mb).bmInUse m = s.bmInUse m := (rfl)
@[simp] theorem begun_abReg (s : State) (mb : Nat) (r ab : Nat) : (s.begun mb).abReg r ab = s.abReg r ab := (rfl)
@[simp] theorem begun_abCfg (s : State) (mb : Nat) (r k : Nat) : (s.begun mb).abCfg r k = s.abCfg r k := (rfl)
@[simp] theorem begun_abRuns (s : State) (mb : Nat) (r k : Nat) : (s.begun mb).abRuns r k = s.abRuns r k := (rfl)
@[simp] theorem begun_bulkWaits (s : State) (mb : Nat) (p : Pkt) (k : Nat) : (s.begun mb).bulkWaits p k = s.bulkWaits p k := (rfl)
@[simp] theorem begun_bulkScrubs (s : State) (mb : Nat) (k : Nat) : (s.begun mb).bulkScrubs k = s.bulkScrubs k := (rfl)
@[simp] theorem begun_scrubPass (s : State) (mb : Nat) (h : Nat) : (s.begun mb).scrubPass h = s.scrubPass h := (rfl)
@[simp] theorem begun_scrubSkips (s : State) (mb : Nat) (b : Nat) : (s.begun mb).scrubSkips b = s.scrubSkips b := (rfl)
@[simp] theorem begun_scrubWaits (s : State) (mb : Nat) (b : Nat) : (s.begun mb).scrubWaits b = s.scrubWaits b := (rfl)
@[simp] theorem begun_nextUnit (s : State) (mb : Nat) (x : Scrub) : (s.begun mb).nextUnit x = s.nextUnit x := (rfl)
@[simp] theorem begun_scrubRuns (s : State) (mb : Nat) : (s.begun mb).scrubRuns = s.scrubRuns := (rfl)
@[simp] theorem begun_firstUnit (s : State) (mb : Nat) (t first row : Nat) : (s.begun mb).firstUnit t first row = s.firstUnit t first row := (rfl)
@[simp] theorem begun_newScrub (s : State) (mb : Nat) (handle t first last rowFirst rowLast : Nat) : (s.begun mb).newScrub handle t first last rowFirst rowLast = s.newScrub handle t first last rowFirst rowLast := (rfl)
@[simp] theorem begun_bgScrub (s : State) (mb : Nat) (t : Nat) : (s.begun mb).bgScrub t = s.bgScrub t := (rfl)
@[simp] theorem begun_unlocked (s : State) (mb : Nat) (f : Nat) : (s.begun mb).unlocked f = s.unlocked f := (rfl)
@[simp] theorem begun_protBm (s : State) (mb : Nat) (m : Nat) : (s.begun mb).protBm m = s.protBm m := (rfl)
@[simp] theorem begun_splitOpen (s : State) (mb : Nat) (kind unit : Nat) : (s.begun mb).splitOpen kind unit = s.splitOpen kind unit := (rfl)
@[simp] theorem begun_splitTested (s : State) (mb : Nat) (kind unit : Nat) : (s.begun mb).splitTested kind unit = s.splitTested kind unit := (rfl)
@[simp] theorem begun_rawUnit (s : State) (mb : Nat) (kind unit : Nat) : (s.begun mb).rawUnit kind unit = s.rawUnit kind unit := (rfl)
@[simp] theorem begun_splitBuf (s : State) (mb : Nat) (n : Nat) : (s.begun mb).splitBuf n = s.splitBuf n := (rfl)
@[simp] theorem begun_segCfg (s : State) (mb : Nat) (g : Nat) : (s.begun mb).segCfg g = s.segCfg g := (rfl)
@[simp] theorem begun_bulkStat (s : State) (mb : Nat) (k : Nat) : (s.begun mb).bulkStat k = s.bulkStat k := (rfl)
@[simp] theorem begun_segTested (s : State) (mb : Nat) (g : Nat) : (s.begun mb).segTested g = s.segTested g := (rfl)
@[simp] theorem begun_scrubAsks (s : State) (mb : Nat) (b : Nat) : (s.begun mb).scrubAsks b = s.scrubAsks b := (rfl)
@[simp] theorem begun_synth (s : State) (mb : Nat) (d : Nat) : (s.begun mb).synth d = s.synth d := (rfl)
@[simp] theorem begun_timingLocked (s : State) (mb : Nat) : (s.begun mb).timingLocked = s.timingLocked := (rfl)
@[simp] theorem begun_mclkOf (s : State) (mb : Nat) (kHz : Nat) : (s.begun mb).mclkOf kHz = s.mclkOf kHz := (rfl)
@[simp] theorem begun_mclkSource (s : State) (mb : Nat) : (s.begun mb).mclkSource = s.mclkSource := (rfl)
@[simp] theorem begun_tickAligned (s : State) (mb : Nat) (d : Nat) : (s.begun mb).tickAligned d = s.tickAligned d := (rfl)
@[simp] theorem begun_fgMax (s : State) (mb : Nat) : (s.begun mb).fgMax = s.fgMax := (rfl)
@[simp] theorem begun_seamUses (s : State) (mb : Nat) (t : Nat) : (s.begun mb).seamUses t = s.seamUses t := (rfl)
@[simp] theorem begun_settingFreqOk (s : State) (mb : Nat) (dom mode n d : Nat) : (s.begun mb).settingFreqOk dom mode n d = s.settingFreqOk dom mode n d := (rfl)
@[simp] theorem begun_lst (s : State) (mb : Nat) (l : Nat) : (s.begun mb).lst l = s.lst l := (rfl)
@[simp] theorem begun_trg (s : State) (mb : Nat) (l : Nat) : (s.begun mb).trg l = s.trg l := (rfl)
@[simp] theorem begun_markLanes (s : State) (mb : Nat) (t : Nat) : (s.begun mb).markLanes t = s.markLanes t := (rfl)
@[simp] theorem begun_sched (s : State) (mb : Nat) (h : Nat) : (s.begun mb).sched h = s.sched h := (rfl)
@[simp] theorem begun_nextTick (s : State) (mb : Nat) : (s.begun mb).nextTick = s.nextTick := (rfl)
@[simp] theorem begun_loadAt (s : State) (mb : Nat) : (s.begun mb).loadAt = s.loadAt := (rfl)
@[simp] theorem begun_loadDue (s : State) (mb : Nat) : (s.begun mb).loadDue = s.loadDue := (rfl)
@[simp] theorem begun_xing (s : State) (mb : Nat) (f : Nat) : (s.begun mb).xing f = s.xing f := (rfl)
@[simp] theorem begun_freeHandles (s : State) (mb : Nat) : (s.begun mb).freeHandles = s.freeHandles := (rfl)
@[simp] theorem begun_domainKHz (s : State) (mb : Nat) (d : Nat) : (s.begun mb).domainKHz d = s.domainKHz d := (rfl)
@[simp] theorem begun_laneState (s : State) (mb : Nat) (l : Nat) : (s.begun mb).laneState l = s.laneState l := (rfl)
@[simp] theorem begun_bringing (s : State) (mb : Nat) (l : Nat) : (s.begun mb).bringing l = s.bringing l := (rfl)
@[simp] theorem begun_laneK (s : State) (mb : Nat) (l : Nat) : (s.begun mb).laneK l = s.laneK l := (rfl)
@[simp] theorem begun_baseR (s : State) (mb : Nat) (l : Nat) : (s.begun mb).baseR l = s.baseR l := (rfl)
@[simp] theorem begun_rateOk (s : State) (mb : Nat) (l : Nat) : (s.begun mb).rateOk l = s.rateOk l := (rfl)
@[simp] theorem begun_laneAligned (s : State) (mb : Nat) (l : Nat) : (s.begun mb).laneAligned l = s.laneAligned l := (rfl)
@[simp] theorem begun_fixedMode (s : State) (mb : Nat) (l : Nat) : (s.begun mb).fixedMode l = s.fixedMode l := (rfl)
@[simp] theorem begun_bundleOf (s : State) (mb : Nat) (l : Nat) : (s.begun mb).bundleOf l = s.bundleOf l := (rfl)
@[simp] theorem begun_bundleLanes (s : State) (mb : Nat) (f : Nat) : (s.begun mb).bundleLanes f = s.bundleLanes f := (rfl)
@[simp] theorem begun_bdl (s : State) (mb : Nat) (f : Nat) : (s.begun mb).bdl f = s.bdl f := (rfl)
@[simp] theorem begun_epochOf (s : State) (mb : Nat) (f : Nat) : (s.begun mb).epochOf f = s.epochOf f := (rfl)
@[simp] theorem begun_streamOpen (s : State) (mb : Nat) (f : Nat) : (s.begun mb).streamOpen f = s.streamOpen f := (rfl)
@[simp] theorem begun_pairing (s : State) (mb : Nat) : (s.begun mb).pairing = s.pairing := (rfl)
@[simp] theorem begun_pairReady (s : State) (mb : Nat) : (s.begun mb).pairReady = s.pairReady := (rfl)
@[simp] theorem begun_laneRecord (s : State) (mb : Nat) (l : Nat) : (s.begun mb).laneRecord l = s.laneRecord l := (rfl)
@[simp] theorem begun_rtrState (s : State) (mb : Nat) (n : Nat) : (s.begun mb).rtrState n = s.rtrState n := (rfl)
@[simp] theorem begun_penAct (s : State) (mb : Nat) (n : Nat) : (s.begun mb).penAct n = s.penAct n := (rfl)
@[simp] theorem begun_vc2Act (s : State) (mb : Nat) (n : Nat) : (s.begun mb).vc2Act n = s.vc2Act n := (rfl)
@[simp] theorem begun_bufFlits (s : State) (mb : Nat) (n port : Nat) (p : Pkt) : (s.begun mb).bufFlits n port p = s.bufFlits n port p := (rfl)
@[simp] theorem begun_bufCap (s : State) (mb : Nat) (n port : Nat) : (s.begun mb).bufCap n port = s.bufCap n port := (rfl)
@[simp] theorem begun_roomFor (s : State) (mb : Nat) (inp m ip : Nat) (p : Pkt) : (s.begun mb).roomFor inp m ip p = s.roomFor inp m ip p := (rfl)
@[simp] theorem begun_headsAt (s : State) (mb : Nat) (n port : Nat) : (s.begun mb).headsAt n port = s.headsAt n port := (rfl)
@[simp] theorem begun_hopRoom (s : State) (mb : Nat) (n : Nat) (w : Worm) : (s.begun mb).hopRoom n w = s.hopRoom n w := (rfl)
@[simp] theorem begun_hopActs (s : State) (mb : Nat) (n : Nat) (w : Worm) : (s.begun mb).hopActs n w = s.hopActs n w := (rfl)
@[simp] theorem begun_regionDown (s : State) (mb : Nat) (r : Nat) : (s.begun mb).regionDown r = s.regionDown r := (rfl)
@[simp] theorem begun_asleep (s : State) (mb : Nat) (e : Nat) : (s.begun mb).asleep e = s.asleep e := (rfl)
@[simp] theorem begun_nocRuns (s : State) (mb : Nat) : (s.begun mb).nocRuns = s.nocRuns := (rfl)
@[simp] theorem begun_borderBlocks (s : State) (mb : Nat) (r : Nat) : (s.begun mb).borderBlocks r = s.borderBlocks r := (rfl)
@[simp] theorem begun_npClocked (s : State) (mb : Nat) (r : Nat) : (s.begun mb).npClocked r = s.npClocked r := (rfl)
@[simp] theorem begun_npOut (s : State) (mb : Nat) (r : Nat) : (s.begun mb).npOut r = s.npOut r := (rfl)
@[simp] theorem begun_underTest (s : State) (mb : Nat) (f : Nat) : (s.begun mb).underTest f = s.underTest f := (rfl)
@[simp] theorem begun_niEn (s : State) (mb : Nat) (e : Nat) : (s.begun mb).niEn e = s.niEn e := (rfl)
@[simp] theorem begun_delivers (s : State) (mb : Nat) (l : Nat) : (s.begun mb).delivers l = s.delivers l := (rfl)
@[simp] theorem begun_trainingBlock (s : State) (mb : Nat) (l step tick16 : Nat) : (s.begun mb).trainingBlock l step tick16 = s.trainingBlock l step tick16 := (rfl)
@[simp] theorem begun_alignReady (s : State) (mb : Nat) (l : Nat) : (s.begun mb).alignReady l = s.alignReady l := (rfl)
@[simp] theorem begun_stageReason (s : State) (mb : Nat) (l : Nat) : (s.begun mb).stageReason l = s.stageReason l := (rfl)
@[simp] theorem begun_laneTested (s : State) (mb : Nat) (l : Nat) : (s.begun mb).laneTested l = s.laneTested l := (rfl)
@[simp] theorem begun_trgPort (s : State) (mb : Nat) (l : Nat) : (s.begun mb).trgPort l = s.trgPort l := (rfl)
@[simp] theorem begun_markTick (s : State) (mb : Nat) (l : Nat) : (s.begun mb).markTick l = s.markTick l := (rfl)
@[simp] theorem begun_trgBlocked (s : State) (mb : Nat) (l : Nat) : (s.begun mb).trgBlocked l = s.trgBlocked l := (rfl)
@[simp] theorem begun_nextPacket (s : State) (mb : Nat) (f : Nat) : (s.begun mb).nextPacket f = s.nextPacket f := (rfl)
@[simp] theorem begun_timingLinks (s : State) (mb : Nat) : (s.begun mb).timingLinks = s.timingLinks := (rfl)
@[simp] theorem begun_prio (s : State) (mb : Nat) : (s.begun mb).prio = s.prio := (rfl)
@[simp] theorem begun_candidate (s : State) (mb : Nat) : (s.begun mb).candidate = s.candidate := (rfl)
@[simp] theorem begun_offers (s : State) (mb : Nat) : (s.begun mb).offers = s.offers := (rfl)
@[simp] theorem begun_bestOffer (s : State) (mb : Nat) : (s.begun mb).bestOffer = s.bestOffer := (rfl)
@[simp] theorem begun_crownHold (s : State) (mb : Nat) : (s.begun mb).crownHold = s.crownHold := (rfl)
@[simp] theorem begun_psToSteps (s : State) (mb : Nat) (f : Nat) (ps : Int) : (s.begun mb).psToSteps f ps = s.psToSteps f ps := (rfl)
@[simp] theorem begun_offset (s : State) (mb : Nat) (f : Nat) : (s.begun mb).offset f = s.offset f := (rfl)
@[simp] theorem begun_tickSteps (s : State) (mb : Nat) (l : Nat) : (s.begun mb).tickSteps l = s.tickSteps l := (rfl)
@[simp] theorem begun_swapReason (s : State) (mb : Nat) (r q : Nat) (host : Bool) : (s.begun mb).swapReason r q host = s.swapReason r q host := (rfl)
@[simp] theorem begun_waitingSets (s : State) (mb : Nat) (r : Nat) : (s.begun mb).waitingSets r = s.waitingSets r := (rfl)
@[simp] theorem begun_since (s : State) (mb : Nat) (t : Nat) : (s.begun mb).since t = s.since t := (rfl)
@[simp] theorem begun_setMembers (s : State) (mb : Nat) (k : Nat) : (s.begun mb).setMembers k = s.setMembers k := (rfl)
@[simp] theorem begun_takenByLower (s : State) (mb : Nat) (k t r : Nat) : (s.begun mb).takenByLower k t r = s.takenByLower k t r := (rfl)
@[simp] theorem begun_readiness (s : State) (mb : Nat) (r q : Nat) : (s.begun mb).readiness r q = s.readiness r q := (rfl)
@[simp] theorem begun_rotOrder (s : State) (mb : Nat) (r : Nat) : (s.begun mb).rotOrder r = s.rotOrder r := (rfl)
@[simp] theorem begun_capOf (s : State) (mb : Nat) (r p : Nat) (isShadow atSwap : Bool) (ffs : SMap Nat) : (s.begun mb).capOf r p isShadow atSwap ffs = s.capOf r p isShadow atSwap ffs := (rfl)
@[simp] theorem begun_capBarred (s : State) (mb : Nat) (r p : Nat) : (s.begun mb).capBarred r p = s.capBarred r p := (rfl)
@[simp] theorem begun_rotates (s : State) (mb : Nat) (r p : Nat) : (s.begun mb).rotates r p = s.rotates r p := (rfl)
@[simp] theorem begun_armedPlane (s : State) (mb : Nat) (r p : Nat) : (s.begun mb).armedPlane r p = s.armedPlane r p := (rfl)
@[simp] theorem begun_ctxTooFast (s : State) (mb : Nat) (r : Nat) : (s.begun mb).ctxTooFast r = s.ctxTooFast r := (rfl)
@[simp] theorem begun_ch (s : State) (mb : Nat) (n : Nat) : (s.begun mb).ch n = s.ch n := (rfl)
@[simp] theorem begun_ioBank (s : State) (mb : Nat) (b : Nat) : (s.begun mb).ioBank b = s.ioBank b := (rfl)
@[simp] theorem begun_group (s : State) (mb : Nat) (k : Nat) : (s.begun mb).group k = s.group k := (rfl)
@[simp] theorem begun_vioDecl (s : State) (mb : Nat) (b : Nat) : (s.begun mb).vioDecl b = s.vioDecl b := (rfl)
@[simp] theorem begun_vioOk (s : State) (mb : Nat) (b : Nat) : (s.begun mb).vioOk b = s.vioOk b := (rfl)
@[simp] theorem begun_bankLive (s : State) (mb : Nat) (b : Nat) : (s.begun mb).bankLive b = s.bankLive b := (rfl)
@[simp] theorem begun_pinOut (s : State) (mb : Nat) (n k : Nat) : (s.begun mb).pinOut n k = s.pinOut n k := (rfl)
@[simp] theorem begun_pinRuns (s : State) (mb : Nat) (n : Nat) : (s.begun mb).pinRuns n = s.pinRuns n := (rfl)
@[simp] theorem begun_pinSlice (s : State) (mb : Nat) (b : Nat) : (s.begun mb).pinSlice b = s.pinSlice b := (rfl)
@[simp] theorem begun_oddOfPair (s : State) (mb : Nat) (n : Nat) : (s.begun mb).oddOfPair n = s.oddOfPair n := (rfl)
@[simp] theorem begun_pinAlone (s : State) (mb : Nat) (n : Nat) : (s.begun mb).pinAlone n = s.pinAlone n := (rfl)
@[simp] theorem begun_pinDrive (s : State) (mb : Nat) (n : Nat) : (s.begun mb).pinDrive n = s.pinDrive n := (rfl)
@[simp] theorem begun_pinInput (s : State) (mb : Nat) (n : Nat) : (s.begun mb).pinInput n = s.pinInput n := (rfl)
@[simp] theorem begun_pinsOpen (s : State) (mb : Nat) : (s.begun mb).pinsOpen = s.pinsOpen := (rfl)
@[simp] theorem begun_binTable (s : State) (mb : Nat) (core : Nat) : (s.begun mb).binTable core = s.binTable core := (rfl)
@[simp] theorem begun_onSpare (s : State) (mb : Nat) (n : Nat) (p x : CoreStamp) : (s.begun mb).onSpare n p x = s.onSpare n p x := (rfl)
@[simp] theorem begun_records (s : State) (mb : Nat) (n : Nat) (falling : Bool) (sincePs : Nat) : (s.begun mb).records n falling sincePs = s.records n falling sincePs := (rfl)
@[simp] theorem begun_nextChannel (s : State) (mb : Nat) (b k : Nat) : (s.begun mb).nextChannel b k = s.nextChannel b k := (rfl)
@[simp] theorem begun_wmNext (s : State) (mb : Nat) (b w : Nat) : (s.begun mb).wmNext b w = s.wmNext b w := (rfl)
@[simp] theorem begun_calPending (s : State) (mb : Nat) (n : Nat) : (s.begun mb).calPending n = s.calPending n := (rfl)
@[simp] theorem begun_nextTurn (s : State) (mb : Nat) (k : Nat) : (s.begun mb).nextTurn k = s.nextTurn k := (rfl)
@[simp] theorem begun_namedTick (s : State) (mb : Nat) : (s.begun mb).namedTick = s.namedTick := (rfl)
@[simp] theorem begun_tdcFs (s : State) (mb : Nat) : (s.begun mb).tdcFs = s.tdcFs := (rfl)
@[simp] theorem begun_dacLive (s : State) (mb : Nat) : (s.begun mb).dacLive = s.dacLive := (rfl)
@[simp] theorem begun_tdcTested (s : State) (mb : Nat) (n : Nat) : (s.begun mb).tdcTested n = s.tdcTested n := (rfl)
@[simp] theorem begun_frozen (s : State) (mb : Nat) (r : Nat) : (s.begun mb).frozen r = s.frozen r := (rfl)
@[simp] theorem begun_wirePasses (s : State) (mb : Nat) (a : Nat) : (s.begun mb).wirePasses a = s.wirePasses a := (rfl)
@[simp] theorem begun_launches (s : State) (mb : Nat) (p : Nat) : (s.begun mb).launches p = s.launches p := (rfl)
@[simp] theorem begun_capture (s : State) (mb : Nat) (p k : Nat) : (s.begun mb).capture p k = s.capture p k := (rfl)
@[simp] theorem begun_seamRuns (s : State) (mb : Nat) (p : Nat) : (s.begun mb).seamRuns p = s.seamRuns p := (rfl)
@[simp] theorem begun_wantedPass (s : State) (mb : Nat) (n : Nat) : (s.begun mb).wantedPass n = s.wantedPass n := (rfl)
@[simp] theorem begun_calUnit (s : State) (mb : Nat) (kind u : Nat) : (s.begun mb).calUnit kind u = s.calUnit kind u := (rfl)
@[simp] theorem begun_calSection (s : State) (mb : Nat) (kind : Nat) : (s.begun mb).calSection kind = s.calSection kind := (rfl)
@[simp] theorem begun_calRecord (s : State) (mb : Nat) (scope : Nat) : (s.begun mb).calRecord scope = s.calRecord scope := (rfl)
@[simp] theorem begun_calTested (s : State) (mb : Nat) (kind u : Nat) : (s.begun mb).calTested kind u = s.calTested kind u := (rfl)
@[simp] theorem begun_calStatus (s : State) (mb : Nat) (l : List CalSec) : (s.begun mb).calStatus l = s.calStatus l := (rfl)
@[simp] theorem begun_calibrating (s : State) (mb : Nat) (c : Nat) : (s.begun mb).calibrating c = s.calibrating c := (rfl)
@[simp] theorem begun_cfgRuns (s : State) (mb : Nat) : (s.begun mb).cfgRuns = s.cfgRuns := (rfl)
@[simp] theorem begun_slot (s : State) (mb : Nat) (k : Nat) : (s.begun mb).slot k = s.slot k := (rfl)
@[simp] theorem begun_slotRead (s : State) (mb : Nat) (k : Nat) : (s.begun mb).slotRead k = s.slotRead k := (rfl)
@[simp] theorem begun_ready (s : State) (mb : Nat) (l : Load) (n : Nat) : (s.begun mb).ready l n = s.ready l n := (rfl)
@[simp] theorem begun_slotShort (s : State) (mb : Nat) (l : Load) (n : Nat) : (s.begun mb).slotShort l n = s.slotShort l n := (rfl)
@[simp] theorem begun_fuseBits (s : State) (mb : Nat) (a n : Nat) : (s.begun mb).fuseBits a n = s.fuseBits a n := (rfl)
@[simp] theorem begun_segKey (s : State) (mb : Nat) (l : Load) : (s.begun mb).segKey l = s.segKey l := (rfl)
@[simp] theorem begun_loadCommitted (s : State) (mb : Nat) : (s.begun mb).loadCommitted = s.loadCommitted := (rfl)
@[simp] theorem begun_otherPlanes (s : State) (mb : Nat) (r : Nat) (skip : List Nat) : (s.begun mb).otherPlanes r skip = s.otherPlanes r skip := (rfl)
@[simp] theorem begun_netCheck (s : State) (mb : Nat) (r : Nat) (pl : Plane) (others : List Nat) : (s.begun mb).netCheck r pl others = s.netCheck r pl others := (rfl)
@[simp] theorem begun_secCheck (s : State) (mb : Nat) (l : Load) : (s.begun mb).secCheck l = s.secCheck l := (rfl)
@[simp] theorem begun_landable (s : State) (mb : Nat) (b : Nat) : (s.begun mb).landable b = s.landable b := (rfl)
@[simp] theorem begun_portFree (s : State) (mb : Nat) : (s.begun mb).portFree = s.portFree := (rfl)
@[simp] theorem begun_claimRefused (s : State) (mb : Nat) (r p : Nat) : (s.begun mb).claimRefused r p = s.claimRefused r p := (rfl)
@[simp] theorem begun_plainWord (s : State) (mb : Nat) (l : Load) (k : Nat) : (s.begun mb).plainWord l k = s.plainWord l k := (rfl)
@[simp] theorem begun_loadPlanes (s : State) (mb : Nat) (l : Load) : (s.begun mb).loadPlanes l = s.loadPlanes l := (rfl)
@[simp] theorem begun_declaredCode (s : State) (mb : Nat) (l : Load) (r m : Nat) : (s.begun mb).declaredCode l r m = s.declaredCode l r m := (rfl)
@[simp] theorem begun_bodyWords (s : State) (mb : Nat) (l : Load) (h : Nat) : (s.begun mb).bodyWords l h = s.bodyWords l h := (rfl)
@[simp] theorem begun_owAllowed (s : State) (mb : Nat) (k : Nat) : (s.begun mb).owAllowed k = s.owAllowed k := (rfl)
@[simp] theorem begun_hasPlanes (s : State) (mb : Nat) (ks : List Nat) : (s.begun mb).hasPlanes ks = s.hasPlanes ks := (rfl)
@[simp] theorem begun_payloadShort (s : State) (mb : Nat) (l : Load) : (s.begun mb).payloadShort l = s.payloadShort l := (rfl)
@[simp] theorem begun_complete (s : State) (mb : Nat) (l : Load) : (s.begun mb).complete l = s.complete l := (rfl)
@[simp] theorem begun_planeFits (s : State) (mb : Nat) (l : Load) (k : Nat) (pl : Plane) : (s.begun mb).planeFits l k pl = s.planeFits l k pl := (rfl)
@[simp] theorem begun_waitsFirst (s : State) (mb : Nat) (l : Load) : (s.begun mb).waitsFirst l = s.waitsFirst l := (rfl)
@[simp] theorem begun_owLoad (s : State) (mb : Nat) (r : Nat) : (s.begun mb).owLoad r = s.owLoad r := (rfl)
@[simp] theorem begun_inUse (s : State) (mb : Nat) (d : Nat) : (s.begun mb).inUse d = s.inUse d := (rfl)
@[simp] theorem begun_allLocked (s : State) (mb : Nat) : (s.begun mb).allLocked = s.allLocked := (rfl)
@[simp] theorem begun_blkCode (s : State) (mb : Nat) (i : Nat) : (s.begun mb).blkCode i = s.blkCode i := (rfl)
@[simp] theorem begun_hashSet (s : State) (mb : Nat) (k : Nat) : (s.begun mb).hashSet k = s.hashSet k := (rfl)
@[simp] theorem begun_pubMatches (s : State) (mb : Nat) (k : Nat) : (s.begun mb).pubMatches k = s.pubMatches k := (rfl)
@[simp] theorem begun_fuseKeyGood (s : State) (mb : Nat) : (s.begun mb).fuseKeyGood = s.fuseKeyGood := (rfl)
@[simp] theorem begun_bbkLoad (s : State) (mb : Nat) : (s.begun mb).bbkLoad = s.bbkLoad := (rfl)
@[simp] theorem begun_fuseShown (s : State) (mb : Nat) (a : Nat) : (s.begun mb).fuseShown a = s.fuseShown a := (rfl)
@[simp] theorem begun_refreshing (s : State) (mb : Nat) (k : Nat) : (s.begun mb).refreshing k = s.refreshing k := (rfl)
@[simp] theorem begun_slotInUse (s : State) (mb : Nat) (k : Nat) : (s.begun mb).slotInUse k = s.slotInUse k := (rfl)
@[simp] theorem begun_slotTested (s : State) (mb : Nat) (k : Nat) : (s.begun mb).slotTested k = s.slotTested k := (rfl)
@[simp] theorem begun_slotBarred (s : State) (mb : Nat) (k : Nat) : (s.begun mb).slotBarred k = s.slotBarred k := (rfl)
@[simp] theorem begun_sideReserved (s : State) (mb : Nat) (l : Nat) : (s.begun mb).sideReserved l = s.sideReserved l := (rfl)
@[simp] theorem begun_bootLane (s : State) (mb : Nat) (l : Nat) : (s.begun mb).bootLane l = s.bootLane l := (rfl)
@[simp] theorem begun_kindAllowed (s : State) (mb : Nat) (kind : Nat) : (s.begun mb).kindAllowed kind = s.kindAllowed kind := (rfl)
@[simp] theorem begun_vgroup (s : State) (mb : Nat) (a : Nat) : (s.begun mb).vgroup a = s.vgroup a := (rfl)
@[simp] theorem begun_spareTaken (s : State) (mb : Nat) (a k : Nat) : (s.begun mb).spareTaken a k = s.spareTaken a k := (rfl)
@[simp] theorem begun_freeSpare (s : State) (mb : Nat) (a : Nat) : (s.begun mb).freeSpare a = s.freeSpare a := (rfl)
@[simp] theorem begun_testUnits (s : State) (mb : Nat) (i : Nat) : (s.begun mb).testUnits i = s.testUnits i := (rfl)
@[simp] theorem begun_patterns (s : State) (mb : Nat) (i u : Nat) : (s.begun mb).patterns i u = s.patterns i u := (rfl)
@[simp] theorem begun_progCount (s : State) (mb : Nat) (i : Nat) (units : List Nat) : (s.begun mb).progCount i units = s.progCount i units := (rfl)
@[simp] theorem begun_isFenced (s : State) (mb : Nat) (slice unit : Nat) : (s.begun mb).isFenced slice unit = s.isFenced slice unit := (rfl)
@[simp] theorem begun_unrepairable (s : State) (mb : Nat) (recs : List Nat) : (s.begun mb).unrepairable recs = s.unrepairable recs := (rfl)
@[simp] theorem begun_pathRuns (s : State) (mb : Nat) (path lane : Nat) : (s.begun mb).pathRuns path lane = s.pathRuns path lane := (rfl)
@[simp] theorem begun_mbState (s : State) (mb : Nat) (m : Nat) : (s.begun mb).mbState m = s.mbState m := (rfl)
@[simp] theorem begun_drained (s : State) (mb : Nat) (f : Nat) : (s.begun mb).drained f = s.drained f := (rfl)
@[simp] theorem begun_planeFlags (s : State) (mb : Nat) (r p : Nat) : (s.begun mb).planeFlags r p = s.planeFlags r p := (rfl)
@[simp] theorem begun_repairKnown (s : State) (mb : Nat) (k f : Nat) : (s.begun mb).repairKnown k f = s.repairKnown k f := (rfl)
@[simp] theorem begun_pounceRuns (s : State) (mb : Nat) : (s.begun mb).pounceRuns = s.pounceRuns := (rfl)
@[simp] theorem begun_pounceState (s : State) (mb : Nat) : (s.begun mb).pounceState = s.pounceState := (rfl)
@[simp] theorem begun_repairsQueued (s : State) (mb : Nat) : (s.begun mb).repairsQueued = s.repairsQueued := (rfl)
@[simp] theorem begun_passPlane (s : State) (mb : Nat) (r n : Nat) : (s.begun mb).passPlane r n = s.passPlane r n := (rfl)
@[simp] theorem begun_pounceSkips (s : State) (mb : Nat) (r p : Nat) : (s.begun mb).pounceSkips r p = s.pounceSkips r p := (rfl)
@[simp] theorem begun_slotTaken (s : State) (mb : Nat) (r : Nat) : (s.begun mb).slotTaken r = s.slotTaken r := (rfl)
@[simp] theorem begun_sourceHeader (s : State) (mb : Nat) (pl : Plane) : (s.begun mb).sourceHeader pl = s.sourceHeader pl := (rfl)
@[simp] theorem begun_pounceStat (s : State) (mb : Nat) : (s.begun mb).pounceStat = s.pounceStat := (rfl)
@[simp] theorem begun_plumeBarred (s : State) (mb : Nat) (r : Nat) : (s.begun mb).plumeBarred r = s.plumeBarred r := (rfl)
@[simp] theorem begun_canLock (s : State) (mb : Nat) (d : Nat) : (s.begun mb).canLock d = s.canLock d := (rfl)
@[simp] theorem begun_railsUp (s : State) (mb : Nat) : (s.begun mb).railsUp = s.railsUp := (rfl)
@[simp] theorem begun_safeFrom (s : State) (mb : Nat) : (s.begun mb).safeFrom = s.safeFrom := (rfl)
@[simp] theorem begun_causesIn (s : State) (mb : Nat) (l : List Nat) : (s.begun mb).causesIn l = s.causesIn l := (rfl)
@[simp] theorem begun_committed (s : State) (mb : Nat) : (s.begun mb).committed = s.committed := (rfl)
@[simp] theorem begun_orderFault (s : State) (mb : Nat) (rail notOff : Nat) : (s.begun mb).orderFault rail notOff = s.orderFault rail notOff := (rfl)
@[simp] theorem begun_hkpIdle (s : State) (mb : Nat) (c : Nat) : (s.begun mb).hkpIdle c = s.hkpIdle c := (rfl)
@[simp] theorem begun_hkpVal (s : State) (mb : Nat) (c : Nat) : (s.begun mb).hkpVal c = s.hkpVal c := (rfl)
@[simp] theorem begun_sensorReads (s : State) (mb : Nat) : (s.begun mb).sensorReads = s.sensorReads := (rfl)
@[simp] theorem begun_lostDies (s : State) (mb : Nat) : (s.begun mb).lostDies = s.lostDies := (rfl)
@[simp] theorem begun_tmax (s : State) (mb : Nat) : (s.begun mb).tmax = s.tmax := (rfl)
@[simp] theorem begun_tmaxRaw (s : State) (mb : Nat) : (s.begun mb).tmaxRaw = s.tmaxRaw := (rfl)
@[simp] theorem begun_railReads (s : State) (mb : Nat) : (s.begun mb).railReads = s.railReads := (rfl)
@[simp] theorem begun_quadTested (s : State) (mb : Nat) (q unit : Nat) : (s.begun mb).quadTested q unit = s.quadTested q unit := (rfl)
@[simp] theorem begun_testWords (s : State) (mb : Nat) : (s.begun mb).testWords = s.testWords := (rfl)
@[simp] theorem begun_segsUsed (s : State) (mb : Nat) (a b : Nat) : (s.begun mb).segsUsed a b = s.segsUsed a b := (rfl)
@[simp] theorem begun_isolated (s : State) (mb : Nat) (i u : Nat) : (s.begun mb).isolated i u = s.isolated i u := (rfl)
@[simp] theorem begun_freeFuses (s : State) (mb : Nat) : (s.begun mb).freeFuses = s.freeFuses := (rfl)
@[simp] theorem begun_fwCopy (s : State) (mb : Nat) (k : Nat) : (s.begun mb).fwCopy k = s.fwCopy k := (rfl)
@[simp] theorem begun_fwPick (s : State) (mb : Nat) : (s.begun mb).fwPick = s.fwPick := (rfl)
@[simp] theorem begun_devType (s : State) (mb : Nat) : (s.begun mb).devType = s.devType := (rfl)
@[simp] theorem begun_fwRunning (s : State) (mb : Nat) : (s.begun mb).fwRunning = s.fwRunning := (rfl)
@[simp] theorem begun_clkAny (s : State) (mb : Nat) : (s.begun mb).clkAny = s.clkAny := (rfl)
@[simp] theorem begun_intBits (s : State) (mb : Nat) : (s.begun mb).intBits = s.intBits := (rfl)
@[simp] theorem begun_intSum (s : State) (mb : Nat) : (s.begun mb).intSum = s.intSum := (rfl)
@[simp] theorem begun_intLow (s : State) (mb : Nat) : (s.begun mb).intLow = s.intLow := (rfl)
@[simp] theorem begun_xingOvr (s : State) (mb : Nat) : (s.begun mb).xingOvr = s.xingOvr := (rfl)
@[simp] theorem begun_statSafe (s : State) (mb : Nat) : (s.begun mb).statSafe = s.statSafe := (rfl)
@[simp] theorem begun_wireFrozen (s : State) (mb : Nat) : (s.begun mb).wireFrozen = s.wireFrozen := (rfl)
@[simp] theorem begun_pageAddr (s : State) (mb : Nat) (a : Nat) : (s.begun mb).pageAddr a = s.pageAddr a := (rfl)
@[simp] theorem begun_busSupplied (s : State) (mb : Nat) : (s.begun mb).busSupplied = s.busSupplied := (rfl)
@[simp] theorem begun_keepField (s : State) (mb : Nat) (f : Fld) (v : Nat) : (s.begun mb).keepField f v = s.keepField f v := (rfl)
@[simp] theorem begun_unlocked_ (s : State) (mb : Nat) (f : Nat) : (s.begun mb).unlocked' f = s.unlocked' f := (rfl)
@[simp] theorem begun_tapActs (s : State) (mb : Nat) : (s.begun mb).tapActs = s.tapActs := (rfl)
@[simp] theorem begun_idcode (s : State) (mb : Nat) : (s.begun mb).idcode = s.idcode := (rfl)
@[simp] theorem begun_serial (s : State) (mb : Nat) : (s.begun mb).serial mb = s.serial mb := by
  simp [State.serial, State.begun]


end Sys2Proof.Machine
end

