-- ==== Sys2Proof/Laws/Dispatch.lean ====
section
/-! SUPPORT. What `exec` does with each row: one lemma for each constructor, so that no
proof unfolds the dispatch. -/

namespace Sys2Proof.Machine

theorem exec_vaonPresent (s : State) (notOff : Nat) :
    exec (.vaonPresent notOff) s = execVaonPresent notOff s := rfl
theorem exec_vaonLost (s : State) :
    exec .vaonLost s = execVaonLost s := rfl
theorem exec_railPresent (s : State) (rail : Fin 14) (notOff : Nat) :
    exec (.railPresent rail notOff) s = execRailPresent rail notOff s := rfl
theorem exec_supplyFault (s : State) (ev : SupplyEv) :
    exec (.supplyFault ev) s = execSupplyFault ev s := rfl
theorem exec_railOff (s : State) (rail : Fin 14) (notOff : Nat) :
    exec (.railOff rail notOff) s = execRailOff rail notOff s := rfl
theorem exec_resetNLow (s : State) (short : Bool) :
    exec (.resetNLow short) s = execResetNLow short s := rfl
theorem exec_resetNRise (s : State) :
    exec .resetNRise s = execResetNRise s := rfl
theorem exec_quickCheckEnd (s : State) (execd : Nat) (prog : Nat) (fails : List FailEntry) :
    exec (.quickCheckEnd execd prog fails) s = execQuickCheckEnd execd prog fails s := rfl
theorem exec_wakeNLow (s : State) (short : Bool) :
    exec (.wakeNLow short) s = execWakeNLow short s := rfl
theorem exec_tamperAssert (s : State) (short : Bool) :
    exec (.tamperAssert short) s = execTamperAssert short s := rfl
theorem exec_vioPresent (s : State) (g : Fin 8) :
    exec (.vioPresent g) s = execVioPresent g s := rfl
theorem exec_vioLoss (s : State) (b : Fin 32) :
    exec (.vioLoss b) s = execVioLoss b s := rfl
theorem exec_vioRestore (s : State) (b : Fin 32) :
    exec (.vioRestore b) s = execVioRestore b s := rfl
theorem exec_quiescentCommit (s : State) :
    exec .quiescentCommit s = execQuiescentCommit s := rfl
theorem exec_wakeComplete (s : State) :
    exec .wakeComplete s = execWakeComplete s := rfl
theorem exec_pairingTimeout (s : State) :
    exec .pairingTimeout s = execPairingTimeout s := rfl
theorem exec_mclkMeasure (s : State) (srcKHz : Nat) :
    exec (.mclkMeasure srcKHz) s = execMclkMeasure srcKHz s := rfl
theorem exec_mclkLoss (s : State) :
    exec .mclkLoss s = execMclkLoss s := rfl
theorem exec_mclkReturn (s : State) (srcKHz : Nat) :
    exec (.mclkReturn srcKHz) s = execMclkReturn srcKHz s := rfl
theorem exec_tickBoundary (s : State) :
    exec .tickBoundary s = execTickBoundary s := rfl
theorem exec_tickLoad (s : State) :
    exec .tickLoad s = execTickLoad s := rfl
theorem exec_schedEntryFire (s : State) (h : Fin 256) :
    exec (.schedEntryFire h) s = execSchedEntryFire h s := rfl
theorem exec_synthLock (s : State) (d : Fin 25) :
    exec (.synthLock d) s = execSynthLock d s := rfl
theorem exec_synthUnlock (s : State) (d : Fin 25) :
    exec (.synthUnlock d) s = execSynthUnlock d s := rfl
theorem exec_handshakeTimeout (s : State) (f : Fin 256) (ackAtEdge : Bool) :
    exec (.handshakeTimeout f ackAtEdge) s = execHandshakeTimeout f ackAtEdge s := rfl
theorem exec_pointerResyncDone (s : State) (fifo : FifoId) :
    exec (.pointerResyncDone fifo) s = execPointerResyncDone fifo s := rfl
theorem exec_flipFlopEdge (s : State) (e : FfEdge) :
    exec (.flipFlopEdge e) s = execFlipFlopEdge e s := rfl
theorem exec_clockSwitchComplete (s : State) (n : Fin 2048) (sel : Bool) (dead : Bool) :
    exec (.clockSwitchComplete n sel dead) s = execClockSwitchComplete n sel dead s := rfl
theorem exec_clockEnableChange (s : State) (n : Fin 2048) (en : Bool) :
    exec (.clockEnableChange n en) s = execClockEnableChange n en s := rfl
theorem exec_fabSourceLost (s : State) (n : Fin 2048) :
    exec (.fabSourceLost n) s = execFabSourceLost n s := rfl
theorem exec_fabSourceReturn (s : State) (n : Fin 2048) :
    exec (.fabSourceReturn n) s = execFabSourceReturn n s := rfl
theorem exec_shedPassUpdate (s : State) (n : Fin 2048) :
    exec (.shedPassUpdate n) s = execShedPassUpdate n s := rfl
theorem exec_pillarContention (s : State) (r : Fin 128) (cluster : Fin 3136) (k : Fin 8) (released : Bool) :
    exec (.pillarContention r cluster k released) s = execPillarContention r cluster k released s := rfl
theorem exec_seamClockLost (s : State) (p : Fin 24) :
    exec (.seamClockLost p) s = execSeamClockLost p s := rfl
theorem exec_bmPortAccess (s : State) (m : Fin 12288) (pa : Option BmIn) (pb : Option BmIn) :
    exec (.bmPortAccess m pa pb) s = execBmPortAccess m pa pb s := rfl
theorem exec_bmClrInput (s : State) (m : Fin 12288) :
    exec (.bmClrInput m) s = execBmClrInput m s := rfl
theorem exec_bmBulkClearDone (s : State) (m : Fin 12288) :
    exec (.bmBulkClearDone m) s = execBmBulkClearDone m s := rfl
theorem exec_abEdge (s : State) (r : Fin 128) (ab : Fin 160) (inp : AbIn) :
    exec (.abEdge r ab inp) s = execAbEdge r ab inp s := rfl
theorem exec_swapEdge (s : State) (r : Fin 128) (port : Option (Fin 4)) (delivered : Bool) :
    exec (.swapEdge r port delivered) s = execSwapEdge r port delivered s := rfl
theorem exec_swapCycleEnd (s : State) (r : Fin 128) :
    exec (.swapCycleEnd r) s = execSwapCycleEnd r s := rfl
theorem exec_hostSwapTimeout (s : State) (r : Fin 128) (ackAtEdge : Bool) :
    exec (.hostSwapTimeout r ackAtEdge) s = execHostSwapTimeout r ackAtEdge s := rfl
theorem exec_swapMemberTimeout (s : State) (r : Fin 128) :
    exec (.swapMemberTimeout r) s = execSwapMemberTimeout r s := rfl
theorem exec_rotationEdge (s : State) (r : Fin 128) (delivered : Bool) :
    exec (.rotationEdge r delivered) s = execRotationEdge r delivered s := rfl
theorem exec_captureEdge (s : State) (r : Fin 128) (portReq : Bool) (atSwap : Bool) (race : List (Fin 200704 × Bool)) :
    exec (.captureEdge r portReq atSwap race) s = execCaptureEdge r portReq atSwap race s := rfl
theorem exec_hoodClaimGrant (s : State) (r : Fin 128) (p : Fin 4) (swapTarget : Bool) :
    exec (.hoodClaimGrant r p swapTarget) s = execHoodClaimGrant r p swapTarget s := rfl
theorem exec_owReloadCommit (s : State) (r : Fin 128) :
    exec (.owReloadCommit r) s = execOwReloadCommit r s := rfl
theorem exec_owCopyDone (s : State) (r : Fin 128) (landingError : Bool) :
    exec (.owCopyDone r landingError) s = execOwCopyDone r landingError s := rfl
theorem exec_owRegionRelease (s : State) (r : Fin 128) :
    exec (.owRegionRelease r) s = execOwRegionRelease r s := rfl
theorem exec_cachePortRequest (s : State) (r : Fin 128) (q : CpReq) :
    exec (.cachePortRequest r q) s = execCachePortRequest r q s := rfl
theorem exec_bankCycle (s : State) (b : Fin 256) :
    exec (.bankCycle b) s = execBankCycle b s := rfl
theorem exec_cachePortResponse (s : State) (r : Fin 128) :
    exec (.cachePortResponse r) s = execCachePortResponse r s := rfl
theorem exec_handoverCommit (s : State) (b : Fin 256) :
    exec (.handoverCommit b) s = execHandoverCommit b s := rfl
theorem exec_handoverComplete (s : State) (b : Fin 256) :
    exec (.handoverComplete b) s = execHandoverComplete b s := rfl
theorem exec_fullPageBreak (s : State) (b : Fin 256) :
    exec (.fullPageBreak b) s = execFullPageBreak b s := rfl
theorem exec_bankClearDone (s : State) (b : Fin 256) :
    exec (.bankClearDone b) s = execBankClearDone b s := rfl
theorem exec_bankPowerChangeDone (s : State) (b : Fin 256) :
    exec (.bankPowerChangeDone b) s = execBankPowerChangeDone b s := rfl
theorem exec_bankWake (s : State) (b : Fin 256) :
    exec (.bankWake b) s = execBankWake b s := rfl
theorem exec_spillCopy (s : State) (b : Fin 256) :
    exec (.spillCopy b) s = execSpillCopy b s := rfl
theorem exec_cacheLineFill (s : State) (d : Fin 4) (line : Nat) :
    exec (.cacheLineFill d line) s = execCacheLineFill d line s := rfl
theorem exec_bulkPageAccess (s : State) (k : Fin 2) :
    exec (.bulkPageAccess k) s = execBulkPageAccess k s := rfl
theorem exec_bulkFullPageTimeout (s : State) (k : Fin 2) :
    exec (.bulkFullPageTimeout k) s = execBulkFullPageTimeout k s := rfl
theorem exec_segmentClearDone (s : State) (sl : Fin 48) :
    exec (.segmentClearDone sl) s = execSegmentClearDone sl s := rfl
theorem exec_scrubUnit (s : State) (t : Fin 7) :
    exec (.scrubUnit t) s = execScrubUnit t s := rfl
theorem exec_bgScrubTick (s : State) (t : Fin 7) :
    exec (.bgScrubTick t) s = execBgScrubTick t s := rfl
theorem exec_tdcEdge (s : State) (n : Fin 1536) (e : TdcIn) :
    exec (.tdcEdge n e) s = execTdcEdge n e s := rfl
theorem exec_hitArbiter (s : State) (b : Fin 32) :
    exec (.hitArbiter b) s = execHitArbiter b s := rfl
theorem exec_watermarkEmit (s : State) (b : Fin 32) :
    exec (.watermarkEmit b) s = execWatermarkEmit b s := rfl
theorem exec_hitPortTransfer (s : State) (b : Fin 32) (hsReady : Bool) :
    exec (.hitPortTransfer b hsReady) s = execHitPortTransfer b hsReady s := rfl
theorem exec_tdcCalSwitch (s : State) (n : Fin 1536) :
    exec (.tdcCalSwitch n) s = execTdcCalSwitch n s := rfl
theorem exec_tdcCodeDensityDone (s : State) (core : Fin 1632) (counts : List Nat) :
    exec (.tdcCodeDensityDone core counts) s = execTdcCodeDensityDone core counts s := rfl
theorem exec_tdcCalSwitchBack (s : State) (n : Fin 1536) :
    exec (.tdcCalSwitchBack n) s = execTdcCalSwitchBack n s := rfl
theorem exec_tdcRotationTurn (s : State) (b : Fin 32) (g : Fin 3) :
    exec (.tdcRotationTurn b g) s = execTdcRotationTurn b g s := rfl
theorem exec_tpReqPulse (s : State) (p : TpReq) :
    exec (.tpReqPulse p) s = execTpReqPulse p s := rfl
theorem exec_testPulseFire (s : State) (p : TpFire) :
    exec (.testPulseFire p) s = execTestPulseFire p s := rfl
theorem exec_idelayStep (s : State) (n : Fin 1536) :
    exec (.idelayStep n) s = execIdelayStep n s := rfl
theorem exec_dacLoadApply (s : State) (k : Fin 16) :
    exec (.dacLoadApply k) s = execDacLoadApply k s := rfl
theorem exec_hkpRoundEnd (s : State) (rds : List HkpRd) :
    exec (.hkpRoundEnd rds) s = execHkpRoundEnd rds s := rfl
theorem exec_graceExpiry (s : State) :
    exec .graceExpiry s = execGraceExpiry s := rfl
theorem exec_sensorRoundMissing (s : State) :
    exec .sensorRoundMissing s = execSensorRoundMissing s := rfl
theorem exec_lifeRecordWrite (s : State) :
    exec .lifeRecordWrite s = execLifeRecordWrite s := rfl
theorem exec_linkMonitorVisit (s : State) (g : VertGroup) (bad : List Nat) :
    exec (.linkMonitorVisit g bad) s = execLinkMonitorVisit g bad s := rfl
theorem exec_vertRemap (s : State) (g : VertGroup) (pos : Nat) :
    exec (.vertRemap g pos) s = execVertRemap g pos s := rfl
theorem exec_pounceFrameSlot (s : State) (r : Fin 128) (upsets : List Nat) (paths : List (VertGroup × Nat)) :
    exec (.pounceFrameSlot r upsets paths) s = execPounceFrameSlot r upsets paths s := rfl
theorem exec_repairLoadStart (s : State) :
    exec .repairLoadStart s = execRepairLoadStart s := rfl
theorem exec_repairLoadEnd (s : State) :
    exec .repairLoadEnd s = execRepairLoadEnd s := rfl
theorem exec_cfgPortWord (s : State) (w : BitVec 64) :
    exec (.cfgPortWord w) s = execCfgPortWord w s := rfl
theorem exec_cfgStreamPacket (s : State) (p : Pkt) :
    exec (.cfgStreamPacket p) s = execCfgStreamPacket p s := rfl
theorem exec_segmentHeader (s : State) :
    exec .segmentHeader s = execSegmentHeader s := rfl
theorem exec_segmentForward (s : State) (words : Nat) :
    exec (.segmentForward words) s = execSegmentForward words s := rfl
theorem exec_segmentRecord (s : State) :
    exec .segmentRecord s = execSegmentRecord s := rfl
theorem exec_segmentEnd (s : State) :
    exec .segmentEnd s = execSegmentEnd s := rfl
theorem exec_segmentTagCheck (s : State) :
    exec .segmentTagCheck s = execSegmentTagCheck s := rfl
theorem exec_signatureVerify (s : State) :
    exec .signatureVerify s = execSignatureVerify s := rfl
theorem exec_loadCommit (s : State) :
    exec .loadCommit s = execLoadCommit s := rfl
theorem exec_loadTimeout (s : State) (wordAtEdge : Bool) :
    exec (.loadTimeout wordAtEdge) s = execLoadTimeout wordAtEdge s := rfl
theorem exec_blockingLockDone (s : State) :
    exec .blockingLockDone s = execBlockingLockDone s := rfl
theorem exec_lockTimeout (s : State) :
    exec .lockTimeout s = execLockTimeout s := rfl
theorem exec_blockingDelayEnd (s : State) :
    exec .blockingDelayEnd s = execBlockingDelayEnd s := rfl
theorem exec_feltingFillEnd (s : State) :
    exec .feltingFillEnd s = execFeltingFillEnd s := rfl
theorem exec_imageRefreshStart (s : State) (slot : Fin 5) :
    exec (.imageRefreshStart slot) s = execImageRefreshStart slot s := rfl
theorem exec_rdbkEnd (s : State) :
    exec .rdbkEnd s = execRdbkEnd s := rfl
theorem exec_npTxPacket (s : State) (r : Fin 128) (p : Pkt) (aborted : Bool) :
    exec (.npTxPacket r p aborted) s = execNpTxPacket r p aborted s := rfl
theorem exec_routerHop (s : State) (n : Fin 160) (port : Fin 6) :
    exec (.routerHop n port) s = execRouterHop n port s := rfl
theorem exec_wormAge (s : State) (n : Fin 160) (port : Fin 6) :
    exec (.wormAge n port) s = execWormAge n port s := rfl
theorem exec_nocResponseRx (s : State) (ep : Fin 1024) :
    exec (.nocResponseRx ep) s = execNocResponseRx ep s := rfl
theorem exec_txnTimeout (s : State) (ep : Fin 1024) (seq : Nat) (respAtEdge : Bool) :
    exec (.txnTimeout ep seq respAtEdge) s = execTxnTimeout ep seq respAtEdge s := rfl
theorem exec_npRxStall (s : State) (r : Fin 128) :
    exec (.npRxStall r) s = execNpRxStall r s := rfl
theorem exec_doorPacketArrival (s : State) (ep : Fin 1024) (p : Pkt) :
    exec (.doorPacketArrival ep p) s = execDoorPacketArrival ep p s := rfl
theorem exec_routerDrainEnd (s : State) (n : Fin 160) :
    exec (.routerDrainEnd n) s = execRouterDrainEnd n s := rfl
theorem exec_routerDrainTimeout (s : State) (n : Fin 160) (tailAtEdge : Bool) :
    exec (.routerDrainTimeout n tailAtEdge) s = execRouterDrainTimeout n tailAtEdge s := rfl
theorem exec_meshResetDrainEnd (s : State) (q : Fin 5) :
    exec (.meshResetDrainEnd q) s = execMeshResetDrainEnd q s := rfl
theorem exec_laneSignalDetect (s : State) (l : Fin 96) :
    exec (.laneSignalDetect l) s = execLaneSignalDetect l s := rfl
theorem exec_blockLock (s : State) (l : Fin 96) (ofs : Nat) (complement : Bool) (senders : List Nat) :
    exec (.blockLock l ofs complement senders) s = execBlockLock l ofs complement senders s := rfl
theorem exec_trainingBlockRx (s : State) (l : Fin 96) (payload : BitVec 64) :
    exec (.trainingBlockRx l payload) s = execTrainingBlockRx l payload s := rfl
theorem exec_tapRequestTimeout (s : State) (l : Fin 96) (ackAtEdge : Bool) :
    exec (.tapRequestTimeout l ackAtEdge) s = execTapRequestTimeout l ackAtEdge s := rfl
theorem exec_trainDone (s : State) (l : Fin 96) :
    exec (.trainDone l) s = execTrainDone l s := rfl
theorem exec_bitSlip (s : State) (l : Fin 96) :
    exec (.bitSlip l) s = execBitSlip l s := rfl
theorem exec_alignMeasureDone (s : State) (l : Fin 96) (reads : List AlignRd) :
    exec (.alignMeasureDone l reads) s = execAlignMeasureDone l reads s := rfl
theorem exec_laneEnterUp (s : State) (l : Fin 96) :
    exec (.laneEnterUp l) s = execLaneEnterUp l s := rfl
theorem exec_bringupTimeout (s : State) (l : Fin 96) (upAtEdge : Bool) :
    exec (.bringupTimeout l upAtEdge) s = execBringupTimeout l upAtEdge s := rfl
theorem exec_laneDownEvent (s : State) (l : Fin 96) (reason : Nat) :
    exec (.laneDownEvent l reason) s = execLaneDownEvent l reason s := rfl
theorem exec_rxBufferFillCheck (s : State) (l : Fin 96) (fill : Nat) :
    exec (.rxBufferFillCheck l fill) s = execRxBufferFillCheck l fill s := rfl
theorem exec_elasticAdjust (s : State) (l : Fin 96) (idlePasses : Bool) :
    exec (.elasticAdjust l idlePasses) s = execElasticAdjust l idlePasses s := rfl
theorem exec_adaptFreeze (s : State) (l : Fin 96) (dataBlock : Bool) :
    exec (.adaptFreeze l dataBlock) s = execAdaptFreeze l dataBlock s := rfl
theorem exec_laneNoticeRx (s : State) (l : Fin 96) (sleep : Bool) :
    exec (.laneNoticeRx l sleep) s = execLaneNoticeRx l sleep s := rfl
theorem exec_laneSignalWake (s : State) (l : Fin 96) :
    exec (.laneSignalWake l) s = execLaneSignalWake l s := rfl
theorem exec_laneDozeExitDone (s : State) (l : Fin 96) (hdrOfs : Nat) (lMeas : Nat) :
    exec (.laneDozeExitDone l hdrOfs lMeas) s = execLaneDozeExitDone l hdrOfs lMeas s := rfl
theorem exec_prbsCheck (s : State) (l : Fin 96) (rx : List Bool) (headers : Nat) :
    exec (.prbsCheck l rx headers) s = execPrbsCheck l rx headers s := rfl
theorem exec_slicerCalTurn (s : State) (l : Fin 96) :
    exec (.slicerCalTurn l) s = execSlicerCalTurn l s := rfl
theorem exec_eyeScanEnd (s : State) (l : Fin 96) (counts : List Nat) :
    exec (.eyeScanEnd l counts) s = execEyeScanEnd l counts s := rfl
theorem exec_tickMarkerRx (s : State) (l : Fin 96) (tick : Nat) (hold : Bool) (tcrc : Nat) (skew : Nat) :
    exec (.tickMarkerRx l tick hold tcrc skew) s = execTickMarkerRx l tick hold tcrc skew s := rfl
theorem exec_triggerSlotTx (s : State) (l : Fin 96) (slot : Nat) (td : BitVec 64) (tv : Bool) :
    exec (.triggerSlotTx l slot td tv) s = execTriggerSlotTx l slot td tv s := rfl
theorem exec_triggerSlotRx (s : State) (l : Fin 96) (slot : Nat) (blk : SlotBlk) :
    exec (.triggerSlotRx l slot blk) s = execTriggerSlotRx l slot blk s := rfl
theorem exec_safeBlockRx (s : State) (l : Fin 96) (sender : Nat) (cause : Nat) (active : Bool) :
    exec (.safeBlockRx l sender cause active) s = execSafeBlockRx l sender cause active s := rfl
theorem exec_pktRx (s : State) (l : Fin 96) (lseqS : Nat) (lseqE : Nat) (h : PktHead) (pcrc : BitVec 32) (flits : List (BitVec 256)) (badBlocks : Nat) :
    exec (.pktRx l lseqS lseqE h pcrc flits badBlocks) s = execPktRx l lseqS lseqE h pcrc flits badBlocks s := rfl
theorem exec_ackRx (s : State) (l : Fin 96) (next : Nat) (nak : Bool) (credits : List Nat) :
    exec (.ackRx l next nak credits) s = execAckRx l next nak credits s := rfl
theorem exec_ackTimeout (s : State) (l : Fin 96) (ackAtEdge : Bool) :
    exec (.ackTimeout l ackAtEdge) s = execAckTimeout l ackAtEdge s := rfl
theorem exec_bundleDownTimeout (s : State) (l : Fin 96) :
    exec (.bundleDownTimeout l) s = execBundleDownTimeout l s := rfl
theorem exec_initRx (s : State) (l : Fin 96) (epoch : Nat) (dev : Nat) (role : Nat) :
    exec (.initRx l epoch dev role) s = execInitRx l epoch dev role s := rfl
theorem exec_bridgeForward (s : State) (l : Fin 96) (fromLink : Bool) :
    exec (.bridgeForward l fromLink) s = execBridgeForward l fromLink s := rfl
theorem exec_announceTx (s : State) :
    exec .announceTx s = execAnnounceTx s := rfl
theorem exec_announceRx (s : State) (l : Fin 96) (a : Announce) :
    exec (.announceRx l a) s = execAnnounceRx l a s := rfl
theorem exec_parentTimeout (s : State) :
    exec .parentTimeout s = execParentTimeout s := rfl
theorem exec_measRx (s : State) (l : Fin 96) (lMeas : Nat) (fine : Nat) (ownFine : Nat) (valid : Bool) :
    exec (.measRx l lMeas fine ownFine valid) s = execMeasRx l lMeas fine ownFine valid s := rfl
theorem exec_syncAlignStep (s : State) (parentTime : Nat) (delta : Int) :
    exec (.syncAlignStep parentTime delta) s = execSyncAlignStep parentTime delta s := rfl
theorem exec_alignedRx (s : State) (l : Fin 96) (hops : Nat) (aligned : Bool) :
    exec (.alignedRx l hops aligned) s = execAlignedRx l hops aligned s := rfl
theorem exec_pairIdRx (s : State) (id : Nat) :
    exec (.pairIdRx id) s = execPairIdRx id s := rfl
theorem exec_pairGoRx (s : State) (tick : Nat) :
    exec (.pairGoRx tick) s = execPairGoRx tick s := rfl
theorem exec_pairStartTick (s : State) :
    exec .pairStartTick s = execPairStartTick s := rfl
theorem exec_digestTx (s : State) :
    exec .digestTx s = execDigestTx s := rfl
theorem exec_digestRx (s : State) (tick16 : Nat) (digest : BitVec 32) :
    exec (.digestRx tick16 digest) s = execDigestRx tick16 digest s := rfl
theorem exec_digestMissing (s : State) :
    exec .digestMissing s = execDigestMissing s := rfl
theorem exec_mgmtFrameRx (s : State) (l : Fin 96) (bytes : List Nat) :
    exec (.mgmtFrameRx l bytes) s = execMgmtFrameRx l bytes s := rfl
theorem exec_mailboxMsgPacket (s : State) (p : Pkt) :
    exec (.mailboxMsgPacket p) s = execMailboxMsgPacket p s := rfl
theorem exec_imgDataPacket (s : State) (p : Pkt) :
    exec (.imgDataPacket p) s = execImgDataPacket p s := rfl
theorem exec_millinerStart (s : State) (cause : Fin 3) :
    exec (.millinerStart cause) s = execMillinerStart cause s := rfl
theorem exec_watchdogExpiry (s : State) :
    exec .watchdogExpiry s = execWatchdogExpiry s := rfl
theorem exec_lockstepMismatch (s : State) :
    exec .lockstepMismatch s = execLockstepMismatch s := rfl
theorem exec_mailboxTake (s : State) (m : Fin 16) :
    exec (.mailboxTake m) s = execMailboxTake m s := rfl
theorem exec_mailboxComplete (s : State) (m : Fin 16) :
    exec (.mailboxComplete m) s = execMailboxComplete m s := rfl
theorem exec_mailboxTimeout (s : State) (m : Fin 16) (doneAtEdge : Bool) :
    exec (.mailboxTimeout m doneAtEdge) s = execMailboxTimeout m doneAtEdge s := rfl
theorem exec_sliceEnd (s : State) (o : SliceOutcome) :
    exec (.sliceEnd o) s = execSliceEnd o s := rfl
theorem exec_sliceBudgetExpiry (s : State) (o : SliceOutcome) :
    exec (.sliceBudgetExpiry o) s = execSliceBudgetExpiry o s := rfl
theorem exec_funcResetDrainDone (s : State) (f : Fin 256) :
    exec (.funcResetDrainDone f) s = execFuncResetDrainDone f s := rfl
theorem exec_expertWriteDeliver (s : State) :
    exec .expertWriteDeliver s = execExpertWriteDeliver s := rfl
theorem exec_registerWrite (s : State) (addr : BitVec 16) (w : RegWrite) :
    exec (.registerWrite addr w) s = execRegisterWrite addr w s := rfl
theorem exec_tickLoRead (s : State) :
    exec .tickLoRead s = execTickLoRead s := rfl
theorem exec_devModeWake (s : State) :
    exec .devModeWake s = execDevModeWake s := rfl
theorem exec_devCtlRestart (s : State) (key : BitVec 8) (alsoSafe : Bool) :
    exec (.devCtlRestart key alsoSafe) s = execDevCtlRestart key alsoSafe s := rfl
theorem exec_devCtlSafe (s : State) (key : BitVec 8) :
    exec (.devCtlSafe key) s = execDevCtlSafe key s := rfl
theorem exec_rstFuncWrite (s : State) (inp : Fin 8) (val : BitVec 32) :
    exec (.rstFuncWrite inp val) s = execRstFuncWrite inp val s := rfl
theorem exec_expertWindowWrite (s : State) (addr : BitVec 16) (val : BitVec 32) :
    exec (.expertWindowWrite addr val) s = execExpertWindowWrite addr val s := rfl
theorem exec_mbCtlGo (s : State) (m : Fin 16) :
    exec (.mbCtlGo m) s = execMbCtlGo m s := rfl
theorem exec_mbCtlDoneClear (s : State) (m : Fin 16) :
    exec (.mbCtlDoneClear m) s = execMbCtlDoneClear m s := rfl
theorem exec_mbCtlAbort (s : State) (m : Fin 16) :
    exec (.mbCtlAbort m) s = execMbCtlAbort m s := rfl
theorem exec_mbCtlEvtPop (s : State) (m : Fin 16) :
    exec (.mbCtlEvtPop m) s = execMbCtlEvtPop m s := rfl
theorem exec_plumeSelWrite (s : State) (k : Fin 16) (val : BitVec 32) :
    exec (.plumeSelWrite k val) s = execPlumeSelWrite k val s := rfl
theorem exec_bankOwnGo (s : State) (b : Fin 256) :
    exec (.bankOwnGo b) s = execBankOwnGo b s := rfl
theorem exec_bankStatClr (s : State) (b : Fin 256) :
    exec (.bankStatClr b) s = execBankStatClr b s := rfl
theorem exec_bmStatClr (s : State) (m : Fin 12288) :
    exec (.bmStatClr m) s = execBmStatClr m s := rfl
theorem exec_segCfgClr (s : State) (sl : Fin 48) :
    exec (.segCfgClr sl) s = execSegCfgClr sl s := rfl
theorem exec_splitCtlGo (s : State) :
    exec .splitCtlGo s = execSplitCtlGo s := rfl
theorem exec_rtAccGo (s : State) :
    exec .rtAccGo s = execRtAccGo s := rfl
theorem exec_rtrCfgApply (s : State) (n : Fin 160) :
    exec (.rtrCfgApply n) s = execRtrCfgApply n s := rfl
theorem exec_tdcCfgCalReq (s : State) (n : Fin 1536) :
    exec (.tdcCfgCalReq n) s = execTdcCfgCalReq n s := rfl
theorem exec_idelayWrite (s : State) (n : Fin 1536) (taps : BitVec 9) :
    exec (.idelayWrite n taps) s = execIdelayWrite n taps s := rfl
theorem exec_dacCodeWrite (s : State) (k : Fin 16) (code : BitVec 12) :
    exec (.dacCodeWrite k code) s = execDacCodeWrite k code s := rfl
theorem exec_swapTgtWrite (s : State) (sl : Fin 16) (w : Fin 16) (val : BitVec 32) :
    exec (.swapTgtWrite sl w val) s = execSwapTgtWrite sl w val s := rfl
theorem exec_thermCfgWrite (s : State) (val : BitVec 32) :
    exec (.thermCfgWrite val) s = execThermCfgWrite val s := rfl
theorem exec_fcbaccUpdate (s : State) (dr : BitVec 49) :
    exec (.fcbaccUpdate dr) s = execFcbaccUpdate dr s := rfl
theorem exec_unknownCommand (s : State) (mb : Fin 16) :
    exec (.unknownCommand mb) s = execUnknownCommand mb s := rfl
theorem exec_idGet (s : State) (mb : Fin 16) :
    exec (.idGet mb) s = execIdGet mb s := rfl
theorem exec_fwInfo (s : State) (mb : Fin 16) :
    exec (.fwInfo mb) s = execFwInfo mb s := rfl
theorem exec_fwWrite (s : State) (mb : Fin 16) (copy : Nat) (off : Nat) (bytes : List Nat) :
    exec (.fwWrite mb copy off bytes) s = execFwWrite mb copy off bytes s := rfl
theorem exec_fwCommit (s : State) (mb : Fin 16) (copy : Nat) :
    exec (.fwCommit mb copy) s = execFwCommit mb copy s := rfl
theorem exec_expertUnlock (s : State) (mb : Fin 16) (first : Nat) (count : Nat) :
    exec (.expertUnlock mb first count) s = execExpertUnlock mb first count s := rfl
theorem exec_expertLock (s : State) (mb : Fin 16) (first : Nat) (count : Nat) :
    exec (.expertLock mb first count) s = execExpertLock mb first count s := rfl
theorem exec_funcReset (s : State) (mb : Fin 16) (func : Nat) (action : Nat) :
    exec (.funcReset mb func action) s = execFuncReset mb func action s := rfl
theorem exec_eventCfg (s : State) (mb : Fin 16) (box : Nat) (mask : Nat) :
    exec (.eventCfg mb box mask) s = execEventCfg mb box mask s := rfl
theorem exec_mbConfig (s : State) (mb : Fin 16) (box : Nat) (timeout : Nat) :
    exec (.mbConfig mb box timeout) s = execMbConfig mb box timeout s := rfl
theorem exec_modeGet (s : State) (mb : Fin 16) :
    exec (.modeGet mb) s = execModeGet mb s := rfl
theorem exec_modeSafe (s : State) (mb : Fin 16) :
    exec (.modeSafe mb) s = execModeSafe mb s := rfl
theorem exec_modeResume (s : State) (mb : Fin 16) :
    exec (.modeResume mb) s = execModeResume mb s := rfl
theorem exec_modeQuiesce (s : State) (mb : Fin 16) (sleep : Nat) (wakeTick : Nat) :
    exec (.modeQuiesce mb sleep wakeTick) s = execModeQuiesce mb sleep wakeTick s := rfl
theorem exec_modeWake (s : State) (mb : Fin 16) :
    exec (.modeWake mb) s = execModeWake mb s := rfl
theorem exec_modeShutdown (s : State) (mb : Fin 16) (test : Nat) (mask : Nat) (budget : Nat) :
    exec (.modeShutdown mb test mask budget) s = execModeShutdown mb test mask budget s := rfl
theorem exec_modeRestart (s : State) (mb : Fin 16) :
    exec (.modeRestart mb) s = execModeRestart mb s := rfl
theorem exec_modeBootGo (s : State) (mb : Fin 16) (source : Nat) (num : Nat) :
    exec (.modeBootGo mb source num) s = execModeBootGo mb source num s := rfl
theorem exec_cfgLoad (s : State) (mb : Fin 16) (kind : Nat) (source : Nat) (num : Nat) (off : Nat) (ep : Nat) (timeout : Nat) :
    exec (.cfgLoad mb kind source num off ep timeout) s = execCfgLoad mb kind source num off ep timeout s := rfl
theorem exec_cfgStatus (s : State) (mb : Fin 16) :
    exec (.cfgStatus mb) s = execCfgStatus mb s := rfl
theorem exec_cfgAbort (s : State) (mb : Fin 16) :
    exec (.cfgAbort mb) s = execCfgAbort mb s := rfl
theorem exec_imgInfo (s : State) (mb : Fin 16) (slot : Nat) (verify : Nat) :
    exec (.imgInfo mb slot verify) s = execImgInfo mb slot verify s := rfl
theorem exec_imgWrite (s : State) (mb : Fin 16) (slot : Nat) (len : Nat) :
    exec (.imgWrite mb slot len) s = execImgWrite mb slot len s := rfl
theorem exec_imgData (s : State) (mb : Fin 16) (slot : Nat) (off : Nat) (bytes : List Nat) :
    exec (.imgData mb slot off bytes) s = execImgData mb slot off bytes s := rfl
theorem exec_imgCommit (s : State) (mb : Fin 16) (slot : Nat) :
    exec (.imgCommit mb slot) s = execImgCommit mb slot s := rfl
theorem exec_imgBoot (s : State) (mb : Fin 16) (slot : Nat) :
    exec (.imgBoot mb slot) s = execImgBoot mb slot s := rfl
theorem exec_imgRefresh (s : State) (mb : Fin 16) (slot : Nat) :
    exec (.imgRefresh mb slot) s = execImgRefresh mb slot s := rfl
theorem exec_cfgSource (s : State) (mb : Fin 16) (r : Nat) (p : Nat) :
    exec (.cfgSource mb r p) s = execCfgSource mb r p s := rfl
theorem exec_ctxStatus (s : State) (mb : Fin 16) (r : Nat) :
    exec (.ctxStatus mb r) s = execCtxStatus mb r s := rfl
theorem exec_ctxSwap (s : State) (mb : Fin 16) (isSet : Nat) (num : Nat) (plane : Nat) (tick : Nat) :
    exec (.ctxSwap mb isSet num plane tick) s = execCtxSwap mb isSet num plane tick s := rfl
theorem exec_ctxSetDef (s : State) (mb : Fin 16) (set : Nat) (atomic : Nat) (mask : Nat) (planes : Nat) :
    exec (.ctxSetDef mb set atomic mask planes) s = execCtxSetDef mb set atomic mask planes s := rfl
theorem exec_ctxDiscard (s : State) (mb : Fin 16) (r : Nat) (p : Nat) :
    exec (.ctxDiscard mb r p) s = execCtxDiscard mb r p s := rfl
theorem exec_ctxRotate (s : State) (mb : Fin 16) (r : Nat) (start : Nat) (order : List (Fin 4)) (arg : Nat) :
    exec (.ctxRotate mb r start order arg) s = execCtxRotate mb r start order arg s := rfl
theorem exec_ctxCapture (s : State) (mb : Fin 16) (r : Nat) (p : Nat) :
    exec (.ctxCapture mb r p) s = execCtxCapture mb r p s := rfl
theorem exec_ctxCapFree (s : State) (mb : Fin 16) (r : Nat) :
    exec (.ctxCapFree mb r) s = execCtxCapFree mb r s := rfl
theorem exec_cacheGet (s : State) (mb : Fin 16) (first : Nat) (count : Nat) :
    exec (.cacheGet mb first count) s = execCacheGet mb first count s := rfl
theorem exec_cacheOwn (s : State) (mb : Fin 16) (bank : Nat) (owner : Nat) (arm : Nat) :
    exec (.cacheOwn mb bank owner arm) s = execCacheOwn mb bank owner arm s := rfl
theorem exec_cacheCode (s : State) (mb : Fin 16) (bank : Nat) (code : Nat) (pageT : Nat) :
    exec (.cacheCode mb bank code pageT) s = execCacheCode mb bank code pageT s := rfl
theorem exec_cacheClear (s : State) (mb : Fin 16) (bank : Nat) :
    exec (.cacheClear mb bank) s = execCacheClear mb bank s := rfl
theorem exec_cachePower (s : State) (mb : Fin 16) (bank : Nat) (state : Nat) :
    exec (.cachePower mb bank state) s = execCachePower mb bank state s := rfl
theorem exec_cacheWin (s : State) (mb : Fin 16) (win : Nat) (dev : Nat) (ep : Nat) (acc : Nat) (banks : List Nat) :
    exec (.cacheWin mb win dev ep acc banks) s = execCacheWin mb win dev ep acc banks s := rfl
theorem exec_cacheMode (s : State) (mb : Fin 16) (die : Nat) (group : Nat) (seg : Nat) (count : Nat) :
    exec (.cacheMode mb die group seg count) s = execCacheMode mb die group seg count s := rfl
theorem exec_cacheFlush (s : State) (mb : Fin 16) (die : Nat) (inv : Nat) :
    exec (.cacheFlush mb die inv) s = execCacheFlush mb die inv s := rfl
theorem exec_cacheSpill (s : State) (mb : Fin 16) (bank : Nat) (base : Nat) (size : Nat) :
    exec (.cacheSpill mb bank base size) s = execCacheSpill mb bank base size s := rfl
theorem exec_cacheRepair (s : State) (mb : Fin 16) (bank : Nat) :
    exec (.cacheRepair mb bank) s = execCacheRepair mb bank s := rfl
theorem exec_bulkGet (s : State) (mb : Fin 16) (first : Nat) (count : Nat) :
    exec (.bulkGet mb first count) s = execBulkGet mb first count s := rfl
theorem exec_bulkCode (s : State) (mb : Fin 16) (seg : Nat) (t : Nat) (acc : Nat) :
    exec (.bulkCode mb seg t acc) s = execBulkCode mb seg t acc s := rfl
theorem exec_bulkClear (s : State) (mb : Fin 16) (seg : Nat) :
    exec (.bulkClear mb seg) s = execBulkClear mb seg s := rfl
theorem exec_scrubStart (s : State) (mb : Fin 16) (target : Nat) (first : Nat) (last : Nat) (rowFirst : Nat) (rowLast : Nat) :
    exec (.scrubStart mb target first last rowFirst rowLast) s = execScrubStart mb target first last rowFirst rowLast s := rfl
theorem exec_scrubStatus (s : State) (mb : Fin 16) (handle : Nat) (clear : Nat) :
    exec (.scrubStatus mb handle clear) s = execScrubStatus mb handle clear s := rfl
theorem exec_scrubAbort (s : State) (mb : Fin 16) (handle : Nat) :
    exec (.scrubAbort mb handle) s = execScrubAbort mb handle s := rfl
theorem exec_scrubBg (s : State) (mb : Fin 16) (target : Nat) (rate : Nat) :
    exec (.scrubBg mb target rate) s = execScrubBg mb target rate s := rfl
theorem exec_splitGo (s : State) (mb : Fin 16) (kind : Nat) (unit : Nat) (op : Nat) (bytes : List Nat) :
    exec (.splitGo mb kind unit op bytes) s = execSplitGo mb kind unit op bytes s := rfl
theorem exec_bmClear (s : State) (mb : Fin 16) (r : Nat) (bm : Nat) :
    exec (.bmClear mb r bm) s = execBmClear mb r bm s := rfl
theorem exec_bmGet (s : State) (mb : Fin 16) (r : Nat) (first : Nat) (count : Nat) :
    exec (.bmGet mb r first count) s = execBmGet mb r first count s := rfl
theorem exec_abFlags (s : State) (mb : Fin 16) (r : Nat) (clear : Nat) :
    exec (.abFlags mb r clear) s = execAbFlags mb r clear s := rfl
theorem exec_laneGet (s : State) (mb : Fin 16) (l : Nat) :
    exec (.laneGet mb l) s = execLaneGet mb l s := rfl
theorem exec_laneUp (s : State) (mb : Fin 16) (mask : Nat) (time : Nat) :
    exec (.laneUp mb mask time) s = execLaneUp mb mask time s := rfl
theorem exec_laneDown (s : State) (mb : Fin 16) (mask : Nat) :
    exec (.laneDown mb mask) s = execLaneDown mb mask s := rfl
theorem exec_lanePower (s : State) (mb : Fin 16) (mask : Nat) (state : Nat) :
    exec (.lanePower mb mask state) s = execLanePower mb mask state s := rfl
theorem exec_laneFlSet (s : State) (mb : Fin 16) (l : Nat) (lat : Nat) :
    exec (.laneFlSet mb l lat) s = execLaneFlSet mb l lat s := rfl
theorem exec_laneSlip (s : State) (mb : Fin 16) (l : Nat) (count : Nat) :
    exec (.laneSlip mb l count) s = execLaneSlip mb l count s := rfl
theorem exec_laneTest (s : State) (mb : Fin 16) (l : Nat) (pattern : Nat) (invert : Nat) (loopback : Nat) :
    exec (.laneTest mb l pattern invert loopback) s = execLaneTest mb l pattern invert loopback s := rfl
theorem exec_laneErr (s : State) (mb : Fin 16) (l : Nat) (clear : Nat) :
    exec (.laneErr mb l clear) s = execLaneErr mb l clear s := rfl
theorem exec_laneEye (s : State) (mb : Fin 16) (l : Nat) (phase0 : Nat) (phase1 : Nat) (ofs0 : Nat) (ofs1 : Nat) (e : Nat) :
    exec (.laneEye mb l phase0 phase1 ofs0 ofs1 e) s = execLaneEye mb l phase0 phase1 ofs0 ofs1 e s := rfl
theorem exec_laneEqSet (s : State) (mb : Fin 16) (l : Nat) (pre : Nat) (post : Nat) (ctle : Nat) (dfe : List Nat) (adapt : Nat) :
    exec (.laneEqSet mb l pre post ctle dfe adapt) s = execLaneEqSet mb l pre post ctle dfe adapt s := rfl
theorem exec_linkGet (s : State) (mb : Fin 16) (l : Nat) :
    exec (.linkGet mb l) s = execLinkGet mb l s := rfl
theorem exec_drtSet (s : State) (mb : Fin 16) (entry : Nat) (mtch : Nat) (mask : Nat) (bundle : Nat) (valid : Nat) :
    exec (.drtSet mb entry mtch mask bundle valid) s = execDrtSet mb entry mtch mask bundle valid s := rfl
theorem exec_drtGet (s : State) (mb : Fin 16) (first : Nat) (count : Nat) :
    exec (.drtGet mb first count) s = execDrtGet mb first count s := rfl
theorem exec_linkIdSet (s : State) (mb : Fin 16) (dev : Nat) :
    exec (.linkIdSet mb dev) s = execLinkIdSet mb dev s := rfl
theorem exec_twinGet (s : State) (mb : Fin 16) :
    exec (.twinGet mb) s = execTwinGet mb s := rfl
theorem exec_twinPolicy (s : State) (mb : Fin 16) (policy : Nat) (timeout : Nat) :
    exec (.twinPolicy mb policy timeout) s = execTwinPolicy mb policy timeout s := rfl
theorem exec_timeGet (s : State) (mb : Fin 16) :
    exec (.timeGet mb) s = execTimeGet mb s := rfl
theorem exec_schedAdd (s : State) (mb : Fin 16) (tick : Nat) (action : Nat) (target : Nat) (arg : Nat) :
    exec (.schedAdd mb tick action target arg) s = execSchedAdd mb tick action target arg s := rfl
theorem exec_schedCancel (s : State) (mb : Fin 16) (handle : Nat) :
    exec (.schedCancel mb handle) s = execSchedCancel mb handle s := rfl
theorem exec_schedList (s : State) (mb : Fin 16) (first : Nat) (count : Nat) :
    exec (.schedList mb first count) s = execSchedList mb first count s := rfl
theorem exec_clkSet (s : State) (mb : Fin 16) (domain : Nat) (mode : Nat) (mult : Nat) (div : Nat) :
    exec (.clkSet mb domain mode mult div) s = execClkSet mb domain mode mult div s := rfl
theorem exec_clkGet (s : State) (mb : Fin 16) (domain : Nat) :
    exec (.clkGet mb domain) s = execClkGet mb domain s := rfl
theorem exec_timeSet (s : State) (mb : Fin 16) (tick : Nat) (boundary : Nat) :
    exec (.timeSet mb tick boundary) s = execTimeSet mb tick boundary s := rfl
theorem exec_syncRole (s : State) (mb : Fin 16) (prio : Nat) :
    exec (.syncRole mb prio) s = execSyncRole mb prio s := rfl
theorem exec_syncGet (s : State) (mb : Fin 16) :
    exec (.syncGet mb) s = execSyncGet mb s := rfl
theorem exec_syncAlign (s : State) (mb : Fin 16) :
    exec (.syncAlign mb) s = execSyncAlign mb s := rfl
theorem exec_linkAsym (s : State) (mb : Fin 16) (l : Nat) (ps : Int) :
    exec (.linkAsym mb l ps) s = execLinkAsym mb l ps s := rfl
theorem exec_pinGet (s : State) (mb : Fin 16) (n : Nat) :
    exec (.pinGet mb n) s = execPinGet mb n s := rfl
theorem exec_pinSet (s : State) (mb : Fin 16) (n : Nat) (val : Nat) :
    exec (.pinSet mb n val) s = execPinSet mb n val s := rfl
theorem exec_tdcSet (s : State) (mb : Fin 16) (n : Nat) (val : Nat) :
    exec (.tdcSet mb n val) s = execTdcSet mb n val s := rfl
theorem exec_tdcCal (s : State) (mb : Fin 16) (n : Nat) :
    exec (.tdcCal mb n) s = execTdcCal mb n s := rfl
theorem exec_tdcStat (s : State) (mb : Fin 16) (n : Nat) :
    exec (.tdcStat mb n) s = execTdcStat mb n s := rfl
theorem exec_tpArm (s : State) (mb : Fin 16) (first : Nat) (count : Nat) (tick : Nat) :
    exec (.tpArm mb first count tick) s = execTpArm mb first count tick s := rfl
theorem exec_dacSet (s : State) (mb : Fin 16) (k : Nat) (code : Nat) :
    exec (.dacSet mb k code) s = execDacSet mb k code s := rfl
theorem exec_adcGet (s : State) (mb : Fin 16) (input : Nat) :
    exec (.adcGet mb input) s = execAdcGet mb input s := rfl
theorem exec_hkpRead (s : State) (mb : Fin 16) (first : Nat) (count : Nat) :
    exec (.hkpRead mb first count) s = execHkpRead mb first count s := rfl
theorem exec_hkpMask (s : State) (mb : Fin 16) (mask : Nat) :
    exec (.hkpMask mb mask) s = execHkpMask mb mask s := rfl
theorem exec_thermGet (s : State) (mb : Fin 16) :
    exec (.thermGet mb) s = execThermGet mb s := rfl
theorem exec_thermSet (s : State) (mb : Fin 16) (limit : Nat) (grace : Nat) (floor : Nat) :
    exec (.thermSet mb limit grace floor) s = execThermSet mb limit grace floor s := rfl
theorem exec_thermPeakClr (s : State) (mb : Fin 16) :
    exec (.thermPeakClr mb) s = execThermPeakClr mb s := rfl
theorem exec_lifeGet (s : State) (mb : Fin 16) :
    exec (.lifeGet mb) s = execLifeGet mb s := rfl
theorem exec_pwrGet (s : State) (mb : Fin 16) :
    exec (.pwrGet mb) s = execPwrGet mb s := rfl
theorem exec_vertGet (s : State) (mb : Fin 16) (first : Nat) (count : Nat) :
    exec (.vertGet mb first count) s = execVertGet mb first count s := rfl
theorem exec_diePower (s : State) (mb : Fin 16) (q : Nat) (unit : Nat) (off : Nat) :
    exec (.diePower mb q unit off) s = execDiePower mb q unit off s := rfl
theorem exec_testGet (s : State) (mb : Fin 16) :
    exec (.testGet mb) s = execTestGet mb s := rfl
theorem exec_testResults (s : State) (mb : Fin 16) (record : Nat) (first : Nat) (count : Nat) :
    exec (.testResults mb record first count) s = execTestResults mb record first count s := rfl
theorem exec_testRun (s : State) (mb : Fin 16) (slice : Nat) (unit : Nat) (budget : Nat) :
    exec (.testRun mb slice unit budget) s = execTestRun mb slice unit budget s := rfl
theorem exec_testPolicy (s : State) (mb : Fin 16) (policy : Nat) :
    exec (.testPolicy mb policy) s = execTestPolicy mb policy s := rfl
theorem exec_testFence (s : State) (mb : Fin 16) :
    exec (.testFence mb) s = execTestFence mb s := rfl
theorem exec_repairList (s : State) (mb : Fin 16) (soft : Nat) (first : Nat) (count : Nat) :
    exec (.repairList mb soft first count) s = execRepairList mb soft first count s := rfl
theorem exec_repairFuse (s : State) (mb : Fin 16) (first : Nat) (count : Nat) (failed : List Nat) (vfuse : Bool) :
    exec (.repairFuse mb first count failed vfuse) s = execRepairFuse mb first count failed vfuse s := rfl
theorem exec_repairRetire (s : State) (mb : Fin 16) (entry : Nat) (vfuse : Bool) :
    exec (.repairRetire mb entry vfuse) s = execRepairRetire mb entry vfuse s := rfl
theorem exec_secStatus (s : State) (mb : Fin 16) :
    exec (.secStatus mb) s = execSecStatus mb s := rfl
theorem exec_secBbkSet (s : State) (mb : Fin 16) (key : Nat) (check : Nat) (replace : Nat) :
    exec (.secBbkSet mb key check replace) s = execSecBbkSet mb key check replace s := rfl
theorem exec_secZeroise (s : State) (mb : Fin 16) :
    exec (.secZeroise mb) s = execSecZeroise mb s := rfl
theorem exec_secFuseProg (s : State) (mb : Fin 16) (first : Nat) (count : Nat) (data : Nat) (vfuse : Bool) (failed : List Nat) :
    exec (.secFuseProg mb first count data vfuse failed) s = execSecFuseProg mb first count data vfuse failed s := rfl
theorem exec_secFuseRead (s : State) (mb : Fin 16) (first : Nat) (count : Nat) :
    exec (.secFuseRead mb first count) s = execSecFuseRead mb first count s := rfl
theorem exec_secPubkeySet (s : State) (mb : Fin 16) (idx : Nat) (key : Nat) :
    exec (.secPubkeySet mb idx key) s = execSecPubkeySet mb idx key s := rfl
theorem exec_secRestrict (s : State) (mb : Fin 16) (mask : Nat) (minSvn : Nat) :
    exec (.secRestrict mb mask minSvn) s = execSecRestrict mb mask minSvn s := rfl
theorem exec_secTamperClr (s : State) (mb : Fin 16) :
    exec (.secTamperClr mb) s = execSecTamperClr mb s := rfl
theorem exec_pounceSet (s : State) (mb : Fin 16) (en : Nat) (mode : Nat) (unc : Nat) :
    exec (.pounceSet mb en mode unc) s = execPounceSet mb en mode unc s := rfl
theorem exec_pounceGet (s : State) (mb : Fin 16) (r : Nat) (clear : Nat) :
    exec (.pounceGet mb r clear) s = execPounceGet mb r clear s := rfl
theorem exec_essLog (s : State) (mb : Fin 16) (first : Nat) (count : Nat) (clear : Nat) :
    exec (.essLog mb first count clear) s = execEssLog mb first count clear s := rfl
theorem exec_cfgRepair (s : State) (mb : Fin 16) (r : Nat) (p : Nat) (frame : Nat) :
    exec (.cfgRepair mb r p frame) s = execCfgRepair mb r p frame s := rfl
theorem exec_rdbkStart (s : State) (mb : Fin 16) (kind : Nat) (r : Nat) (p : Nat) (first : Nat) (count : Nat) (path : Nat) (addr : Nat) :
    exec (.rdbkStart mb kind r p first count path addr) s = execRdbkStart mb kind r p first count path addr s := rfl
theorem exec_rdbkAbort (s : State) (mb : Fin 16) :
    exec (.rdbkAbort mb) s = execRdbkAbort mb s := rfl
theorem exec_plumeSet (s : State) (mb : Fin 16) (pin : Nat) (r : Nat) (probe : Nat) (en : Nat) :
    exec (.plumeSet mb pin r probe en) s = execPlumeSet mb pin r probe en s := rfl
theorem exec_plumeGet (s : State) (mb : Fin 16) :
    exec (.plumeGet mb) s = execPlumeGet mb s := rfl
theorem exec_nocRtSet (s : State) (mb : Fin 16) (ep : Nat) (entry : Nat) (hops : Nat) (valid : Nat) :
    exec (.nocRtSet mb ep entry hops valid) s = execNocRtSet mb ep entry hops valid s := rfl
theorem exec_nocRtGet (s : State) (mb : Fin 16) (ep : Nat) (first : Nat) (count : Nat) :
    exec (.nocRtGet mb ep first count) s = execNocRtGet mb ep first count s := rfl
theorem exec_nocRtrSet (s : State) (mb : Fin 16) (n : Nat) (pen : Nat) (vc2 : Nat) :
    exec (.nocRtrSet mb n pen vc2) s = execNocRtrSet mb n pen vc2 s := rfl
theorem exec_nocNiSet (s : State) (mb : Fin 16) (ep : Nat) (txnTo : Nat) (maxc : Nat) (dhops : Nat) (shed : Nat) :
    exec (.nocNiSet mb ep txnTo maxc dhops shed) s = execNocNiSet mb ep txnTo maxc dhops shed s := rfl
theorem exec_nocStatus (s : State) (mb : Fin 16) (isEp : Nat) (n : Nat) :
    exec (.nocStatus mb isEp n) s = execNocStatus mb isEp n s := rfl
theorem exec_nocErrlog (s : State) (mb : Fin 16) (first : Nat) (count : Nat) (clear : Nat) :
    exec (.nocErrlog mb first count clear) s = execNocErrlog mb first count clear s := rfl
theorem exec_calExport (s : State) (mb : Fin 16) (scope : Nat) (dest : Nat) (num : Nat) :
    exec (.calExport mb scope dest num) s = execCalExport mb scope dest num s := rfl
theorem exec_calImport (s : State) (mb : Fin 16) (source : Nat) (num : Nat) (bytes : List Nat) (force : Nat) :
    exec (.calImport mb source num bytes force) s = execCalImport mb source num bytes force s := rfl
theorem exec_calList (s : State) (mb : Fin 16) :
    exec (.calList mb) s = execCalList mb s := rfl
theorem exec_calSave (s : State) (mb : Fin 16) (setBoot : Nat) (num : Nat) :
    exec (.calSave mb setBoot num) s = execCalSave mb setBoot num s := rfl
theorem exec_tamperNHigh (s : State) :
    exec .tamperNHigh s = execTamperNHigh s := rfl
theorem exec_vbatLow (s : State) (low : Bool) :
    exec (.vbatLow low) s = execVbatLow low s := rfl
theorem exec_vioAbsent (s : State) (g : Fin 8) :
    exec (.vioAbsent g) s = execVioAbsent g s := rfl
theorem exec_tapUpdateIr (s : State) (opcode : BitVec 8) :
    exec (.tapUpdateIr opcode) s = execTapUpdateIr opcode s := rfl
theorem exec_nocPortRxFlit (s : State) (r : Fin 128) (ready : Bool) :
    exec (.nocPortRxFlit r ready) s = execNocPortRxFlit r ready s := rfl
theorem exec_baseRRxBlock (s : State) (l : Fin 96) (rd : BitVec 64) (rc : BitVec 8) (hiBer : Bool) :
    exec (.baseRRxBlock l rd rc hiBer) s = execBaseRRxBlock l rd rc hiBer s := rfl
theorem exec_baseRTxBlock (s : State) (l : Fin 96) (td : BitVec 64) (tc : BitVec 8) :
    exec (.baseRTxBlock l td tc) s = execBaseRTxBlock l td tc s := rfl
theorem exec_streamPositionTx (s : State) (l : Fin 96) :
    exec (.streamPositionTx l) s = execStreamPositionTx l s := rfl

/-- An empty queue leaves the block as it is. -/
theorem step_idle {s : State} (h : s.pending = []) : step s = .next s := by
  unfold step; rw [h]

end Sys2Proof.Machine
end

