-- ==== Sys2Proof/Laws/Ops.lean ====
section
/-! SUPPORT. What the shared operations of the mailbox commands do, said once. -/

namespace Sys2Proof.Machine

/-- A served command is answered by its meaning on the state in which it has begun. -/
theorem talnum_serves {s : State} {mb code : Nat} {args : List (Nat × Nat)} (f : State → Ans)
    (h : s.serves mb code args = true) : talnum mb code args f s = settle mb (f (s.begun mb)) := by
  simp only [State.serves, Bool.and_eq_true, decide_eq_true_eq, Bool.not_eq_true'] at h
  obtain ⟨⟨⟨⟨h1, h2⟩, h3⟩, h4⟩, h5⟩ := h
  simp only [talnum, h1, h2, h3, h5, Bool.not_true, Bool.false_and, decide_false, and_true, State.begun,
    Bool.false_eq_true, if_false]
  rw [if_pos h4]

/-- The same for a command whose arguments end with a run of bytes. -/
theorem talnumBytes_serves {s : State} {mb code : Nat} {args : List (Nat × Nat)} {bytes : List Nat} (f : State → Ans)
    (h : s.servesBytes mb code args bytes = true) :
    talnumBytes mb code args bytes f s = settle mb (f (s.begun mb)) := by
  simp only [State.servesBytes, Bool.and_eq_true, decide_eq_true_eq, Bool.not_eq_true'] at h
  obtain ⟨⟨⟨⟨h1, h2⟩, h3⟩, h4⟩, h5⟩ := h
  have h6 : ¬ (s.mbox mb).args.length < (pack args).length := by rw [h4]; simp
  simp only [talnumBytes, h1, h2, h3, h5, Bool.not_true, Bool.false_and, decide_false, and_true, State.begun,
    Bool.false_eq_true, if_false]
  rw [if_neg h6, if_pos h4]

/-- No check fails: the answer is that of the meaning. -/
theorem checks_pass {l : List (Bool × Nat)} (f : State → Ans) (s : State) (h : ∀ p ∈ l, p.1 = false) :
    checks l f s = f s := by
  unfold checks
  have : l.find? (fun p => p.1) = none := by
    rw [List.find?_eq_none]; intro p hp; simp [h p hp]
  rw [this]

@[simp] theorem checks_nil (f : State → Ans) (s : State) : checks [] f s = f s := rfl

/-- A check that fails answers its status. -/
theorem checks_fail (st : Nat) (l : List (Bool × Nat)) (f : State → Ans) (s : State) :
    checks ((true, st) :: l) f s = .fail st s := rfl

/-- A check that passes leaves the later ones. -/
theorem checks_next (st : Nat) (l : List (Bool × Nat)) (f : State → Ans) (s : State) :
    checks ((false, st) :: l) f s = checks l f s := rfl

@[simp] theorem forEach_nil {α : Type} (f : α → State → State) (s : State) : forEach [] f s = s := (rfl)
@[simp] theorem forEach_cons {α : Type} (a : α) (l : List α) (f : α → State → State) (s : State) :
    forEach (a :: l) f s = forEach l f (f a s) := (rfl)
@[simp] theorem applyIf_true (f : State → State) (s : State) : applyIf true f s = f s := (rfl)
@[simp] theorem applyIf_false (f : State → State) (s : State) : applyIf false f s = s := (rfl)

@[simp] theorem settle_ok (mb : Nat) (s : State) : settle mb (.ok s) = setOutcome mb ⟨stOk, false, []⟩ s := rfl
@[simp] theorem settle_ret (mb : Nat) (r : List (Nat × Nat)) (s : State) :
    settle mb (.ret r s) = setOutcome mb ⟨stOk, false, pack r⟩ s := rfl
@[simp] theorem settle_done (mb st : Nat) (r : List Nat) (s : State) :
    settle mb (.done st r s) = setOutcome mb ⟨st, false, r⟩ s := rfl
@[simp] theorem settle_runs (mb : Nat) (s : State) : settle mb (.runs s) = s := rfl

/-! ## Events and changes of mode -/

/-- Only registers and the management state differ. -/
def State.EventsOnly (s t : State) : Prop := ∃ r m, t = { s with regs := r, mgt := m }

theorem forEach_events {α : Type} (f : α → State → State) (h : ∀ a (s : State), s.EventsOnly (f a s)) (l : List α) (s : State) :
    s.EventsOnly (forEach l f s) := by
  induction l generalizing s with
  | nil => exact ⟨s.regs, s.mgt, rfl⟩
  | cons a l ih =>
    rw [forEach_cons]
    obtain ⟨r, m, e⟩ := h a s
    obtain ⟨r', m', e'⟩ := ih (f a s)
    exact ⟨r', m', by rw [e', e]⟩

theorem offerEvent_events (code : Nat) (args : List Nat) (m : Nat) (s : State) : s.EventsOnly (offerEvent code args m s) := by
  unfold offerEvent
  simp only []
  split
  · exact ⟨_, _, rfl⟩
  · split
    · exact ⟨_, _, rfl⟩
    · split <;> exact ⟨_, _, rfl⟩

/-- Raising an event touches registers and the management state only. -/
theorem raise_events (code : Nat) (args : List (Nat × Nat)) (s : State) : s.EventsOnly (raise code args s) := by
  unfold raise
  split
  · exact forEach_events _ (offerEvent_events code _) _ s
  · exact ⟨_, _, rfl⟩

/-- A change of mode touches registers and the management state only. -/
theorem commitMode_events (m : Nat) (s : State) : s.EventsOnly (commitMode m s) := by
  unfold commitMode
  split
  · exact ⟨_, _, rfl⟩
  · obtain ⟨r, g, e⟩ := raise_events 0x0101
      [(4, (((s.set R.DEV_MODE.PREV_MODE s.mode).set R.DEV_MODE.MODE m).set R.DEV_MODE.MODE_CHG 1).devMode)]
      (((s.set R.DEV_MODE.PREV_MODE s.mode).set R.DEV_MODE.MODE m).set R.DEV_MODE.MODE_CHG 1)
    exact ⟨r, g, e⟩

/-- A field of no mailbox card. -/
abbrev Fld.Plain (f : Fld) : Prop := ¬ (0x200 * 64 ≤ f.key ∧ f.key < 0x240 * 64)

theorem offerEvent_get (code : Nat) (args : List Nat) (m : Nat) (hm : m < 16) (s : State) (f : Fld) (h : f.Plain) :
    (offerEvent code args m s).get f = s.get f := by
  have k1 : f.key ≠ (R.MB_CTL.EVT m).key := fun e => h (by rw [e]; simp only [Fld.key, R.MB_CTL.EVT]; omega)
  have k2 : f.key ≠ (R.MB_CTL.EVT_CNT m).key := fun e => h (by rw [e]; simp only [Fld.key, R.MB_CTL.EVT_CNT]; omega)
  have k3 : f.key ≠ (R.MB_CTL.EVT_LOST m).key := fun e => h (by rw [e]; simp only [Fld.key, R.MB_CTL.EVT_LOST]; omega)
  unfold offerEvent
  simp only []
  split
  · rfl
  · split
    · exact State.get_set_ne _ _ k3
    · split
      · rfl
      · simp only [State.setQueue, State.setB]
        rw [State.get_set_ne _ _ k1, State.get_set_ne _ _ k2]; rfl

/-- Raising an event changes no register but those of the mailbox cards. -/
theorem raise_get (code : Nat) (args : List (Nat × Nat)) (s : State) (f : Fld) (h : f.Plain) :
    (raise code args s).get f = s.get f := by
  unfold raise
  split
  · have : ∀ l : List Nat, (∀ m ∈ l, m < 16) → ∀ s : State,
        (forEach l (offerEvent code (pack args)) s).get f = s.get f := by
      intro l
      induction l with
      | nil => intro _ s; rfl
      | cons a l ih =>
        intro hl s
        rw [forEach_cons, ih (fun m hm => hl m (List.mem_cons_of_mem _ hm)),
          offerEvent_get _ _ _ (hl a List.mem_cons_self) _ _ h]
    exact this _ (fun m hm => List.mem_range.mp hm) s
  · rfl

/-- A change of mode changes no register but `DEV_MODE` and those of the mailbox cards. -/
theorem commitMode_get (m : Nat) (s : State) (f : Fld) (h : f.Plain) (h1 : f.key ≠ R.DEV_MODE.PREV_MODE.key)
    (h2 : f.key ≠ R.DEV_MODE.MODE.key) (h3 : f.key ≠ R.DEV_MODE.MODE_CHG.key) :
    (commitMode m s).get f = s.get f := by
  unfold commitMode
  split
  · rfl
  · exact (raise_get _ _ _ _ h).trans (by rw [State.get_set_ne _ _ h3, State.get_set_ne _ _ h2, State.get_set_ne _ _ h1])

/-- After a change of mode, the mode is the one committed. -/
theorem commitMode_mode (m : Nat) (s : State) (h : m < 16) : (commitMode m s).mode = m := by
  unfold commitMode
  split
  · assumption
  · refine (raise_get _ _ _ _ (by decide)).trans ?_
    rw [State.get_set_ne _ _ (by decide), State.get_set_same]; exact Nat.mod_eq_of_lt h

@[simp] theorem raise_pending (code : Nat) (args : List (Nat × Nat)) (s : State) : (raise code args s).pending = s.pending := by
  obtain ⟨r, m, e⟩ := raise_events code args s; rw [e]
@[simp] theorem commitMode_pending (m : Nat) (s : State) : (commitMode m s).pending = s.pending := by
  obtain ⟨r, g, e⟩ := commitMode_events m s; rw [e]
@[simp] theorem raise_free (code : Nat) (args : List (Nat × Nat)) (s : State) : (raise code args s).free = s.free := by
  obtain ⟨r, m, e⟩ := raise_events code args s; rw [e]
@[simp] theorem commitMode_free (m : Nat) (s : State) : (commitMode m s).free = s.free := by
  obtain ⟨r, g, e⟩ := commitMode_events m s; rw [e]
@[simp] theorem raise_aon (code : Nat) (args : List (Nat × Nat)) (s : State) : (raise code args s).aon = s.aon := by
  obtain ⟨r, m, e⟩ := raise_events code args s; rw [e]
@[simp] theorem commitMode_aon (m : Nat) (s : State) : (commitMode m s).aon = s.aon := by
  obtain ⟨r, g, e⟩ := commitMode_events m s; rw [e]
@[simp] theorem raise_therm (code : Nat) (args : List (Nat × Nat)) (s : State) : (raise code args s).therm = s.therm := by
  obtain ⟨r, m, e⟩ := raise_events code args s; rw [e]
@[simp] theorem commitMode_therm (m : Nat) (s : State) : (commitMode m s).therm = s.therm := by
  obtain ⟨r, g, e⟩ := commitMode_events m s; rw [e]
@[simp] theorem raise_clk (code : Nat) (args : List (Nat × Nat)) (s : State) : (raise code args s).clk = s.clk := by
  obtain ⟨r, m, e⟩ := raise_events code args s; rw [e]
@[simp] theorem commitMode_clk (m : Nat) (s : State) : (commitMode m s).clk = s.clk := by
  obtain ⟨r, g, e⟩ := commitMode_events m s; rw [e]
@[simp] theorem raise_noc (code : Nat) (args : List (Nat × Nat)) (s : State) : (raise code args s).noc = s.noc := by
  obtain ⟨r, m, e⟩ := raise_events code args s; rw [e]
@[simp] theorem commitMode_noc (m : Nat) (s : State) : (commitMode m s).noc = s.noc := by
  obtain ⟨r, g, e⟩ := commitMode_events m s; rw [e]
@[simp] theorem raise_lane (code : Nat) (args : List (Nat × Nat)) (s : State) : (raise code args s).lane = s.lane := by
  obtain ⟨r, m, e⟩ := raise_events code args s; rw [e]
@[simp] theorem commitMode_lane (m : Nat) (s : State) : (commitMode m s).lane = s.lane := by
  obtain ⟨r, g, e⟩ := commitMode_events m s; rw [e]
@[simp] theorem raise_link (code : Nat) (args : List (Nat × Nat)) (s : State) : (raise code args s).link = s.link := by
  obtain ⟨r, m, e⟩ := raise_events code args s; rw [e]
@[simp] theorem commitMode_link (m : Nat) (s : State) : (commitMode m s).link = s.link := by
  obtain ⟨r, g, e⟩ := commitMode_events m s; rw [e]
@[simp] theorem raise_test (code : Nat) (args : List (Nat × Nat)) (s : State) : (raise code args s).test = s.test := by
  obtain ⟨r, m, e⟩ := raise_events code args s; rw [e]
@[simp] theorem commitMode_test (m : Nat) (s : State) : (commitMode m s).test = s.test := by
  obtain ⟨r, g, e⟩ := commitMode_events m s; rw [e]
@[simp] theorem raise_io (code : Nat) (args : List (Nat × Nat)) (s : State) : (raise code args s).io = s.io := by
  obtain ⟨r, m, e⟩ := raise_events code args s; rw [e]
@[simp] theorem commitMode_io (m : Nat) (s : State) : (commitMode m s).io = s.io := by
  obtain ⟨r, g, e⟩ := commitMode_events m s; rw [e]
@[simp] theorem raise_fab (code : Nat) (args : List (Nat × Nat)) (s : State) : (raise code args s).fab = s.fab := by
  obtain ⟨r, m, e⟩ := raise_events code args s; rw [e]
@[simp] theorem commitMode_fab (m : Nat) (s : State) : (commitMode m s).fab = s.fab := by
  obtain ⟨r, g, e⟩ := commitMode_events m s; rw [e]
@[simp] theorem raise_bm (code : Nat) (args : List (Nat × Nat)) (s : State) : (raise code args s).bm = s.bm := by
  obtain ⟨r, m, e⟩ := raise_events code args s; rw [e]
@[simp] theorem commitMode_bm (m : Nat) (s : State) : (commitMode m s).bm = s.bm := by
  obtain ⟨r, g, e⟩ := commitMode_events m s; rw [e]
@[simp] theorem raise_ctx (code : Nat) (args : List (Nat × Nat)) (s : State) : (raise code args s).ctx = s.ctx := by
  obtain ⟨r, m, e⟩ := raise_events code args s; rw [e]
@[simp] theorem commitMode_ctx (m : Nat) (s : State) : (commitMode m s).ctx = s.ctx := by
  obtain ⟨r, g, e⟩ := commitMode_events m s; rw [e]
@[simp] theorem raise_cache (code : Nat) (args : List (Nat × Nat)) (s : State) : (raise code args s).cache = s.cache := by
  obtain ⟨r, m, e⟩ := raise_events code args s; rw [e]
@[simp] theorem commitMode_cache (m : Nat) (s : State) : (commitMode m s).cache = s.cache := by
  obtain ⟨r, g, e⟩ := commitMode_events m s; rw [e]
@[simp] theorem raise_bulk (code : Nat) (args : List (Nat × Nat)) (s : State) : (raise code args s).bulk = s.bulk := by
  obtain ⟨r, m, e⟩ := raise_events code args s; rw [e]
@[simp] theorem commitMode_bulk (m : Nat) (s : State) : (commitMode m s).bulk = s.bulk := by
  obtain ⟨r, g, e⟩ := commitMode_events m s; rw [e]
@[simp] theorem raise_cfg (code : Nat) (args : List (Nat × Nat)) (s : State) : (raise code args s).cfg = s.cfg := by
  obtain ⟨r, m, e⟩ := raise_events code args s; rw [e]
@[simp] theorem commitMode_cfg (m : Nat) (s : State) : (commitMode m s).cfg = s.cfg := by
  obtain ⟨r, g, e⟩ := commitMode_events m s; rw [e]
@[simp] theorem raise_sec (code : Nat) (args : List (Nat × Nat)) (s : State) : (raise code args s).sec = s.sec := by
  obtain ⟨r, m, e⟩ := raise_events code args s; rw [e]
@[simp] theorem commitMode_sec (m : Nat) (s : State) : (commitMode m s).sec = s.sec := by
  obtain ⟨r, g, e⟩ := commitMode_events m s; rw [e]
@[simp] theorem raise_integ (code : Nat) (args : List (Nat × Nat)) (s : State) : (raise code args s).integ = s.integ := by
  obtain ⟨r, m, e⟩ := raise_events code args s; rw [e]
@[simp] theorem commitMode_integ (m : Nat) (s : State) : (commitMode m s).integ = s.integ := by
  obtain ⟨r, g, e⟩ := commitMode_events m s; rw [e]

/-! ## Ticks -/

/-- What holds of the start and is kept by every pass holds at the end. -/
theorem forEach_ind {α : Type} (P : State → Prop) (f : α → State → State) (l : List α) (s : State) (h0 : P s)
    (h : ∀ a s, P s → P (f a s)) : P (forEach l f s) := by
  induction l generalizing s with
  | nil => exact h0
  | cons a l ih => rw [forEach_cons]; exact ih _ (h a s h0)

theorem sendBlock_regs (l hdr payload : Nat) (s : State) : (sendBlock l hdr payload s).regs = s.regs := by
  unfold sendBlock; split <;> rfl

theorem sendBlock_clk (l hdr payload : Nat) (s : State) : (sendBlock l hdr payload s).clk = s.clk := by
  unfold sendBlock; split <;> rfl

/-- Tick markers leave the registers and the clock state alone. -/
theorem sendMarkers_keeps (t : Nat) (s : State) : (sendMarkers t s).regs = s.regs ∧ (sendMarkers t s).clk = s.clk := by
  unfold sendMarkers
  refine forEach_ind (fun u => u.regs = s.regs ∧ u.clk = s.clk) _ _ _ ⟨rfl, rfl⟩ ?_
  rintro a u ⟨h1, h2⟩
  refine ⟨(sendBlock_regs _ _ _ _).trans h1, (sendBlock_clk _ _ _ _).trans h2⟩

/-- After a boundary the counter shows the tick that it began. -/
@[simp] theorem beginTick_tick (t : Nat) (s : State) : (beginTick t s).clk.tick = t := by
  unfold beginTick; rw [(sendMarkers_keeps _ _).2]

@[simp] theorem beginTick_regs (t : Nat) (s : State) : (beginTick t s).regs = s.regs := by
  unfold beginTick; rw [(sendMarkers_keeps _ _).1]

@[simp] theorem beginTick_loads (t : Nat) (s : State) : (beginTick t s).clk.loads = s.clk.loads := by
  unfold beginTick; rw [(sendMarkers_keeps _ _).2]

theorem State.get_setB_ne (s : State) {f g : Fld} (b : Bool) (h : g.key ≠ f.key) : (s.setB f b).get g = s.get g :=
  State.get_set_ne s _ h

/-- `ARMED` alone follows the schedule. -/
theorem refreshArmed_keeps (s : State) : (refreshArmed s).clk = s.clk ∧
    ∀ f : Fld, (∀ k < 16, f.key ≠ (R.SWAP_CTL.ARMED k).key) → (refreshArmed s).get f = s.get f := by
  unfold refreshArmed
  have : ∀ (l : List Nat) (u : State), (∀ k ∈ l, k < 16) → u.clk = s.clk →
      (forEach l (fun k s => s.setB (R.SWAP_CTL.ARMED k) (s.clk.sched.any fun e =>
        (e.2.st == 1 || e.2.st == 4) && e.2.action == 1 && e.2.arg == k)) u).clk = s.clk ∧
      ∀ f : Fld, (∀ k < 16, f.key ≠ (R.SWAP_CTL.ARMED k).key) →
        (forEach l (fun k s => s.setB (R.SWAP_CTL.ARMED k) (s.clk.sched.any fun e =>
          (e.2.st == 1 || e.2.st == 4) && e.2.action == 1 && e.2.arg == k)) u).get f = u.get f := by
    intro l
    induction l with
    | nil => intro u _ h; exact ⟨h, fun _ _ => rfl⟩
    | cons a l ih =>
      intro u hl h
      rw [forEach_cons]
      obtain ⟨i1, i2⟩ := ih (u.setB (R.SWAP_CTL.ARMED a) _) (fun k hk => hl k (List.mem_cons_of_mem _ hk)) h
      exact ⟨i1, fun f hf => (i2 f hf).trans (State.get_setB_ne _ _ (hf a (hl a List.mem_cons_self)))⟩
  exact this _ s (fun k hk => List.mem_range.mp hk) rfl

/-- A missed entry leaves the tick counter and the loads that wait. -/
theorem missEntry_keeps (h : Nat) (s : State) : (missEntry h s).clk.tick = s.clk.tick ∧ (missEntry h s).clk.loads = s.clk.loads ∧
    (missEntry h s).get R.MCLK_STAT.STEP = s.get R.MCLK_STAT.STEP := by
  unfold missEntry State.setSched
  rw [raise_clk, (refreshArmed_keeps _).1]
  refine ⟨rfl, rfl, ?_⟩
  rw [raise_get _ _ _ _ (by decide), (refreshArmed_keeps _).2 _ (by decide)]; rfl

theorem skipEntries_keeps (o n : Nat) (s : State) : (skipEntries o n s).clk.tick = s.clk.tick ∧
    (skipEntries o n s).clk.loads = s.clk.loads ∧ (skipEntries o n s).get R.MCLK_STAT.STEP = s.get R.MCLK_STAT.STEP := by
  unfold skipEntries
  simp only []
  split
  · refine forEach_ind (fun u => u.clk.tick = s.clk.tick ∧ u.clk.loads = s.clk.loads ∧
      u.get R.MCLK_STAT.STEP = s.get R.MCLK_STAT.STEP) _ _ _ ⟨rfl, rfl, rfl⟩ ?_
    rintro a u ⟨h1, h2, h3⟩
    split
    · obtain ⟨k1, k2, k3⟩ := missEntry_keeps a u
      exact ⟨k1.trans h1, k2.trans h2, k3.trans h3⟩
    · exact ⟨h1, h2, h3⟩
  · exact ⟨rfl, rfl, rfl⟩

end Sys2Proof.Machine
end

