-- ==== Sys2Proof/Laws/Fab.lean ====
section
/-! SUPPORT. What an edge does to the flip-flops, and what leaves them alone. -/

namespace Sys2Proof.Machine

/-! ## One flip-flop -/

theorem ffVal_setFf_same (r i : Nat) (v : Bool) (s : State) (h : (Config.cell (s.frames r) (i / 2)).used = true) :
    (setFf r i v s).ffVal r i = v := by
  have : (setFf r i v s).frames r = s.frames r := rfl
  unfold State.ffVal
  rw [this, h, show lookup (setFf r i v s).fab.ff (ffKey r i) = some (if v then 1 else 0) from lookup_put_same _ _ _]
  cases v <;> rfl

theorem ffVal_setFf_ne (r i : Nat) (v : Bool) (s : State) {q j : Nat} (h : ffKey q j ≠ ffKey r i) :
    (setFf r i v s).ffVal q j = s.ffVal q j := by
  have : (setFf r i v s).frames q = s.frames q := rfl
  unfold State.ffVal
  rw [this, show lookup (setFf r i v s).fab.ff (ffKey q j) = lookup s.fab.ff (ffKey q j) from lookup_put_ne _ _ h]

/-- Only flip-flops differ. -/
def State.FfOnly (s t : State) : Prop := ∃ m, t = { s with fab := { s.fab with ff := m } }

theorem State.FfOnly.refl (s : State) : s.FfOnly s := ⟨s.fab.ff, rfl⟩

theorem State.FfOnly.trans {s t u : State} (h : s.FfOnly t) (h' : t.FfOnly u) : s.FfOnly u := by
  obtain ⟨m, rfl⟩ := h; obtain ⟨m', rfl⟩ := h'; exact ⟨m', rfl⟩

theorem setFf_ffOnly (r i : Nat) (v : Bool) (s : State) : s.FfOnly (setFf r i v s) := ⟨_, rfl⟩

/-- The clock of control set `k` has its edge at `e`. -/
def clockedBy (k : CtlCfg) (e : Option EdgeOf) : Bool :=
  match e with | some e => k.clk.val == e.clk && k.falling == e.falling | none => false

/-- Away from an asynchronous hazard and from a narrow pulse, a flip-flop takes what Table 5-7 leaves to it. -/
theorem ffTake_eq (r : Nat) (e : Option EdgeOf) (i : FabIn) (u : CluIn) (x : CellIn) (b : Nat) (s : State)
    (he : ∀ y, e = some y → y.narrow = false) (hu : u.hazard = 0) :
    ffTake r e i u x b s =
      let fr := s.frames r
      let n := 16 * u.cluster.val + x.cell.val
      let c := Config.cell fr n
      let set := if b = 0 then c.csA else c.csB
      let k := Config.ctl fr (4 * u.cluster.val + set.val)
      let srv := if b = 0 then c.srvA else c.srvB
      if !c.used then s
      else match ffNext k srv (u.sr.getLsbD set) (u.ce.getLsbD set) (clockedBy k e) (ffData fr i n b) with
        | some v => setFf r (2 * n + b) v s
        | none => s := by
  unfold ffTake
  cases e with
  | none => simp [clockedBy, hu] <;> rfl
  | some y => simp [clockedBy, hu, he y rfl] <;> rfl

theorem ffTake_ffOnly (r : Nat) (e : Option EdgeOf) (i : FabIn) (u : CluIn) (x : CellIn) (b : Nat) (s : State)
    (he : ∀ y, e = some y → y.narrow = false) (hu : u.hazard = 0) : s.FfOnly (ffTake r e i u x b s) := by
  rw [ffTake_eq r e i u x b s he hu]
  dsimp only
  split
  · exact .refl s
  · split
    · exact setFf_ffOnly _ _ _ _
    · exact .refl s

/-- A flip-flop whose key another one has not keeps its value. -/
theorem ffTake_other (r : Nat) (e : Option EdgeOf) (i : FabIn) (u : CluIn) (x : CellIn) (b : Nat) (s : State)
    (he : ∀ y, e = some y → y.narrow = false) (hu : u.hazard = 0) {q j : Nat}
    (h : ffKey q j ≠ ffKey r (2 * (16 * u.cluster.val + x.cell.val) + b)
      ∨ (Config.cell (s.frames r) (16 * u.cluster.val + x.cell.val)).used = false) :
    (ffTake r e i u x b s).ffVal q j = s.ffVal q j := by
  rw [ffTake_eq r e i u x b s he hu]
  dsimp only
  split
  · rfl
  · next hn =>
    split
    · rcases h with h | h
      · exact ffVal_setFf_ne _ _ _ _ h
      · rw [h] at hn; simp at hn
    · rfl

/-- The value that flip-flop `b` of the cell takes. -/
theorem ffTake_value (r : Nat) (e : Option EdgeOf) (i : FabIn) (u : CluIn) (x : CellIn) (b : Nat) (s : State) (hb : b < 2)
    (he : ∀ y, e = some y → y.narrow = false) (hu : u.hazard = 0)
    (h : (Config.cell (s.frames r) (16 * u.cluster.val + x.cell.val)).used = true) :
    let fr := s.frames r
    let n := 16 * u.cluster.val + x.cell.val
    let c := Config.cell fr n
    let set := if b = 0 then c.csA else c.csB
    let k := Config.ctl fr (4 * u.cluster.val + set.val)
    (ffTake r e i u x b s).ffVal r (2 * n + b) =
      (ffNext k (if b = 0 then c.srvA else c.srvB) (u.sr.getLsbD set) (u.ce.getLsbD set) (clockedBy k e)
        (ffData fr i n b)).getD (s.ffVal r (2 * n + b)) := by
  rw [ffTake_eq r e i u x b s he hu]
  dsimp only
  rw [h]
  simp only [Bool.not_true, Bool.false_eq_true, if_false]
  split
  · next v hv =>
    rw [hv, Option.getD_some]
    refine ffVal_setFf_same _ _ _ _ ?_
    rw [show (2 * (16 * u.cluster.val + x.cell.val) + b) / 2 = 16 * u.cluster.val + x.cell.val by omega]
    exact h
  · next hv => rw [hv]; rfl

/-- Frames of planes do not change with flip-flops. -/
theorem State.FfOnly.frames {s t : State} (h : s.FfOnly t) (r : Nat) : t.frames r = s.frames r := by
  obtain ⟨m, rfl⟩ := h; rfl

/-! ## The cells of one cluster -/

theorem takeFfs_one (r : Nat) (e : Option EdgeOf) (i : FabIn) (u : CluIn) (x : CellIn) (s : State)
    (h1 : i.clu = [u]) (h2 : u.cells = [x]) :
    takeFfs r e i s = ffTake r e i u x 1 (ffTake r e i u x 0 s) := by
  unfold takeFfs; rw [h1]; simp only [forEach_cons, forEach_nil]; rw [h2]; rfl

/-- The flip-flops of a cell follow Table 5-7 at an edge that its region takes. -/
theorem takeFfs_follows (r : Nat) (e : Option EdgeOf) (i : FabIn) (u : CluIn) (x : CellIn) (s : State)
    (h1 : i.clu = [u]) (h2 : u.cells = [x]) (he : ∀ y, e = some y → y.narrow = false) (hu : u.hazard = 0) :
    FollowsTable57 s (takeFfs r e i s) r e i u x := by
  rw [takeFfs_one r e i u x s h1 h2]
  have f0 := ffTake_ffOnly r e i u x 0 s he hu
  have key : ∀ n : Nat, ffKey r (2 * n + 0) ≠ ffKey r (2 * n + 1) := fun n => by unfold ffKey; omega
  have hN : ∀ (k : CtlCfg) (srv sr ce clocked d old : Bool), (ffNext k srv sr ce clocked d).getD old =
      if (!k.srZero && sr) = true ∧ (k.async = true ∨ clocked = true) then srv
      else if clocked = true ∧ (k.ceOne = true ∨ ce = true) then d else old := by
    intro k srv sr ce clocked d old
    unfold ffNext
    cases k.srZero <;> cases sr <;> cases k.async <;> cases clocked <;> cases k.ceOne <;> cases ce <;> rfl
  refine ⟨fun hc b hb => ?_, fun q j h => ?_⟩
  · have hb' : b = 0 ∨ b = 1 := by omega
    rcases hb' with rfl | rfl
    · rw [ffTake_other r e i u x 1 _ he hu (.inl (key _)), ffTake_value r e i u x 0 s hb he hu hc, hN]
      cases e <;> rfl
    · have hc' : (Config.cell ((ffTake r e i u x 0 s).frames r) (16 * u.cluster.val + x.cell.val)).used = true := by
        rw [f0.frames]; exact hc
      rw [ffTake_value r e i u x 1 _ hb he hu hc', f0.frames, hN,
        ffTake_other r e i u x 0 s he hu (.inl (key _).symm)]
      cases e <;> rfl
  · have h' : (ffKey q j ≠ ffKey r (2 * (16 * u.cluster.val + x.cell.val) + 1)
        ∨ (Config.cell ((ffTake r e i u x 0 s).frames r) (16 * u.cluster.val + x.cell.val)).used = false) := by
      rw [f0.frames]; exact h.imp (fun h => h.2) id
    rw [ffTake_other r e i u x 1 _ he hu h', ffTake_other r e i u x 0 s he hu (h.imp (fun h => h.1) id)]

/-- What followed Table 5-7 still does after a change of other state. -/
theorem FollowsTable57.congr {s s' t t' : State} {r : Nat} {e : Option EdgeOf} {i : FabIn} {u : CluIn} {x : CellIn}
    (h : FollowsTable57 s t r e i u x) (hf : s'.frames r = s.frames r) (hs : ∀ q j, s'.ffVal q j = s.ffVal q j)
    (ht : ∀ q j, t'.ffVal q j = t.ffVal q j) : FollowsTable57 s' t' r e i u x := by
  unfold FollowsTable57 at *
  rw [hf]
  refine ⟨fun hc b hb => ?_, fun q j hq => ?_⟩
  · rw [ht, hs]; exact h.1 hc b hb
  · rw [ht, hs]; exact h.2 q j hq

/-- Outputs and pillars leave the flip-flops alone. -/
theorem recordFab_ffVal (r : Nat) (i : FabIn) (s : State) (q j : Nat) : (recordFab r i s).ffVal q j = s.ffVal q j := rfl

/-- An edge that reaches a region changes flip-flops, outputs and pillars only, and is kept as the net's last one. -/
theorem actEdge_shape (n : Nat) (fl : Bool) (i : FabIn) (u : CluIn) (x : CellIn) (s : State)
    (h1 : i.clu = [u]) (h2 : u.cells = [x]) (hu : u.hazard = 0) :
    ∃ m o p, actEdge n fl i s = { s with fab := { s.fab with
      acts := (2 * n + if fl then 1 else 0) :: s.fab.acts, ff := m, out := o, pil := p } } := by
  unfold actEdge
  dsimp only
  rw [takeFfs_one (n / 16) _ i u x _ h1 h2]
  obtain ⟨m, e⟩ := (ffTake_ffOnly (n / 16) (some ⟨n % 16, fl, false⟩) i u x 0
    (s.modFab fun f => { f with acts := (2 * n + if fl then 1 else 0) :: f.acts }) (by simp) hu).trans
    (ffTake_ffOnly (n / 16) (some ⟨n % 16, fl, false⟩) i u x 1 _ (by simp) hu)
  rw [e]
  exact ⟨_, _, _, rfl⟩

/-- The flip-flops of a cell follow Table 5-7 at an edge that reaches their region. -/
theorem actEdge_follows (n : Nat) (fl : Bool) (i : FabIn) (u : CluIn) (x : CellIn) (s : State)
    (h1 : i.clu = [u]) (h2 : u.cells = [x]) (hu : u.hazard = 0) :
    FollowsTable57 s (actEdge n fl i s) (n / 16) (some ⟨n % 16, fl, false⟩) i u x :=
  (takeFfs_follows (n / 16) (some ⟨n % 16, fl, false⟩) i u x
    (s.modFab fun f => { f with acts := (2 * n + if fl then 1 else 0) :: f.acts }) h1 h2 (by simp) hu).congr rfl
    (fun _ _ => rfl) (fun _ _ => rfl)

/-! ## The stages of a net -/

/-- With no swap cycle, no waiting change of plane state and no reset, an edge of the context clock touches the context
machinery only. -/
theorem ctxEdge_quiet (r : Nat) (s : State) (h1 : (s.ctxR r).inSwap = false) (h2 : (s.ctxR r).due = []) (h3 : s.held r = false) :
    ∃ g, ctxEdge r s = { s with ctx := { s.ctx with regions := g } } ∧ (at' g r CtxR.init).inSwap = false ∧ (at' g r CtxR.init).ow = (s.ctxR r).ow := by
  unfold ctxEdge placeDue
  simp only [h1, applyIf_false]
  have e : ∀ f, (s.modCtx r f).ctxR r = f (s.ctxR r) := fun f => at'_putD_same _ _ _ _
  rw [e]; simp only [h2, forEach_nil]
  have hh : ∀ f g, ((s.modCtx r f).modCtx r g).held r = false := fun f g => h3
  rw [hh]; simp only [Bool.false_eq_true, and_false, if_false]
  refine ⟨_, rfl, ?_, ?_⟩
  · rw [at'_putD_same]; unfold State.ctxR State.modCtx; dsimp only; rw [at'_putD_same]; exact h1
  · rw [at'_putD_same]; unfold State.ctxR State.modCtx; dsimp only; rw [at'_putD_same]; rfl

/-- A rising edge that all four stages of its net pass, in a region that takes edges, reaches the flip-flops. -/
theorem risingEdge_passes (n : Nat) (i : FabIn) (s : State) (h3 : s.passesNext n = true) (h4 : (s.gate n).isOpen = true) (h5 : s.frozen (n / 16) = false)
    (h6 : at' s.fab.rel n 0 = 0) (h7 : at' s.fab.skip (2 * n) 0 = 0) (h8 : (s.ctxR (n / 16)).due = []) :
    ∃ h : State, risingEdge n i s = actEdge n false i h ∧ (∀ r, h.frames r = s.frames r) ∧ h.fab.ff = s.fab.ff ∧ n ∈ h.fab.high ∧
      h.cache = s.cache ∧ h.bulk = s.bulk := by
  simp only [State.passesNext, Bool.and_eq_true, Bool.not_eq_true'] at h3
  obtain ⟨⟨⟨a1, a2⟩, a3⟩, a4⟩ := h3
  simp only [State.frozen, Bool.or_eq_false_iff] at h5
  obtain ⟨⟨b1, b2⟩, b3⟩ := h5
  have b4 : s.held (n / 16) = false := by simp [State.srHeld] at b1; exact b1.1.2
  generalize hb : applyIf (n == (lowNet n s).ctxNet (n / 16)) (fun s => s.modCtx (n / 16) fun c => { c with edge := false }) (lowNet n s) = B
  have kB : ∃ g, B = { lowNet n s with ctx := { s.ctx with regions := g } } ∧ (∀ q, ((at' g q CtxR.init).inSwap = (s.ctxR q).inSwap ∧ (at' g q CtxR.init).ow = (s.ctxR q).ow ∧ (at' g q CtxR.init).due = (s.ctxR q).due)) := by
    rw [← hb]; unfold applyIf; split
    · refine ⟨_, rfl, fun q => ?_⟩
      by_cases hq : q = n / 16
      · subst hq; rw [at'_putD_same]; exact ⟨rfl, rfl, rfl⟩
      · rw [at'_putD_ne _ _ _ _ hq]; exact ⟨rfl, rfl, rfl⟩
    · exact ⟨_, rfl, fun q => ⟨rfl, rfl, rfl⟩⟩
  obtain ⟨g, kB, kg⟩ := kB
  have c1 : B.sourceRuns n = true := by rw [kB]; exact a1
  have c2 : B.enableLow n = false := by rw [kB]; exact a2
  have c3 : (B.nextGate n).isOpen = true := by rw [kB]; exact a4
  have c4 : (B.gate n).isOpen = true := by rw [kB]; exact h4
  have sh : ((B.gate n).isOpen && !(B.nextGate n).isOpen) = false := by rw [c3]; simp
  generalize hC : B.modFab (fun f => { f with gate := putD f.gate n ⟨false, 0⟩ (B.nextGate n) }) = C
  have gs : gateStep n B = C := by
    unfold gateStep; dsimp only; rw [sh]; simp only [applyIf_false, Bool.false_and]; exact hC
  generalize hD : C.modFab (fun f => { f with phase := putD f.phase n 0 ((at' f.phase n 0 + 1) % 16) }) = D
  have d1 : C.shedPasses n = true := by rw [← hC, kB]; exact a3
  have d2 : (D.gate n).isOpen = true := by
    rw [← hD, ← hC]
    rw [show (((B.modFab fun f => { f with gate := putD f.gate n ⟨false, 0⟩ (B.nextGate n) }).modFab fun f => { f with phase := putD f.phase n 0 ((at' f.phase n 0 + 1) % 16) }).gate n) = B.nextGate n from at'_putD_same _ _ _ _]
    exact c3
  generalize hE : ((D.set (R.RCN_CFG.RUNNING n) 1).modFab fun f => { f with high := n :: f.high }) = E
  have r1 : risingEdge n i s = performEdge n i (applyIf (n == E.ctxNet (n / 16)) (ctxEdge (n / 16)) E) := by
    unfold risingEdge
    dsimp only
    rw [hb, if_neg (by rw [c1]; simp), gs, if_neg (by rw [show C.enableLow n = B.enableLow n by rw [← hC]; rfl, c2]; simp)]
    unfold shedStep
    dsimp only
    rw [hD, d1, d2, hE]; rfl
  have getE : ∀ f : Fld, f.key % 64 ≠ 17 → E.get f = s.get f := by
    intro f hf
    have g1 : E.get f = (D.set (R.RCN_CFG.RUNNING n) 1).get f := by rw [← hE]; rfl
    have g2 : D.get f = s.get f := by rw [← hD, ← hC, kB]; rfl
    rw [g1, State.get_set_ne _ _ (by simp only [Fld.key, R.RCN_CFG.RUNNING] at *; omega), g2]
  have fE : ∀ r, E.frames r = s.frames r := by
    intro r
    have : E.activePlane r = s.activePlane r := getE _ (by simp only [Fld.key, R.CTX_STAT.ACTIVE]; omega)
    unfold State.frames
    rw [this, ← hE, ← hD, ← hC, kB]; rfl
  have ctxE : E.ctx = { s.ctx with regions := g } := by rw [← hE, ← hD, ← hC, kB]; rfl
  have ctxRE : ∀ q, (E.ctxR q).inSwap = (s.ctxR q).inSwap ∧ (E.ctxR q).ow = (s.ctxR q).ow ∧ (E.ctxR q).due = (s.ctxR q).due := by
    intro q; unfold State.ctxR; rw [ctxE]; exact kg q
  have heldE : ∀ q, E.held q = s.held q := by
    intro q; unfold State.held State.bit; rw [getE _ (by simp only [Fld.key, R.RST_FUNC.HOLD]; omega)]
  generalize hF : applyIf (n == E.ctxNet (n / 16)) (ctxEdge (n / 16)) E = F at r1
  have kF : ∃ g2, F = { E with ctx := { E.ctx with regions := g2 } } ∧ ((at' g2 (n / 16) CtxR.init).inSwap = false ∧ (at' g2 (n / 16) CtxR.init).ow = (s.ctxR (n / 16)).ow) := by
    rw [← hF]
    obtain ⟨x1, x2, x3⟩ := ctxRE (n / 16)
    unfold applyIf; split
    · obtain ⟨g2, y1, y2, y3⟩ := ctxEdge_quiet (n / 16) E (x1.trans b2) (x3.trans h8) ((heldE _).trans b4)
      exact ⟨g2, y1, y2, y3.trans x2⟩
    · exact ⟨E.ctx.regions, rfl, x1.trans b2, x2⟩
  obtain ⟨g2, kF, kF1, kF2⟩ := kF
  have s1 : F.srHeld (n / 16) = false := by
    rw [kF]; unfold State.srHeld State.flag State.ctxR
    dsimp only
    rw [kF2]
    rw [show State.get { E with ctx := { E.ctx with regions := g2 } } R.FAB_CTL.GSR_HELD = E.get R.FAB_CTL.GSR_HELD from rfl, getE _ (by decide)]
    rw [show State.held { E with ctx := { E.ctx with regions := g2 } } (n / 16) = E.held (n / 16) from rfl, heldE]
    exact b1
  have s2 : at' F.fab.rel n 0 = 0 := by rw [kF, ← hE, ← hD, ← hC, kB]; exact h6
  generalize hG : F.modFab (fun f => { f with rel := putD f.rel n 0 (0 - 1) }) = G
  have s3 : G.frozen (n / 16) = false := by
    rw [← hG]; unfold State.frozen
    rw [show (F.modFab fun f => { f with rel := putD f.rel n 0 (0 - 1) }).srHeld (n / 16) = F.srHeld (n / 16) from rfl, s1]
    rw [show ((F.modFab fun f => { f with rel := putD f.rel n 0 (0 - 1) }).ctxR (n / 16)).inSwap = false by rw [kF]; exact kF1]
    unfold State.flag at b3 ⊢
    rw [show (F.modFab fun f => { f with rel := putD f.rel n 0 (0 - 1) }).get (R.BORDER_STAT.FENCED (n / 16)) = E.get (R.BORDER_STAT.FENCED (n / 16)) by rw [kF]; rfl,
      getE _ (by simp only [Fld.key, R.BORDER_STAT.FENCED]; omega), b3]; rfl
  have s4 : at' G.fab.skip (2 * n) 0 = 0 := by rw [← hG, kF, ← hE, ← hD, ← hC, kB]; exact h7
  refine ⟨G, ?_, ?_, ?_, ?_, ?_, ?_⟩
  · rw [r1]; unfold performEdge
    dsimp only
    rw [s1, s2, hG]
    simp [s3, s4]
  · intro r
    have : G.frames r = E.frames r := by rw [← hG, kF]; rfl
    rw [this, fE]
  · rw [← hG, kF, ← hE, ← hD, ← hC, kB]; rfl
  · rw [← hG, kF, ← hE]; exact List.mem_cons_self
  · rw [← hG, kF, ← hE, ← hD, ← hC, kB]; rfl
  · rw [← hG, kF, ← hE, ← hD, ← hC, kB]; rfl

end Sys2Proof.Machine
end

