-- ==== Sys2Proof/Tests/Slice0.lean ====
section
/-! SUPPORT. Tests: ill-formed commands are refused, values known from outside the model, and for every statement a state
and operands that meet its hypotheses, clause by clause. -/

namespace Sys2Proof.Tests

open Sys2Proof.Machine

-- one theorem at a time: each kernel evaluation takes memory of its own
set_option Elab.async false

/-! ## States for the tests -/

/-- A running device: mode `m`, Milliner and its clocks run, the FCB serves, every clock is locked. -/
def base (m : Nat) : State :=
  let s := (((((State.reset.set R.DEV_MODE.MODE m).set R.STRAP_LATCH.FCB_EN 1).set R.CLK_LOCK.LOCK (2 ^ 25 - 1)).set R.FAB_CTL.GSR_HELD 0).set R.MCLK_STAT.FREQ_KHZ 100000).set
    R.PWR_STAT.RAIL_OK (2 ^ 14 - 1)
  { s with
    mgt := { s.mgt with running := true }
    clk := { s.clk with running := true, tick := 1000, lockMeas := some 100000, prevMeas := some 100000 }
    fab := { s.fab with clocksOn := true, writes := true }
    io := { s.io with released := true } }

/-- Mailbox 0 holds the taken command `code` with arguments `args`. -/
def asks (code : Nat) (args : List Nat) (s : State) : State :=
  (s.modMbox 0 fun b => { b with stage := 2, cmd := code, tag := 1, args := args, total := args.length, serial := 1 }).set
    (R.MB_CTL.STATE 0) 2

/-- A packet of type `typ` to an endpoint of this device. -/
def pk (typ dev ep off len : Nat) (data : List Nat) : Pkt :=
  { typ := typ, vc := 0, cls := 0, len := len, dhops := 0, status := 0, seq := 0, reqSeq := 0, tick := 0, srcDev := 0,
    srcEp := 0, dev := dev, ep := ep, off := off, unwr := false, late := false, hold := false, errinfo := 0,
    data := data, route := 0, age := 0 }

/-- A changed clock state. -/
def onClk (f : Clk → Clk) (s : State) : State := { s with clk := f s.clk }

/-- Plane 0 of region `r` is Active. -/
def activeAt (r : Nat) (s : State) : State := setPlaneState r 0 psActive s

/-- The clock net 0 of region `r` runs from a locked tree, its context clock, and has just made an edge. -/
def netRuns (r : Nat) (s : State) : State :=
  ((((s.set (R.RCN_CFG.SRC_A (16 * r)) 3).set (R.RCN_CFG.RUNNING (16 * r)) 1).modFab fun f =>
    { f with gate := put f.gate (16 * r) ⟨true, 0⟩ })).modCtx r fun c => { c with edge := true }

/-- Region 127 runs with plane 0, which uses every block memory, and each of its nets has just had both edges. -/
def hard127 (s : State) : State :=
  ((activeAt 127 s).modPlane 127 0 fun p => { p with codes := 0 }).modFab fun f =>
    { f with acts := (List.range 32).map (4064 + ·) }

/-- Block memory 95 of region 127 has strong code and no row written. -/
def bm95 : State := (hard127 (base mRun)).set (R.BM_STAT.CODE 12287) 2

/-- A write of every lane named at address 0, and a read there. -/
def bmWrites : BmIn := ⟨true, 15, 0, 5, true, false⟩
def bmReads : BmIn := ⟨true, 0, 0, 0, true, false⟩

/-- Region `r` runs with plane 0 Active and plane 1 a Hood. -/
def twoPlanes (r : Nat) (s : State) : State := netRuns r (setPlaneState r 1 psHood (activeAt r s))

/-- Region 0 is in a swap, and holds `HS_READY` of bank 31 at 1. -/
def swapHolds (s : State) : State :=
  (s.modCtx 0 fun c => { c with inSwap := true }).modFab fun f => { f with hold := [(2 ^ 18 + 96, 1)] }

/-- The next state of an outcome. -/
def nextOf (o : Host.Outcome State Fault Refusal) (s : State) : State :=
  match o with
  | .next t => t
  | _ => s

/-- Lane 95 in state `st`, in fixed mode. -/
def lane95 (st : Nat) (s : State) : State :=
  ((s.setSynth 20 ⟨0, 8, 1, 0, false, false⟩).set (R.LANE_CFG.FL_EN 95) 1).set (R.LANE_STAT.STATE 95) st

/-- Bundle 95 is up, a timing link. -/
def link95 (s : State) : State :=
  (((lane95 lsUp s).set (R.LINK_STAT.LINK_UP 95) 1).set (R.LINK_CFG.TLINK 95) 1).set (R.LINK_CFG.TRIG_SLOTS 95) 31

/-- Bundle 92 joins the two halves of a pair that is ready. -/
def pair92 (s : State) : State :=
  ((s.set (R.LINK_STAT.LINK_UP 92) 1).set R.STRAP_LATCH.TWIN 2).modLink fun k =>
    { k with farRole := some 1, farImage := some (s.get R.CFG_ID.IMAGE_ID), farDev := 7 }

/-- The configuration controller runs, with load `l`. -/
def loads (l : Load) (s : State) : State := (s.set R.SEC_PROT.LOCK 1).modCfg fun c => { c with load := some l }

/-- A load of kind `kind` from the mailbox (source 3), in stage `stage`, with zero key and `n` body words. -/
def ld (kind stage n : Nat) : Load :=
  { newLoad kind 3 0 0 0 100 0 with stage := stage, hdr := [0, n * 2 ^ 32, 2 * 2 ^ 32, 0, 0, 0] }

/-- The load of a repair, if its segment passes. -/
def okOr (x : Except (Nat × Nat) Load) : Load :=
  match x with
  | .ok l => l
  | .error _ => newLoad 0 0 0 0 0 0 0

/-- A segment with the zero key whose only record is `END`, in slot 4, and the plane loaded from it. -/
def segBytes : List Nat :=
  let h := [0x4B39015244524F, 2 ^ 32, 5 + 2 * 2 ^ 32, 0, 0, 0]
  let key := List.replicate 32 0
  let iv := List.replicate 12 0
  let ct := leBytes 8 (gcmWord key iv 0 255)
  h.flatMap (leBytes 8) ++ ct ++ gcmTag key iv (h.flatMap (leBytes 8)) ct

def repairing (s : State) : State :=
  (((((s.set R.SEC_PROT.LOCK 1).set R.SEC_PROT.ZK_OK 1).setSlot 4 { ImgSlot.init with
    valid := true, bytes := segBytes, length := 72 }).modPlane 127 3 fun p =>
    { p with source := some (4, 0), imageId := 5 }).modInteg fun i => { i with repair := some ⟨511, [], 0, 0, false⟩ })

/-- Mailbox 15 with state `st` and contents `f`. -/
def box15 (st : Nat) (f : Mbox → Mbox) (s : State) : State := (s.modMbox 15 f).set (R.MB_CTL.STATE 15) st

/-- A calibration record for serial number `n` with no section. -/
def calOf (n : Nat) : List Nat :=
  let h := leBytes 4 0x4C414331 ++ leBytes 2 1 ++ leBytes 2 0x4B39 ++ leBytes 16 n ++ List.replicate 8 0
  h ++ leBytes 4 (crc32 h) ++ leBytes 4 32

/-- The tag of the segment `ld kind 2 0`, and the words that give it, or that differ from it. -/
def tagOf (kind : Nat) : List Nat := gcmTag (List.replicate 32 0) (List.replicate 12 0) (ld kind 2 0).aad []
def tagWords (kind : Nat) : List Nat := [ofLeBytes ((tagOf kind).take 8), ofLeBytes ((tagOf kind).drop 8)]
def noTagWords (kind : Nat) : List Nat := [if tagOf kind = [1, 2].flatMap (leBytes 8) then 0 else 1, 2]

/-- A load whose first plaintext word is `v`, with further body words `r`. -/
def bodyLd (kind n v : Nat) (r : List Nat) : Load :=
  { ld kind 1 n with body := gcmWord (List.replicate 32 0) (List.replicate 12 0) 0 v :: r, banks := [0] }

theorem leBytes_mem {n v x : Nat} (h : x ∈ leBytes n v) : x < 256 := by
  induction n generalizing v with
  | zero => cases h
  | succ n ih =>
    rcases List.mem_cons.1 h with h | h
    · omega
    · exact ih h

theorem leBytes_len (n v : Nat) : (leBytes n v).length = n := by
  induction n generalizing v with
  | zero => rfl
  | succ n ih => simp [leBytes, ih]

theorem leBytes_ofLe (l : List Nat) (h : ∀ x ∈ l, x < 256) : leBytes l.length (ofLeBytes l) = l := by
  induction l with
  | nil => rfl
  | cons a l ih =>
    have ha := h a List.mem_cons_self
    simp only [ofLeBytes, leBytes, List.length_cons]
    rw [show (a % 256 + 256 * ofLeBytes l) % 256 = a by omega, show (a % 256 + 256 * ofLeBytes l) / 256 = ofLeBytes l by omega,
      ih fun x hx => h x (List.mem_cons_of_mem _ hx)]

theorem tag_good (kind : Nat) : tagOf kind = (tagWords kind).flatMap (leBytes 8) := by
  have len : (tagOf kind).length = 16 := (List.length_reverse).trans (leBytes_len 16 _)
  have small : ∀ x ∈ tagOf kind, x < 256 := fun x h => leBytes_mem (List.mem_reverse.1 h)
  have e := leBytes_ofLe ((tagOf kind).take 8) fun x h => small x (List.mem_of_mem_take h)
  have f := leBytes_ofLe ((tagOf kind).drop 8) fun x h => small x (List.mem_of_mem_drop h)
  rw [List.length_take, len] at e
  rw [List.length_drop, len] at f
  show _ = leBytes 8 _ ++ (leBytes 8 _ ++ [])
  rw [List.append_nil, show leBytes 8 (ofLeBytes ((tagOf kind).take 8)) = _ from e,
    show leBytes 8 (ofLeBytes ((tagOf kind).drop 8)) = _ from f, List.take_append_drop]

theorem tag_wrong (kind : Nat) : ¬ tagOf kind = (noTagWords kind).flatMap (leBytes 8) := by
  intro h
  unfold noTagWords at h
  split at h
  · next e => rw [e] at h; exact absurd h (by decide)
  · next e => exact e h

theorem gcm_twice (key iv : List Nat) (j v : Nat) : gcmWord key iv j (gcmWord key iv j v) = v := by
  simp only [gcmWord]
  generalize ofLeBytes _ = k
  exact Nat.xor_xor_cancel_right v k

theorem body_key (kind n v : Nat) (r : List Nat) : (bodyLd kind n v r).ksrc = 2 := by
  simp [Load.ksrc, Load.keysel, Load.word, bodyLd, ld, bitsOf]

theorem body_iv (kind n v : Nat) (r : List Nat) : (bodyLd kind n v r).iv = List.replicate 12 0 := by
  simp [Load.iv, Load.word, bodyLd, ld, leBytes, List.replicate]

theorem body_first (kind n v : Nat) (r : List Nat) :
    (bodyLd kind n v r).body.getD 0 0 = gcmWord (List.replicate 32 0) (List.replicate 12 0) 0 v := by
  simp only [bodyLd, List.getD_cons_zero]

theorem plain_body (s : State) (kind n v : Nat) (r : List Nat) : s.plainWord (bodyLd kind n v r) 0 = v := by
  have k : s.segKey (bodyLd kind n v r) = List.replicate 32 0 := by simp only [State.segKey, body_key]
  rw [State.plainWord, k, body_iv, body_first, gcm_twice]

theorem plain_parsed (s : State) (kind n v : Nat) (r : List Nat) :
    s.plainWord (bodyLd kind n v r) (bodyLd kind n v r).parsed = v :=
  plain_body s kind n v r

/-- The segment of `tagOf`, complete or not, whose trailer words are `w`. -/
def tagLd (kind : Nat) (w : List Nat) (b : Bool) : Load := { ld kind 2 0 with buf := w, incomplete := b }

theorem tag_ready (s : State) (kind : Nat) (w : List Nat) (b : Bool) (h : w.length = 2) : s.ready (tagLd kind w b) 2 = w := by
  show w.take 2 = w
  rw [← h, List.take_length]

theorem tag_of (s : State) (kind : Nat) (w : List Nat) (b : Bool) :
    gcmTag (s.segKey (tagLd kind w b)) (tagLd kind w b).iv (tagLd kind w b).aad
      ((tagLd kind w b).body.flatMap (leBytes 8)) = tagOf kind := by
  have q : (tagLd kind w b).ksrc = 2 := by simp [Load.ksrc, Load.keysel, Load.word, tagLd, ld, bitsOf]
  have k : s.segKey (tagLd kind w b) = List.replicate 32 0 := by simp only [State.segKey, q]
  have i : (tagLd kind w b).iv = List.replicate 12 0 := by
    simp [Load.iv, Load.word, tagLd, ld, leBytes, List.replicate]
  have a : (tagLd kind w b).aad = (ld kind 2 0).aad := by simp only [Load.aad, Load.word, tagLd]
  have e : (tagLd kind w b).body.flatMap (leBytes 8) = [] := by simp [tagLd, ld, newLoad]
  rw [k, i, a, e, tagOf]

theorem good_tag (s : State) (kind : Nat) (b : Bool) :
    gcmTag (s.segKey (tagLd kind (tagWords kind) b)) (tagLd kind (tagWords kind) b).iv (tagLd kind (tagWords kind) b).aad
      ((tagLd kind (tagWords kind) b).body.flatMap (leBytes 8))
      = (s.ready (tagLd kind (tagWords kind) b) 2).flatMap (leBytes 8) := by
  rw [tag_of, tag_ready _ _ _ _ rfl]; exact tag_good kind

theorem bad_tag (s : State) (kind : Nat) (b : Bool) :
    ¬ gcmTag (s.segKey (tagLd kind (noTagWords kind) b)) (tagLd kind (noTagWords kind) b).iv
      (tagLd kind (noTagWords kind) b).aad ((tagLd kind (noTagWords kind) b).body.flatMap (leBytes 8))
      = (s.ready (tagLd kind (noTagWords kind) b) 2).flatMap (leBytes 8) := by
  rw [tag_of, tag_ready _ _ _ _ rfl]; exact tag_wrong kind

theorem next_nextOf {o : Host.Outcome State Fault Refusal} {s : State}
    (h : (match o with | .next _ => true | _ => false) = true) : o = .next (nextOf o s) := by
  cases o with
  | next t => rfl
  | fault r => cases h
  | refused r => cases h

theorem ok_okOr {x : Except (Nat × Nat) Load} (h : (match x with | .ok _ => true | .error _ => false) = true) :
    x = .ok (okOr x) := by
  cases x with
  | ok l => rfl
  | error e => cases h

theorem acts_all (n : Fin 16) (b : Bool) :
    ((List.range 32).map (4064 + ·)).contains (2 * (16 * 127 + n.val) + if b then 1 else 0) = true := by
  revert n b; decide

theorem bm95_runs (k : Nat) : bm95.portRuns 12287 k = true := by
  show (bm95.hardRuns 127 && bm95.planeUses 127 (bm95.activePlane 127) 95 && _) = true
  rw [Bool.and_eq_true]
  exact ⟨by decide +kernel, acts_all _ _⟩

theorem mask_writes (c : BmCfg) : bmMask c bmWrites ≠ 0 := by
  have h : ∀ l, bmMask ⟨0, false, l, 0, false⟩ bmWrites ≠ 0 := by decide
  exact h c.lanes

theorem row_zero (c : BmCfg) (i : BmIn) (h : i.addr = 0) : bmRow c i = 0 := by
  rcases c with ⟨_, _, l, _, _⟩; simp only [bmRow, h]; revert l; decide

theorem apart {p : Prop} (c : BmCfg) {a : BmIn} (h : some bmWrites = some a)
    (k : 1024 * 12287 + 1023 = 1024 * 12287 + bmRow c a) : p := by
  injection h with h
  rw [← h, row_zero _ _ rfl] at k
  exact absurd k (by decide)

theorem bm_next (m : Fin 12288) (a b : Option BmIn) (s : State) :
    (match exec (.bmPortAccess m a b) s with | .next _ => true | _ => false) = true := by
  show (match execBmPortAccess m a b s with | .next _ => true | _ => false) = true
  have h : ∃ t, execBmPortAccess m a b s = .next t := by
    simp only [execBmPortAccess]
    split
    · exact ⟨_, rfl⟩
    · exact ⟨_, rfl⟩
  obtain ⟨t, h⟩ := h
  rw [h]

theorem cp_clocked : (hard127 (base mRun)).cpClocked 127 = true := by
  have h : (hard127 (base mRun)).flag (R.CTX_STAT.ROTATING 127) = false := by decide +kernel
  simp only [State.cpClocked, Bool.and_eq_true, h]
  exact ⟨⟨⟨⟨⟨by decide +kernel, by decide +kernel⟩, by decide +kernel⟩, by decide +kernel⟩, acts_all _ false⟩, rfl⟩

/-- The record of the bin tables is longer than the landing area of a result. -/
theorem cal_long (s : State) : 8192 < (s.calRecord 2).length := by
  have u : ∀ i, (s.calUnit 2 i).length = 512 := fun i => by
    show ((List.range 256).flatMap fun j => leBytes 2 ((s.binTable i).getD j 0)).length = 512
    simp only [List.length_flatMap, leBytes_len]
    rw [List.map_const', List.sum_replicate, List.length_range, smul_eq_mul]
  have c : 1632 * 512 ≤ (s.calSection 2).length := by
    simp only [State.calSection, calShape, List.length_append, List.length_flatMap, u]
    rw [List.map_const', List.sum_replicate, List.length_range, smul_eq_mul]
    exact Nat.le_add_left _ _
  have k : scopeKinds 2 = [2] := by decide
  simp only [State.calRecord, k, List.flatMap_cons, List.flatMap_nil, List.length_append]
  omega

theorem test_reset_wf : State.reset.wf = true := by decide

/-! ## Ill-formed commands are refused, one for each check -/

/-- A failure entry, and inputs that list a cluster, a cell, an output or a pillar twice, for the checks below. -/
def badFail : FailEntry := ⟨16, 0, 0, none, 0⟩
def cell (d : Bool) : CellIn := ⟨15, 0, d, false⟩
def twiceClu : FabIn := ⟨[⟨0, 0, 0, 0, []⟩, ⟨0, 15, 0, 0, []⟩], [], []⟩
def twiceCell : FabIn := ⟨[⟨6271, 0, 0, 0, [cell true, cell false]⟩], [], []⟩
def twiceOut : FabIn := ⟨[], [(5, true), (5, false)], []⟩
def twicePil : FabIn := ⟨[], [], [⟨7, 31, 1, 0⟩, ⟨7, 31, 2, 0⟩]⟩

theorem test_wf_supplies : (Instr.vaonPresent (2 ^ 14)).wf = false ∧ (Instr.railPresent 0 (2 ^ 14)).wf = false ∧
    (Instr.railOff 0 (2 ^ 14)).wf = false ∧ (Instr.vaonPresent (2 ^ 14 - 1)).wf = true := by decide +kernel

theorem test_wf_slices : (Instr.quickCheckEnd 0 0 [badFail]).wf = false ∧ (Instr.sliceEnd ⟨0, 0, true, 0, [badFail], 0, false⟩).wf = false ∧
    (Instr.sliceBudgetExpiry ⟨0, 0, true, 2 ^ 64, [], 0, false⟩).wf = false ∧ FailEntry.wf ⟨1, 2 ^ 16, 0, none, 0⟩ = false ∧
    FailEntry.wf ⟨5, 0, 2 ^ 36, none, 0⟩ = false ∧ FailEntry.wf ⟨5, 0, 2 ^ 36 - 1, none, 0⟩ = true := by decide +kernel

theorem test_wf_slice_of_groups : FailEntry.wf ⟨0, 34, 0, none, 0⟩ = false ∧ FailEntry.wf ⟨0, 33, 0, none, 0⟩ = true ∧
    FailEntry.wf ⟨0, 67, 2 * 2 ^ 29, none, 0⟩ = true ∧ FailEntry.wf ⟨0, 0, 1, none, 0⟩ = false := by decide +kernel

theorem test_wf_listed_once : (Instr.flipFlopEdge (.net 0 false twiceClu)).wf = false ∧
    (Instr.flipFlopEdge (.net 0 false twiceCell)).wf = false ∧ (Instr.flipFlopEdge (.between 0 twiceOut)).wf = false ∧
    (Instr.flipFlopEdge (.wire 0 0 false false none twicePil)).wf = false ∧
    (Instr.flipFlopEdge (.seam 0 [(0, true), (0, false)])).wf = false ∧
    (Instr.flipFlopEdge (.seam 0 [(0, true), (1, false)])).wf = true := by decide +kernel

theorem test_wf_measurements : (Instr.tdcEdge 0 ⟨false, 0, 0, ⟨false, 0, 256⟩, ⟨false, 0, 0⟩⟩).wf = false ∧
    (Instr.tdcEdge 0 ⟨false, 0, 0, ⟨false, 0, 0⟩, ⟨false, 0, 256⟩⟩).wf = false ∧
    (Instr.tdcEdge 0 ⟨false, 0, 512, ⟨false, 0, 0⟩, ⟨false, 0, 0⟩⟩).wf = false ∧
    (Instr.tdcCodeDensityDone 0 []).wf = false ∧ (Instr.hkpRoundEnd [⟨192, 0, true, false⟩]).wf = false ∧
    (Instr.hkpRoundEnd [⟨191, 0, true, false⟩]).wf = true ∧ (Instr.cacheLineFill 0 (2 ^ 23)).wf = false := by decide +kernel

theorem test_wf_vertical : (Instr.vertRemap ⟨1, .region 0⟩ 0).wf = false ∧ (Instr.vertRemap ⟨5 * 2 ^ 29, .region 0⟩ 0).wf = false ∧
    (Instr.vertRemap ⟨3136 * 2 ^ 10, .region 0⟩ 0).wf = false ∧ (Instr.vertRemap ⟨2 ^ 32, .region 0⟩ 0).wf = false ∧
    (Instr.vertRemap ⟨0, .region 0⟩ 34).wf = false ∧ (Instr.vertRemap ⟨0, .region 0⟩ 33).wf = true ∧
    (Instr.vertRemap ⟨2 * 2 ^ 29, .region 0⟩ 68).wf = false ∧ (Instr.vertRemap ⟨2 * 2 ^ 29, .region 0⟩ 67).wf = true ∧
    (Instr.linkMonitorVisit ⟨0, .region 0⟩ [34]).wf = false ∧ (Instr.pounceFrameSlot 0 [4185] []).wf = false ∧
    (Instr.pounceFrameSlot 0 [] [(⟨0, .region 0⟩, 34)]).wf = false := by decide +kernel

theorem test_wf_packet : Pkt.wf { pk 0 0 0 0 8 [] with typ := 16 } = false ∧ Pkt.wf { pk 0 0 0 0 8 [] with vc := 4 } = false ∧
    Pkt.wf { pk 0 0 0 0 8 [] with cls := 8 } = false ∧ Pkt.wf (pk 0 0 0 0 513 []) = false ∧
    Pkt.wf { pk 0 0 0 0 8 [] with dhops := 32 } = false ∧ Pkt.wf { pk 0 0 0 0 8 [] with status := 256 } = false ∧
    Pkt.wf { pk 0 0 0 0 8 [] with seq := 2 ^ 16 } = false ∧ Pkt.wf { pk 0 0 0 0 8 [] with reqSeq := 2 ^ 16 } = false ∧
    Pkt.wf { pk 0 0 0 0 8 [] with tick := 2 ^ 48 } = false ∧ Pkt.wf { pk 0 0 0 0 8 [] with srcDev := 2 ^ 20 } = false ∧
    Pkt.wf { pk 0 0 0 0 8 [] with srcEp := 2 ^ 12 } = false ∧ Pkt.wf (pk 0 (2 ^ 20) 0 0 8 []) = false ∧
    Pkt.wf (pk 0 0 (2 ^ 12) 0 8 []) = false ∧ Pkt.wf (pk 0 0 0 (2 ^ 32) 8 []) = false ∧
    Pkt.wf { pk 0 0 0 0 8 [] with errinfo := 2 ^ 32 } = false ∧ Pkt.wf (pk 0 0 0 0 8 [256]) = false ∧
    Pkt.wf (pk 0 0 0 0 0 [1]) = false ∧ Pkt.wf { pk 0 0 0 0 8 [] with route := 2 ^ 84 } = false ∧
    Pkt.wf { pk 0 0 0 0 8 [] with age := 16 } = false ∧ Pkt.wf (pk 4 1 2 3 8 [255]) = true := by decide +kernel

theorem test_wf_packet_commands : (Instr.cfgStreamPacket (pk 16 0 0 0 8 [])).wf = false ∧
    (Instr.npTxPacket 0 (pk 16 0 0 0 8 []) false).wf = false ∧ (Instr.doorPacketArrival 0 (pk 16 0 0 0 8 [])).wf = false ∧
    (Instr.mailboxMsgPacket (pk 16 0 0 0 8 [])).wf = false ∧ (Instr.imgDataPacket (pk 16 0 0 0 8 [])).wf = false ∧
    (Instr.pktRx 0 4096 0 ⟨1, 0⟩ 0 [] 0).wf = false ∧ (Instr.pktRx 0 0 4096 ⟨1, 0⟩ 0 [] 0).wf = false ∧
    (Instr.pktRx 0 0 0 ⟨32, 0⟩ 0 [] 0).wf = false ∧ (Instr.pktRx 0 0 0 ⟨1, 4⟩ 0 [] 0).wf = false ∧
    (Instr.pktRx 0 4095 4095 ⟨31, 3⟩ 0 [] 0).wf = true ∧ (Instr.txnTimeout 0 (2 ^ 16) false).wf = false := by decide +kernel

theorem test_wf_align : (Instr.alignMeasureDone 0 []).wf = false ∧
    (Instr.alignMeasureDone 0 (List.replicate 256 ⟨2 ^ 48, 0, 0⟩)).wf = false ∧
    (Instr.alignMeasureDone 0 (List.replicate 256 ⟨0, 0, 128⟩)).wf = false ∧
    (Instr.alignMeasureDone 0 (List.replicate 256 ⟨2 ^ 48 - 1, 0, 127⟩)).wf = true := by decide +kernel

theorem test_wf_link : (Instr.blockLock 0 66 false []).wf = false ∧ (Instr.tickMarkerRx 0 (2 ^ 48) false 0 0).wf = false ∧
    (Instr.tickMarkerRx 0 0 false 256 0).wf = false ∧ (Instr.triggerSlotTx 0 64 0 true).wf = false ∧
    (Instr.triggerSlotTx 0 0 0 true).wf = false ∧ (Instr.triggerSlotRx 0 0 .empty).wf = false ∧
    (Instr.triggerSlotRx 0 64 .empty).wf = false ∧ (Instr.safeBlockRx 0 (2 ^ 20) 0 true).wf = false ∧
    (Instr.safeBlockRx 0 0 16 true).wf = false ∧ (Instr.initRx 0 (2 ^ 16) 0 0).wf = false ∧
    (Instr.initRx 0 0 (2 ^ 20) 0).wf = false ∧ (Instr.initRx 0 0 0 4).wf = false := by decide +kernel

theorem test_wf_timing : (Instr.announceRx 0 ⟨25, 0, 0, 0, 0, false⟩).wf = false ∧ (Instr.announceRx 0 ⟨0, 256, 0, 0, 0, false⟩).wf = false ∧
    (Instr.announceRx 0 ⟨0, 0, 2 ^ 20, 0, 0, false⟩).wf = false ∧ (Instr.announceRx 0 ⟨0, 0, 0, 128, 0, false⟩).wf = false ∧
    (Instr.announceRx 0 ⟨0, 0, 0, 0, 4, false⟩).wf = false ∧ (Instr.measRx 0 (2 ^ 16) 0 0 true).wf = false ∧
    (Instr.measRx 0 0 4096 0 true).wf = false ∧ (Instr.measRx 0 0 0 4096 true).wf = false ∧
    (Instr.syncAlignStep (2 ^ 48) 0).wf = false ∧ (Instr.alignedRx 0 32 true).wf = false ∧ (Instr.pairIdRx (2 ^ 32)).wf = false ∧
    (Instr.pairGoRx (2 ^ 48)).wf = false ∧ (Instr.digestRx (2 ^ 16) 0).wf = false := by decide +kernel

theorem test_wf_bytes : (Instr.mgmtFrameRx 0 [256]).wf = false ∧ (Instr.fwWrite 0 0 0 [256]).wf = false ∧
    (Instr.imgData 0 0 0 [256]).wf = false ∧ (Instr.splitGo 0 0 0 0 [256]).wf = false ∧
    (Instr.calImport 0 0 0 [256] 0).wf = false ∧ (Instr.mgmtFrameRx 0 [255]).wf = true := by decide +kernel

/-! ## Values from outside the model -/

/-- The GCM specification, test case 14: AES-256, key, IV and one block of zeros (the algorithm that R460 names). -/
theorem test_gcm_case_14 :
    gcmTag (List.replicate 32 0) (List.replicate 12 0) []
      [0xce, 0xa7, 0x40, 0x3d, 0x4d, 0x60, 0x6b, 0x6e, 0x07, 0x4e, 0xc5, 0xd3, 0xba, 0xf3, 0x9d, 0x18] =
      [0xd0, 0xd1, 0xc8, 0xa7, 0x99, 0x99, 0x6b, 0xf0, 0x26, 0x5b, 0x98, 0xb5, 0xd4, 0x8a, 0xb9, 0x19] := by decide +kernel

/-- The published check values of the CRC-32 of R379 and of the CRC-16 of R395 over the digits 1 to 9. -/
theorem test_crc_check_values : crc32 [49, 50, 51, 52, 53, 54, 55, 56, 57] = 0xCBF43926 ∧
    crc16 [49, 50, 51, 52, 53, 54, 55, 56, 57] = 0x29B1 := by decide +kernel

/-- R213: with `SAT` = 1 a sum below −2^63 stays at −2^63 and overflows. -/
theorem test_sum_saturates : abSum true (-(2 ^ 63) - 1) = (BitVec.ofInt 64 (-(2 ^ 63)), true) ∧ (abSum false (2 ^ 63 - 1)).2 = false := by
  decide +kernel

/-- R212: the pre-adder's limits are −8,388,608 and 8,388,607. -/
theorem test_pre_adder_limits : preAdd true false 8388607 1 = (8388607, true) ∧ preAdd true true 8388608 0 = (8388608, false) := by
  decide +kernel

/-! ## The statements about the block as a whole have cases -/

theorem witness_StepRunsFront : (∃ s : State, s.pending = []) ∧ ∃ (s : State) (c : Instr) (q : List Instr), s.pending = c :: q :=
  ⟨⟨State.reset, rfl⟩, { State.reset with pending := [.vaonLost, .resetNRise] }, .vaonLost, [.resetNRise], rfl⟩

theorem witness_StepKeepsCanonicalForm : ∃ s t : State, s.wf = true ∧ s.regs ≠ [] ∧ s.pending ≠ [] ∧ step s = .next t :=
  ⟨{ base mRun with pending := [.tamperAssert false] }, nextOf (step { base mRun with pending := [.tamperAssert false] }) State.reset,
    by decide +kernel, by decide +kernel, by decide +kernel, next_nextOf (by decide +kernel)⟩

theorem witness_ExecKeepsQueueIdentityAndFuses :
    ∃ (c : Instr) (s t : State) (k : Nat), exec c s = .next t ∧ s.pending ≠ [] ∧ has s.sec.fuses k = true :=
  ⟨.vaonLost, { base mRun with pending := [.resetNRise], sec := { (base mRun).sec with fuses := [(7, 1)] } },
    nextOf (exec .vaonLost { base mRun with pending := [.resetNRise], sec := { (base mRun).sec with fuses := [(7, 1)] } }) State.reset, 7,
    next_nextOf (by decide +kernel), by decide +kernel, by decide +kernel⟩

/-! ## The hypotheses of each clause of each statement are met together -/

theorem witness_ModeEventsComplete :
    (∃ (s : State), s.mode = mOff) ∧
    (∃ (s : State), s.up = true) ∧
    (∃ (s : State), s.up = false) ∧
    (∃ (s : State), s.aon.resetHigh = false ∧ s.mode = mStandby ∧ s.railsUp = true ∧ s.get R.DEV_MODE.STBY_FAULT = 0) ∧
    (∃ (s : State), s.aon.resetHigh = false ∧ (¬ (s.mode = mStandby ∧ s.railsUp = true ∧ s.get
      R.DEV_MODE.STBY_FAULT = 0))) ∧
    (∃ (s : State), (s.mode = mQuiescent ∨ s.aon.quiesceReq.isSome = true)) ∧
    (∃ (s : State), (s.mode = mQuiescent ∨ s.aon.quiesceReq.isSome = true) ∧ s.fcbOn = true) ∧
    (∃ (s : State) (sleep : _), (s.mode = mRun ∨ s.mode = mTwin) ∧ s.cfg.load = none ∧ s.aon.quiesceReq = some sleep) ∧
    (∃ (s : State) (sleep : _), (¬ (s.mode = mRun ∨ s.mode = mTwin) ∨ s.cfg.load ≠ none) ∧ s.aon.quiesceReq = some
      sleep) ∧
    (∃ (s : State), s.mode = mQuiescent ∧ s.aon.waking = true) ∧
    (∃ (s : State), s.mode = mBlocking ∧ s.aon.pairWait = true) ∧
    (∃ (m : Nat) (s : State), m < 16 ∧ s.mode < 16 ∧ s.mode ≠ m) :=
  ⟨⟨State.reset.set R.DEV_MODE.MODE mOff, by decide +kernel⟩,
    ⟨base mRun, by decide +kernel⟩,
    ⟨State.reset, by decide +kernel⟩,
    ⟨base mStandby, by decide +kernel⟩,
    ⟨base mRun, by decide +kernel⟩,
    ⟨base mQuiescent, by decide +kernel⟩,
    ⟨base mQuiescent, by decide +kernel⟩,
    ⟨(base mTwin).modAon fun a => { a with quiesceReq := some 1 }, 1, by decide +kernel⟩,
    ⟨(base mReblock).modAon fun a => { a with quiesceReq := some 1 }, 1, by decide +kernel⟩,
    ⟨(base mQuiescent).modAon fun a => { a with waking := true }, by decide +kernel⟩,
    ⟨(base mBlocking).modAon fun a => { a with pairWait := true }, by decide +kernel⟩,
    ⟨15, base mRun, by decide +kernel⟩⟩

theorem witness_ModeEventsComplete_2 :
    (∃ (m : Nat) (s : State) (f : Fld), m < 16 ∧ s.mode < 16 ∧ s.mode ≠ m ∧ f.addr = 0x4 ∧ f.lsb < 64 ∧ f.lsb ≠ 0 ∧
      f.lsb ≠ 4 ∧ f.lsb ≠ 24) :=
  ⟨15, base mRun, R.DEV_MODE.COND_TWIN, by decide +kernel⟩

theorem witness_ModeCommandsComplete :
    (∃ (mb : Fin 16) (s : State), s.serves mb 0x0100 []) ∧
    (∃ (mb : Fin 16) (s : State), s.serves mb 0x0101 [] ∧ s.up = true ∧ s.mode ≠ mSafe) ∧
    (∃ (mb : Fin 16) (s : State), s.serves mb 0x0102 [] ∧ s.mode = mSafe ∧ (∀ c ∈ s.aon.safeCauses, c = 1 ∨ (c = 3 ∧
      s.therm.cool = true)) ∧ s.committed = true ∧ s.cfg.load = none) ∧
    (∃ (mb : Fin 16) (s : State) (sleep : _), s.serves mb 0x0103 [(1, sleep), (6, 0)] ∧ sleep < 2 ∧ (s.mode = mRun ∨
      s.mode = mTwin) ∧ s.aon.quiesceReq = none ∧ s.cfg.load = none) ∧
    (∃ (mb : Fin 16) (s : State) (sleep : _) (wakeTick : _), s.serves mb 0x0103 [(1, sleep), (6, wakeTick)] ∧
      sleep < 2 ∧ (s.mode = mRun ∨ s.mode = mTwin) ∧ s.aon.quiesceReq = none ∧ s.cfg.load = none ∧ wakeTick ≠ 0 ∧
      s.tickAhead wakeTick = true ∧ (∀ e ∈ s.clk.sched, ¬ (e.2.st = 1 ∧ e.2.tick = wakeTick ∧ e.2.action = 2)) ∧
      s.freeHandles ≠ []) ∧
    (∃ (mb : Fin 16) (s : State), s.serves mb 0x0104 [] ∧ s.mode = mQuiescent) ∧
    (∃ (mb : Fin 16) (s : State) (mask : _) (budget : _), s.serves mb 0x0105 [(1, 0), (2, mask), (4, budget)] ∧
      mask < 1024 ∧ (s.runClass = true ∨ s.mode = mQuiescent ∨ s.mode = mSafe) ∧ s.cfg.load = none) ∧
    (∃ (mb : Fin 16) (s : State) (test : _) (mask : _) (budget : _), s.serves mb 0x0105 [(1, test), (2, mask), (4,
      budget)] ∧ (test = 1 ∨ test = 2) ∧ mask < 1024 ∧ (s.runClass = true ∨ s.mode = mQuiescent ∨ s.mode = mSafe) ∧
      s.cfg.load = none) ∧
    (∃ (mb : Fin 16) (s : State), s.serves mb 0x0106 []) ∧
    (∃ (mb : Fin 16) (s : State) (source : _) (num : _), s.serves mb 0x0107 [(1, source), (1, num)] ∧
      ((s.mode = mBoot ∧ s.aon.bootReady = true ∧ s.get R.STRAP_LATCH.BOOT = 3) ∨ (s.mode = mSafe ∧
      s.aon.safeCauses = [2])) ∧ ((source = 0 ∧ num < 5 ∧ (s.slot num).valid = true) ∨ source = 1 ∨ (source = 2 ∧
      num < 96 ∧ s.sideReserved num = false ∧ s.bit R.PWR_STAT.RAIL_OK 5 = true ∧ s.bit R.PWR_STAT.RAIL_OK
      6 = true))) ∧
    (∃ (mb : Fin 16) (s : State) (policy : _) (t : _), s.serves mb 0x0415 [(1, policy), (2, 100 * t)] ∧ policy < 2 ∧
      1 ≤ t ∧ t ≤ 511 ∧ s.underTest 0x97 = false) ∧
    (∃ (s : State) (n : Nat) (again : Bool), s.aon.exitDue = some (n, again) ∧ (s.mbOf n).isSome = true) :=
  ⟨⟨0, asks 0x0100 (pack []) (base mRun), by decide +kernel⟩,
    ⟨0, asks 0x0101 (pack []) (base mRun), by decide +kernel⟩,
    ⟨0, asks 0x0102 (pack []) (activeAt 127 ((base mSafe).modAon fun a => { a with safeCauses := [1] })),
      by decide +kernel⟩,
    ⟨0, asks 0x0103 (pack [(1, (1)), (6, 0)]) (base mRun), 1, by decide +kernel⟩,
    ⟨0, asks 0x0103 (pack [(1, (1)), (6, (1017))]) (base mTwin), 1, 1017, by decide +kernel⟩,
    ⟨0, asks 0x0104 (pack []) (base mQuiescent), by decide +kernel⟩,
    ⟨0, asks 0x0105 (pack [(1, 0), (2, (1023)), (4, (0))]) (base mRun), 1023, 0, by decide +kernel⟩,
    ⟨0, asks 0x0105 (pack [(1, (2)), (2, (1023)), (4, (2500))]) (base mRun), 2, 1023, 2500, by decide +kernel⟩,
    ⟨0, asks 0x0106 (pack []) (base mRun), by decide +kernel⟩,
    ⟨0, asks 0x0107 (pack [(1, (2)), (1, (95))]) ((((base mBoot).set R.STRAP_LATCH.BOOT 3).modAon fun a =>
      { a with bootReady := true })), 2, 95, by decide +kernel⟩,
    ⟨0, asks 0x0415 (pack [(1, (1)), (2, 100 * (511))]) (base mRun), 1, 511, by decide +kernel⟩,
    ⟨(asks 0x0106 [] (base mRun)).modAon fun a => { a with exitDue := some (1, true) }, 1, true, by decide +kernel⟩⟩

theorem witness_ModeCommandsComplete_2 :
    (∃ (s : State) (n : Nat) (again : Bool), s.aon.exitDue = some (n, again) ∧ s.mbOf n = none) ∧
    (∃ (mb : Fin 16) (s : State) (c : Nat), s.serves mb 0x0102 [] ∧ s.mode = mSafe ∧ c ∈ s.aon.safeCauses ∧ c ≠ 1 ∧
      c ≠ 3) :=
  ⟨⟨(base mRun).modAon fun a => { a with exitDue := some (1, true) }, 1, true, by decide +kernel⟩,
    ⟨0, asks 0x0102 (pack []) ((base mSafe).modAon fun a => { a with safeCauses := [2] }), 2, by decide +kernel⟩⟩

theorem witness_TimeEventsComplete :
    (∃ (s : State) (srcKHz : _) (kHz : _), s.up = true ∧ s.mclkSource = true ∧ s.mclkOf srcKHz = kHz ∧ kHz ≠ 0 ∧
      s.clk.lockMeas = none ∧ measLocks kHz s.clk.prevMeas = true) ∧
    (∃ (s : State) (srcKHz : _) (kHz : _), s.up = true ∧ s.mclkSource = true ∧ s.mclkOf srcKHz = kHz ∧ kHz ≠ 0 ∧
      s.clk.lockMeas = none ∧ measLocks kHz s.clk.prevMeas = false) ∧
    (∃ (s : State) (srcKHz : _) (kHz : _) (l : _), s.up = true ∧ s.mclkSource = true ∧ s.mclkOf srcKHz = kHz ∧
      kHz ≠ 0 ∧ s.clk.lockMeas = some l ∧ (s.hold = true ∨ within1000ppm kHz l = true)) ∧
    (∃ (s : State) (srcKHz : _) (kHz : _) (l : _), s.up = true ∧ s.mclkSource = true ∧ s.mclkOf srcKHz = kHz ∧
      kHz ≠ 0 ∧ s.clk.lockMeas = some l ∧ s.hold = false ∧ within1000ppm kHz l = false) ∧
    (∃ (s : State) (srcKHz : _), s.up = true ∧ (s.mclkSource = false ∨ s.mclkOf srcKHz = 0)) ∧
    (∃ (s : State), s.up = true ∧ s.clk.lockMeas.isSome = true ∧ s.hold = false) ∧
    (∃ (s : State) (srcKHz : _) (kHz : _) (l : _), s.up = true ∧ s.clk.lockMeas = some l ∧ s.hold = true ∧
      s.mclkSource = true ∧ s.mclkOf srcKHz = kHz ∧ within1000ppm kHz l = true) ∧
    (∃ (s : State), s.up = true ∧ s.clk.startDue = true) ∧
    (∃ (s : State), s.up = true ∧ s.clk.startDue = false ∧ s.clk.running = true ∧ s.loadDue = false) ∧
    (∃ (s : State) (v : _), s.up = true ∧ s.loadAt = some v) ∧
    (∃ (s : State) (h : Fin 256), s.up = true ∧ (s.sched h).st = 4 ∧ s.runClass = true ∧ (¬ ((s.sched h).action = 5 ∧
      s.held 0xB1 = true)) ∧ s.mode ≠ mQuiescent) ∧
    (∃ (s : State) (h : Fin 256), s.up = true ∧ (s.sched h).st = 4 ∧ s.mode = mQuiescent ∧ ((s.sched h).action = 2 ∨
      (s.sched h).action = 3)) :=
  ⟨⟨onClk (fun c => { c with lockMeas := none, prevMeas := some 10000 }) (base mRun), 10000, 10000,
      by decide +kernel⟩,
    ⟨onClk (fun c => { c with lockMeas := none, prevMeas := some 10000 }) (base mRun), 10021, 10021,
      by decide +kernel⟩,
    ⟨(base mRun).set R.MCLK_STAT.HOLD 1, 250000, 250000, 100000, by decide +kernel⟩,
    ⟨base mRun, 100102, 100102, 100000, by decide +kernel⟩,
    ⟨(base mRun).set R.STRAP_LATCH.MCLK_SRC 1, 100000, by decide +kernel⟩,
    ⟨base mRun, by decide +kernel⟩,
    ⟨(base mRun).set R.MCLK_STAT.HOLD 1, 100050, 100050, 100000, by decide +kernel⟩,
    ⟨onClk (fun c => { c with startDue := true }) (base mRun), by decide +kernel⟩,
    ⟨base mRun, by decide +kernel⟩,
    ⟨onClk (fun c => { c with loads := [(7, 0)], tick := 2 ^ 48 - 1 }) (base mRun), 7, by decide +kernel⟩,
    ⟨(base mRun).setSched 255 ⟨4, 1000, 1, 0, 0⟩, 255, by decide +kernel⟩,
    ⟨(base mQuiescent).setSched 255 ⟨4, 1000, 2, 0, 0⟩, 255, by decide +kernel⟩⟩

theorem witness_TimeEventsComplete_2 :
    (∃ (s : State) (h : Fin 256), s.up = true ∧ (s.sched h).st = 4 ∧ s.mode = mQuiescent ∧ (s.sched h).action ≠ 2 ∧
      (s.sched h).action ≠ 3) ∧
    (∃ (s : State) (h : Fin 256), s.up = true ∧ (s.sched h).st = 4 ∧ s.mode ≠ mQuiescent ∧ (s.runClass = false ∨
      ((s.sched h).action = 5 ∧ s.held 0xB1 = true))) ∧
    (∃ (s : State) (d : Fin 25), s.up = true ∧ s.bit R.CLK_LOCK.LOCK d = false ∧ s.canLock d = true) ∧
    (∃ (s : State) (d : Fin 25), s.up = true ∧ s.bit R.CLK_LOCK.LOCK d = true ∧ synthesized d = true) ∧
    (∃ (s : State) (d : Fin 25), s.up = true ∧ s.bit R.CLK_LOCK.LOCK d = true ∧ 13 ≤ d.val ∧ d.val ≤ 15) ∧
    (∃ (s : State), s.up = true) ∧
    (∃ (s : State) (f : FifoId), s.up = true ∧ s.resyncing (fifoNum f) = true ∧ (fifoOwners f).any s.held = false) ∧
    (∃ (s : State), s.up = true ∧ s.flag R.STRAP_LATCH.FCB_EN = true) :=
  ⟨⟨(base mQuiescent).setSched 255 ⟨4, 1000, 1, 0, 0⟩, 255, by decide +kernel⟩,
    ⟨(base mSafe).setSched 255 ⟨4, 1000, 1, 0, 0⟩, 255, by decide +kernel⟩,
    ⟨((base mRun).set R.CLK_LOCK.LOCK 0).setSynth 24 ⟨0, 8, 1, 0, false, false⟩, 24, by decide +kernel⟩,
    ⟨base mRun, 24, by decide +kernel⟩,
    ⟨base mRun, 15, by decide +kernel⟩,
    ⟨base mRun, by decide +kernel⟩,
    ⟨startResync (fifoNum (.laneRx 95)) (base mRun), .laneRx 95, by decide +kernel⟩,
    ⟨base mRun, by decide +kernel⟩⟩

theorem witness_TimeCommandsComplete :
    (∃ (mb : Fin 16) (s : State), s.serves mb 0x0500 []) ∧
    (∃ (mb : Fin 16) (s : State) (tick : _) (action : _) (target : _) (arg : _), s.serves mb 0x0501 [(6, tick), (1,
      action), (2, target), (4, arg)] ∧ s.tickAhead tick = true ∧ schedArgsOk action target arg = true ∧ (∀
      e ∈ s.clk.sched, ¬ ((e.2.st = 1 ∨ e.2.st = 4) ∧ e.2.tick = tick ∧ e.2.action = action ∧ e.2.target = target)) ∧
      s.freeHandles ≠ []) ∧
    (∃ (mb : Fin 16) (s : State) (h : _), s.serves mb 0x0502 [(2, h)] ∧ h < 256 ∧ (s.sched h).st = 1) ∧
    (∃ (mb : Fin 16) (s : State) (h : _), s.serves mb 0x0502 [(2, h)] ∧ h < 256 ∧ (s.sched h).st ≠ 1) ∧
    (∃ (mb : Fin 16) (s : State) (first : _) (count : _), s.serves mb 0x0503 [(2, first), (1, count)] ∧ first < 256 ∧
      1 ≤ count ∧ count ≤ 16) ∧
    (∃ (mb : Fin 16) (s : State) (d : _) (mode : _) (n : _) (q : _), s.serves mb 0x0504 [(1, d), (1, mode), (1, n),
      (1, q)] ∧ settable d = true ∧ d ≤ 24 ∧ (s.mode = mBoot ∨ s.mode = mLoad ∨ s.mode = mSafe ∨ s.mode = mQuiescent)
      ∧ settingRange d mode n q = true ∧ s.settingFreqOk d mode n q = true ∧ (s.synth d).wait = false) ∧
    (∃ (mb : Fin 16) (s : State) (d : _), s.serves mb 0x0505 [(1, d)] ∧ settable d = true ∧ d ≤ 24) ∧
    (∃ (mb : Fin 16) (s : State) (d : _), s.serves mb 0x0505 [(1, d)] ∧ settable d = false ∧ d ≤ 24) ∧
    (∃ (mb : Fin 16) (s : State) (tick : _) (b : _), s.serves mb 0x0506 [(6, tick), (6, b)] ∧ s.clk.running = true ∧
      s.tickAhead b = true) :=
  ⟨⟨0, asks 0x0500 (pack []) (base mRun), by decide +kernel⟩,
    ⟨0, asks 0x0501 (pack [(6, (2000)), (1, (5)), (2, (15)), (4, (4095))]) (base mRun), 2000, 5, 15, 4095,
      by decide +kernel⟩,
    ⟨0, asks 0x0502 (pack [(2, (255))]) ((base mRun).setSched 255 ⟨1, 2000, 1, 0, 0⟩), 255, by decide +kernel⟩,
    ⟨0, asks 0x0502 (pack [(2, (255))]) ((base mRun).setSched 255 ⟨2, 900, 1, 0, 0⟩), 255, by decide +kernel⟩,
    ⟨0, asks 0x0503 (pack [(2, (255)), (1, (16))]) (base mRun), 255, 16, by decide +kernel⟩,
    ⟨0, asks 0x0504 (pack [(1, (24)), (1, (0)), (1, (8)), (1, (1))]) (base mSafe), 24, 0, 8, 1, by decide +kernel⟩,
    ⟨0, asks 0x0505 (pack [(1, (24))]) (base mRun), 24, by decide +kernel⟩,
    ⟨0, asks 0x0505 (pack [(1, (0))]) (base mRun), 0, by decide +kernel⟩,
    ⟨0, asks 0x0506 (pack [(6, (5)), (6, (1017))]) (base mRun), 5, 1017, by decide +kernel⟩⟩

theorem witness_SetCommandsWait :
    (∃ (mb : Fin 16) (s : State) (d : Nat) (mode : Nat) (n : Nat) (q : Nat), s.serves mb 0x0504 [(1, d), (1, mode),
      (1, n), (1, q)] ∧ settable d = true ∧ d ≤ 24 ∧ (s.mode = mBoot ∨ s.mode = mLoad ∨ s.mode = mSafe ∨
      s.mode = mQuiescent) ∧ settingRange d mode n q = true ∧ s.settingFreqOk d mode n q = true ∧ (s.synth
      d).wait = true) ∧
    (∃ (mb : Fin 16) (s : State) (tick : Nat) (b : Nat), s.serves mb 0x0506 [(6, tick), (6, b)] ∧
      s.clk.running = false) ∧
    (∃ (mb : Fin 16) (s : State) (tick : Nat) (b : Nat), s.serves mb 0x0506 [(6, tick), (6, b)] ∧
      s.clk.running = true ∧ s.tickAhead b = false) ∧
    (∃ (mb : Fin 16) (s : State) (tick : Nat) (b : Nat), s.serves mb 0x0506 [(6, tick), (6, b)] ∧
      s.clk.running = true ∧ s.tickAhead b = true) ∧
    (∃ (s : State) (l : List (Nat × Nat)) (v : Nat) (b : Nat), s.up = true ∧ s.clk.running = true ∧ s.clk.loads = l
      ++ [(v, b)] ∧ b = (s.clk.tick + 1) % 2 ^ 48) ∧
    (∃ (s : State) (l : List (Nat × Nat)) (v : Nat) (b : Nat), s.up = true ∧ s.clk.running = true ∧ s.clk.loads = l
      ++ [(v, b)] ∧ (∀ e ∈ s.clk.loads, e.2 ≠ (s.clk.tick + 1) % 2 ^ 48)) :=
  ⟨⟨0, asks 0x0504 (pack [(1, (24)), (1, (0)), (1, (8)), (1, (1))]) ((base mSafe).setSynth 24 ⟨0, 0, 0, 0, true,
      false⟩), 24, 0, 8, 1, by decide +kernel⟩,
    ⟨0, asks 0x0506 (pack [(6, (0)), (6, (0))]) (onClk (fun c => { c with running := false }) (base mRun)), 0, 0,
      by decide +kernel⟩,
    ⟨0, asks 0x0506 (pack [(6, (0)), (6, (1016))]) (base mRun), 0, 1016, by decide +kernel⟩,
    ⟨0, asks 0x0506 (pack [(6, (5)), (6, (1017))]) (base mRun), 5, 1017, by decide +kernel⟩,
    ⟨onClk (fun c => { c with loads := [(6, 1001), (7, 1001)] }) (base mRun), [(6, 1001)], 7, 1001,
      by decide +kernel⟩,
    ⟨onClk (fun c => { c with loads := [(7, 1002)] }) (base mRun), [], 7, 1002, by decide +kernel⟩⟩

theorem witness_PinEventsComplete :
    (∃ (s : State) (b : Fin 32), s.runClass = true ∧ (s.ioBank b).vioDown = false) ∧
    (∃ (s : State) (b : Fin 32), (s.ioBank b).vioDown = true) ∧
    (∃ (s : State), s.pinsOpen = true) ∧
    (∃ (s : State) (n : Fin 1536), s.up = true ∧ s.clocked 3 = true ∧ (s.ch n).tap ≠ s.get (R.PIN_CFG.IDELAY n)) ∧
    (∃ (s : State) (n : Fin 1536), s.up = true ∧ s.clocked 3 = true ∧ s.fab.writes = true ∧ s.borderCause (bankRegion
      (n.val / 48)) = 0 ∧ (s.ch n).tp.busy = false) ∧
    (∃ (s : State) (n : Fin 1536), s.up = true ∧ s.clocked 3 = true ∧ s.fab.writes = true ∧ s.borderCause (bankRegion
      (n.val / 48)) = 0 ∧ (s.ch n).tp.busy = true ∧ (s.ch n).tp.pend = false) ∧
    (∃ (s : State) (n : Fin 1536), s.up = true ∧ s.clocked 3 = true ∧ s.fab.writes = true ∧ s.borderCause (bankRegion
      (n.val / 48)) = 0 ∧ (s.ch n).tp.busy = true ∧ (s.ch n).tp.pend = true) ∧
    (∃ (s : State) (n : Fin 1536), s.up = true ∧ s.clocked 3 = true ∧ (s.ch n).tp.busy = true ∧ (s.ch
      n).tp.pend = true) ∧
    (∃ (s : State) (n : Fin 1536), s.up = true ∧ s.clocked 3 = true ∧ (s.ch n).tp.busy = true ∧ (s.ch
      n).tp.pend = false) ∧
    (∃ (s : State) (n : Fin 1536) (q : Nat) (l : List Nat), s.up = true ∧ s.clocked 3 = true ∧ (s.ch n).armed = q ::
      l ∧ tickLater s.clk.tick q = true ∧ s.bankLive (n.val / 48) = true ∧ s.get (R.PIN_CFG.DIR n) = 3 ∧ s.get
      (R.TDC_CFG.P_WIDTH n) ≠ 0) ∧
    (∃ (s : State) (n : Fin 1536) (q : Nat) (l : List Nat), s.up = true ∧ s.clocked 3 = true ∧ (s.ch n).armed = q ::
      l ∧ tickLater s.clk.tick q = true ∧ (s.bankLive (n.val / 48) = false ∨ s.get (R.PIN_CFG.DIR n) ≠ 3 ∨ s.get
      (R.TDC_CFG.P_WIDTH n) = 0)) ∧
    (∃ (s : State), s.up = true ∧ s.held 0xB1 = false) :=
  ⟨⟨base mRun, 31, by decide +kernel⟩,
    ⟨(base mRun).modBank 31 fun b => { b with vioDown := true }, 31, by decide +kernel⟩,
    ⟨base mRun, by decide +kernel⟩,
    ⟨(base mRun).modCh 1535 fun c => { c with tap := 511 }, 1535, by decide +kernel⟩,
    ⟨base mRun, 1535, by decide +kernel⟩,
    ⟨(base mRun).modCh 1535 fun c => { c with tp := ⟨true, false⟩ }, 1535, by decide +kernel⟩,
    ⟨(base mRun).modCh 1535 fun c => { c with tp := ⟨true, true⟩ }, 1535, by decide +kernel⟩,
    ⟨(base mRun).modCh 1535 fun c => { c with tp := ⟨true, true⟩ }, 1535, by decide +kernel⟩,
    ⟨(base mRun).modCh 1535 fun c => { c with tp := ⟨true, false⟩ }, 1535, by decide +kernel⟩,
    ⟨((((base mRun).set (R.PIN_CFG.DIR 1535) 3).set (R.TDC_CFG.P_WIDTH 1535) 1).setSynth 3 ⟨0, 8, 1, 0, false,
      false⟩).modCh 1535 fun c => { c with armed := [999, 1000] }, 1535, 999, [1000], by decide +kernel⟩,
    ⟨(base mRun).modCh 1535 fun c => { c with armed := [999, 1000] }, 1535, 999, [1000], by decide +kernel⟩,
    ⟨base mRun, by decide +kernel⟩⟩

theorem witness_PinEventsComplete_2 :
    (∃ (s : State) (k : Fin 16) (win : DacLoad), s.up = true ∧ s.clocked 16 = true ∧ s.held 0xB1 = false ∧ (at'
      s.io.loads k []).find? (fun d => d.rank == ((at' s.io.loads k []).map fun d => d.rank).foldl min 9) = some win) ∧
    (∃ (s : State) (k : Fin 16), s.up = true ∧ s.clocked 16 = true ∧ s.held 0xB1 = true ∧ at' s.io.loads k [] ≠ []) :=
  ⟨⟨{ base mRun with io := { (base mRun).io with loads := [(15, [⟨3, 4095, 0⟩, ⟨1, 1, 0⟩])] } }, 15, ⟨1, 1, 0⟩,
      by decide +kernel⟩,
    ⟨({ base mRun with io := { (base mRun).io with loads := [(15, [⟨3, 4095, 0⟩, ⟨1, 1, 0⟩])] } }).setBit
      (R.RST_FUNC.HOLD 5) 17 true, 15, by decide +kernel⟩⟩

theorem witness_TdcEventsComplete :
    (∃ (s : State) (n : Fin 1536) (e : TdcIn), s.up = true ∧ s.bankLive (n.val / 48) = true ∧ s.clocked 3 = true ∧
      s.flag (R.TDC_CFG.EN n) = true ∧ (s.get (R.TDC_CFG.EDGE n)).testBit (if e.falling then 1 else 0) = true ∧
      4000 ≤ e.sincePs ∧ s.oddOfPair n = false ∧ s.held (bankFunc (n.val / 48)) = false ∧ (7, n.val) ∉ s.test.fenced
      ∧ e.tap = (s.ch n).tap ∧ e.core.coarse < (s.synth 3).n ∧ e.spare.coarse < (s.synth 3).n ∧ (s.synth 3).n ≤ 125 ∧
      s.clk.tick < 2 ^ 48 ∧ (s.ch n).fifo.length < 16) ∧
    (∃ (s : State) (n : Fin 1536) (e : TdcIn), s.up = true ∧ s.bankLive (n.val / 48) = true ∧ s.clocked 3 = true ∧
      s.flag (R.TDC_CFG.EN n) = true ∧ (s.get (R.TDC_CFG.EDGE n)).testBit (if e.falling then 1 else 0) = true ∧
      4000 ≤ e.sincePs ∧ s.oddOfPair n = false ∧ s.held (bankFunc (n.val / 48)) = false ∧ (7, n.val) ∉ s.test.fenced
      ∧ e.tap = (s.ch n).tap ∧ e.core.coarse < (s.synth 3).n ∧ e.spare.coarse < (s.synth 3).n ∧ (s.synth 3).n ≤ 125 ∧
      s.clk.tick < 2 ^ 48 ∧ 16 ≤ (s.ch n).fifo.length) ∧
    (∃ (s : State) (n : Fin 1536) (e : TdcIn), s.up = true ∧ e.tap = (s.ch n).tap ∧ e.core.coarse < (s.synth 3).n ∧
      e.spare.coarse < (s.synth 3).n ∧ s.records n e.falling e.sincePs = false) ∧
    (∃ (s : State) (b : Fin 32) (i : Nat), s.up = true ∧ s.clocked 3 = true ∧ s.held (bankFunc b) = false ∧
      s.resyncing b = false ∧ s.nextChannel b (s.ioBank b).last = some i ∧ (s.ioBank b).port.length < 256) ∧
    (∃ (s : State) (b : Fin 32) (i : Nat), s.up = true ∧ s.clocked 3 = true ∧ s.held (bankFunc b) = false ∧
      s.resyncing b = false ∧ s.nextChannel b (s.ioBank b).last = some i ∧ 256 ≤ (s.ioBank b).port.length) ∧
    (∃ (s : State) (b : Fin 32), let tick := s.wmNext b (s.get (R.BANK_CTL.WMARK_PER b)); (s.get
      (R.BANK_CTL.WMARK_PER b) ≠ 0 ∧ s.bankLive b = true ∧ s.clocked 3 = true ∧ s.clk.running = true ∧ s.held
      (bankFunc b) = false ∧ s.resyncing b = false ∧ tickLater tick s.clk.tick = false ∧ (s.ioBank
      b).port.length < 256) ∧ (∀ i < 48, ∀ h ∈ (s.ch (48 * b.val + i)).fifo, tickLater tick (h / 65536 %
      tickMod) = false)) ∧
    (∃ (s : State) (b : Fin 32), let tick := s.wmNext b (s.get (R.BANK_CTL.WMARK_PER b)); (s.get
      (R.BANK_CTL.WMARK_PER b) ≠ 0 ∧ s.bankLive b = true ∧ s.clocked 3 = true ∧ s.clk.running = true ∧ s.held
      (bankFunc b) = false ∧ s.resyncing b = false ∧ tickLater tick s.clk.tick = false ∧ 256 ≤ (s.ioBank
      b).port.length) ∧ (∀ i < 48, ∀ h ∈ (s.ch (48 * b.val + i)).fifo, tickLater tick (h / 65536 % tickMod) = false)) ∧
    (∃ (s : State) (b : Fin 32) (hsReady : Bool) (h : _) (l : _), let a := 2 ^ 21 * bankRegion b + 2 ^ 18 + 96;
      let u := recordOuts (bankRegion b) [(a, hsReady)] s; s.up = true ∧ s.fab.clocksOn = true ∧ u.present a = 1 ∧
      u.fab.writes = true ∧ u.held (bankRegion b) = false ∧ u.resyncing b = false ∧ u.fab.cutHits.contains
      b.val = false ∧ (u.ioBank b).port = h :: l) ∧
    (∃ (s : State) (b : Fin 32) (hsReady : Bool), let a := 2 ^ 21 * bankRegion b + 2 ^ 18 + 96;
      let u := recordOuts (bankRegion b) [(a, hsReady)] s; s.up = true ∧ s.fab.clocksOn = true ∧ (u.present a ≠ 1 ∨
      (u.ioBank b).port = [])) ∧
    (∃ (s : State) (n : Fin 1536), s.up = true ∧ s.bit (R.BANK_CTL.SPARE_GONE (n.val / 48)) (n.val % 48 / 16) = false
      ∧ s.calPending n = false) ∧
    (∃ (s : State) (n : Fin 1536), s.up = true ∧ (s.bit (R.BANK_CTL.SPARE_GONE (n.val / 48)) (n.val % 48 / 16) = true
      ∨ s.calPending n = true)) ∧
    (∃ (s : State) (b : Fin 32) (g : Fin 3) (n : _) (q : _), s.up = true ∧ s.clocked 3 = true ∧ (s.group (3 * b.val +
      g.val)).stopped = false ∧ (s.group (3 * b.val + g.val)).serving = none ∧ s.bit (R.BANK_CTL.SPARE_GONE b)
      g = false ∧ s.held (bankFunc b) = false ∧ (s.group (3 * b.val + g.val)).queue = n :: q) :=
  ⟨⟨(((base mRun).set (R.TDC_CFG.EN 1535) 1).set (R.TDC_CFG.EDGE 1535) 3).setSynth 3 ⟨0, 125, 1, 0, false, false⟩,
      1535, ⟨true, 4000, 0, ⟨true, 124, 255⟩, ⟨false, 0, 0⟩⟩, by decide +kernel⟩,
    ⟨((((base mRun).set (R.TDC_CFG.EN 1535) 1).set (R.TDC_CFG.EDGE 1535) 3).setSynth 3 ⟨0, 125, 1, 0, false,
      false⟩).modCh 1535 fun c => { c with fifo := List.replicate 16 1 }, 1535, ⟨true, 4000, 0, ⟨true, 124, 255⟩,
      ⟨false, 0, 0⟩⟩, by decide +kernel⟩,
    ⟨(((base mRun).set (R.TDC_CFG.EN 1535) 1).set (R.TDC_CFG.EDGE 1535) 3).setSynth 3 ⟨0, 125, 1, 0, false, false⟩,
      1535, ⟨true, 3999, 0, ⟨true, 124, 255⟩, ⟨false, 0, 0⟩⟩, by decide +kernel⟩,
    ⟨(base mRun).modCh 1535 fun c => { c with fifo := [1] }, 31, 47, by decide +kernel⟩,
    ⟨((base mRun).modCh 1535 fun c => { c with fifo := [1] }).modBank 31 fun b =>
      { b with port := List.replicate 256 1 }, 31, 47, by decide +kernel⟩,
    ⟨onClk (fun c => { c with tick := 16 }) ((base mRun).set (R.BANK_CTL.WMARK_PER 31) 1), 31, by decide +kernel,
      (fun _ _ _ h => absurd h List.not_mem_nil)⟩,
    ⟨(onClk (fun c => { c with tick := 16 }) ((base mRun).set (R.BANK_CTL.WMARK_PER 31) 1)).modBank 31 fun b =>
      { b with port := List.replicate 256 1 }, 31, by decide +kernel, (fun _ _ _ h => absurd h List.not_mem_nil)⟩,
    ⟨swapHolds ((base mRun).modBank 31 fun b => { b with port := [5, 6] }), 31, true, 5, [6], by decide +kernel⟩,
    ⟨(base mRun).modBank 31 fun b => { b with port := [5, 6] }, 31, false, by decide +kernel⟩,
    ⟨base mRun, 1535, by decide +kernel⟩,
    ⟨(base mRun).modGroup 95 fun g => { g with queue := [1535] }, 1535, by decide +kernel⟩,
    ⟨(base mRun).modGroup 95 fun g => { g with queue := [1535, 1534] }, 31, 2, 1535, [1534], by decide +kernel⟩⟩

theorem witness_TdcEventsComplete_2 :
    (∃ (s : State) (b : Fin 32) (g : Fin 3) (i : _), s.up = true ∧ s.clocked 3 = true ∧ (s.group (3 * b.val +
      g.val)).stopped = false ∧ (s.group (3 * b.val + g.val)).serving = none ∧ s.bit (R.BANK_CTL.SPARE_GONE b)
      g = false ∧ s.held (bankFunc b) = false ∧ (s.group (3 * b.val + g.val)).queue = [] ∧ s.nextTurn (3 * b.val +
      g.val) = some i ∧ i ≠ 16) ∧
    (∃ (s : State) (b : Fin 32) (g : Fin 3), s.up = true ∧ s.clocked 3 = true ∧ (s.group (3 * b.val +
      g.val)).stopped = false ∧ (s.group (3 * b.val + g.val)).serving = none ∧ s.bit (R.BANK_CTL.SPARE_GONE b)
      g = false ∧ s.held (bankFunc b) = false ∧ (s.group (3 * b.val + g.val)).queue = [] ∧ s.nextTurn (3 * b.val +
      g.val) = some 16) ∧
    (∃ (s : State) (b : Fin 32) (g : Fin 3), s.up = true ∧ s.clocked 3 = true ∧ (s.group (3 * b.val +
      g.val)).stopped = false ∧ (s.group (3 * b.val + g.val)).serving = none ∧ s.bit (R.BANK_CTL.SPARE_GONE b)
      g = false ∧ s.held (bankFunc b) = false ∧ (s.group (3 * b.val + g.val)).queue = [] ∧ s.nextTurn (3 * b.val +
      g.val) = none) ∧
    (∃ (s : State) (n : Fin 1536), s.clocked 3 = true ∧ (s.ch n).cal = 2 ∧ tickLater (s.ch n).switchTick
      s.clk.tick = false) ∧
    (∃ (s : State) (n : Fin 1536) (counts : List Nat) (tab : _), s.clocked 3 = true ∧ (s.ch n).cal = 3 ∧ densityTable
      counts = some tab) ∧
    (∃ (s : State) (n : Fin 1536) (counts : List Nat), s.clocked 3 = true ∧ (s.ch n).cal = 3 ∧ densityTable
      counts = none) ∧
    (∃ (s : State) (k : Fin 96) (counts : List Nat) (tab : _), s.clocked 3 = true ∧ (s.group k).serving = some (1536
      + k.val) ∧ densityTable counts = some tab) ∧
    (∃ (s : State) (k : Fin 96) (counts : List Nat), s.clocked 3 = true ∧ (s.group k).serving = some (1536 + k.val) ∧
      densityTable counts = none) ∧
    (∃ (s : State) (n : Fin 1536), s.clocked 3 = true ∧ (s.ch n).cal = 4 ∧ tickLater (s.ch n).switchTick
      s.clk.tick = false) :=
  ⟨⟨((base mRun).modGroup 95 fun g => { g with next := 15 }).set (R.TDC_CFG.CAL_AUTO 1535) 1, 31, 2, 15,
      by decide +kernel⟩,
    ⟨((base mRun).modGroup 95 fun g => { g with next := 16 }).set (R.TDC_CFG.CAL_AUTO 1535) 1, 31, 2,
      by decide +kernel⟩,
    ⟨forEach ((List.range 16).map (1520 + ·)) (fun n s => s.set (R.TDC_CFG.CAL_AUTO n) 0) (base mRun), 31, 2,
      by decide +kernel⟩,
    ⟨(base mRun).modCh 1535 fun c => { c with cal := 2, switchTick := 1000 }, 1535, by decide +kernel⟩,
    ⟨(base mRun).modCh 1535 fun c => { c with cal := 3, switchTick := 1000 }, 1535, List.replicate 256 128,
      (densityTable (List.replicate 256 128)).getD [], by decide +kernel⟩,
    ⟨(base mRun).modCh 1535 fun c => { c with cal := 3, switchTick := 1000 }, 1535, List.replicate 256 0,
      by decide +kernel⟩,
    ⟨(base mRun).modGroup 95 fun g => { g with serving := some 1631 }, 95, List.replicate 256 128, (densityTable
      (List.replicate 256 128)).getD [], by decide +kernel⟩,
    ⟨(base mRun).modGroup 95 fun g => { g with serving := some 1631 }, 95, List.replicate 256 0, by decide +kernel⟩,
    ⟨(base mRun).modCh 1535 fun c => { c with cal := 4, switchTick := 1000 }, 1535, by decide +kernel⟩⟩

theorem witness_MeasureCommandsComplete :
    (∃ (mb : Fin 16) (s : State) (n : _), s.serves mb 0x0600 [(2, n)] ∧ n < 1536) ∧
    (∃ (mb : Fin 16) (s : State) (n : _) (v : _), s.serves mb 0x0601 [(2, n), (4, v)] ∧ n < 1536 ∧ s.pinsOpen = true
      ∧ fieldOf (R.PIN_CFG.STD n) v = s.get (R.PIN_CFG.STD n) ∧ fieldOf (R.PIN_CFG.DIR n) v = s.get (R.PIN_CFG.DIR n)
      ∧ fieldOf (R.PIN_CFG.SAFE n) v = s.get (R.PIN_CFG.SAFE n)) ∧
    (∃ (mb : Fin 16) (s : State) (n : _) (v : _), s.serves mb 0x0602 [(2, n), (4, v)] ∧ n < 1536 ∧ s.tdcTested
      n = false) ∧
    (∃ (mb : Fin 16) (s : State) (n : _), s.serves mb 0x0603 [(2, n)] ∧ n < 1536 ∧ s.tdcTested n = false) ∧
    (∃ (mb : Fin 16) (s : State) (n : _), s.serves mb 0x0604 [(2, n)] ∧ n < 1536 ∧ s.tdcTested n = false) ∧
    (∃ (mb : Fin 16) (s : State) (first : _) (count : _) (tick : _), s.serves mb 0x0605 [(2, first), (1, count), (6,
      tick)] ∧ first < 1536 ∧ 1 ≤ count ∧ count ≤ 48 ∧ first / 48 = (first + count - 1) / 48 ∧ s.tickAhead
      tick = true) ∧
    (∃ (mb : Fin 16) (s : State) (k : _) (code : _), s.serves mb 0x0606 [(1, k), (2, code)] ∧ k < 16 ∧ code < 4096 ∧
      s.held 0xB1 = false) ∧
    (∃ (mb : Fin 16) (s : State) (i : _), s.serves mb 0x0607 [(1, i)] ∧ i < 8) ∧
    (∃ (mb : Fin 16) (s : State) (first : _) (count : _), s.serves mb 0x0608 [(1, first), (1, count)] ∧ 1 ≤ count ∧
      count ≤ 32 ∧ first + count ≤ 192) ∧
    (∃ (mb : Fin 16) (s : State) (m : _), s.serves mb 0x0609 [(24, m)] ∧ m % 2 ^ 96 = 0) ∧
    (∃ (mb : Fin 16) (s : State) (m : _), s.serves mb 0x0609 [(24, m)] ∧ m % 2 ^ 96 ≠ 0) :=
  ⟨⟨0, asks 0x0600 (pack [(2, (1535))]) (base mRun), 1535, by decide +kernel⟩,
    ⟨0, asks 0x0601 (pack [(2, (1535)), (4, (0))]) (base mRun), 1535, 0, by decide +kernel⟩,
    ⟨0, asks 0x0602 (pack [(2, (1535)), (4, (0))]) (base mRun), 1535, 0, by decide +kernel⟩,
    ⟨0, asks 0x0603 (pack [(2, (1535))]) (base mRun), 1535, by decide +kernel⟩,
    ⟨0, asks 0x0604 (pack [(2, (1535))]) ((base mRun).modCh 1535 fun c => { c with cal := 5 }), 1535,
      by decide +kernel⟩,
    ⟨0, asks 0x0605 (pack [(2, (1488)), (1, (48)), (6, (1017))]) (base mRun), 1488, 48, 1017, by decide +kernel⟩,
    ⟨0, asks 0x0606 (pack [(1, (15)), (2, (4095))]) (base mRun), 15, 4095, by decide +kernel⟩,
    ⟨0, asks 0x0607 (pack [(1, (7))]) (base mRun), 7, by decide +kernel⟩,
    ⟨0, asks 0x0608 (pack [(1, (160)), (1, (32))]) (base mRun), 160, 32, by decide +kernel⟩,
    ⟨0, asks 0x0609 (pack [(24, (2 ^ 96))]) (base mRun), 2 ^ 96, by decide +kernel⟩,
    ⟨0, asks 0x0609 (pack [(24, (1))]) (base mRun), 1, by decide +kernel⟩⟩

theorem witness_FlipFlopTakesItsNextValue :
    (∃ (s : State) (i : FabIn) (u : CluIn) (x : CellIn) (r : Fin 128) (via : Option Nat), s.up = true ∧ i.clu = [u] ∧
      u.cells = [x] ∧ u.hazard = 0 ∧ (s.gate (16 * r.val)).isOpen = true ∧ s.frozen r = false ∧ via.all
      s.wirePasses = true) ∧
    (∃ (s : State) (i : FabIn) (u : CluIn) (x : CellIn) (n : Fin 2048), s.up = true ∧ i.clu = [u] ∧ u.cells = [x] ∧
      u.hazard = 0 ∧ s.passesNext n = true ∧ (s.gate n).isOpen = true ∧ s.frozen (n.val / 16) = false ∧ at' s.fab.rel
      n 0 = 0 ∧ at' s.fab.skip (2 * n.val) 0 = 0 ∧ (s.ctxR (n.val / 16)).due = []) ∧
    (∃ (s : State) (i : FabIn) (u : CluIn) (x : CellIn) (n : Fin 2048), s.up = true ∧ i.clu = [u] ∧ u.cells = [x] ∧
      u.hazard = 0 ∧ n.val ∈ s.fab.high ∧ s.frozen (n.val / 16) = false ∧ at' s.fab.rel n 0 = 0 ∧ at' s.fab.skip (2 *
      n.val + 1) 0 = 0) ∧
    (∃ (s : State) (i : FabIn) (u : CluIn) (x : CellIn) (r : Fin 128), s.up = true ∧ i.clu = [u] ∧ u.cells = [x] ∧
      u.hazard = 0 ∧ s.frozen r = false) ∧
    (∃ (s : State) (e : FfEdge) (r : Nat), ((s.srHeld r = true ∨ s.flag (R.BORDER_STAT.FENCED r) = true) ∧ (∀
      d ∈ (s.ctxR r).due, d.1 ≠ s.activePlane r)) ∧ ((∃ n falling i, e = .net n falling i ∧ n.val / 16 = r) ∨ (∃ q c
      f w v i, e = .wire q c f w v i ∧ q.val = r) ∨ (∃ q i, e = .between q i ∧ q.val = r))) ∧
    (∃ (s : State) (n : Fin 2048), s.up = true ∧ s.passesNext n = false) ∧
    (∃ (s : State) (n : Fin 2048), n.val ∉ s.fab.high) :=
  ⟨⟨netRuns 127 (base mRun), ⟨[⟨6271, 15, 0, 0, [⟨15, 63, true, true⟩]⟩], [], []⟩, ⟨6271, 15, 0, 0, [⟨15, 63, true,
      true⟩]⟩, ⟨15, 63, true, true⟩, 127, some (127 * 2 ^ 21), by decide +kernel⟩,
    ⟨((base mRun).set (R.RCN_CFG.SRC_A 2047) 3).modFab fun f => { f with gate := [(2047, ⟨true, 0⟩)] }, ⟨[⟨6271, 15,
      0, 0, [⟨15, 63, true, true⟩]⟩], [], []⟩, ⟨6271, 15, 0, 0, [⟨15, 63, true, true⟩]⟩, ⟨15, 63, true, true⟩, 2047,
      by decide +kernel⟩,
    ⟨(base mRun).modFab fun f => { f with high := [2047] }, ⟨[⟨6271, 15, 0, 0, [⟨15, 63, true, true⟩]⟩], [], []⟩,
      ⟨6271, 15, 0, 0, [⟨15, 63, true, true⟩]⟩, ⟨15, 63, true, true⟩, 2047, by decide +kernel⟩,
    ⟨base mRun, ⟨[⟨6271, 15, 0, 0, [⟨15, 63, true, true⟩]⟩], [], []⟩, ⟨6271, 15, 0, 0, [⟨15, 63, true, true⟩]⟩, ⟨15,
      63, true, true⟩, 127, by decide +kernel⟩,
    ⟨(base mRun).set R.FAB_CTL.GSR_HELD 1, .net 2047 false ⟨[⟨6271, 15, 0, 0, [⟨15, 63, true, true⟩]⟩], [], []⟩, 127,
      by decide +kernel, (.inl ⟨2047, false, _, rfl, rfl⟩)⟩,
    ⟨(base mRun).modFab fun f => { f with lost := [2047] }, 2047, by decide +kernel⟩,
    ⟨base mRun, 2047, by decide +kernel⟩⟩

theorem witness_ShedGatePassesP :
    (∃ (s : State) (n : Nat) (p : Nat), s.get (R.RCN_CFG.SHED_PASS n) = p ∧ 1 ≤ p ∧ p ≤ 16 ∧ at' s.fab.phase n 0 = 0) :=
  ⟨((base mRun).set (R.RCN_CFG.SHED_PASS 2047) 15), 2047, 15, by decide +kernel⟩

theorem witness_FabricEventsComplete :
    (∃ (s : State) (n : Fin 2048) (sel : Bool), let side := sel && s.flag (R.RCN_CFG.SW_EN n);
      (n.val ∈ s.fab.switching ∨ s.flag (R.RCN_CFG.ACT_SRC n) ≠ side)) ∧
    (∃ (s : State) (n : Fin 2048), s.flag (R.RCN_CFG.CE_EN n) = true) ∧
    (∃ (s : State) (n : Fin 2048), s.up = true ∧ n.val ∉ s.fab.lost ∧ sourceIn (n.val / 16) (s.netSrc n) = true) ∧
    (∃ (s : State) (n : Fin 2048), at' s.fab.phase n.val 0 = 0 ∧ s.flag (R.RCN_CFG.SHEDDABLE n) = true) ∧
    (∃ (s : State) (n : Fin 2048), at' s.fab.phase n.val 0 = 0 ∧ s.flag (R.RCN_CFG.SHEDDABLE n) = false) ∧
    (∃ (s : State) (r : Fin 128) (c : Fin 3136) (k : Fin 8), let a := pillarAddr r c (24 + k.val); s.hasActive
      r = true ∧ a ∉ s.fab.pillarOff) ∧
    (∃ (s : State) (a : Nat), a ∈ s.fab.pillarOff) ∧
    (∃ (s : State) (a : Nat), s.pillar a = true) ∧
    (∃ (s : State) (a : Nat), a ∉ s.fab.pillarOff ∧ s.pillarEn a 0 = true ∧ s.pillarEn a 1 = false) ∧
    (∃ (s : State) (a : Nat), a ∉ s.fab.pillarOff ∧ s.pillarEn a 0 = false ∧ s.pillarEn a 1 = true) ∧
    (∃ (s : State) (p : Fin 24), s.up = true ∧ s.get (R.SEAM_CFG.SEAM_CLK p) ≠ 7 ∧ s.fab.seamLost.contains
      p.val = false) ∧
    (∃ (s : State) (p : Fin 24) (k : Nat), k < 2 * seamWidth p ∧ s.seamRuns p = true ∧ sorted s.fab.seam = true) :=
  ⟨⟨(base mRun).set (R.RCN_CFG.SW_EN 2047) 1, 2047, true, by decide +kernel⟩,
    ⟨(base mRun).set (R.RCN_CFG.CE_EN 2047) 1, 2047, by decide +kernel⟩,
    ⟨(base mRun).set (R.RCN_CFG.SRC_A 2047) 8, 2047, by decide +kernel⟩,
    ⟨(base mRun).set (R.RCN_CFG.SHEDDABLE 2047) 1, 2047, by decide +kernel⟩,
    ⟨base mRun, 2047, by decide +kernel⟩,
    ⟨activeAt 127 (base mRun), 127, 3135, 7, by decide +kernel⟩,
    ⟨(base mRun).modFab fun f => { f with pillarOff := [pillarAddr 127 3135 31] }, pillarAddr 127 3135 31,
      by decide +kernel⟩,
    ⟨(base mRun).modFab fun f => { f with pil := [(pillarAddr 127 3135 11, 4)] }, pillarAddr 127 3135 11,
      by decide +kernel⟩,
    ⟨(base mRun).modFab fun f => { f with pil := [(pillarAddr 127 3135 11, 4)] }, pillarAddr 127 3135 11,
      by decide +kernel⟩,
    ⟨(base mRun).modFab fun f => { f with pil := [(pillarAddr 127 3135 23, 8)] }, pillarAddr 127 3135 23,
      by decide +kernel⟩,
    ⟨(base mRun).set (R.SEAM_CFG.SEAM_CLK 23) 3, 23, by decide +kernel⟩,
    ⟨(base mRun).set (R.SEAM_CFG.SEAM_CLK 23) 3, 23, 2 * seamWidth 23 - 1, by decide +kernel⟩⟩

theorem witness_FabricEventsComplete_2 :
    (∃ (s : State) (p : Fin 24) (k : Nat), k < 2 * seamWidth p ∧ (s.fab.seamFenced.contains (seamAddr p k) = true ∨
      s.get (R.SEAM_CFG.SEAM_CLK p) = 7 ∨ Config.planeDrives (s.frames (seamDriver p k)) (seamAddr p k) = false)) ∧
    (∃ (s : State) (p : Fin 24) (k : Nat), k < 2 * seamWidth p ∧ s.seamRuns p = false) :=
  ⟨⟨(base mRun).set (R.SEAM_CFG.SEAM_CLK 23) 7, 23, 2 * seamWidth 23 - 1, by decide +kernel⟩,
    ⟨((base mRun).set (R.SEAM_CFG.SEAM_CLK 23) 3).set R.CLK_LOCK.LOCK 0, 23, 2 * seamWidth 23 - 1, by decide +kernel⟩⟩

theorem witness_BlockMemoryPortsAgree :
    (∃ (s : State) (m : Fin 12288) (a : BmIn) (b : BmIn), let ca := s.bmCfg m 0; let cb := s.bmCfg m 1; (s.get
      (R.BM_STAT.CODE m) < 3 ∧ s.fab.writes = true ∧ s.flag (R.BM_STAT.CLR_BUSY m) = false ∧ a.en = true ∧
      a.clr = false ∧ b.en = true ∧ b.we = 0) ∧ s.portRuns m 0 = true ∧ s.portRuns m 1 = true ∧ bmMask ca a ≠ 0 ∧
      bmRow ca a = bmRow cb b) ∧
    (∃ (s : State) (m : Fin 12288) (a : BmIn) (b : BmIn), let ca := s.bmCfg m 0; let cb := s.bmCfg m 1; (s.get
      (R.BM_STAT.CODE m) < 3 ∧ s.fab.writes = true ∧ s.flag (R.BM_STAT.CLR_BUSY m) = false ∧ a.en = true ∧
      a.clr = false ∧ b.en = true) ∧ s.portRuns m 0 = true ∧ s.portRuns m 1 = true ∧ bmMask ca a ≠ 0 ∧ bmRow ca
      a = bmRow cb b) :=
  ⟨⟨bm95, 12287, bmWrites, bmReads, by decide +kernel, (bm95_runs 0), (bm95_runs 1), (mask_writes _), (by rw
      [row_zero _ _ rfl, row_zero _ _ rfl])⟩,
    ⟨bm95, 12287, bmWrites, bmWrites, by decide +kernel, (bm95_runs 0), (bm95_runs 1), (mask_writes _), (by rw
      [row_zero _ _ rfl, row_zero _ _ rfl])⟩⟩

theorem witness_UnwrittenRowReadsZeroAndIsWrittenWhole :
    (∃ (s : State) (m : Fin 12288) (p : Fin 2) (i : BmIn), let c := s.bmCfg m p; (s.get (R.BM_STAT.CODE m) ≠ 3 ∧
      i.en = true ∧ i.clr = false ∧ i.we = 0) ∧ s.portRuns m p = true ∧ lookup s.bm.rows (1024 * m.val + bmRow c
      i) = none) ∧
    (∃ (s : State) (m : Fin 12288) (p : Fin 2) (i : BmIn), let c := s.bmCfg m p; (s.get (R.BM_STAT.CODE m) ≠ 3 ∧
      i.en = true ∧ i.clr = false ∧ s.fab.writes = true ∧ s.flag (R.BM_STAT.CLR_BUSY m) = false) ∧ s.portRuns m
      p = true ∧ lookup s.bm.rows (1024 * m.val + bmRow c i) = none ∧ bmMask c i ≠ 0) :=
  ⟨⟨bm95, 12287, 1, bmReads, by decide +kernel, (bm95_runs 1), (rfl)⟩,
    ⟨bm95, 12287, 1, bmWrites, by decide +kernel, (bm95_runs 1), (rfl), (mask_writes _)⟩⟩

theorem witness_PortAccessWritesOnlyItsRow :
    (∃ (s : State) (t : State) (m : Fin 12288) (pa : Option BmIn) (pb : Option BmIn), exec (.bmPortAccess m pa pb)
      s = .next t) ∧
    (∃ (s : State) (t : State) (m : Fin 12288) (pa : Option BmIn) (pb : Option BmIn) (key : _), exec (.bmPortAccess m
      pa pb) s = .next t ∧ (∀ a, pa = some a → key = 1024 * m.val + bmRow (s.bmCfg m 0) a → bmMask (s.bmCfg m 0)
      a = 0 ∨ s.fab.writes = false) ∧ (∀ a, pb = some a → key = 1024 * m.val + bmRow (s.bmCfg m 1) a → bmMask
      (s.bmCfg m 1) a = 0 ∨ s.fab.writes = false)) :=
  ⟨⟨bm95, nextOf (exec (.bmPortAccess (12287 : Fin 12288) (some bmWrites) (none)) (bm95)) (bm95), 12287, some
      bmWrites, none, (next_nextOf (bm_next _ _ _ _))⟩,
    ⟨bm95, nextOf (exec (.bmPortAccess (12287 : Fin 12288) (some bmWrites) (none)) (bm95)) (bm95), 12287, some
      bmWrites, none, 1024 * 12287 + 1023, (next_nextOf (bm_next _ _ _ _)), (fun _ h k => apart _ h k), (fun _ h =>
      by cases h)⟩⟩

theorem witness_ArithmeticBlockMultipliesAndAdds :
    (∃ (s : State) (r : Fin 128) (k : Fin 160) (i : AbIn), let cfg := s.abCfg r k; (i.rst = false ∧ s.hardRuns
      r = true) ∧ s.acted (16 * r.val + cfg.net) cfg.falling = true) :=
  ⟨hard127 (base mRun), 127, 159, ⟨8388608, 8388608, 8388608, 5, true, false, 3, true, true, true, true, false⟩,
    by decide +kernel, (acts_all _ _)⟩

theorem witness_BulkClearAndHardBlockCommandsComplete :
    (∃ (s : State) (m : Fin 12288), s.get (R.BM_STAT.CODE m) ≠ 3 ∧ s.portRuns m 0 = true) ∧
    (∃ (s : State) (m : Fin 12288), s.flag (R.BM_STAT.CLR_BUSY m) = true) ∧
    (∃ (s : State) (m : Fin 12288), s.up = true ∧ s.bmInUse m = false) ∧
    (∃ (s : State) (m : Fin 12288), s.up = true ∧ s.bmInUse m = true) ∧
    (∃ (mb : Fin 16) (s : State) (r : _) (m : _), s.serves mb 0x0380 [(1, r), (1, m)] ∧ r < 128 ∧ m < 96 ∧
      s.test.busy.contains r = false ∧ s.bmInUse (96 * r + m) = false) ∧
    (∃ (mb : Fin 16) (s : State) (r : _) (m : _), s.serves mb 0x0380 [(1, r), (1, m)] ∧ r < 128 ∧ m < 96 ∧
      s.test.busy.contains r = false ∧ s.bmInUse (96 * r + m) = true) ∧
    (∃ (mb : Fin 16) (s : State) (r : _), let all := (List.range 96).map (96 * r + ·); s.serves mb 0x0380 [(1, r),
      (1, 255)] ∧ r < 128 ∧ s.test.busy.contains r = false ∧ all.any s.bmInUse = false) ∧
    (∃ (mb : Fin 16) (s : State) (r : _), let all := (List.range 96).map (96 * r + ·); s.serves mb 0x0380 [(1, r),
      (1, 255)] ∧ r < 128 ∧ s.test.busy.contains r = false ∧ all.any s.bmInUse = true) ∧
    (∃ (mb : Fin 16) (s : State) (r : _) (first : _) (count : _), s.serves mb 0x0381 [(1, r), (1, first), (1, count)]
      ∧ r < 128 ∧ 1 ≤ count ∧ count ≤ 16 ∧ first + count ≤ 96 ∧ s.test.busy.contains r = false) ∧
    (∃ (mb : Fin 16) (s : State) (r : _), s.serves mb 0x0382 [(1, r), (1, 0)] ∧ r < 128) ∧
    (∃ (mb : Fin 16) (s : State) (r : _), s.serves mb 0x0382 [(1, r), (1, 1)] ∧ r < 128) :=
  ⟨⟨bm95, 12287, by decide +kernel, (bm95_runs 0)⟩,
    ⟨(base mRun).set (R.BM_STAT.CLR_BUSY 12287) 1, 12287, by decide +kernel⟩,
    ⟨base mRun, 12287, by decide +kernel⟩,
    ⟨bm95, 12287, by decide +kernel⟩,
    ⟨0, asks 0x0380 (pack [(1, (127)), (1, (95))]) (base mRun), 127, 95, by decide +kernel⟩,
    ⟨0, asks 0x0380 (pack [(1, (127)), (1, (95))]) (bm95), 127, 95, by decide +kernel⟩,
    ⟨0, asks 0x0380 (pack [(1, (127)), (1, 255)]) (base mRun), 127, by decide +kernel⟩,
    ⟨0, asks 0x0380 (pack [(1, (127)), (1, 255)]) (bm95), 127, by decide +kernel⟩,
    ⟨0, asks 0x0381 (pack [(1, (127)), (1, (80)), (1, (16))]) (base mRun), 127, 80, 16, by decide +kernel⟩,
    ⟨0, asks 0x0382 (pack [(1, (127)), (1, 0)]) (base mRun), 127, by decide +kernel⟩,
    ⟨0, asks 0x0382 (pack [(1, (127)), (1, 1)]) (base mRun), 127, by decide +kernel⟩⟩

theorem witness_SwapExchangesPlaneAndState :
    (∃ (s : State) (r : Fin 128) (port : Option (Fin 4)) (got : Bool) (x : SwapSrc) (q : Nat), (s.ctxR r).edge = true ∧
      s.hasActive r = true ∧ (s.ctxR r).inSwap = false ∧ (s.ctxR r).c1 ≠ 2 ∧ s.requests r port got = [(x, q)] ∧ q < 4 ∧
      q ≠ s.activePlane r ∧ s.activePlane r < 4 ∧ s.swapReason r q
      (match x with | .host _ => true | _ => false) = none ∧ (s.ctxR r).ow = 0 ∧ sorted (s.plane r q).shadow = true) :=
  ⟨(twoPlanes 127 (base mRun)).modCtx 127 fun c => { c with host := some (5, 1) }, 127, none, true, .host 5, 1,
    by decide +kernel⟩

theorem witness_ContextEventsComplete :
    (∃ (s : State) (r : Fin 128), (s.ctxR r).inSwap = true ∧ s.passesNext (s.ctxNet r) = true) ∧
    (∃ (s : State) (r : Fin 128) (n : _) (q : _), (s.ctxR r).host = some (n, q)) ∧
    (∃ (s : State) (r : Fin 128) (n : _) (q : _), (s.ctxR r).host = some (n, q) ∧ (s.ctxR r).sets = [] ∧ s.clocked
      9 = true ∧ s.swapReason r q true = none ∧ (s.ctxR r).edge = true ∧ s.hasActive r = true ∧ (s.ctxR
      r).inSwap = false ∧ (s.ctxR r).c1 ≠ 2) ∧
    (∃ (s : State) (r : Fin 128) (k : _) (q : _) (t : _) (rest : _), (s.ctxR r).sets = (k, q, t) :: rest ∧
      16 ≤ s.since t ∧ (∀ e ∈ rest, s.since e.2.2 < 16) ∧ (s.ctxR r).rotStart = none) ∧
    (∃ (s : State) (r : Fin 128) (t : _), (s.ctxR r).sets = [] ∧ (s.ctxR r).rotStart = some t ∧ t ≠ 0 ∧
      s.clk.running = true ∧ tickLater t s.clk.tick = false ∧ 16 ≤ s.since t) ∧
    (∃ (s : State) (k : Fin 16), s.up = true ∧ s.flag (R.SWAP_CTL.ARMED k) = true) ∧
    (∃ (s : State) (k : Fin 16), s.up = true ∧ s.flag (R.SWAP_CTL.ARMED k) = false) ∧
    (∃ (s : State) (r : Fin 128), (s.ctxR r).edge = true ∧ s.flag (R.CTX_CFG.ROT_EN r) = true ∧ (s.ctxR
      r).inSwap = false ∧ (¬ (s.runClass = true ∧ s.borderCause r < 2))) ∧
    (∃ (s : State) (r : Fin 128) (got : Bool) (t : _), (s.ctxR r).edge = true ∧ s.flag (R.CTX_CFG.ROT_EN r) = true ∧
      (s.ctxR r).inSwap = false ∧ s.runClass = true ∧ s.borderCause r < 2 ∧ s.flag (R.CTX_STAT.ROTATING r) = false ∧
      (s.ctxR r).rotStart = some t ∧ ((t = 0 ∧ got = true) ∨ (t ≠ 0 ∧ (got = true ∨ s.ctxAligned r = true) ∧
      s.clk.running = true ∧ tickLater t s.clk.tick = false ∧ s.since t < 16)) ∧ (∀ q ∈ s.rotOrder r, s.swapReason r
      q false = none)) ∧
    (∃ (s : State) (r : Fin 128) (got : Bool) (t : _), (s.ctxR r).edge = true ∧ s.flag (R.CTX_CFG.ROT_EN r) = true ∧
      (s.ctxR r).inSwap = false ∧ s.runClass = true ∧ s.borderCause r < 2 ∧ s.flag (R.CTX_STAT.ROTATING r) = false ∧
      (s.ctxR r).rotStart = some t ∧ got = false ∧ (t = 0 ∨ s.ctxAligned r = false)) ∧
    (∃ (s : State) (r : Fin 128), (s.ctxR r).edge = true ∧ s.flag (R.CTX_CFG.ROT_EN r) = true ∧ (s.ctxR
      r).inSwap = false ∧ s.runClass = true ∧ s.borderCause r < 2 ∧ s.flag (R.CTX_STAT.ROTATING r) = true ∧ (s.ctxR
      r).rotPos + 1 < (s.rotOrder r).length) ∧
    (∃ (s : State) (r : Fin 128), ((s.ctxR r).edge = true ∧ s.flag (R.CTX_CFG.ROT_EN r) = true ∧ (s.ctxR
      r).inSwap = false ∧ s.runClass = true ∧ s.borderCause r < 2 ∧ s.flag (R.CTX_STAT.ROTATING r) = true ∧
      (s.rotOrder r).length = (s.ctxR r).rotPos + 1) ∧ (∀ q, (s.ctxR r).rotStop ≠ some (q, true))) ∧
    (∃ (s : State) (r : Fin 128) (q : _), (s.ctxR r).edge = true ∧ s.flag (R.CTX_CFG.ROT_EN r) = true ∧ (s.ctxR
      r).inSwap = false ∧ s.runClass = true ∧ s.borderCause r < 2 ∧ s.flag (R.CTX_STAT.ROTATING r) = true ∧
      (s.rotOrder r).length = (s.ctxR r).rotPos + 1 ∧ (s.ctxR r).rotStop = some (q, true)) :=
  ⟨⟨(twoPlanes 127 (base mRun)).modCtx 127 fun c => { c with inSwap := true }, 127, by decide +kernel⟩,
    ⟨(twoPlanes 127 (base mRun)).modCtx 127 fun c => { c with host := some (5, 1) }, 127, 5, 1, by decide +kernel⟩,
    ⟨(twoPlanes 127 (base mRun)).modCtx 127 fun c => { c with host := some (5, 1) }, 127, 5, 1, by decide +kernel⟩,
    ⟨(twoPlanes 127 (base mRun)).modCtx 127 fun c => { c with sets := [(15, 1, 984)] }, 127, 15, 1, 984, ([] : List
      (Nat × Nat × Nat)), by decide +kernel⟩,
    ⟨(twoPlanes 127 (base mRun)).modCtx 127 fun c => { c with rotStart := some 984 }, 127, 984, by decide +kernel⟩,
    ⟨(base mRun).set (R.SWAP_CTL.ARMED 15) 1, 15, by decide +kernel⟩,
    ⟨base mRun, 15, by decide +kernel⟩,
    ⟨(((twoPlanes 127 (base mSafe)).set (R.CTX_CFG.ROT_EN 127) 1).set (R.CTX_CFG.ROT_LEN 127) 1).set
      (R.CTX_CFG.ROT_ORDER 127) 4, 127, by decide +kernel⟩,
    ⟨((((twoPlanes 127 (base mRun)).set (R.CTX_CFG.ROT_EN 127) 1).set (R.CTX_CFG.ROT_LEN 127) 1).set
      (R.CTX_CFG.ROT_ORDER 127) 4).modCtx 127 fun c => { c with rotStart := some 0 }, 127, true, 0, by decide +kernel⟩,
    ⟨((((twoPlanes 127 (base mRun)).set (R.CTX_CFG.ROT_EN 127) 1).set (R.CTX_CFG.ROT_LEN 127) 1).set
      (R.CTX_CFG.ROT_ORDER 127) 4).modCtx 127 fun c => { c with rotStart := some 0 }, 127, false, 0, by decide +kernel⟩,
    ⟨(((((twoPlanes 127 (base mRun)).set (R.CTX_CFG.ROT_EN 127) 1).set (R.CTX_CFG.ROT_LEN 127) 1).set
      (R.CTX_CFG.ROT_ORDER 127) 4).set (R.CTX_STAT.ROTATING 127) 1), 127, by decide +kernel⟩,
    ⟨(((((twoPlanes 127 (base mRun)).set (R.CTX_CFG.ROT_EN 127) 1).set (R.CTX_CFG.ROT_LEN 127) 1).set
      (R.CTX_CFG.ROT_ORDER 127) 4).set (R.CTX_STAT.ROTATING 127) 1).modCtx 127 fun c => { c with rotPos := 1 }, 127,
      by decide +kernel, (fun _ h => by cases (show (none : Option (Nat × Bool)) = some _ from h))⟩,
    ⟨(((((twoPlanes 127 (base mRun)).set (R.CTX_CFG.ROT_EN 127) 1).set (R.CTX_CFG.ROT_LEN 127) 1).set
      (R.CTX_CFG.ROT_ORDER 127) 4).set (R.CTX_STAT.ROTATING 127) 1).modCtx 127 fun c =>
      { c with rotPos := 1, rotStop := some (1, true) }, 127, 1, by decide +kernel⟩⟩

theorem witness_ContextEventsComplete_2 :
    (∃ (s : State) (r : Fin 128) (portReq : Bool) (atSwap : Bool),
      let port := portReq && (if atSwap then (s.ctxR r).portWas else s.flag (R.CTX_CFG.PORT_EN r)) && s.fab.writes;
      let p := if atSwap then (s.ctxR r).swapFrom else s.activePlane r; (if atSwap then (s.ctxR r).inSwap else
      (s.ctxR r).edge) = true ∧ s.hasActive r = true ∧ (port = true ∨ (s.ctxR r).capReq.isSome = true) ∧ s.capBarred
      r p = true) ∧
    (∃ (s : State) (r : Fin 128) (portReq : Bool) (atSwap : Bool),
      let port := portReq && (if atSwap then (s.ctxR r).portWas else s.flag (R.CTX_CFG.PORT_EN r)) && s.fab.writes;
      let p := if atSwap then (s.ctxR r).swapFrom else s.activePlane r; (if atSwap then (s.ctxR r).inSwap else
      (s.ctxR r).edge) = true ∧ s.hasActive r = true ∧ (port = true ∨ (s.ctxR r).capReq.isSome = true) ∧ s.capBarred
      r p = false ∧ s.flag (R.CAP_STAT.FULL r) = true) ∧
    (∃ (s : State) (r : Fin 128) (portReq : Bool) (atSwap : Bool),
      let port := portReq && (if atSwap then (s.ctxR r).portWas else s.flag (R.CTX_CFG.PORT_EN r)) && s.fab.writes;
      let p := if atSwap then (s.ctxR r).swapFrom else s.activePlane r; (if atSwap then (s.ctxR r).inSwap else
      (s.ctxR r).edge) = true ∧ s.hasActive r = true ∧ (port = true ∨ (s.ctxR r).capReq.isSome = true) ∧ s.capBarred
      r p = false ∧ s.flag (R.CAP_STAT.FULL r) = false) ∧
    (∃ (s : State) (r : Fin 128) (q : Fin 4) (k : _), (s.ctxR r).edge = true ∧ s.hasActive r = true ∧ (s.ctxR
      r).inSwap = false ∧ s.flag (R.CTX_CFG.PORT_EN r) = true ∧ s.fab.writes = true ∧ (s.ctxR r).c1 ≠ 2 ∧ (s.ctxR
      r).sets = [] ∧ (s.ctxR r).host = none ∧ s.swapReason r q false = some k) ∧
    (∃ (s : State) (r : Fin 128), (s.ctxR r).edge = true ∧ s.hasActive r = true ∧ (s.ctxR r).inSwap = false ∧ s.flag
      (R.CTX_CFG.PORT_EN r) = true ∧ s.fab.writes = true ∧ (s.ctxR r).c1 = 2) :=
  ⟨⟨(((twoPlanes 127 (base mRun)).modCtx 127 fun c => { c with inSwap := true, portWas := true }).modPlane 127 0 fun
      p => { p with prot := true }).set R.SEC_PROT.DBG_READ 0, 127, true, true, by decide +kernel⟩,
    ⟨((twoPlanes 127 (base mRun)).set (R.CTX_CFG.PORT_EN 127) 1).set (R.CAP_STAT.FULL 127) 1, 127, true, false,
      by decide +kernel⟩,
    ⟨((twoPlanes 127 (base mRun)).set (R.CTX_CFG.PORT_EN 127) 1), 127, true, false, by decide +kernel⟩,
    ⟨((twoPlanes 127 (base mRun)).set (R.CTX_CFG.PORT_EN 127) 1), 127, 2, 1, by decide +kernel⟩,
    ⟨((twoPlanes 127 (base mRun)).set (R.CTX_CFG.PORT_EN 127) 1).modCtx 127 fun c => { c with c1 := 2 }, 127,
      by decide +kernel⟩⟩

theorem witness_ContextCommandsComplete :
    (∃ (mb : Fin 16) (s : State) (r : _), s.serves mb 0x0220 [(1, r)] ∧ r < 128 ∧ s.test.busy.contains r = false) ∧
    (∃ (mb : Fin 16) (s : State) (r : _) (p : _), s.serves mb 0x0221 [(1, 0), (1, r), (1, p)] ∧ r < 128 ∧ p < 4 ∧
      s.test.busy.contains r = false ∧ s.test.busy.contains (1024 + 4 * r + p) = false ∧ s.runClass = true ∧ (s.ctxR
      r).host = none) ∧
    (∃ (mb : Fin 16) (s : State) (r : _) (p : _), s.serves mb 0x0221 [(1, 0), (1, r), (1, p)] ∧ r < 128 ∧ p < 4 ∧
      s.test.busy.contains r = false ∧ s.test.busy.contains (1024 + 4 * r + p) = false ∧ s.runClass = false) ∧
    (∃ (mb : Fin 16) (s : State) (k : _) (tick : _), s.serves mb 0x0221 [(1, 1), (1, k), (6, tick)] ∧ k < 16 ∧
      s.tickAhead tick = true ∧ (∀ e ∈ s.clk.sched, ¬ ((e.2.st = 1 ∨ e.2.st = 4) ∧ e.2.tick = tick ∧ e.2.action = 1 ∧
      e.2.target = 0)) ∧ (∀ e ∈ s.setMembers k, s.test.busy.contains e.1 = false) ∧ s.freeHandles ≠ []) ∧
    (∃ (mb : Fin 16) (s : State) (k : _) (a : _) (m : _) (ps : _), s.serves mb 0x0222 [(1, k), (1, a), (16, m), (32,
      ps)] ∧ k < 16 ∧ a < 2 ∧ (∀ r < 128, m.testBit r = true → s.test.busy.contains r = false) ∧ s.flag
      (R.SWAP_CTL.ARMED k) = true) ∧
    (∃ (mb : Fin 16) (s : State) (k : _) (a : _) (m : _) (ps : _), s.serves mb 0x0222 [(1, k), (1, a), (16, m), (32,
      ps)] ∧ k < 16 ∧ a < 2 ∧ (∀ r < 128, m.testBit r = true → s.test.busy.contains r = false) ∧ s.flag
      (R.SWAP_CTL.ARMED k) = false) ∧
    (∃ (mb : Fin 16) (s : State) (r : _) (p : _), s.serves mb 0x0223 [(1, r), (1, p)] ∧ r < 128 ∧ p < 4 ∧
      s.test.busy.contains r = false ∧ s.test.busy.contains (1024 + 4 * r + p) = false ∧ s.rotates r p = false ∧
      s.armedPlane r p = false ∧ s.planeState r p = psHood ∧ s.ctxRuns r = false) ∧
    (∃ (mb : Fin 16) (s : State) (r : _) (p : _), s.serves mb 0x0223 [(1, r), (1, p)] ∧ r < 128 ∧ p < 4 ∧
      s.test.busy.contains r = false ∧ s.test.busy.contains (1024 + 4 * r + p) = false ∧ s.rotates r p = false ∧
      s.armedPlane r p = false ∧ s.planeState r p = psHood ∧ s.ctxRuns r = true) ∧
    (∃ (mb : Fin 16) (s : State) (r : _) (order : List (Fin 4)) (arg : _), s.serves mb 0x0224 ([(1, r), (1, 1), (1,
      order.length)] ++ order.map (fun q => (1, q.val)) ++ [(6, arg)]) ∧ r < 128 ∧ s.test.busy.contains r = false ∧
      2 ≤ order.length ∧ order.length ≤ 4 ∧ (arg = 0 ∨ s.tickAhead arg = true) ∧ s.ctxTooFast r = false ∧ (∀
      q ∈ order, s.planeState r q.val = psHood ∨ s.planeState r q.val = psActive) ∧ s.flag (R.CTX_CFG.ROT_EN
      r) = false ∧ s.runClass = true ∧ s.borderCause r < 2) ∧
    (∃ (mb : Fin 16) (s : State) (r : _) (q : _), s.serves mb 0x0224 [(1, r), (1, 0), (1, q)] ∧ r < 128 ∧
      s.test.busy.contains r = false ∧ q < 4 ∧ s.flag (R.CTX_STAT.ROTATING r) = true ∧ q ∈ s.rotOrder r) ∧
    (∃ (mb : Fin 16) (s : State) (r : _) (p : _), s.serves mb 0x0225 [(1, r), (1, p)] ∧ r < 128 ∧ p < 4 ∧
      s.test.busy.contains r = false ∧ s.test.busy.contains (1024 + 4 * r + p) = false ∧ s.capBarred r p = false ∧
      s.flag (R.CAP_STAT.FULL r) = false ∧ s.planeState r p ≠ psActive) ∧
    (∃ (mb : Fin 16) (s : State) (r : _) (p : _), s.serves mb 0x0225 [(1, r), (1, p)] ∧ r < 128 ∧ p < 4 ∧
      s.test.busy.contains r = false ∧ s.test.busy.contains (1024 + 4 * r + p) = false ∧ s.capBarred r p = false ∧
      s.flag (R.CAP_STAT.FULL r) = false ∧ s.planeState r p = psActive ∧ (s.mode = mSafe ∨ s.mode = mQuiescent)) :=
  ⟨⟨0, asks 0x0220 (pack [(1, (127))]) (base mRun), 127, by decide +kernel⟩,
    ⟨0, asks 0x0221 (pack [(1, 0), (1, (127)), (1, (3))]) (base mRun), 127, 3, by decide +kernel⟩,
    ⟨0, asks 0x0221 (pack [(1, 0), (1, (127)), (1, (3))]) (base mSafe), 127, 3, by decide +kernel⟩,
    ⟨0, asks 0x0221 (pack [(1, 1), (1, (15)), (6, (1017))]) (base mRun), 15, 1017, by decide +kernel⟩,
    ⟨0, asks 0x0222 (pack [(1, (15)), (1, (1)), (16, (1)), (32, (1))]) ((base mRun).set (R.SWAP_CTL.ARMED 15) 1), 15,
      1, 1, 1, by decide +kernel⟩,
    ⟨0, asks 0x0222 (pack [(1, (15)), (1, (1)), (16, (2 ^ 128 - 1)), (32, (2 ^ 256 - 1))]) (base mRun), 15, 1, 2 ^
      128 - 1, 2 ^ 256 - 1, by decide +kernel⟩,
    ⟨0, asks 0x0223 (pack [(1, (127)), (1, (1))]) ((twoPlanes 127 (base mRun)).set (R.RCN_CFG.RUNNING 2032) 0), 127,
      1, by decide +kernel⟩,
    ⟨0, asks 0x0223 (pack [(1, (127)), (1, (1))]) ((twoPlanes 127 (base mRun))), 127, 1, by decide +kernel⟩,
    ⟨0, asks 0x0224 (pack ([(1, (127)), (1, 1), (1, (([0, 1] : List (Fin 4))).length)] ++ (([0, 1] : List (Fin
      4))).map (fun q => (1, q.val)) ++ [(6, (0))])) ((twoPlanes 127 (base mRun))), 127, ([0, 1] : List (Fin 4)), 0,
      by decide +kernel⟩,
    ⟨0, asks 0x0224 (pack [(1, (127)), (1, 0), (1, (1))]) ((((((twoPlanes 127 (base mRun)).set (R.CTX_CFG.ROT_EN 127)
      1).set (R.CTX_CFG.ROT_LEN 127) 1).set (R.CTX_CFG.ROT_ORDER 127) 4).set (R.CTX_STAT.ROTATING 127) 1)), 127, 1,
      by decide +kernel⟩,
    ⟨0, asks 0x0225 (pack [(1, (127)), (1, (1))]) ((twoPlanes 127 (base mRun))), 127, 1, by decide +kernel⟩,
    ⟨0, asks 0x0225 (pack [(1, (127)), (1, (0))]) ((twoPlanes 127 (base mSafe))), 127, 0, by decide +kernel⟩⟩

theorem witness_ContextCommandsComplete_2 :
    (∃ (mb : Fin 16) (s : State) (r : _) (p : _), s.serves mb 0x0225 [(1, r), (1, p)] ∧ r < 128 ∧ p < 4 ∧
      s.test.busy.contains r = false ∧ s.test.busy.contains (1024 + 4 * r + p) = false ∧ s.capBarred r p = false ∧
      s.flag (R.CAP_STAT.FULL r) = false ∧ s.planeState r p = psActive ∧ (¬ (s.mode = mSafe ∨ s.mode = mQuiescent)) ∧
      (s.ctxR r).capReq = none) ∧
    (∃ (mb : Fin 16) (s : State) (r : _), s.serves mb 0x0226 [(1, r)] ∧ r < 128 ∧ s.test.busy.contains r = false) :=
  ⟨⟨0, asks 0x0225 (pack [(1, (127)), (1, (0))]) ((twoPlanes 127 (base mRun))), 127, 0, by decide +kernel⟩,
    ⟨0, asks 0x0226 (pack [(1, (127))]) (base mRun), 127, by decide +kernel⟩⟩

theorem witness_BankCycleServesInTurn :
    (∃ (s : State) (b : Fin 256) (r : Nat) (q : CpWait), s.up = true ∧ s.clocked (5 + bankDie b) = true ∧ s.portCands
      b = [(r, q)] ∧ s.nocCands b = [] ∧ s.spillDue b = false ∧ q.dead = false ∧ s.bankCode b ≠ 3 ∧ (s.bank
      b).seq = none ∧ s.judgePort b r q = .serve ∧ q.op = 0) ∧
    (∃ (s : State) (b : Fin 256) (r : Nat) (q : CpWait), s.up = true ∧ s.clocked (5 + bankDie b) = true ∧ s.portCands
      b = [(r, q)] ∧ s.nocCands b = [] ∧ s.spillDue b = false ∧ q.dead = false ∧ s.bankCode b ≠ 3 ∧ (s.bank
      b).seq = none ∧ s.judgePort b r q = .refuse 4) ∧
    (∃ (s : State) (b : Fin 256) (x : Cand) (y : Cand) (own : List Cand) (oth : List Cand),
      let u := acceptAll b (refuseAll b (passCycle b s)); s.up = true ∧ s.clocked (5 + bankDie b) = true ∧ u.cands
      b = (x :: own, y :: oth) ∧ twinBank b = false ∧ (s.bank b).cyc = 15) ∧
    (∃ (s : State) (b : Fin 256) (x : Cand) (y : Cand) (own : List Cand) (oth : List Cand),
      let u := acceptAll b (refuseAll b (passCycle b s)); s.up = true ∧ s.clocked (5 + bankDie b) = true ∧ u.cands
      b = (x :: own, y :: oth) ∧ twinBank b = false ∧ (s.bank b).cyc ≠ 15) ∧
    (∃ (s : State) (b : Fin 256) (x : Cand) (y : Cand) (own : List Cand) (oth : List Cand),
      let u := acceptAll b (refuseAll b (passCycle b s)); s.up = true ∧ s.clocked (5 + bankDie b) = true ∧ u.cands
      b = (x :: own, y :: oth) ∧ twinBank b = true) ∧
    (∃ (s : State) (t : State) (b : Fin 256) (r : Nat) (q : CpWait), (s.up = true ∧ s.clocked (5 + bankDie b) = true
      ∧ s.portCands b = [(r, q)] ∧ s.nocCands b = [] ∧ s.spillDue b = false ∧ s.bankCode b < 3 ∧ (s.bank
      b).seq = none ∧ s.judgePort b r q = .serve ∧ q.op = 1 ∧ q.le = 2 ^ 128 - 1) ∧ exec (.bankCycle b) s = .next t) ∧
    (∃ (s : State) (t : State) (b : Fin 256) (r : Nat) (q : CpWait) (key : _), (s.up = true ∧ s.clocked (5 + bankDie
      b) = true ∧ s.portCands b = [(r, q)] ∧ s.nocCands b = [] ∧ s.spillDue b = false ∧ s.bankCode b < 3 ∧ (s.bank
      b).seq = none ∧ s.judgePort b r q = .serve ∧ q.op = 1 ∧ key ≠ rowKey b q.row) ∧ exec (.bankCycle b) s = .next
      t) ∧
    (∃ (s : State) (t : State) (b : Fin 256) (r : Nat) (q : CpWait), (s.up = true ∧ s.clocked (5 + bankDie b) = true
      ∧ s.portCands b = [(r, q)] ∧ s.nocCands b = [] ∧ s.spillDue b = false ∧ s.bankCode b < 3 ∧ (s.bank
      b).seq = none ∧ s.judgePort b r q = .serve ∧ q.op = 1) ∧ exec (.bankCycle b) s = .next t) :=
  ⟨⟨((base mRun).set (R.BANK_OWN.OWNER 255) 127).modPort 127 fun p =>
      { p with reqs := [⟨0, 255, 16383, 0, 0, 63, 3, false⟩] }, 255, 127, ⟨0, 255, 16383, 0, 0, 63, 3, false⟩,
      by decide +kernel⟩,
    ⟨((base mRun).set (R.BANK_OWN.OWNER 255) 126).modPort 127 fun p =>
      { p with reqs := [⟨0, 255, 16383, 0, 0, 63, 3, false⟩] }, 255, 127, ⟨0, 255, 16383, 0, 0, 63, 3, false⟩,
      by decide +kernel⟩,
    ⟨(((((base mRun).set (R.BANK_OWN.OWNER 255) 127).set (R.BANK_CFG.NOC_ACC 255) 1).modBank' 255 fun k =>
      { k with cyc := 15 }).modPort 127 fun p => { p with reqs := [⟨0, 255, 16383, 0, 0, 63, 3, false⟩] }).modNoc fun
      n => { n with rx := [(143, [(pk 0 0 143 (255 * 2 ^ 22) 8 [])])] }, 255, .port 127 ⟨0, 255, 16383, 0, 0, 63, 3,
      false⟩, .noc 143 (pk 0 0 143 (255 * 2 ^ 22) 8 []), [], [], by decide +kernel⟩,
    ⟨(((((base mRun).set (R.BANK_OWN.OWNER 255) 127).set (R.BANK_CFG.NOC_ACC 255) 1).modBank' 255 fun k =>
      { k with cyc := 14 }).modPort 127 fun p => { p with reqs := [⟨0, 255, 16383, 0, 0, 63, 3, false⟩] }).modNoc fun
      n => { n with rx := [(143, [(pk 0 0 143 (255 * 2 ^ 22) 8 [])])] }, 255, .port 127 ⟨0, 255, 16383, 0, 0, 63, 3,
      false⟩, .noc 143 (pk 0 0 143 (255 * 2 ^ 22) 8 []), [], [], by decide +kernel⟩,
    ⟨(((((base mRun).set (R.BANK_OWN.OWNER 195) 127).set (R.BANK_CFG.NOC_ACC 195) 1).modBank' 195 fun k =>
      { k with cyc := 3 }).modPort 127 fun p => { p with reqs := [⟨0, 195, 16383, 0, 0, 63, 3, false⟩] }).modNoc fun
      n => { n with rx := [(140, [(pk 0 0 140 (195 * 2 ^ 22) 8 [])])] }, 195, .port 127 ⟨0, 195, 16383, 0, 0, 63, 3,
      false⟩, .noc 140 (pk 0 0 140 (195 * 2 ^ 22) 8 []), [], [], by decide +kernel⟩,
    ⟨((base mRun).set (R.BANK_OWN.OWNER 255) 127).modPort 127 fun p =>
      { p with reqs := [⟨1, 255, 16383, 2 ^ 128 - 1, 2 ^ 1664 - 1, 63, 3, false⟩] }, nextOf (exec (.bankCycle (255 :
      Fin 256)) (((base mRun).set (R.BANK_OWN.OWNER 255) 127).modPort 127 fun p =>
      { p with reqs := [⟨1, 255, 16383, 2 ^ 128 - 1, 2 ^ 1664 - 1, 63, 3, false⟩] })) (((base mRun).set
      (R.BANK_OWN.OWNER 255) 127).modPort 127 fun p =>
      { p with reqs := [⟨1, 255, 16383, 2 ^ 128 - 1, 2 ^ 1664 - 1, 63, 3, false⟩] }), 255, 127, ⟨1, 255, 16383, 2 ^
      128 - 1, 2 ^ 1664 - 1, 63, 3, false⟩, by decide +kernel, (next_nextOf (by decide +kernel))⟩,
    ⟨((base mRun).set (R.BANK_OWN.OWNER 255) 127).modPort 127 fun p =>
      { p with reqs := [⟨1, 255, 16383, 1, 2 ^ 8 - 1, 63, 3, false⟩] }, nextOf (exec (.bankCycle (255 : Fin 256))
      (((base mRun).set (R.BANK_OWN.OWNER 255) 127).modPort 127 fun p =>
      { p with reqs := [⟨1, 255, 16383, 1, 2 ^ 8 - 1, 63, 3, false⟩] })) (((base mRun).set (R.BANK_OWN.OWNER 255)
      127).modPort 127 fun p => { p with reqs := [⟨1, 255, 16383, 1, 2 ^ 8 - 1, 63, 3, false⟩] }), 255, 127, ⟨1, 255,
      16383, 1, 2 ^ 8 - 1, 63, 3, false⟩, rowKey 255 16382, by decide +kernel, (next_nextOf (by decide +kernel))⟩,
    ⟨((base mRun).set (R.BANK_OWN.OWNER 255) 127).modPort 127 fun p =>
      { p with reqs := [⟨1, 255, 16383, 1, 2 ^ 8 - 1, 63, 3, false⟩] }, nextOf (exec (.bankCycle (255 : Fin 256))
      (((base mRun).set (R.BANK_OWN.OWNER 255) 127).modPort 127 fun p =>
      { p with reqs := [⟨1, 255, 16383, 1, 2 ^ 8 - 1, 63, 3, false⟩] })) (((base mRun).set (R.BANK_OWN.OWNER 255)
      127).modPort 127 fun p => { p with reqs := [⟨1, 255, 16383, 1, 2 ^ 8 - 1, 63, 3, false⟩] }), 255, 127, ⟨1, 255,
      16383, 1, 2 ^ 8 - 1, 63, 3, false⟩, by decide +kernel, (next_nextOf (by decide +kernel))⟩⟩

theorem witness_HandoverGivesTheBankToItsNextOwner :
    (∃ (s : State) (b : Fin 256), s.up = true ∧ s.flag (R.BANK_OWN.GO b) = false ∧ s.handRefused b = true) ∧
    (∃ (s : State) (b : Fin 256), s.up = true ∧ s.flag (R.BANK_OWN.GO b) = false ∧ s.handRefused b = false) ∧
    (∃ (s : State) (b : Fin 256), (s.bank b).goDue = true ∧ s.clocked (5 + bankDie b) = true ∧ s.get (R.BANK_OWN.NEXT
      b) ≠ s.get (R.BANK_OWN.OWNER b)) ∧
    (∃ (s : State) (b : Fin 256), s.flag (R.BANK_OWN.PEND b) = true ∧ s.clocked (5 + bankDie b) = true ∧ s.oldRemains
      b = false) :=
  ⟨⟨(base mRun).set (R.BANK_OWN.NEXT 255) 0x190, 255, by decide +kernel⟩,
    ⟨base mRun, 255, by decide +kernel⟩,
    ⟨((base mRun).set (R.BANK_OWN.NEXT 255) 127).modBank' 255 fun k => { k with goDue := true }, 255,
      by decide +kernel⟩,
    ⟨((base mRun).set (R.BANK_OWN.NEXT 255) 127).set (R.BANK_OWN.PEND 255) 1, 255, by decide +kernel⟩⟩

theorem witness_CacheEventsComplete :
    (∃ (s : State) (r : Fin 128), s.cpReady r = true ∧ s.cpClocked r = true) ∧
    (∃ (s : State) (r : Fin 128) (x : CpResp) (l : List CpResp), s.fab.clocksOn = true ∧ s.held r = false ∧
      s.resyncing (64 + r.val) = false ∧ (s.cpPort r).resps = x :: l) ∧
    (∃ (s : State) (b : Fin 256), s.clocked (5 + bankDie b) = true) ∧
    (∃ (s : State) (b : Fin 256), s.clocked (5 + bankDie b) = true ∧ s.flag (R.BANK_STAT.CLR_BUSY b) = true ∧ (s.get
      (R.BANK_CFG.PWR b) ≠ 3 ∨ (s.bank b).acc ≠ [])) ∧
    (∃ (s : State) (b : Fin 256) (p : _), s.clocked (5 + bankDie b) = true ∧ (s.bank b).pwrTo = some p ∧ p < 3 ∧
      s.get (R.BANK_CFG.PWR b) = 3 ∧ s.bankBusy b = false) ∧
    (∃ (s : State) (b : Fin 256), s.clocked (5 + bankDie b) = true ∧ s.get (R.BANK_CFG.PWR b) = 1 ∧
      s.mode ≠ mQuiescent ∧ (s.portCands b ≠ [] ∨ s.nocCands b ≠ [] ∨ s.scrubAsks b = true ∨ (s.flag (R.SPILL_STAT.EN
      b) = true ∧ (s.bank b).uncopied ≠ 0))) ∧
    (∃ (s : State) (b : Fin 256), s.clocked (5 + bankDie b) = true ∧ s.spillDue b = true ∧ ((∀ c ∈ (s.cands b).1,
      c = .spill) ∨ twinBank b = true)) ∧
    (∃ (s : State) (b : Fin 256), s.clocked (5 + bankDie b) = true ∧ s.spillDue b = true ∧ (∃ c ∈ (s.cands b).1,
      c ≠ .spill) ∧ twinBank b = false ∧ (s.bank b).cyc = 15) ∧
    (∃ (s : State) (b : Fin 256), s.up = true ∧ s.clearDenied b = false) ∧
    (∃ (s : State) (d : Fin 4) (line : Nat) (k : Nat) (w : Nat) (p : Pkt), pageOf (2048 * line) = some k ∧ s.groupOf
      k = some d.val ∧ s.lineWay d k = none ∧ w < 12 ∧ s.rxHead (0x90 + w) = some p ∧ (pktReq p = true ∨ p.typ = 2) ∧
      pageOf (w * 2 ^ 32 + p.off + p.reqSeq) = some k ∧ s.groupBusy d = false ∧ s.held (0x98 + d.val) = false ∧
      s.held (0x9C + k / stackPages) = false) :=
  ⟨⟨hard127 (base mRun), 127, by decide +kernel, (cp_clocked)⟩,
    ⟨(base mRun).modPort 127 fun p => { p with resps := [⟨63, 3, 1, 7⟩] }, 127, ⟨63, 3, 1, 7⟩, [], by decide +kernel⟩,
    ⟨base mRun, 255, by decide +kernel⟩,
    ⟨(base mRun).set (R.BANK_STAT.CLR_BUSY 255) 1, 255, by decide +kernel⟩,
    ⟨((base mRun).set (R.BANK_CFG.PWR 255) 3).modBank' 255 fun k => { k with pwrTo := some 2 }, 255, 2,
      by decide +kernel⟩,
    ⟨(((base mRun).set (R.BANK_OWN.OWNER 255) 127).set (R.BANK_CFG.PWR 255) 1).modPort 127 fun p =>
      { p with reqs := [⟨0, 255, 16383, 0, 0, 63, 3, false⟩] }, 255, by decide +kernel⟩,
    ⟨((base mRun).set (R.SPILL_STAT.EN 255) 1).modBank' 255 fun k =>
      { k with uncopied := 2, ringSize := 1, cyc := 15 }, 255, by decide +kernel⟩,
    ⟨(((base mRun).set (R.BANK_OWN.OWNER 255) 127).modPort 127 fun p =>
      { p with reqs := [⟨0, 255, 16383, 0, 0, 63, 3, false⟩] }).set (R.SPILL_STAT.EN 255) 1 |>.modBank' 255 fun k =>
      { k with uncopied := 2, ringSize := 1, cyc := 15 }, 255, by decide +kernel⟩,
    ⟨base mRun, 255, by decide +kernel⟩,
    ⟨(((base mRun).set (R.CMODE_CFG.EN 3) 1).set (R.CMODE_CFG.SEG_CNT 3) 1).modNoc fun n =>
      { n with rx := [(0x90, [pk 2 0 0x90 0 8 []])] }, 3, 0, 0, 0, pk 2 0 0x90 0 8 [], by decide +kernel⟩⟩

theorem witness_CacheCommandsComplete :
    (∃ (mb : Fin 16) (s : State) (b : _) (n : _), s.serves mb 0x0300 [(1, b), (1, n)] ∧ b + n ≤ 256 ∧ 1 ≤ n ∧ n ≤ 16
      ∧ (∀ k < n, s.test.busy.contains (256 + (b + k)) = false)) ∧
    (∃ (mb : Fin 16) (s : State) (b : _) (o : _) (arm : _), s.serves mb 0x0301 [(1, b), (2, o), (1, arm)] ∧ arm < 2 ∧
      ownerUsed o = true ∧ (o < 128 → s.flag (R.BORDER_STAT.FENCED o) = false) ∧ s.test.busy.contains (256 +
      b) = false ∧ (s.flag (R.BANK_OWN.PEND b) = true ∨ s.flag (R.BANK_OWN.GO b) = true)) ∧
    (∃ (mb : Fin 16) (s : State) (b : _) (o : _) (arm : _), s.serves mb 0x0301 [(1, b), (2, o), (1, arm)] ∧ arm < 2 ∧
      ownerUsed o = true ∧ (o < 128 → s.flag (R.BORDER_STAT.FENCED o) = false) ∧ s.test.busy.contains (256 +
      b) = false ∧ s.flag (R.BANK_OWN.PEND b) = false ∧ s.flag (R.BANK_OWN.GO b) = false ∧ s.flag (R.BANK_CFG.LAND
      b) = false ∧ s.flag (R.BANK_CFG.CMODE b) = false ∧ s.flag (R.BANK_CFG.OFFLINE b) = false) ∧
    (∃ (mb : Fin 16) (s : State) (b : _) (c : _) (t : _), s.serves mb 0x0302 [(1, b), (1, c), (1, t)] ∧ c < 4 ∧ t < 5
      ∧ s.test.busy.contains (256 + b) = false ∧ s.get (R.BANK_OWN.OWNER b) = ownAgent ∧ s.get (R.BANK_CFG.PWR b) = 0
      ∧ s.flag (R.BANK_CFG.LAND b) = false ∧ s.flag (R.BANK_CFG.CMODE b) = false) ∧
    (∃ (mb : Fin 16) (s : State) (b : _) (c : _) (t : _), s.serves mb 0x0302 [(1, b), (1, c), (1, t)] ∧ c < 4 ∧ t < 5
      ∧ s.test.busy.contains (256 + b) = false ∧ s.get (R.BANK_OWN.OWNER b) ≠ ownAgent) ∧
    (∃ (mb : Fin 16) (s : State) (b : _), s.serves mb 0x0303 [(1, b)] ∧ s.test.busy.contains (256 + b) = false ∧
      s.clearDenied b = false) ∧
    (∃ (mb : Fin 16) (s : State) (b : _) (p : _), s.serves mb 0x0304 [(1, b), (1, p)] ∧ p < 3 ∧ s.test.busy.contains
      (256 + b) = false ∧ (¬ (p = 2 ∧ s.get (R.BANK_OWN.OWNER b) < 128)) ∧ s.flag (R.BANK_CFG.LAND b) = false ∧
      s.flag (R.BANK_CFG.CMODE b) = false ∧ s.flag (R.BANK_OWN.PEND b) = false ∧ s.get (R.BANK_CFG.PWR b) ≠ 3 ∧
      s.therm.memOff.contains (bankDie b) = false) ∧
    (∃ (mb : Fin 16) (s : State) (w : _) (d : _) (e : _) (a : _) (banks : List Nat), s.serves mb 0x0305 ([(1, w), (3,
      d), (2, e), (1, a), (1, banks.length)] ++ banks.map fun b => (1, b)) ∧ w < 16 ∧ d < 2 ^ 20 ∧ e < 2 ^ 12 ∧ a < 4
      ∧ banks.length ≤ 16 ∧ (∀ b ∈ banks, s.test.busy.contains (256 + b) = false)) ∧
    (∃ (mb : Fin 16) (s : State) (d : _) (g : _) (seg : _) (n : _), s.serves mb 0x0306 [(1, d), (1, g), (1, seg), (1,
      n)] ∧ d < 4 ∧ g < 4 ∧ n = 0 ∧ s.flag (R.CMODE_CFG.EN d) = false) ∧
    (∃ (mb : Fin 16) (s : State) (d : _) (g : _) (seg : _) (n : _), s.serves mb 0x0306 [(1, d), (1, g), (1, seg), (1,
      n)] ∧ d < 4 ∧ g < 4 ∧ n = 0 ∧ s.flag (R.CMODE_CFG.EN d) = true ∧ s.held 0x9C = false ∧ s.held 0x9D = false) ∧
    (∃ (mb : Fin 16) (s : State) (d : _) (g : _) (seg : _) (n : _), s.serves mb 0x0306 [(1, d), (1, g), (1, seg), (1,
      n)] ∧ d < 4 ∧ g < 4 ∧ n ≠ 0 ∧ seg + n ≤ 48 ∧ s.flag (R.CMODE_CFG.EN d) = false ∧ (∀ d' < 4, s.flag
      (R.CMODE_CFG.EN d') = true → s.get (R.CMODE_CFG.BASE_SEG d') + s.get (R.CMODE_CFG.SEG_CNT d') ≤ seg ∨ seg +
      n ≤ s.get (R.CMODE_CFG.BASE_SEG d')) ∧ (∀ f ∈ s.test.fenced, ¬ (f.1 = 5 ∧ seg ≤ f.2 ∧ f.2 < seg + n)) ∧ (∀
      w < 16, let b := 64 * d + 16 * g + w; s.test.busy.contains (256 + b) = false ∧ s.get (R.BANK_OWN.OWNER
      b) = ownAgent ∧ s.flag (R.BANK_CFG.LAND b) = false ∧ s.get (R.BANK_CFG.PWR b) = 0 ∧ s.flag (R.BANK_OWN.PEND
      b) = false)) ∧
    (∃ (mb : Fin 16) (s : State) (d : _) (v : _), s.serves mb 0x0307 [(1, d), (1, v)] ∧ d < 4 ∧ v < 2 ∧ s.flag
      (R.CMODE_CFG.EN d) = true ∧ (∀ w < 16, s.test.busy.contains (256 + s.wayBank d w) = false) ∧ s.held
      0x9C = false ∧ s.held 0x9D = false) :=
  ⟨⟨0, asks 0x0300 (pack [(1, (240)), (1, (16))]) (base mRun), 240, 16, by decide +kernel⟩,
    ⟨0, asks 0x0301 (pack [(1, (255)), (2, (0x18F)), (1, (1))]) ((base mRun).set (R.BANK_OWN.PEND 255) 1), 255,
      0x18F, 1, by decide +kernel⟩,
    ⟨0, asks 0x0301 (pack [(1, (255)), (2, (0x18F)), (1, (1))]) (base mRun), 255, 0x18F, 1, by decide +kernel⟩,
    ⟨0, asks 0x0302 (pack [(1, (255)), (1, (3)), (1, (4))]) (base mRun), 255, 3, 4, by decide +kernel⟩,
    ⟨0, asks 0x0302 (pack [(1, (255)), (1, (3)), (1, (4))]) ((base mRun).set (R.BANK_OWN.OWNER 255) 5), 255, 3, 4,
      by decide +kernel⟩,
    ⟨0, asks 0x0303 (pack [(1, (255))]) (base mRun), 255, by decide +kernel⟩,
    ⟨0, asks 0x0304 (pack [(1, (255)), (1, (2))]) (base mRun), 255, 2, by decide +kernel⟩,
    ⟨0, asks 0x0305 (pack ([(1, (15)), (3, (2 ^ 20 - 1)), (2, (2 ^ 12 - 1)), (1, (3)), (1, (List.range 16).length)]
      ++ (List.range 16).map fun b => (1, b))) (base mRun), 15, 2 ^ 20 - 1, 2 ^ 12 - 1, 3, List.range 16,
      by decide +kernel⟩,
    ⟨0, asks 0x0306 (pack [(1, (3)), (1, (3)), (1, (47)), (1, (0))]) (base mRun), 3, 3, 47, 0, by decide +kernel⟩,
    ⟨0, asks 0x0306 (pack [(1, (3)), (1, (3)), (1, (47)), (1, (0))]) ((base mRun).set (R.CMODE_CFG.EN 3) 1), 3, 3,
      47, 0, by decide +kernel⟩,
    ⟨0, asks 0x0306 (pack [(1, (3)), (1, (3)), (1, (47)), (1, (1))]) (base mRun), 3, 3, 47, 1, by decide +kernel⟩,
    ⟨0, asks 0x0307 (pack [(1, (3)), (1, (1))]) ((base mRun).set (R.CMODE_CFG.EN 3) 1), 3, 1, by decide +kernel⟩⟩

theorem witness_CacheCommandsComplete_2 :
    (∃ (mb : Fin 16) (s : State) (b : _) (a : _) (n : _), s.serves mb 0x0308 [(1, b), (5, a), (3, n)] ∧
      s.test.busy.contains (256 + b) = false ∧ n = 0) ∧
    (∃ (mb : Fin 16) (s : State) (b : _) (a : _) (n : _), s.serves mb 0x0308 [(1, b), (5, a), (3, n)] ∧
      s.test.busy.contains (256 + b) = false ∧ n ≠ 0 ∧ a % 2048 = 0 ∧ (a + 2048 * n ≤ 0x5D0000000 ∨ (0x600000000 ≤ a
      ∧ a + 2048 * n ≤ 0xBD0000000)) ∧ (∀ f ∈ s.test.fenced, ¬ (f.1 = 5 ∧ a / 2 ^ 30 ≤ f.2 ∧ f.2 ≤ (a + 2048 * n - 1)
      / 2 ^ 30)) ∧ s.flag (R.BANK_CFG.LAND b) = false ∧ s.flag (R.BANK_CFG.CMODE b) = false) ∧
    (∃ (mb : Fin 16) (s : State) (b : _), s.serves mb 0x0309 [(1, b)] ∧ s.test.busy.contains (256 + b) = false) :=
  ⟨⟨0, asks 0x0308 (pack [(1, (255)), (5, (0)), (3, (0))]) (base mRun), 255, 0, 0, by decide +kernel⟩,
    ⟨0, asks 0x0308 (pack [(1, (255)), (5, (0x5D0000000 - 2048)), (3, (1))]) (base mRun), 255, 0x5D0000000 - 2048, 1,
      by decide +kernel⟩,
    ⟨0, asks 0x0309 (pack [(1, (255))]) (base mRun), 255, by decide +kernel⟩⟩

theorem witness_PageWritesStoreTheirBytes :
    (∃ (s : State) (k : Fin 2) (e : Nat) (g : Nat) (p : Pkt) (l : List (Nat × Pkt)) (q : BulkSeq), s.bulkHeads
      k = (e, p) :: l ∧ s.clocked (10 + k.val) = true ∧ (¬ (s.bulkScrubs k = true ∧ at' s.bulk.slot k 0 = 15)) ∧
      s.bulkRefuses e p = none ∧ pageOf (bulkAddr e p) = some g ∧ s.groupOf g = none ∧ lookup s.bulk.seqs g = some q
      ∧ q.srcDev = p.srcDev ∧ q.srcEp = p.srcEp ∧ q.bytes.length = 1536 ∧ p.reqSeq = 0 ∧ p.len = 512 ∧ bulkAddr e p %
      2048 = 1536 ∧ p.typ ≠ 0 ∧ p.data.length = 512 ∧ p.status = 0 ∧ (∀ x ∈ q.bytes ++ p.data, x < 256)) ∧
    (∃ (s : State) (k : Nat) (off : Nat) (bytes : List Nat), off + bytes.length ≤ 2048 ∧ (s.readPage k).data < 2 ^
      16384 ∧ (∀ x ∈ bytes, x < 256)) ∧
    (∃ (s : State) (k : Nat) (off : Nat) (bytes : List Nat) (i : _), off + bytes.length ≤ 2048 ∧ (s.readPage
      k).data < 2 ^ 16384 ∧ (∀ x ∈ bytes, x < 256) ∧ (s.readPage k).unc = false ∧ i < 2048) ∧
    (∃ (s : State) (k : Nat) (off : Nat) (bytes : List Nat) (j : _), off + bytes.length ≤ 2048 ∧ (s.readPage
      k).data < 2 ^ 16384 ∧ (∀ x ∈ bytes, x < 256) ∧ j ≠ k) :=
  ⟨⟨((base mRun).modBulk fun b => { b with seqs := [(1, ⟨0, 0, 1, List.replicate 1536 255, []⟩)] }).modNoc fun n =>
      { n with rx := [(0x90, [pk 1 0 0x90 (2048 + 1536) 512 (List.replicate 512 255)])] }, 0, 0x90, 1, pk 1 0 0x90
      (2048 + 1536) 512 (List.replicate 512 255), [], ⟨0, 0, 1, List.replicate 1536 255, []⟩, by decide +kernel⟩,
    ⟨base mRun, 12189696, 2047, [255], by decide +kernel⟩,
    ⟨base mRun, 12189696, 2047, [255], 2047, by decide +kernel⟩,
    ⟨base mRun, 12189696, 2047, [255], 1, by decide +kernel⟩⟩

theorem witness_ScrubKeepsContents :
    (∃ (s : State), (∀ b p i, s.bankCode b = 3 → i < 32 → has s.cache.rows (rowKey b (32 * p + i)) = has s.cache.rows
      (rowKey b (32 * p)))) ∧
    (∃ (s : State) (t : Nat) (u : Nat), (scrubOne t u s).1.corrected = false ∧ (∀ b p i, s.bankCode b = 3 → i < 32 →
      has s.cache.rows (rowKey b (32 * p + i)) = has s.cache.rows (rowKey b (32 * p)))) :=
  ⟨⟨base mRun, (fun _ _ _ _ _ => rfl)⟩,
    ⟨base mRun, 0, 0, by decide +kernel, (fun _ _ _ _ _ => rfl)⟩⟩

theorem witness_BulkEventsComplete :
    (∃ (s : State) (k : Fin 2) (g : Nat) (q : BulkSeq), s.clocked (10 + k.val) = true ∧ s.bulk.seqs.find? (fun e =>
      e.1 / stackPages == k.val) = some (g, q)) ∧
    (∃ (s : State), s.up = true) ∧
    (∃ (s : State) (t : Fin 7) (x : Scrub) (u : _),
      let v := scrubStep x (if 5 ≤ t.val then passSlot (t - 5) s else s); s.bulk.passes.find? (fun y => y.target ==
      t.val && decide (y.st < 2)) = some x ∧ s.scrubRuns = true ∧ s.scrubClock t = true ∧ s.scrubTurn x = true ∧
      v.2.nextUnit v.1 = some u) ∧
    (∃ (s : State) (t : Fin 7) (x : Scrub), let v := scrubStep x (if 5 ≤ t.val then passSlot (t - 5) s else s);
      s.bulk.passes.find? (fun y => y.target == t.val && decide (y.st < 2)) = some x ∧ s.scrubRuns = true ∧
      s.scrubClock t = true ∧ s.scrubTurn x = true ∧ v.2.nextUnit v.1 = none) ∧
    (∃ (s : State) (t : Fin 7), (s.bgScrub t).rate ≠ 0 ∧ s.scrubRuns = true ∧ s.scrubClock t = true ∧ (∀
      y ∈ s.bulk.passes, ¬ (y.target = t.val ∧ y.st < 2)) ∧ (t.val < 4 → s.held (0x98 + t.val) = false) ∧ (5 ≤ t.val
      → s.held (0x97 + t.val) = false)) ∧
    (∃ (s : State), let k := s.get R.SPLIT_CTL.KIND; let u := s.get R.SPLIT_ADDR.UNIT; s.up = true ∧ s.splitOpen k
      u = true ∧ s.splitTested k u = false) ∧
    (∃ (s : State), let k := s.get R.SPLIT_CTL.KIND; let u := s.get R.SPLIT_ADDR.UNIT; s.up = true ∧ (s.splitOpen k
      u = false ∨ s.splitTested k u = true)) ∧
    (∃ (s : State) (g : Fin 48), s.flag (R.SEG_CFG.CLR_BUSY g) = true ∧ s.clocked (10 + g.val / 24) = true) :=
  ⟨⟨(base mRun).modBulk fun b => { b with seqs := [(stackPages, ⟨0, 0, stackPages, [], []⟩)] }, 1, stackPages, ⟨0,
      0, stackPages, [], []⟩, by decide +kernel⟩,
    ⟨base mRun, by decide +kernel⟩,
    ⟨(base mRun).modBulk fun b =>
      { b with passes := [{ (base mRun).newScrub 5 6 stackPages (stackPages + 1) 0 16383 with st := 1 }] }, 6,
      { (base mRun).newScrub 5 6 stackPages (stackPages + 1) 0 16383 with st := 1 }, stackPages + 1,
      by decide +kernel⟩,
    ⟨(base mRun).modBulk fun b =>
      { b with passes := [{ (base mRun).newScrub 5 6 stackPages stackPages 0 16383 with st := 1 }] }, 6,
      { (base mRun).newScrub 5 6 stackPages stackPages 0 16383 with st := 1 }, by decide +kernel⟩,
    ⟨(base mRun).modBulk fun b => { b with bg := [(6, { (base mRun).bgScrub 6 with rate := 1 })] }, 6,
      by decide +kernel⟩,
    ⟨((((base mRun).set (R.EXP_UNLK.UNLK 4) (2 ^ 32 - 1)).set R.SEC_PROT.DIAG_OK 1).set R.SPLIT_CTL.KIND 0).set
      R.SPLIT_ADDR.UNIT 4194303, by decide +kernel⟩,
    ⟨base mRun, by decide +kernel⟩,
    ⟨(base mRun).set (R.SEG_CFG.CLR_BUSY 47) 1, 47, by decide +kernel⟩⟩

theorem witness_BulkCommandsComplete :
    (∃ (mb : Fin 16) (s : State) (g : _) (n : _), s.serves mb 0x0310 [(1, g), (1, n)] ∧ g + n ≤ 48 ∧ 1 ≤ n ∧ n ≤ 16 ∧
      (∀ k < n, s.segTested (g + k) = false)) ∧
    (∃ (mb : Fin 16) (s : State) (g : _) (t : _) (a : _), s.serves mb 0x0311 [(1, g), (1, t), (1, a)] ∧ g < 48 ∧
      t < 5 ∧ a < 3 ∧ s.segTested g = false ∧ s.get (R.SEG_CFG.T g) = t) ∧
    (∃ (mb : Fin 16) (s : State) (g : _) (t : _) (a : _), s.serves mb 0x0311 [(1, g), (1, t), (1, a)] ∧ g < 48 ∧
      t < 5 ∧ a < 3 ∧ s.segTested g = false ∧ s.get (R.SEG_CFG.T g) ≠ t ∧ s.flag (R.SEG_CFG.CACHED g) = false ∧
      s.flag (R.SEG_CFG.SPILL g) = false) ∧
    (∃ (mb : Fin 16) (s : State) (g : _) (t : _) (a : _), s.serves mb 0x0311 [(1, g), (1, t), (1, a)] ∧ g < 48 ∧
      t < 5 ∧ a < 3 ∧ s.segTested g = false ∧ s.get (R.SEG_CFG.T g) ≠ t ∧ (s.flag (R.SEG_CFG.CACHED g) = true ∨
      s.flag (R.SEG_CFG.SPILL g) = true)) ∧
    (∃ (mb : Fin 16) (s : State) (g : _), s.serves mb 0x0312 [(1, g)] ∧ g < 48 ∧ s.segTested g = false ∧ s.flag
      (R.SEG_CFG.CACHED g) = false ∧ s.flag (R.SEG_CFG.SPILL g) = false) ∧
    (∃ (mb : Fin 16) (s : State) (kind : _) (first : _) (last : _) (ra : _) (rb : _) (t : _) (a : _) (b : _) (h : _),
      s.serves mb 0x0313 (scrubArgs kind first last ra rb) ∧ ((kind = 0 ∧ first ≤ last ∧ bankDie first = bankDie last
      ∧ ra ≤ rb ∧ rb < 16384 ∧ t = bankDie first ∧ a = first ∧ b = last ∧ ∀ k, first ≤ k → k ≤ last → s.bankTested
      k = false) ∨ (kind = 1 ∧ first ≤ last ∧ last < 12288 ∧ ra ≤ rb ∧ rb < 1024 ∧ t = 4 ∧ a = first ∧ b = last ∧ ∀
      r ∈ s.test.busy, ¬ (r < 128 ∧ first / 96 ≤ r ∧ r ≤ last / 96)) ∨ (kind = 2 ∧ first % 2048 = 0 ∧ last ≠ 0 ∧
      pageOf first = some a ∧ pageOf (first + 2048 * (last - 1)) = some b ∧ a / stackPages = b / stackPages ∧ t = 5 +
      a / stackPages ∧ s.test.busy.contains (0x9C + a / stackPages) = false)) ∧ (List.range 8).find? (fun h =>
      (s.scrubPass h).isNone) = some h) ∧
    (∃ (mb : Fin 16) (s : State) (h : _) (c : _) (x : Scrub), s.serves mb 0x0314 [(2, h), (1, c)] ∧ c < 2 ∧ h < 8 ∧
      s.scrubPass h = some x) ∧
    (∃ (mb : Fin 16) (s : State) (t : _) (c : _), s.serves mb 0x0314 [(2, 0x100 + t), (1, c)] ∧ c < 2 ∧ t < 7) ∧
    (∃ (mb : Fin 16) (s : State) (h : _) (x : Scrub), s.serves mb 0x0315 [(2, h)] ∧ s.scrubPass h = some x ∧
      x.st < 2) ∧
    (∃ (mb : Fin 16) (s : State) (h : _) (x : Scrub), s.serves mb 0x0315 [(2, h)] ∧ s.scrubPass h = some x ∧
      2 ≤ x.st) ∧
    (∃ (mb : Fin 16) (s : State) (t : _) (r : _), s.serves mb 0x0316 [(1, t), (4, r)] ∧ t < 7 ∧ (5 ≤ t →
      s.test.busy.contains (0x97 + t) = false)) ∧
    (∃ (mb : Fin 16) (s : State) (k : _) (u : _) (bytes : List Nat), splitFunc k u ≠ none ∧ bytes.length ≤ splitSize
      k ∧ s.splitTested k u = false ∧ s.splitOpen k u = true ∧ s.servesBytes mb 0x0317 [(1, k), (5, u), (1, 1)]
      bytes) :=
  ⟨⟨0, asks 0x0310 (pack [(1, (32)), (1, (16))]) (base mRun), 32, 16, by decide +kernel⟩,
    ⟨0, asks 0x0311 (pack [(1, (47)), (1, (4)), (1, (2))]) ((base mRun).set (R.SEG_CFG.T 47) 4), 47, 4, 2,
      by decide +kernel⟩,
    ⟨0, asks 0x0311 (pack [(1, (47)), (1, (3)), (1, (2))]) (base mRun), 47, 3, 2, by decide +kernel⟩,
    ⟨0, asks 0x0311 (pack [(1, (47)), (1, (3)), (1, (2))]) ((base mRun).set (R.SEG_CFG.CACHED 47) 1), 47, 3, 2,
      by decide +kernel⟩,
    ⟨0, asks 0x0312 (pack [(1, (47))]) (base mRun), 47, by decide +kernel⟩,
    ⟨0, asks 0x0313 (pack (scrubArgs (1) (0) (12287) (0) (1023))) (base mRun), 1, 0, 12287, 0, 1023, 4, 0, 12287, 0,
      by decide +kernel⟩,
    ⟨0, asks 0x0314 (pack [(2, (5)), (1, (1))]) ((base mRun).modBulk fun b =>
      { b with passes := [{ (base mRun).newScrub 5 6 stackPages (stackPages + 1) 0 16383 with st := 1 }] }), 5, 1,
      { (base mRun).newScrub 5 6 stackPages (stackPages + 1) 0 16383 with st := 1 }, by decide +kernel⟩,
    ⟨0, asks 0x0314 (pack [(2, 0x100 + (6)), (1, (1))]) (base mRun), 6, 1, by decide +kernel⟩,
    ⟨0, asks 0x0315 (pack [(2, (5))]) ((base mRun).modBulk fun b =>
      { b with passes := [{ (base mRun).newScrub 5 6 stackPages (stackPages + 1) 0 16383 with st := 1 }] }), 5,
      { (base mRun).newScrub 5 6 stackPages (stackPages + 1) 0 16383 with st := 1 }, by decide +kernel⟩,
    ⟨0, asks 0x0315 (pack [(2, (5))]) ((base mRun).modBulk fun b =>
      { b with passes := [{ (base mRun).newScrub 5 6 stackPages (stackPages + 1) 0 16383 with st := 2 }] }), 5,
      { (base mRun).newScrub 5 6 stackPages (stackPages + 1) 0 16383 with st := 2 }, by decide +kernel⟩,
    ⟨0, asks 0x0316 (pack [(1, (6)), (4, (1))]) (base mRun), 6, 1, by decide +kernel⟩,
    ⟨0, asks 0x0317 (pack [(1, (0)), (5, (4194303)), (1, 1)] ++ (List.replicate 256 255)) (((((base mRun).set
      (R.EXP_UNLK.UNLK 4) (2 ^ 32 - 1)).set R.SEC_PROT.DIAG_OK 1).set R.SPLIT_CTL.KIND 0).set R.SPLIT_ADDR.UNIT
      4194303), 0, 4194303, List.replicate 256 255, by decide +kernel⟩⟩

theorem witness_BulkCommandsComplete_2 :
    (∃ (mb : Fin 16) (s : State) (k : _) (u : _) (bytes : List Nat), splitFunc k u ≠ none ∧ bytes.length ≤ splitSize
      k ∧ s.splitTested k u = false ∧ s.splitOpen k u = true ∧ bytes = [] ∧ s.servesBytes mb 0x0317 [(1, k), (5, u),
      (1, 0)] []) :=
  ⟨0, asks 0x0317 (pack [(1, (0)), (5, (4194303)), (1, 0)] ++ []) (((((base mRun).set (R.EXP_UNLK.UNLK 4) (2 ^ 32 -
    1)).set R.SEC_PROT.DIAG_OK 1).set R.SPLIT_CTL.KIND 0).set R.SPLIT_ADDR.UNIT 4194303), 0, 4194303, [],
    by decide +kernel⟩

theorem witness_LaneBringUpAdvances :
    (∃ (s : State) (l : Fin 96), s.laneState l = lsAcquire) ∧
    (∃ (s : State) (l : Fin 96), s.laneState l = lsFrame ∧ s.flag (R.LANE_STAT.BLK_LOCK l) = false ∧ s.flag
      (R.LANE_CFG.RX_POL_AUTO l) = true) ∧
    (∃ (s : State) (l : Fin 96) (ofs : _) (senders : List Nat), s.laneState l = lsFrame ∧ s.flag
      (R.LANE_STAT.BLK_LOCK l) = false ∧ ofs < 66 ∧ (s.flag (R.QUAD_STAT.GANG (l / 4)) = false ∨ laneOrder
      senders < 2)) ∧
    (∃ (s : State) (l : Fin 96) (ofs : _) (senders : List Nat), s.laneState l = lsFrame ∧ s.flag
      (R.LANE_STAT.BLK_LOCK l) = false ∧ ofs < 66 ∧ s.flag (R.QUAD_STAT.GANG (l / 4)) = true ∧ laneOrder senders = 2) ∧
    (∃ (s : State) (l : Fin 96), s.laneState l = lsTrain ∧ 16 ≤ (s.lst l).trainRx) ∧
    (∃ (s : State) (l : Fin 96) (n : _), s.laneState l = lsAlign ∧ (s.lst l).slips = n + 1) ∧
    (∃ (s : State) (l : Fin 96) (reads : List AlignRd),
      let vals := reads.map (alignValue (s.synth (sideDomain l)).n); let hi := vals.foldl max 0;
      let lo := vals.foldl min hi; s.laneState l = lsAlign ∧ s.fixedMode l = true ∧ s.get (R.LANE_STAT.HDR_OFS l) = 0
      ∧ reads.length = 256 ∧ hi ≤ lo + 1) ∧
    (∃ (s : State) (l : Fin 96) (reads : List AlignRd),
      let vals := reads.map (alignValue (s.synth (sideDomain l)).n); let hi := vals.foldl max 0;
      let lo := vals.foldl min hi; s.laneState l = lsAlign ∧ s.fixedMode l = true ∧ s.get (R.LANE_STAT.HDR_OFS l) = 0
      ∧ reads.length = 256 ∧ lo + 1 < hi) ∧
    (∃ (s : State) (l : Fin 96), s.alignReady l = true) ∧
    (∃ (s : State) (l : Fin 96), s.bringing l = true ∧ s.alignReady l = true) ∧
    (∃ (s : State) (l : Fin 96), s.bringing l = true) :=
  ⟨⟨(lane95 lsAcquire (base mRun)), 95, by decide +kernel⟩,
    ⟨((lane95 lsFrame (base mRun))).set (R.LANE_CFG.RX_POL_AUTO 95) 1, 95, by decide +kernel⟩,
    ⟨((lane95 lsFrame (base mRun))).set (R.QUAD_STAT.GANG 23) 1, 95, 65, [3, 2, 1, 0], by decide +kernel⟩,
    ⟨((lane95 lsFrame (base mRun))).set (R.QUAD_STAT.GANG 23) 1, 95, 65, [3, 2, 1, 1], by decide +kernel⟩,
    ⟨(lane95 lsTrain (base mRun)).modLane 95 fun b => { b with trainRx := 16 }, 95, by decide +kernel⟩,
    ⟨(lane95 lsAlign (base mRun)).modLane 95 fun b => { b with slips := 65 }, 95, 64, by decide +kernel⟩,
    ⟨(lane95 lsAlign (base mRun)), 95, ⟨70000, 5000, 3⟩ :: List.replicate 255 ⟨70000, 5000, 2⟩, by decide +kernel⟩,
    ⟨(lane95 lsAlign (base mRun)), 95, ⟨70000, 5000, 4⟩ :: List.replicate 255 ⟨70000, 5000, 2⟩, by decide +kernel⟩,
    ⟨(lane95 lsAlign (base mRun)).modLane 95 fun b => { b with alignTx := true, alignRx := 16, flSet := true }, 95,
      by decide +kernel⟩,
    ⟨(lane95 lsAlign (base mRun)).modLane 95 fun b => { b with alignTx := true, alignRx := 16, flSet := true }, 95,
      by decide +kernel⟩,
    ⟨(lane95 lsAlign (base mRun)), 95, by decide +kernel⟩⟩

theorem witness_LaneStatusShowsItsState :
    (∃ (s : State) (l : Fin 96) (r : Nat), s.laneState l = lsUp ∧ r ∈ [2, 3, 8, 0xA, 0xB, 0xC] ∧ ((s.lst
      l).rxHalf = 0 ∨ r ∉ [2, 3, 0xC])) :=
  ⟨(lane95 lsUp (base mRun)), 95, 0xC, by decide +kernel⟩

theorem witness_TapsScramblerAndPatternsFollowTheirRules :
    (∃ (s : State) (t : State) (l : Fin 96) (w : BitVec 64), (s.get (R.LANE_EQ.TX_PRE l) ≤ 12 ∧ s.get
      (R.LANE_EQ.TX_POST l) ≤ 24 ∧ s.get (R.LANE_EQ.PRE_PRESET l) ≤ 12 ∧ s.get (R.LANE_EQ.POST_PRESET l) ≤ 24 ∧ s.get
      (R.LANE_EQ.TX_MAIN l) = 63 - s.get (R.LANE_EQ.TX_PRE l) - s.get (R.LANE_EQ.TX_POST l)) ∧ exec (.trainingBlockRx
      l w) s = .next t) ∧
    (∃ (s : State) (t : State) (l : Fin 96) (w : BitVec 64), (s.get (R.LANE_EQ.TX_PRE l) ≤ 12 ∧ s.get
      (R.LANE_EQ.TX_POST l) ≤ 24 ∧ s.get (R.LANE_EQ.PRE_PRESET l) ≤ 12 ∧ s.get (R.LANE_EQ.POST_PRESET l) ≤ 24 ∧ s.get
      (R.LANE_EQ.TX_MAIN l) = 63 - s.get (R.LANE_EQ.TX_PRE l) - s.get (R.LANE_EQ.TX_POST l) ∧ bitsOf w.toNat 20
      4 = (s.lst l).ackSeq) ∧ exec (.trainingBlockRx l w) s = .next t) ∧
    (∃ (a : PrbsRd) (g : Nat) (n : Nat), a.lane.pattern ∈ [7, 15, 23, 31] ∧ a.lane.clean = 0 ∧ a.lock = false ∧ 1024
      + a.lane.pattern ≤ n) ∧
    (∃ (bits : List Bool), 58 ≤ bits.length) :=
  ⟨⟨(lane95 lsTrain (base mRun)), nextOf (exec (.trainingBlockRx (95 : Fin 96) (BitVec.ofNat 64 (0x1000F0 + 2 ^ 56 *
      (bitList 56 0x1000F0).foldl crc8Bit 0))) ((lane95 lsTrain (base mRun)))) ((lane95 lsTrain (base mRun))), 95,
      BitVec.ofNat 64 (0x1000F0 + 2 ^ 56 * (bitList 56 0x1000F0).foldl crc8Bit 0), by decide +kernel, (next_nextOf
      (by decide +kernel))⟩,
    ⟨(lane95 lsTrain (base mRun)), nextOf (exec (.trainingBlockRx (95 : Fin 96) (BitVec.ofNat 64 (0xF0 + 2 ^ 56 *
      (bitList 56 0xF0).foldl crc8Bit 0))) ((lane95 lsTrain (base mRun)))) ((lane95 lsTrain (base mRun))), 95,
      BitVec.ofNat 64 (0xF0 + 2 ^ 56 * (bitList 56 0xF0).foldl crc8Bit 0), by decide +kernel, (next_nextOf
      (by decide +kernel))⟩,
    ⟨⟨false, 0, { (State.reset.lst 0) with pattern := 31 }⟩, 5, 1055, by decide +kernel⟩,
    ⟨List.replicate 58 true, by decide +kernel⟩⟩

theorem witness_LaneEventsComplete :
    (∃ (s : State) (l : Fin 96) (w : BitVec 64), trainingOk w.toNat = true ∧ s.laneState l = lsTrain ∧ bitsOf w.toNat
      20 4 ≠ (s.lst l).ackSeq) ∧
    (∃ (s : State) (l : Fin 96), s.laneState l = lsTrain ∧ (s.lst l).reqPend = true) ∧
    (∃ (s : State) (l : Fin 96) (w : BitVec 64), trainingOk w.toNat = true ∧ lsAcquire ≤ s.laneState l ∧ s.laneState
      l ≤ lsAlign ∧ s.laneState l ≠ lsTrain) ∧
    (∃ (s : State) (l : Fin 96), s.laneState l = lsTrain ∧ (s.lst l).reqPend = true ∧ (s.lst l).retries < 3) ∧
    (∃ (s : State) (l : Fin 96), s.laneState l = lsTrain ∧ (s.lst l).reqPend = true ∧ 3 ≤ (s.lst l).retries) ∧
    (∃ (s : State) (l : Fin 96) (f : _), s.laneState l = lsUp ∧ f ≤ 64 ∧ s.fixedMode l = true) ∧
    (∃ (s : State) (l : Fin 96) (f : _), s.laneState l = lsUp ∧ f ≤ 64 ∧ s.fixedMode l = false) ∧
    (∃ (s : State) (l : Fin 96) (f : _), s.laneState l = lsTest ∧ (s.lst l).loop = 3 ∧ s.laneAligned l = false ∧
      (f = 0 ∨ 32 ≤ f)) ∧
    (∃ (s : State) (l : Fin 96) (f : _), s.laneState l = lsUp ∧ 64 < f) ∧
    (∃ (s : State) (l : Fin 96), s.laneState l = lsUp ∧ s.fixedMode l = false ∧ 48 < s.get (R.LANE_FLS.FILL l)) ∧
    (∃ (s : State) (l : Fin 96), s.laneState l = lsUp ∧ s.fixedMode l = false ∧ s.get (R.LANE_FLS.FILL l) < 16) ∧
    (∃ (s : State) (l : Fin 96), s.laneState l = lsUp) :=
  ⟨⟨(lane95 lsTrain (base mRun)), 95, BitVec.ofNat 64 (0x1000F0 + 2 ^ 56 * (bitList 56 0x1000F0).foldl crc8Bit 0),
      by decide +kernel⟩,
    ⟨(lane95 lsTrain (base mRun)).modLane 95 fun b => { b with reqPend := true }, 95, by decide +kernel⟩,
    ⟨(lane95 lsAlign (base mRun)), 95, BitVec.ofNat 64 (0x1000F0 + 2 ^ 56 * (bitList 56 0x1000F0).foldl crc8Bit 0),
      by decide +kernel⟩,
    ⟨(lane95 lsTrain (base mRun)).modLane 95 fun b => { b with reqPend := true, retries := 2 }, 95,
      by decide +kernel⟩,
    ⟨(lane95 lsTrain (base mRun)).modLane 95 fun b => { b with reqPend := true, retries := 3 }, 95,
      by decide +kernel⟩,
    ⟨(lane95 lsUp (base mRun)), 95, 64, by decide +kernel⟩,
    ⟨((base mRun).set (R.LANE_STAT.STATE 95) lsUp), 95, 64, by decide +kernel⟩,
    ⟨((base mRun).set (R.LANE_STAT.STATE 95) lsTest).modLane 95 fun b => { b with loop := 3 }, 95, 32,
      by decide +kernel⟩,
    ⟨(lane95 lsUp (base mRun)), 95, 65, by decide +kernel⟩,
    ⟨(((base mRun).set (R.LANE_STAT.STATE 95) lsUp)).set (R.LANE_FLS.FILL 95) 49, 95, by decide +kernel⟩,
    ⟨(((base mRun).set (R.LANE_STAT.STATE 95) lsUp)).set (R.LANE_FLS.FILL 95) 15, 95, by decide +kernel⟩,
    ⟨(lane95 lsUp (base mRun)), 95, by decide +kernel⟩⟩

theorem witness_LaneEventsComplete_2 :
    (∃ (s : State) (l : Fin 96), s.baseR l = false ∧ (s.laneState l = lsUp ∨ s.laneState l = lsDoze ∨ s.laneState
      l = lsSleep)) ∧
    (∃ (s : State) (l : Fin 96), ((s.lst l).rxHalf ≠ 0 ∨ s.laneState l = lsDoze ∨ s.laneState l = lsSleep)) ∧
    (∃ (s : State) (l : Fin 96) (o : _) (m : _), s.laneState l = lsDoze ∧ (s.lst l).exiting = true ∧ (s.fixedMode
      l = false ∨ (o = 0 ∧ m = s.get (R.LANE_FL.L_MEAS l)))) ∧
    (∃ (s : State) (l : Fin 96) (o : _) (m : _), s.laneState l = lsDoze ∧ (s.lst l).exiting = true ∧ s.fixedMode
      l = true ∧ o < 66 ∧ (¬ (o = 0 ∧ m = s.get (R.LANE_FL.L_MEAS l)))) ∧
    (∃ (s : State) (l : Fin 96), s.laneState l = lsUp) ∧
    (∃ (s : State) (l : Fin 96) (rx : List Bool), s.laneState l = lsTest ∧ (s.lst l).pattern ≠ 0) ∧
    (∃ (s : State) (l : Fin 96), s.laneState l = lsUp ∧ (s.lst l).eye = none ∧ (s.lst l).turn < 4) ∧
    (∃ (s : State) (l : Fin 96) (e : EyeScan) (c : List Nat), (s.lst l).eye = some e ∧ c.length = e.points.length) :=
  ⟨⟨(lane95 lsUp (base mRun)), 95, by decide +kernel⟩,
    ⟨(((base mRun).set (R.LANE_STAT.STATE 95) lsDoze)).set (R.LANE_CFG.WAKE_TX 95) 0, 95, by decide +kernel⟩,
    ⟨((lane95 lsDoze (base mRun)).modLane 95 fun b => { b with exiting := true }).set (R.LANE_FL.L_MEAS 95) 7, 95, 0,
      7, by decide +kernel⟩,
    ⟨((lane95 lsDoze (base mRun)).modLane 95 fun b => { b with exiting := true }).set (R.LANE_FL.L_MEAS 95) 7, 95,
      65, 7, by decide +kernel⟩,
    ⟨(lane95 lsUp (base mRun)), 95, by decide +kernel⟩,
    ⟨((base mRun).set (R.LANE_STAT.STATE 95) lsTest).modLane 95 fun b => { b with pattern := 31 }, 95, [true],
      by decide +kernel⟩,
    ⟨((base mRun).set (R.LANE_STAT.STATE 95) lsUp).modLane 95 fun b => { b with turn := 3 }, 95, by decide +kernel⟩,
    ⟨((base mRun).set (R.LANE_STAT.STATE 95) lsUp).modLane 95 fun b =>
      { b with eye := some ⟨[(0, 0), (1, 0)], 16, 0⟩ }, 95, ⟨[(0, 0), (1, 0)], 16, 0⟩, [5, 6], by decide +kernel⟩⟩

theorem witness_LaneCommandsComplete :
    (∃ (mb : Fin 16) (s : State) (l : _), s.serves mb 0x0400 [(1, l)] ∧ l < 96 ∧ s.laneTested l = false) ∧
    (∃ (mb : Fin 16) (s : State) (mask : _) (time : _), s.serves mb 0x0401 [(12, mask), (2, time)] ∧ mask ≠ 0 ∧
      (time = 0 ∨ (10 ≤ time ∧ time ≤ 5000)) ∧ (s.runClass = true ∨ s.mode = mBlocking ∨ s.mode = mSafe) ∧ (∀
      l ∈ maskLanes mask, s.laneTested l = false ∧ s.test.fenced.contains (8, l) = false)) ∧
    (∃ (mb : Fin 16) (s : State) (mask : _), s.serves mb 0x0402 [(12, mask)] ∧ mask ≠ 0 ∧ (∀ l ∈ maskLanes mask,
      s.laneTested l = false)) ∧
    (∃ (mb : Fin 16) (s : State) (mask : _) (p : _), s.serves mb 0x0403 [(12, mask), (1, p)] ∧ mask ≠ 0 ∧ p < 3 ∧ (∀
      l ∈ maskLanes mask, s.laneTested l = false) ∧ (∃ l ∈ maskLanes mask, s.bringing l = true ∨ (s.lst
      l).exiting = true)) ∧
    (∃ (mb : Fin 16) (s : State) (mask : _) (p : _), s.serves mb 0x0403 [(12, mask), (1, p)] ∧ mask ≠ 0 ∧ p < 3 ∧ (∀
      l ∈ maskLanes mask, s.laneTested l = false) ∧ (∀ l ∈ maskLanes mask, (s.lst l).exiting = false ∧ (s.laneState
      l = lsUp ∨ s.laneState l = lsDoze ∨ s.laneState l = lsSleep))) ∧
    (∃ (mb : Fin 16) (s : State) (l : _) (v : _), s.serves mb 0x0404 [(1, l), (2, v)] ∧ l < 96 ∧ s.laneTested
      l = false ∧ s.laneState l ≠ lsUp ∧ flOk (s.laneK l) (s.get (R.LANE_FL.L_MEAS l)) v = true) ∧
    (∃ (mb : Fin 16) (s : State) (l : _) (v : _), s.serves mb 0x0404 [(1, l), (2, v)] ∧ l < 96 ∧ s.laneTested
      l = false ∧ s.laneState l ≠ lsUp ∧ flOk (s.laneK l) (s.get (R.LANE_FL.L_MEAS l)) v = false) ∧
    (∃ (mb : Fin 16) (s : State) (l : _) (n : _), s.serves mb 0x0405 [(1, l), (1, n)] ∧ l < 96 ∧ 1 ≤ n ∧ n ≤ 65 ∧
      s.laneTested l = false ∧ s.laneState l = lsAlign) ∧
    (∃ (mb : Fin 16) (s : State) (l : _) (n : _), s.serves mb 0x0405 [(1, l), (1, n)] ∧ l < 96 ∧ 1 ≤ n ∧ n ≤ 65 ∧
      s.laneTested l = false ∧ s.laneState l ≠ lsAlign) ∧
    (∃ (mb : Fin 16) (s : State) (l : _) (p : _) (inv : _) (loop : _), s.serves mb 0x0406 [(1, l), (1, p), (1, inv),
      (1, loop)] ∧ l < 96 ∧ p ∈ [0, 7, 15, 23, 31] ∧ inv < 2 ∧ loop < 4 ∧ s.laneTested l = false ∧ ((s.lst
      l).loading = false ∨ loop = 0)) ∧
    (∃ (mb : Fin 16) (s : State) (l : _) (c : _), s.serves mb 0x0407 [(1, l), (1, c)] ∧ l < 96 ∧ c < 2 ∧ s.laneTested
      l = false) ∧
    (∃ (mb : Fin 16) (s : State) (l : _) (p0 : _) (p1 : _) (o0 : _) (o1 : _) (e : _), s.serves mb 0x0408 [(1, l), (1,
      p0), (1, p1), (1, o0), (1, o1), (1, e)] ∧ l < 96 ∧ -32 ≤ sbyte p0 ∧ sbyte p0 ≤ sbyte p1 ∧ sbyte p1 ≤ 31 ∧
      -127 ≤ sbyte o0 ∧ sbyte o0 ≤ sbyte o1 ∧ 16 ≤ e ∧ e ≤ 36 ∧ (sbyte p1 - sbyte p0 + 1) * (sbyte o1 - sbyte o0 +
      1) ≤ 64 ∧ s.laneTested l = false ∧ (s.lst l).eye = none) :=
  ⟨⟨0, asks 0x0400 (pack [(1, (95))]) (base mRun), 95, by decide +kernel⟩,
    ⟨0, asks 0x0401 (pack [(12, (2 ^ 95)), (2, (5000))]) (((base mRun).set (R.LANE_STAT.STATE 95) lsFail)), 2 ^ 95,
      5000, by decide +kernel⟩,
    ⟨0, asks 0x0402 (pack [(12, (2 ^ 95))]) (((base mRun).set (R.LANE_STAT.STATE 95) lsUp)), 2 ^ 95,
      by decide +kernel⟩,
    ⟨0, asks 0x0403 (pack [(12, (2 ^ 95)), (1, (2))]) (((base mRun).set (R.LANE_STAT.STATE 95) lsAlign)), 2 ^ 95, 2,
      by decide +kernel⟩,
    ⟨0, asks 0x0403 (pack [(12, (2 ^ 95 + 1)), (1, (2))]) (((base mRun).set (R.LANE_STAT.STATE 95) lsUp).set
      (R.LANE_STAT.STATE 0) lsSleep), 2 ^ 95 + 1, 2, by decide +kernel⟩,
    ⟨0, asks 0x0404 (pack [(1, (95)), (2, (60))]) (base mRun), 95, 60, by decide +kernel⟩,
    ⟨0, asks 0x0404 (pack [(1, (95)), (2, (1))]) (base mRun), 95, 1, by decide +kernel⟩,
    ⟨0, asks 0x0405 (pack [(1, (95)), (1, (65))]) (((base mRun).set (R.LANE_STAT.STATE 95) lsAlign)), 95, 65,
      by decide +kernel⟩,
    ⟨0, asks 0x0405 (pack [(1, (95)), (1, (65))]) (base mRun), 95, 65, by decide +kernel⟩,
    ⟨0, asks 0x0406 (pack [(1, (95)), (1, (31)), (1, (1)), (1, (3))]) (base mRun), 95, 31, 1, 3, by decide +kernel⟩,
    ⟨0, asks 0x0407 (pack [(1, (95)), (1, (1))]) (base mRun), 95, 1, by decide +kernel⟩,
    ⟨0, asks 0x0408 (pack [(1, (95)), (1, (224)), (1, (31)), (1, (129)), (1, (129)), (1, (36))]) (base mRun), 95,
      224, 31, 129, 129, 36, by decide +kernel⟩⟩

theorem witness_LaneCommandsComplete_2 :
    (∃ (mb : Fin 16) (s : State) (l : _) (p0 : _) (p1 : _) (o0 : _) (o1 : _) (e : _), s.serves mb 0x0408 [(1, l), (1,
      p0), (1, p1), (1, o0), (1, o1), (1, e)] ∧ l < 96 ∧ -32 ≤ sbyte p0 ∧ sbyte p0 ≤ sbyte p1 ∧ sbyte p1 ≤ 31 ∧
      -127 ≤ sbyte o0 ∧ sbyte o0 ≤ sbyte o1 ∧ 16 ≤ e ∧ e ≤ 36 ∧ (sbyte p1 - sbyte p0 + 1) * (sbyte o1 - sbyte o0 +
      1) ≤ 64 ∧ s.laneTested l = false ∧ (s.lst l).eye ≠ none) ∧
    (∃ (mb : Fin 16) (s : State) (l : _) (p : _) (q : _) (c : _) (d : _) (a : _), s.serves mb 0x0409 ([(1, l), (1,
      p), (1, q), (1, c)] ++ (bytesAt d 0 12).map (fun v => (1, v)) ++ [(1, a)]) ∧ l < 96 ∧ a < 3 ∧ eqRange p q c
      d = true ∧ s.laneTested l = false) :=
  ⟨⟨0, asks 0x0408 (pack [(1, (95)), (1, (224)), (1, (31)), (1, (129)), (1, (129)), (1, (36))]) (((base mRun).set
      (R.LANE_STAT.STATE 95) lsUp).modLane 95 fun b => { b with eye := some ⟨[(0, 0), (1, 0)], 16, 0⟩ }), 95, 224,
      31, 129, 129, 36, by decide +kernel⟩,
    ⟨0, asks 0x0409 (pack ([(1, (95)), (1, (12)), (1, (24)), (1, (31))] ++ (bytesAt ([129] ++ List.replicate 11 63) 0
      12).map (fun v => (1, v)) ++ [(1, (2))])) (base mRun), 95, 12, 24, 31, [129] ++ List.replicate 11 63, 2,
      by decide +kernel⟩⟩

theorem witness_LinkEventsComplete :
    (∃ (s : State) (x : Fin 96), let l := s.delivers x; s.laneState l = lsUp ∧ s.baseR l = false) ∧
    (∃ (s : State) (x : Fin 96) (slot : Nat) (td : BitVec 64) (tv : Bool), s.laneState x = lsUp ∧ 1 ≤ slot ∧
      slot ≤ s.get (R.LINK_CFG.TRIG_SLOTS x) ∧ s.mode = mSafe) ∧
    (∃ (s : State) (x : Fin 96) (slot : Nat) (td : BitVec 64) (tv : Bool),
      let word := tv && s.fab.writes && !s.trgBlocked x && !(s.lst x).trgEmpty && !s.fab.cutLanes.contains x.val;
      s.laneState x = lsUp ∧ 1 ≤ slot ∧ slot ≤ s.get (R.LINK_CFG.TRIG_SLOTS x) ∧ s.mode ≠ mSafe ∧ word = true) ∧
    (∃ (s : State) (x : Fin 96) (slot : Nat) (td : BitVec 64) (tv : Bool),
      let word := tv && s.fab.writes && !s.trgBlocked x && !(s.lst x).trgEmpty && !s.fab.cutLanes.contains x.val;
      s.laneState x = lsUp ∧ 1 ≤ slot ∧ slot ≤ s.get (R.LINK_CFG.TRIG_SLOTS x) ∧ s.mode ≠ mSafe ∧ word = false) ∧
    (∃ (s : State) (x : Fin 96) (slot : Nat), let l := s.delivers x; s.laneState l = lsUp ∧ 1 ≤ slot ∧ slot ≤ s.get
      (R.LINK_CFG.TRIG_SLOTS l)) ∧
    (∃ (s : State) (x : Fin 96), s.laneState x = lsUp ∧ s.baseR x = false) ∧
    (∃ (s : State) (x : Fin 96) (qs : Nat) (qe : Nat) (n : Nat) (vc : Nat) (pcrc : BitVec 32) (flits : List (BitVec
      256)), let f := s.bundleOf x;
      let good := pcrcOf qs n vc flits = pcrc.toNat ∧ qs = qe ∧ flits.length = n ∧ 1 ≤ n ∧ n ≤ 17 ∧ qs = (s.bdl f).rxSeq;
      s.streamOpen f = true ∧ good) ∧
    (∃ (s : State) (x : Fin 96) (qs : Nat) (qe : Nat) (n : Nat) (vc : Nat) (pcrc : BitVec 32) (flits : List (BitVec
      256)), let f := s.bundleOf x;
      let good := pcrcOf qs n vc flits = pcrc.toNat ∧ qs = qe ∧ flits.length = n ∧ 1 ≤ n ∧ n ≤ 17 ∧ qs = (s.bdl f).rxSeq;
      s.streamOpen f = true ∧ ¬ good) ∧
    (∃ (s : State) (x : Fin 96) (next : Nat) (credits : List Nat), let f := s.bundleOf x; s.streamOpen f = true ∧
      s.flag (R.LINK_STAT.BLOCKED f) = false) ∧
    (∃ (s : State) (x : Fin 96), let f := s.bundleOf x; s.flag (R.LINK_STAT.LINK_UP f) = true ∧ (s.bdl
      f).replay ≠ []) ∧
    (∃ (s : State) (x : Fin 96), let f := s.bundleOf x; s.flag (R.LINK_STAT.LINK_UP f) = false ∧ s.flag
      (R.LINK_STAT.BLOCKED f) = false ∧ s.baseR f = false ∧ s.up = true) ∧
    (∃ (s : State) (x : Fin 96), let f := s.bundleOf x; s.streamOpen f = true) :=
  ⟨⟨link95 (base mRun), 95, by decide +kernel⟩,
    ⟨link95 (base mSafe), 95, 31, BitVec.allOnes 64, true, by decide +kernel⟩,
    ⟨link95 (base mRun), 95, 31, BitVec.allOnes 64, true, by decide +kernel⟩,
    ⟨link95 (base mRun), 95, 31, BitVec.allOnes 64, false, by decide +kernel⟩,
    ⟨link95 (base mRun), 95, 31, by decide +kernel⟩,
    ⟨link95 (base mRun), 95, by decide +kernel⟩,
    ⟨(link95 (base mRun)).modBdl 95 fun b => { b with rxSeq := 4095 }, 95, 4095, 4095, 1, 0, BitVec.ofNat 32 (pcrcOf
      4095 1 0 [7]), [7], by decide +kernel⟩,
    ⟨link95 (base mRun), 95, 1, 2, 1, 0, 0, [7], by decide +kernel⟩,
    ⟨(link95 (base mRun)).modBdl 95 fun b => { b with replay := [(4095, pk 0 0 0 0 8 [])] }, 95, 0, [1, 0, 0, 0],
      by decide +kernel⟩,
    ⟨(link95 (base mRun)).modBdl 95 fun b => { b with replay := [(4095, pk 0 0 0 0 8 [])] }, 95, by decide +kernel⟩,
    ⟨base mRun, 95, by decide +kernel⟩,
    ⟨link95 (base mRun), 95, by decide +kernel⟩⟩

theorem witness_LinkEventsComplete_2 :
    (∃ (s : State) (x : Fin 96) (p : Pkt), let f := s.bundleOf x; f = x.val ∧ s.baseR f = false ∧ s.rxHead (0x100 +
      f) = some p) ∧
    (∃ (s : State) (x : Fin 96) (p : Pkt) (ps : List Pkt), let f := s.bundleOf x;
      let own := p.dev = s.devId ∨ ((s.lst x).loading = true ∧ s.mode = mLoad ∧ p.ep = 0xA1); f = x.val ∧ s.baseR
      f = false ∧ (s.bdl f).rxPkts = p :: ps ∧ own) ∧
    (∃ (s : State) (x : Fin 96) (p : Pkt) (ps : List Pkt), let f := s.bundleOf x;
      let own := p.dev = s.devId ∨ ((s.lst x).loading = true ∧ s.mode = mLoad ∧ p.ep = 0xA1); f = x.val ∧ s.baseR
      f = false ∧ (s.bdl f).rxPkts = p :: ps ∧ ¬ own ∧ p.dev = 0xFFFFF ∧ p.typ = 2) ∧
    (∃ (s : State) (x : Fin 96) (p : Pkt) (ps : List Pkt), let f := s.bundleOf x;
      let own := p.dev = s.devId ∨ ((s.lst x).loading = true ∧ s.mode = mLoad ∧ p.ep = 0xA1); f = x.val ∧ s.baseR
      f = false ∧ (s.bdl f).rxPkts = p :: ps ∧ ¬ own ∧ p.dev = 0xFFFFF ∧ p.typ ≠ 2) ∧
    (∃ (s : State) (x : Fin 96) (p : Pkt) (ps : List Pkt) (k : _), let f := s.bundleOf x;
      let own := p.dev = s.devId ∨ ((s.lst x).loading = true ∧ s.mode = mLoad ∧ p.ep = 0xA1); f = x.val ∧ s.baseR
      f = false ∧ (s.bdl f).rxPkts = p :: ps ∧ ¬ own ∧ p.dev ≠ 0xFFFFF ∧ s.exitBundle p.dev = some k ∧ k ≠ f ∧
      s.isSpaif k = true) ∧
    (∃ (s : State) (x : Fin 96) (p : Pkt) (ps : List Pkt), let f := s.bundleOf x;
      let own := p.dev = s.devId ∨ ((s.lst x).loading = true ∧ s.mode = mLoad ∧ p.ep = 0xA1); f = x.val ∧ s.baseR
      f = false ∧ (s.bdl f).rxPkts = p :: ps ∧ ¬ own ∧ p.dev ≠ 0xFFFFF ∧ s.exitBundle p.dev = none) ∧
    (∃ (s : State) (x : Fin 96) (c : _) (v : _) (ts : List (Nat × Nat)), let f := s.bundleOf x; s.flag
      (R.LINK_STAT.LINK_UP f) = true ∧ s.baseR f = false ∧ x.val = f + (s.bdl f).txPos % (s.bundleLanes f).length ∧
      (s.bdl f).timing = (c, v) :: ts) ∧
    (∃ (s : State) (x : Fin 96), let f := s.bundleOf x; s.flag (R.LINK_STAT.LINK_UP f) = true ∧ s.baseR f = false ∧
      x.val = f + (s.bdl f).txPos % (s.bundleLanes f).length ∧ (s.bdl f).timing = [] ∧ (s.bdl f).ackDue = true) ∧
    (∃ (s : State) (x : Fin 96), let f := s.bundleOf x; s.flag (R.LINK_STAT.LINK_UP f) = true ∧ s.baseR f = false ∧
      x.val = f + (s.bdl f).txPos % (s.bundleLanes f).length ∧ (s.bdl f).timing = [] ∧ (s.bdl f).ackDue = false ∧
      (s.bdl f).digest = none ∧ (s.bdl f).mgmt = [] ∧ s.nextPacket f = none ∧ s.mode ≠ mSafe) ∧
    (∃ (s : State) (x : Fin 96), s.laneState x = lsUp ∧ s.baseR x = true ∧ s.resyncing (256 + x) = false) ∧
    (∃ (s : State) (x : Fin 96), s.laneState x = lsUp ∧ s.baseR x = true ∧ s.fab.writes = true) :=
  ⟨⟨(link95 (base mRun)).modNoc fun n => { n with rx := [(0x15F, [pk 0 5 3 0 8 []])] }, 95, pk 0 5 3 0 8 [],
      by decide +kernel⟩,
    ⟨((link95 (base mRun)).modBdl 95 fun b => { b with rxPkts := [pk 3 0xFFFFD 3 0 8 []] }).set R.DEV_ID.ID 0xFFFFD,
      95, pk 3 0xFFFFD 3 0 8 [], [], by decide +kernel⟩,
    ⟨((link95 (base mRun)).modBdl 95 fun b => { b with rxPkts := [pk 2 0xFFFFF 3 0 8 []] }).set R.DEV_ID.ID 0xFFFFD,
      95, pk 2 0xFFFFF 3 0 8 [], [], by decide +kernel⟩,
    ⟨((link95 (base mRun)).modBdl 95 fun b => { b with rxPkts := [pk 3 0xFFFFF 3 0 8 []] }).set R.DEV_ID.ID 0xFFFFD,
      95, pk 3 0xFFFFF 3 0 8 [], [], by decide +kernel⟩,
    ⟨((((((link95 (base mRun)).modBdl 95 fun b => { b with rxPkts := [pk 3 7 3 0 8 []] }).set R.DEV_ID.ID
      0xFFFFD).set (R.DRT.MATCH 255) 7).set (R.DRT.MASK 255) (2 ^ 20 - 1)).set (R.DRT.BUNDLE 255) 92).set
      (R.DRT.VALID 255) 1, 95, pk 3 7 3 0 8 [], [], 92, by decide +kernel⟩,
    ⟨((link95 (base mRun)).modBdl 95 fun b => { b with rxPkts := [pk 3 7 3 0 8 []] }).set R.DEV_ID.ID 0xFFFFD, 95, pk
      3 7 3 0 8 [], [], by decide +kernel⟩,
    ⟨(link95 (base mRun)).modBdl 95 fun b => { b with timing := [(3, 9)] }, 95, 3, 9, [], by decide +kernel⟩,
    ⟨(link95 (base mRun)).modBdl 95 fun b => { b with ackDue := true }, 95, by decide +kernel⟩,
    ⟨link95 (base mRun), 95, by decide +kernel⟩,
    ⟨(link95 (base mRun)).set (R.LANE_CFG.PROTO 95) 2, 95, by decide +kernel⟩,
    ⟨(link95 (base mRun)).set (R.LANE_CFG.PROTO 95) 1, 95, by decide +kernel⟩⟩

theorem witness_SenderKeepsReplayAndCredit :
    (∃ (s : State) (t : State) (l : Fin 96), (s.bdl (s.bundleOf l)).replay.length ≤ 64 ∧ exec (.streamPositionTx l)
      s = .next t) ∧
    (∃ (s : State) (t : State) (l : Fin 96) (k : _), ((s.bdl (s.bundleOf l)).replay.length ≤ 64 ∧ k ≠ s.bundleOf l) ∧
      exec (.streamPositionTx l) s = .next t) :=
  ⟨⟨(link95 (base mRun)).modBdl 95 fun b => { b with replay := List.replicate 64 (4095, pk 0 0 0 0 8 []) }, nextOf
      (exec (.streamPositionTx (95 : Fin 96)) ((link95 (base mRun)).modBdl 95 fun b =>
      { b with replay := List.replicate 64 (4095, pk 0 0 0 0 8 []) })) ((link95 (base mRun)).modBdl 95 fun b =>
      { b with replay := List.replicate 64 (4095, pk 0 0 0 0 8 []) }), 95, by decide +kernel, (next_nextOf
      (by decide +kernel))⟩,
    ⟨link95 (base mRun), nextOf (exec (.streamPositionTx (95 : Fin 96)) (link95 (base mRun))) (link95 (base mRun)),
      95, 94, by decide +kernel, (next_nextOf (by decide +kernel))⟩⟩

theorem witness_TimingAndTwinEventsComplete :
    (∃ (s : State), s.up = true) ∧
    (∃ (s : State) (l : Fin 96) (a : Announce), s.timingLinks.contains (s.bundleOf l) = true ∧ s.streamOpen
      (s.bundleOf l) = true ∧ s.runClass = true) ∧
    (∃ (s : State) (l : Fin 96) (a : Announce), s.timingLinks.contains (s.bundleOf l) = true ∧ s.streamOpen
      (s.bundleOf l) = true ∧ s.runClass = false) ∧
    (∃ (s : State), let parent := s.get R.SYNC_STAT.PARENT; parent ≠ 0x7F ∧ 8 ≤ (s.bdl parent).silent) ∧
    (∃ (s : State) (l : Fin 96) (m : Nat) (f : Nat) (o : Nat), s.timingLinks.contains (s.bundleOf l) = true ∧
      s.streamOpen (s.bundleOf l) = true) ∧
    (∃ (s : State) (d : Int), let parent := s.get R.SYNC_STAT.PARENT; let w : Int := s.tickSteps parent;
      let follower := !s.flag R.STRAP_LATCH.MCLK_SRC;
      let ticks : Int := if w = 0 then 0 else (d + (if follower then w / 2 else 0)) / w;
      let done := (-2 ≤ d ∧ d ≤ 2) ∨ (follower = true ∧ ticks = 0); s.link.align ≠ none ∧ parent ≠ 0x7F ∧ (s.bdl
      parent).aligned = true ∧ s.offset parent = some d ∧ done) ∧
    (∃ (s : State) (d : Int), let parent := s.get R.SYNC_STAT.PARENT; let w : Int := s.tickSteps parent;
      let follower := !s.flag R.STRAP_LATCH.MCLK_SRC;
      let ticks : Int := if w = 0 then 0 else (d + (if follower then w / 2 else 0)) / w;
      let done := (-2 ≤ d ∧ d ≤ 2) ∨ (follower = true ∧ ticks = 0); s.link.align ≠ none ∧ parent ≠ 0x7F ∧ (s.bdl
      parent).aligned = true ∧ s.offset parent = some d ∧ ¬ done ∧ 4 ≤ s.link.tries) ∧
    (∃ (s : State) (d : Int), let parent := s.get R.SYNC_STAT.PARENT; let w : Int := s.tickSteps parent;
      let follower := !s.flag R.STRAP_LATCH.MCLK_SRC;
      let ticks : Int := if w = 0 then 0 else (d + (if follower then w / 2 else 0)) / w;
      let done := (-2 ≤ d ∧ d ≤ 2) ∨ (follower = true ∧ ticks = 0); s.link.align ≠ none ∧ parent ≠ 0x7F ∧ (s.bdl
      parent).aligned = true ∧ s.offset parent = some d ∧ ¬ done ∧ s.link.tries < 4) ∧
    (∃ (s : State) (l : Fin 96) (on : Bool), s.timingLinks.contains (s.bundleOf l) = true ∧ s.streamOpen (s.bundleOf
      l) = true) ∧
    (∃ (s : State), s.streamOpen 92 = true) ∧
    (∃ (s : State), s.pairReady = true ∧ s.streamOpen 92 = true ∧ s.get R.STRAP_LATCH.TWIN = 2) ∧
    (∃ (s : State), s.link.start = some s.clk.tick) :=
  ⟨⟨base mRun, by decide +kernel⟩,
    ⟨link95 (base mRun), 95, ⟨0, 5, 1, 0, 0, false⟩, by decide +kernel⟩,
    ⟨link95 (base mSafe), 95, ⟨0, 5, 1, 0, 0, false⟩, by decide +kernel⟩,
    ⟨((link95 (base mSafe)).set R.SYNC_STAT.PARENT 95).modBdl 95 fun b => { b with silent := 8 }, by decide +kernel⟩,
    ⟨link95 (base mRun), 95, 5, 4095, 7, by decide +kernel⟩,
    ⟨(((link95 (base mRun)).modBdl 95 fun b => { b with aligned := true, farMeas := some (0, 4) }).set
      R.SYNC_STAT.PARENT 95).modLink fun k => { k with align := some [] }, -2, by decide +kernel⟩,
    ⟨((((link95 (base mRun)).modBdl 95 fun b => { b with aligned := true, farMeas := some (0, 0), ownFine := 6 }).set
      R.SYNC_STAT.PARENT 95).modLink fun k => { k with align := some [], tries := 4 }).set R.STRAP_LATCH.MCLK_SRC 1,
      3, by decide +kernel⟩,
    ⟨((((link95 (base mRun)).modBdl 95 fun b => { b with aligned := true, farMeas := some (0, 0), ownFine := 6 }).set
      R.SYNC_STAT.PARENT 95).modLink fun k => { k with align := some [], tries := 3 }).set R.STRAP_LATCH.MCLK_SRC 1,
      3, by decide +kernel⟩,
    ⟨link95 (base mRun), 95, true, by decide +kernel⟩,
    ⟨(base mRun).set (R.LINK_STAT.LINK_UP 92) 1, by decide +kernel⟩,
    ⟨(pair92 (base mBlocking)).modAon fun a => { a with pairWait := true }, by decide +kernel⟩,
    ⟨(pair92 (base mRun)).modLink fun k => { k with start := some 1000 }, by decide +kernel⟩⟩

theorem witness_TimingAndTwinEventsComplete_2 :
    (∃ (s : State), s.flag R.DEV_MODE.COND_TWIN = true ∧ s.flag (R.LINK_STAT.LINK_UP 92) = true) ∧
    (∃ (s : State) (t16 : Nat) (t : Nat) (d : Nat) (g : BitVec 32), s.flag R.DEV_MODE.COND_TWIN = true ∧ s.streamOpen
      92 = true ∧ (s.link.digests.find? fun e => e.1 % 65536 == t16) = some (t, d) ∧ d = g.toNat) ∧
    (∃ (s : State) (t16 : Nat) (t : Nat) (d : Nat) (g : BitVec 32), s.flag R.DEV_MODE.COND_TWIN = true ∧ s.streamOpen
      92 = true ∧ (s.link.digests.find? fun e => e.1 % 65536 == t16) = some (t, d) ∧ d ≠ g.toNat) ∧
    (∃ (s : State), s.flag R.DEV_MODE.COND_TWIN = true) :=
  ⟨⟨((base mTwin).set R.DEV_MODE.COND_TWIN 1).set (R.LINK_STAT.LINK_UP 92) 1, by decide +kernel⟩,
    ⟨(((base mTwin).set R.DEV_MODE.COND_TWIN 1).set (R.LINK_STAT.LINK_UP 92) 1).modLink fun k =>
      { k with digests := [(66536, 5)] }, 1000, 66536, 5, 5, by decide +kernel⟩,
    ⟨(((base mTwin).set R.DEV_MODE.COND_TWIN 1).set (R.LINK_STAT.LINK_UP 92) 1).modLink fun k =>
      { k with digests := [(66536, 5)] }, 1000, 66536, 5, 6, by decide +kernel⟩,
    ⟨(base mTwin).set R.DEV_MODE.COND_TWIN 1, by decide +kernel⟩⟩

theorem witness_LinkCommandsComplete :
    (∃ (mb : Fin 16) (s : State) (l : _), s.serves mb 0x0410 [(1, l)] ∧ l < 96 ∧ s.laneTested l = false) ∧
    (∃ (mb : Fin 16) (s : State) (e : _) (m : _) (k : _) (b : _) (v : _), s.serves mb 0x0411 [(2, e), (3, m), (3, k),
      (1, b), (1, v)] ∧ e < 256 ∧ m < 2 ^ 20 ∧ k < 2 ^ 20 ∧ b < 96 ∧ v < 2) ∧
    (∃ (mb : Fin 16) (s : State) (e : _) (n : _), s.serves mb 0x0412 [(2, e), (1, n)] ∧ e + n ≤ 256 ∧ 1 ≤ n ∧ n ≤ 16) ∧
    (∃ (mb : Fin 16) (s : State) (d : _), s.serves mb 0x0413 [(3, d)] ∧ 0xFFFFE ≤ d) ∧
    (∃ (mb : Fin 16) (s : State) (d : _), s.serves mb 0x0413 [(3, d)] ∧ d < 0xFFFFE ∧ s.runClass = true) ∧
    (∃ (mb : Fin 16) (s : State) (d : _), s.serves mb 0x0413 [(3, d)] ∧ d < 0xFFFFE ∧ s.runClass = false) ∧
    (∃ (mb : Fin 16) (s : State), s.serves mb 0x0414 [] ∧ s.underTest 0x97 = false) ∧
    (∃ (mb : Fin 16) (s : State) (p : _), s.serves mb 0x0415 [(1, p), (2, 0)] ∧ p < 2 ∧ s.underTest 0x97 = false) ∧
    (∃ (mb : Fin 16) (s : State) (p : _), s.serves mb 0x0510 [(1, p)] ∧ p < 256 ∧ s.devId = 0xFFFFE) ∧
    (∃ (mb : Fin 16) (s : State) (p : _), s.serves mb 0x0510 [(1, p)] ∧ p < 256 ∧ s.devId ≠ 0xFFFFE) ∧
    (∃ (mb : Fin 16) (s : State), s.serves mb 0x0511 []) ∧
    (∃ (mb : Fin 16) (s : State), s.serves mb 0x0512 [] ∧ s.get R.SYNC_STAT.PARENT = 0x7F) :=
  ⟨⟨0, asks 0x0410 (pack [(1, (95))]) (base mRun), 95, by decide +kernel⟩,
    ⟨0, asks 0x0411 (pack [(2, (255)), (3, (2 ^ 20 - 1)), (3, (2 ^ 20 - 1)), (1, (95)), (1, (1))]) (base mRun), 255,
      2 ^ 20 - 1, 2 ^ 20 - 1, 95, 1, by decide +kernel⟩,
    ⟨0, asks 0x0412 (pack [(2, (240)), (1, (16))]) (base mRun), 240, 16, by decide +kernel⟩,
    ⟨0, asks 0x0413 (pack [(3, (0xFFFFE))]) (base mRun), 0xFFFFE, by decide +kernel⟩,
    ⟨0, asks 0x0413 (pack [(3, (0xFFFFD))]) (base mRun), 0xFFFFD, by decide +kernel⟩,
    ⟨0, asks 0x0413 (pack [(3, (0xFFFFD))]) (base mSafe), 0xFFFFD, by decide +kernel⟩,
    ⟨0, asks 0x0414 (pack []) (base mRun), by decide +kernel⟩,
    ⟨0, asks 0x0415 (pack [(1, (1)), (2, 0)]) (base mRun), 1, by decide +kernel⟩,
    ⟨0, asks 0x0510 (pack [(1, (255))]) ((base mRun).set R.DEV_ID.ID 0xFFFFE), 255, by decide +kernel⟩,
    ⟨0, asks 0x0510 (pack [(1, (255))]) ((base mRun).set R.DEV_ID.ID 0xFFFFD), 255, by decide +kernel⟩,
    ⟨0, asks 0x0511 (pack []) (base mRun), by decide +kernel⟩,
    ⟨0, asks 0x0512 (pack []) ((base mRun).set R.SYNC_STAT.PARENT 0x7F), by decide +kernel⟩⟩

theorem witness_LinkCommandsComplete_2 :
    (∃ (mb : Fin 16) (s : State), s.serves mb 0x0512 [] ∧ s.get R.SYNC_STAT.PARENT ≠ 0x7F) ∧
    (∃ (mb : Fin 16) (s : State) (l : Nat) (ps : Int), s.serves mb 0x0513 [(1, l), (3, ofSigned 24 ps)] ∧ l < 96 ∧
      -100000 ≤ ps ∧ ps ≤ 100000 ∧ s.laneTested l = false) :=
  ⟨⟨0, asks 0x0512 (pack []) ((link95 (base mRun)).set R.SYNC_STAT.PARENT 95), by decide +kernel⟩,
    ⟨0, asks 0x0513 (pack [(1, (95)), (3, ofSigned 24 (-100000))]) (base mRun), 95, -100000, by decide +kernel⟩⟩

theorem witness_NocEventsComplete :
    (∃ (s : State) (r : Fin 128), ((s.runClass = true ∨ s.mode = mBlocking) ∧ s.borderBlocks r = false ∧ s.regionDown
      r = false ∧ s.resyncing (512 + r.val) = false ∧ s.clocked 4 = true) ∧ s.npClocked r = true) ∧
    (∃ (s : State) (r : Fin 128), s.flag (R.BORDER_STAT.HOLDING r) = true) ∧
    (∃ (s : State) (n : Fin 160) (port : Fin 6) (w : Worm), let u := localSlot n port s; s.nocRuns = true ∧
      (s.mode ≠ mBoot ∨ 128 ≤ n.val) ∧ (u.headsAt n port).find? (u.hopActs n) = some w ∧ 2 ≤ u.rtrState n) ∧
    (∃ (s : State) (n : Fin 160) (port : Fin 6) (w : Worm), let u := localSlot n port s; s.nocRuns = true ∧
      (s.mode ≠ mBoot ∨ 128 ≤ n.val) ∧ (u.headsAt n port).find? (u.hopActs n) = some w ∧ u.rtrState n < 2 ∧
      6 ≤ w.pkt.typ) ∧
    (∃ (s : State) (n : Fin 160) (port : Fin 6) (w : Worm), let u := localSlot n port s; let h := w.pkt.route % 8;
      s.nocRuns = true ∧ (s.mode ≠ mBoot ∨ 128 ≤ n.val) ∧ (u.headsAt n port).find? (u.hopActs n) = some w ∧
      u.rtrState n < 2 ∧ w.pkt.typ < 6 ∧ hopPort n h = none) ∧
    (∃ (s : State) (n : Fin 160) (port : Fin 6) (w : Worm) (o : _), let u := localSlot n port s;
      let h := w.pkt.route % 8; s.nocRuns = true ∧ (s.mode ≠ mBoot ∨ 128 ≤ n.val) ∧ (u.headsAt n port).find?
      (u.hopActs n) = some w ∧ u.rtrState n < 2 ∧ w.pkt.typ < 6 ∧ hopPort n h = some o ∧ (u.penAct n).testBit
      o = false) ∧
    (∃ (s : State) (n : Fin 160) (port : Fin 6) (w : Worm) (o : _), let u := localSlot n port s;
      let h := w.pkt.route % 8; s.nocRuns = true ∧ (s.mode ≠ mBoot ∨ 128 ≤ n.val) ∧ (u.headsAt n port).find?
      (u.hopActs n) = some w ∧ u.rtrState n < 2 ∧ w.pkt.typ < 6 ∧ hopPort n h = some o ∧ (u.penAct n).testBit
      o = true ∧ o = 4) ∧
    (∃ (s : State) (n : Fin 160) (port : Fin 6) (w : Worm) (o : _) (m : _) (ip : _), let u := localSlot n port s;
      let h := w.pkt.route % 8; s.nocRuns = true ∧ (s.mode ≠ mBoot ∨ 128 ≤ n.val) ∧ (u.headsAt n port).find?
      (u.hopActs n) = some w ∧ u.rtrState n < 2 ∧ w.pkt.typ < 6 ∧ hopPort n h = some o ∧ (u.penAct n).testBit
      o = true ∧ o ≠ 4 ∧ neighbour n o = (m, ip)) ∧
    (∃ (s : State), s.nocRuns = true) ∧
    (∃ (s : State) (e : Fin 1024) (p : Pkt) (rest : List Pkt) (q : _), let l := at' s.noc.out e []; at' s.noc.resp e
      [] = p :: rest ∧ (l.find? fun q => q.seq == p.reqSeq) = some q) ∧
    (∃ (s : State) (e : Fin 1024) (p : Pkt) (rest : List Pkt), let l := at' s.noc.out e []; at' s.noc.resp e [] = p
      :: rest ∧ (l.find? fun q => q.seq == p.reqSeq) = none) ∧
    (∃ (s : State) (e : Fin 1024) (q : Pkt) (seq : Nat), let l := at' s.noc.out e []; s.nocRuns = true ∧ s.get
      (R.NI_CFG.TXN_TO e) ≠ 0 ∧ (l.find? fun q => q.seq == seq) = some q) :=
  ⟨⟨hard127 (base mRun), 127, by decide +kernel, (acts_all _ false)⟩,
    ⟨(base mRun).set (R.BORDER_STAT.HOLDING 127) 1, 127, by decide +kernel⟩,
    ⟨(base mRun).modNoc fun n =>
      { n with worms := [⟨127, 4, 0, { pk 0 0 0 0 8 [] with route := 3 }⟩], rst := [(3, 2)] }, 127, 4, ⟨127, 4, 0,
      { pk 0 0 0 0 8 [] with route := 3 }⟩, by decide +kernel⟩,
    ⟨(base mRun).modNoc fun n => { n with worms := [⟨159, 5, 0, { pk 15 0 0 0 8 [] with route := 0 }⟩] }, 159, 5,
      ⟨159, 5, 0, { pk 15 0 0 0 8 [] with route := 0 }⟩, by decide +kernel⟩,
    ⟨(base mRun).modNoc fun n => { n with worms := [⟨127, 0, 0, { pk 0 0 0 0 8 [] with route := 6 }⟩] }, 127, 0,
      ⟨127, 0, 0, { pk 0 0 0 0 8 [] with route := 6 }⟩, by decide +kernel⟩,
    ⟨(base mRun).modNoc fun n =>
      { n with worms := [⟨127, 0, 0, { pk 0 0 0 0 8 [] with route := 3 }⟩], penAct := [(127, 55)] }, 127, 0, ⟨127, 0,
      0, { pk 0 0 0 0 8 [] with route := 3 }⟩, 3, by decide +kernel⟩,
    ⟨(base mRun).modNoc fun n => { n with worms := [⟨127, 0, 0, { pk 0 0 0 0 8 [] with route := 4 }⟩] }, 127, 0,
      ⟨127, 0, 0, { pk 0 0 0 0 8 [] with route := 4 }⟩, 4, by decide +kernel⟩,
    ⟨(base mRun).modNoc fun n => { n with worms := [⟨127, 4, 0, { pk 0 0 0 0 8 [] with route := 3 }⟩] }, 127, 4,
      ⟨127, 4, 0, { pk 0 0 0 0 8 [] with route := 3 }⟩, 3, 126, 1, by decide +kernel⟩,
    ⟨(base mRun).modNoc fun n => { n with worms := [⟨159, 5, 0, { pk 0 0 0 0 8 [] with route := 0 }⟩] },
      by decide +kernel⟩,
    ⟨(base mRun).modNoc fun n => { n with resp := [(1023, [pk 0 0 0 0 8 [1]])], out := [(1023, [pk 0 0 0 0 8 []])] },
      1023, pk 0 0 0 0 8 [1], [], pk 0 0 0 0 8 [], by decide +kernel⟩,
    ⟨(base mRun).modNoc fun n => { n with resp := [(1023, [pk 0 0 0 0 8 []])] }, 1023, pk 0 0 0 0 8 [], [],
      by decide +kernel⟩,
    ⟨(base mRun).modNoc fun n => { n with out := [(127, [pk 0 0 0 0 8 []])] }, 127, pk 0 0 0 0 8 [], 0,
      by decide +kernel⟩⟩

theorem witness_NocEventsComplete_2 :
    (∃ (s : State) (e : Fin 1024) (q : Pkt) (seq : Nat) (p : Pkt), let l := at' s.noc.out e []; s.nocRuns = true ∧
      s.get (R.NI_CFG.TXN_TO e) ≠ 0 ∧ (l.find? fun q => q.seq == seq) = some q ∧ ((at' s.noc.resp e []).find? fun p
      => p.reqSeq == seq) = some p) ∧
    (∃ (s : State) (r : Fin 128) (p : Pkt), s.rxHead r = some p ∧ at' s.noc.rxFlit r 0 = 0) ∧
    (∃ (s : State) (r : Fin 128) (p : Pkt), (s.rxHead r = some p ∧ s.borderBlocks r = false ∧ s.regionDown r = false
      ∧ s.resyncing (512 + r.val) = false) ∧ s.npClocked r = true) ∧
    (∃ (s : State) (e : Fin 1024) (p : Pkt) (l : List Pkt), s.up = true ∧ at' s.noc.door e [] = p :: l ∧ s.asleep
      e = false) ∧
    (∃ (s : State) (e : Fin 1024) (p : Pkt) (l : List Pkt), s.up = true ∧ at' s.noc.door e [] = p :: l ∧ s.asleep
      e = true) ∧
    (∃ (s : State) (n : Fin 160), s.rtrState n = 1 ∧ s.clocked 4 = true) ∧
    (∃ (s : State) (q : Fin 5), at' s.noc.rst q 0 = 2) ∧
    (∃ (s : State), s.up = true) ∧
    (∃ (s : State) (n : Fin 160), s.up = true ∧ s.rtrState n = 0) :=
  ⟨⟨(base mRun).modNoc fun n => { n with out := [(127, [pk 0 0 0 0 8 []])], resp := [(127, [pk 0 0 0 0 8 [1]])] },
      127, pk 0 0 0 0 8 [], 0, pk 0 0 0 0 8 [1], by decide +kernel⟩,
    ⟨(base mRun).modNoc fun n => { n with rx := [(127, [pk 0 0 0 0 8 []])] }, 127, pk 0 0 0 0 8 [],
      by decide +kernel⟩,
    ⟨(hard127 (base mRun)).modNoc fun n => { n with rx := [(127, [pk 1 0 127 0 32 []])] }, 127, pk 1 0 127 0 32 [],
      by decide +kernel, (acts_all _ false)⟩,
    ⟨(base mRun).modNoc fun n => { n with door := [(127, [pk 0 0 0 0 8 []])] }, 127, pk 0 0 0 0 8 [], [],
      by decide +kernel⟩,
    ⟨(base mQuiescent).modNoc fun n => { n with door := [(255, [pk 0 0 0 0 8 []])] }, 255, pk 0 0 0 0 8 [], [],
      by decide +kernel⟩,
    ⟨(base mRun).modNoc fun n => { n with drain := [(159, 0)] }, 159, by decide +kernel⟩,
    ⟨(base mRun).modNoc fun n => { n with rst := [(4, 2)] }, 4, by decide +kernel⟩,
    ⟨base mRun, by decide +kernel⟩,
    ⟨base mRun, 159, by decide +kernel⟩⟩

theorem witness_RefusedPacketIsAnsweredOrLogged :
    (∃ (p : Pkt) (s : State), pktReq p = true ∧ p.srcDev = s.devId) ∧
    (∃ (p : Pkt) (s : State) (k : Nat), pktReq p = true ∧ p.srcDev ≠ s.devId ∧ s.exitBundle p.srcDev = some k) ∧
    (∃ (p : Pkt) (s : State), pktReq p = true ∧ p.srcDev ≠ s.devId ∧ s.exitBundle p.srcDev = none) ∧
    (∃ (p : Pkt), pktReq p = false) :=
  ⟨⟨{ pk 1 0 3 0 8 [] with srcDev := 5 }, (base mRun).set R.DEV_ID.ID 5, by decide +kernel⟩,
    ⟨{ pk 1 0 3 0 8 [] with srcDev := 7 }, ((((base mRun).set (R.DRT.MATCH 255) 7).set (R.DRT.MASK 255) (2 ^ 20 -
      1)).set (R.DRT.BUNDLE 255) 95).set (R.DRT.VALID 255) 1, 95, by decide +kernel⟩,
    ⟨{ pk 1 0 3 0 8 [] with srcDev := 5 }, base mRun, by decide +kernel⟩,
    ⟨pk 2 0 3 0 8 [], by decide +kernel⟩⟩

theorem witness_InterfaceStampsItsRequests :
    (∃ (s : State) (e : Nat) (p : Pkt), pktReq p = true ∧ s.shedNi e p = false ∧ (at' s.noc.shed e [] = [] ∨
      p.vc ≠ 0)) ∧
    (∃ (s : State) (e : Nat) (p : Pkt), s.shedNi e p = true) ∧
    (∃ (s : State) (e : Nat) (p : Pkt) (rest : List Pkt), let v := at' s.noc.saved e 0 + s.get R.THERM_STAT.P; at'
      s.noc.shed e [] = p :: rest ∧ s.shedNi e p = true ∧ s.get R.THERM_STAT.P ≤ 16 ∧ v < 16 * pktFlits p) ∧
    (∃ (s : State) (e : Nat) (p : Pkt) (rest : List Pkt), let v := at' s.noc.saved e 0 + s.get R.THERM_STAT.P; at'
      s.noc.shed e [] = p :: rest ∧ s.shedNi e p = true ∧ s.get R.THERM_STAT.P ≤ 16 ∧ 16 * pktFlits p ≤ v) :=
  ⟨⟨base mRun, 1023, pk 1 0 3 0 8 [], by decide +kernel⟩,
    ⟨(((base mLimit).set (R.NI_CFG.SHED 127) 1).set R.THERM_STAT.P 16).modNoc fun n =>
      { n with shed := [(127, [pk 1 0 3 0 8 []])] }, 127, pk 1 0 3 0 8 [], by decide +kernel⟩,
    ⟨(((base mLimit).set (R.NI_CFG.SHED 127) 1).set R.THERM_STAT.P 15).modNoc fun n =>
      { n with shed := [(127, [pk 1 0 3 0 8 []])] }, 127, pk 1 0 3 0 8 [], [], by decide +kernel⟩,
    ⟨(((base mLimit).set (R.NI_CFG.SHED 127) 1).set R.THERM_STAT.P 16).modNoc fun n =>
      { n with shed := [(127, [pk 0 0 3 0 8 []])] }, 127, pk 0 0 3 0 8 [], [], by decide +kernel⟩⟩

theorem witness_NocCommandsComplete :
    (∃ (mb : Fin 16) (s : State) (e : _) (i : _) (h : _) (v : _),
      let free := fun k => s.underTest (meshFunc (meshOf k)) = false; s.serves mb 0x0B00 [(2, e), (2, i), (11, h),
      (1, v)] ∧ endpointExists e = true ∧ i < 1024 ∧ v < 2 ∧ hopsOk (decide (128 ≤ endpointElem e)) h = true ∧ free
      (endpointElem e)) ∧
    (∃ (mb : Fin 16) (s : State) (e : _) (i : _) (h : _) (v : _), s.serves mb 0x0B00 [(2, e), (2, i), (11, h), (1,
      v)] ∧ endpointExists e = true ∧ i < 1024 ∧ v < 2 ∧ hopsOk (decide (128 ≤ endpointElem e)) h = false) ∧
    (∃ (mb : Fin 16) (s : State) (e : _) (i : _) (n : _),
      let free := fun k => s.underTest (meshFunc (meshOf k)) = false; s.serves mb 0x0B01 [(2, e), (2, i), (1, n)] ∧
      endpointExists e = true ∧ i + n ≤ 1024 ∧ 1 ≤ n ∧ n ≤ 16 ∧ free (endpointElem e)) ∧
    (∃ (mb : Fin 16) (s : State) (n : _) (pen : _) (vc2 : _),
      let free := fun k => s.underTest (meshFunc (meshOf k)) = false; s.serves mb 0x0B02 [(1, n), (1, pen), (1, vc2)]
      ∧ n < 160 ∧ pen < 64 ∧ vc2 < 64 ∧ free n ∧ s.rtrState n ≠ 1) ∧
    (∃ (mb : Fin 16) (s : State) (n : _) (pen : _) (vc2 : _),
      let free := fun k => s.underTest (meshFunc (meshOf k)) = false; s.serves mb 0x0B02 [(1, n), (1, pen), (1, vc2)]
      ∧ n < 160 ∧ pen < 64 ∧ vc2 < 64 ∧ free n ∧ s.rtrState n = 1) ∧
    (∃ (mb : Fin 16) (s : State) (e : _) (tmo : _) (c : _) (d : _) (sh : _),
      let free := fun k => s.underTest (meshFunc (meshOf k)) = false; s.serves mb 0x0B03 [(2, e), (2, tmo), (1, c),
      (1, d), (1, sh)] ∧ endpointExists e = true ∧ c < 8 ∧ d < 32 ∧ sh < 2 ∧ free (endpointElem e)) ∧
    (∃ (mb : Fin 16) (s : State) (n : _), let free := fun k => s.underTest (meshFunc (meshOf k)) = false; s.serves mb
      0x0B04 [(1, 0), (2, n)] ∧ n < 160 ∧ free n) ∧
    (∃ (mb : Fin 16) (s : State) (e : _), let free := fun k => s.underTest (meshFunc (meshOf k)) = false; s.serves mb
      0x0B04 [(1, 1), (2, e)] ∧ endpointExists e = true ∧ free (endpointElem e)) ∧
    (∃ (mb : Fin 16) (s : State) (first : _) (n : _) (clear : _), s.serves mb 0x0B05 [(1, first), (1, n), (1, clear)]
      ∧ first < 64 ∧ 1 ≤ n ∧ n ≤ 16 ∧ clear < 2) :=
  ⟨⟨0, asks 0x0B00 (pack [(2, (127)), (2, (1023)), (11, (2 ^ 84 - 4)), (1, (1))]) (base mRun), 127, 1023, 2 ^ 84 -
      4, 1, by decide +kernel⟩,
    ⟨0, asks 0x0B00 (pack [(2, (0x15F)), (2, (1023)), (11, (7)), (1, (0))]) (base mRun), 0x15F, 1023, 7, 0,
      by decide +kernel⟩,
    ⟨0, asks 0x0B01 (pack [(2, (0x15F)), (2, (1008)), (1, (16))]) (base mRun), 0x15F, 1008, 16, by decide +kernel⟩,
    ⟨0, asks 0x0B02 (pack [(1, (159)), (1, (63)), (1, (63))]) (base mRun), 159, 63, 63, by decide +kernel⟩,
    ⟨0, asks 0x0B02 (pack [(1, (159)), (1, (63)), (1, (63))]) ((base mRun).modNoc fun n =>
      { n with drain := [(159, 0)] }), 159, 63, 63, by decide +kernel⟩,
    ⟨0, asks 0x0B03 (pack [(2, (0x15F)), (2, (65535)), (1, (7)), (1, (31)), (1, (1))]) (base mRun), 0x15F, 65535, 7,
      31, 1, by decide +kernel⟩,
    ⟨0, asks 0x0B04 (pack [(1, 0), (2, (159))]) (base mRun), 159, by decide +kernel⟩,
    ⟨0, asks 0x0B04 (pack [(1, 1), (2, (0x15F))]) (base mRun), 0x15F, by decide +kernel⟩,
    ⟨0, asks 0x0B05 (pack [(1, (63)), (1, (16)), (1, (1))]) (base mRun), 63, 16, 1, by decide +kernel⟩⟩

theorem witness_LoadEventsComplete :
    (∃ (s : State), (s.cfgRuns = true ∧ s.cfg.discard = false ∧ s.cfg.skipLeft = 0) ∧
      s.cfg.input.length < Config.cfgBuffer + 16) ∧
    (∃ (s : State), (s.cfgRuns = true ∧ s.cfg.discard = false ∧ s.cfg.skipLeft = 0) ∧ Config.cfgBuffer +
      16 ≤ s.cfg.input.length) ∧
    (∃ (s : State), s.cfgRuns = true ∧ s.cfg.discard = false ∧ 0 < s.cfg.skipLeft) ∧
    (∃ (s : State) (p : Pkt) (l : Load), s.cfgRuns = true ∧ s.rxHead 0xA1 = some p ∧ p.typ = 2 ∧ s.cfg.load = some l
      ∧ fromSource l p = true ∧ p.off = l.pos % 2 ^ 32 ∧ p.data.length % 8 = 0) ∧
    (∃ (s : State) (p : Pkt) (l : Load), s.cfgRuns = true ∧ s.rxHead 0xA1 = some p ∧ p.typ = 2 ∧ s.cfg.load = some l
      ∧ fromSource l p = true ∧ p.off ≠ l.pos % 2 ^ 32) ∧
    (∃ (s : State) (l : Load), s.cfgRuns = true ∧ s.cfg.load = some l ∧ l.stage = 0 ∧ (s.ready l 6).length = 6) ∧
    (∃ (s : State) (l : Load), let h := s.ready l 6; s.cfgRuns = true ∧ s.cfg.load = some l ∧ l.stage = 0 ∧ (s.ready
      l 6).length = 6 ∧ magicOk (h.getD 0 0) = false) ∧
    (∃ (s : State), s.cfgRuns = true ∧ (s.cfg.load.filter fun l => l.stage == 0) = none ∧ s.portFree = true) ∧
    (∃ (s : State) (h : List Nat) (r : List Nat), s.cfgRuns = true ∧ s.cfg.load = none ∧ s.cfg.fwdLeft = 0 ∧
      s.cfg.skipLeft = 0 ∧ s.cfg.discard = false ∧ s.cfg.input = h ++ r ∧ h.length = 6 ∧ magicOk (h.getD 0 0) = true
      ∧ s.flag R.STRAP_LATCH.FIRST = true ∧ h.getD 1 0 % 32 ≠ s.get R.CFG_STAT.POSITION ∧ s.get
      R.CFG_STAT.POSITION ≠ 31) ∧
    (∃ (s : State) (n : Nat), s.cfgRuns = true ∧ 0 < s.cfg.fwdLeft) ∧
    (∃ (s : State) (l : Load) (n : Nat), let x := (List.range (1 + n)).map fun i => s.plainWord l (l.parsed + i);
      (s.cfgRuns = true ∧ l.stage = 1 ∧ l.stopped = false ∧ l.parsed + 1 + n ≤ l.length ∧ l.body.length = l.parsed +
      1 + n ∧ (l.kind = 2 → ∀ k ∈ recordPlanes x, (s.ctxR (k / 4)).claimReq = none)) ∧ s.cfg.load = some l ∧
      s.plainWord l l.parsed % 256 ≠ 255 ∧ s.bodyWords l (s.plainWord l l.parsed) = some n) ∧
    (∃ (s : State) (l : Load), (s.cfgRuns = true ∧ l.stage = 1 ∧ l.stopped = false ∧ l.body.length = l.parsed + 1) ∧
      s.cfg.load = some l ∧ s.plainWord l l.parsed % 256 ≠ 255 ∧ s.bodyWords l (s.plainWord l l.parsed) = none) :=
  ⟨⟨(base mRun).set R.SEC_PROT.LOCK 1, by decide +kernel, (Nat.lt_of_lt_of_le ((by decide : (0 : Nat) < 16))
      (Nat.le_add_left 16 _))⟩,
    ⟨((base mRun).set R.SEC_PROT.LOCK 1).modCfg fun c =>
      { c with input := List.replicate (Config.cfgBuffer + 16) 0 }, by decide +kernel, (Nat.le_of_eq
      List.length_replicate.symm)⟩,
    ⟨((base mRun).set R.SEC_PROT.LOCK 1).modCfg fun c => { c with skipLeft := 1 }, by decide +kernel⟩,
    ⟨(loads (ld 0 0 0) (base mRun)).modNoc fun n =>
      { n with rx := [(0xA1, [pk 2 0 0xA1 0 8 (List.replicate 8 1)])] }, pk 2 0 0xA1 0 8 (List.replicate 8 1), ld 0 0
      0, by decide +kernel⟩,
    ⟨(loads (ld 0 0 0) (base mRun)).modNoc fun n =>
      { n with rx := [(0xA1, [pk 2 0 0xA1 8 8 (List.replicate 8 1)])] }, pk 2 0 0xA1 8 8 (List.replicate 8 1), ld 0 0
      0, by decide +kernel⟩,
    ⟨(loads ({ newLoad 0 1 0 0 0 100 0 with stage := 0 }) (base mRun)).modCfg fun c =>
      { c with input := [0, 0, 0, 0, 0, 0] ++ [9] }, { newLoad 0 1 0 0 0 100 0 with stage := 0 }, by decide +kernel⟩,
    ⟨(loads ({ newLoad 0 1 0 0 0 100 0 with stage := 0 }) (base mRun)).modCfg fun c =>
      { c with input := [0, 0, 0, 0, 0, 0] ++ [9] }, { newLoad 0 1 0 0 0 100 0 with stage := 0 }, by decide +kernel⟩,
    ⟨((base mRun).set R.SEC_PROT.LOCK 1).modCfg fun c => { c with input := [0, 0, 0, 0, 0, 0] ++ [9] },
      by decide +kernel⟩,
    ⟨((((base mRun).set R.SEC_PROT.LOCK 1).set R.STRAP_LATCH.FIRST 1).set R.CFG_STAT.POSITION 30).modCfg fun c =>
      { c with input := [0x4B39015244524F, 1 + 5 * 2 ^ 32, 0, 0, 0, 0] ++ [9] }, [0x4B39015244524F, 1 + 5 * 2 ^ 32,
      0, 0, 0, 0], [9], by decide +kernel⟩,
    ⟨((base mRun).set R.SEC_PROT.LOCK 1).modCfg fun c => { c with input := [9], fwdLeft := 2 }, 1, by decide +kernel⟩,
    ⟨loads (bodyLd 0 4 5 [0, 0, 0]) (base mRun), bodyLd 0 4 5 [0, 0, 0], 3, by decide +kernel, (rfl),
      (by rw [plain_parsed]; decide +kernel), (by rw [plain_parsed]; decide +kernel)⟩,
    ⟨loads (bodyLd 0 1 254 []) (base mRun), bodyLd 0 1 254 [], by decide +kernel, (rfl),
      (by rw [plain_parsed]; decide +kernel), (by rw [plain_parsed]; decide +kernel)⟩⟩

theorem witness_LoadEventsComplete_2 :
    (∃ (s : State) (l : Load), (s.cfgRuns = true ∧ l.stage = 1 ∧ l.stopped = false ∧ l.kind = 0 ∧ l.isPartial = false
      ∧ l.body.length = l.parsed + 1 ∧ l.parsed + 1 ≤ l.length ∧ l.landUsed + 8 ≤ l.banks.length * 2 ^ 21) ∧
      s.cfg.load = some l ∧ s.plainWord l l.parsed % 256 = 9) ∧
    (∃ (s : State) (l : Load), (s.cfgRuns = true ∧ l.stage = 1 ∧ l.stopped = false ∧ l.body.length = l.parsed + 1 ∧
      l.length = l.parsed + 1) ∧ s.cfg.load = some l ∧ s.plainWord l l.parsed % 256 = 255) ∧
    (∃ (s : State) (l : Load), (s.cfgRuns = true ∧ l.stage = 1 ∧ l.stopped = false ∧ l.body.length = l.parsed + 1 ∧
      l.parsed + 1 < l.length) ∧ s.cfg.load = some l ∧ s.plainWord l l.parsed % 256 = 255) ∧
    (∃ (s : State) (l : Load), let tag := (s.ready l 2).flatMap (leBytes 8);
      let good := gcmTag (s.segKey l) l.iv l.aad (l.body.flatMap (leBytes 8)) = tag; (s.cfgRuns = true ∧ l.stage = 2
      ∧ l.body.length = l.length ∧ (s.ready l 2).length = 2) ∧ s.cfg.load = some l ∧ ¬ good) ∧
    (∃ (s : State) (l : Load), let tag := (s.ready l 2).flatMap (leBytes 8);
      let good := gcmTag (s.segKey l) l.iv l.aad (l.body.flatMap (leBytes 8)) = tag; (s.cfgRuns = true ∧ l.stage = 2
      ∧ l.body.length = l.length ∧ (s.ready l 2).length = 2 ∧ 2 ≤ l.kind) ∧ s.cfg.load = some l ∧ ¬ good) ∧
    (∃ (s : State) (l : Load), let tag := (s.ready l 2).flatMap (leBytes 8);
      let good := gcmTag (s.segKey l) l.iv l.aad (l.body.flatMap (leBytes 8)) = tag; (s.cfgRuns = true ∧ l.stage = 2
      ∧ l.body.length = l.length ∧ (s.ready l 2).length = 2 ∧ (l.stopped = true ∨ l.incomplete = true)) ∧
      s.cfg.load = some l ∧ good) ∧
    (∃ (s : State) (l : Load), let tag := (s.ready l 2).flatMap (leBytes 8);
      let good := gcmTag (s.segKey l) l.iv l.aad (l.body.flatMap (leBytes 8)) = tag; (s.cfgRuns = true ∧ l.stage = 2
      ∧ l.body.length = l.length ∧ (s.ready l 2).length = 2 ∧ l.stopped = false ∧ l.incomplete = false) ∧
      s.cfg.load = some l ∧ good) ∧
    (∃ (s : State) (l : Load) (w : List Nat), s.cfgRuns = true ∧ s.cfg.load = some l ∧ l.stage = 3 ∧ s.ready l 12 = w
      ∧ w.length = 12) ∧
    (∃ (s : State) (l : Load), s.cfgRuns = true ∧ s.cfg.load = some l ∧ l.stage = 4 ∧ l.kind < 2) ∧
    (∃ (s : State) (l : Load), s.cfgRuns = true ∧ s.cfg.load = some l ∧ l.source ≠ 0) ∧
    (∃ (s : State) (l : Load),
      let u := (s.modCfg fun c => { c with discard := false, fwdLeft := 0, skipLeft := 0 }).set R.CFG_STAT.FWD 0;
      s.cfgRuns = true ∧ s.cfg.load = some l ∧ l.source ≠ 0 ∧ u.waitsFirst l = false ∧ l.stage ≠ 4) ∧
    (∃ (s : State) (r : Fin 128) (p : Fin 4), s.cfgRuns = true ∧ s.clocked 9 = true ∧ (s.ctxR r).edge = true ∧
      (s.ctxR r).claimReq = some p.val) :=
  ⟨⟨loads (bodyLd 0 1 9 []) (base mRun), bodyLd 0 1 9 [], by decide +kernel, (rfl), (by rw [plain_parsed])⟩,
    ⟨loads (bodyLd 0 1 255 []) (base mRun), bodyLd 0 1 255 [], by decide +kernel, (rfl), (by rw [plain_parsed])⟩,
    ⟨loads (bodyLd 0 2 255 []) (base mRun), bodyLd 0 2 255 [], by decide +kernel, (rfl), (by rw [plain_parsed])⟩,
    ⟨loads (tagLd 0 (noTagWords 0) false) (base mRun), tagLd 0 (noTagWords 0) false, by decide +kernel, (rfl),
      (bad_tag _ 0 false)⟩,
    ⟨loads (tagLd 2 (noTagWords 2) false) (base mRun), tagLd 2 (noTagWords 2) false, by decide +kernel, (rfl),
      (bad_tag _ 2 false)⟩,
    ⟨loads (tagLd 0 (tagWords 0) true) (base mRun), tagLd 0 (tagWords 0) true, by decide +kernel, (rfl), (good_tag _
      0 true)⟩,
    ⟨loads (tagLd 0 (tagWords 0) false) (base mRun), tagLd 0 (tagWords 0) false, by decide +kernel, (rfl), (good_tag
      _ 0 false)⟩,
    ⟨loads ({ ld 0 3 0 with buf := List.replicate 12 7 }) (base mRun), { ld 0 3 0 with buf := List.replicate 12 7 },
      List.replicate 12 7, by decide +kernel⟩,
    ⟨loads (ld 1 4 0) (base mRun), ld 1 4 0, by decide +kernel⟩,
    ⟨loads (ld 1 1 0) (base mRun), ld 1 1 0, by decide +kernel⟩,
    ⟨loads (ld 1 1 0) (base mRun), ld 1 1 0, by decide +kernel⟩,
    ⟨((base mRun).set R.SEC_PROT.LOCK 1).modCtx 127 fun c => { c with claimReq := some 3, edge := true }, 127, 3,
      by decide +kernel⟩⟩

theorem witness_LoadEventsComplete_3 :
    (∃ (s : State) (r : Fin 128) (l : Load), s.cfgRuns = true ∧ s.owLoad r = some l ∧ (s.ctxR r).edge = true ∧
      ((s.ctxR r).ow = 2 ∨ (s.ctxR r).ow = 4)) ∧
    (∃ (s : State) (r : Fin 128) (l : Load), s.cfgRuns = true ∧ s.owLoad r = some l ∧ (s.ctxR r).ow = 3) ∧
    (∃ (s : State) (r : Fin 128) (l : Load), s.cfgRuns = true ∧ s.owLoad r = some l ∧ (s.ctxR r).ow = 5 ∧ s.ctxNet r
      ∉ s.fab.lost) :=
  ⟨⟨((loads ({ ld 3 4 0 with owLeft := [127] }) (base mRun)).modCtx 127 fun c => { c with ow := 2, edge := true }),
      127, { ld 3 4 0 with owLeft := [127] }, by decide +kernel⟩,
    ⟨((loads ({ ld 3 4 0 with owLeft := [127] }) (base mRun)).modCtx 127 fun c => { c with ow := 3, edge := true }),
      127, { ld 3 4 0 with owLeft := [127] }, by decide +kernel⟩,
    ⟨((loads ({ ld 3 4 0 with owLeft := [127] }) (base mRun)).modCtx 127 fun c => { c with ow := 5, edge := true }),
      127, { ld 3 4 0 with owLeft := [127] }, by decide +kernel⟩⟩

theorem witness_RecordsWaitForTheTag :
    (∃ (s : State) (t : State) (l : Load), (l.kind = 3 ∧ l.planes = []) ∧ s.cfg.load = some l ∧ (exec .segmentRecord
      s = .next t ∨ exec .segmentEnd s = .next t)) :=
  ⟨loads (bodyLd 3 1 9 []) (base mRun), nextOf (exec .segmentRecord (loads (bodyLd 3 1 9 []) (base mRun))) (loads
    (bodyLd 3 1 9 []) (base mRun)), bodyLd 3 1 9 [], by decide +kernel, (rfl), (.inl (next_nextOf
    (by decide +kernel)))⟩

theorem witness_BlockingEventsComplete :
    (∃ (s : State), s.cfg.blk.active = true ∧ s.cfg.blk.step = 0 ∧ s.cfg.blk.delay = false ∧ s.flag
      R.BLK_STAT.FILLING = false ∧ s.allLocked = true) ∧
    (∃ (s : State), s.cfg.blk.active = true ∧ s.cfg.blk.step = 0 ∧ s.bit R.BLK_STAT.DONE 0 = false) ∧
    (∃ (s : State), s.cfg.blk.active = true ∧ s.cfg.blk.delay = true ∧ s.cfg.blk.step = 0 ∧ s.cfg.blk.fill = true) ∧
    (∃ (s : State) (c : _), s.cfg.blk.active = true ∧ s.cfg.blk.delay = true ∧ s.cfg.blk.fill = false ∧
      s.cfg.blk.step < 3 ∧ s.blkCode (s.cfg.blk.step + 1) = c ∧ (c = 1 → s.cfg.blk.resume = false)) ∧
    (∃ (s : State), s.cfg.blk.active = true ∧ s.cfg.blk.delay = true ∧ s.cfg.blk.step = 3) ∧
    (∃ (s : State), s.cfg.blk.active = true ∧ s.flag R.BLK_STAT.FILLING = true ∧ (∀ b, b < 256 → s.cands b = ([],
      []))) ∧
    (∃ (s : State) (k : Fin 5), s.up = true ∧ s.mgt.running = true ∧ s.clocked 12 = true ∧ s.cfg.refresh = none ∧
      (s.slot k).valid = true ∧ 8760 ≤ (s.slot k).ageH) ∧
    (∃ (s : State) (k : Fin 5) (u : _), let n := 2 * (((s.slot k).length + 262143) / 262144); s.up = true ∧
      s.mgt.running = true ∧ s.clocked 12 = true ∧ s.cfg.refresh = some (k.val, u) ∧ s.cfg.load = none ∧ n ≤ u) ∧
    (∃ (s : State) (k : Fin 5) (u : _), let n := 2 * (((s.slot k).length + 262143) / 262144); s.up = true ∧
      s.mgt.running = true ∧ s.clocked 12 = true ∧ s.cfg.refresh = some (k.val, u) ∧ s.cfg.load = none ∧ u < n) ∧
    (∃ (s : State) (p : Pkt) (k : Nat), s.up = true ∧ s.rxHead 0xA2 = some p ∧ p.typ = 2 ∧ k < 5 ∧ (∀ j, j < k →
      (s.slot j).writing = false) ∧ (s.slot k).writing = true ∧ s.slotBarred k = false ∧ p.off = (s.slot
      k).bytes.length ∧ p.off + p.data.length ≤ (s.slot k).declared) :=
  ⟨⟨((base mBlocking)).modCfg fun c => { c with blk := { c.blk with active := true, resume := true } },
      by decide +kernel⟩,
    ⟨((base mBlocking)).modCfg fun c => { c with blk := { c.blk with active := true } }, by decide +kernel⟩,
    ⟨((base mBlocking)).modCfg fun c => { c with blk := { c.blk with active := true, delay := true, fill := true } },
      by decide +kernel⟩,
    ⟨((base mBlocking).set R.BLK_SEQ.ORDER 57).modCfg fun c =>
      { c with blk := { c.blk with active := true, delay := true, step := 2 } }, 3, by decide +kernel⟩,
    ⟨((base mBlocking)).modCfg fun c => { c with blk := { c.blk with active := true, delay := true, step := 3 } },
      by decide +kernel⟩,
    ⟨((base mBlocking).set R.BLK_STAT.FILLING 1).modCfg fun c => { c with blk := { c.blk with active := true } },
      by decide +kernel⟩,
    ⟨(base mRun).setSlot 4 { ImgSlot.init with valid := true, ageH := 8760 }, 4, by decide +kernel⟩,
    ⟨((base mRun).setSlot 4 { ImgSlot.init with valid := true, length := 262144 }).modCfg fun c =>
      { c with refresh := some (4, 2) }, 4, 2, by decide +kernel⟩,
    ⟨((base mRun).setSlot 4 { ImgSlot.init with valid := true, length := 262144 }).modCfg fun c =>
      { c with refresh := some (4, 1) }, 4, 1, by decide +kernel⟩,
    ⟨((base mRun).setSlot 1 { ImgSlot.init with writing := true, declared := 1 }).modNoc fun n =>
      { n with rx := [(0xA2, [pk 2 0 0xA2 0 8 [1]])] }, pk 2 0 0xA2 0 8 [1], 1, by decide +kernel⟩⟩

theorem witness_ConfigCommandsComplete :
    (∃ (mb : Fin 16) (s : State) (kind : _) (source : _) (num : _) (off : _) (ep : _) (ms : _), s.serves mb 0x0200
      ([(1, kind), (1, source)] ++ sourceArgs source num off ep ++ [(2, ms)]) ∧ kind < 4 ∧ badSource source num
      ep = false ∧ ms ≤ 10000 ∧ s.cfg.load = none ∧ (source = 2 → s.laneTested num = false) ∧ (source = 0 → (s.slot
      num).valid = true → off % 8 = 0 ∧ off < (s.slot num).length) ∧ s.kindAllowed kind = false) ∧
    (∃ (mb : Fin 16) (s : State) (kind : _) (source : _) (num : _) (off : _) (ep : _) (ms : _), s.serves mb 0x0200
      ([(1, kind), (1, source)] ++ sourceArgs source num off ep ++ [(2, ms)]) ∧ kind < 4 ∧ badSource source num
      ep = false ∧ ms ≤ 10000 ∧ s.cfg.load = none ∧ (source = 2 → s.laneTested num = false) ∧ (source = 0 → (s.slot
      num).valid = true → off % 8 = 0 ∧ off < (s.slot num).length) ∧ s.kindAllowed kind = true ∧ (source = 2 →
      kind = 0 → s.sideReserved num = false) ∧ (source = 0 → (s.slot num).valid = true)) ∧
    (∃ (mb : Fin 16) (s : State) (kind : _) (source : _) (num : _) (off : _) (ep : _) (ms : _), s.serves mb 0x0200
      ([(1, kind), (1, source)] ++ sourceArgs source num off ep ++ [(2, ms)]) ∧ kind < 4 ∧ badSource source num
      ep = false ∧ ms ≤ 10000 ∧ s.cfg.load = none ∧ (source = 2 → s.laneTested num = false) ∧ (source = 0 → (s.slot
      num).valid = true → off % 8 = 0 ∧ off < (s.slot num).length) ∧ s.kindAllowed kind = true ∧ source = 0 ∧ (s.slot
      num).valid = false ∧ kind ≠ 0) ∧
    (∃ (mb : Fin 16) (s : State), s.serves mb 0x0201 []) ∧
    (∃ (mb : Fin 16) (s : State), s.serves mb 0x0202 [] ∧ s.cfg.load = none) ∧
    (∃ (mb : Fin 16) (s : State), s.serves mb 0x0202 [] ∧ s.cfg.load ≠ none ∧ s.loadCommitted = false) ∧
    (∃ (mb : Fin 16) (s : State) (k : _), s.serves mb 0x0203 [(1, k), (1, 0)] ∧ k < 5 ∧ s.slotTested k = false) ∧
    (∃ (mb : Fin 16) (s : State) (k : _), s.serves mb 0x0203 [(1, k), (1, 1)] ∧ k < 5 ∧ s.slotTested k = false ∧
      s.slotInUse k = false ∧ (s.slot k).writing = false ∧ s.refreshing k = false) ∧
    (∃ (mb : Fin 16) (s : State) (k : _) (n : _), s.serves mb 0x0204 [(1, k), (4, n)] ∧ k < 5 ∧ n ≤ 201326592 ∧
      s.slotTested k = false ∧ s.slotInUse k = false ∧ s.refreshing k = false ∧ s.slotBarred k = false) ∧
    (∃ (mb : Fin 16) (s : State) (k : _) (n : _), s.serves mb 0x0204 [(1, k), (4, n)] ∧ k < 5 ∧ n ≤ 201326592 ∧
      s.slotTested k = false ∧ s.slotInUse k = false ∧ s.refreshing k = false ∧ s.slotBarred k = true) ∧
    (∃ (mb : Fin 16) (s : State) (k : _) (off : _) (bytes : List Nat), s.servesBytes mb 0x0205 [(1, k), (4, off)]
      bytes ∧ k < 5 ∧ s.slotBarred k = false ∧ (s.slot k).writing = true ∧ off = (s.slot k).bytes.length ∧ off +
      bytes.length ≤ (s.slot k).declared) ∧
    (∃ (mb : Fin 16) (s : State) (k : _) (off : _) (bytes : List Nat), s.servesBytes mb 0x0205 [(1, k), (4, off)]
      bytes ∧ k < 5 ∧ s.slotBarred k = false ∧ (s.slot k).writing = true ∧ off ≠ (s.slot k).bytes.length) :=
  ⟨⟨0, asks 0x0200 (pack ([(1, (0)), (1, (1))] ++ sourceArgs (1) (0) (0) (0) ++ [(2, (10000))])) (base mRun), 0, 1,
      0, 0, 0, 10000, by decide +kernel⟩,
    ⟨0, asks 0x0200 (pack ([(1, (2)), (1, (2))] ++ sourceArgs (2) (95) (0) (0) ++ [(2, (10000))])) (base mRun), 2, 2,
      95, 0, 0, 10000, by decide +kernel⟩,
    ⟨0, asks 0x0200 (pack ([(1, (3)), (1, (0))] ++ sourceArgs (0) (4) (0) (0) ++ [(2, (10000))])) (base mRun), 3, 0,
      4, 0, 0, 10000, by decide +kernel⟩,
    ⟨0, asks 0x0201 (pack []) (base mRun), by decide +kernel⟩,
    ⟨0, asks 0x0202 (pack []) (base mRun), by decide +kernel⟩,
    ⟨0, asks 0x0202 (pack []) (loads (ld 0 0 0) (base mRun)), by decide +kernel⟩,
    ⟨0, asks 0x0203 (pack [(1, (4)), (1, 0)]) (base mRun), 4, by decide +kernel⟩,
    ⟨0, asks 0x0203 (pack [(1, (4)), (1, 1)]) (base mRun), 4, by decide +kernel⟩,
    ⟨0, asks 0x0204 (pack [(1, (4)), (4, (201326592))]) (base mRun), 4, 201326592, by decide +kernel⟩,
    ⟨0, asks 0x0204 (pack [(1, (0)), (4, (201326592))]) ((base mRun).set R.SEC_PROT.SLOT0_WR 0), 0, 201326592,
      by decide +kernel⟩,
    ⟨0, asks 0x0205 (pack [(1, (4)), (4, (1))] ++ (List.replicate 3 255)) ((base mRun).setSlot 4
      { ImgSlot.init with writing := true, declared := 4, bytes := [1] }), 4, 1, List.replicate 3 255,
      by decide +kernel⟩,
    ⟨0, asks 0x0205 (pack [(1, (4)), (4, (2))] ++ (List.replicate 3 255)) ((base mRun).setSlot 4
      { ImgSlot.init with writing := true, declared := 4, bytes := [1] }), 4, 2, List.replicate 3 255,
      by decide +kernel⟩⟩

theorem witness_ConfigCommandsComplete_2 :
    (∃ (mb : Fin 16) (s : State) (k : _), s.serves mb 0x0206 [(1, k)] ∧ k < 5 ∧ (s.slot k).writing = true ∧ (s.slot
      k).declared ≤ (s.slot k).bytes.length ∧ magicOk (slotWord (s.slot k) 0) = true) ∧
    (∃ (mb : Fin 16) (s : State) (k : _), s.serves mb 0x0207 [(1, k)] ∧ 1 ≤ k ∧ k ≤ 4 ∧ s.slotTested k = false ∧
      (s.slot k).valid = true) ∧
    (∃ (mb : Fin 16) (s : State) (k : _), s.serves mb 0x0207 [(1, k)] ∧ 1 ≤ k ∧ k ≤ 4 ∧ s.slotTested k = false ∧
      (s.slot k).valid = false) ∧
    (∃ (mb : Fin 16) (s : State) (k : _), s.serves mb 0x0208 [(1, k)] ∧ k < 5 ∧ s.slotTested k = false ∧ s.slotBarred
      k = false ∧ s.cfg.refresh = none ∧ (s.slot k).writing = false) ∧
    (∃ (mb : Fin 16) (s : State) (r : _) (p : _), s.serves mb 0x0209 [(1, r), (1, p)] ∧ r < 128 ∧ p < 4 ∧
      s.test.busy.contains (1024 + 4 * r + p) = false) :=
  ⟨⟨0, asks 0x0206 (pack [(1, (4))]) ((base mRun).setSlot 4
      { ImgSlot.init with writing := true, declared := 8, bytes := leBytes 8 0x4B39015244524F }), 4,
      by decide +kernel⟩,
    ⟨0, asks 0x0207 (pack [(1, (4))]) ((base mRun).setSlot 4 { ImgSlot.init with valid := true }), 4,
      by decide +kernel⟩,
    ⟨0, asks 0x0207 (pack [(1, (4))]) (base mRun), 4, by decide +kernel⟩,
    ⟨0, asks 0x0208 (pack [(1, (4))]) (base mRun), 4, by decide +kernel⟩,
    ⟨0, asks 0x0209 (pack [(1, (127)), (1, (3))]) (base mRun), 127, 3, by decide +kernel⟩⟩

theorem witness_SecurityCommandsComplete :
    (∃ (s : State), s.mode = mOff) ∧
    (∃ (s : State), s.mode ≠ mOff) ∧
    (∃ (mb : Fin 16) (s : State), s.serves mb 0x0900 []) ∧
    (∃ (mb : Fin 16) (s : State) (key : _) (check : _) (r : _), s.serves mb 0x0901 [(32, key), (2, check), (1, r)] ∧
      r < 2 ∧ s.aon.keyB = true ∧ s.flag R.SEC_PROT.BBK_OK = true ∧ s.flag R.SEC_STAT.TAMPER_NOW = false ∧
      s.bbkLoad = false ∧ (r = 1 ∨ s.flag R.SEC_STAT.BBK_VALID = false) ∧ keyCheck key = check) ∧
    (∃ (mb : Fin 16) (s : State) (key : _) (check : _) (r : _), s.serves mb 0x0901 [(32, key), (2, check), (1, r)] ∧
      r < 2 ∧ s.aon.keyB = true ∧ s.flag R.SEC_PROT.BBK_OK = true ∧ s.flag R.SEC_STAT.TAMPER_NOW = false ∧
      s.bbkLoad = false ∧ (r = 1 ∨ s.flag R.SEC_STAT.BBK_VALID = false) ∧ keyCheck key ≠ check) ∧
    (∃ (mb : Fin 16) (s : State) (key : _) (check : _) (r : _), s.serves mb 0x0901 [(32, key), (2, check), (1, r)] ∧
      r < 2 ∧ s.aon.keyB = false) ∧
    (∃ (mb : Fin 16) (s : State) (key : _) (check : _) (r : _), s.serves mb 0x0901 [(32, key), (2, check), (1, r)] ∧
      r < 2 ∧ s.aon.keyB = true ∧ s.flag R.SEC_STAT.TAMPER_NOW = true) ∧
    (∃ (mb : Fin 16) (s : State), s.serves mb 0x0902 []) ∧
    (∃ (mb : Fin 16) (s : State) (a : _) (n : _) (d : _) (failed : List Nat), s.serves mb 0x0903 [(2, a), (2, n), ((n
      + 7) / 8, d)] ∧ 1 ≤ n ∧ n ≤ 1024 ∧ a + n ≤ 0x44B ∧ s.flag R.SEC_PROT.SECFUSE_WR = true) ∧
    (∃ (mb : Fin 16) (s : State) (a : _) (n : _) (d : _) (failed : List Nat), s.serves mb 0x0903 [(2, a), (2, n), ((n
      + 7) / 8, d)] ∧ 1 ≤ n ∧ n ≤ 1024 ∧ a + n ≤ 0x44B ∧ s.flag R.SEC_PROT.SECFUSE_WR = false) ∧
    (∃ (mb : Fin 16) (s : State) (a : _) (n : _), s.serves mb 0x0904 [(2, a), (2, n)] ∧ 1 ≤ n ∧ n ≤ 1024 ∧ a +
      n ≤ 0x4000) ∧
    (∃ (mb : Fin 16) (s : State) (a : _), s.serves mb 0x0904 [(2, a), (2, 1)] ∧ a < 0x100) :=
  ⟨⟨State.reset.set R.DEV_MODE.MODE mOff, by decide +kernel⟩,
    ⟨base mRun, by decide +kernel⟩,
    ⟨0, asks 0x0900 (pack []) (base mRun), by decide +kernel⟩,
    ⟨0, asks 0x0901 (pack [(32, (2 ^ 256 - 1)), (2, (keyCheck (2 ^ 256 - 1))), (1, (1))]) ((base mRun).set
      R.SEC_PROT.BBK_OK 1), 2 ^ 256 - 1, keyCheck (2 ^ 256 - 1), 1, by decide +kernel⟩,
    ⟨0, asks 0x0901 (pack [(32, (2 ^ 256 - 1)), (2, ((keyCheck (2 ^ 256 - 1) + 1) % 65536)), (1, (1))]) ((base
      mRun).set R.SEC_PROT.BBK_OK 1), 2 ^ 256 - 1, (keyCheck (2 ^ 256 - 1) + 1) % 65536, 1, by decide +kernel⟩,
    ⟨0, asks 0x0901 (pack [(32, (0)), (2, (0)), (1, (1))]) ((base mRun).modAon fun a => { a with keyB := false }), 0,
      0, 1, by decide +kernel⟩,
    ⟨0, asks 0x0901 (pack [(32, (0)), (2, (0)), (1, (1))]) ((base mRun).set R.SEC_STAT.TAMPER_NOW 1), 0, 0, 1,
      by decide +kernel⟩,
    ⟨0, asks 0x0902 (pack []) (base mRun), by decide +kernel⟩,
    ⟨0, asks 0x0903 (pack [(2, (0x44A)), (2, (1)), (((1) + 7) / 8, (1))]) ((base mRun).set R.SEC_PROT.SECFUSE_WR 1),
      0x44A, 1, 1, [0x44A], by decide +kernel⟩,
    ⟨0, asks 0x0903 (pack [(2, (75)), (2, (1024)), (((1024) + 7) / 8, (0))]) ((base mRun).set R.SEC_PROT.SECFUSE_WR
      0), 75, 1024, 0, [], by decide +kernel⟩,
    ⟨0, asks 0x0904 (pack [(2, (0x3C00)), (2, (1024))]) (base mRun), 0x3C00, 1024, by decide +kernel⟩,
    ⟨0, asks 0x0904 (pack [(2, (0xFF)), (2, 1)]) (base mRun), 0xFF, by decide +kernel⟩⟩

theorem witness_SecurityCommandsComplete_2 :
    (∃ (mb : Fin 16) (s : State) (k : _) (key : _), s.serves mb 0x0905 [(1, k), (96, key)] ∧ k < 2 ∧ (s.hashSet
      k = false ∨ pubHash key = s.fuseBits (hashFuse k) 384)) ∧
    (∃ (mb : Fin 16) (s : State) (k : _) (key : _), s.serves mb 0x0905 [(1, k), (96, key)] ∧ k < 2 ∧ s.hashSet
      k = true ∧ pubHash key ≠ s.fuseBits (hashFuse k) 384) ∧
    (∃ (mb : Fin 16) (s : State) (mask : _) (v : _), s.serves mb 0x0906 [(4, mask), (1, v)] ∧ v ≤ 15 ∧ mask < 2 ^ 18
      ∧ mask.testBit 0 = false ∧ s.get R.SEC_PROT.MIN_SVN ≤ v) ∧
    (∃ (mb : Fin 16) (s : State) (mask : _) (v : _), s.serves mb 0x0906 [(4, mask), (1, v)] ∧ v ≤ 15 ∧ mask < 2 ^ 18
      ∧ mask.testBit 0 = false ∧ v < s.get R.SEC_PROT.MIN_SVN) ∧
    (∃ (mb : Fin 16) (s : State), s.serves mb 0x0907 [] ∧ s.flag R.SEC_STAT.TAMPER_NOW = true) ∧
    (∃ (mb : Fin 16) (s : State), s.serves mb 0x0907 [] ∧ s.flag R.SEC_STAT.TAMPER_NOW = false) :=
  ⟨⟨0, asks 0x0905 (pack [(1, (1)), (96, (2 ^ 768 - 1))]) (base mRun), 1, 2 ^ 768 - 1, by decide +kernel⟩,
    ⟨0, asks 0x0905 (pack [(1, (1)), (96, (2 ^ 768 - 1))]) ((base mRun).modSec fun x =>
      { x with fuses := [(hashFuse 1, 1)] }), 1, 2 ^ 768 - 1, by decide +kernel⟩,
    ⟨0, asks 0x0906 (pack [(4, (2 ^ 18 - 2)), (1, (15))]) (base mRun), 2 ^ 18 - 2, 15, by decide +kernel⟩,
    ⟨0, asks 0x0906 (pack [(4, (2 ^ 18 - 2)), (1, (2))]) (((base mRun).set R.SEC_PROT.LOCK 1).set R.SEC_PROT.MIN_SVN
      3), 2 ^ 18 - 2, 2, by decide +kernel⟩,
    ⟨0, asks 0x0907 (pack []) ((base mRun).set R.SEC_STAT.TAMPER_NOW 1), by decide +kernel⟩,
    ⟨0, asks 0x0907 (pack []) ((base mRun).set R.SEC_STAT.TAMPERED 1), by decide +kernel⟩⟩

theorem witness_RestrictOnlyNarrows :
    (∃ (mb : Fin 16) (s : State) (t : State) (mask : Nat) (v : Nat) (f : Fld), (f ∈ allowBits ∧ t.flag f = true) ∧
      exec (.secRestrict mb mask v) s = .next t) ∧
    (∃ (mb : Fin 16) (s : State) (t : State) (mask : Nat) (v : Nat) (k : _), t.bit R.SEC_PROT.PK_OK k = true ∧ exec
      (.secRestrict mb mask v) s = .next t) ∧
    (∃ (mb : Fin 16) (s : State) (t : State) (mask : Nat) (v : Nat), s.flag R.SEC_PROT.SIG_REQ = true ∧ exec
      (.secRestrict mb mask v) s = .next t) ∧
    (∃ (mb : Fin 16) (s : State) (t : State) (mask : Nat) (v : Nat), exec (.secRestrict mb mask v) s = .next t) ∧
    (∃ (mb : Fin 16) (s : State) (t : State) (mask : Nat) (v : Nat) (f : Fld), (s.serves mb 0x0906 [(4, mask), (1,
      v)] ∧ mask.testBit 0 = false ∧ mask < 2 ^ 18 ∧ v ≤ 15 ∧ s.get R.SEC_PROT.MIN_SVN ≤ v ∧ f ∈ allowBits ∧
      mask.testBit f.lsb = true) ∧ exec (.secRestrict mb mask v) s = .next t) ∧
    (∃ (mb : Fin 16) (s : State) (t : State) (mask : Nat) (v : Nat), (s.serves mb 0x0906 [(4, mask), (1, v)] ∧
      mask.testBit 0 = false ∧ mask < 2 ^ 18 ∧ v ≤ 15 ∧ s.get R.SEC_PROT.MIN_SVN ≤ v) ∧ exec (.secRestrict mb mask v)
      s = .next t) :=
  ⟨⟨0, ((base mRun).set (allowBits.getD 0 R.SEC_PROT.LOCK) 1), nextOf (exec (.secRestrict (0 : Fin 16) (0) (0))
      (((base mRun).set (allowBits.getD 0 R.SEC_PROT.LOCK) 1))) (((base mRun).set (allowBits.getD 0 R.SEC_PROT.LOCK)
      1)), 0, 0, allowBits.getD 0 R.SEC_PROT.LOCK, by decide +kernel, (next_nextOf (by decide +kernel))⟩,
    ⟨0, (base mRun).set R.SEC_PROT.PK_OK 3, nextOf (exec (.secRestrict (0 : Fin 16) (0) (0)) ((base mRun).set
      R.SEC_PROT.PK_OK 3)) ((base mRun).set R.SEC_PROT.PK_OK 3), 0, 0, 1, by decide +kernel, (next_nextOf
      (by decide +kernel))⟩,
    ⟨0, (base mRun).set R.SEC_PROT.SIG_REQ 1, nextOf (exec (.secRestrict (0 : Fin 16) (0) (0)) ((base mRun).set
      R.SEC_PROT.SIG_REQ 1)) ((base mRun).set R.SEC_PROT.SIG_REQ 1), 0, 0, by decide +kernel, (next_nextOf
      (by decide +kernel))⟩,
    ⟨0, base mRun, nextOf (exec (.secRestrict (0 : Fin 16) (5) (0)) (base mRun)) (base mRun), 5, 0, (next_nextOf
      (by decide +kernel))⟩,
    ⟨0, asks 0x0906 (pack [(4, (2 ^ 18 - 2)), (1, (15))]) (base mRun), nextOf (exec (.secRestrict (0 : Fin 16) (2 ^
      18 - 2) (15)) (asks 0x0906 (pack [(4, (2 ^ 18 - 2)), (1, (15))]) (base mRun))) (asks 0x0906 (pack [(4, (2 ^ 18
      - 2)), (1, (15))]) (base mRun)), 2 ^ 18 - 2, 15, allowBits.getD 0 R.SEC_PROT.LOCK, by decide +kernel,
      (next_nextOf (by decide +kernel))⟩,
    ⟨0, asks 0x0906 (pack [(4, (0)), (1, (15))]) (base mRun), nextOf (exec (.secRestrict (0 : Fin 16) (0) (15)) (asks
      0x0906 (pack [(4, (0)), (1, (15))]) (base mRun))) (asks 0x0906 (pack [(4, (0)), (1, (15))]) (base mRun)), 0,
      15, by decide +kernel, (next_nextOf (by decide +kernel))⟩⟩

theorem witness_IntegrityEventsComplete :
    (∃ (s : State) (r : Fin 128), s.pounceRuns = true ∧ s.clocked 9 = true ∧ s.slotTaken r = false ∧ (limitSlot r
      s).1 = false) ∧
    (∃ (s : State) (r : Fin 128) (ups : List Nat), s.pounceRuns = true ∧ s.clocked 9 = true ∧ s.slotTaken r = false ∧
      (limitSlot r s).1 = true) ∧
    (∃ (s : State) (r : Fin 128) (n : Nat) (p : Nat) (f : Nat), s.pounceRuns = true ∧ s.clocked 9 = true ∧
      s.slotTaken r = false ∧ s.mode ≠ mLimit ∧ at' s.integ.pos r 0 = n ∧ s.passPlane r (n / 1372) = p ∧ n % 1372 = f
      ∧ s.pounceSkips r p = true) ∧
    (∃ (s : State) (r : Fin 128) (n : Nat) (p : Nat) (f : Nat) (i : _), s.pounceRuns = true ∧ s.clocked 9 = true ∧
      s.slotTaken r = false ∧ s.mode ≠ mLimit ∧ at' s.integ.pos r 0 = n ∧ s.passPlane r (n / 1372) = p ∧ n % 1372 = f
      ∧ i < 4096 ∧ s.pounceSkips r p = false ∧ at' (s.plane r p).bad f [] = [] ∧ (s.plane r p).mapBad = [] ∧ (at'
      (s.plane r p).essmap f 0).testBit (i / 64) = true) ∧
    (∃ (s : State) (r : Fin 128) (n : Nat) (p : Nat) (f : Nat) (i : _), s.pounceRuns = true ∧ s.clocked 9 = true ∧
      s.slotTaken r = false ∧ s.mode ≠ mLimit ∧ at' s.integ.pos r 0 = n ∧ s.passPlane r (n / 1372) = p ∧ n % 1372 = f
      ∧ i < 4096 ∧ s.pounceSkips r p = false ∧ at' (s.plane r p).bad f [] = [] ∧ (s.plane r p).mapBad = [] ∧ (at'
      (s.plane r p).essmap f 0).testBit (i / 64) = false) ∧
    (∃ (s : State) (r : Fin 128) (n : Nat) (p : Nat) (f : Nat), s.pounceRuns = true ∧ s.clocked 9 = true ∧
      s.slotTaken r = false ∧ s.mode ≠ mLimit ∧ at' s.integ.pos r 0 = n ∧ s.passPlane r (n / 1372) = p ∧ n % 1372 = f
      ∧ s.pounceSkips r p = false ∧ at' (s.plane r p).bad f [] = [] ∧ (s.plane r p).mapBad = [] ∧ s.repairKnown (4 *
      r + p) f = false ∧ at' (s.plane r p).essmap f 0 = 0) ∧
    (∃ (s : State) (x : Repair) (u : State), s.cfgRuns = true ∧ s.mgt.running = true ∧ s.held 0xB5 = false ∧
      s.cfg.load = none ∧ s.integ.repair = none ∧ (s.runClass = true ∨ s.mode = mSafe) ∧ nextRepair s = some (x, u)) ∧
    (∃ (s : State) (k : Nat) (fs : List Nat), s.integ.asks = [] ∧ s.integ.queue = fs.map (fun f => (k, f)) ∧ fs ≠ []
      ∧ fs.length ≤ 64) ∧
    (∃ (s : State) (x : Repair) (k : Nat) (off : Nat) (h : List Nat) (l : Load), (s.integ.repair = some x ∧
      s.cfgRuns = true ∧ s.held 0xB5 = false ∧ (s.ctxR (x.key / 4)).claimReq ≠ some (x.key % 4) ∧ s.sourceHeader
      (s.plane (x.key / 4) (x.key % 4)) = some (k, off, h)) ∧ s.repairSegment k off h = .ok l) ∧
    (∃ (s : State) (x : Repair) (k : Nat) (off : Nat) (h : List Nat) (c : _) (st : _), s.integ.repair = some x ∧
      s.cfgRuns = true ∧ s.held 0xB5 = false ∧ (s.ctxR (x.key / 4)).claimReq ≠ some (x.key % 4) ∧ s.sourceHeader
      (s.plane (x.key / 4) (x.key % 4)) = some (k, off, h) ∧ s.repairSegment k off h = .error (c, st)) ∧
    (∃ (s : State) (x : Rdbk) (c : Capture), s.integ.rdbk = some x ∧ s.up = true ∧ (x.path = 0 → s.cfg.fwdLeft = 0 ∧
      s.flag R.CFG_STAT.FWD = false) ∧ x.kind = 0 ∧ (s.ctxR x.region).cap = some c ∧ (c.prot = false ∨ s.flag
      R.SEC_PROT.DBG_READ = true)) ∧
    (∃ (s : State) (x : Rdbk), s.integ.rdbk = some x ∧ s.up = true ∧ (x.path = 0 → s.cfg.fwdLeft = 0 ∧ s.flag
      R.CFG_STAT.FWD = false) ∧ x.kind ≠ 0 ∧ s.planeState x.region x.plane ≠ psEmpty ∧ s.planeState x.region
      x.plane ≠ psLoading) :=
  ⟨⟨((base mLimit).set R.POUNCE_CTL.EN 1).set R.THERM_STAT.P 0, 127, by decide +kernel⟩,
    ⟨((base mRun).set R.POUNCE_CTL.EN 1), 127, [], by decide +kernel⟩,
    ⟨(((base mRun).set R.POUNCE_CTL.EN 1)).modInteg fun i => { i with pos := [(127, 5487)] }, 127, 5487, 3, 1371,
      by decide +kernel⟩,
    ⟨(((activeAt 127 (base mRun)).set R.POUNCE_CTL.EN 1).modPlane 127 0 fun p =>
      { p with essmap := [(1371, 2 ^ 63)] }).modInteg fun i => { i with pos := [(127, 1371)] }, 127, 1371, 0, 1371,
      4095, by decide +kernel⟩,
    ⟨((activeAt 127 (base mRun)).set R.POUNCE_CTL.EN 1).modInteg fun i => { i with pos := [(127, 1371)] }, 127, 1371,
      0, 1371, 4095, by decide +kernel⟩,
    ⟨((activeAt 127 (base mRun)).set R.POUNCE_CTL.EN 1).modInteg fun i => { i with pos := [(127, 1371)] }, 127, 1371,
      0, 1371, by decide +kernel⟩,
    ⟨(((base mRun).modInteg fun i => { i with queue := [(511, 3)] })).set R.SEC_PROT.LOCK 1, ⟨511, [3], 0, 0, false⟩,
      (((base mRun).modInteg fun i => { i with queue := [(511, 3)] }).set R.SEC_PROT.LOCK 1).modInteg fun i =>
      { i with queue := [] }, by decide +kernel⟩,
    ⟨((base mRun).modInteg fun i => { i with queue := [(511, 3)] }), 511, [3], by decide +kernel⟩,
    ⟨repairing (base mRun), ⟨511, [], 0, 0, false⟩, 4, 0, [0x4B39015244524F, 2 ^ 32, 5 + 2 * 2 ^ 32, 0, 0, 0], okOr
      ((repairing (base mRun)).repairSegment 4 0 [0x4B39015244524F, 2 ^ 32, 5 + 2 * 2 ^ 32, 0, 0, 0]),
      by decide +kernel, (ok_okOr (by decide +kernel))⟩,
    ⟨((repairing (base mRun)).setSlot 4
      { ImgSlot.init with valid := true, bytes := List.replicate 48 0, length := 48 }).modPlane 127 3 fun p =>
      { p with imageId := 0 }, ⟨511, [], 0, 0, false⟩, 4, 0, [0, 0, 0, 0, 0, 0], 0, stForeign, by decide +kernel⟩,
    ⟨(((base mRun).modCtx 127 fun c => { c with cap := some ⟨0, false, false, 0, false, 0, [], []⟩ })).modInteg fun i
      => { i with rdbk := some ⟨0, 127, 0, 0, 0, 1, 5⟩ }, (⟨0, 127, 0, 0, 0, 1, 5⟩ : Rdbk), ⟨0, false, false, 0,
      false, 0, [], []⟩, by decide +kernel⟩,
    ⟨(activeAt 127 (base mRun)).modInteg fun i => { i with rdbk := some ⟨1, 127, 0, 0, 1, 1, 5⟩ }, (⟨1, 127, 0, 0, 1,
      1, 5⟩ : Rdbk), by decide +kernel⟩⟩

theorem witness_IntegrityEventsComplete_2 :
    (∃ (s : State), s.fcbOn = true) :=
  ⟨base mRun, by decide +kernel⟩

theorem witness_ObservationCommandsComplete :
    (∃ (mb : Fin 16) (s : State) (en : _) (mode : _) (unc : _), s.serves mb 0x0A00 [(1, en), (1, mode), (1, unc)] ∧
      en < 2 ∧ mode < 4 ∧ unc < 4) ∧
    (∃ (mb : Fin 16) (s : State) (r : _) (clear : _), s.serves mb 0x0A01 [(1, r), (1, clear)] ∧ r < 128 ∧ clear < 2 ∧
      s.test.busy.contains r = false) ∧
    (∃ (mb : Fin 16) (s : State) (first : _) (count : _) (clear : _), s.serves mb 0x0A02 [(1, first), (1, count), (1,
      clear)] ∧ first < 256 ∧ 1 ≤ count ∧ count ≤ 8 ∧ clear < 2) ∧
    (∃ (mb : Fin 16) (s : State) (r : _) (p : _) (frame : _),
      let two := fun l : List Nat => (List.range 8).any fun w => decide (2 ≤ (l.filter fun i => i % 8 == w).length);
      let fs := if frame = 0xFFFF then ((s.plane r p).bad.filter fun e => two e.2).map fun e => e.1 else [frame];
      s.serves mb 0x0A03 [(1, r), (1, p), (2, frame)] ∧ r < 128 ∧ p < 4 ∧ (frame < 1372 ∨ frame = 0xFFFF) ∧
      s.test.busy.contains r = false ∧ s.test.busy.contains (1024 + 4 * r + p) = false ∧ s.cfg.load = none ∧
      s.planeState r p ≠ psEmpty ∧ (s.planeState r p ≠ psLoading ∨ (s.ctxR r).claim = some p) ∧ fs = []) ∧
    (∃ (mb : Fin 16) (s : State) (r : _) (p : _) (frame : _),
      let two := fun l : List Nat => (List.range 8).any fun w => decide (2 ≤ (l.filter fun i => i % 8 == w).length);
      let fs := if frame = 0xFFFF then ((s.plane r p).bad.filter fun e => two e.2).map fun e => e.1 else [frame];
      s.serves mb 0x0A03 [(1, r), (1, p), (2, frame)] ∧ r < 128 ∧ p < 4 ∧ (frame < 1372 ∨ frame = 0xFFFF) ∧
      s.test.busy.contains r = false ∧ s.test.busy.contains (1024 + 4 * r + p) = false ∧ s.cfg.load = none ∧
      s.planeState r p ≠ psEmpty ∧ (s.planeState r p ≠ psLoading ∨ (s.ctxR r).claim = some p) ∧ fs ≠ []) ∧
    (∃ (mb : Fin 16) (s : State) (kind : _) (r : _) (p : _) (first : _) (count : _) (path : _) (addr : _), (s.serves
      mb 0x0A04 ([(1, kind), (1, r), (1, p), (2, first), (2, count), (1, path)] ++ if path = 1 then [(8, addr)] else
      []) ∧ r < 128 ∧ p < 4 ∧ path < 2 ∧ s.test.busy.contains r = false ∧ s.integ.rdbk = none) ∧ (kind = 0 ∧ (∃ c,
      (s.ctxR r).cap = some c ∧ (c.prot = false ∨ s.flag R.SEC_PROT.DBG_READ = true)) ∨ kind = 1 ∧ 1 ≤ count ∧ first
      + count ≤ 1372 ∧ s.test.busy.contains (1024 + 4 * r + p) = false ∧ s.planeState r p ≠ psEmpty ∧ s.planeState r
      p ≠ psLoading ∧ s.capBarred r p = false)) ∧
    (∃ (mb : Fin 16) (s : State), s.serves mb 0x0A05 [] ∧ s.integ.rdbk = none) ∧
    (∃ (mb : Fin 16) (s : State), s.serves mb 0x0A05 [] ∧ s.integ.rdbk.isSome = true) ∧
    (∃ (mb : Fin 16) (s : State) (pin : _) (r : _) (probe : _) (en : _), s.serves mb 0x0A06 [(1, pin), (1, r), (1,
      probe), (1, en)] ∧ pin < 16 ∧ r < 128 ∧ en < 2 ∧ s.test.busy.contains r = false ∧ (s.plumeBarred r = false ∨
      en = 0) ∧ s.plumeWritten pin = false) ∧
    (∃ (mb : Fin 16) (s : State) (pin : _) (r : _) (probe : _) (en : _), s.serves mb 0x0A06 [(1, pin), (1, r), (1,
      probe), (1, en)] ∧ pin < 16 ∧ r < 128 ∧ en < 2 ∧ s.test.busy.contains r = false ∧ (s.plumeBarred r = false ∨
      en = 0) ∧ s.plumeWritten pin = true) ∧
    (∃ (mb : Fin 16) (s : State) (pin : _) (r : _) (probe : _) (en : _), s.serves mb 0x0A06 [(1, pin), (1, r), (1,
      probe), (1, en)] ∧ pin < 16 ∧ r < 128 ∧ en < 2 ∧ s.test.busy.contains r = false ∧ en = 1 ∧ s.plumeBarred
      r = true) ∧
    (∃ (mb : Fin 16) (s : State), s.serves mb 0x0A07 []) :=
  ⟨⟨0, asks 0x0A00 (pack [(1, (1)), (1, (3)), (1, (3))]) (base mRun), 1, 3, 3, by decide +kernel⟩,
    ⟨0, asks 0x0A01 (pack [(1, (127)), (1, (1))]) (base mRun), 127, 1, by decide +kernel⟩,
    ⟨0, asks 0x0A02 (pack [(1, (255)), (1, (8)), (1, (1))]) (base mRun), 255, 8, 1, by decide +kernel⟩,
    ⟨0, asks 0x0A03 (pack [(1, (127)), (1, (0)), (2, (65535))]) (activeAt 127 (base mRun)), 127, 0, 65535,
      by decide +kernel⟩,
    ⟨0, asks 0x0A03 (pack [(1, (127)), (1, (0)), (2, (65535))]) ((activeAt 127 (base mRun)).modPlane 127 0 fun p =>
      { p with bad := [(1371, [0, 8])] }), 127, 0, 65535, by decide +kernel⟩,
    ⟨0, asks 0x0A04 (pack ([(1, (0)), (1, (127)), (1, (3)), (2, (0)), (2, (0)), (1, (1))] ++ if (1) = 1 then [(8,
      (5))] else [])) (((base mRun).modCtx 127 fun c =>
      { c with cap := some ⟨0, false, false, 0, false, 0, [], []⟩ })), 0, 127, 3, 0, 0, 1, 5, by decide +kernel,
      (.inl ⟨rfl, ⟨0, false, false, 0, false, 0, [], []⟩, by decide +kernel⟩)⟩,
    ⟨0, asks 0x0A05 (pack []) (base mRun), by decide +kernel⟩,
    ⟨0, asks 0x0A05 (pack []) ((((base mRun).modCtx 127 fun c =>
      { c with cap := some ⟨0, false, false, 0, false, 0, [], []⟩ })).modInteg fun i =>
      { i with rdbk := some ⟨0, 127, 0, 0, 0, 1, 5⟩ }), by decide +kernel⟩,
    ⟨0, asks 0x0A06 (pack [(1, (15)), (1, (127)), (1, (255)), (1, (1))]) (base mRun), 15, 127, 255, 1,
      by decide +kernel⟩,
    ⟨0, asks 0x0A06 (pack [(1, (15)), (1, (127)), (1, (255)), (1, (1))]) ((base mRun).modXing 0xB2 fun x =>
      { x with req := some ⟨0, 4 * (64 + 15), 0⟩ }), 15, 127, 255, 1, by decide +kernel⟩,
    ⟨0, asks 0x0A06 (pack [(1, (15)), (1, (127)), (1, (255)), (1, (1))]) (((activeAt 127 (base mRun)).modPlane 127 0
      fun p => { p with prot := true }).set R.SEC_PROT.DBG_PLUME 0), 15, 127, 255, 1, by decide +kernel⟩,
    ⟨0, asks 0x0A07 (pack []) (base mRun), by decide +kernel⟩⟩

theorem witness_MailboxEventsComplete :
    (∃ (m : Fin 16) (s : State), s.fcbOn = true ∧ s.mbFree m 0 0 0 = true) ∧
    (∃ (m : Fin 16) (s : State), s.fcbOn = true ∧ s.mbFree m 0 0 0 = false) ∧
    (∃ (m : Fin 16) (s : State), s.fcbOn = true ∧ s.mbState m = 3) ∧
    (∃ (s : State), s.fcbOn = true) ∧
    (∃ (m : Fin 16) (s : State), (s.mbState m = 0 ∨ s.mbState m = 3 ∨ s.flag (R.MB_CTL.ABORT m) = true)) ∧
    (∃ (m : Fin 16) (s : State), s.flag (R.MB_CTL.ABORT m) = false ∧ s.mbState m = 1) ∧
    (∃ (m : Fin 16) (s : State), s.flag (R.MB_CTL.ABORT m) = false ∧ s.mbState m = 2 ∧ s.mgt.running = true ∧ (s.mbox
      m).stage = 2 ∧ (s.mbox m).outcome = none ∧ (s.mbox m).started = false) ∧
    (∃ (m : Fin 16) (s : State) (k : _), s.flag (R.MB_CTL.ABORT m) = false ∧ s.mbState m = 2 ∧ s.mgt.running = true ∧
      (s.mbox m).stage = 2 ∧ (s.mbox m).outcome = none ∧ (s.mbox m).started = false ∧ k ≠ m.val) ∧
    (∃ (m : Fin 16) (s : State), s.up = true ∧ s.mgt.running = true ∧ s.takable.contains m.val = true ∧ (∀
      k ∈ s.takable, (s.mbox m).postSeq ≤ (s.mbox k).postSeq)) ∧
    (∃ (m : Fin 16) (s : State), s.up = true ∧ s.mgt.running = true ∧ s.takable.contains m.val = true ∧ (∀
      k ∈ s.takable, (s.mbox m).postSeq ≤ (s.mbox k).postSeq) ∧ (s.mbox m).abortReq = false ∧ (s.mbox m).serial = 0 ∧
      frMore (s.mbox m).frame = false ∧ frCont (s.mbox m).frame = false ∧ frAlen (s.mbox m).frame = frAtotal (s.mbox
      m).frame ∧ frAlen (s.mbox m).frame ≤ 120) ∧
    (∃ (m : Fin 16) (s : State), s.up = true ∧ s.mgt.running = true ∧ s.takable.contains m.val = true ∧ (∀
      k ∈ s.takable, (s.mbox m).postSeq ≤ (s.mbox k).postSeq) ∧ (s.mbox m).abortReq = false ∧ 120 < frAlen (s.mbox
      m).frame) ∧
    (∃ (m : Fin 16) (s : State), s.answerReady m = true) :=
  ⟨⟨15, base mRun, by decide +kernel⟩,
    ⟨15, box15 1 id (base mRun), by decide +kernel⟩,
    ⟨15, box15 3 id (base mRun), by decide +kernel⟩,
    ⟨base mRun, by decide +kernel⟩,
    ⟨15, base mRun, by decide +kernel⟩,
    ⟨15, box15 1 id (base mRun), by decide +kernel⟩,
    ⟨15, box15 2 (fun b => { b with stage := 2 }) (base mRun), by decide +kernel⟩,
    ⟨15, box15 2 (fun b => { b with stage := 2 }) (base mRun), 14, by decide +kernel⟩,
    ⟨15, box15 1 id (base mRun), by decide +kernel⟩,
    ⟨15, box15 1 (fun b => { b with frame := [0x00, 0x05, 7, 0, 0, 0, 0, 0] ++ List.replicate 120 0 }) (base mRun),
      by decide +kernel⟩,
    ⟨15, box15 1 (fun b => { b with frame := List.replicate 128 121 }) (base mRun), by decide +kernel⟩,
    ⟨15, box15 2 (fun b => { b with stage := 2, outcome := some ⟨0, false, List.replicate 112 255⟩ }) (base mRun),
      by decide +kernel⟩⟩

theorem witness_MailboxEventsComplete_2 :
    (∃ (m : Fin 16) (s : State) (o : Outc), (s.mbox m).stage = 2 ∧ (s.mbox m).outcome = some o ∧ (s.mbox m).path < 2
      ∧ o.result.length ≤ 112) ∧
    (∃ (m : Fin 16) (s : State) (o : Outc) (k : _), (s.mbox m).stage = 2 ∧ (s.mbox m).outcome = some o ∧ (s.mbox
      m).path < 2 ∧ o.result.length ≤ 112 ∧ k ≠ m.val) ∧
    (∃ (m : Fin 16) (s : State), s.up = true ∧ (s.mbState m = 1 ∨ s.mbState m = 2) ∧ (s.mbox m).timeoutMs ≠ 0) ∧
    (∃ (m : Fin 16) (s : State), s.up = true ∧ (s.mbState m = 1 ∨ s.mbState m = 2) ∧ (s.mbox m).timeoutMs ≠ 0 ∧
      s.answerReady m = true) ∧
    (∃ (s : State) (l : Fin 96), s.streamOpen (s.bundleOf l) = true ∧ s.flag (R.LINK_CFG.MGMT_EN (s.bundleOf
      l)) = true) ∧
    (∃ (m : Fin 16) (s : State) (l : Fin 96) (rec_ : List Nat), s.streamOpen (s.bundleOf l) = true ∧ s.flag
      (R.LINK_CFG.MGMT_EN (s.bundleOf l)) = true ∧ rec_.length = 129 ∧ (∀ x ∈ rec_, x < 256) ∧ rec_.head? = some 1 ∧
      s.mgt.running = true ∧ s.mgt.recovery = false ∧ s.mbFree m 2 (s.bundleOf l) 0 = true) ∧
    (∃ (m : Fin 16) (s : State) (l : Fin 96) (rec_ : List Nat), s.streamOpen (s.bundleOf l) = true ∧ s.flag
      (R.LINK_CFG.MGMT_EN (s.bundleOf l)) = true ∧ rec_.length = 129 ∧ (∀ x ∈ rec_, x < 256) ∧ rec_.head? = some 1 ∧
      s.mgt.running = true ∧ s.mgt.recovery = false ∧ s.mbFree m 2 (s.bundleOf l) 0 = false) ∧
    (∃ (s : State) (l : Fin 96) (b : List Nat), s.streamOpen (s.bundleOf l) = true ∧ s.flag (R.LINK_CFG.MGMT_EN
      (s.bundleOf l)) = true ∧ 4 ≤ b.length ∧ numAt b (b.length - 2) 2 ≠ crc16 (b.take (b.length - 2))) ∧
    (∃ (m : Fin 16) (s : State) (p : Pkt), s.up = true ∧ s.rxHead 0xA0 = some p ∧ p.typ = 5 ∧ p.off = m.val ∧
      p.data.length = 128 ∧ s.mgt.running = true ∧ s.mgt.recovery = false ∧ (popRx 0xA0 s).mbFree m 3 p.srcDev
      p.srcEp = true) ∧
    (∃ (m : Fin 16) (s : State) (p : Pkt), s.up = true ∧ s.rxHead 0xA0 = some p ∧ p.typ = 5 ∧ p.off = m.val ∧
      p.data.length = 128 ∧ s.mgt.running = true ∧ s.mgt.recovery = false ∧ (popRx 0xA0 s).mbFree m 3 p.srcDev
      p.srcEp = false) ∧
    (∃ (m : Fin 16) (s : State) (p : Pkt), s.up = true ∧ s.rxHead 0xA0 = some p ∧ p.typ = 5 ∧ p.off = 16 + m.val) ∧
    (∃ (m : Fin 16) (s : State) (p : Pkt), s.up = true ∧ s.rxHead 0xA0 = some p ∧ p.typ = 5 ∧ p.off = m.val ∧
      p.data.length ≠ 128) :=
  ⟨⟨15, box15 2 (fun b => { b with stage := 2, outcome := some ⟨0, false, List.replicate 112 255⟩ }) (base mRun),
      ⟨0, false, List.replicate 112 255⟩, by decide +kernel⟩,
    ⟨15, box15 2 (fun b => { b with stage := 2, outcome := some ⟨0, false, List.replicate 112 255⟩ }) (base mRun),
      ⟨0, false, List.replicate 112 255⟩, 14, by decide +kernel⟩,
    ⟨15, box15 1 (fun b => { b with timeoutMs := 1 }) (base mRun), by decide +kernel⟩,
    ⟨15, box15 2 (fun b => { b with timeoutMs := 1, stage := 3 }) (base mRun), by decide +kernel⟩,
    ⟨(link95 (base mRun)).set (R.LINK_CFG.MGMT_EN 95) 1, 95, by decide +kernel⟩,
    ⟨15, (link95 (base mRun)).set (R.LINK_CFG.MGMT_EN 95) 1, 95, 1 :: List.replicate 128 255, by decide +kernel⟩,
    ⟨15, ((link95 (base mRun)).set (R.LINK_CFG.MGMT_EN 95) 1).set (R.MB_CTL.STATE 15) 1, 95, 1 :: List.replicate 128
      255, by decide +kernel⟩,
    ⟨(link95 (base mRun)).set (R.LINK_CFG.MGMT_EN 95) 1, 95, [1, 2, 3, 4], by decide +kernel⟩,
    ⟨15, ((base mRun)).modNoc fun n => { n with rx := [(0xA0, [pk 5 0 0xA0 15 128 (List.replicate 128 0)])] }, pk 5 0
      0xA0 15 128 (List.replicate 128 0), by decide +kernel⟩,
    ⟨15, (box15 1 id (base mRun)).modNoc fun n =>
      { n with rx := [(0xA0, [pk 5 0 0xA0 15 128 (List.replicate 128 0)])] }, pk 5 0 0xA0 15 128 (List.replicate 128
      0), by decide +kernel⟩,
    ⟨15, ((base mRun)).modNoc fun n => { n with rx := [(0xA0, [pk 5 0 0xA0 31 0 (List.replicate 0 0)])] }, pk 5 0
      0xA0 31 0 (List.replicate 0 0), by decide +kernel⟩,
    ⟨15, ((base mRun)).modNoc fun n => { n with rx := [(0xA0, [pk 5 0 0xA0 15 127 (List.replicate 127 0)])] }, pk 5 0
      0xA0 15 127 (List.replicate 127 0), by decide +kernel⟩⟩

theorem witness_ResetEventsComplete :
    (∃ (s : State) (c : Fin 3) (k : _), s.up = true ∧ s.mgt.startDue = some c.val ∧ s.held 0xC0 = false ∧
      s.mgt.lockstop = false ∧ s.fwPick = some k) ∧
    (∃ (s : State) (c : Fin 3), s.up = true ∧ s.mgt.startDue = some c.val ∧ s.held 0xC0 = false ∧
      s.mgt.lockstop = false ∧ s.fwPick = none) ∧
    (∃ (s : State), s.up = true ∧ s.mgt.lockstop = false) ∧
    (∃ (s : State), s.up = true ∧ s.mgt.lockstop = false ∧ s.held 0xC0 = false) ∧
    (∃ (s : State), s.up = true ∧ s.mgt.lockstop = false ∧ s.mode ≠ mSafe ∧ s.mode ≠ mTest) ∧
    (∃ (s : State), s.up = true ∧ s.mgt.lockstop = false ∧ s.held 0xC0 = false ∧ s.mode ≠ mSafe ∧ s.mode ≠ mTest) ∧
    (∃ (s : State), s.fcbOn = true) ∧
    (∃ (s : State) (k : BitVec 8), s.fcbOn = true ∧ k ≠ 0xA5) ∧
    (∃ (s : State), s.fcbOn = true ∧ s.mode ≠ mSafe ∧ s.mode ≠ mTest) ∧
    (∃ (s : State), s.fcbOn = true ∧ s.mode = mSafe) ∧
    (∃ (s : State), s.fcbOn = true ∧ s.mode = mTest) ∧
    (∃ (s : State), s.fcbOn = true) :=
  ⟨⟨(base mRun).modMgt fun g => { g with startDue := some 2 }, 2, 0, by decide +kernel⟩,
    ⟨(base mBoot).modMgt fun g => { g with startDue := some 0, fw := [] }, 0, by decide +kernel⟩,
    ⟨base mRun, by decide +kernel⟩,
    ⟨base mRun, by decide +kernel⟩,
    ⟨base mRun, by decide +kernel⟩,
    ⟨base mRun, by decide +kernel⟩,
    ⟨base mRun, by decide +kernel⟩,
    ⟨base mRun, 0x5A, by decide +kernel⟩,
    ⟨base mRun, by decide +kernel⟩,
    ⟨base mSafe, by decide +kernel⟩,
    ⟨base mTest, by decide +kernel⟩,
    ⟨base mRun, by decide +kernel⟩⟩

theorem witness_ResetEventsComplete_2 :
    (∃ (s : State) (i : Fin 8) (j : Fin 32), let f := 32 * i.val + j.val; s.fcbOn = true ∧ funcAssigned f = true ∧
      (s.test.busy.any fun k => busyFunc k == f) = false ∧ s.get (R.RST_FUNC.HOLD i) = 0) ∧
    (∃ (s : State) (i : Fin 8) (j : Fin 32), let f := 32 * i.val + j.val; s.fcbOn = true ∧ funcAssigned f = true ∧
      (s.test.busy.any fun k => busyFunc k == f) = false ∧ s.get (R.RST_FUNC.HOLD i) = 2 ^ j.val) ∧
    (∃ (s : State), s.fcbOn = true) ∧
    (∃ (s : State) (f : Fin 256), f.val ∈ s.mgt.draining ∧ s.held f = true ∧ s.drained f = true) :=
  ⟨⟨base mRun, 5, 21, by decide +kernel⟩,
    ⟨(base mRun).set (R.RST_FUNC.HOLD 5) (2 ^ 21), 5, 21, by decide +kernel⟩,
    ⟨base mRun, by decide +kernel⟩,
    ⟨((base mRun).set (R.RST_FUNC.HOLD 7) (2 ^ 31)).modMgt fun g => { g with draining := [255] }, 255,
      by decide +kernel⟩⟩

theorem witness_BusAccessesComplete :
    (∃ (s : State) (a : BitVec 16), let a' := a.toNat / 4 * 4; s.fcbOn = true ∧ a.toNat < 0x1000) ∧
    (∃ (s : State) (a : BitVec 16), let a' := a.toNat / 4 * 4; let f := xingFunc a'; s.fcbOn = true ∧
      a.toNat < 0x1000 ∧ (s.xing f).req = none) ∧
    (∃ (s : State) (a : BitVec 16), let a' := a.toNat / 4 * 4; s.fcbOn = true ∧ a.toNat < 0x1000 ∧ (cardAt
      a').isSome = true) ∧
    (∃ (s : State) (a : BitVec 16), let a' := a.toNat / 4 * 4; s.fcbOn = true ∧ a.toNat < 0x1000 ∧ cardAt a' = none) ∧
    (∃ (s : State) (a : BitVec 16), let a' := a.toNat / 4 * 4; let f := xingFunc a'; s.fcbOn = true ∧
      a.toNat < 0x1000 ∧ cardAt a' = none ∧ (s.xing f).req = none) ∧
    (∃ (x : Xing), x.req = none) ∧
    (∃ (x : Xing), x.req.isSome = true) ∧
    (∃ (a : _), a ∈ [0x4C, 0x50, 0x68, 0x6C, 0x70]) ∧
    (∃ (s : State) (m : Fin 16), s.fcbOn = true ∧ s.mbState m ≠ 0) ∧
    (∃ (s : State) (m : Fin 16), s.fcbOn = true ∧ s.mbState m = 0 ∧ (s.mbox m).frame.length = 128) ∧
    (∃ (s : State) (a : BitVec 16) (x : _), s.fcbOn = true ∧ 0x2000 ≤ a.toNat ∧ s.pageAddr (a.toNat / 4 * 4) = some x
      ∧ s.mgt.expWrites.length < 16) ∧
    (∃ (s : State) (a : BitVec 16) (x : _), s.fcbOn = true ∧ 0x2000 ≤ a.toNat ∧ s.pageAddr (a.toNat / 4 * 4) = some x
      ∧ 16 ≤ s.mgt.expWrites.length) :=
  ⟨⟨base mRun, 0x70, by decide +kernel⟩,
    ⟨base mRun, 0x70, by decide +kernel⟩,
    ⟨base mRun, 0x60, by decide +kernel⟩,
    ⟨base mRun, 0xFFF, by decide +kernel⟩,
    ⟨base mRun, 0xFFF, by decide +kernel⟩,
    ⟨Xing.init, by decide +kernel⟩,
    ⟨{ Xing.init with req := some ⟨0, 0x4C, 5⟩, pend := some ⟨0, 0x4C, 5⟩ }, by decide +kernel⟩,
    ⟨0x70, by decide +kernel⟩,
    ⟨box15 1 id (base mRun), 15, by decide +kernel⟩,
    ⟨box15 0 (fun b => { b with frame := List.replicate 128 0 }) (base mRun), 15, by decide +kernel⟩,
    ⟨((base mRun).set R.EXP_PAGE.WINDOW 13).set R.EXP_PAGE.BASE 0, 0xFFFF, 13 * 2 ^ 20 + 0xDFFC, by decide +kernel⟩,
    ⟨(((base mRun).set R.EXP_PAGE.WINDOW 13).set R.EXP_PAGE.BASE 0).modMgt fun g =>
      { g with expWrites := List.replicate 16 (0x400400, 5) }, 0xFFFF, 13 * 2 ^ 20 + 0xDFFC, by decide +kernel⟩⟩

theorem witness_BusAccessesComplete_2 :
    (∃ (s : State) (a : BitVec 16), s.fcbOn = true ∧ 0x2000 ≤ a.toNat ∧ s.pageAddr (a.toNat / 4 * 4) = none) ∧
    (∃ (s : State) (a : _) (v : _) (l : List (Nat × Nat)), s.mgt.expWrites = (a, v) :: l ∧ (s.held (xingFunc
      a) = false ∨ (s.xing (xingFunc a)).pend = none) ∧ (cardAt a).isSome = true ∧ (expFuncs a).any
      s.unlocked' = true) ∧
    (∃ (s : State) (a : _) (v : _) (l : List (Nat × Nat)), s.mgt.expWrites = (a, v) :: l ∧ (s.held (xingFunc
      a) = false ∨ (s.xing (xingFunc a)).pend = none) ∧ (cardAt a).isSome = true ∧ (expFuncs a).any
      s.unlocked' = false) ∧
    (∃ (s : State) (a : _) (v : _) (l : List (Nat × Nat)), s.mgt.expWrites = (a, v) :: l ∧ (s.held (xingFunc
      a) = false ∨ (s.xing (xingFunc a)).pend = none) ∧ cardAt a = none) ∧
    (∃ (s : State) (a : _) (v : _) (l : List (Nat × Nat)), s.mgt.expWrites = (a, v) :: l ∧ s.held (xingFunc
      a) = true ∧ (s.xing (xingFunc a)).pend.isSome = true) ∧
    (∃ (s : State) (dr : BitVec 49), s.mgt.tapIr = 0x10 ∧ s.flag R.SEC_PROT.JTAG_FULL = true ∧ dr.toNat.testBit
      16 = true) ∧
    (∃ (s : State) (dr : BitVec 49), s.mgt.tapIr = 0x10 ∧ s.flag R.SEC_PROT.JTAG_FULL = true ∧ dr.toNat.testBit
      16 = false) ∧
    (∃ (s : State), s.flag R.SEC_PROT.JTAG_FULL = false) :=
  ⟨⟨(base mRun).set R.EXP_PAGE.WINDOW 14, 0xFFFF, by decide +kernel⟩,
    ⟨((List.range 8).foldl (fun s k => s.set (R.EXP_UNLK.UNLK k) (2 ^ 32 - 1)) (base mRun)).modMgt fun g =>
      { g with expWrites := [(0x400400, 5)] }, 0x400400, 5, [], by decide +kernel⟩,
    ⟨(base mRun).modMgt fun g => { g with expWrites := [(0x400400, 5)] }, 0x400400, 5, [], by decide +kernel⟩,
    ⟨(base mRun).modMgt fun g => { g with expWrites := [(0xE00000, 5)] }, 0xE00000, 5, [], by decide +kernel⟩,
    ⟨(((base mRun).set (R.RST_FUNC.HOLD (xingFunc 0x400400 / 32)) (2 ^ (xingFunc 0x400400 % 32))).modMgt fun g =>
      { g with expWrites := [(0x400400, 5)] }).modXing (xingFunc 0x400400) fun x =>
      { x with req := some ⟨0, 0x4C, 5⟩, pend := some ⟨0, 0x4C, 5⟩ }, 0x400400, 5, [], by decide +kernel⟩,
    ⟨((base mRun).set R.SEC_PROT.JTAG_FULL 1).modMgt fun g => { g with tapIr := 0x10 }, BitVec.ofNat 49 0x10070,
      by decide +kernel⟩,
    ⟨((base mRun).set R.SEC_PROT.JTAG_FULL 1).modMgt fun g => { g with tapIr := 0x10 }, BitVec.ofNat 49 0x00070,
      by decide +kernel⟩,
    ⟨(base mRun).set R.SEC_PROT.JTAG_FULL 0, by decide +kernel⟩⟩

theorem witness_IdentityCommandsComplete :
    (∃ (mb : Fin 16) (s : State) (c : _), s.cmdDue mb c = true ∧ assignedCode c = false) ∧
    (∃ (mb : Fin 16) (s : State), s.serves mb 0x0000 []) ∧
    (∃ (mb : Fin 16) (s : State), s.serves mb 0x0001 []) ∧
    (∃ (mb : Fin 16) (s : State) (c : _) (off : _) (bs : List Nat), s.servesBytes mb 0x0002 [(1, c), (4, off)]
      bs = true ∧ c < 2 ∧ bs.length ≤ 4096 ∧ off + bs.length ≤ 2 ^ 20 ∧ c ≠ s.fwRunning) ∧
    (∃ (mb : Fin 16) (s : State) (c : _) (off : _) (bs : List Nat), s.servesBytes mb 0x0002 [(1, c), (4, off)]
      bs = true ∧ c < 2 ∧ bs.length ≤ 4096 ∧ off + bs.length ≤ 2 ^ 20 ∧ c = s.fwRunning) ∧
    (∃ (mb : Fin 16) (s : State) (c : _), s.serves mb 0x0003 [(1, c)] ∧ c < 2 ∧ (s.fwCopy c).valid = true) ∧
    (∃ (mb : Fin 16) (s : State) (c : _), s.serves mb 0x0003 [(1, c)] ∧ c < 2 ∧ (s.fwCopy c).valid = false) ∧
    (∃ (mb : Fin 16) (s : State) (a : _) (n : _), s.serves mb 0x0004 [(1, a), (2, n)] ∧ 1 ≤ n ∧ a + n ≤ 256 ∧ s.flag
      R.SEC_PROT.EXPERT_OK = true ∧ (s.test.busy.any fun k => decide (a ≤ busyFunc k) && decide (busyFunc k < a +
      n)) = false) ∧
    (∃ (mb : Fin 16) (s : State) (a : _) (n : _), s.serves mb 0x0004 [(1, a), (2, n)] ∧ 1 ≤ n ∧ a + n ≤ 256 ∧ s.flag
      R.SEC_PROT.EXPERT_OK = false) ∧
    (∃ (mb : Fin 16) (s : State) (a : _) (n : _), s.serves mb 0x0005 [(1, a), (2, n)] ∧ 1 ≤ n ∧ a + n ≤ 256) ∧
    (∃ (mb : Fin 16) (s : State) (f : _) (a : _), s.serves mb 0x0006 [(1, f), (1, a)] ∧ a < 3 ∧ funcAssigned f = true
      ∧ f ≠ 0xC0) ∧
    (∃ (mb : Fin 16) (s : State) (f : _) (a : _), s.serves mb 0x0006 [(1, f), (1, a)] ∧ a < 3 ∧ funcAssigned f = true
      ∧ f = 0xC0) :=
  ⟨⟨0, asks (0xFFFF) [] (base mRun), 0xFFFF, by decide +kernel⟩,
    ⟨0, asks 0x0000 (pack []) (base mRun), by decide +kernel⟩,
    ⟨0, asks 0x0001 (pack []) (base mRun), by decide +kernel⟩,
    ⟨0, asks 0x0002 (pack [(1, (1)), (4, (2 ^ 20 - 2))] ++ ([1, 255])) (base mRun), 1, 2 ^ 20 - 2, [1, 255],
      by decide +kernel⟩,
    ⟨0, asks 0x0002 (pack [(1, (0)), (4, (2 ^ 20 - 2))] ++ ([1, 255])) (base mRun), 0, 2 ^ 20 - 2, [1, 255],
      by decide +kernel⟩,
    ⟨0, asks 0x0003 (pack [(1, (1))]) ((base mRun).modMgt fun g => { g with fw := [(1, ⟨true, 0, 0, []⟩)] }), 1,
      by decide +kernel⟩,
    ⟨0, asks 0x0003 (pack [(1, (1))]) ((base mRun).modMgt fun g => { g with fw := [] }), 1, by decide +kernel⟩,
    ⟨0, asks 0x0004 (pack [(1, (255)), (2, (1))]) ((base mRun).set R.SEC_PROT.EXPERT_OK 1), 255, 1,
      by decide +kernel⟩,
    ⟨0, asks 0x0004 (pack [(1, (0)), (2, (256))]) ((base mRun).set R.SEC_PROT.EXPERT_OK 0), 0, 256,
      by decide +kernel⟩,
    ⟨0, asks 0x0005 (pack [(1, (0)), (2, (256))]) (base mRun), 0, 256, by decide +kernel⟩,
    ⟨0, asks 0x0006 (pack [(1, (0xB3)), (1, (2))]) (base mRun), 0xB3, 2, by decide +kernel⟩,
    ⟨0, asks 0x0006 (pack [(1, (0xC0)), (1, (2))]) (base mRun), 0xC0, 2, by decide +kernel⟩⟩

theorem witness_IdentityCommandsComplete_2 :
    (∃ (mb : Fin 16) (s : State) (box : _) (mask : _), s.serves mb 0x0007 [(1, box), (2, mask)] ∧ box < 16) ∧
    (∃ (mb : Fin 16) (s : State) (box : _) (ms : _), s.serves mb 0x0008 [(1, box), (2, ms)] ∧ box < 16 ∧ ms ≤ 60000) ∧
    (∃ (mb : Fin 16) (s : State) (scope : _), let b := s.calRecord scope; 1 ≤ scope ∧ scope < 32 ∧ s.serves mb 0x0C00
      [(1, scope), (1, 0)] ∧ b.length ≤ 8192) ∧
    (∃ (mb : Fin 16) (s : State) (scope : _), let b := s.calRecord scope; (1 ≤ scope ∧ scope < 32 ∧ s.serves mb
      0x0C00 [(1, scope), (1, 0)]) ∧ 8192 < b.length) ∧
    (∃ (mb : Fin 16) (s : State) (scope : _) (n : _), 1 ≤ scope ∧ scope < 32 ∧ s.serves mb 0x0C00 [(1, scope), (1,
      1), (8, n)]) ∧
    (∃ (mb : Fin 16) (s : State) (scope : _) (n : _), 1 ≤ scope ∧ scope < 32 ∧ s.serves mb 0x0C00 [(1, scope), (1,
      2), (1, n)] ∧ n < 8) ∧
    (∃ (mb : Fin 16) (s : State) (force : _) (bytes : List Nat) (l : List CalSec), s.servesBytes mb 0x0C01 [(1, 0)]
      (bytes ++ [force]) = true ∧ force < 2 ∧ bytes.length ≤ 8192 ∧ calParse bytes = some l ∧ s.calStatus l = stOk ∧
      (force = 1 ∨ numAt bytes 8 16 = s.aon.serial)) ∧
    (∃ (mb : Fin 16) (s : State) (n : _) (force : _) (b : CalRec) (l : List CalSec), s.serves mb 0x0C01 [(1, 2), (1,
      n), (1, force)] ∧ n < 8 ∧ force < 2 ∧ lookup s.mgt.cal n = some b ∧ calParse b.bytes = some l ∧ s.calStatus
      l = stOk ∧ (force = 1 ∨ numAt b.bytes 8 16 = s.aon.serial)) ∧
    (∃ (mb : Fin 16) (s : State) (n : _) (force : _) (b : CalRec) (l : List CalSec), s.serves mb 0x0C01 [(1, 2), (1,
      n), (1, force)] ∧ n < 8 ∧ force < 2 ∧ lookup s.mgt.cal n = some b ∧ calParse b.bytes = some l ∧ s.calStatus
      l = stOk ∧ force = 0 ∧ numAt b.bytes 8 16 ≠ s.aon.serial) ∧
    (∃ (mb : Fin 16) (s : State), s.serves mb 0x0C02 []) ∧
    (∃ (mb : Fin 16) (s : State) (b : _) (n : _), s.serves mb 0x0C03 [(1, b), (1, n)] ∧ b < 2 ∧ (n < 8 ∨ (b = 1 ∧
      n = 255))) :=
  ⟨⟨0, asks 0x0007 (pack [(1, (15)), (2, (65535))]) (base mRun), 15, 65535, by decide +kernel⟩,
    ⟨0, asks 0x0008 (pack [(1, (15)), (2, (60000))]) (base mRun), 15, 60000, by decide +kernel⟩,
    ⟨0, asks 0x0C00 (pack [(1, (16)), (1, 0)]) (base mRun), 16, by decide +kernel⟩,
    ⟨0, asks 0x0C00 (pack [(1, (2)), (1, 0)]) (base mRun), 2, by decide +kernel, (cal_long _)⟩,
    ⟨0, asks 0x0C00 (pack [(1, (31)), (1, 1), (8, (7))]) (base mRun), 31, 7, by decide +kernel⟩,
    ⟨0, asks 0x0C00 (pack [(1, (31)), (1, 2), (1, (7))]) (base mRun), 31, 7, by decide +kernel⟩,
    ⟨0, asks 0x0C01 (pack [(1, 0)] ++ (calOf 0 ++ [0])) (base mRun), 0, calOf 0, [], by decide +kernel⟩,
    ⟨0, asks 0x0C01 (pack [(1, 2), (1, (7)), (1, (0))]) ((base mRun).modMgt fun g =>
      { g with cal := [(7, ⟨calOf 0⟩)] }), 7, 0, ⟨calOf 0⟩, [], by decide +kernel⟩,
    ⟨0, asks 0x0C01 (pack [(1, 2), (1, (7)), (1, (0))]) ((base mRun).modMgt fun g =>
      { g with cal := [(7, ⟨calOf 5⟩)] }), 7, 0, ⟨calOf 5⟩, [], by decide +kernel⟩,
    ⟨0, asks 0x0C02 (pack []) (base mRun), by decide +kernel⟩,
    ⟨0, asks 0x0C03 (pack [(1, (1)), (1, (255))]) (base mRun), 1, 255, by decide +kernel⟩⟩

theorem witness_SupplyAndHeatEventsComplete :
    (∃ (s : State), s.mode ≠ mOff) ∧
    (∃ (s : State) (r : Fin 14) (k : Nat), s.mode ≠ mOff ∧ r.val ≠ 0 ∧ r.val ≠ 13 ∧ s.bit R.PWR_STAT.RAIL_OK
      r = false ∧ s.orderFault r k = none) ∧
    (∃ (s : State) (r : Fin 14) (k : Nat) (c : _), s.mode ≠ mOff ∧ r.val ≠ 0 ∧ r.val ≠ 13 ∧ s.bit R.PWR_STAT.RAIL_OK
      r = false ∧ s.orderFault r k = some c) ∧
    (∃ (s : State) (r : Fin 14) (k : Nat) (c : _), s.mode ≠ mOff ∧ r.val ≠ 0 ∧ r.val ≠ 13 ∧ s.bit R.PWR_STAT.RAIL_OK
      r = false ∧ s.orderFault r k = some c ∧ s.mode = mStandby ∧ s.get R.DEV_MODE.STBY_FAULT = 0) ∧
    (∃ (s : State) (r : Fin 14), s.up = true ∧ 1 ≤ r.val ∧ r.val ≤ 10 ∧ s.get R.DEV_MODE.STBY_FAULT = 0 ∧ s.bit
      R.PWR_STAT.RAIL_OK r = true) ∧
    (∃ (s : State) (r : Fin 14), s.up = true ∧ 1 ≤ r.val ∧ r.val ≤ 10 ∧ s.get R.DEV_MODE.STBY_FAULT = 0) ∧
    (∃ (s : State) (r : Fin 14), s.mode = mStandby ∧ r.val ≠ 0 ∧ r.val ≠ 13 ∧ s.bit R.PWR_STAT.RAIL_OK r = true) ∧
    (∃ (s : State) (c : Fin 64), s.mode ≠ mOff ∧ c.val ∈ [1, 2, 3, 4, 5, 0x30]) ∧
    (∃ (s : State) (r : Fin 14), s.mode ≠ mOff ∧ r.val ≠ 0 ∧ r.val ≠ 13 ∧ s.bit R.PWR_STAT.RAIL_OK r = true) ∧
    (∃ (s : State), s.up = true ∧ s.clocked 16 = true) ∧
    (∃ (s : State), s.up = true ∧ s.get R.THERM_STAT.STATE = 1) ∧
    (∃ (s : State), s.up = true) :=
  ⟨⟨base mRun, by decide +kernel⟩,
    ⟨(base mStandby).set R.PWR_STAT.RAIL_OK 1, 7, 0, by decide +kernel⟩,
    ⟨(base mStandby).set R.PWR_STAT.RAIL_OK 1, 2, 0, 2, by decide +kernel⟩,
    ⟨(base mStandby).set R.PWR_STAT.RAIL_OK 1, 2, 0, 2, by decide +kernel⟩,
    ⟨base mRun, 10, by decide +kernel⟩,
    ⟨base mRun, 10, by decide +kernel⟩,
    ⟨base mStandby, 12, by decide +kernel⟩,
    ⟨base mStandby, 0x30, by decide +kernel⟩,
    ⟨base mStandby, 8, by decide +kernel⟩,
    ⟨base mRun, by decide +kernel⟩,
    ⟨(base mLimit).set R.THERM_STAT.STATE 1, by decide +kernel⟩,
    ⟨base mRun, by decide +kernel⟩⟩

theorem witness_SupplyAndHeatEventsComplete_2 :
    (∃ (s : State), s.up = true ∧ s.mode ≠ mSafe ∧ s.mode ≠ mTest) ∧
    (∃ (s : State), s.up = true ∧ s.mgt.running = true) ∧
    (∃ (s : State) (g : VertGroup), s.up = true ∧ (s.vgroup g.addr).fenced = false) ∧
    (∃ (s : State) (g : VertGroup) (p : Nat) (n : Nat), s.up = true ∧ s.vgroup g.addr = ⟨[(p, n)], [], false⟩ ∧
      n < 3) ∧
    (∃ (s : State) (g : VertGroup) (p : Nat) (k : Nat), s.up = true ∧ (s.vgroup g.addr).fenced = false ∧ at'
      (s.vgroup g.addr).bad p 0 = 3 ∧ s.freeSpare g.addr = some k) ∧
    (∃ (s : State) (g : VertGroup) (p : Nat) (k : Nat) (j : _), s.up = true ∧ (s.vgroup g.addr).fenced = false ∧ at'
      (s.vgroup g.addr).bad p 0 = 3 ∧ s.freeSpare g.addr = some k ∧ j < k) ∧
    (∃ (s : State) (v : BitVec 32), s.fcbOn = true ∧ 960 ≤ v.toNat % 4096 ∧ v.toNat % 4096 ≤ 1680 ∧ 10 ≤ v.toNat /
      4096 % 8192 ∧ v.toNat / 4096 % 8192 ≤ 5000 ∧ 4 ≤ v.toNat / 2 ^ 25 % 16) ∧
    (∃ (s : State) (v : BitVec 32), s.fcbOn = true ∧ (v.toNat % 4096 < 960 ∨ 1680 < v.toNat % 4096 ∨ v.toNat / 4096 %
      8192 < 10 ∨ 5000 < v.toNat / 4096 % 8192 ∨ v.toNat / 2 ^ 25 % 16 < 4)) ∧
    (∃ (tmax : Int) (limit : Nat) (floor : Nat), floor ≤ 15 ∧ tmax < limit) ∧
    (∃ (tmax : Int) (limit : Nat) (floor : Nat) (k : Nat), floor ≤ 15 ∧ (limit : Int) + 8 * k ≤ tmax ∧ tmax < limit +
      8 * (k + 1)) ∧
    (∃ (floor : Nat), floor ≤ 15) :=
  ⟨⟨base mRun, by decide +kernel⟩,
    ⟨base mRun, by decide +kernel⟩,
    ⟨(base mRun).modTherm fun t =>
      { t with vert := [((⟨2 * 2 ^ 29 + 5, .hitStream 31⟩ : VertGroup).addr, ⟨[(4, 2)], [], false⟩)] }, (⟨2 * 2 ^ 29
      + 5, .hitStream 31⟩ : VertGroup), by decide +kernel⟩,
    ⟨(base mRun).modTherm fun t =>
      { t with vert := [((⟨2 * 2 ^ 29 + 5, .hitStream 31⟩ : VertGroup).addr, ⟨[(4, 2)], [], false⟩)] }, (⟨2 * 2 ^ 29
      + 5, .hitStream 31⟩ : VertGroup), 4, 2, by decide +kernel⟩,
    ⟨(base mRun).modTherm fun t =>
      { t with vert := [((⟨5 * 2 ^ 29 + 5, .hitStream 31⟩ : VertGroup).addr, ⟨[(4, 3)], [(5, 0)], false⟩)] }, (⟨5 * 2
      ^ 29 + 5, .hitStream 31⟩ : VertGroup), 4, 1, by decide +kernel⟩,
    ⟨(base mRun).modTherm fun t =>
      { t with vert := [((⟨5 * 2 ^ 29 + 5, .hitStream 31⟩ : VertGroup).addr, ⟨[(4, 3)], [(5, 0)], false⟩)] }, (⟨5 * 2
      ^ 29 + 5, .hitStream 31⟩ : VertGroup), 4, 1, 0, by decide +kernel⟩,
    ⟨base mRun, BitVec.ofNat 32 (960 + 5000 * 4096 + 15 * 2 ^ 25), by decide +kernel⟩,
    ⟨base mRun, BitVec.ofNat 32 (1681 + 5000 * 4096 + 15 * 2 ^ 25), by decide +kernel⟩,
    ⟨1679, 1680, 15, by decide +kernel⟩,
    ⟨1799, 1680, 4, 14, by decide +kernel⟩,
    ⟨4, by decide +kernel⟩⟩

theorem witness_PowerCommandsComplete :
    (∃ (mb : Fin 16) (s : State), s.serves mb 0x0700 []) ∧
    (∃ (mb : Fin 16) (s : State) (l : _) (g : _) (f : _), s.serves mb 0x0701 [(2, l), (2, g), (1, f)] ∧ 960 ≤ l ∧
      l ≤ 1680 ∧ 10 ≤ g ∧ g ≤ 5000 ∧ 4 ≤ f ∧ f ≤ 15) ∧
    (∃ (mb : Fin 16) (s : State), s.serves mb 0x0702 []) ∧
    (∃ (mb : Fin 16) (s : State), s.serves mb 0x0703 []) ∧
    (∃ (mb : Fin 16) (s : State), s.serves mb 0x0704 []) ∧
    (∃ (mb : Fin 16) (s : State) (a : _) (n : _), s.serves mb 0x0705 [(2, a), (1, n)] ∧ 1 ≤ n ∧ n ≤ 16) ∧
    (∃ (mb : Fin 16) (s : State) (q : _) (u : _) (o : _), s.serves mb 0x0706 [(1, q), (1, u), (1, o)] ∧ q < 4 ∧ u < 2
      ∧ o < 2 ∧ s.quadTested q u = false ∧ s.mode ≠ mSafe) ∧
    (∃ (mb : Fin 16) (s : State) (q : _) (u : _) (o : _), s.serves mb 0x0706 [(1, q), (1, u), (1, o)] ∧ q < 4 ∧ u < 2
      ∧ o < 2 ∧ s.quadTested q u = false ∧ s.mode = mSafe ∧ u = 0 ∧ o = 1) ∧
    (∃ (mb : Fin 16) (s : State) (q : _) (u : _) (o : _), s.serves mb 0x0706 [(1, q), (1, u), (1, o)] ∧ q < 4 ∧ u < 2
      ∧ o < 2 ∧ s.quadTested q u = false ∧ s.mode = mSafe ∧ u = 0 ∧ o = 0 ∧ q ∈ s.therm.memOff) ∧
    (∃ (mb : Fin 16) (s : State) (q : _) (u : _) (o : _), s.serves mb 0x0706 [(1, q), (1, u), (1, o)] ∧ q < 4 ∧ u < 2
      ∧ o < 2 ∧ s.quadTested q u = false ∧ s.mode = mSafe ∧ u = 0 ∧ o = 0 ∧ q ∉ s.therm.memOff) ∧
    (∃ (mb : Fin 16) (s : State) (q : _) (u : _) (o : _), s.serves mb 0x0706 [(1, q), (1, u), (1, o)] ∧ q < 4 ∧ u < 2
      ∧ o < 2 ∧ s.quadTested q u = false ∧ s.mode = mSafe ∧ u = 1 ∧ o = 1 ∧ q ∉ s.therm.upperOff) ∧
    (∃ (mb : Fin 16) (s : State) (q : _) (u : _) (o : _), s.serves mb 0x0706 [(1, q), (1, u), (1, o)] ∧ q < 4 ∧ u < 2
      ∧ o < 2 ∧ s.quadTested q u = false ∧ s.mode = mSafe ∧ u = 1 ∧ o = 1 ∧ q ∈ s.therm.upperOff ∧ (∀ i, i < 64 →
      s.flag (R.BANK_CFG.LAND (64 * q + i)) = false ∧ s.flag (R.BANK_CFG.CMODE (64 * q + i)) = false)) :=
  ⟨⟨0, asks 0x0700 (pack []) (base mRun), by decide +kernel⟩,
    ⟨0, asks 0x0701 (pack [(2, (1680)), (2, (5000)), (1, (15))]) (base mRun), 1680, 5000, 15, by decide +kernel⟩,
    ⟨0, asks 0x0702 (pack []) (base mRun), by decide +kernel⟩,
    ⟨0, asks 0x0703 (pack []) (base mRun), by decide +kernel⟩,
    ⟨0, asks 0x0704 (pack []) (base mRun), by decide +kernel⟩,
    ⟨0, asks 0x0705 (pack [(2, (65535)), (1, (16))]) (base mRun), 65535, 16, by decide +kernel⟩,
    ⟨0, asks 0x0706 (pack [(1, (3)), (1, (1)), (1, (1))]) (base mRun), 3, 1, 1, by decide +kernel⟩,
    ⟨0, asks 0x0706 (pack [(1, (3)), (1, (0)), (1, (1))]) (base mSafe), 3, 0, 1, by decide +kernel⟩,
    ⟨0, asks 0x0706 (pack [(1, (3)), (1, (0)), (1, (0))]) ((base mSafe).modTherm fun t =>
      { t with upperOff := [3], memOff := [3] }), 3, 0, 0, by decide +kernel⟩,
    ⟨0, asks 0x0706 (pack [(1, (3)), (1, (0)), (1, (0))]) ((base mSafe).modTherm fun t =>
      { t with upperOff := [3] }), 3, 0, 0, by decide +kernel⟩,
    ⟨0, asks 0x0706 (pack [(1, (3)), (1, (1)), (1, (1))]) (base mSafe), 3, 1, 1, by decide +kernel⟩,
    ⟨0, asks 0x0706 (pack [(1, (3)), (1, (1)), (1, (1))]) ((base mSafe).modTherm fun t =>
      { t with upperOff := [3] }), 3, 1, 1, by decide +kernel⟩⟩

theorem witness_PowerCommandsComplete_2 :
    (∃ (mb : Fin 16) (s : State) (q : _) (u : _) (o : _), s.serves mb 0x0706 [(1, q), (1, u), (1, o)] ∧ q < 4 ∧ u < 2
      ∧ o < 2 ∧ s.quadTested q u = false ∧ s.mode = mSafe ∧ u = 1 ∧ o = 0) :=
  ⟨0, asks 0x0706 (pack [(1, (3)), (1, (1)), (1, (0))]) ((base mSafe).modTherm fun t =>
    { t with upperOff := [3], memOff := [3] }), 3, 1, 0, by decide +kernel⟩

theorem witness_SelfTestCompletes :
    (∃ (s : State) (e : _) (p : _) (f : List FailEntry), s.aon.bootReady = false ∧ s.mgt.running = true ∧
      s.mgt.recovery = false ∧ s.mode = mBoot ∧ (recordQuick e p f s).unrepairable [0, 1] = [] ∧ s.flag
      R.STRAP_LATCH.STRAP_ERR = false) ∧
    (∃ (s : State) (e : _) (p : _) (f : List FailEntry), s.aon.bootReady = false ∧ s.mgt.running = true ∧
      s.mgt.recovery = false ∧ s.mode = mBoot ∧ s.test.policy = 0 ∧ (recordQuick e p f s).unrepairable [0, 1] ≠ []) ∧
    (∃ (s : State) (x : TestRun), s.test.run = some x ∧ x.kind = 2 ∧ x.slice ≠ 0 ∧ x.slice < 10) ∧
    (∃ (s : State) (o : SliceOutcome) (x : TestRun), s.test.run = some x ∧ x.kind = 2 ∧ x.slice ≠ 0 ∧ x.slice < 10 ∧
      o.exec ≠ x.prog) ∧
    (∃ (s : State) (o : SliceOutcome) (x : TestRun), s.test.run = some x ∧ x.kind = 2 ∧ x.slice ≠ 0 ∧ x.slice < 10 ∧
      o.exec = x.prog ∧ o.fails = []) ∧
    (∃ (s : State) (x : TestRun), s.test.run = some x ∧ x.kind = 0 ∧ s.mode = mTest ∧ s.test.queue = []) ∧
    (∃ (s : State) (x : TestRun) (i : _) (q : List Nat), s.test.run = some x ∧ x.kind = 0 ∧ s.mode = mTest ∧
      s.test.queue = i :: q ∧ i < 16) ∧
    (∃ (mb : Fin 16) (s : State), s.cmdDue mb 0x0800 = true ∧ s.mgt.recovery = false ∧ (s.mbox mb).args = []) ∧
    (∃ (mb : Fin 16) (s : State) (k : _) (a : _) (n : _) (r : TestRec), s.serves mb 0x0801 [(1, k), (2, a), (1, n)] ∧
      k < 3 ∧ 1 ≤ n ∧ n ≤ 6 ∧ lookup s.test.recs k = some r ∧ a < (r.items k).length) ∧
    (∃ (mb : Fin 16) (s : State) (k : _) (a : _) (n : _) (r : TestRec), s.serves mb 0x0801 [(1, k), (2, a), (1, n)] ∧
      k < 3 ∧ 1 ≤ n ∧ n ≤ 6 ∧ lookup s.test.recs k = some r ∧ (r.items k).length ≤ a) ∧
    (∃ (mb : Fin 16) (s : State) (k : _) (a : _) (n : _), s.serves mb 0x0801 [(1, k), (2, a), (1, n)] ∧ k < 3 ∧ 1 ≤ n
      ∧ n ≤ 6 ∧ lookup s.test.recs k = none) ∧
    (∃ (mb : Fin 16) (s : State) (i : _) (u : _) (b : _), s.serves mb 0x0802 [(1, i), (2, u), (2, b)] ∧ i < 10 ∧
      u < serviceCount i ∧ 1 ≤ b ∧ b ≤ 10000 ∧ (s.runClass = true ∨ s.mode = mSafe ∨ s.mode = mQuiescent) ∧
      s.test.run = none ∧ s.isolated i u = true) :=
  ⟨⟨base mBoot, 4, 5, [], by decide +kernel⟩,
    ⟨base mBoot, 5, 5, [⟨9, 0, 3, none, 0⟩], by decide +kernel⟩,
    ⟨{ base mTest with test := { (base mTest).test with run := some ⟨9, 2, [0], 5, 40, 900, 0⟩ } }, ⟨9, 2, [0], 5,
      40, 900, 0⟩, by decide +kernel⟩,
    ⟨{ base mTest with test := { (base mTest).test with run := some ⟨9, 2, [0], 5, 40, 900, 0⟩ } }, ⟨4, 5, true, 9,
      [], 100, false⟩, ⟨9, 2, [0], 5, 40, 900, 0⟩, by decide +kernel⟩,
    ⟨{ base mTest with test := { (base mTest).test with run := some ⟨9, 2, [0], 5, 40, 900, 0⟩ } }, ⟨5, 5, true, 9,
      [], 100, false⟩, ⟨9, 2, [0], 5, 40, 900, 0⟩, by decide +kernel⟩,
    ⟨{ base mTest with test := { (base mTest).test with run := some ⟨9, 0, [0], 5, 40, 900, 0⟩ } }, ⟨9, 0, [0], 5,
      40, 900, 0⟩, by decide +kernel⟩,
    ⟨{ base mTest with test := { (base mTest).test with run := some ⟨2, 0, [0], 5, 40, 900, 0⟩, queue := [4, 5] } },
      ⟨2, 0, [0], 5, 40, 900, 0⟩, 4, [5], by decide +kernel⟩,
    ⟨0, asks 0x0800 [] (base mTest), by decide +kernel⟩,
    ⟨0, asks 0x0801 (pack [(1, (2)), (2, (0)), (1, (6))])
      ({ base mRun with test := { (base mRun).test with recs := [(2, ⟨900, 2500, 1023, 0, [], [(3, ⟨4, 0, 5, none, 0⟩)]⟩)] } }),
      2, 0, 6, ⟨900, 2500, 1023, 0, [], [(3, ⟨4, 0, 5, none, 0⟩)]⟩, by decide +kernel⟩,
    ⟨0, asks 0x0801 (pack [(1, (2)), (2, (65535)), (1, (6))])
      ({ base mRun with test := { (base mRun).test with recs := [(2, ⟨900, 2500, 1023, 0, [], [(3, ⟨4, 0, 5, none, 0⟩)]⟩)] } }),
      2, 65535, 6, ⟨900, 2500, 1023, 0, [], [(3, ⟨4, 0, 5, none, 0⟩)]⟩, by decide +kernel⟩,
    ⟨0, asks 0x0801 (pack [(1, (2)), (2, (0)), (1, (6))]) (base mRun), 2, 0, 6, by decide +kernel⟩,
    ⟨0, asks 0x0802 (pack [(1, (4)), (2, (255)), (2, (10000))]) (base mRun), 4, 255, 10000, by decide +kernel⟩⟩

theorem witness_SelfTestCompletes_2 :
    (∃ (mb : Fin 16) (s : State) (i : _) (u : _) (b : _), s.serves mb 0x0802 [(1, i), (2, u), (2, b)] ∧ i < 10 ∧
      u < serviceCount i ∧ 1 ≤ b ∧ b ≤ 10000 ∧ (s.runClass = true ∨ s.mode = mSafe ∨ s.mode = mQuiescent) ∧
      s.test.run = none ∧ s.isolated i u = false) ∧
    (∃ (mb : Fin 16) (s : State) (i : _) (u : _) (b : _), s.serves mb 0x0802 [(1, i), (2, u), (2, b)] ∧ i < 10 ∧
      serviceCount i = 0 ∧ 1 ≤ b ∧ b ≤ 10000) ∧
    (∃ (mb : Fin 16) (s : State) (p : _), s.serves mb 0x0803 [(1, p)] ∧ p < 2 ∧ (p = 0 ∨ s.flag
      R.SEC_PROT.EXPERT_OK = true)) ∧
    (∃ (mb : Fin 16) (s : State) (p : _), s.serves mb 0x0803 [(1, p)] ∧ p < 2 ∧ p = 1 ∧ s.flag
      R.SEC_PROT.EXPERT_OK = false) ∧
    (∃ (mb : Fin 16) (s : State), s.serves mb 0x0804 [] ∧ s.mode = mSafe ∧ 4 ∈ s.aon.safeCauses ∧ s.flag
      R.SEC_PROT.EXPERT_OK = true) ∧
    (∃ (mb : Fin 16) (s : State), s.serves mb 0x0804 [] ∧ s.mode ≠ mSafe) ∧
    (∃ (mb : Fin 16) (s : State) (a : _) (n : _), s.serves mb 0x0805 [(1, 0), (2, a), (1, n)] ∧ 1 ≤ n ∧ n ≤ 8 ∧ a +
      n ≤ 285) ∧
    (∃ (mb : Fin 16) (s : State) (a : _) (n : _), s.serves mb 0x0805 [(1, 1), (2, a), (1, n)] ∧ 1 ≤ n ∧ n ≤ 8 ∧ a +
      n ≤ 4096) ∧
    (∃ (mb : Fin 16) (s : State) (a : _) (n : _), s.serves mb 0x0806 [(2, a), (1, n)] ∧ 1 ≤ n ∧ n ≤ 64 ∧ a + n ≤ 4096
      ∧ s.mode ≠ mTest ∧ s.freeFuses ≠ []) ∧
    (∃ (mb : Fin 16) (s : State) (a : _) (n : _), s.serves mb 0x0806 [(2, a), (1, n)] ∧ 1 ≤ n ∧ n ≤ 64 ∧ a + n ≤ 4096
      ∧ s.mode ≠ mTest ∧ s.freeFuses = []) ∧
    (∃ (mb : Fin 16) (s : State) (a : _) (n : _), s.serves mb 0x0806 [(2, a), (1, n)] ∧ 1 ≤ n ∧ n ≤ 64 ∧ a + n ≤ 4096
      ∧ s.mode ≠ mTest) ∧
    (∃ (mb : Fin 16) (s : State) (a : _) (e : RepairEnt) (k : _), s.serves mb 0x0806 [(2, a), (1, 1)] ∧ a < 4096 ∧
      s.mode ≠ mTest ∧ s.test.soft[a]? = some e ∧ e.kind ≠ 8 ∧ s.freeFuses.head? = some k) :=
  ⟨⟨0, asks 0x0802 (pack [(1, (4)), (2, (255)), (2, (1))]) ((base mRun).set (R.BANK_OWN.OWNER 255) 3), 4, 255, 1,
      by decide +kernel⟩,
    ⟨0, asks 0x0802 (pack [(1, (7)), (2, (0)), (2, (10000))]) (base mRun), 7, 0, 10000, by decide +kernel⟩,
    ⟨0, asks 0x0803 (pack [(1, (0))]) (base mRun), 0, by decide +kernel⟩,
    ⟨0, asks 0x0803 (pack [(1, (1))]) ((base mRun).set R.SEC_PROT.EXPERT_OK 0), 1, by decide +kernel⟩,
    ⟨0, asks 0x0804 (pack []) (((base mSafe).set R.SEC_PROT.EXPERT_OK 1).modAon fun a =>
      { a with safeCauses := [4] }), by decide +kernel⟩,
    ⟨0, asks 0x0804 (pack []) (base mRun), by decide +kernel⟩,
    ⟨0, asks 0x0805 (pack [(1, 0), (2, (277)), (1, (8))]) (base mRun), 277, 8, by decide +kernel⟩,
    ⟨0, asks 0x0805 (pack [(1, 1), (2, (4088)), (1, (8))]) (base mRun), 4088, 8, by decide +kernel⟩,
    ⟨0, asks 0x0806 (pack [(2, (0)), (1, (64))])
      ({ base mRun with test := { (base mRun).test with soft := [⟨4, 7, 1, 0, true, false⟩] } }), 0, 64,
      by decide +kernel⟩,
    ⟨0, asks 0x0806 (pack [(2, (0)), (1, (64))])
      ({ base mRun with test := { (base mRun).test with fuse := (List.range 285).map fun i => (i, ⟨4, 7, 1, 0, true, false⟩) } }),
      0, 64, by decide +kernel⟩,
    ⟨0, asks 0x0806 (pack [(2, (4095)), (1, (1))]) (base mRun), 4095, 1, by decide +kernel⟩,
    ⟨0, asks 0x0806 (pack [(2, (0)), (1, 1)])
      ({ base mRun with test := { (base mRun).test with soft := [⟨4, 7, 1, 0, true, false⟩] } }), 0, ⟨4, 7, 1, 0,
      true, false⟩, 0, by decide +kernel⟩⟩

theorem witness_SelfTestCompletes_3 :
    (∃ (mb : Fin 16) (s : State) (e : _), s.serves mb 0x0807 [(2, e)] ∧ e < 285 ∧ s.mode ≠ mTest) ∧
    (∃ (mb : Fin 16) (s : State) (e : _), s.serves mb 0x0807 [(2, e)] ∧ e < 285 ∧ s.mode ≠ mTest ∧ s.freeFuses ≠ []) :=
  ⟨⟨0, asks 0x0807 (pack [(2, (284))]) (base mRun), 284, by decide +kernel⟩,
    ⟨0, asks 0x0807 (pack [(2, (284))]) (base mRun), 284, by decide +kernel⟩⟩

end Sys2Proof.Tests
end

section
/-! PROOFS. `CLK_SET` and `TIME_SET` in the cases of R100, and the boundary at which a load takes effect. -/

namespace Sys2Proof.Machine

/-! ## Answers that fail -/

/-- A failing status other than `BUSY_TEST` completes without a result (R503). -/
theorem settle_fail (mb : Nat) {st : Nat} (s : State) (h : st ≠ stBusyTest) :
    settle mb (.fail st s) = setOutcome mb ⟨st, false, []⟩ s := by
  simp only [Ans.fail, if_neg h, settle_done]

/-- An outcome goes into its mailbox only. -/
@[simp] theorem setOutcome_clk (mb : Nat) (o : Outc) (s : State) : (setOutcome mb o s).clk = s.clk := rfl

@[simp] theorem State.addLoad_tick (s : State) (v b : Nat) : (s.addLoad v b).clk.tick = s.clk.tick := rfl
@[simp] theorem State.addLoad_loads (s : State) (v b : Nat) : (s.addLoad v b).clk.loads = s.clk.loads ++ [(v, b)] := rfl

/-! ## The commands -/

/-- A setting that passes every other check is `BUSY` while the last change of its domain has not relocked. -/
theorem execClkSet_waits {s : State} {mb d mode n q : Nat}
    (h : s.serves mb 0x0504 [(1, d), (1, mode), (1, n), (1, q)] = true) (hset : settable d = true) (hd : d ≤ 24)
    (hmode : s.mode = mBoot ∨ s.mode = mLoad ∨ s.mode = mSafe ∨ s.mode = mQuiescent)
    (hrange : settingRange d mode n q = true) (hfreq : s.settingFreqOk d mode n q = true)
    (hwait : (s.synth d).wait = true) :
    execClkSet mb d mode n q s = .next (setOutcome mb ⟨stBusy, false, []⟩ (s.begun mb)) := by
  have hdom : decide (24 < d) = false := decide_eq_false (Nat.not_lt.2 hd)
  have hmodes : (decide (s.mode = mBoot) || decide (s.mode = mLoad) || decide (s.mode = mSafe)
      || decide (s.mode = mQuiescent)) = true := by
    simpa only [Bool.or_eq_true, decide_eq_true_eq, or_assoc] using hmode
  rw [execClkSet, talnum_serves _ h, hdom, hset, hmodes, hrange, hfreq, hwait]
  simp only [Bool.not_true, checks_next, checks_fail, settle_fail mb _ (show stBusy ≠ stBusyTest by decide)]

section TimeSet

variable {s : State} {mb tick b : Nat} (h : s.serves mb 0x0506 [(6, tick), (6, b)] = true)
include h

/-- A served `TIME_SET` asks first whether the counter runs, then for the lead of 16 ticks. -/
theorem execTimeSet_serves : execTimeSet mb tick b s =
    .next (settle mb (checks [(!s.clk.running, stDenied), (!s.tickAhead b, stBadArg)]
      (fun s => .ok (s.addLoad tick b)) (s.begun mb))) := by
  rw [execTimeSet, talnum_serves _ h]

theorem execTimeSet_stopped (hrun : s.clk.running = false) :
    execTimeSet mb tick b s = .next (setOutcome mb ⟨stDenied, false, []⟩ (s.begun mb)) := by
  rw [execTimeSet_serves h, hrun, Bool.not_false, checks_fail, settle_fail mb _ (by decide)]

theorem execTimeSet_noLead (hrun : s.clk.running = true) (hlead : s.tickAhead b = false) :
    execTimeSet mb tick b s = .next (setOutcome mb ⟨stBadArg, false, []⟩ (s.begun mb)) := by
  rw [execTimeSet_serves h, hrun, hlead, Bool.not_true, Bool.not_false, checks_next, checks_fail,
    settle_fail mb _ (by decide)]

theorem execTimeSet_accepts (hrun : s.clk.running = true) (hlead : s.tickAhead b = true) :
    execTimeSet mb tick b s = .next (setOutcome mb ⟨stOk, false, []⟩ ((s.begun mb).addLoad tick b)) := by
  rw [execTimeSet_serves h, hrun, hlead, Bool.not_true, checks_next, checks_next, checks_nil, settle_ok]

end TimeSet

/-! ## The boundary of a load -/

/-- Of the loads for the next boundary, the one accepted last counts. -/
theorem State.loadAt_of_last {s : State} {l : List (Nat × Nat)} {v : Nat} (hrun : s.clk.running = true)
    (hl : s.clk.loads = l ++ [(v, s.nextTick)]) : s.loadAt = some v := by
  simp [State.loadAt, hrun, hl]

/-- Loads for other boundaries only: none takes effect at the next one. -/
theorem State.loadAt_eq_none {s : State} (h : ∀ e ∈ s.clk.loads, e.2 ≠ s.nextTick) : s.loadAt = none := by
  have hfind : s.clk.loads.reverse.find? (fun e => e.2 == s.nextTick) = none := by
    simpa [List.find?_eq_none] using h
  simp only [State.loadAt, hfind, Option.map_none, ite_self]

/-- A load that is due becomes the value of the counter. -/
theorem execTickLoad_due {s : State} {v : Nat} (hup : s.up = true) (h : s.loadAt = some v) :
    ∃ t, execTickLoad s = .next t ∧ t.clk.tick = v := by
  simp only [execTickLoad, h, hup, if_true]
  exact ⟨_, rfl, beginTick_tick _ _⟩

/-- Without a load that is due, the row changes nothing. -/
theorem execTickLoad_notDue {s : State} (h : s.loadAt = none) : execTickLoad s = .next s := by
  simp only [execTickLoad, h]

/-- Settles O10: the checks of both commands in their order, and the last load for the next boundary. -/
theorem setCommandsWait : Obligations.SetCommandsWait := by
  unfold Obligations.SetCommandsWait Completes
  refine ⟨?clkSet, ?timeSet, ?tickLoad⟩
  case clkSet =>
    intro mb s d mode n q h hset hd hmode hrange hfreq hwait
    exact execClkSet_waits h hset hd hmode hrange hfreq hwait
  case timeSet =>
    intro mb s tick b h
    refine ⟨execTimeSet_stopped h, execTimeSet_noLead h, fun hrun hlead => ?_⟩
    exact ⟨_, execTimeSet_accepts h hrun hlead, by simp, by simp⟩
  case tickLoad =>
    intro s l v b hup hrun hl
    refine ⟨fun hb => ?_, fun hne => execTickLoad_notDue (State.loadAt_eq_none hne)⟩
    subst hb
    exact execTickLoad_due hup (State.loadAt_of_last hrun hl)

end Sys2Proof.Machine
end

section
/-! PROOFS. Rows of lanes, one enabled port at its edge, and what it reads from and writes to an unwritten row (R203). -/

namespace Sys2Proof.Machine

/-! ## Lanes of a packed row -/

theorem packLanes_succ (l n : Nat) (f : Nat → Nat) :
    packLanes l (n + 1) f = packLanes l n f + f n % 2 ^ l * 2 ^ (l * n) := by
  simp only [packLanes, List.range_succ, List.foldl_append, List.foldl_cons, List.foldl_nil]

theorem packLanes_lt (l n : Nat) (f : Nat → Nat) : packLanes l n f < 2 ^ (l * n) := by
  induction n with
  | zero => simp [packLanes]
  | succ n ih =>
    have hlane : f n % 2 ^ l + 1 ≤ 2 ^ l := Nat.mod_lt _ (Nat.two_pow_pos l)
    calc packLanes l (n + 1) f
        < 2 ^ (l * n) + f n % 2 ^ l * 2 ^ (l * n) := by rw [packLanes_succ]; omega
      _ = (f n % 2 ^ l + 1) * 2 ^ (l * n) := by ring
      _ ≤ 2 ^ l * 2 ^ (l * n) := Nat.mul_le_mul_right _ hlane
      _ = 2 ^ (l * (n + 1)) := by rw [← pow_add]; ring_nf

/-- A packed row gives each lane back, cut to the width of a lane. -/
theorem laneOf_packLanes {l n k : Nat} (f : Nat → Nat) (hk : k < n) : laneOf l (packLanes l n f) k = f k % 2 ^ l := by
  induction n with
  | zero => omega
  | succ n ih =>
    rw [packLanes_succ, laneOf]
    rcases Nat.lt_succ_iff_lt_or_eq.1 hk with hlt | rfl
    · have hsplit : l * n = l * k + l * (n - k - 1) + l := by
        rw [← Nat.mul_add, ← Nat.mul_succ]; congr 1; omega
      have hhigh : f n % 2 ^ l * 2 ^ (l * n) = 2 ^ (l * k) * (2 ^ l * (f n % 2 ^ l * 2 ^ (l * (n - k - 1)))) := by
        rw [hsplit, pow_add, pow_add]; ring
      rw [hhigh, Nat.add_mul_div_left _ _ (Nat.two_pow_pos _), Nat.add_mul_mod_self_left]
      exact ih hlt
    · rw [Nat.add_mul_div_right _ _ (Nat.two_pow_pos _), Nat.div_eq_of_lt (packLanes_lt l k f), Nat.zero_add,
        Nat.mod_mod]

@[simp] theorem laneOf_mod (l v k : Nat) : laneOf l v k % 2 ^ l = laneOf l v k := Nat.mod_mod _ _

@[simp] theorem laneOf_zero (l k : Nat) : laneOf l 0 k = 0 := by simp [laneOf]

/-- A write gives the lanes of its mask and keeps the others; those of an unwritten row read 0 (R203). -/
theorem writeRow_lanes (rows : SMap Nat) (n code key mask v : Nat) :
    ∃ x, lookup (writeRow rows n code key mask v) key = some x ∧ ∀ k, k < n → laneOf (laneBits code) x k =
      if mask.testBit k then laneOf (laneBits code) v k else laneOf (laneBits code) (at' rows key 0) k := by
  refine ⟨_, lookup_put_same _ _ _, fun k hk => ?_⟩
  rw [laneOf_packLanes _ hk]
  split <;> exact laneOf_mod _ _ _

/-- No lane of the mask keeps stored bits of its own: its check bits fit its data. -/
theorem writeInj_written (inj : SMap Nat) {n k : Nat} (key mask : Nat) (hk : k < n) (hmask : mask.testBit k = true) :
    lookup (writeInj inj n key mask) (n * key + k) = none := by
  refine lookup_filter_drop inj (fun j => !(j / n == key && mask.testBit (j % n))) ?_
  have hdiv : (n * key + k) / n = key := by
    rw [Nat.mul_add_div (by omega), Nat.div_eq_of_lt hk, Nat.add_zero]
  have hmod : (n * key + k) % n = k := by rw [Nat.mul_add_mod, Nat.mod_eq_of_lt hk]
  simp [hdiv, hmod, hmask]

theorem readRow_unwritten {rows : SMap Nat} {key : Nat} (h : lookup rows key = none) (inj : SMap Nat) (n code c : Nat) :
    readRow rows inj n code key c = ⟨0, false, false, false⟩ := by
  rw [readRow, h]

theorem readErrors_unwritten {rows : SMap Nat} {key : Nat} (h : lookup rows key = none) (inj : SMap Nat)
    (n code c mask : Nat) : readErrors rows inj n code key c mask = (false, false) := by
  simp [readErrors, has, h]

/-! ## Registers and rows after an access -/

@[simp] theorem setBmPort_rows (m k : Nat) (q : BmPort) (s : State) : (setBmPort m k q s).bm.rows = s.bm.rows := rfl
@[simp] theorem setBmPort_inj (m k : Nat) (q : BmPort) (s : State) : (setBmPort m k q s).bm.inj = s.bm.inj := rfl

theorem bmPort_setBmPort_same (m k : Nat) (q : BmPort) (s : State) : (setBmPort m k q s).bmPort m k = q :=
  at'_putD_same _ _ _ _

@[simp] theorem applyIf_set_bm (b : Bool) (f : Fld) (v : Nat) (s : State) :
    (applyIf b (fun s => s.set f v) s).bm = s.bm := by cases b <;> rfl

@[simp] theorem applyIf_setInc_bm (b : Bool) (f g : Fld) (v : Nat) (s : State) :
    (applyIf b (fun s => (s.set f v).inc g) s).bm = s.bm := by cases b <;> rfl

/-- The status register follows an access; the memory itself does not. -/
@[simp] theorem bmCount_bm (m : Nat) (fresh : Bool) (r : Option BmRes) (s : State) : (bmCount m fresh r s).bm = s.bm := by
  cases r with
  | none => rfl
  | some x => simp [bmCount]

/-- An access that reports nothing leaves the status register as it is. -/
theorem bmCount_silent (m : Nat) (fresh : Bool) {x : BmRes} (s : State) (hcor : x.cor = false) (hunc : x.unc = false)
    (hcoll : x.coll = false) : bmCount m fresh (some x) s = s := by
  simp [bmCount, hcor, hunc, hcoll]

/-- Without a lane to write, a write does nothing. -/
theorem bmWrite_none (m row v : Nat) (s : State) : bmWrite m row 0 v s = s := if_pos rfl

/-- The first write to a row makes all of it valid: the lanes of the mask take the data, the others 0, and no lane holds
an error (R203). -/
theorem bmWrite_first {m row mask : Nat} (v : Nat) {s : State} (hrow : lookup s.bm.rows (1024 * m + row) = none)
    (hmask : mask ≠ 0) :
    ∃ x, lookup (bmWrite m row mask v s).bm.rows (1024 * m + row) = some x ∧
      ∀ k, k < 4 → lookup (bmWrite m row mask v s).bm.inj (4 * (1024 * m + row) + k) = none ∧
        laneOf (laneBits (s.get (R.BM_STAT.CODE m))) x k =
          if mask.testBit k then laneOf (laneBits (s.get (R.BM_STAT.CODE m))) v k else 0 := by
  obtain ⟨x, hx, hlanes⟩ := writeRow_lanes s.bm.rows 4 (s.get (R.BM_STAT.CODE m)) (1024 * m + row) mask v
  have hzero : at' s.bm.rows (1024 * m + row) 0 = 0 := by rw [at', hrow]; rfl
  have hfirst : has s.bm.rows (1024 * m + row) = false := by rw [has, hrow]; rfl
  have hall : ∀ k, k < 4 → Nat.testBit 15 k = true := by decide
  simp only [bmWrite, if_neg hmask, hfirst, Bool.not_false, if_true, State.modBm_bm]
  refine ⟨x, hx, fun k hk => ⟨writeInj_written s.bm.inj _ 15 hk (hall k hk), ?_⟩⟩
  rw [hlanes k hk, hzero, laneOf_zero]

/-! ## One enabled port at its edge -/

/-- The row lanes that port `p` writes, alone at its edge. -/
def loneMask (s : State) (m p : Nat) (i : BmIn) : Nat :=
  if s.flag (R.BM_STAT.CLR_BUSY m) || !s.fab.writes then 0 else bmMask (s.bmCfg m p) i

/-- What an enabled port `p` shows after its edge, alone at it. -/
def loneResult (s : State) (m p : Nat) (i : BmIn) : BmRes :=
  bmResult s m (s.bmCfg m p) i (loneMask s m p i) 0 (s.flag (R.BM_STAT.CLR_BUSY m)) (s.bmPort m p)

/-- The memory after the write of port `p`, before its registers move. -/
def loneWrite (s : State) (m p : Nat) (i : BmIn) : State :=
  bmWrite m (bmRow (s.bmCfg m p) i) (loneMask s m p i) (bmData (s.bmCfg m p) i (laneBits (s.get (R.BM_STAT.CODE m))))
    { s with free := s.free + 4 }

/-- The memory once the registers of port `p` have moved too. -/
def loneMove (s : State) (m p : Nat) (i : BmIn) : State :=
  setBmPort m p (bmRegs (s.bmCfg m p) (s.bmPort m p) i (some (loneResult s m p i))) (loneWrite s m p i)

/-- The access of port `p` shows lanes of the array, so that its errors count. -/
def loneFresh (s : State) (m p : Nat) (i : BmIn) : Bool :=
  !((s.bmCfg m p).mode.val == 2 && Nat.land (loneMask s m p i) (bmSpan (s.bmCfg m p) i) == bmSpan (s.bmCfg m p) i)

/-- The state after an enabled access of port `p` alone. -/
def loneAccess (s : State) (m p : Nat) (i : BmIn) : State :=
  bmCount m (loneFresh s m p i) (some (loneResult s m p i)) (loneMove s m p i)

section

variable {s : State} {m : Fin 12288} {i : BmIn} (hcode : s.get (R.BM_STAT.CODE m) ≠ 3) (hen : i.en = true)
include hcode hen

/-- An enabled edge of port A alone, without `CLR`. -/
theorem execBmPortAccess_portA (hrun : s.portRuns m 0 = true) (hclr : i.clr = false) :
    execBmPortAccess m (some i) none s = .next (loneAccess s m 0 i) := by
  have hport : s.portAt m 0 (some i) = some (s.bmCfg m 0, i) := by
    simp only [State.portAt, Option.bind_some, hrun, if_true]
  have hother : s.portAt m 1 none = none := rfl
  simp only [execBmPortAccess, hport, hother, beq_eq_false_iff_ne.2 hcode, hen, hclr, Option.isNone_some, Bool.false_and,
    Bool.or_false, Bool.false_eq_true, if_false, if_true, applyIf_false]
  rfl

/-- An enabled edge of port B alone. -/
theorem execBmPortAccess_portB (hrun : s.portRuns m 1 = true) :
    execBmPortAccess m none (some i) s = .next (loneAccess s m 1 i) := by
  have hport : s.portAt m 1 (some i) = some (s.bmCfg m 1, i) := by
    simp only [State.portAt, Option.bind_some, hrun, if_true]
  have hother : s.portAt m 0 none = none := rfl
  simp only [execBmPortAccess, hport, hother, beq_eq_false_iff_ne.2 hcode, hen, Option.isNone_some, Bool.and_false,
    Bool.or_false, Bool.false_eq_true, if_false, if_true]
  rfl

/-- An edge of one port, enabled and without `CLR`, is a write, a move of the port's registers, and their report. -/
theorem exec_bmPortAccess_lone {p : Fin 2} (hrun : s.portRuns m p = true) (hclr : i.clr = false) :
    exec (if p = 0 then .bmPortAccess m (some i) none else .bmPortAccess m none (some i)) s =
      .next (loneAccess s m p i) := by
  match p with
  | 0 => exact execBmPortAccess_portA hcode hen hrun hclr
  | 1 => exact execBmPortAccess_portB hcode hen hrun

end

/-- The rows after an access are those after its write. -/
theorem loneAccess_rows (s : State) (m p : Nat) (i : BmIn) : (loneAccess s m p i).bm.rows = (loneWrite s m p i).bm.rows := by
  rw [loneAccess, bmCount_bm, loneMove, setBmPort_rows]

/-- The stored lanes after an access are those after its write. -/
theorem loneAccess_inj (s : State) (m p : Nat) (i : BmIn) : (loneAccess s m p i).bm.inj = (loneWrite s m p i).bm.inj := by
  rw [loneAccess, bmCount_bm, loneMove, setBmPort_inj]

/-- The registers of the port move by the result of its access. -/
theorem loneAccess_bmPort (s : State) (m p : Nat) (i : BmIn) : (loneAccess s m p i).bmPort m p =
    bmRegs (s.bmCfg m p) (s.bmPort m p) i (some (loneResult s m p i)) := by
  rw [State.bmPort, loneAccess, bmCount_bm]; exact bmPort_setBmPort_same _ _ _ _

/-! ## An unwritten row -/

/-- Without write enables a port writes no lane. -/
theorem bmMask_of_we_zero (c : BmCfg) {i : BmIn} (h : i.we = 0) : bmMask c i = 0 := by
  simp [bmMask, h]

theorem loneMask_of_we_zero (s : State) (m p : Nat) {i : BmIn} (h : i.we = 0) : loneMask s m p i = 0 := by
  rw [loneMask, bmMask_of_we_zero _ h, ite_self]

/-- A read of an unwritten row returns 0 with `UNWR` alone, during a bulk clear too (R203, R205). -/
theorem bmResult_unwritten {s : State} {m : Nat} {c : BmCfg} {i : BmIn}
    (hrow : lookup s.bm.rows (1024 * m + bmRow c i) = none) (clr : Bool) (old : BmPort) :
    bmResult s m c i 0 0 clr old = ⟨0, true, false, false, false⟩ := by
  cases clr with
  | true => rfl
  | false => simp [bmResult, readRow_unwritten hrow, readErrors_unwritten hrow]

/-- The read result of a port after a read of an unwritten row. -/
theorem loneResult_unwritten {s : State} {m p : Nat} {i : BmIn} (hwe : i.we = 0)
    (hrow : lookup s.bm.rows (1024 * m + bmRow (s.bmCfg m p) i) = none) :
    loneResult s m p i = ⟨0, true, false, false, false⟩ := by
  rw [loneResult, loneMask_of_we_zero s m p hwe, bmResult_unwritten hrow]

/-- The read result of an enabled port is that of its access. -/
theorem bmRegs_read (c : BmCfg) (q : BmPort) (i : BmIn) (x : BmRes) :
    (bmRegs c q i (some x)).rDout = x.data ∧ (bmRegs c q i (some x)).rUnwr = x.unwr ∧
      (bmRegs c q i (some x)).rCor = x.cor ∧ (bmRegs c q i (some x)).rUnc = x.unc := by
  cases hreg : c.oreg <;> simp [bmRegs, hreg]

/-- Without the output register, the output shows the read result. -/
theorem bmRegs_output {c : BmCfg} (q : BmPort) (i : BmIn) (x : BmRes) (h : c.oreg = false) :
    (bmRegs c q i (some x)).dout = x.data ∧ (bmRegs c q i (some x)).unwr = x.unwr ∧
      (bmRegs c q i (some x)).cor = x.cor ∧ (bmRegs c q i (some x)).unc = x.unc := by
  simp [bmRegs, h]

section

variable {s : State} {m p : Nat} {i : BmIn} (hrow : lookup s.bm.rows (1024 * m + bmRow (s.bmCfg m p) i) = none)
include hrow

/-- A read of an unwritten row changes the registers of its port alone. -/
theorem loneAccess_unwritten_read (hwe : i.we = 0) : loneAccess s m p i =
    setBmPort m p (bmRegs (s.bmCfg m p) (s.bmPort m p) i (some ⟨0, true, false, false, false⟩))
      { s with free := s.free + 4 } := by
  rw [loneAccess, loneMove, loneWrite, loneResult_unwritten hwe hrow, bmCount_silent _ _ _ rfl rfl rfl,
    loneMask_of_we_zero s m p hwe, bmWrite_none]

/-- A write to an unwritten row makes it valid, with 0 in the lanes that the port does not write. -/
theorem loneAccess_first_write (hmask : bmMask (s.bmCfg m p) i ≠ 0) (hwrites : s.fab.writes = true)
    (hbusy : s.flag (R.BM_STAT.CLR_BUSY m) = false) :
    let key := 1024 * m + bmRow (s.bmCfg m p) i
    let b := laneBits (s.get (R.BM_STAT.CODE m))
    ∃ v, lookup (loneAccess s m p i).bm.rows key = some v ∧
      ∀ k, k < 4 → lookup (loneAccess s m p i).bm.inj (4 * key + k) = none ∧
        laneOf b v k = if (bmMask (s.bmCfg m p) i).testBit k then laneOf b (bmData (s.bmCfg m p) i b) k else 0 := by
  have hlone : loneMask s m p i = bmMask (s.bmCfg m p) i := by
    rw [loneMask, hbusy, hwrites]; rfl
  rw [loneAccess_rows, loneAccess_inj, loneWrite, hlone]
  exact bmWrite_first (s := { s with free := s.free + 4 }) _ hrow hmask

end

/-- Settles O18: a lone access reads 0 with `UNWR` alone, and the first write makes the whole row valid. -/
theorem unwrittenRowReadsZeroAndIsWrittenWhole : Obligations.UnwrittenRowReadsZeroAndIsWrittenWhole := by
  unfold Obligations.UnwrittenRowReadsZeroAndIsWrittenWhole
  intro s m p i hcode hrun hen hclr c hrow access
  have hexec : exec access s = .next (loneAccess s m p i) := exec_bmPortAccess_lone hcode hen hrun hclr
  refine ⟨fun hwe => ⟨_, hexec, ?read⟩, fun hmask hwrites hbusy => ?write⟩
  case read =>
    obtain ⟨hdata, hunwr, hcor, hunc⟩ := bmRegs_read c (s.bmPort m p) i ⟨0, true, false, false, false⟩
    rw [loneAccess_bmPort, loneResult_unwritten hwe hrow, loneAccess_unwritten_read hrow hwe]
    exact ⟨hdata, hunwr, hcor, hunc, bmRegs_output _ _ _, rfl, rfl⟩
  case write =>
    obtain ⟨v, hv, hlanes⟩ := loneAccess_first_write hrow hmask hwrites hbusy
    exact ⟨_, v, hexec, hv, hlanes⟩

end Sys2Proof.Machine
end

section
/-! PROOFS. The pre-adder, the product, the sum and the flags of an arithmetic block at its edge (R212, R213). -/

namespace Sys2Proof.Machine

/-! ## The pre-adder -/

/-- The sum of the pre-adder before its limits: `A` alone without `PRE_EN`. -/
def preSum (en sub : Bool) (a d : Int) : Int := if en = false then a else if sub then a - d else a + d

/-- A sum limited to the signed 24-bit range. -/
def limit24 (v : Int) : Int := if v < -8388608 then -8388608 else if 8388607 < v then 8388607 else v

/-- A 24-bit operand lies in the signed 24-bit range. -/
theorem toInt24_bounds (x : BitVec 24) : -8388608 ≤ x.toInt ∧ x.toInt ≤ 8388607 := by
  have hlo := BitVec.le_toInt x
  have hhi := BitVec.toInt_lt (x := x)
  norm_num at hlo hhi
  omega

/-- The limits leave a value of their range as it is. -/
theorem limit24_of_bounds {v : Int} (hlo : -8388608 ≤ v) (hhi : v ≤ 8388607) : limit24 v = v := by
  rw [limit24, if_neg (by omega), if_neg (by omega)]

/-- A value of the signed 24-bit range fits an operand. -/
theorem ofInt24_toInt {v : Int} (hlo : -8388608 ≤ v) (hhi : v ≤ 8388607) : (BitVec.ofInt 24 v).toInt = v := by
  rw [BitVec.toInt_ofInt]
  apply Int.bmod_eq_of_le <;> norm_num <;> omega

/-- The operand is the limited sum, and `PRE_SAT` says that the limits changed it (R212). -/
theorem preAdd_limits (en sub : Bool) (a d : BitVec 24) :
    (preAdd en sub a d).1.toInt = limit24 (preSum en sub a.toInt d.toInt) ∧
      ((preAdd en sub a d).2 = true ↔ limit24 (preSum en sub a.toInt d.toInt) ≠ preSum en sub a.toInt d.toInt) := by
  cases en with
  | false =>
    obtain ⟨hlo, hhi⟩ := toInt24_bounds a
    simp [preAdd, preSum, limit24_of_bounds hlo hhi]
  | true =>
    have hsum : preSum true sub a.toInt d.toInt = if sub then a.toInt - d.toInt else a.toInt + d.toInt := rfl
    simp only [preAdd, hsum, Bool.not_true, Bool.false_eq_true, if_false]
    generalize (if sub = true then a.toInt - d.toInt else a.toInt + d.toInt) = v
    by_cases hlow : v < -8388608
    · simp only [limit24, if_pos hlow]
      exact ⟨by decide, by simp; omega⟩
    · by_cases hhigh : 8388607 < v
      · simp only [limit24, if_neg hlow, if_pos hhigh]
        exact ⟨by decide, by simp; omega⟩
      · simp only [limit24, if_neg hlow, if_neg hhigh]
        exact ⟨ofInt24_toInt (by omega) (by omega), by simp⟩

/-! ## The product and the sum -/

/-- The product, negated under `NEG`. -/
def signedProduct (neg : Bool) (x y : Int) : Int := if neg then -(x * y) else x * y

/-- The product register holds every product of two operands exactly (R213). -/
theorem ofInt48_signedProduct (neg : Bool) (x y : BitVec 24) :
    (BitVec.ofInt 48 (signedProduct neg x.toInt y.toInt)).toInt = signedProduct neg x.toInt y.toInt := by
  obtain ⟨hxlo, hxhi⟩ := toInt24_bounds x
  obtain ⟨hylo, hyhi⟩ := toInt24_bounds y
  have habs : |x.toInt * y.toInt| ≤ 2 ^ 46 := by
    rw [abs_mul]
    calc |x.toInt| * |y.toInt| ≤ 8388608 * 8388608 :=
          mul_le_mul (abs_le.2 ⟨by omega, by omega⟩) (abs_le.2 ⟨by omega, by omega⟩) (abs_nonneg _) (by norm_num)
      _ = 2 ^ 46 := by norm_num
  obtain ⟨hlo, hhi⟩ := abs_le.1 habs
  rw [BitVec.toInt_ofInt]
  cases neg <;> apply Int.bmod_eq_of_le <;> simp only [signedProduct] <;> norm_num <;> omega

/-- `OVF` is a signed overflow, whether `P` wraps or saturates (R213). -/
theorem abSum_ovf (sat : Bool) (v : Int) : (abSum sat v).2 = true ↔ v < -(2 ^ 63) ∨ 2 ^ 63 ≤ v := by
  have hover : (decide (v < -(2 ^ 63)) || decide (2 ^ 63 ≤ v)) = true ↔ v < -(2 ^ 63) ∨ 2 ^ 63 ≤ v := by simp
  unfold abSum
  dsimp only
  split
  · next h => exact ⟨fun _ => hover.1 (Bool.and_eq_true_iff.1 h).1, fun _ => rfl⟩
  · exact hover

/-- Without `SAT` the sum wraps modulo 2^64 (R213). -/
theorem abSum_wraps (v : Int) : (abSum false v).1 = BitVec.ofInt 64 v := by
  simp [abSum]

/-- With `SAT` the sum is limited to the signed 64-bit range (R213). -/
theorem abSum_saturates (v : Int) :
    (abSum true v).1.toInt = if v < -(2 ^ 63) then -(2 ^ 63) else if 2 ^ 63 ≤ v then 2 ^ 63 - 1 else v := by
  by_cases hlow : v < -(2 ^ 63)
  · have hneg : v < 0 := by omega
    simp only [abSum, hlow, hneg, decide_true, Bool.true_or, Bool.true_and, if_true]
    decide
  · by_cases hhigh : 2 ^ 63 ≤ v
    · have hpos : ¬ v < 0 := by omega
      simp only [abSum, hlow, hhigh, hpos, decide_true, decide_false, Bool.false_or, Bool.and_true, if_true, if_false]
      decide
    · simp only [abSum, hlow, hhigh, decide_false, Bool.or_false, Bool.false_and, Bool.false_eq_true, if_false]
      rw [BitVec.toInt_ofInt]
      apply Int.bmod_eq_of_le <;> norm_num <;> omega

/-! ## The registers after an edge -/

/-- The addend that `ZSEL` chooses: 0, `P`, `C` or `PCI`. -/
def abAddend (zsel : Nat) (p c pci : Int) : Int := match zsel with | 0 => 0 | 1 => p | 2 => c | _ => pci

/-- The registers with their input part taken from the inputs. -/
def AbReg.loadInputs (q : AbReg) (i : AbIn) : AbReg :=
  { q with a := i.a, d := i.d, b := i.b, c := i.c, preSub := i.preSub, neg := i.neg, zsel := i.zsel.val }

/-- The inputs that an edge works on: the input registers where `IREG` puts them in, else the inputs themselves. -/
def abTaken (c : AbCfg) (q : AbReg) (i : AbIn) : AbReg := if c.ireg then q else q.loadInputs i

/-- The pre-adder over the inputs taken. -/
def abPreAdd (c : AbCfg) (q : AbReg) (i : AbIn) : BitVec 24 × Bool :=
  preAdd c.preEn (abTaken c q i).preSub (abTaken c q i).a (abTaken c q i).d

/-- The operand of the multiplier: the operand register where `DREG` puts it in. -/
def abOperand (c : AbCfg) (q : AbReg) (i : AbIn) : BitVec 24 := if c.dreg && c.preEn then q.opnd else (abPreAdd c q i).1

/-- The product of the edge. -/
def abProduct (c : AbCfg) (q : AbReg) (i : AbIn) : Int :=
  signedProduct (abTaken c q i).neg (abOperand c q i).toInt (abTaken c q i).b.toInt

/-- The exact sum of the edge: the product, or the product register under `MREG`, and the addend. -/
def abExact (c : AbCfg) (q : AbReg) (i : AbIn) (pci : BitVec 64) : Int :=
  (if c.mreg then q.m.toInt else abProduct c q i) +
    abAddend (abTaken c q i).zsel q.p.toInt (abTaken c q i).c.toInt pci.toInt

/-- `PRE_SAT` loads with the operand register, or with the product where there is none (Table 7-5). -/
def abSatEnabled (c : AbCfg) (i : AbIn) : Bool := if c.dreg && c.preEn then i.ceD else i.ceM

/-- The product register holds the product of the edge exactly. -/
theorem ofInt48_abProduct (c : AbCfg) (q : AbReg) (i : AbIn) :
    (BitVec.ofInt 48 (abProduct c q i)).toInt = abProduct c q i := ofInt48_signedProduct _ _ _

/-- An edge without `RST` loads each register under its enable (R212, R215). -/
theorem abStep_enables {i : AbIn} (hrst : i.rst = false) (c : AbCfg) (q : AbReg) (pci : BitVec 64) :
    abStep c q i pci = { (if i.ceI then q.loadInputs i else q) with
      opnd := if c.dreg && c.preEn && i.ceD then (abPreAdd c q i).1 else q.opnd
      preSat := if abSatEnabled c i then (abPreAdd c q i).2 else q.preSat
      m := if i.ceM then BitVec.ofInt 48 (abProduct c q i) else q.m
      p := if i.ceP then (abSum c.sat (abExact c q i pci)).1 else q.p
      ovf := if i.ceP then (abSum c.sat (abExact c q i pci)).2 else q.ovf } := by
  have hsum : abExact c q i pci = (if c.mreg then q.m else BitVec.ofInt 48 (abProduct c q i)).toInt +
      abAddend (abTaken c q i).zsel q.p.toInt (abTaken c q i).c.toInt pci.toInt := by
    rw [apply_ite BitVec.toInt, ofInt48_abProduct]; rfl
  rw [hsum]
  cases hin : c.ireg <;> cases hce : i.ceI <;>
    simp only [abStep, abProduct, abOperand, abPreAdd, abTaken, abSatEnabled, hrst, hin, hce] <;> rfl

section

variable {c : AbCfg} {q : AbReg} {i : AbIn} {pci : BitVec 64} (hrst : i.rst = false)
include hrst

/-- `CE_P` loads `P` and `OVF` with the sum (Table 7-5). -/
theorem abStep_sum (hce : i.ceP = true) : (abStep c q i pci).p = (abSum c.sat (abExact c q i pci)).1 ∧
    (abStep c q i pci).ovf = (abSum c.sat (abExact c q i pci)).2 := by
  simp only [abStep_enables hrst, hce, if_true, and_self]

/-- `CE_M` loads the product register. -/
theorem abStep_m (hce : i.ceM = true) : (abStep c q i pci).m.toInt = abProduct c q i := by
  simp only [abStep_enables hrst, hce, if_true, ofInt48_abProduct]

/-- `CE_D` loads the operand register, where the block has one. -/
theorem abStep_opnd (hdreg : (c.dreg && c.preEn) = true) (hce : i.ceD = true) :
    (abStep c q i pci).opnd = (abPreAdd c q i).1 := by
  simp only [abStep_enables hrst, hdreg, hce, Bool.and_self, if_true]

/-- The enable of the operand loads `PRE_SAT` too. -/
theorem abStep_preSat (hce : abSatEnabled c i = true) : (abStep c q i pci).preSat = (abPreAdd c q i).2 := by
  simp only [abStep_enables hrst, hce, if_true]

end

/-- Each input taken is the register under `IREG`, else the input. -/
theorem abTaken_inputs (c : AbCfg) (q : AbReg) (i : AbIn) :
    (abTaken c q i).a.toInt = (if c.ireg then q.a.toInt else i.a.toInt) ∧
    (abTaken c q i).d.toInt = (if c.ireg then q.d.toInt else i.d.toInt) ∧
    (abTaken c q i).b.toInt = (if c.ireg then q.b.toInt else i.b.toInt) ∧
    (abTaken c q i).c.toInt = (if c.ireg then q.c.toInt else i.c.toInt) ∧
    (abTaken c q i).preSub = (if c.ireg then q.preSub else i.preSub) ∧
    (abTaken c q i).neg = (if c.ireg then q.neg else i.neg) ∧
    (abTaken c q i).zsel = (if c.ireg then q.zsel else i.zsel.val) := by
  unfold abTaken
  split <;> exact ⟨rfl, rfl, rfl, rfl, rfl, rfl, rfl⟩

/-! ## The sticky bit -/

/-- A bit within the width of its field reads 1 once it is set. -/
theorem State.bit_setBit_same (s : State) {f : Fld} {j : Nat} (hj : j < f.w) : (s.setBit f j true).bit f j = true := by
  unfold State.setBit
  split
  · assumption
  · next hclear =>
    rw [State.bit, if_pos rfl, State.get_set_same, Nat.testBit_mod_two_pow, Nat.add_comm, Nat.testBit_two_pow_add_eq]
    have hbit : (s.get f).testBit j = false := by simpa [State.bit] using hclear
    simp [hj, hbit]

/-- A change of one register bit leaves the blocks and the fabric alone. -/
theorem applyIf_setBit_keeps (hit : Bool) (f : Fld) (j : Nat) (b : Bool) (s : State) :
    (applyIf hit (fun s => s.setBit f j b) s).bm = s.bm ∧ (applyIf hit (fun s => s.setBit f j b) s).fab = s.fab := by
  cases hit with
  | false => exact ⟨rfl, rfl⟩
  | true =>
    simp only [applyIf_true, State.setBit]
    split <;> exact ⟨rfl, rfl⟩

/-- A sticky bit is set by its event and else stays as it was. -/
theorem bit_applyIf_setBit (hit : Bool) {f : Fld} {j : Nat} (s : State) (hj : j < f.w) :
    (applyIf hit (fun s => s.setBit f j true) s).bit f j = (s.bit f j || hit) := by
  cases hit with
  | false => simp
  | true => rw [applyIf_true, State.bit_setBit_same s hj, Bool.or_true]

/-! ## The edge -/

/-- The cascade input of block `k`: `P` of the block above in its column, 0 at tile 0 (R214). -/
def State.abPci (s : State) (r k : Nat) : BitVec 64 := if k % 8 = 0 then 0 else (s.abReg r (k - 1)).p

/-- The registers of block `k` after its edge. -/
def State.abNext (s : State) (r k : Nat) (i : AbIn) : AbReg := abStep (s.abCfg r k) (s.abReg r k) i (s.abPci r k)

/-- The edge reports an overflow or a limited operand. -/
def State.abHit (s : State) (r k : Nat) (i : AbIn) : Bool :=
  (i.ceP && (s.abNext r k i).ovf) || (abSatEnabled (s.abCfg r k) i && (s.abNext r k i).preSat)

/-- The state after the edge of block `k`. -/
def State.afterAbEdge (s : State) (r k : Nat) (i : AbIn) : State :=
  applyIf (s.abHit r k i) (fun s => s.setBit (R.AB_FLAG.FLAG r (k / 32)) (k % 32) true)
    (s.modBm fun b => { b with ab := putD b.ab (160 * r + k) AbReg.zero (s.abNext r k i) })

/-- A block that the active plane does not use has no edge. -/
theorem exec_abEdge_unused {s : State} {r : Fin 128} {k : Fin 160} (i : AbIn) (hused : (s.abCfg r k).used = false) :
    exec (.abEdge r k i) s = .next s := by
  have hruns : s.abRuns r k = false := by simp only [State.abRuns, hused, Bool.and_false, Bool.false_and]
  rw [exec_abEdge, execAbEdge, hruns]; rfl

/-- A block that the active plane uses, at an edge of its net, loads its registers. -/
theorem exec_abEdge_used {s : State} {r : Fin 128} {k : Fin 160} {i : AbIn} (hrst : i.rst = false)
    (hhard : s.hardRuns r = true) (hacted : s.acted (16 * r.val + (s.abCfg r k).net) (s.abCfg r k).falling = true)
    (hused : (s.abCfg r k).used = true) : exec (.abEdge r k i) s = .next (s.afterAbEdge r k i) := by
  have hruns : s.abRuns r k = true := by simp only [State.abRuns, hhard, hused, hacted, Bool.and_self]
  simp only [exec_abEdge, execAbEdge, hruns, hrst, Bool.not_true, Bool.not_false, Bool.true_and, Bool.false_eq_true,
    if_false]
  rfl

/-- The registers of the block after its edge. -/
theorem abReg_afterAbEdge_same (s : State) (r k : Nat) (i : AbIn) : (s.afterAbEdge r k i).abReg r k = s.abNext r k i := by
  rw [State.abReg, State.afterAbEdge, (applyIf_setBit_keeps _ _ _ _ _).1]
  exact at'_putD_same _ _ _ _

/-- Every other block keeps its registers. -/
theorem abReg_afterAbEdge_ne (s : State) {r k r' k' : Nat} (i : AbIn) (h : 160 * r' + k' ≠ 160 * r + k) :
    (s.afterAbEdge r k i).abReg r' k' = s.abReg r' k' := by
  rw [State.abReg, State.afterAbEdge, (applyIf_setBit_keeps _ _ _ _ _).1]
  exact at'_putD_ne _ _ _ _ h

/-- An edge changes no block memory and no flip-flop. -/
theorem afterAbEdge_keeps (s : State) (r k : Nat) (i : AbIn) :
    (s.afterAbEdge r k i).bm.rows = s.bm.rows ∧ (s.afterAbEdge r k i).fab = s.fab := by
  obtain ⟨hbm, hfab⟩ := applyIf_setBit_keeps (s.abHit r k i) (R.AB_FLAG.FLAG r (k / 32)) (k % 32) true
    (s.modBm fun b => { b with ab := putD b.ab (160 * r + k) AbReg.zero (s.abNext r k i) })
  rw [State.afterAbEdge, hbm, hfab]
  exact ⟨rfl, rfl⟩

/-- The sticky bit of the block takes in what the edge reports (R213). -/
theorem afterAbEdge_flag (s : State) (r k : Nat) (i : AbIn) :
    (s.afterAbEdge r k i).bit (R.AB_FLAG.FLAG r (k / 32)) (k % 32) =
      (s.bit (R.AB_FLAG.FLAG r (k / 32)) (k % 32) || s.abHit r k i) :=
  bit_applyIf_setBit _ _ (Nat.mod_lt _ (by decide))

/-- Settles O20: the registers after the edge by their enables, each with its exact value. -/
theorem arithmeticBlockMultipliesAndAdds : Obligations.ArithmeticBlockMultipliesAndAdds := by
  unfold Obligations.ArithmeticBlockMultipliesAndAdds
  intro s r k i hrst cfg hhard hacted q a d b c sub neg zsel sum limited dreg operand product z v satEnabled
  cases hused : cfg.used with
  | false => exact ⟨s, exec_abEdge_unused i hused, fun _ => rfl, fun h => absurd h (by decide)⟩
  | true =>
  obtain ⟨ha, hd, hb, hc, hsub, hneg, hzsel⟩ := abTaken_inputs cfg q i
  have hsum : preSum cfg.preEn (abTaken cfg q i).preSub (abTaken cfg q i).a.toInt (abTaken cfg q i).d.toInt = sum := by
    rw [ha, hd, hsub]; rfl
  obtain ⟨hpre, hsat⟩ := preAdd_limits cfg.preEn (abTaken cfg q i).preSub (abTaken cfg q i).a (abTaken cfg q i).d
  rw [hsum] at hpre hsat
  have hoperand : (abOperand cfg q i).toInt = operand := by
    rw [abOperand, apply_ite BitVec.toInt, abPreAdd, hpre]; rfl
  have hproduct : abProduct cfg q i = product := by
    rw [abProduct, hoperand, hb, hneg]; rfl
  have hpci : (s.abPci r k).toInt = if k.val % 8 = 0 then 0 else (s.abReg r (k.val - 1)).p.toInt := by
    rw [State.abPci, apply_ite BitVec.toInt]; rfl
  have hexact : abExact cfg q i (s.abPci r k) = v := by
    rw [abExact, hproduct, hpci, hc, hzsel]; rfl
  obtain ⟨hrows, hfab⟩ := afterAbEdge_keeps s r k i
  refine ⟨s.afterAbEdge r k i, exec_abEdge_used hrst hhard hacted hused, fun h => absurd h (by decide), fun _ => ?_⟩
  rw [afterAbEdge_flag, abReg_afterAbEdge_same, State.abHit, ← Bool.or_assoc]
  refine ⟨fun hce => ?sum, fun hce => (abStep_m hrst hce).trans hproduct, fun hdreg hce => ?opnd, fun hce => ?preSat, rfl,
    fun r' k' => abReg_afterAbEdge_ne s i, hrows, hfab⟩
  case sum =>
    obtain ⟨hp, hovf⟩ := abStep_sum (c := cfg) (q := q) (pci := s.abPci r k) hrst hce
    rw [hexact] at hp hovf
    rw [State.abNext, hp, hovf]
    exact ⟨abSum_ovf _ _, fun hwrap => by rw [hwrap, abSum_wraps], fun hlim => by rw [hlim]; exact abSum_saturates _⟩
  case opnd => exact (congrArg BitVec.toInt (abStep_opnd hrst hdreg hce)).trans hpre
  case preSat => rw [State.abNext, abStep_preSat hrst hce]; exact hsat

end Sys2Proof.Machine
end

section
/-! PROOFS. What every operation keeps: the queue, the identity of the device, blown fuses and the canonical form. -/

namespace Sys2Proof.Machine

variable {s t u : State}

/-- Keys that are listed stay listed. -/
theorem has_foldl_put {α β : Type} (l : List β) (key : β → Nat) (v : α) (m : SMap α) (k : Nat) (h : has m k = true) :
    has (l.foldl (fun m i => put m (key i) v) m) k = true := by
  induction l generalizing m with
  | nil => exact h
  | cons b l ih => exact ih _ (has_put m _ _ _ h)

theorem sorted_putNew {α : Type} {m : SMap α} {k : Nat} {v : α} (h : sorted m = true) :
    sorted (if has m k then m else put m k v) = true := by
  split
  exacts [h, sorted_put m k v h]

/-! ## The relation -/

/-- The parts of a state that `Keeps` speaks of. -/
def State.kept (s : State) :=
  (s.pending, s.aon.ident, s.sec.fuses, s.regs, s.bm.rows, s.cache.rows, s.bulk.pages, s.fab.ff, s.fab.seam)

/-- The canonical form, store by store. -/
theorem State.wf_iff : s.wf = true ↔ sorted s.regs = true ∧ sorted s.bm.rows = true ∧ sorted s.cache.rows = true ∧
    sorted s.bulk.pages = true ∧ sorted s.sec.fuses = true ∧ sorted s.fab.ff = true ∧ sorted s.fab.seam = true := by
  simp only [State.wf, Bool.and_eq_true, and_assoc]

theorem Keeps.refl : Keeps s s := ⟨rfl, rfl, fun _ => id, id⟩

theorem Keeps.trans (h : Keeps s t) (h' : Keeps t u) : Keeps s u :=
  ⟨h'.pending.trans h.pending, h'.ident.trans h.ident, fun k => h'.fuses k ∘ h.fuses k, h'.wf ∘ h.wf⟩

/-- What touches no part of `State.kept` keeps. -/
theorem Keeps.off (h : Keeps s t) (e : u.kept = t.kept) : Keeps s u := by
  simp only [State.kept, Prod.mk.injEq] at e
  obtain ⟨hp, hi, hf, hr, hb, hc, hk, hff, hs⟩ := e
  refine h.trans ⟨hp, hi, fun k => by rw [hf]; exact id, fun hw => ?_⟩
  rw [State.wf_iff] at hw ⊢
  rwa [hr, hb, hc, hk, hf, hff, hs]

theorem Keeps.ite {c : Prop} [Decidable c] (ht : Keeps s t) (hu : Keeps s u) : Keeps s (if c then t else u) := by
  split <;> assumption

theorem Keeps.pair {α : Type} {a : α} (h : Keeps s t) : Keeps s (a, t).2 := h

theorem Keeps.of_snd {α : Type} {p : α × State} {a : α} (h : Keeps s p.2) (e : p = (a, t)) : Keeps s t := by
  subst e; exact h

theorem Keeps.sndIte {α : Type} {c : Prop} [Decidable c] {p q : α × State} (hp : Keeps s p.2) (hq : Keeps s q.2) :
    Keeps s (if c then p else q).2 := by
  split <;> assumption

/-- The answer of a command keeps. -/
inductive KeepsAns (s : State) : Ans → Prop
  | done {n : Nat} {r : List Nat} {t : State} (h : Keeps s t) : KeepsAns s (.done n r t)
  | runs {t : State} (h : Keeps s t) : KeepsAns s (.runs t)

/-- A state, where there is one, keeps. -/
def KeepsOpt {α : Type} (s : State) (f : α → State) (o : Option α) : Prop := ∀ a, o = some a → Keeps s (f a)

theorem KeepsOpt.none {α : Type} {f : α → State} : KeepsOpt s f none := nofun

theorem KeepsOpt.some {α : Type} {f : α → State} {a : α} (h : Keeps s (f a)) : KeepsOpt s f (some a) :=
  fun _ e => Option.some.inj e ▸ h

theorem KeepsOpt.ite {α : Type} {f : α → State} {c : Prop} [Decidable c] {a b : Option α} (ha : KeepsOpt s f a)
    (hb : KeepsOpt s f b) : KeepsOpt s f (if c then a else b) := by
  split <;> assumption

/-- The command is performed, in a state that keeps. -/
inductive Performs (s : State) : Out → Prop
  | next {t : State} (h : Keeps s t) : Performs s (.next t)

theorem Performs.ite {c : Prop} [Decidable c] {a b : Out} (ha : Performs s a) (hb : Performs s b) :
    Performs s (if c then a else b) := by
  split <;> assumption

theorem KeepsAns.ite {c : Prop} [Decidable c] {a b : Ans} (ha : KeepsAns s a) (hb : KeepsAns s b) :
    KeepsAns s (if c then a else b) := by
  split <;> assumption

theorem Keeps.done {n : Nat} {r : List Nat} (h : Keeps s t) : KeepsAns s (.done n r t) := .done h
theorem Keeps.runs (h : Keeps s t) : KeepsAns s (.runs t) := .runs h
theorem Keeps.ok (h : Keeps s t) : KeepsAns s (.ok t) := .done h
theorem Keeps.ret {r : List (Nat × Nat)} (h : Keeps s t) : KeepsAns s (.ret r t) := .done h
theorem Keeps.fail {n : Nat} (h : Keeps s t) : KeepsAns s (.fail n t) := .done h

/-! ## The stores -/

theorem Keeps.regs {m : SMap Nat} (h : Keeps s t) (hm : sorted t.regs = true → sorted m = true) :
    Keeps s { t with regs := m } :=
  h.trans ⟨rfl, rfl, fun _ => id, fun hw => by
    obtain ⟨hr, hw⟩ := State.wf_iff.1 hw
    exact State.wf_iff.2 ⟨hm hr, hw⟩⟩

theorem Keeps.bm {x : Bm} (h : Keeps s t) (hx : sorted t.bm.rows = true → sorted x.rows = true := by simp only [imp_self]) :
    Keeps s { t with bm := x } :=
  h.trans ⟨rfl, rfl, fun _ => id, fun hw => by
    obtain ⟨hr, hb, hw⟩ := State.wf_iff.1 hw
    exact State.wf_iff.2 ⟨hr, hx hb, hw⟩⟩

theorem Keeps.cache {x : Cache} (h : Keeps s t)
    (hx : sorted t.cache.rows = true → sorted x.rows = true := by simp only [imp_self]) : Keeps s { t with cache := x } :=
  h.trans ⟨rfl, rfl, fun _ => id, fun hw => by
    obtain ⟨hr, hb, hc, hw⟩ := State.wf_iff.1 hw
    exact State.wf_iff.2 ⟨hr, hb, hx hc, hw⟩⟩

theorem Keeps.bulk {x : Bulk} (h : Keeps s t)
    (hx : sorted t.bulk.pages = true → sorted x.pages = true := by simp only [imp_self]) : Keeps s { t with bulk := x } :=
  h.trans ⟨rfl, rfl, fun _ => id, fun hw => by
    obtain ⟨hr, hb, hc, hk, hw⟩ := State.wf_iff.1 hw
    exact State.wf_iff.2 ⟨hr, hb, hc, hx hk, hw⟩⟩

/-- Fuses are blown and never cleared (R472). -/
theorem Keeps.sec {x : Sec} (h : Keeps s t)
    (hb : ∀ k, has t.sec.fuses k = true → has x.fuses k = true := by simp only [imp_self, implies_true])
    (hf : sorted t.sec.fuses = true → sorted x.fuses = true := by simp only [imp_self]) : Keeps s { t with sec := x } :=
  h.trans ⟨rfl, rfl, hb, fun hw => by
    obtain ⟨hr, hbm, hc, hk, hs, hw⟩ := State.wf_iff.1 hw
    exact State.wf_iff.2 ⟨hr, hbm, hc, hk, hf hs, hw⟩⟩

theorem Keeps.fab {x : Fab} (h : Keeps s t) (hf : sorted t.fab.ff = true → sorted x.ff = true := by simp only [imp_self])
    (hs : sorted t.fab.seam = true → sorted x.seam = true := by simp only [imp_self]) : Keeps s { t with fab := x } :=
  h.trans ⟨rfl, rfl, fun _ => id, fun hw => by
    obtain ⟨hr, hbm, hc, hk, hb, hff, hw⟩ := State.wf_iff.1 hw
    exact State.wf_iff.2 ⟨hr, hbm, hc, hk, hb, hf hff, hs hw⟩⟩

theorem Keeps.aon {x : Aon} (h : Keeps s t) (hx : x.ident = t.aon.ident := by simp only [Aon.ident]) :
    Keeps s { t with aon := x } :=
  h.trans ⟨rfl, hx, fun _ => id, id⟩

theorem Keeps.modBm {f : Bm → Bm} (h : Keeps s t)
    (hf : ∀ x : Bm, sorted x.rows = true → sorted (f x).rows = true := by exact fun _ => id) : Keeps s (t.modBm f) :=
  h.bm (hf _)

theorem Keeps.modCache {f : Cache → Cache} (h : Keeps s t)
    (hf : ∀ x : Cache, sorted x.rows = true → sorted (f x).rows = true := by exact fun _ => id) :
    Keeps s (t.modCache f) := h.cache (hf _)

theorem Keeps.modBulk {f : Bulk → Bulk} (h : Keeps s t)
    (hf : ∀ x : Bulk, sorted x.pages = true → sorted (f x).pages = true := by exact fun _ => id) :
    Keeps s (t.modBulk f) := h.bulk (hf _)

theorem Keeps.modSec {f : Sec → Sec} (h : Keeps s t)
    (hb : ∀ (x : Sec) (k : Nat), has x.fuses k = true → has (f x).fuses k = true := by exact fun _ _ => id)
    (hf : ∀ x : Sec, sorted x.fuses = true → sorted (f x).fuses = true := by exact fun _ => id) : Keeps s (t.modSec f) :=
  h.sec (hb _) (hf _)

theorem Keeps.modFab {f : Fab → Fab} (h : Keeps s t)
    (hf : ∀ x : Fab, sorted x.ff = true → sorted (f x).ff = true := by exact fun _ => id)
    (hs : ∀ x : Fab, sorted x.seam = true → sorted (f x).seam = true := by exact fun _ => id) : Keeps s (t.modFab f) :=
  h.fab (hf _) (hs _)

theorem Keeps.modAon {f : Aon → Aon} (h : Keeps s t) (hf : ∀ x : Aon, (f x).ident = x.ident := by exact fun _ => rfl) :
    Keeps s (t.modAon f) := h.aon (hf _)

theorem Keeps.set {f : Fld} {v : Nat} (h : Keeps s t) : Keeps s (t.set f v) := h.regs (sorted_putD _ _ _ _)

/-! ## The parts that hold no store -/

theorem Keeps.free {x : Nat} (h : Keeps s t) : Keeps s { t with free := x } := h.off rfl
theorem Keeps.mgt {x : Mgt} (h : Keeps s t) : Keeps s { t with mgt := x } := h.off rfl
theorem Keeps.therm {x : Therm} (h : Keeps s t) : Keeps s { t with therm := x } := h.off rfl
theorem Keeps.clk {x : Clk} (h : Keeps s t) : Keeps s { t with clk := x } := h.off rfl
theorem Keeps.noc {x : Noc} (h : Keeps s t) : Keeps s { t with noc := x } := h.off rfl
theorem Keeps.lane {x : Lane} (h : Keeps s t) : Keeps s { t with lane := x } := h.off rfl
theorem Keeps.link {x : Link} (h : Keeps s t) : Keeps s { t with link := x } := h.off rfl
theorem Keeps.test {x : Test} (h : Keeps s t) : Keeps s { t with test := x } := h.off rfl
theorem Keeps.io {x : Io} (h : Keeps s t) : Keeps s { t with io := x } := h.off rfl
theorem Keeps.ctx {x : Ctx} (h : Keeps s t) : Keeps s { t with ctx := x } := h.off rfl
theorem Keeps.cfg {x : Cfg} (h : Keeps s t) : Keeps s { t with cfg := x } := h.off rfl
theorem Keeps.integ {x : Integ} (h : Keeps s t) : Keeps s { t with integ := x } := h.off rfl

/-! ## Operations that take operations -/

theorem Keeps.applyIf {c : Bool} {f : State → State} (h : Keeps s t) (hf : ∀ {u}, Keeps s u → Keeps s (f u)) :
    Keeps s (applyIf c f t) := .ite (hf h) h

theorem Keeps.forEach {α : Type} {l : List α} {f : α → State → State} (h : Keeps s t)
    (hf : ∀ {a u}, Keeps s u → Keeps s (f a u)) : Keeps s (forEach l f t) :=
  forEach_ind (Keeps s) f l t h fun _ _ => hf

theorem Keeps.foldl {α β : Type} {l : List β} {g : α → β → α} {a : α} (f : α → State) (h : Keeps s (f a))
    (hg : ∀ {a b}, Keeps s (f a) → Keeps s (f (g a b))) : Keeps s (f (l.foldl g a)) := by
  induction l generalizing a with
  | nil => exact h
  | cons b l ih => exact ih (hg h)

theorem Keeps.eachRegion {f : Nat → State → State} (h : Keeps s t) (hf : ∀ {r u}, Keeps s u → Keeps s (f r u)) :
    Keeps s (eachRegion f t) := h.forEach hf

theorem Keeps.refuseTrailer {l : Load} {left : Nat} {f : State → State} (h : Keeps s t)
    (hs : ∀ {u}, Keeps s u → Keeps s (skipPort left u)) (hf : ∀ {u}, Keeps s u → Keeps s (f u)) :
    Keeps s (refuseTrailer l left f t) := hf (h.applyIf hs)

theorem Keeps.checks {l : List (Bool × Nat)} {f : State → Ans} (h : Keeps s t) (hf : ∀ {u}, Keeps s u → KeepsAns s (f u)) :
    KeepsAns s (checks l f t) := by
  unfold Machine.checks
  split
  · exact h.fail
  · exact hf h

theorem Keeps.setMbox {m : Nat} {b : Mbox} (h : Keeps s t) : Keeps s (t.setMbox m b) := h.mgt

theorem KeepsAns.settle {mb : Nat} {a : Ans} (h : KeepsAns s a) : Keeps s (settle mb a) := by
  cases h with
  | done h => exact h.setMbox
  | runs h => exact h

theorem Keeps.talnum {mb code : Nat} {args : List (Nat × Nat)} {f : State → Ans} (h : Keeps s t)
    (hf : ∀ {u}, Keeps s u → KeepsAns s (f u)) : Keeps s (talnum mb code args f t) :=
  .ite h (.ite h.setMbox.fail.settle (.ite h.setMbox.done.settle
    (.ite (hf h.setMbox).settle (.ite h.setMbox.fail.settle h))))

theorem Keeps.talnumBytes {mb code : Nat} {args : List (Nat × Nat)} {bytes : List Nat} {f : State → Ans} (h : Keeps s t)
    (hf : ∀ {u}, Keeps s u → KeepsAns s (f u)) : Keeps s (talnumBytes mb code args bytes f t) :=
  .ite h (.ite h.setMbox.fail.settle (.ite h.setMbox.done.settle (.ite h.setMbox.fail.settle
    (.ite (hf h.setMbox).settle h))))

end Sys2Proof.Machine
end

section
/-! PROOFS. What each operation and each command of the model keeps, in the order of the model. -/

namespace Sys2Proof.Machine

-- Side conditions by default (`Keeps.modBm` and its like) wait for all that stands before them: one proof at a time.
set_option Elab.async false

variable {s t u : State}

/-! ## Shared operations -/

theorem Keeps.setB {f : Fld} {b : Bool} (h : Keeps s t) : Keeps s (t.setB f b) := h.set

theorem Keeps.setBit {f : Fld} {i : Nat} {b : Bool} (h : Keeps s t) : Keeps s (t.setBit f i b) := .ite h h.set

theorem Keeps.addSat {f : Fld} {n : Nat} (h : Keeps s t) : Keeps s (t.addSat f n) := h.set

theorem Keeps.inc {f : Fld} (h : Keeps s t) : Keeps s (t.inc f) := h.addSat

theorem Keeps.incWrap {f : Fld} (h : Keeps s t) : Keeps s (t.incWrap f) := h.set

theorem Keeps.incBy {f : Fld} {n : Nat} (h : Keeps s t) : Keeps s (t.incBy f n) := h.set

theorem Keeps.clear {f : Fld} (h : Keeps s t) : Keeps s (t.clear f) := h.set

theorem Keeps.writeFields {l : List Fld} {v : Nat} (h : Keeps s t) : Keeps s (writeFields l v t) := by
  refine .forEach h (fun h => ?_)
  split
  exacts [h.set, h.set, h]

theorem Keeps.useFree (h : Keeps s t) : Keeps s t.useFree := h.free

theorem Keeps.startResync {n : Nat} (h : Keeps s t) : Keeps s (startResync n t) := .ite h h.clk

theorem Keeps.modMbox {m : Nat} {f : Mbox → Mbox} (h : Keeps s t) : Keeps s (t.modMbox m f) := h.setMbox

theorem Keeps.send {o : OutMsg} (h : Keeps s t) : Keeps s (t.send o) := h.mgt

theorem Keeps.setQueue {m : Nat} {q : List EvRec} (h : Keeps s t) : Keeps s (t.setQueue m q) :=
  h.modMbox.set.setB

theorem Keeps.offerEvent {code : Nat} {args : List Nat} {m : Nat} (h : Keeps s t) :
    Keeps s (offerEvent code args m t) := .ite h (.ite h.setMbox.inc (.ite h.setMbox.send h.setMbox.setQueue))

theorem Keeps.raise {code : Nat} {args : List (Nat × Nat)} (h : Keeps s t) : Keeps s (raise code args t) :=
  .ite (.forEach h (fun h => h.offerEvent)) h

theorem Keeps.commitMode {m : Nat} (h : Keeps s t) : Keeps s (commitMode m t) := .ite h h.set.set.set.raise

theorem Keeps.refreshMode (h : Keeps s t) : Keeps s (refreshMode t) := .ite h.commitMode h

theorem Keeps.setOutcome {mb : Nat} {o : Outc} (h : Keeps s t) : Keeps s (setOutcome mb o t) := h.modMbox

theorem Keeps.finishCmd {n status : Nat} {result : List Nat} {late : Bool} (h : Keeps s t) :
    Keeps s (finishCmd n status result late t) := by
  unfold Machine.finishCmd
  split
  · exact .ite h.setOutcome h
  · split
    exacts [h.mgt.raise, h]

theorem Keeps.commitCmd {n : Nat} (h : Keeps s t) : Keeps s (commitCmd n t) := by
  unfold Machine.commitCmd
  split
  exacts [h.modMbox, h]

/-! ## Operations of the NoC -/

theorem Keeps.modNoc {f : Noc → Noc} (h : Keeps s t) : Keeps s (t.modNoc f) := h.noc

theorem Keeps.logNoc {p : Pkt} {status errinfo : Nat} (h : Keeps s t) :
    Keeps s (logNoc p status errinfo t) := h.modNoc.raise

theorem Keeps.deliverResp {p : Pkt} (h : Keeps s t) : Keeps s (deliverResp p t) := by
  refine .ite h.modNoc ?_
  split
  exacts [h.modNoc, h.logNoc]

theorem Keeps.refusePkt {p : Pkt} {status errinfo : Nat} (h : Keeps s t) :
    Keeps s (refusePkt p status errinfo t) := .ite h.deliverResp h.logNoc

theorem Keeps.enterNet {e tgt r : Nat} {p : Pkt} (h : Keeps s t) : Keeps s (enterNet e tgt r p t) :=
  h.modNoc

theorem Keeps.routeOut {e : Nat} {p : Pkt} (h : Keeps s t) : Keeps s (routeOut e p t) := by
  refine .ite (.ite h.refusePkt (.forEach ?_ (fun h => ?_))) (.ite (.ite ?_ h.refusePkt) ?_)
  · split
    exacts [h.enterNet, h.refusePkt]
  · split
    exacts [h.enterNet, h.refusePkt]
  · split
    exacts [h.enterNet, h.refusePkt]
  · split
    · refine .ite ?_ h.refusePkt
      split
      exacts [h.enterNet, h.refusePkt]
    · exact h.refusePkt

theorem Keeps.niSend {e : Nat} {p : Pkt} (h : Keeps s t) : Keeps s (niSend e p t) :=
  .ite (.ite (.modNoc (.modNoc (.applyIf h (fun h => h.set))))
    (.routeOut (.set (.modNoc (.modNoc (.applyIf h (fun h => h.set)))))))
    (.routeOut (.modNoc (.applyIf h (fun h => h.set))))

theorem Keeps.niInject {e : Nat} {p : Pkt} (h : Keeps s t) : Keeps s (niInject e p t) := .ite h.modNoc h.niSend

theorem Keeps.shedSlot {e : Nat} (h : Keeps s t) : Keeps s (shedSlot e t) := by
  unfold Machine.shedSlot
  split
  exacts [h, .ite h.modNoc.niSend h.modNoc]

theorem Keeps.answerPkt {p : Pkt} {status errinfo : Nat} {data : List Nat} {unwr : Bool} (h : Keeps s t) :
    Keeps s (answerPkt p status errinfo data unwr t) := .ite h.niInject (.ite h h.logNoc)

theorem Keeps.popRx {e : Nat} (h : Keeps s t) : Keeps s (popRx e t) := h.modNoc

theorem Keeps.sendWrites {e dev ep n off : Nat} {l : List Nat} (h : Keeps s t) :
    Keeps s (sendWrites e dev ep n off l t) := by
  induction n generalizing off l t with
  | zero => exact h
  | succ n ih => exact .ite h (ih h.niInject)

/-! ## Clock and ticks -/

theorem Keeps.setSynth {d : Nat} {y : Synth} (h : Keeps s t) : Keeps s (t.setSynth d y) := h.clk

theorem Keeps.judgeSetting {d : Nat} (h : Keeps s t) : Keeps s (judgeSetting d t) :=
  .ite h h.setSynth.setBit.setBit.raise

theorem Keeps.judgeSettings (h : Keeps s t) : Keeps s (judgeSettings t) :=
  .forEach h (fun h => .ite h.judgeSetting h)

theorem Keeps.syncHoldover {on : Bool} (h : Keeps s t) : Keeps s (syncHoldover on t) :=
  .ite (.ite h h.set) (.ite h.link.set h.link)

theorem Keeps.loseMclk (h : Keeps s t) : Keeps s (loseMclk t) := h.set.set.set.setBit.raise.syncHoldover

theorem Keeps.execMclkMeasure {srcKHz : Nat} (h : Keeps s t) : Performs s (execMclkMeasure srcKHz t) := by
  refine .ite (.next h) (.ite (.next h.clk.setBit) ?_)
  dsimp only
  split
  exacts [.ite (.next h.set.setBit.clk.clk.set.judgeSettings) (.next h.set.setBit.clk), .ite
    (.next h.set.setBit.clk.loseMclk) (.next h.set.setBit.clk)]

theorem Keeps.execMclkLoss (h : Keeps s t) : Performs s (execMclkLoss t) :=
  .ite (.next h.setBit.loseMclk) (.next h)

theorem Keeps.execMclkReturn {srcKHz : Nat} (h : Keeps s t) : Performs s (execMclkReturn srcKHz t) := by
  unfold Machine.execMclkReturn
  dsimp only
  split
  exacts [.ite (.next h.clk.set.set.set.setBit.syncHoldover.raise) (.next h), .next h]

theorem Keeps.modLane {l : Nat} {f : LaneSt → LaneSt} (h : Keeps s t) : Keeps s (t.modLane l f) := h.lane

theorem Keeps.sendBlock {l hdr payload : Nat} (h : Keeps s t) :
    Keeps s (sendBlock l hdr payload t) := .ite h h.modLane

theorem Keeps.recvBlock {l payload : Nat} (h : Keeps s t) : Keeps s (recvBlock l payload t) := h.modLane

theorem Keeps.modTrg {l : Nat} {f : TrgPort → TrgPort} (h : Keeps s t) : Keeps s (t.modTrg l f) := h.link

theorem Keeps.sendMarkers {t₁ : Nat} (h : Keeps s t) : Keeps s (sendMarkers t₁ t) :=
  .forEach h (fun h => h.modTrg.sendBlock)

theorem Keeps.refreshArmed (h : Keeps s t) : Keeps s (refreshArmed t) := .forEach h (fun h => h.setB)

theorem Keeps.setSched {h₁ : Nat} {e : SchedEnt} (h : Keeps s t) : Keeps s (t.setSched h₁ e) :=
  h.clk.refreshArmed

theorem Keeps.beginTick {t₁ : Nat} (h : Keeps s t) : Keeps s (beginTick t₁ t) := h.clk.sendMarkers

theorem Keeps.addLoad {v b : Nat} (h : Keeps s t) : Keeps s (t.addLoad v b) := h.clk

theorem Keeps.execTickBoundary (h : Keeps s t) : Performs s (execTickBoundary t) :=
  .ite (.next h) (.ite (.next h.clk.beginTick) (.ite (.next h.beginTick) (.next h)))

theorem Keeps.missEntry {h₁ : Nat} (h : Keeps s t) : Keeps s (missEntry h₁ t) := h.setSched.raise

theorem Keeps.skipEntries {o n : Nat} (h : Keeps s t) : Keeps s (skipEntries o n t) :=
  .ite (.forEach h (fun h => .ite h.missEntry h)) h

theorem Keeps.execTickLoad (h : Keeps s t) : Performs s (execTickLoad t) := by
  unfold Machine.execTickLoad
  split
  · exact .ite (.next (.beginTick (.skipEntries (.clk (.off (t := t.set R.MCLK_STAT.STEP 1) h.set rfl))))) (.next h)
  · exact .next h

theorem Keeps.execTickLoRead (h : Keeps s t) : Performs s (execTickLoRead t) :=
  .ite (.next h.set.set.setB.setB) (.next h)

theorem Keeps.setXing {f : Nat} {x : Xing} (h : Keeps s t) : Keeps s (t.setXing f x) := h.clk

theorem Keeps.modXing {f : Nat} {g : Xing → Xing} (h : Keeps s t) : Keeps s (t.modXing f g) := h.setXing

theorem Keeps.execPointerResyncDone {fifo : FifoId} (h : Keeps s t) : Performs s (execPointerResyncDone fifo t) :=
  .ite (.next h.clk) (.next h)

theorem Keeps.execTimeGet {mb : Nat} (h : Keeps s t) : Performs s (execTimeGet mb t) :=
  .next (Keeps.talnum h (fun h => h.ret))

theorem Keeps.schedPlace {tick action target arg : Nat} (h : Keeps s t) :
    KeepsOpt s Prod.snd (schedPlace tick action target arg t) := .ite .none (.some h.useFree.setSched)

theorem Keeps.execSchedAdd {mb tick action target arg : Nat} (h : Keeps s t) :
    Performs s (execSchedAdd mb tick action target arg t) := by
  exact .next (h.talnum fun h => .ite h.fail (by
    split
    · next e => exact (h.schedPlace _ e).ret
    · exact h.fail))

theorem Keeps.execSchedCancel {mb handle : Nat} (h : Keeps s t) :
    Performs s (execSchedCancel mb handle t) :=
  .next (Keeps.talnum h (fun h => .ite h.fail (.ite h.setSched.ret h.done)))

theorem Keeps.execSchedList {mb first count : Nat} (h : Keeps s t) :
    Performs s (execSchedList mb first count t) := .next (Keeps.talnum h (fun h => .ite h.fail h.ret))

theorem Keeps.applySetting {dom mode n d : Nat} (h : Keeps s t) :
    Keeps s (applySetting dom mode n d t) := h.setSynth.setBit

theorem Keeps.execClkGet {mb domain : Nat} (h : Keeps s t) : Performs s (execClkGet mb domain t) :=
  .next (Keeps.talnum h (fun h => .ite h.fail h.ret))

theorem Keeps.execTimeSet {mb tick boundary : Nat} (h : Keeps s t) :
    Performs s (execTimeSet mb tick boundary t) :=
  .next (Keeps.talnum h (fun h => Keeps.checks h (fun h => h.addLoad.ok)))

/-! ## Operations on lanes and bundles -/

theorem Keeps.modBdl {f : Nat} {g : Bundle → Bundle} (h : Keeps s t) : Keeps s (t.modBdl f g) := h.link

theorem Keeps.modLink {f : Link → Link} (h : Keeps s t) : Keeps s (t.modLink f) := h.link

theorem Keeps.queueTiming {f code fields : Nat} (h : Keeps s t) :
    Keeps s (queueTiming f code fields t) := h.modBdl

theorem Keeps.sendPairId (h : Keeps s t) : Keeps s (sendPairId t) := .ite h.queueTiming h

theorem Keeps.tryPair (h : Keeps s t) : Keeps s (tryPair t) := .ite h.useFree.modLink.queueTiming h

theorem Keeps.bundleCheckUp {l : Nat} (h : Keeps s t) : Keeps s (bundleCheckUp l t) :=
  .ite (.ite h.set.modBdl (.applyIf h.set.modBdl.queueTiming (fun h => h.sendPairId))) h

theorem Keeps.bundleCheckDown {l : Nat} (h : Keeps s t) : Keeps s (bundleCheckDown l t) :=
  .applyIf h.set (fun h => h.loseMclk)

theorem Keeps.settleUps (h : Keeps s t) : Keeps s (settleUps t) := .forEach h (fun h => .ite h.lane.finishCmd h)

theorem Keeps.setLane {l st : Nat} (h : Keeps s t) : Keeps s (setLane l st t) := h.set

theorem Keeps.failLane {l reason : Nat} (h : Keeps s t) : Keeps s (failLane l reason t) :=
  h.setLane.set.raise.settleUps

theorem Keeps.bringUp {l : Nat} (h : Keeps s t) : Keeps s (bringUp l t) :=
  .ite h.setLane (.ite h.setLane.set (.ite h.setLane.modLane (.setLane (.forEach h.modLane (fun h => h.set)))))

theorem Keeps.enterUp {l : Nat} {late : Bool} (h : Keeps s t) : Keeps s (enterUp l late t) :=
  .settleUps (.bundleCheckUp
    (.ite (.ite h.setLane.modLane.set.modLane h.setLane.modLane.set.modLane.raise) h.setLane.modLane.set))

theorem Keeps.downLane {l reason : Nat} (h : Keeps s t) : Keeps s (downLane l reason t) := by
  unfold Machine.downLane
  extract_lets _ _ u
  have hu : Keeps s u := .forEach h.set.inc.set.bundleCheckDown.raise (fun h => h.set)
  clear_value u
  exact .ite hu.setLane (.ite (.ite hu.setLane.modLane hu.bringUp) hu.setLane)

theorem Keeps.quadReset {q : Nat} (h : Keeps s t) : Keeps s (quadReset q t) :=
  .forEach h.modLink (fun h => .startResync (.modBdl (.lane (.forEach (.ite h.downLane h.setLane.set)
    (fun h => h.set)))))

theorem Keeps.quadRelease {q : Nat} (h : Keeps s t) : Keeps s (quadRelease q t) :=
  .forEach h (fun h => .applyIf h (fun h => h.bringUp))

theorem Keeps.sideLost {d : Nat} (h : Keeps s t) : Keeps s (sideLost d t) :=
  .forEach h (fun h => .ite h.downLane h)

theorem Keeps.sideLocked {d : Nat} (h : Keeps s t) : Keeps s (sideLocked d t) :=
  .forEach h (fun h => .applyIf h (fun h => h.bringUp))

theorem Keeps.changeSetting {d mode n q : Nat} (h : Keeps s t) :
    Keeps s (changeSetting d mode n q t) :=
  .ite (.forEach (.forEach h.applySetting.sideLost (fun h => h.modLane)) (fun h => h.setLane.set)) h.applySetting

theorem Keeps.dozeLane {sleep l : Nat} (h : Keeps s t) : Keeps s (dozeLane sleep l t) :=
  h.modLane.setLane

theorem Keeps.exitDoze {l : Nat} (h : Keeps s t) : Keeps s (exitDoze l t) :=
  .ite h.modLane (.ite h.bringUp.modLane h)

/-! ## Operations on regions -/

theorem Keeps.modPlane {r p : Nat} {f : Plane → Plane} (h : Keeps s t) : Keeps s (t.modPlane r p f) :=
  h.ctx

theorem Keeps.modCtx {r : Nat} {f : CtxR → CtxR} (h : Keeps s t) : Keeps s (t.modCtx r f) := h.ctx

theorem Keeps.refreshPlanes {r : Nat} (h : Keeps s t) : Keeps s (refreshPlanes r t) :=
  .forEach h (fun h => h.set)

theorem Keeps.setPlaneState {r p st : Nat} (h : Keeps s t) : Keeps s (setPlaneState r p st t) :=
  h.set

theorem Keeps.initRegion {r : Nat} (h : Keeps s t) : Keeps s (initRegion r t) :=
  .bm (.modFab h (fun _ => sorted_filter _ _))

theorem Keeps.releaseNets {r : Nat} (h : Keeps s t) : Keeps s (releaseNets r t) := .forEach h (fun h => h.modFab)

theorem Keeps.endUncHold {r : Nat} (h : Keeps s t) : Keeps s (endUncHold r t) :=
  .ite h (.ite h.integ h.integ.setBit.setBit.mgt.modCtx.releaseNets)

theorem Keeps.cancelRepairs {k : Nat} (h : Keeps s t) : Keeps s (cancelRepairs k t) :=
  .ite (.endUncHold (.forEach h.integ (fun h => h.finishCmd))) (.forEach h.integ (fun h => h.finishCmd))

theorem Keeps.emptyPlane {r p : Nat} (h : Keeps s t) : Keeps s (emptyPlane r p t) :=
  h.setPlaneState.modPlane.cancelRepairs.refreshPlanes

theorem Keeps.endRotation {r : Nat} (h : Keeps s t) : Keeps s (endRotation r t) := h.set.set.modCtx

theorem Keeps.beginHold {r : Nat} (h : Keeps s t) : Keeps s (beginHold r t) := .ite h (.set (.ite h h.modFab))

theorem Keeps.keepPolicy {c r : Nat} (h : Keeps s t) : Keeps s (keepPolicy c r t) := h.modFab

theorem Keeps.recordOuts {r : Nat} {l : List (Nat × Bool)} (h : Keeps s t) : Keeps s (recordOuts r l t) := by
  unfold Machine.recordOuts
  exact h.modFab

theorem Keeps.refreshBorder {r : Nat} (h : Keeps s t) : Keeps s (refreshBorder r t) :=
  .applyIf (.setB (.set (.applyIf h (fun h => h.beginHold)))) (fun h => h.endRotation)

theorem Keeps.refreshReblock (h : Keeps s t) : Keeps s (refreshReblock t) := h.setB.refreshMode

theorem Keeps.logEss {kind flags addr bit wmask status : Nat} (h : Keeps s t) : Keeps s (logEss kind flags addr bit wmask status t) :=
  .applyIf h.incWrap.integ.set.set (fun h => h.inc)

theorem Keeps.swapPlume {r : Nat} (h : Keeps s t) : Keeps s (swapPlume r t) :=
  .forEach h (fun h => .ite (.ite h.set.set h.set) h)

theorem Keeps.setFf {r i : Nat} {v : Bool} (h : Keeps s t) : Keeps s (setFf r i v t) :=
  h.modFab (fun _ => sorted_put _ _ _)

theorem Keeps.setLive {r : Nat} {m : SMap Nat} (h : Keeps s t) : Keeps s (setLive r m t) :=
  h.modFab fun _ hf => sorted_foldl _ _ _ (fun m _ hm => sorted_put m _ _ hm) (sorted_filter _ _ hf)

theorem Keeps.takeNet {n v : Nat} (h : Keeps s t) : Keeps s (takeNet n v t) :=
  .ite h h.set.set.set.set.modFab

theorem Keeps.takeNets {r p : Nat} (h : Keeps s t) : Keeps s (takeNets r p t) :=
  .forEach h (fun h => .applyIf h.takeNet.setB (fun h => h.set))

theorem Keeps.swapTo {r q : Nat} (h : Keeps s t) : Keeps s (swapTo r q t) :=
  h.modCtx.modPlane.setLive.set.setPlaneState.setPlaneState.takeNets.setB.incWrap.swapPlume

theorem Keeps.endSwap {r : Nat} (h : Keeps s t) : Keeps s (endSwap r t) :=
  .refreshBorder (.forEach h.modCtx (fun h => .ite h h.modFab))

theorem Keeps.placeState {r : Nat} {e : Nat × Nat × Nat} (h : Keeps s t) : Keeps s (placeState r e t) :=
  .ite h.emptyPlane.finishCmd h.setPlaneState

theorem Keeps.placeDue {r : Nat} (h : Keeps s t) : Keeps s (placeDue r t) :=
  .forEach h.modCtx (fun h => h.placeState)

theorem Keeps.askState {r p st serial : Nat} (h : Keeps s t) :
    Keeps s (askState r p st serial t) := .ite h.modCtx h.placeState

/-! ## The NoC -/

theorem Keeps.dropWorm {w : Worm} (h : Keeps s t) : Keeps s (dropWorm w t) := h.modNoc

theorem Keeps.brokenAt {n h₁ : Nat} {p : Pkt} (h : Keeps s t) : Keeps s (brokenAt n h₁ p t) :=
  h.inc.refusePkt

theorem Keeps.deliverAt {e : Nat} {p : Pkt} (h : Keeps s t) : Keeps s (deliverAt e p t) :=
  .ite h.modNoc (.ite h.modNoc (.ite h.refusePkt (.ite h.refusePkt (.ite h.refusePkt h.modNoc))))

theorem Keeps.localSlot {n port : Nat} (h : Keeps s t) : Keeps s (localSlot n port t) :=
  .ite (.forEach h (fun h => h.shedSlot)) h

theorem Keeps.execRouterHop {n : Fin 160} {port : Fin 6} (h : Keeps s t) : Performs s (execRouterHop n port t) := by
  refine .ite (.next h) ?_
  dsimp only
  split
  · exact .next h.localSlot
  next w _ =>
  have hd := h.localSlot (n := n) (port := port) |>.dropWorm (w := w)
  refine .ite (.next hd.refusePkt) (.ite (.next hd.refusePkt) ?_)
  split
  · exact .next hd.brokenAt
  · exact .ite (.next hd.brokenAt) (.ite (.ite (.next hd.brokenAt) (.ite (.next hd.modNoc) (.next hd.deliverAt)))
      (.ite (.next hd.refusePkt) (.next hd.modNoc)))

theorem Keeps.execWormAge {n : Fin 160} {port : Fin 6} (h : Keeps s t) : Performs s (execWormAge n port t) :=
  .ite (.next h) (.next h.modNoc)

theorem Keeps.execDoorPacketArrival {ep : Fin 1024} {p : Pkt} (h : Keeps s t) :
    Performs s (execDoorPacketArrival ep p t) :=
  .ite (.next h) (.ite (.ite (.next h.modNoc.set.modNoc.aon) (.next
    (.forEach h.modNoc.set.modNoc (fun h => h.exitDoze)))) (.next h.modNoc.deliverAt))

theorem Keeps.releaseDoors (h : Keeps s t) : Keeps s (releaseDoors t) :=
  .forEach h (fun h => .ite h (.forEach h.set.modNoc (fun h => h.deliverAt)))

theorem Keeps.execNpTxPacket {r : Fin 128} {p : Pkt} {aborted : Bool} (h : Keeps s t) :
    Performs s (execNpTxPacket r p aborted t) :=
  .ite (.ite (.next h.set) (.next h)) (.ite (.next h.niInject) (.next h))

theorem Keeps.sendWaiting {e : Nat} (h : Keeps s t) : Keeps s (sendWaiting e t) := by
  unfold Machine.sendWaiting
  dsimp only
  split
  exacts [h.set, h.modNoc.set.routeOut]

theorem Keeps.execNocResponseRx {ep : Fin 1024} (h : Keeps s t) : Performs s (execNocResponseRx ep t) := by
  unfold Machine.execNocResponseRx
  split
  · exact .next h
  · dsimp only
    split
    exacts [.next h.modNoc.modNoc.sendWaiting, .next h.modNoc.set]

theorem Keeps.execTxnTimeout {ep : Fin 1024} {seq : Nat} {respAtEdge : Bool} (h : Keeps s t) :
    Performs s (execTxnTimeout ep seq respAtEdge t) := by
  unfold Machine.execTxnTimeout
  dsimp only
  split
  · exact .next h
  · refine .ite (.next h) (.ite ?_ (.next h.set.inc.modNoc.sendWaiting))
    split
    exacts [.next h.modNoc.set.modNoc.sendWaiting, .next h]

theorem Keeps.execNocPortRxFlit {r : Fin 128} {ready : Bool} (h : Keeps s t) :
    Performs s (execNocPortRxFlit r ready t) := by
  unfold Machine.execNocPortRxFlit
  split
  exacts [.next h, .ite (.next h) (.ite (.next h.modNoc) (.next h.popRx.modNoc))]

theorem Keeps.execNpRxStall {r : Fin 128} (h : Keeps s t) : Performs s (execNpRxStall r t) := by
  unfold Machine.execNpRxStall
  split
  exacts [.next h, .ite (.next h.set.popRx.refusePkt) (.next h)]

theorem Keeps.startDrain {n serial : Nat} (h : Keeps s t) : Keeps s (startDrain n serial t) :=
  h.set.modNoc

theorem Keeps.execRtrCfgApply {n : Fin 160} (h : Keeps s t) : Performs s (execRtrCfgApply n t) :=
  .ite (.next h.startDrain) (.next h)

theorem Keeps.finishDrain {n : Nat} {late : Bool} (h : Keeps s t) : Keeps s (finishDrain n late t) :=
  .finishCmd (.forEach h.set.modNoc (fun h => h.dropWorm.brokenAt))

theorem Keeps.execRouterDrainEnd {n : Fin 160} (h : Keeps s t) : Performs s (execRouterDrainEnd n t) :=
  .ite (.next h.finishDrain) (.next h)

theorem Keeps.execRouterDrainTimeout {n : Fin 160} {tailAtEdge : Bool} (h : Keeps s t) :
    Performs s (execRouterDrainTimeout n tailAtEdge t) :=
  .ite (.ite (.next h.finishDrain) (.next h.set.set.modNoc.finishCmd)) (.next h)

theorem Keeps.startMeshReset {q : Nat} (h : Keeps s t) : Keeps s (startMeshReset q t) := .ite h.modNoc h

theorem Keeps.resyncDoors {q : Nat} (h : Keeps s t) : Keeps s (resyncDoors q t) :=
  .forEach h.modNoc (fun h => h.startResync)

theorem Keeps.cutMesh {q : Nat} (h : Keeps s t) : Keeps s (cutMesh q t) :=
  .forEach (.applyIf (.forEach h.modNoc (fun h => h.set.finishCmd)) (fun h => h.resyncDoors))
    (fun h => .ite h.deliverResp h.refusePkt)

theorem Keeps.execMeshResetDrainEnd {q : Fin 5} (h : Keeps s t) : Performs s (execMeshResetDrainEnd q t) :=
  .ite (.next h) (.next h.cutMesh)

theorem Keeps.endMeshReset {q : Nat} (h : Keeps s t) : Keeps s (endMeshReset q t) :=
  .applyIf h.modNoc (fun h => h.resyncDoors)

theorem Keeps.setRoute {e i hops valid : Nat} (h : Keeps s t) :
    Keeps s (setRoute e i hops valid t) := h.modNoc

theorem Keeps.rtAccess (h : Keeps s t) : Keeps s (rtAccess t) := .ite h.set.set.set.set (.ite h.setRoute h.set)

theorem Keeps.execRtAccGo (h : Keeps s t) : Performs s (execRtAccGo t) := .ite (.next h.rtAccess) (.next h)

theorem Keeps.execNocRtSet {mb ep entry hops valid : Nat} (h : Keeps s t) :
    Performs s (execNocRtSet mb ep entry hops valid t) :=
  .next (Keeps.talnum h (fun h => Keeps.checks h (fun h => h.setRoute.ok)))

theorem Keeps.execNocRtGet {mb ep first count : Nat} (h : Keeps s t) :
    Performs s (execNocRtGet mb ep first count t) :=
  .next (Keeps.talnum h (fun h => Keeps.checks h (fun h => h.ret)))

theorem Keeps.execNocRtrSet {mb n pen vc2 : Nat} (h : Keeps s t) :
    Performs s (execNocRtrSet mb n pen vc2 t) :=
  .next (Keeps.talnum h (fun h => Keeps.checks h (fun h => h.set.set.startDrain.runs)))

theorem Keeps.execNocNiSet {mb ep txnTo maxc dhops shed : Nat} (h : Keeps s t) : Performs s (execNocNiSet mb ep txnTo maxc dhops shed t) :=
  .next (Keeps.talnum h (fun h => Keeps.checks h (fun h => Keeps.ok (.applyIf h.set.set.set (fun h => h.set)))))

theorem Keeps.execNocStatus {mb isEp n : Nat} (h : Keeps s t) :
    Performs s (execNocStatus mb isEp n t) :=
  .next (Keeps.talnum h (fun h => Keeps.checks h (fun h => .ite h.ret h.ret)))

theorem Keeps.execNocErrlog {mb first count clear : Nat} (h : Keeps s t) :
    Performs s (execNocErrlog mb first count clear t) :=
  .next (Keeps.talnum h (fun h => Keeps.checks h (fun h => Keeps.ret (.ite h.modNoc h))))

/-! ## Serial lanes -/

theorem Keeps.execLaneSignalDetect {l : Fin 96} (h : Keeps s t) : Performs s (execLaneSignalDetect l t) :=
  .ite (.next h.set.setLane) (.next h)

theorem Keeps.newRequest {l : Nat} (h : Keeps s t) : Keeps s (newRequest l t) :=
  .ite h.useFree h.useFree.useFree.modLane

theorem Keeps.execBlockLock {l : Fin 96} {ofs : Nat} {complement : Bool} {senders : List Nat} (h : Keeps s t) :
    Performs s (execBlockLock l ofs complement senders t) := by
  unfold Machine.execBlockLock
  refine .ite (.next h) (.ite (.ite (.next h.setB) (.next h)) (.ite (.next h) (.ite ?_
    (.next (.ite h.set.set.enterUp (.ite h.set.set h.set.set.setLane.newRequest))))))
  split
  exacts [.next (.ite h.set.set.set.enterUp (.ite h.set.set.set h.set.set.set.setLane.newRequest)),
    .next (.ite h.set.set.set.enterUp (.ite h.set.set.set h.set.set.set.setLane.newRequest)),
      .next h.set.set.set.raise]

theorem Keeps.actOnTaps {l pre post seq : Nat} (h : Keeps s t) :
    Keeps s (actOnTaps l pre post seq t) := by
  unfold Machine.actOnTaps
  exact h.set.set.set.modLane

theorem Keeps.execTrainingBlockRx {l : Fin 96} {payload : BitVec 64} (h : Keeps s t) :
    Performs s (execTrainingBlockRx l payload t) :=
  .ite (.next h) (.ite (.next (.applyIf (.applyIf h.modLane (fun h => h.actOnTaps)) (fun h => h.modLane)))
    (.next h.modLane))

theorem Keeps.execTapRequestTimeout {l : Fin 96} {ackAtEdge : Bool} (h : Keeps s t) :
    Performs s (execTapRequestTimeout l ackAtEdge t) :=
  .ite (.next h) (.ite (.next h.set.modLane) (.ite (.next h.modLane) (.next h.failLane)))

theorem Keeps.execTrainDone {l : Fin 96} (h : Keeps s t) : Performs s (execTrainDone l t) :=
  .ite (.next h.setLane.modLane) (.next h)

theorem Keeps.execBitSlip {l : Fin 96} (h : Keeps s t) : Performs s (execBitSlip l t) :=
  .ite (.ite (.next h.set.modLane.finishCmd) (.next h.set.modLane)) (.next h)

theorem Keeps.execAlignMeasureDone {l : Fin 96} {reads : List AlignRd} (h : Keeps s t) :
    Performs s (execAlignMeasureDone l reads t) :=
  .ite (.next h) (.ite (.next h.set.set.failLane) (.next h.set.set.modLane))

theorem Keeps.execLaneEnterUp {l : Fin 96} (h : Keeps s t) : Performs s (execLaneEnterUp l t) :=
  .ite (.next h.enterUp) (.next h)

theorem Keeps.execBringupTimeout {l : Fin 96} {upAtEdge : Bool} (h : Keeps s t) :
    Performs s (execBringupTimeout l upAtEdge t) :=
  .ite (.next h) (.ite (.ite (.next h.enterUp) (.next h)) (.next h.failLane))

theorem Keeps.execLaneDownEvent {l : Fin 96} {reason : Nat} (h : Keeps s t) :
    Performs s (execLaneDownEvent l reason t) := .ite (.next h.downLane) (.next h)

theorem Keeps.execRxBufferFillCheck {l : Fin 96} {fill : Nat} (h : Keeps s t) :
    Performs s (execRxBufferFillCheck l fill t) :=
  .ite (.next h.modLane) (.ite (.next h) (.ite (.next h.downLane)
    (.ite (.ite (.next h.set.set.raise) (.next h.set)) (.next h.set))))

theorem Keeps.execElasticAdjust {l : Fin 96} {idlePasses : Bool} (h : Keeps s t) :
    Performs s (execElasticAdjust l idlePasses t) :=
  .ite (.next h) (.ite (.next h.set) (.ite (.next h.set) (.next h)))

theorem Keeps.execAdaptFreeze {l : Fin 96} {dataBlock : Bool} (h : Keeps s t) :
    Performs s (execAdaptFreeze l dataBlock t) := .ite (.next h.setB) (.next h)

theorem Keeps.execLaneNoticeRx {l : Fin 96} {sleep : Bool} (h : Keeps s t) :
    Performs s (execLaneNoticeRx l sleep t) := .ite (.next h) (.next h.modLane)

theorem Keeps.execLaneSignalWake {l : Fin 96} (h : Keeps s t) : Performs s (execLaneSignalWake l t) :=
  .ite (.next h) (.next (.applyIf h.set.modLane.raise (fun h => h.exitDoze)))

theorem Keeps.execLaneDozeExitDone {l : Fin 96} {hdrOfs lMeas : Nat} (h : Keeps s t) :
    Performs s (execLaneDozeExitDone l hdrOfs lMeas t) :=
  .ite (.next h) (.ite (.next h.modLane.setLane.set.modLane)
    (.next h.modLane.setLane.bundleCheckUp.settleUps.releaseDoors))

theorem Keeps.execPrbsCheck {l : Fin 96} {rx : List Bool} {headers : Nat} (h : Keeps s t) :
    Performs s (execPrbsCheck l rx headers t) :=
  .ite (.next h.incBy) (.ite (.next h) (.next h.incBy.set.setB.modLane))

theorem Keeps.execSlicerCalTurn {l : Fin 96} (h : Keeps s t) : Performs s (execSlicerCalTurn l t) :=
  .ite (.next h) (.next h.useFree.modLane)

theorem Keeps.execEyeScanEnd {l : Fin 96} {counts : List Nat} (h : Keeps s t) :
    Performs s (execEyeScanEnd l counts t) := by
  unfold Machine.execEyeScanEnd
  split
  exacts [.next h, .ite (.next h) (.next h.modLane.finishCmd)]

theorem Keeps.execLaneGet {mb l : Nat} (h : Keeps s t) : Performs s (execLaneGet mb l t) :=
  .next (Keeps.talnum h (fun h => Keeps.checks h (fun h => h.ret)))

theorem Keeps.execLaneUp {mb mask time : Nat} (h : Keeps s t) :
    Performs s (execLaneUp mb mask time t) :=
  .next (Keeps.talnum h (fun h => Keeps.checks h (fun h => Keeps.runs
    (.settleUps (.forEach h.lane (fun h => .ite h.modLane.bringUp h.modLane))))))

theorem Keeps.execLaneDown {mb mask : Nat} (h : Keeps s t) : Performs s (execLaneDown mb mask t) :=
  .next (Keeps.talnum h (fun h => Keeps.checks h (fun h => Keeps.ok
    (.forEach h (fun h => .forEach h.setLane.bundleCheckDown.modLane (fun h => h.set))))))

theorem Keeps.execLanePower {mb mask state : Nat} (h : Keeps s t) :
    Performs s (execLanePower mb mask state t) :=
  .next (Keeps.talnum h (fun h => Keeps.checks h (fun h => Keeps.ok
    (.forEach h (fun h => .ite h.exitDoze (.ite h.dozeLane.bundleCheckDown h))))))

theorem Keeps.execLaneFlSet {mb l lat : Nat} (h : Keeps s t) :
    Performs s (execLaneFlSet mb l lat t) :=
  .next (Keeps.talnum h (fun h => Keeps.checks h (fun h => h.set.modLane.ok)))

theorem Keeps.execLaneSlip {mb l count : Nat} (h : Keeps s t) :
    Performs s (execLaneSlip mb l count t) :=
  .next (Keeps.talnum h (fun h => Keeps.checks h (fun h => h.modLane.runs)))

theorem Keeps.execLaneTest {mb l pattern invert loopback : Nat} (h : Keeps s t) :
    Performs s (execLaneTest mb l pattern invert loopback t) :=
  .next (Keeps.talnum h (fun h => Keeps.checks h (fun h => h.modLane.useFree.bundleCheckDown.setLane.set.ret)))

theorem Keeps.execLaneErr {mb l clear : Nat} (h : Keeps s t) :
    Performs s (execLaneErr mb l clear t) :=
  .next (Keeps.talnum h (fun h => Keeps.checks h (fun h => Keeps.ret (.applyIf h (fun h => h.set.set.modLane)))))

theorem Keeps.execLaneEye {mb l phase0 phase1 ofs0 ofs1 : Nat} {e :
    Nat} (h : Keeps s t) : Performs s (execLaneEye mb l phase0 phase1 ofs0 ofs1 e t) :=
  .next (Keeps.talnum h (fun h => Keeps.checks h (fun h => h.modLane.runs)))

theorem Keeps.writeEq {l pre post ctle : Nat} {dfe : List Nat} {adapt : Nat} (h : Keeps s t) : Keeps s (writeEq l pre post ctle dfe adapt t) :=
  .ite (.forEach h.set.set.set.set (fun h => h.set)) h.set.set.set

theorem Keeps.execLaneEqSet {mb l pre post ctle : Nat} {dfe : List Nat} {adapt :
    Nat} (h : Keeps s t) : Performs s (execLaneEqSet mb l pre post ctle dfe adapt t) :=
  .next (Keeps.talnum h (fun h => Keeps.checks h (fun h => h.writeEq.ok)))

/-! ## Contexts -/

theorem Keeps.nackRegion {r reason : Nat} (h : Keeps s t) : Keeps s (nackRegion r reason t) := h.set.set

theorem Keeps.refuseMember {set tick r reason : Nat} (h : Keeps s t) :
    Keeps s (refuseMember set tick r reason t) := h.set.inc.nackRegion.raise

theorem Keeps.refuseSwap {r reason : Nat} {x : SwapSrc} (h : Keeps s t) :
    Keeps s (refuseSwap r reason x t) := by
  unfold Machine.refuseSwap
  split
  exacts [h.refuseMember, h.nackRegion.finishCmd, h.nackRegion.modCtx]

theorem Keeps.acceptSwap {late : Bool} {x : SwapSrc} (h : Keeps s t) : Keeps s (acceptSwap late x t) := by
  unfold Machine.acceptSwap
  split
  exacts [h.set, h.finishCmd, h]

theorem Keeps.judgeRequests {r : Nat} {late : Bool} {reqs : List (SwapSrc × Nat)} (h : Keeps s t) :
    Keeps s (judgeRequests r late reqs t).2 := by
  refine .forEach h (fun h => ?_)
  split
  exacts [h.refuseSwap, .ite h.acceptSwap h.refuseSwap]

theorem Keeps.swapEdge {r q : Nat} (h : Keeps s t) : Keeps s (swapEdge r q t) := by
  unfold Machine.swapEdge
  exact .refreshReblock (.refreshBorder (.set (.applyIf h.beginHold.swapTo.modCtx.modFab (fun h => h.emptyPlane))))

theorem Keeps.sampleEdge {r : Nat} {late : Bool} {port : Option (Fin 4)} {delivered : Bool} (h : Keeps s t) :
    Keeps s (sampleEdge r late port delivered t) := by
  unfold Machine.sampleEdge
  dsimp only
  split
  exacts [.ite h.judgeRequests.modCtx h.judgeRequests.modCtx.swapEdge, h.judgeRequests.modCtx]

theorem Keeps.execSwapEdge {r : Fin 128} {port : Option (Fin 4)} {delivered : Bool} (h : Keeps s t) :
    Performs s (execSwapEdge r port delivered t) := by
  refine .ite (.next h) (.ite ?_ (.ite (.next h) (.next h.sampleEdge)))
  split
  exacts [.ite (.next h.refuseSwap) (.next h), .next h]

theorem Keeps.execSwapCycleEnd {r : Fin 128} (h : Keeps s t) : Performs s (execSwapCycleEnd r t) :=
  .ite (.next h) (.next h.endSwap.modCtx)

theorem Keeps.execHostSwapTimeout {r : Fin 128} {ackAtEdge : Bool} (h : Keeps s t) :
    Performs s (execHostSwapTimeout r ackAtEdge t) := by
  unfold Machine.execHostSwapTimeout
  dsimp only
  split
  exacts [.ite (.ite (.next h.sampleEdge) (.next h)) (.next h.modCtx.refuseSwap), .next h]

theorem Keeps.refuseRotation {r t₁ reason : Nat} (h : Keeps s t) :
    Keeps s (refuseRotation r t₁ reason t) := h.nackRegion.raise.endRotation

theorem Keeps.execSwapMemberTimeout {r : Fin 128} (h : Keeps s t) : Performs s (execSwapMemberTimeout r t) := by
  refine .next ?_
  split
  exacts [.ite (.refuseRotation (.forEach h.modCtx (fun h => h.refuseMember)))
    (.forEach h.modCtx (fun h => h.refuseMember)), .forEach h.modCtx (fun h => h.refuseMember)]

theorem Keeps.fireSet {k t₁ : Nat} (h : Keeps s t) : Keeps s (fireSet k t₁ t) :=
  .ite (.ite (.forEach h.set (fun h => h.refuseMember)) (.ite (.forEach h.set (fun h => h.refuseMember))
    (.forEach h.set (fun h => h.modCtx)))) (.forEach h.set (fun h => h.modCtx))

theorem Keeps.writeSwapTgt {k w val : Nat} (h : Keeps s t) : Keeps s (writeSwapTgt k w val t) :=
  .ite h.set (.forEach h (fun h => h.set.set))

theorem Keeps.execSwapTgtWrite {k w : Fin 16} {val : BitVec 32} (h : Keeps s t) :
    Performs s (execSwapTgtWrite k w val t) := .ite (.next h.writeSwapTgt) (.next h)

theorem Keeps.holdDriven {r p : Nat} (h : Keeps s t) : Keeps s (holdDriven r p t) := by
  unfold Machine.holdDriven
  exact h.modFab

theorem Keeps.rotateTo {r q : Nat} (h : Keeps s t) : Keeps s (rotateTo r q t) :=
  .ite h.holdDriven.modCtx h.holdDriven.modCtx.swapTo

theorem Keeps.startRotation {r : Nat} (h : Keeps s t) : Keeps s (startRotation r t) := by
  unfold Machine.startRotation
  exact h.modFab.set.modCtx

theorem Keeps.rotateNext {r : Nat} {delivered : Bool} (h : Keeps s t) : Keeps s (rotateNext r delivered t) := by
  refine .ite h.rotateTo.modCtx ?_
  split
  exacts [h.rotateTo.endRotation, h.rotateTo.modCtx]

theorem Keeps.rotateStart {r t₁ : Nat} (h : Keeps s t) : Keeps s (rotateStart r t₁ t) := by
  refine .ite h (.ite h.refuseRotation ?_)
  split
  exacts [h.refuseRotation, h.rotateTo.startRotation]

theorem Keeps.execRotationEdge {r : Fin 128} {delivered : Bool} (h : Keeps s t) :
    Performs s (execRotationEdge r delivered t) := by
  refine .ite (.next h) (.ite (.next h.endRotation) (.ite (.next h.rotateNext) (.next ?_)))
  split
  exacts [.ite h.rotateStart h, h]

theorem Keeps.takeCapture {r : Nat} {c : Capture} (h : Keeps s t) : Keeps s (takeCapture r c t) :=
  h.modCtx.set.set.setB.setB.set

theorem Keeps.freeCapture {r : Nat} (h : Keeps s t) : Keeps s (freeCapture r t) := h.modCtx.set

theorem Keeps.execCaptureEdge {r : Fin 128} {portReq atSwap : Bool} {race : List (Fin 200704 × Bool)} (h : Keeps s t) :
    Performs s (execCaptureEdge r portReq atSwap race t) := by
  have answer {st : Nat} {res : List Nat} {u : State} (h : Keeps s u) :
      Keeps s (match (t.ctxR r).capReq with | some n => Machine.finishCmd n st res false u | none => u) := by
    split
    exacts [h.finishCmd, h]
  exact .ite (.next h) (.ite (.next (answer h.modCtx)) (.ite (.next (answer h.modCtx.set))
    (.next (answer (.applyIf h.modCtx.takeCapture fun h => h.modCtx)))))

theorem Keeps.execCtxStatus {mb r : Nat} (h : Keeps s t) : Performs s (execCtxStatus mb r t) :=
  .next (Keeps.talnum h (fun h => .ite h.fail (.ite h.fail h.ret)))

theorem Keeps.execCtxSwap {mb isSet num plane tick : Nat} (h : Keeps s t) :
    Performs s (execCtxSwap mb isSet num plane tick t) := by
  refine .next (h.talnum fun h => .ite (.ite h.fail (.ite h.done ?_))
    (.ite h.fail (.ite h.done (.ite h.nackRegion.done (.ite h.fail h.modCtx.runs)))))
  split
  · next e => exact (h.schedPlace _ e).ret
  · exact h.fail

theorem Keeps.execCtxSetDef {mb set atomic mask planes : Nat} (h : Keeps s t) :
    Performs s (execCtxSetDef mb set atomic mask planes t) :=
  .next (Keeps.talnum h (fun h => Keeps.checks h (fun h => Keeps.ok (.forEach h.set (fun h => h.set.set)))))

theorem Keeps.execCtxDiscard {mb r p : Nat} (h : Keeps s t) :
    Performs s (execCtxDiscard mb r p t) :=
  .next (Keeps.talnum h (fun h => Keeps.checks h (fun h => .ite h.ok (.ite h.askState.runs h.emptyPlane.ok))))

theorem Keeps.execCtxRotate {mb r start : Nat} {order : List (Fin 4)} {arg : Nat} (h : Keeps s t) :
    Performs s (execCtxRotate mb r start order arg t) :=
  .next (Keeps.talnum h (fun h => .ite h.fail (.ite h.done (.ite
    (Keeps.checks h (fun h => h.set.set.set.modCtx.ok)) (Keeps.checks h (fun h => h.modCtx.ok))))))

theorem Keeps.execCtxCapture {mb r p : Nat} (h : Keeps s t) :
    Performs s (execCtxCapture mb r p t) :=
  .next (Keeps.talnum h (fun h => Keeps.checks h (fun h => .ite h.set.done
    (.ite h.takeCapture.ret (.ite h.takeCapture.ret (.ite h.fail h.modCtx.runs))))))

theorem Keeps.execCtxCapFree {mb r : Nat} (h : Keeps s t) : Performs s (execCtxCapFree mb r t) :=
  .next (Keeps.talnum h (fun h => Keeps.checks h (fun h => h.freeCapture.ok)))

/-! ## Pins and measurement -/

theorem Keeps.modIo {f : Io → Io} (h : Keeps s t) : Keeps s (t.modIo f) := h.io

theorem Keeps.modCh {n : Nat} {f : TdcCh → TdcCh} (h : Keeps s t) : Keeps s (t.modCh n f) := h.modIo

theorem Keeps.modBank {b : Nat} {f : IoBank → IoBank} (h : Keeps s t) : Keeps s (t.modBank b f) := h.modIo

theorem Keeps.modGroup {k : Nat} {f : CalGroup → CalGroup} (h : Keeps s t) : Keeps s (t.modGroup k f) := h.modIo

theorem Keeps.execVioPresent {g : Fin 8} (h : Keeps s t) : Performs s (execVioPresent g t) := .next h.modIo

theorem Keeps.execVioAbsent {g : Fin 8} (h : Keeps s t) : Performs s (execVioAbsent g t) := .next h.modIo

theorem Keeps.execVioLoss {b : Fin 32} (h : Keeps s t) : Performs s (execVioLoss b t) :=
  .ite (.next h) (.next h.modBank.set.set.raise)

theorem Keeps.execVioRestore {b : Fin 32} (h : Keeps s t) : Performs s (execVioRestore b t) :=
  .ite (.next h.modBank.set) (.next h)

theorem Keeps.refreshVio (h : Keeps s t) : Keeps s (refreshVio t) := .forEach h (fun h => .ite h.setB h)

theorem Keeps.checkVio {b : Nat} (h : Keeps s t) : Keeps s (checkVio b t) :=
  .applyIf h.modBank.setB.setB (fun h => h.raise)

theorem Keeps.holdPins (h : Keeps s t) : Keeps s (holdPins t) := by
  unfold Machine.holdPins
  exact h.modIo

theorem Keeps.writeIdelay {n v : Nat} (h : Keeps s t) : Keeps s (writeIdelay n v t) := .ite h.set h

theorem Keeps.execIdelayWrite {n : Fin 1536} {taps : BitVec 9} (h : Keeps s t) :
    Performs s (execIdelayWrite n taps t) := .next h.writeIdelay

theorem Keeps.execIdelayStep {n : Fin 1536} (h : Keeps s t) : Performs s (execIdelayStep n t) :=
  .ite (.next h) (.next h.modCh)

theorem Keeps.recordHit {n : Nat} {falling : Bool} {p x : CoreStamp} (h : Keeps s t) :
    Keeps s (recordHit n falling p x t) := .ite h.modCh.incWrap.set h.modCh

theorem Keeps.execTdcEdge {n : Fin 1536} {e : TdcIn} (h : Keeps s t) : Performs s (execTdcEdge n e t) :=
  .ite (.next h) (.next (.applyIf h.modCh (fun h => h.recordHit)))

theorem Keeps.pushPort {b word : Nat} (h : Keeps s t) : Keeps s (pushPort b word t) :=
  .applyIf h.modBank (fun h => h.set)

theorem Keeps.execHitArbiter {b : Fin 32} (h : Keeps s t) : Performs s (execHitArbiter b t) := by
  refine .ite (.next h) ?_
  split
  exacts [.next h, .ite (.next h.set) (.next h.modCh.modBank.pushPort)]

theorem Keeps.execWatermarkEmit {b : Fin 32} (h : Keeps s t) : Performs s (execWatermarkEmit b t) :=
  .ite (.next h) (.ite (.next h) (.ite (.next h.set) (.next h.modBank.pushPort)))

theorem Keeps.execHitPortTransfer {b : Fin 32} {hsReady : Bool} (h : Keeps s t) :
    Performs s (execHitPortTransfer b hsReady t) := by
  refine .ite (.next h) (.ite (.next h.recordOuts) ?_)
  split
  exacts [.next h.recordOuts, .next h.recordOuts.modBank]

theorem Keeps.calRequest {n : Nat} (h : Keeps s t) : Keeps s (calRequest n t).2 := by
  unfold Machine.calRequest
  dsimp only
  split
  · exact h
  · split
    exacts [h, .pair h.modGroup.modCh]

theorem Keeps.requestCal {n : Nat} (h : Keeps s t) : Keeps s (requestCal n t) := .ite h.calRequest.set h

theorem Keeps.execTdcCfgCalReq {n : Fin 1536} (h : Keeps s t) : Performs s (execTdcCfgCalReq n t) :=
  .ite (.next h.requestCal) (.next h)

theorem Keeps.endCal {n : Nat} (h : Keeps s t) : Keeps s (endCal n t) := .ite h h.set

theorem Keeps.dropQueue {k : Nat} (h : Keeps s t) : Keeps s (dropQueue k t) :=
  .forEach h.modGroup (fun h => h.modCh.set)

theorem Keeps.connectSpare {n : Nat} (h : Keeps s t) : Keeps s (connectSpare n t) :=
  h.useFree.modGroup.modCh.setBit

theorem Keeps.execTdcRotationTurn {b : Fin 32} {g : Fin 3} (h : Keeps s t) :
    Performs s (execTdcRotationTurn b g t) := by
  refine .ite (.next h) ?_
  split
  · exact .next h.modGroup.connectSpare
  · split
    exacts [.next h, .ite (.next h.modGroup.modGroup) (.next h.modGroup.connectSpare)]

theorem Keeps.execTdcCalSwitch {n : Fin 1536} (h : Keeps s t) : Performs s (execTdcCalSwitch n t) :=
  .ite (.next h.modCh.set) (.next h)

theorem Keeps.keepTable {c : Nat} {t₁ : List Nat} (h : Keeps s t) : Keeps s (keepTable c t₁ t) := h.modIo

theorem Keeps.execTdcCodeDensityDone {core : Fin 1632} {counts : List Nat} (h : Keeps s t) :
    Performs s (execTdcCodeDensityDone core counts t) := by
  refine .ite (.next h) (.ite (.ite (.next h) ?_) (.ite (.next h) ?_))
  · split
    exacts [.next h.useFree.keepTable.modCh, .next h.modCh.modGroup.dropQueue.set.set.setBit.raise]
  · dsimp only
    split
    exacts [.next h.modGroup.keepTable, .next h.modGroup.modGroup.dropQueue.setBit]

theorem Keeps.execTdcCalSwitchBack {n : Fin 1536} (h : Keeps s t) : Performs s (execTdcCalSwitchBack n t) :=
  .ite (.next h.modCh.modGroup.endCal.set.setBit.raise) (.next h)

theorem Keeps.resetChannel {n : Nat} (h : Keeps s t) : Keeps s (resetChannel n t) := by
  refine .ite (.applyIf (.modCh ?_) (fun h => h.set)) (.set (.applyIf (.modCh ?_) (fun h => h.set)))
  · split
    exacts [h.modIo, h]
  · split
    exacts [h.modIo, h]

theorem Keeps.resetBanks {g : Nat} (h : Keeps s t) : Keeps s (resetBanks g t) :=
  .forEach h (fun h => .modBank (.forEach (.forEach h (fun h => h.resetChannel))
    (fun h => .ite h.modGroup.dropQueue h.modGroup.dropQueue.setBit)))

theorem Keeps.resyncPort {b : Nat} (h : Keeps s t) : Keeps s (resyncPort b t) :=
  .startResync (.modBank (.applyIf h (fun h => h.set)))

theorem Keeps.armPulse {n t₁ : Nat} (h : Keeps s t) : Keeps s (armPulse n t₁ t) := h.modCh

theorem Keeps.execTpReqPulse {p : TpReq} (h : Keeps s t) : Performs s (execTpReqPulse p t) :=
  .ite (.next h) (.ite (.next (.applyIf h.modCh (fun h => h.armPulse)))
    (.ite (.next h) (.next (.applyIf (.applyIf h.modCh (fun h => h.armPulse)) (fun h => h.modXing)))))

theorem Keeps.ownEdge {n : Nat} {falling : Bool} {sincePs t₁ co : Nat} (h : Keeps s t) :
    Keeps s (ownEdge n falling sincePs t₁ co t) := .applyIf h.useFree.useFree.modCh (fun h => h.recordHit)

theorem Keeps.execTestPulseFire {p : TpFire} (h : Keeps s t) : Performs s (execTestPulseFire p t) := by
  unfold Machine.execTestPulseFire
  dsimp only
  split
  exacts [.next h, .ite (.next h.modCh) (.next h.modCh.ownEdge.ownEdge)]

theorem Keeps.loadDac {k : Nat} {l : DacLoad} (h : Keeps s t) : Keeps s (loadDac k l t) := h.modIo

theorem Keeps.driveDacs (h : Keeps s t) : Keeps s (driveDacs t) := .ite h (.forEach h (fun h => h.setB))

theorem Keeps.execDacCodeWrite {k : Fin 16} {code : BitVec 12} (h : Keeps s t) :
    Performs s (execDacCodeWrite k code t) := .ite (.next h) (.next h.loadDac)

theorem Keeps.takeDac {k code : Nat} (h : Keeps s t) : Keeps s (takeDac k code t) :=
  .applyIf h.modIo.set (fun h => h.set)

theorem Keeps.dropLoad {d : DacLoad} (h : Keeps s t) : Keeps s (dropLoad d t) := by
  unfold Machine.dropLoad
  split
  exacts [h.missEntry, h.finishCmd, h]

theorem Keeps.endLoad' {st : Nat} {d : DacLoad} (h : Keeps s t) : Keeps s (endLoad' st d t) := .ite h.finishCmd h

theorem Keeps.execDacLoadApply {k : Fin 16} (h : Keeps s t) : Performs s (execDacLoadApply k t) :=
  .ite (.next h) (.ite (.next (.forEach h.modIo (fun h => h.dropLoad)))
    (.next (.forEach (.applyIf h.modIo.takeDac.endLoad' (fun h => h.setBit)) (fun h => h.endLoad'))))

theorem Keeps.execPinGet {mb n : Nat} (h : Keeps s t) : Performs s (execPinGet mb n t) :=
  .next (Keeps.talnum h (fun h => .ite h.fail h.ret))

theorem Keeps.execPinSet {mb n val : Nat} (h : Keeps s t) : Performs s (execPinSet mb n val t) :=
  .next (Keeps.talnum h (fun h => Keeps.checks h (fun h => h.writeFields.ok)))

theorem Keeps.dropDead {n : Nat} (h : Keeps s t) : Keeps s (dropDead n t) := .ite h.set h

theorem Keeps.writeTdcCfg {n val : Nat} (h : Keeps s t) : Keeps s (writeTdcCfg n val t) :=
  .ite h.writeFields.dropDead.requestCal h.writeFields.dropDead

theorem Keeps.execTdcSet {mb n val : Nat} (h : Keeps s t) : Performs s (execTdcSet mb n val t) :=
  .next (Keeps.talnum h (fun h => .ite h.fail (.ite h.fail h.writeTdcCfg.ok)))

theorem Keeps.execTdcCal {mb n : Nat} (h : Keeps s t) : Performs s (execTdcCal mb n t) :=
  .next (Keeps.talnum h (fun h => .ite h.fail (.ite h.fail h.calRequest.done)))

theorem Keeps.execTdcStat {mb n : Nat} (h : Keeps s t) : Performs s (execTdcStat mb n t) :=
  .next (Keeps.talnum h (fun h => .ite h.fail (.ite h.fail h.ret)))

theorem Keeps.execTpArm {mb first count tick : Nat} (h : Keeps s t) :
    Performs s (execTpArm mb first count tick t) :=
  .next (Keeps.talnum h (fun h => .ite h.fail (Keeps.ok (.forEach h (fun h => h.armPulse)))))

theorem Keeps.execDacSet {mb k code : Nat} (h : Keeps s t) : Performs s (execDacSet mb k code t) :=
  .next (Keeps.talnum h (fun h => Keeps.checks h (fun h => h.loadDac.runs)))

theorem Keeps.execAdcGet {mb input : Nat} (h : Keeps s t) : Performs s (execAdcGet mb input t) :=
  .next (Keeps.talnum h (fun h => .ite h.fail h.ret))

theorem Keeps.execHkpRead {mb first count : Nat} (h : Keeps s t) :
    Performs s (execHkpRead mb first count t) := .next (Keeps.talnum h (fun h => .ite h.fail h.ret))

theorem Keeps.execHkpMask {mb mask : Nat} (h : Keeps s t) : Performs s (execHkpMask mb mask t) :=
  .next (Keeps.talnum h (fun h => .ite h.fail h.modIo.ok))

/-! ## Block memories -/

theorem Keeps.setBmPort {m k : Nat} {p : BmPort} (h : Keeps s t) : Keeps s (setBmPort m k p t) := h.modBm

theorem Keeps.bmCount {m : Nat} {fresh : Bool} {r : Option BmRes} (h : Keeps s t) : Keeps s (bmCount m fresh r t) := by
  unfold Machine.bmCount
  split
  exacts [h, .applyIf (.applyIf (.applyIf h (fun h => h.set.inc)) (fun h => h.set.inc)) (fun h => h.set)]

theorem Keeps.startBmClear {m : Nat} (h : Keeps s t) : Keeps s (startBmClear m t) := h.set

theorem Keeps.clearBm {m : Nat} (h : Keeps s t) : Keeps s (clearBm m t) := h.modBm (fun _ => sorted_filter _ _)

theorem Keeps.bmWrite {m row mask v : Nat} (h : Keeps s t) :
    Keeps s (bmWrite m row mask v t) := .ite h (h.modBm (fun _ => sorted_put _ _ _))

theorem Keeps.execBmPortAccess {m : Fin 12288} {pa pb : Option BmIn} (h : Keeps s t) :
    Performs s (execBmPortAccess m pa pb t) := by
  unfold Machine.execBmPortAccess
  dsimp only
  refine .ite (.next h) (.next ?_)
  cases t.portAt m 0 pa <;> cases t.portAt m 1 pb
  · exact h.free.bmCount.bmCount
  · exact h.free.bmWrite.setBmPort.bmCount.bmCount
  · exact .applyIf h.free.bmWrite.setBmPort.bmCount.bmCount fun h => h.startBmClear
  · exact .applyIf h.free.bmWrite.bmWrite.setBmPort.setBmPort.bmCount.bmCount fun h => h.startBmClear

theorem Keeps.execBmClrInput {m : Fin 12288} (h : Keeps s t) : Performs s (execBmClrInput m t) :=
  .ite (.next h) (.next h.startBmClear)

theorem Keeps.execBmBulkClearDone {m : Fin 12288} (h : Keeps s t) : Performs s (execBmBulkClearDone m t) :=
  .ite (.next h.set.set.clearBm) (.next h)

theorem Keeps.bmClr {m : Nat} (h : Keeps s t) : Keeps s (bmClr m t) := .ite h h.startBmClear

theorem Keeps.writeBmClr {m : Nat} (h : Keeps s t) : Keeps s (writeBmClr m t) := .ite h h.startBmClear.set

theorem Keeps.execBmStatClr {m : Fin 12288} (h : Keeps s t) : Performs s (execBmStatClr m t) :=
  .ite (.next h.writeBmClr) (.next h)

theorem Keeps.execAbEdge {r : Fin 128} {ab : Fin 160} {i : AbIn} (h : Keeps s t) :
    Performs s (execAbEdge r ab i t) := .ite (.next h) (.next (.applyIf h.modBm (fun h => h.setBit)))

theorem Keeps.execBmClear {mb r bm : Nat} (h : Keeps s t) : Performs s (execBmClear mb r bm t) :=
  .next (Keeps.talnum h (fun h => Keeps.checks h (fun h => .ite h.startBmClear.ok
    (.ite (Keeps.done (.forEach h (fun h => h.bmClr))) (Keeps.ok (.forEach h (fun h => h.bmClr)))))))

theorem Keeps.execBmGet {mb r first count : Nat} (h : Keeps s t) :
    Performs s (execBmGet mb r first count t) :=
  .next (Keeps.talnum h (fun h => .ite h.fail (.ite h.fail h.ret)))

theorem Keeps.execAbFlags {mb r clear : Nat} (h : Keeps s t) :
    Performs s (execAbFlags mb r clear t) :=
  .next (Keeps.talnum h (fun h => .ite h.fail (Keeps.ret (.applyIf h (fun h => .forEach h (fun h => h.set))))))

/-! ## Operations on the stores -/

theorem Keeps.countPage {k : Nat} {rd : PageRd} (h : Keeps s t) : Keeps s (countPage k rd t) :=
  .applyIf (.applyIf (.applyIf h.free (fun h => h.set.inc)) (fun h => h.set.inc)) (fun h => h.set)

theorem Keeps.writePage {k d : Nat} (h : Keeps s t) : Keeps s (writePage k d t) :=
  h.modBulk (fun _ => sorted_put _ _ _)

theorem Keeps.writeRawPage {k x : Nat} (h : Keeps s t) : Keeps s (writeRawPage k x t) := by
  unfold Machine.writeRawPage
  refine .ite h.writePage (h.modBulk fun _ hp => ?_)
  dsimp only
  split
  exacts [hp, sorted_put _ _ _ hp]

theorem Keeps.partialWrite {k off : Nat} {bytes : List Nat} (h : Keeps s t) :
    Keeps s (partialWrite k off bytes t).2 := by
  unfold Machine.partialWrite
  dsimp only
  split
  exacts [h.countPage, h.countPage.writePage]

theorem Keeps.answerBulk {q : BulkSeq} {ok : Bool} (h : Keeps s t) : Keeps s (answerBulk q ok t) :=
  .forEach h (fun h => .ite h.answerPkt h.answerPkt)

theorem Keeps.breakBulk {k : Nat} (h : Keeps s t) : Keeps s (breakBulk k t) := by
  unfold Machine.breakBulk
  split
  exacts [h, h.modBulk.partialWrite.answerBulk]

theorem Keeps.clearSegment {g : Nat} (h : Keeps s t) : Keeps s (clearSegment g t) :=
  h.modBulk (fun _ => sorted_filter _ _)

theorem Keeps.modBank' {b : Nat} {f : Bank → Bank} (h : Keeps s t) : Keeps s (t.modBank' b f) := h.modCache

theorem Keeps.countRow {b row : Nat} {rd : RowRd} (h : Keeps s t) : Keeps s (countRow b row rd t) :=
  .applyIf (.applyIf (.applyIf h.free (fun h => h.modBank')) (fun h => h.set.inc)) (fun h => h.set.inc)

theorem Keeps.writeCPage {b p : Nat} {rows : List Nat} (h : Keeps s t) : Keeps s (writeCPage b p rows t) := by
  refine .modBank' (h.modCache fun _ hc => ?_)
  dsimp only
  exact sorted_foldl _ _ _ (fun m _ hm => sorted_put m _ _ hm) hc

theorem Keeps.rmwCPage {b p : Nat} {f : List Nat → List Nat} (h : Keeps s t) : Keeps s (rmwCPage b p f t).2 := by
  unfold Machine.rmwCPage
  dsimp only
  split
  exacts [h.free.set.inc, h.free.writeCPage]

theorem Keeps.writeCRow {b row mask v : Nat} (h : Keeps s t) : Keeps s (writeCRow b row mask v t).2 := by
  unfold Machine.writeCRow
  dsimp only
  split
  exacts [h.rmwCPage, .pair (h.modCache (fun _ => sorted_put _ _ _))]

theorem Keeps.writeRawRow {b row : Nat} {lane : Nat → Nat} (h : Keeps s t) : Keeps s (writeRawRow b row lane t) := by
  refine .modBank' (h.modCache fun _ hc => sorted_put _ _ _ ?_)
  split
  exacts [sorted_foldl _ _ _ (fun m _ hm => sorted_put m _ _ hm) hc, hc]

theorem Keeps.clearBank {b : Nat} (h : Keeps s t) :
    Keeps s (clearBank b t) := .modBank' (h.modCache (fun _ => sorted_filter _ _))

theorem Keeps.startBankClear {b : Nat} (h : Keeps s t) : Keeps s (startBankClear b t) := h.set

theorem Keeps.modCm {d : Nat} {f : CMode → CMode} (h : Keeps s t) : Keeps s (t.modCm d f) := h.modCache

theorem Keeps.writeLine {d w st off : Nat} {bytes : List Nat} (h : Keeps s t) :
    Keeps s (writeLine d w st off bytes t) := .forEach h (fun h => .ite h.writeCRow h)

theorem Keeps.touchLine {d w st : Nat} {dirty : Bool} (h : Keeps s t) :
    Keeps s (touchLine d w st dirty t) := h.modCm

theorem Keeps.writeBack {d w st : Nat} (h : Keeps s t) : Keeps s (writeBack d w st t) := by
  unfold Machine.writeBack
  split
  exacts [h.writePage.modCm, h]

theorem Keeps.fillLine {d k : Nat} (h : Keeps s t) : Keeps s (fillLine d k t) := by
  unfold Machine.fillLine
  refine .ite h.breakBulk ?_
  split
  · exact h.breakBulk
  · have h {rd : PageRd} {w : Nat} := (h.breakBulk (k := k)).useFree.writeBack (d := d) (w := w) (st := setOf k)
      |>.countPage (k := k) (rd := rd)
    exact .ite (.writeLine (.modCm (h.modCache (fun _ => sorted_filter _ _))))
      (.modCm (h.modCache (fun _ => sorted_filter _ _)))

theorem Keeps.flushGroup {d : Nat} {inv : Bool} (h : Keeps s t) : Keeps s (flushGroup d inv t).2 :=
  .applyIf (.forEach h (fun h => h.writeBack)) (fun h => h.modCm)

theorem Keeps.agentWrite {k off : Nat} {bytes : List Nat} (h : Keeps s t) : Keeps s (agentWrite k off bytes t).2 := by
  have direct {u : State} (h : Keeps s u) :
      Keeps s (if off = 0 ∧ bytes.length = 2048 then (true, Machine.writePage k (ofLeBytes bytes) u)
        else Machine.partialWrite k off bytes u).2 := by
    split
    exacts [h.writePage, h.partialWrite]
  unfold Machine.agentWrite
  dsimp only
  split
  · exact direct h.breakBulk
  · split
    exacts [.pair (.touchLine (.writeLine (.ite h.breakBulk h.breakBulk.fillLine))),
      direct (.ite h.breakBulk h.breakBulk.fillLine)]

/-! ## The cache -/

theorem Keeps.modPort {r : Nat} {f : CpPort → CpPort} (h : Keeps s t) : Keeps s (t.modPort r f) := h.modCache

theorem Keeps.execCachePortRequest {r : Fin 128} {q : CpReq} (h : Keeps s t) :
    Performs s (execCachePortRequest r q t) := .ite (.next h.modPort) (.next h)

theorem Keeps.execCachePortResponse {r : Fin 128} (h : Keeps s t) : Performs s (execCachePortResponse r t) := by
  refine .ite ?_ (.next h)
  split
  exacts [.next h, .next h.modPort]

theorem Keeps.respondPort {r tag plane stat data : Nat} (h : Keeps s t) :
    Keeps s (respondPort r tag plane stat data t) := h.modPort

theorem Keeps.resetPort {r : Nat} (h : Keeps s t) : Keeps s (resetPort r t) := h.modPort.modCache.startResync

theorem Keeps.answerSeq {b : Nat} {q : PageSeq} {ok : Bool} (h : Keeps s t) : Keeps s (answerSeq b q ok t) :=
  .forEach (.forEach h (fun h => h.respondPort.modPort)) (fun h => .ite h.answerPkt h.answerPkt)

theorem Keeps.breakSeq {b : Nat} (h : Keeps s t) : Keeps s (breakSeq b t) := by
  unfold Machine.breakSeq
  split
  exacts [h, h.modBank'.rmwCPage.answerSeq]

theorem Keeps.dropAcc {b id : Nat} (h : Keeps s t) : Keeps s (dropAcc b id t) := h.modBank'

theorem Keeps.rowWrite {b src row mask v : Nat} (h : Keeps s t) : Keeps s (rowWrite b src row mask v t).2 := by
  have fresh : ∀ {u : State}, Keeps s u →
      Keeps s (if (mask == 2 ^ 128 - 1 && row % 32 == 0) = true then
        (RowOut.waits, u.modBank' b fun k => { k with seq := some ⟨src, row / 32, [v], [], []⟩ })
      else (if (Machine.writeCRow b row mask v u).1 = true then RowOut.done else .refused,
        (Machine.writeCRow b row mask v u).2)).2 := fun h => by
    split
    exacts [.pair h.modBank', h.writeCRow]
  unfold Machine.rowWrite
  dsimp only
  split
  · exact h.writeCRow
  split
  · exact fresh h
  split
  · split
    exacts [h.modBank'.writeCPage.answerSeq, .pair h.modBank']
  · exact fresh h.breakSeq

theorem Keeps.completeHandover {b : Nat} (h : Keeps s t) : Keeps s (completeHandover b t) :=
  .raise (.set (.set (.set (.set (.applyIf h (fun h => h.set))))))

theorem Keeps.commitHandover {b : Nat} (h : Keeps s t) : Keeps s (commitHandover b t) :=
  .ite h.modBank'.set.completeHandover h.modBank'.set

theorem Keeps.spillMark {b w : Nat} (h : Keeps s t) : Keeps s (spillMark b w t) :=
  .ite h.set (.ite h.set.set.set.modBank'.raise h.set.modBank')

theorem Keeps.takePort {r : Nat} {q : CpWait} (h : Keeps s t) : Keeps s (takePort r q t) := h.modPort.dropAcc

theorem Keeps.answerPort {r : Nat} {q : CpWait} {stat data : Nat} (h : Keeps s t) :
    Keeps s (answerPort r q stat data t) := .ite h h.respondPort

theorem Keeps.servePort {b r : Nat} {q : CpWait} (h : Keeps s t) : Keeps s (servePort b r q t) := by
  unfold Machine.servePort
  dsimp only
  split
  · exact h.takePort.countRow.answerPort
  · have hw {mask v : Nat} := h.takePort (r := r) (q := q) |>.rowWrite (b := b) (src := r) (row := q.row)
      (mask := mask) (v := v)
    split
    next e => exact (Keeps.of_snd hw e).answerPort
    next e => exact (Keeps.of_snd hw e).answerPort
    next e =>
      have hw := Keeps.of_snd hw e
      exact .ite hw hw.modBank'.modPort
  · exact h.takePort.spillMark.answerPort
  · exact .ite h.takePort.set.answerPort h.takePort.answerPort.commitHandover

theorem Keeps.setHead {e : Nat} {p : Pkt} (h : Keeps s t) : Keeps s (setHead e p t) := h.modNoc

theorem Keeps.endHead {b e : Nat} {p : Pkt} {waits : Bool} (h : Keeps s t) :
    Keeps s (endHead b e p waits t) := .ite h.popRx.dropAcc.modBank' h.popRx.dropAcc.answerPkt

theorem Keeps.serveNoc {b e : Nat} {p : Pkt} (h : Keeps s t) : Keeps s (serveNoc b e p t) :=
  .ite h.endHead (.ite (.ite h.countRow.endHead h.countRow.setHead) (.ite h.rowWrite.endHead h.rowWrite.setHead))

theorem Keeps.refuseAll {b : Nat} (h : Keeps s t) : Keeps s (refuseAll b t) := by
  refine .forEach (.forEach h (fun h => ?_)) (fun h => ?_)
  · split
    exacts [.answerPort (.takePort (.applyIf h (fun h => h.set))), h]
  · split
    exacts [h.popRx.dropAcc.answerPkt, h]

theorem Keeps.acceptAll {b : Nat} (h : Keeps s t) : Keeps s (acceptAll b t) := .ite h h.modBank'

theorem Keeps.spillRows {b n : Nat} (h : Keeps s t) : Keeps s (spillRows b n t) := by
  unfold Machine.spillRows
  refine .modBank' (.set (.forEach (.foldl Prod.snd h fun h => h.countRow) fun h => h.agentWrite))

theorem Keeps.passCycle {b : Nat} (h : Keeps s t) : Keeps s (passCycle b t) := h.modBank'

theorem Keeps.serveCand {b : Nat} {c : Cand} (h : Keeps s t) : Keeps s (serveCand b c t) := by
  unfold Machine.serveCand
  split
  exacts [h.servePort, h.serveNoc, h.spillRows]

theorem Keeps.serveTwin {b : Nat} {x y : Cand} (h : Keeps s t) : Keeps s (serveTwin b x y t) := by
  unfold Machine.serveTwin
  dsimp only
  refine .ite ?_ h.serveCand.serveCand
  split
  exacts [h.serveCand.set.popRx.dropAcc.answerPkt, h.serveCand.set]

theorem Keeps.execBankCycle {b : Fin 256} (h : Keeps s t) : Performs s (execBankCycle b t) := by
  have hc := (h.passCycle (b := b)).refuseAll (b := b) |>.acceptAll (b := b)
  refine .ite (.next h) (.ite ?_ ?_)
  · split
    exacts [.next hc.serveTwin, .next hc.serveCand, .next hc.serveCand, .next hc]
  · split
    exacts [.next hc.serveCand, .next hc]

theorem Keeps.execFullPageBreak {b : Fin 256} (h : Keeps s t) : Performs s (execFullPageBreak b t) :=
  .ite (.next h.breakSeq) (.next h)

theorem Keeps.startHandover {b : Nat} (h : Keeps s t) : Keeps s (startHandover b t) :=
  .ite h (.ite h.set h.set.modBank')

theorem Keeps.execBankOwnGo {b : Fin 256} (h : Keeps s t) : Performs s (execBankOwnGo b t) :=
  .ite (.next h.startHandover) (.next h)

theorem Keeps.execHandoverCommit {b : Fin 256} (h : Keeps s t) : Performs s (execHandoverCommit b t) :=
  .ite (.next h.commitHandover) (.next h)

theorem Keeps.execHandoverComplete {b : Fin 256} (h : Keeps s t) : Performs s (execHandoverComplete b t) :=
  .ite (.next h.completeHandover) (.next h)

theorem Keeps.execBankClearDone {b : Fin 256} (h : Keeps s t) : Performs s (execBankClearDone b t) :=
  .ite (.next h.breakSeq.set.set.clearBank) (.next h)

theorem Keeps.bankClr {b : Nat} (h : Keeps s t) : Keeps s (bankClr b t) := .ite h h.startBankClear.set

theorem Keeps.execBankStatClr {b : Fin 256} (h : Keeps s t) : Performs s (execBankStatClr b t) :=
  .ite (.next h.bankClr) (.next h)

theorem Keeps.startPower {b to' : Nat} (h : Keeps s t) : Keeps s (startPower b to' t) :=
  .ite h (.applyIf h.set.modBank' (fun h => h.startBankClear))

theorem Keeps.execBankPowerChangeDone {b : Fin 256} (h : Keeps s t) : Performs s (execBankPowerChangeDone b t) := by
  unfold Machine.execBankPowerChangeDone
  split
  exacts [.ite (.next h) (.next (.ite h.set.modBank'.clearBank h.set.modBank')), .next h]

theorem Keeps.resetCacheDie {d : Nat} (h : Keeps s t) : Keeps s (resetCacheDie d t) := by
  refine .forEach (.forEach
    (.forEach h fun {_ u} h => ?_) fun h => h.startResync) fun h => h.startResync.startResync
  extract_lets _ v w x
  have hv : Keeps s v := by
    unfold v
    split
    exacts [.forEach (.forEach h.modBank' fun h => h.respondPort.modPort) fun h => h.answerPkt, h]
  have hw : Keeps s w := .forEach hv fun h => .ite h.takePort.answerPort h
  have hx : Keeps s x := .forEach hw fun h => .ite h.popRx.dropAcc.answerPkt h
  exact .ite hx.modBank'.set.set.set hx

theorem Keeps.offlineBank {b : Nat} (h : Keeps s t) : Keeps s (offlineBank b t) :=
  .ite h.set (.forEach h.set.set.modCm (fun h => h.raise))

theorem Keeps.refreshSpill (h : Keeps s t) : Keeps s (refreshSpill t) := .forEach h (fun h => h.setB)

theorem Keeps.execSpillCopy {b : Fin 256} (h : Keeps s t) : Performs s (execSpillCopy b t) :=
  .ite (.next h) (.ite (.next h.spillRows) (.ite (.next h.passCycle.spillRows) (.next h)))

theorem Keeps.refreshCached (h : Keeps s t) : Keeps s (refreshCached t) := .forEach h (fun h => h.setB)

theorem Keeps.execCacheLineFill {d : Fin 4} {line : Nat} (h : Keeps s t) :
    Performs s (execCacheLineFill d line t) := by
  unfold Machine.execCacheLineFill
  split
  exacts [.next h, .ite (.next h.fillLine) (.next h)]

theorem Keeps.execCacheGet {mb first count : Nat} (h : Keeps s t) :
    Performs s (execCacheGet mb first count t) :=
  .next (Keeps.talnum h (fun h => Keeps.checks h (fun h => h.ret)))

theorem Keeps.execCacheOwn {mb bank owner arm : Nat} (h : Keeps s t) :
    Performs s (execCacheOwn mb bank owner arm t) :=
  .next (Keeps.talnum h (fun h => Keeps.checks h (fun h => Keeps.ok (.ite h.set.set h.set.startHandover))))

theorem Keeps.execCacheCode {mb bank code pageT : Nat} (h : Keeps s t) :
    Performs s (execCacheCode mb bank code pageT t) :=
  .next (Keeps.talnum h (fun h => Keeps.checks h (fun h => h.set.set.startBankClear.ok)))

theorem Keeps.execCacheClear {mb bank : Nat} (h : Keeps s t) : Performs s (execCacheClear mb bank t) :=
  .next (Keeps.talnum h (fun h => Keeps.checks h (fun h => h.startBankClear.ok)))

theorem Keeps.execCachePower {mb bank state : Nat} (h : Keeps s t) :
    Performs s (execCachePower mb bank state t) :=
  .next (Keeps.talnum h (fun h => Keeps.checks h (fun h => h.startPower.ok)))

theorem Keeps.execCacheWin {mb win dev ep acc : Nat} {banks : List Nat} (h : Keeps s t) : Performs s (execCacheWin mb win dev ep acc banks t) :=
  .next (Keeps.talnum h (fun h => Keeps.checks h (fun h => Keeps.ok (.forEach h.set.set (fun h => h.set)))))

theorem Keeps.leaveCmode {d : Nat} (h : Keeps s t) : Keeps s (leaveCmode d t) :=
  .refreshCached (.modCm (.set (.set (.forEach h.flushGroup (fun h => h.set)))))

theorem Keeps.execCacheMode {mb die group seg count : Nat} (h : Keeps s t) :
    Performs s (execCacheMode mb die group seg count t) :=
  .next (Keeps.talnum h (fun h => .ite h.fail (.ite (.ite h.ok (.ite h.fail h.leaveCmode.ok))
    (Keeps.checks h (fun h => Keeps.ok (.refreshCached (.modCm
    (.setB (.set (.set (.set (.set (.forEach h (fun h => h.set.set.startBankClear))))))))))))))

theorem Keeps.execCacheFlush {mb die inv : Nat} (h : Keeps s t) :
    Performs s (execCacheFlush mb die inv t) :=
  .next (Keeps.talnum h (fun h => Keeps.checks h (fun h => h.flushGroup.ret)))

theorem Keeps.execCacheSpill {mb bank base size : Nat} (h : Keeps s t) :
    Performs s (execCacheSpill mb bank base size t) :=
  .next (Keeps.talnum h (fun h => .ite h.done (.ite h.set.modBank'.refreshSpill.ok
    (Keeps.checks h (fun h => h.set.modBank'.refreshSpill.ok)))))

theorem Keeps.execCacheRepair {mb bank : Nat} (h : Keeps s t) : Performs s (execCacheRepair mb bank t) :=
  .next (Keeps.talnum h (fun h => .ite h.done h.ret))

/-! ## The Bulk Store -/

theorem Keeps.bulkWrite {k o dev ep : Nat} {bytes : List Nat} (h : Keeps s t) :
    Keeps s (bulkWrite k o dev ep bytes t).2 := by
  have fresh : ∀ {u : State}, Keeps s u →
      Keeps s (if o = 0 ∧ bytes.length < 2048 ∧ (lookup u.bulk.pages k).isSome = true then
          (RowOut.waits, u.modBulk fun b => { b with seqs := put b.seqs k ⟨dev, ep, k, bytes, []⟩ })
        else if o = 0 ∧ bytes.length = 2048 then (.done, Machine.writePage k (ofLeBytes bytes) u)
        else (if (Machine.partialWrite k o bytes u).1 = true then .done else .refused,
          (Machine.partialWrite k o bytes u).2)).2 := fun h => by
    split
    · exact .pair h.modBulk
    · split
      exacts [h.writePage, h.partialWrite]
  unfold Machine.bulkWrite
  dsimp only
  split
  · exact fresh h
  split
  · split
    exacts [.pair (.answerBulk (.writePage h.modBulk)), .pair h.modBulk]
  · exact fresh h.breakBulk

theorem Keeps.endBulk {k e : Nat} {p : Pkt} {waits : Bool} (h : Keeps s t) :
    Keeps s (endBulk k e p waits t) := by
  unfold Machine.endBulk
  dsimp only
  split
  exacts [h.popRx.modBulk, h.popRx.answerPkt]

theorem Keeps.servePage {e k : Nat} {p : Pkt} (h : Keeps s t) : Keeps s (servePage e k p t) := by
  unfold Machine.servePage
  extract_lets o n next go way
  have hgo {p : Pkt} {w : Bool} {u : State} (h : Keeps s u) : Keeps s (go p w u) := .ite h.endBulk h.setHead
  clear_value go way
  refine .ite h.endBulk (.ite ?_ ?_)
  · cases way
    · exact hgo h.countPage
    · exact hgo (.touchLine (.forEach h fun h => h.countRow))
  · cases way
    · exact hgo h.bulkWrite
    · exact hgo h.writeLine.touchLine

theorem Keeps.passSlot {k : Nat} (h : Keeps s t) : Keeps s (passSlot k t) := h.modBulk

theorem Keeps.execBulkPageAccess {k : Fin 2} (h : Keeps s t) : Performs s (execBulkPageAccess k t) := by
  obtain ⟨refuses, hr⟩ : ∃ f, State.bulkRefuses = f := ⟨_, rfl⟩
  obtain ⟨page, hp⟩ : ∃ f, pageOf = f := ⟨_, rfl⟩
  unfold Machine.execBulkPageAccess
  rw [hr, hp]
  generalize (if t.clocked
    (10 + k.val) && !(t.bulkScrubs k && at' t.bulk.slot k 0 == 15) then t.bulkHeads k else []) = l
  rcases l with _ | ⟨⟨e, p⟩, l⟩
  · exact .next h
  · dsimp only
    split
    · exact .next h.passSlot.popRx.answerPkt
    · split
      exacts [.next h.passSlot.servePage, .next h.passSlot]

theorem Keeps.execBulkFullPageTimeout {k : Fin 2} (h : Keeps s t) : Performs s (execBulkFullPageTimeout k t) := by
  unfold Machine.execBulkFullPageTimeout
  split
  exacts [.next h.breakBulk, .next h]

theorem Keeps.startSegClear {g : Nat} (h : Keeps s t) : Keeps s (startSegClear g t) := h.set

theorem Keeps.breakSegment {g : Nat} (h : Keeps s t) : Keeps s (breakSegment g t) :=
  .forEach h (fun h => h.breakBulk)

theorem Keeps.execSegmentClearDone {g : Fin 48} (h : Keeps s t) : Performs s (execSegmentClearDone g t) :=
  .ite (.next h.breakSegment.set.set.clearSegment) (.next h)

theorem Keeps.writeSegClr {g : Nat} (h : Keeps s t) : Keeps s (writeSegClr g t) := h.startSegClear.set

theorem Keeps.execSegCfgClr {g : Fin 48} (h : Keeps s t) : Performs s (execSegCfgClr g t) :=
  .ite (.next h.writeSegClr) (.next h)

theorem Keeps.setPass {x : Scrub} (h : Keeps s t) : Keeps s (setPass x t) := h.modBulk

theorem Keeps.endPass {x : Scrub} {st : Nat} (h : Keeps s t) : Keeps s (endPass x st t) := h.setPass.raise

theorem Keeps.cutPasses {p : Nat → Bool} (h : Keeps s t) : Keeps s (cutPasses p t) :=
  .forEach h (fun h => h.endPass)

theorem Keeps.scrubOne {target unit : Nat} (h : Keeps s t) : Keeps s (scrubOne target unit t).2 := by
  unfold Machine.scrubOne
  dsimp only
  split
  · split
    · exact h
    · split
      exacts [.ite h.free.writeCPage h.free, .ite h.free.writeCRow h.free]
  · split
    · split
      exacts [h, .ite h.useFree.bmWrite h.useFree]
    · exact .ite h.free.writePage h.free

theorem Keeps.scrubStep {x : Scrub} (h : Keeps s t) : Keeps s (scrubStep x t).2 :=
  .applyIf h.scrubOne (fun h => h.raise)

theorem Keeps.execScrubUnit {k : Fin 7} (h : Keeps s t) : Performs s (execScrubUnit k t) := by
  have hx {x : Scrub} {c : Bool} {k : Nat} := (h.applyIf (c := c) fun h => h.passSlot (k := k)).scrubStep (x := x)
  unfold Machine.execScrubUnit
  split
  · exact .next h
  refine .ite (.next h) ?_
  split
  next e =>
  have h := Keeps.of_snd hx e
  split
  exacts [.next h.setPass, .next h.endPass]

theorem Keeps.bgStep {a : Scrub × State} (h : Keeps s a.2) : Keeps s (bgStep a).2 := by
  unfold Machine.bgStep
  split
  · exact h
  · dsimp only
    split <;> exact h.scrubStep

theorem Keeps.execBgScrubTick {k : Fin 7} (h : Keeps s t) : Performs s (execBgScrubTick k t) :=
  .ite (.next h) (.ite (.next h) (.next (.modBulk (.foldl Prod.snd h fun h => h.bgStep))))

theorem Keeps.writeRawUnit {kind unit : Nat} {bytes : List Nat} (h : Keeps s t) :
    Keeps s (writeRawUnit kind unit bytes t) := by
  unfold Machine.writeRawUnit
  split
  · exact h.writeRawRow
  · exact h.modBm (fun _ => sorted_put _ _ _)
  · split
    exacts [h.writeRawPage, h]

theorem Keeps.setSplitBuf {l : List Nat} (h : Keeps s t) : Keeps s (setSplitBuf l t) :=
  .forEach h (fun h => h.set)

theorem Keeps.splitAccess {kind unit op : Nat} (h : Keeps s t) :
    Keeps s (splitAccess kind unit op t) := .ite h.writeRawUnit h.useFree.setSplitBuf

theorem Keeps.splitRun (h : Keeps s t) : Keeps s (splitRun t) := .ite h.splitAccess h.set

theorem Keeps.execSplitCtlGo (h : Keeps s t) : Performs s (execSplitCtlGo t) := .ite (.next h.splitRun) (.next h)

theorem Keeps.execBulkGet {mb first count : Nat} (h : Keeps s t) :
    Performs s (execBulkGet mb first count t) :=
  .next (Keeps.talnum h (fun h => Keeps.checks h (fun h => h.ret)))

theorem Keeps.execBulkCode {mb seg t₁ acc : Nat} (h : Keeps s t) :
    Performs s (execBulkCode mb seg t₁ acc t) :=
  .next (Keeps.talnum h (fun h => Keeps.checks h (fun h => Keeps.ok
    (.applyIf h.set.set (fun h => h.startSegClear)))))

theorem Keeps.execBulkClear {mb seg : Nat} (h : Keeps s t) : Performs s (execBulkClear mb seg t) :=
  .next (Keeps.talnum h (fun h => Keeps.checks h (fun h => h.startSegClear.ok)))

theorem Keeps.execScrubStart {mb target first last rowFirst : Nat} {rowLast :
    Nat} (h : Keeps s t) : Performs s (execScrubStart mb target first last rowFirst rowLast t) := by
  refine .next (Keeps.talnum h (fun h => ?_))
  dsimp only
  split
  · refine Keeps.checks h (fun h => ?_)
    split
    exacts [h.fail, h.modBulk.ret]
  · refine Keeps.checks h (fun h => ?_)
    split
    exacts [h.fail, h.modBulk.ret]
  · split
    · refine Keeps.checks h (fun h => ?_)
      split
      exacts [h.fail, h.modBulk.ret]
    · exact h.fail
  · exact h.fail

theorem Keeps.execScrubStatus {mb handle clear : Nat} (h : Keeps s t) :
    Performs s (execScrubStatus mb handle clear t) := by
  refine .next (Keeps.talnum h (fun h => .ite h.fail (.ite (Keeps.done (.ite h.modBulk h)) ?_)))
  split
  exacts [h.fail, Keeps.done (.ite h.modBulk h)]

theorem Keeps.execScrubAbort {mb handle : Nat} (h : Keeps s t) : Performs s (execScrubAbort mb handle t) := by
  refine .next (Keeps.talnum h (fun h => ?_))
  split
  exacts [h.fail, .ite h.done h.endPass.done]

theorem Keeps.execScrubBg {mb target rate : Nat} (h : Keeps s t) :
    Performs s (execScrubBg mb target rate t) :=
  .next (Keeps.talnum h (fun h => Keeps.checks h (fun h => h.modBulk.ok)))

theorem Keeps.execSplitGo {mb kind unit op : Nat} {bytes : List Nat} (h : Keeps s t) :
    Performs s (execSplitGo mb kind unit op bytes t) :=
  .next (Keeps.talnumBytes h
    (fun h => Keeps.checks h (fun h => .ite h.setSplitBuf.splitAccess.done h.setSplitBuf.splitAccess.ok)))

theorem Keeps.resetBulk {k : Nat} (h : Keeps s t) : Keeps s (resetBulk k t) := by
  unfold Machine.resetBulk
  exact .cutPasses (.set (.forEach h.modBulk (fun h => .forEach h (fun h => h.answerPkt))))

theorem Keeps.execBankWake {b : Fin 256} (h : Keeps s t) : Performs s (execBankWake b t) :=
  .ite (.next h.set) (.next h)

/-! ## Cells -/

theorem Keeps.ffTake {r : Nat} {e : Option EdgeOf} {i : FabIn} {u : CluIn} {x : CellIn} {b : Nat} (h : Keeps s t) :
    Keeps s (ffTake r e i u x b t) := by
  refine .ite (.applyIf h (fun h => h.useFree)) ?_
  split
  exacts [.setFf (.applyIf h (fun h => h.useFree)), .applyIf h (fun h => h.useFree)]

theorem Keeps.takeFfs {r : Nat} {e : Option EdgeOf} {i : FabIn} (h : Keeps s t) : Keeps s (takeFfs r e i t) :=
  .forEach h (fun h => .forEach h (fun h => h.ffTake.ffTake))

theorem Keeps.recordPillars {r : Nat} {l : List PilIn} (h : Keeps s t) : Keeps s (recordPillars r l t) :=
  h.modFab

theorem Keeps.recordFab {r : Nat} {i : FabIn} (h : Keeps s t) : Keeps s (recordFab r i t) :=
  h.recordOuts.recordPillars

/-! ## The fabric -/

theorem Keeps.shedStep {n : Nat} (h : Keeps s t) : Keeps s (shedStep n t).2 := .pair h.modFab

theorem Keeps.gateStep {n : Nat} (h : Keeps s t) : Keeps s (gateStep n t) :=
  .applyIf (.applyIf h.modFab (fun h => h.set)) (fun h => h.placeDue)

theorem Keeps.ctxEdge {r : Nat} (h : Keeps s t) : Keeps s (ctxEdge r t) :=
  .ite (.refreshBorder (.modCtx (.placeDue (.modCtx (.applyIf h (fun h => h.endSwap))))))
    (.placeDue (.modCtx (.applyIf h (fun h => h.endSwap))))

theorem Keeps.endResetCause {r : Nat} (h : Keeps s t) : Keeps s (endResetCause r t) :=
  .ite h.modCtx.refreshBorder h

theorem Keeps.actEdge {n : Nat} {falling : Bool} {i : FabIn} (h : Keeps s t) : Keeps s (actEdge n falling i t) :=
  h.modFab.takeFfs.recordFab

theorem Keeps.skipEdge {k : Nat} (h : Keeps s t) : Keeps s (skipEdge k t) := h.modFab

theorem Keeps.performEdge {n : Nat} {i : FabIn} (h : Keeps s t) : Keeps s (performEdge n i t) :=
  .ite h (.ite h.modFab (.ite (.applyIf h.modFab (fun h => h.endResetCause))
    (.ite (.skipEdge (.applyIf h.modFab (fun h => h.endResetCause)))
    (.actEdge (.applyIf h.modFab (fun h => h.endResetCause))))))

theorem Keeps.lowNet {n : Nat} (h : Keeps s t) : Keeps s (lowNet n t) := h.modFab

theorem Keeps.risingEdge {n : Nat} {i : FabIn} (h : Keeps s t) : Keeps s (risingEdge n i t) :=
  .ite (.applyIf h.lowNet (fun h => h.modCtx)) (.ite (.gateStep (.applyIf h.lowNet (fun h => h.modCtx)))
    (.ite (.performEdge (.applyIf (.modFab (.set (Keeps.shedStep
    (.gateStep (.applyIf h.lowNet (fun h => h.modCtx)))))) (fun h => h.ctxEdge)))
    (Keeps.shedStep (.gateStep (.applyIf h.lowNet (fun h => h.modCtx))))))

theorem Keeps.fallingEdge {n : Nat} {i : FabIn} (h : Keeps s t) : Keeps s (fallingEdge n i t) :=
  .ite h (.ite h.lowNet (.ite h.lowNet.skipEdge h.lowNet.actEdge))

theorem Keeps.wireEdge {r cluster : Nat} {falling narrow : Bool} {via : Option Nat} {i :
    FabIn} (h : Keeps s t) : Keeps s (wireEdge r cluster falling narrow via i t) := .ite h h.takeFfs.recordFab

theorem Keeps.betweenEdges {r : Nat} {i : FabIn} (h : Keeps s t) : Keeps s (betweenEdges r i t) :=
  .recordFab (.ite h h.takeFfs)

theorem Keeps.seamShift {p : Nat} (h : Keeps s t) : Keeps s (seamShift p t) := by
  refine h.fab (hs := fun hs => sorted_foldl _ _ _ (fun m _ hm => sorted_put m _ _ hm) (sorted_foldl _ _ _ ?_
    (sorted_filter _ _ hs)))
  intro m e hm
  split
  exacts [hm, sorted_put _ _ _ hm]

theorem Keeps.seamEdge {p : Nat} {launch : List (Nat × Bool)} (h : Keeps s t) : Keeps s (seamEdge p launch t) :=
  .ite h (.seamShift (.set (.forEach h (fun h => h.recordOuts))))

theorem Keeps.execFlipFlopEdge {e : FfEdge} (h : Keeps s t) : Performs s (execFlipFlopEdge e t) := by
  unfold Machine.execFlipFlopEdge
  split
  exacts [.ite (.next h) (.next (.ite h.fallingEdge h.risingEdge)), .ite (.next h) (.next h.wireEdge),
    .next h.seamEdge, .ite (.next h) (.next h.betweenEdges)]

theorem Keeps.execClockSwitchComplete {n : Fin 2048} {sel dead : Bool} (h : Keeps s t) :
    Performs s (execClockSwitchComplete n sel dead t) :=
  .ite (.next h) (.next (.applyIf h.modFab.setB (fun h => h.set)))

theorem Keeps.execClockEnableChange {n : Fin 2048} {en : Bool} (h : Keeps s t) :
    Performs s (execClockEnableChange n en t) := .ite (.next h) (.next h.modFab)

theorem Keeps.loseSource {n : Nat} (h : Keeps s t) : Keeps s (loseSource n t) :=
  .ite h h.lowNet.modFab.set.set.raise

theorem Keeps.execFabSourceLost {n : Fin 2048} (h : Keeps s t) : Performs s (execFabSourceLost n t) :=
  .ite (.next h.loseSource) (.next h)

theorem Keeps.execFabSourceReturn {n : Fin 2048} (h : Keeps s t) : Performs s (execFabSourceReturn n t) :=
  .next h.modFab

theorem Keeps.execShedPassUpdate {n : Fin 2048} (h : Keeps s t) : Performs s (execShedPassUpdate n t) :=
  .ite (.next h.set) (.next h)

theorem Keeps.execPillarContention {r : Fin 128} {cluster : Fin 3136} {k : Fin 8} {released : Bool} (h : Keeps s t) : Performs s (execPillarContention r cluster k released t) :=
  .ite (.ite (.next h) (.next h.modFab.setB)) (.ite (.next h) (.next h.modFab.logEss.set.inc.set.set.raise))

theorem Keeps.loseSeam {p : Nat} (h : Keeps s t) : Keeps s (loseSeam p t) := .ite h h.modFab.set.set.raise

theorem Keeps.execSeamClockLost {p : Fin 24} (h : Keeps s t) : Performs s (execSeamClockLost p t) :=
  .ite (.next h.loseSeam) (.next h)

theorem Keeps.loseTree {t₁ : Nat} (h : Keeps s t) : Keeps s (loseTree t₁ t) :=
  .forEach (.forEach h (fun h => .ite h.loseSource h)) (fun h => .ite h.loseSeam h)

theorem Keeps.treeReturns {t₁ : Nat} (h : Keeps s t) : Keeps s (treeReturns t₁ t) := h.modFab

/-! ## Calibration data -/

theorem Keeps.writeCalUnit {kind u : Nat} {b : List Nat} (h : Keeps s t) :
    Keeps s (writeCalUnit kind u b t) := by
  unfold Machine.writeCalUnit
  split
  exacts [h.writeEq.modLane, h.modIo, h.set.set.set.set.writeIdelay, h.modIo,
    .ite h.setSynth.changeSetting h.setSynth]

theorem Keeps.writeCal {l : List CalSec} (h : Keeps s t) : Keeps s (writeCal l t) :=
  .forEach h (fun h => h.writeCalUnit)

theorem Keeps.bootCal (h : Keeps s t) : Keeps s (bootCal t) := by
  unfold Machine.bootCal
  split
  · exact h
  · split
    exacts [h, .ite h.writeCal h]

/-! ## Operations on loads -/

theorem Keeps.modCfg {f : Cfg → Cfg} (h : Keeps s t) : Keeps s (t.modCfg f) := h.cfg

theorem Keeps.modLoad {f : Load → Load} (h : Keeps s t) : Keeps s (t.modLoad f) := h.modCfg

theorem Keeps.setSlot {k : Nat} {x : ImgSlot} (h : Keeps s t) : Keeps s (t.setSlot k x) := h.modCfg

theorem Keeps.takeWords {n : Nat} (h : Keeps s t) : Keeps s (takeWords n t) := by
  unfold Machine.takeWords
  split
  exacts [h, h.modCfg]

theorem Keeps.setCfgState {n : Nat} (h : Keeps s t) : Keeps s (setCfgState n t) := h.set

theorem Keeps.setLast {st : Nat} (h : Keeps s t) : Keeps s (setLast st t) := h.set.modCfg

theorem Keeps.startLoad {l : Load} (h : Keeps s t) : Keeps s (startLoad l t) := by
  unfold Machine.startLoad
  exact h.set.set.setCfgState.modCfg

theorem Keeps.cfgFailed (h : Keeps s t) : Keeps s (cfgFailed t) := h.setCfgState.raise

theorem Keeps.waitPort (h : Keeps s t) : Keeps s (waitPort t) := h.startLoad

theorem Keeps.goldenLoad (h : Keeps s t) : Keeps s (goldenLoad t) :=
  .ite h.modCfg.startLoad h.modCfg.setLast.cfgFailed

theorem Keeps.bootLoad (h : Keeps s t) : Keeps s (bootLoad t) :=
  .ite h.modCfg.startLoad h.modCfg.setLast.raise.goldenLoad

theorem Keeps.afterFailure {l : Load} (h : Keeps s t) : Keeps s (afterFailure l t) := by
  unfold Machine.afterFailure
  split
  exacts [.ite h.raise.goldenLoad h.cfgFailed, h.cfgFailed, h.waitPort]

theorem Keeps.releaseLanding {l : Load} (h : Keeps s t) : Keeps s (releaseLanding l t) :=
  .forEach h (fun h => h.set.startBankClear)

theorem Keeps.refreshClaimed {r : Nat} (h : Keeps s t) : Keeps s (refreshClaimed r t) := h.setB

theorem Keeps.cleanLoad {l : Load} (h : Keeps s t) : Keeps s (cleanLoad l t) := by
  refine .refreshReblock (.releaseLanding (.forEach (.forEach
    (.forEach (.forEach h (fun h => .ite h.emptyPlane h)) (fun h => ?_)) (fun h => .ite h.modCtx h))
    (fun h => h.refreshClaimed)))
  split
  exacts [.ite h h.modCtx, h]

theorem Keeps.endLoadWith {st : Nat} {aborted follow : Bool} (h : Keeps s t) :
    Keeps s (endLoadWith st aborted follow t) := by
  unfold Machine.endLoadWith
  split
  exacts [h, .ite (.afterFailure (.finishCmd (.setCfgState (.setLast
    (.cleanLoad (.modCfg (.applyIf h (fun h => h.modLane))))))))
    (.finishCmd (.setCfgState (.setLast (.cleanLoad (.modCfg (.applyIf h (fun h => h.modLane)))))))]

theorem Keeps.failLoad {st : Nat} (h : Keeps s t) : Keeps s (failLoad st t) := h.endLoadWith

theorem Keeps.authFail {check : Nat} (h : Keeps s t) : Keeps s (authFail check t) := h.inc.raise.failLoad

theorem Keeps.takeCodes {r : Nat} {pl : Plane} {others : List Nat} (h : Keeps s t) :
    Keeps s (takeCodes r pl others t) := .forEach h (fun h => .ite h h.set.set.set.clearBm)

theorem Keeps.copyBmData {x : List Nat} (h : Keeps s t) : Keeps s (copyBmData x t) :=
  .forEach h (fun h => h.bmWrite)

theorem Keeps.copyContents {parked : List (List Nat)} {p : Nat → Bool} (h : Keeps s t) :
    Keeps s (copyContents parked p t) := .forEach h (fun h => h.copyBmData)

theorem Keeps.holdGsr (h : Keeps s t) : Keeps s (holdGsr t) := .eachRegion h.set (fun h => h.initRegion)

/-! ## Configuration loads -/

theorem Keeps.execCfgPortWord {w : BitVec 64} (h : Keeps s t) : Performs s (execCfgPortWord w t) :=
  .ite (.next h) (.ite (.next h.modCfg) (.ite (.next h.set) (.next h.modCfg)))

theorem Keeps.execCfgStreamPacket {p : Pkt} (h : Keeps s t) : Performs s (execCfgStreamPacket p t) := by
  refine .ite (.next h) (.ite (.next h.popRx.answerPkt) ?_)
  split
  exacts [.next h.popRx.logNoc, .ite (.next h.popRx.logNoc) (.ite (.next h.popRx.logNoc) (.next h.popRx.modLoad))]

theorem Keeps.skipPort {n : Nat} (h : Keeps s t) : Keeps s (skipPort n t) := h.modCfg

theorem Keeps.discardPort (h : Keeps s t) : Keeps s (discardPort t) := h.modCfg

theorem Keeps.takePosition {h₁ : List Nat} (h : Keeps s t) : Keeps s (takePosition h₁ t) := .ite h h.set.set

theorem Keeps.sendCfgo {l : List Nat} (h : Keeps s t) : Keeps s (sendCfgo l t) := h.modCfg

theorem Keeps.judgeHeader {l : Load} (h : Keeps s t) : Keeps s (judgeHeader l t) := by
  unfold Machine.judgeHeader
  extract_lets u refuse
  have hu : Keeps s u := h.modLoad
  have hs : Keeps s (Machine.applyIf (l.source == 1) (Machine.skipPort
    (restWords l.hdr)) u) := hu.applyIf fun h => h.skipPort
  refine .ite hs.failLoad (.ite hs.failLoad ?_)
  split
  exacts [.ite hs.authFail hs.failLoad, .ite hs.failLoad (.setCfgState (.modLoad (.forEach hu fun h => h.set)))]

theorem Keeps.loadHeader {l : Load} {h₁ : List Nat} (h : Keeps s t) : Keeps s (loadHeader l h₁ t) := by
  have hp : Keeps s (Machine.applyIf (l.source == 1) (Machine.takePosition h₁) (Machine.takeWords 6 t)) :=
    h.takeWords.applyIf fun h => h.takePosition
  exact .ite (h.takeWords.applyIf fun h => h.discardPort).failLoad (.ite hp.judgeHeader
    (.ite (.ite hp.skipPort hp.modCfg.sendCfgo.set) (.ite hp.modLoad hp.modLoad.sendCfgo.set)))

theorem Keeps.portHeader (h : Keeps s t) : Keeps s (portHeader t) :=
  .ite h.modCfg.setLast.discardPort (.ite h.modCfg.takePosition.skipPort h.modCfg.takePosition.modCfg.sendCfgo.set)

theorem Keeps.execSegmentHeader (h : Keeps s t) : Performs s (execSegmentHeader t) := by
  refine .ite (.next h) ?_
  split
  exacts [.ite (.next h.loadHeader) (.ite (.next h.failLoad) (.ite (.next h.portHeader) (.next h))), .ite
    (.next h.portHeader) (.next h)]

theorem Keeps.execSegmentForward {words : Nat} (h : Keeps s t) : Performs s (execSegmentForward words t) := by
  refine .ite (.next h) (.ite (.next (.applyIf h.sendCfgo.modCfg (fun h => h.set))) ?_)
  split
  exacts [.ite (.next h.set.failLoad) (.ite (.next (.modLoad (.set
    (.modLoad (.takeWords (.applyIf h (fun h => h.sendCfgo)))))))
    (.next (.modLoad (.takeWords (.applyIf h (fun h => h.sendCfgo)))))), .next h]

theorem Keeps.loadingPlane {r p : Nat} (h : Keeps s t) : Keeps s (loadingPlane r p t) :=
  h.emptyPlane.setPlaneState.modLoad.refreshClaimed

theorem Keeps.repairPlane {r p : Nat} (h : Keeps s t) : Keeps s (repairPlane r p t) :=
  h.setPlaneState.modCtx.integ.refreshClaimed

theorem Keeps.failRepair {x : Repair} {st ps : Nat} (h : Keeps s t) : Keeps s (failRepair x st ps t) :=
  .refreshClaimed (.finishCmd (.applyIf (.endUncHold (.modCtx
    (.modPlane (.integ (.forEach h (fun h => h.logEss.raise)))))) (fun h => .ite h.emptyPlane h.setPlaneState)))

theorem Keeps.decideClaim {r p : Nat} {refused : Option Nat} (h : Keeps s t) :
    Keeps s (decideClaim r p refused t) := by
  unfold Machine.decideClaim
  dsimp only
  split
  · split
    exacts [h.modCtx.failRepair, h.modCtx.repairPlane]
  · split
    exacts [h.modCtx.failLoad, h.modCtx.loadingPlane]

theorem Keeps.askClaim {r p : Nat} (h : Keeps s t) : Keeps s (askClaim r p t) :=
  .ite h.decideClaim h.modCtx

theorem Keeps.execHoodClaimGrant {r : Fin 128} {p : Fin 4} {swapTarget : Bool} (h : Keeps s t) :
    Performs s (execHoodClaimGrant r p swapTarget t) := .ite (.next h) (.next h.decideClaim)

theorem Keeps.takePlanes {ks : List Nat} (h : Keeps s t) : Keeps s (takePlanes ks t) := by
  unfold Machine.takePlanes
  split
  · exact h
  · refine .ite (.forEach h (fun h => h.loadingPlane)) (.ite (.ite h.failLoad
      (.refreshReblock (.modLoad (.forEach h (fun h => h.modCtx))))) ?_)
    split
    exacts [h, h.askClaim]

theorem Keeps.holdRecord {x : List Nat} (h : Keeps s t) : Keeps s (holdRecord x t) := by
  unfold Machine.holdRecord
  split
  exacts [h, .ite h.modLoad (.ite h.modLoad (.forEach h.modLoad (fun h => h.modPlane)))]

theorem Keeps.takeBody {n : Nat} (h : Keeps s t) : Keeps s (takeBody n t) := by
  unfold Machine.takeBody
  split
  exacts [h, h.takeWords.modLoad]

theorem Keeps.nextRecord (h : Keeps s t) : Keeps s (nextRecord t) := by
  unfold Machine.nextRecord
  split
  exacts [.ite h.takeBody h, h]

theorem Keeps.execSegmentRecord (h : Keeps s t) : Performs s (execSegmentRecord t) := by
  unfold Machine.execSegmentRecord
  refine .ite (.next h) ?_
  extract_lets u
  have hu : Keeps s u := h.nextRecord
  clear_value u
  split
  · exact .next h
  refine .ite (.ite (.next hu.modLoad) (.ite (.next hu.failLoad) (.next h))) (.ite (.next hu) ?_)
  split
  · exact .next hu.modLoad
  refine .ite (.next hu.modLoad) ?_
  extract_lets v
  have hv : Keeps s v := hu.takeBody
  clear_value v
  split
  · exact .next hv
  · exact .ite (.ite (.next hv.failLoad) (.next hv)) (.ite (.next hv)
      (.ite (.next hv.takePlanes.holdRecord) (.next hv.takePlanes)))

theorem Keeps.execSegmentEnd (h : Keeps s t) : Performs s (execSegmentEnd t) := by
  refine .ite (.next h) ?_
  dsimp only
  split
  exacts [.next h, .ite (.next h) (.ite (.next h.nextRecord.failLoad) (.next h.nextRecord.modLoad.setCfgState))]

theorem Keeps.copyFor {l : Load} {ks : List (Nat × Plane)} (h : Keeps s t) : Keeps s (copyFor l ks t) :=
  .forEach h (fun h => h.copyBmData)

theorem Keeps.commitHoods {l : Load} (h : Keeps s t) : Keeps s (commitHoods l t) :=
  .endLoadWith (.modLoad (.forEach (.copyFor (.forEach h (fun h => h.takeCodes)))
    (fun h => h.modPlane.cancelRepairs.askState.refreshPlanes)))

theorem Keeps.owCommit {r : Nat} (h : Keeps s t) : Keeps s (owCommit r t) :=
  h.beginHold.keepPolicy.set.modCtx.initRegion.refreshBorder.refreshReblock

theorem Keeps.owLeave {r : Nat} (h : Keeps s t) : Keeps s (owLeave r t) := by
  unfold Machine.owLeave
  dsimp only
  split
  exacts [.ite h.modLoad.endLoadWith h.modLoad, h.modLoad]

theorem Keeps.owTake {r : Nat} (h : Keeps s t) : Keeps s (owTake r t) := by
  unfold Machine.owTake
  split
  exacts [.ite h.owCommit h.modCtx.refreshReblock.owLeave, h]

theorem Keeps.authenticated (h : Keeps s t) : Keeps s (authenticated t) := by
  unfold Machine.authenticated
  split
  exacts [h, .ite h.modLoad.setCfgState (.ite h.modLoad.setCfgState.commitHoods
    (.ite h.modLoad.setCfgState.failLoad (.ite (.endLoadWith (.forEach
    (.forEach h.modLoad.setCfgState (fun h => h.modCtx)) (fun h => .ite h h.owTake)))
    (.forEach (.forEach h.modLoad.setCfgState (fun h => h.modCtx)) (fun h => .ite h h.owTake)))))]

theorem Keeps.execSegmentTagCheck (h : Keeps s t) : Performs s (execSegmentTagCheck t) := by
  unfold Machine.execSegmentTagCheck
  refine .ite (.next h) ?_
  split
  · exact .next h
  dsimp only
  have h {n : Nat} := h.takeBody (n := n)
  split
  · exact .next h
  have h' {n m k : Nat} := (h (n := n)).takeWords (n := m) |>.setCfgState (n := k)
  exact .ite (.ite (.next h.failLoad) (.next h)) (.ite (.ite (.next h.failLoad) (.next h))
    (.ite (.next (.refuseTrailer h' (fun h => h.skipPort) fun h => h.authFail))
      (.ite (.next (.refuseTrailer h' (fun h => h.skipPort) fun h => h.failLoad))
      (.ite (.next h'.modLoad) (.next h'.modLoad.authenticated)))))

theorem Keeps.execSignatureVerify (h : Keeps s t) : Performs s (execSignatureVerify t) := by
  refine .ite (.next h) ?_
  split
  exacts [.next h, .ite (.ite (.next h.failLoad) (.next h)) (.ite (.next h.takeWords.authenticated)
    (.next h.takeWords.authFail))]

theorem Keeps.imageWrite {a v : Nat} (h : Keeps s t) : Keeps s (imageWrite a v t) := by
  refine .applyIf (.applyIf (.applyIf ?_ (fun h => h.modCh)) (fun h => h.dropDead)) (fun h => h.modIo)
  split
  exacts [h, .forEach h (fun h => h.set)]

theorem Keeps.applyRecord {x : List Nat} (h : Keeps s t) : Keeps s (applyRecord x t) := by
  unfold Machine.applyRecord
  dsimp only
  split
  exacts [.forEach h (fun h => h.imageWrite.imageWrite), .forEach h (fun h => h.imageWrite), .forEach h
    (fun h => h.modNoc), .ite h h.set.set.set.set.set.set, h]

theorem Keeps.applyClocks {l : Load} (h : Keeps s t) : Keeps s (applyClocks l t) :=
  .forEach h (fun h => .ite h.changeSetting.judgeSetting h)

theorem Keeps.imageDefaults (h : Keeps s t) : Keeps s (imageDefaults t) := by
  unfold Machine.imageDefaults
  exact .modIo (.modNoc (h.regs (sorted_filter _ _)))

theorem Keeps.resetStores (h : Keeps s t) : Keeps s (resetStores t) :=
  .refreshCached (.refreshSpill (.forEach (.forEach (.forEach h
    (fun h => .ite h.set.set.set.set.set.set.breakSeq.set.set.modBank'.clearBank
    h.set.set.set.set.set.set.breakSeq.set.set.modBank')) (fun h => h.set.modCm))
    (fun h => h.set.set.clearSegment)))

theorem Keeps.placePlane {l : Load} {k : Nat} (h : Keeps s t) : Keeps s (placePlane l k t) :=
  .ite h.emptyPlane (.ite h.modPlane.setPlaneState.set.modPlane.takeNets h.modPlane.setPlaneState)

theorem Keeps.endPowerFences (h : Keeps s t) : Keeps s (endPowerFences t) :=
  .therm (.eachRegion h (fun h => .ite h.set.refreshBorder h))

theorem Keeps.startBlocking {resume fill : Bool} (h : Keeps s t) : Keeps s (startBlocking resume fill t) := by
  unfold Machine.startBlocking
  exact h.set.set.set.set.modCfg

theorem Keeps.execLoadCommit (h : Keeps s t) : Performs s (execLoadCommit t) := by
  unfold Machine.execLoadCommit
  split
  exacts [.next h, .ite (.next h) (.next (.bootCal (.commitMode
    (.startBlocking (.endLoadWith (.modCfg (.setB (.set (.modLoad
    (.eachRegion (.forEach (.endPowerFences (.copyFor (.forEach
    (.resetStores (.forEach h.imageDefaults.applyClocks (fun h => h.applyRecord))) (fun h => h.takeCodes))))
    (fun h => h.placePlane)) (fun h => h.refreshPlanes.swapPlume)))))))))))]

theorem Keeps.execLoadTimeout {wordAtEdge : Bool} (h : Keeps s t) : Performs s (execLoadTimeout wordAtEdge t) := by
  refine .ite (.next h) (.ite (.next h.modLoad) ?_)
  dsimp only
  split
  exacts [.next h.modCfg.set.modCfg, .ite (.next h.modCfg.set)
    (.next (.failLoad (.applyIf h.modCfg.set (fun h => h.modCfg))))]

theorem Keeps.execOwReloadCommit {r : Fin 128} (h : Keeps s t) : Performs s (execOwReloadCommit r t) := by
  unfold Machine.execOwReloadCommit
  split
  exacts [.ite (.next h.owTake) (.next h), .next h]

theorem Keeps.execOwCopyDone {r : Fin 128} {landingError : Bool} (h : Keeps s t) :
    Performs s (execOwCopyDone r landingError t) := by
  unfold Machine.execOwCopyDone
  split
  exacts [.next h, .ite (.next h) (.ite (.next h.set.modCtx.modLoad.raise.owLeave)
    (.next h.takeCodes.cancelRepairs.copyFor.modPlane.refreshPlanes.takeNets.setB.modLoad.modCtx.swapPlume))]

theorem Keeps.execOwRegionRelease {r : Fin 128} (h : Keeps s t) : Performs s (execOwRegionRelease r t) := by
  unfold Machine.execOwRegionRelease
  split
  exacts [.next h, .ite (.next h) (.next h.modCtx.releaseNets.refreshBorder.refreshReblock.raise.owLeave)]

/-! ## Operations on modes -/

theorem Keeps.modTherm {f : Therm → Therm} (h : Keeps s t) : Keeps s (t.modTherm f) := h.therm

theorem Keeps.modMgt {f : Mgt → Mgt} (h : Keeps s t) : Keeps s (t.modMgt f) := h.mgt

theorem Keeps.clearWake (h : Keeps s t) : Keeps s (clearWake t) := h.set.modAon

theorem Keeps.quiesce {sleep : Nat} (h : Keeps s t) : Keeps s (quiesce sleep t) :=
  .forEach (.forEach (.forEach h.holdPins.modFab (fun h => h.modBank'.set)) (fun h => h.set))
    (fun h => .ite h.dozeLane.bundleCheckDown h)

theorem Keeps.unquiesce (h : Keeps s t) : Keeps s (unquiesce t) :=
  .releaseDoors (.clearWake (.forEach (.forEach (.forEach h (fun h => h.set.modBank')) (fun h => h.set))
    (fun h => h.exitDoze)))

theorem Keeps.wakeSource (h : Keeps s t) : Keeps s (wakeSource t) := .ite h.modAon h

theorem Keeps.dropWakes (h : Keeps s t) : Keeps s (dropWakes t) :=
  .forEach h.modAon.clearWake (fun h => h.finishCmd)

theorem Keeps.enterSafe {c : Nat} (h : Keeps s t) : Keeps s (enterSafe c t) :=
  .ite h.modAon (.ite h (.ite (.set (.modCfg (.modIo (.modFab
    (.applyIf (.applyIf h.set.modAon.commitMode.dropWakes (fun h => h.unquiesce)) (fun h => h.holdPins))))))
    (.endLoadWith (.set (.modCfg (.modIo (.modFab (.applyIf (.applyIf h.set.modAon.commitMode.dropWakes
    (fun h => h.unquiesce)) (fun h => h.holdPins)))))))))

theorem Keeps.enterStandby (h : Keeps s t) : Keeps s (enterStandby t) := by
  obtain ⟨hp, hi, hf, hw⟩ := h.commitMode (m := mStandby)
  unfold Machine.enterStandby
  refine ⟨hp, hi, hf, fun hs => ?_⟩
  obtain ⟨hr, -, -, -, hfu, -⟩ := State.wf_iff.1 (hw hs)
  exact State.wf_iff.2 ⟨sorted_filter _ _ hr, rfl, rfl, rfl, hfu, rfl, rfl⟩

/-! ## Blocking -/

theorem Keeps.stepGsr (h : Keeps s t) : Keeps s (stepGsr t) := .eachRegion h.set (fun h => h.releaseNets)

theorem Keeps.stepWren (h : Keeps s t) : Keeps s (stepWren t) := h.modFab

theorem Keeps.stepOut {resume : Bool} (h : Keeps s t) : Keeps s (stepOut resume t) :=
  .forEach (.ite (.driveDacs (.modIo (.forEach h (fun h => h.checkVio))))
    (.modIo (.forEach (.driveDacs (.modIo (.forEach h (fun h => h.checkVio)))) (fun h => .ite h h.loadDac))))
    (fun h => .ite h.bringUp h)

theorem Keeps.endBlocking (h : Keeps s t) : Keeps s (endBlocking t) :=
  .ite h.modCfg.integ.modAon.modAon.sendPairId.tryPair h.modCfg.integ.modAon.commitMode

theorem Keeps.runSteps {n i : Nat} (h : Keeps s t) : Keeps s (runSteps n i t) := by
  induction n generalizing i with
  | zero => exact h.endBlocking
  | succ n ih =>
    unfold Machine.runSteps
    refine .ite (ih (i := i + 1)) ?_
    dsimp only
    split
    exacts [h.modCfg.set.setBit.stepGsr, h.modCfg.set.setBit.stepWren, h.modCfg.set.setBit.stepOut]

theorem Keeps.nextStep (h : Keeps s t) : Keeps s (nextStep t) := h.runSteps

theorem Keeps.retrainBootLanes (h : Keeps s t) : Keeps s (retrainBootLanes t) :=
  .ite h (.forEach h (fun h => .applyIf h.setLane.bundleCheckDown (fun h => h.bringUp)))

theorem Keeps.execBlockingLockDone (h : Keeps s t) : Performs s (execBlockingLockDone t) :=
  .ite (.next h) (.next h.setBit.modFab.modCfg.retrainBootLanes)

theorem Keeps.execLockTimeout (h : Keeps s t) : Performs s (execLockTimeout t) :=
  .ite (.next h) (.next h.set.enterSafe)

theorem Keeps.execBlockingDelayEnd (h : Keeps s t) : Performs s (execBlockingDelayEnd t) :=
  .ite (.next h) (.ite (.next h.set.modCfg) (.next h.nextStep))

theorem Keeps.fillBm {v m : Nat} (h : Keeps s t) : Keeps s (fillBm v m t) := by
  refine .ite h (h.modBm fun _ hb => ?_)
  dsimp only
  generalize List.range 1024 = l
  exact sorted_foldl l _ _ (fun m i hm => sorted_putNew hm) hb

theorem Keeps.fillBank {v b : Nat} (h : Keeps s t) : Keeps s (fillBank v b t) := by
  refine .ite h.raise (.ite h (h.modCache fun _ hc => ?_))
  dsimp only
  generalize List.range 16384 = l
  exact sorted_foldl l _ _ (fun m i hm => sorted_putNew hm) hc

theorem Keeps.fillStack {v k : Nat} (h : Keeps s t) : Keeps s (fillStack v k t) := by
  refine .ite h.raise (h.modBulk fun _ hp => ?_)
  dsimp only
  generalize List.range stackPages = l
  exact sorted_foldl l _ _ (fun m i hm => sorted_putNew hm) hp

theorem Keeps.execFeltingFillEnd (h : Keeps s t) : Performs s (execFeltingFillEnd t) :=
  .ite (.next h) (.next (.nextStep (.set (.forEach (.forEach (.forEach h (fun h => h.fillBm))
    (fun h => h.fillBank)) (fun h => h.fillStack)))))

/-! ## Calibration -/

theorem Keeps.storeCal {n : Nat} {b : List Nat} (h : Keeps s t) : Keeps s (storeCal n b t) := h.modMgt

theorem Keeps.exportAns {scope dest num : Nat} (h : Keeps s t) :
    KeepsAns s (t.exportAns scope dest num) := .ite (.ite h.fail h.done) (.ite h.sendWrites.ret h.storeCal.ret)

theorem Keeps.execCalExport {mb scope dest num : Nat} (h : Keeps s t) :
    Performs s (execCalExport mb scope dest num t) :=
  .next (Keeps.talnum h (fun h => Keeps.checks h (fun h => h.exportAns)))

theorem Keeps.importAns {b : List Nat} {force : Nat} (h : Keeps s t) : KeepsAns s (t.importAns b force) := by
  unfold State.importAns
  split
  · exact h.fail
  · exact .ite h.fail (.ite h.fail h.writeCal.ret)

theorem Keeps.execCalImport {mb source num : Nat} {bytes : List Nat} {force : Nat} (h : Keeps s t) : Performs s (execCalImport mb source num bytes force t) := by
  refine .ite (.next (Keeps.talnum h (fun h => Keeps.checks h (fun h => ?_))))
    (.next (Keeps.talnumBytes h (fun h => Keeps.checks h (fun h => h.importAns))))
  split
  exacts [h.fail, h.importAns]

theorem Keeps.execCalList {mb : Nat} (h : Keeps s t) : Performs s (execCalList mb t) :=
  .next (Keeps.talnum h (fun h => h.ret))

theorem Keeps.execCalSave {mb setBoot num : Nat} (h : Keeps s t) :
    Performs s (execCalSave mb setBoot num t) :=
  .next (Keeps.talnum h (fun h => Keeps.checks h (fun h => h.modMgt.ok)))

/-! ## Links -/

theorem Keeps.closeWords (h : Keeps s t) : Keeps s (closeWords t) := .ite h h.modLink

theorem Keeps.execTickMarkerRx {x : Fin 96} {tick : Nat} {hold : Bool} {tcrc' skew : Nat} (h : Keeps s t) :
    Performs s (execTickMarkerRx x tick hold tcrc' skew t) :=
  .ite (.next h) (.ite (.next (.raise (.set (.applyIf (.modTrg
    (.applyIf (.applyIf h.recvBlock (fun h => h.set.modBdl)) (fun h => h.inc))) (fun h => h.modLink)))))
    (.next (.applyIf (.modTrg (.applyIf (.applyIf h.recvBlock (fun h => h.set.modBdl)) (fun h => h.inc)))
    (fun h => h.tryPair))))

theorem Keeps.sendSlot {l slot kind word payload : Nat} (h : Keeps s t) :
    Keeps s (sendSlot l slot kind word payload t) := h.modTrg.sendBlock

theorem Keeps.execTriggerSlotTx {l : Fin 96} {slot : Nat} {td : BitVec 64} {tv : Bool} (h : Keeps s t) :
    Performs s (execTriggerSlotTx l slot td tv t) :=
  .ite (.next h) (.ite (.next h.sendSlot) (.ite (.ite (.next h.sendSlot.closeWords.modLink) (.next h.sendSlot))
    (.next h.sendSlot)))

theorem Keeps.execTriggerSlotRx {x : Fin 96} {slot : Nat} {blk : SlotBlk} (h : Keeps s t) :
    Performs s (execTriggerSlotRx x slot blk t) := by
  refine .ite (.next h) (.ite (.next h.recvBlock.modTrg.modTrg) ?_)
  split
  exacts [.next h.recvBlock.modTrg.modTrg, .next h.recvBlock.modTrg.modTrg, .next h.recvBlock.modTrg.modTrg,
    .next h.recvBlock.modTrg.modTrg]

theorem Keeps.execSafeBlockRx {l : Fin 96} {sender cause : Nat} {active : Bool} (h : Keeps s t) :
    Performs s (execSafeBlockRx l sender cause active t) :=
  .ite (.next h) (.ite (.ite (.next h.setB.modTrg) (.next h.setB.modTrg.modBdl.raise)) (.next h.setB.modTrg.modBdl))

theorem Keeps.returnCredit {f : Nat} {p : Pkt} (h : Keeps s t) : Keeps s (returnCredit f p t) := h.modBdl

theorem Keeps.dupCheck {f : Nat} {p : Pkt} (h : Keeps s t) : Keeps s (dupCheck f p t).2 := by
  unfold Machine.dupCheck
  dsimp only
  split
  · split
    exacts [.pair h.modBdl, .pair h.modBdl]
  · split
    exacts [.pair h.set, .pair h.modBdl]

theorem Keeps.execPktRx {l : Fin 96} {lseqS lseqE : Nat} {p : PktHead} {pcrc : BitVec 32}
    {flits : List (BitVec 256)} {bad : Nat} (h : Keeps s t) :
    Performs s (execPktRx l lseqS lseqE p pcrc flits bad t) := by
  unfold Machine.execPktRx
  extract_lets f b q o u v
  have hu : Keeps s u := h.applyIf fun h => h.addSat
  have hv : Keeps s v := hu.modBdl
  clear_value u v
  exact .ite (.next hu) (.ite (.ite (.next (.returnCredit (.sndIte hv.dupCheck hv)))
    (.next (.modBdl (.sndIte hv.dupCheck hv)))) (.ite (.next hu) (.next hu.modBdl)))

theorem Keeps.blockChannel {f : Nat} (h : Keeps s t) : Keeps s (blockChannel f t) :=
  .raise (.forEach h.set.modBdl.modNoc (fun h => h.refusePkt))

theorem Keeps.startReplay {f : Nat} (h : Keeps s t) : Keeps s (startReplay f t) :=
  .ite h (.ite h.blockChannel h.set.modBdl)

theorem Keeps.execAckRx {l : Fin 96} {next : Nat} {nak : Bool} {credits : List Nat} (h : Keeps s t) :
    Performs s (execAckRx l next nak credits t) :=
  .ite (.next h) (.next (.applyIf (.modBdl (.applyIf h (fun h => h.set))) (fun h => h.startReplay)))

theorem Keeps.execAckTimeout {l : Fin 96} {ackAtEdge : Bool} (h : Keeps s t) :
    Performs s (execAckTimeout l ackAtEdge t) := .ite (.next h) (.ite (.next h.set) (.next h.startReplay))

theorem Keeps.execBundleDownTimeout {l : Fin 96} (h : Keeps s t) : Performs s (execBundleDownTimeout l t) :=
  .ite (.next h) (.next h.blockChannel)

theorem Keeps.execInitRx {l : Fin 96} {epoch dev role : Nat} (h : Keeps s t) :
    Performs s (execInitRx l epoch dev role t) :=
  .ite (.next h) (.ite (.next (.ite h.set.set.modBdl.modLink h.set.set.modBdl))
    (.next (.forEach (.modBdl (.ite h.set.set.modBdl.modLink h.set.set.modBdl)) (fun h => h.refusePkt))))

theorem Keeps.exitBridge {f : Nat} {p : Pkt} (h : Keeps s t) : Keeps s (exitBridge f p t) :=
  .ite h.refusePkt (.ite h.refusePkt h.modNoc)

theorem Keeps.bridgeRoute {f tgt : Nat} {p : Pkt} (h : Keeps s t) : Keeps s (bridgeRoute f tgt p t) := by
  unfold Machine.bridgeRoute
  split
  exacts [h.enterNet, h.refusePkt]

theorem Keeps.execBridgeForward {l : Fin 96} {fromLink : Bool} (h : Keeps s t) :
    Performs s (execBridgeForward l fromLink t) := by
  refine .ite (.next h) (.ite ?_ ?_)
  · split
    exacts [.next h, .next h.popRx.exitBridge]
  · split
    · exact .next h
    have hc {f p g} := (h.modBdl (f := f) (g := g)).returnCredit (f := f) (p := p)
    refine .ite (.next hc.bridgeRoute) (.ite (.ite (.next hc.refusePkt)
      (.next (.forEach hc.bridgeRoute fun h => h.bridgeRoute))) ?_)
    split
    exacts [.ite (.next hc.refusePkt) (.next hc.bridgeRoute), .next hc.refusePkt]

theorem Keeps.sendStream {f : Nat} {blocks : List (Nat × Nat)} (h : Keeps s t) : Keeps s (sendStream f blocks t) :=
  .forEach h (fun h => h.sendBlock.modBdl)

theorem Keeps.execStreamPositionTx {l : Fin 96} (h : Keeps s t) : Performs s (execStreamPositionTx l t) := by
  have hs {f b g} := Performs.next ((h.modBdl (f := f) (g := g)).sendStream (f := f) (blocks := b))
  refine .ite (.next h) ?_
  split
  · exact hs
  refine .ite hs ?_
  split
  · exact hs
  split
  · exact hs
  split
  exacts [hs, .next h.modNoc.modBdl.sendStream, .ite hs hs]

theorem Keeps.dropAlign (h : Keeps s t) : Keeps s (dropAlign t) :=
  .ite h (.forEach h.modLink (fun h => h.finishCmd))

theorem Keeps.choosePlace (h : Keeps s t) : Keeps s (choosePlace t) := by
  unfold Machine.choosePlace
  dsimp only
  split
  exacts [.ite h.set.set.set.set.modLink (.ite h.set.set.set.modLink h.set.set.set.set.modLink),
    .ite h.set.set.set.set.modLink h.set.set.set]

theorem Keeps.elect (h : Keeps s t) : Keeps s (elect t) := h.choosePlace.dropAlign

theorem Keeps.execAnnounceTx (h : Keeps s t) : Performs s (execAnnounceTx t) :=
  .ite (.next h) (.next (.forEach (.applyIf h.modLink (fun h => .forEach h (fun h => h.queueTiming)))
    (fun h => h.modBdl.queueTiming)))

theorem Keeps.adoptMK {l : Nat} {a : Announce} (h : Keeps s t) : Keeps s (adoptMK l a t) :=
  .ite h.modLink.set.set.changeSetting h

theorem Keeps.execAnnounceRx {l : Fin 96} {a : Announce} (h : Keeps s t) : Performs s (execAnnounceRx l a t) :=
  .ite (.next h) (.ite (.ite (.next h.modBdl.raise) (.next h.modBdl))
    (.ite (.next h.modBdl.elect.adoptMK.modLink) (.next h.modBdl.elect.adoptMK)))

theorem Keeps.execParentTimeout (h : Keeps s t) : Performs s (execParentTimeout t) :=
  .ite (.next h) (.ite (.ite (.next h.modBdl.loseMclk) (.next h.modBdl)) (.next h.modBdl.elect))

theorem Keeps.execMeasRx {l : Fin 96} {lMeas fine ownFine : Nat} {valid : Bool} (h : Keeps s t) :
    Performs s (execMeasRx l lMeas fine ownFine valid t) :=
  .ite (.next h) (.ite (.next h.modBdl.set) (.next h.modBdl))

theorem Keeps.endAlign {state status : Nat} {d : ℤ} (h : Keeps s t) : Keeps s (endAlign state status d t) :=
  .forEach (.ite (.forEach h.set.set.modLink (fun h => h.queueTiming)) h.set.set.modLink) (fun h => h.finishCmd)

theorem Keeps.execSyncAlignStep {parentTime : Nat} {delta : ℤ} (h : Keeps s t) :
    Performs s (execSyncAlignStep parentTime delta t) :=
  .ite (.next h) (.ite (.next h) (.ite (.next h.endAlign) (.ite (.next h.endAlign)
    (.next (.forEach (.set (.modLink (.clk (.applyIf h (fun h => h.addLoad)))))
    (fun h => h.set.setLane.modLane))))))

theorem Keeps.execAlignedRx {l : Fin 96} {hops : Nat} {aligned : Bool} (h : Keeps s t) :
    Performs s (execAlignedRx l hops aligned t) :=
  .ite (.next h) (.ite (.next h.modBdl.modLink.set) (.next h.modBdl))

theorem Keeps.execBaseRRxBlock {l : Fin 96} {rd : BitVec 64} {rc : BitVec 8} {hiBer : Bool} (h : Keeps s t) :
    Performs s (execBaseRRxBlock l rd rc hiBer t) := .ite (.next h.modBdl) (.next h)

theorem Keeps.execBaseRTxBlock {l : Fin 96} {td : BitVec 64} {tc : BitVec 8} (h : Keeps s t) :
    Performs s (execBaseRTxBlock l td tc t) := .ite (.next h.modBdl) (.next h)

theorem Keeps.execLinkGet {mb l : Nat} (h : Keeps s t) : Performs s (execLinkGet mb l t) :=
  .next (Keeps.talnum h (fun h => Keeps.checks h (fun h => h.ret)))

theorem Keeps.execDrtSet {mb entry mtch mask bundle valid : Nat} (h : Keeps s t) : Performs s (execDrtSet mb entry mtch mask bundle valid t) :=
  .next (Keeps.talnum h (fun h => Keeps.checks h (fun h => h.set.set.set.set.ok)))

theorem Keeps.execDrtGet {mb first count : Nat} (h : Keeps s t) :
    Performs s (execDrtGet mb first count t) := .next (Keeps.talnum h (fun h => Keeps.checks h (fun h => h.ret)))

theorem Keeps.execLinkIdSet {mb dev : Nat} (h : Keeps s t) : Performs s (execLinkIdSet mb dev t) :=
  .next (Keeps.talnum h (fun h => Keeps.checks h (fun h => h.set.ok)))

theorem Keeps.execSyncRole {mb prio : Nat} (h : Keeps s t) : Performs s (execSyncRole mb prio t) :=
  .next (Keeps.talnum h (fun h => Keeps.checks h (fun h => Keeps.ok (.ite h.set h.set.elect))))

theorem Keeps.execSyncGet {mb : Nat} (h : Keeps s t) : Performs s (execSyncGet mb t) :=
  .next (Keeps.talnum h (fun h => h.ret))

theorem Keeps.execSyncAlign {mb : Nat} (h : Keeps s t) : Performs s (execSyncAlign mb t) :=
  .next (Keeps.talnum h (fun h => Keeps.checks h (fun h => h.modLink.set.runs)))

theorem Keeps.execLinkAsym {mb l : Nat} {ps : ℤ} (h : Keeps s t) : Performs s (execLinkAsym mb l ps t) :=
  .next (Keeps.talnum h (fun h => Keeps.checks h (fun h => h.modBdl.ret)))

/-! ## Twin pairs -/

theorem Keeps.execPairIdRx {id : Nat} (h : Keeps s t) : Performs s (execPairIdRx id t) :=
  .ite (.next h) (.next h.modLink.tryPair)

theorem Keeps.execPairGoRx {tick : Nat} (h : Keeps s t) : Performs s (execPairGoRx tick t) :=
  .ite (.next h.modLink.queueTiming) (.next h)

theorem Keeps.execPairStartTick (h : Keeps s t) : Performs s (execPairStartTick t) :=
  .ite (.next h) (.ite (.next h.modLink) (.next h.modLink.set.set.set.integ.aon.commitMode))

theorem Keeps.execPairingTimeout (h : Keeps s t) : Performs s (execPairingTimeout t) :=
  .ite (.next h) (.next h.aon.set.commitMode)

theorem Keeps.execDigestTx (h : Keeps s t) : Performs s (execDigestTx t) :=
  .ite (.next h) (.next h.closeWords.modLink.modBdl)

theorem Keeps.execDigestRx {tick16 : Nat} {digest : BitVec 32} (h : Keeps s t) :
    Performs s (execDigestRx tick16 digest t) := by
  refine .ite (.next h) ?_
  split
  exacts [.next h, .ite (.next h) (.ite (.ite (.next h.modLink.set.inc.raise.useFree)
    (.next h.modLink.set.inc.raise.useFree.set.enterSafe)) (.next h.modLink.set.inc.raise))]

theorem Keeps.execDigestMissing (h : Keeps s t) : Performs s (execDigestMissing t) :=
  .ite (.next h) (.next h.set.set.set.set.raise.refreshMode.sendPairId)

theorem Keeps.execTwinGet {mb : Nat} (h : Keeps s t) : Performs s (execTwinGet mb t) :=
  .next (Keeps.talnum h (fun h => .ite h.fail h.ret))

theorem Keeps.execTwinPolicy {mb policy timeout : Nat} (h : Keeps s t) :
    Performs s (execTwinPolicy mb policy timeout t) :=
  .next (Keeps.talnum h (fun h => Keeps.checks h (fun h => Keeps.ok (.ite h.set h.set.set))))

/-! ## Synthesizers and crossings -/

theorem Keeps.execSynthLock {d : Fin 25} (h : Keeps s t) : Performs s (execSynthLock d t) :=
  .ite (.next h) (.ite (.next (.sideLocked (.applyIf h.setBit (fun h => h.setSynth))))
    (.ite (.next (.treeReturns (.applyIf h.setBit (fun h => h.setSynth))))
    (.next (.applyIf h.setBit (fun h => h.setSynth)))))

theorem Keeps.execClkSet {mb domain mode mult div : Nat} (h : Keeps s t) :
    Performs s (execClkSet mb domain mode mult div t) :=
  .next (Keeps.talnum h (fun h => Keeps.checks h (fun h => h.changeSetting.ok)))

theorem Keeps.execSynthUnlock {d : Fin 25} (h : Keeps s t) : Performs s (execSynthUnlock d t) :=
  .ite (.next h) (.ite (.next h.setBit.setBit) (.ite (.next h)
    (.ite (.next h.setBit.setBit.raise.sideLost) (.ite (.next h.setBit.setBit.raise.loseTree)
    (.next h.setBit.setBit.raise)))))

theorem Keeps.performEntry {h₁ : Nat} {e : SchedEnt} (h : Keeps s t) : Keeps s (performEntry h₁ e t) := by
  unfold Machine.performEntry
  split
  exacts [h.fireSet, h.wakeSource, h.offerEvent, h.clk, h.loadDac]

theorem Keeps.execSchedEntryFire {h₁ : Fin 256} (h : Keeps s t) : Performs s (execSchedEntryFire h₁ t) :=
  .ite (.next h) (.ite (.ite (.next h.wakeSource.setSched.performEntry) (.next h.wakeSource.missEntry))
    (.ite (.next h.setSched.performEntry) (.next h.missEntry)))

/-! ## Security -/

theorem Keeps.refreshBbk (h : Keeps s t) : Keeps s (refreshBbk t) := h.setB.set

theorem Keeps.lockProtection (h : Keeps s t) : Keeps s (lockProtection t) :=
  h.setB.setB.setB.setB.setB.setB.setB.setB.setB.setB.setB.set.set.setB.refreshBbk.set

theorem Keeps.cutByZeroise (h : Keeps s t) : Keeps s (cutByZeroise t) := by
  unfold Machine.cutByZeroise
  dsimp only
  split
  exacts [.failRepair (.ite h.authFail h), .ite h.authFail h]

theorem Keeps.zeroise (h : Keeps s t) : Keeps s (zeroise t) := by
  unfold Machine.zeroise
  refine .cutByZeroise (.eachRegion (.forEach h.modSec.refreshBbk fun h => h.set) fun h => ?_)
  split
  exacts [.ite h.freeCapture h, h]

theorem Keeps.execTamperAssert {short : Bool} (h : Keeps s t) : Performs s (execTamperAssert short t) :=
  .next (.applyIf (.ite h.set.zeroise.set.raise h.set) (fun h => h.useFree))

theorem Keeps.execTamperNHigh (h : Keeps s t) : Performs s (execTamperNHigh t) := .next h.set

theorem Keeps.execVbatLow {low : Bool} (h : Keeps s t) : Performs s (execVbatLow low t) :=
  .ite (.next h.modSec.setB.modSec.refreshBbk) (.next h.modSec.setB)

theorem Keeps.execSecStatus {mb : Fin 16} (h : Keeps s t) : Performs s (execSecStatus mb t) :=
  .next (Keeps.talnum h (fun h => h.ret))

theorem Keeps.execSecBbkSet {mb : Fin 16} {key check replace : Nat} (h : Keeps s t) :
    Performs s (execSecBbkSet mb key check replace t) :=
  .next (Keeps.talnum h (fun h => Keeps.checks h (fun h => h.modSec.refreshBbk.ok)))

theorem Keeps.execSecZeroise {mb : Fin 16} (h : Keeps s t) : Performs s (execSecZeroise mb t) :=
  .next (Keeps.talnum h (fun h => h.zeroise.ok))

theorem Keeps.execSecFuseProg {mb : Fin 16} {first count data : Nat} {vfuse : Bool} {failed : List Nat} (h : Keeps s t) :
    Performs s (execSecFuseProg mb first count data vfuse failed t) := by
  refine .next (h.talnum fun h => h.checks fun h => ?_)
  have h := h.modSec (f := fun x => { x with fuses := ((((List.range count).filter fun i => data.testBit i).filter
      fun i => !failed.contains (first + i))).foldl (fun m i => put m (first + i) 1) x.fuses })
    (fun _ _ => has_foldl_put _ _ _ _ _) (fun _ => sorted_foldl _ _ _ fun m _ hm => sorted_put m _ _ hm)
  exact .ite h.ret h.done

theorem Keeps.execSecFuseRead {mb : Fin 16} {first count : Nat} (h : Keeps s t) :
    Performs s (execSecFuseRead mb first count t) :=
  .next (Keeps.talnum h (fun h => Keeps.checks h (fun h => h.ret)))

theorem Keeps.execSecPubkeySet {mb : Fin 16} {idx key : Nat} (h : Keeps s t) :
    Performs s (execSecPubkeySet mb idx key t) :=
  .next (Keeps.talnum h (fun h => Keeps.checks h (fun h => h.modSec.ok)))

theorem Keeps.execSecRestrict {mb : Fin 16} {mask minSvn : Nat} (h : Keeps s t) :
    Performs s (execSecRestrict mb mask minSvn t) :=
  .next (Keeps.talnum h (fun h => Keeps.checks h (fun h => Keeps.ret
    (.set (.forEach (.ite (.set (.forEach h (fun h => .ite h.set h))) (.forEach h (fun h => .ite h.set h)))
    (fun h => .ite h.setBit h))))))

theorem Keeps.execSecTamperClr {mb : Fin 16} (h : Keeps s t) : Performs s (execSecTamperClr mb t) :=
  .next (Keeps.talnum h (fun h => Keeps.checks h (fun h => h.set.ret)))

/-! ## The image store -/

theorem Keeps.execImgInfo {mb : Fin 16} {slot verify : Nat} (h : Keeps s t) :
    Performs s (execImgInfo mb slot verify t) :=
  .next (Keeps.talnum h (fun h => Keeps.checks h (fun h => .ite h.ret (.ite h.ret h.ret))))

theorem Keeps.execImgWrite {mb : Fin 16} {slot len : Nat} (h : Keeps s t) :
    Performs s (execImgWrite mb slot len t) :=
  .next (Keeps.talnum h (fun h => Keeps.checks h (fun h => h.setSlot.ok)))

theorem Keeps.putBytes {k off : Nat} {bytes : List Nat} (h : Keeps s t) : KeepsOpt s id (t.putBytes k off bytes) :=
  .ite .none (.some h.setSlot)

theorem Keeps.execImgData {mb : Fin 16} {slot off : Nat} {bytes : List Nat} (h : Keeps s t) :
    Performs s (execImgData mb slot off bytes t) := by
  refine .next (h.talnumBytes fun h => h.checks fun h => ?_)
  split
  · next e => exact (h.putBytes _ e).ok
  · exact h.fail

theorem Keeps.execImgDataPacket {p : Pkt} (h : Keeps s t) : Performs s (execImgDataPacket p t) := by
  refine .ite (.next h) (.ite (.next h.popRx.answerPkt) ?_)
  split
  · exact .next h.popRx.logNoc
  refine .ite (.next h.popRx.logNoc) ?_
  split
  · next e => exact .next (h.popRx.putBytes _ e)
  · exact .next h.popRx.logNoc

theorem Keeps.execImgCommit {mb : Fin 16} {slot : Nat} (h : Keeps s t) : Performs s (execImgCommit mb slot t) :=
  .next (Keeps.talnum h (fun h => Keeps.checks h (fun h => h.setSlot.ret)))

theorem Keeps.execImgBoot {mb : Fin 16} {slot : Nat} (h : Keeps s t) : Performs s (execImgBoot mb slot t) :=
  .next (Keeps.talnum h (fun h => Keeps.checks h (fun h => h.modCfg.ok)))

theorem Keeps.execImgRefresh {mb : Fin 16} {slot : Nat} (h : Keeps s t) : Performs s (execImgRefresh mb slot t) :=
  .next (Keeps.talnum h (fun h => Keeps.checks h (fun h => h.modCfg.ok)))

theorem Keeps.execImageRefreshStart {slot : Fin 5} (h : Keeps s t) : Performs s (execImageRefreshStart slot t) := by
  refine .ite (.next h) ?_
  split
  exacts [.ite (.next h.modCfg) (.next h), .ite (.next h) (.ite (.next h.setSlot.modCfg)
    (.ite (.next h.modCfg) (.next h.modCfg)))]

theorem Keeps.laneForLoad {first : Bool} {l : Nat} (h : Keeps s t) : Keeps s (laneForLoad first l t) :=
  .ite h.modLane h.modLane.applySetting.set.bringUp

theorem Keeps.yieldRepair (h : Keeps s t) : Keeps s (yieldRepair t) := by
  unfold Machine.yieldRepair
  split
  exacts [h, .refreshClaimed (.integ (.applyIf h.modCtx (fun h => h.setPlaneState)))]

theorem Keeps.emptyRegion {r : Nat} (h : Keeps s t) : Keeps s (emptyRegion r t) := by
  refine .refreshBorder (.refreshClaimed (.modCtx (.modFab (.forEach
    (.endRotation (.forEach ?_ (fun h => h.finishCmd))) (fun h => h.emptyPlane)))))
  split
  · refine .finishCmd ?_
    split
    exacts [h.finishCmd, h]
  · split
    exacts [h.finishCmd, h]

theorem Keeps.enterReload {keep : Option Nat} (h : Keeps s t) : Keeps s (enterReload keep t) := by
  unfold Machine.enterReload
  dsimp only
  refine .holdGsr (.modAon (.forEach (.driveDacs (.modIo (.modFab
    (.commitMode (.set (.eachRegion ?_ fun h => ?_))))))
    fun h => .ite h h.setLane.bundleCheckDown))
  · exact h.set.set.set.integ
  · exact h.emptyRegion

theorem Keeps.commandLoad {mb kind source num off ep : Nat} {timeout :
    Nat} (h : Keeps s t) : KeepsAns s (commandLoad mb kind source num off ep timeout t) :=
  .ite (Keeps.done (.ite h.yieldRepair.setLast.afterFailure h.yieldRepair.setLast))
    (Keeps.runs (.startLoad (.applyIf (.applyIf h.yieldRepair (fun h => h.enterReload)) (fun h => h.laneForLoad))))

theorem Keeps.execCfgLoad {mb : Fin 16} {kind source num off ep : Nat} {timeout :
    Nat} (h : Keeps s t) : Performs s (execCfgLoad mb kind source num off ep timeout t) :=
  .next (Keeps.talnum h (fun h => Keeps.checks h (fun h => h.commandLoad)))

theorem Keeps.execCfgStatus {mb : Fin 16} (h : Keeps s t) : Performs s (execCfgStatus mb t) :=
  .next (Keeps.talnum h (fun h => h.ret))

theorem Keeps.execCfgAbort {mb : Fin 16} (h : Keeps s t) : Performs s (execCfgAbort mb t) :=
  .next (Keeps.talnum h (fun h => Keeps.checks h (fun h => h.endLoadWith.ok)))

theorem Keeps.execCfgSource {mb : Fin 16} {r p : Nat} (h : Keeps s t) :
    Performs s (execCfgSource mb r p t) := by
  refine .next (Keeps.talnum h (fun h => Keeps.checks h (fun h => ?_)))
  split
  exacts [h.ret, h.ret]

/-! ## Vertical connections -/

theorem Keeps.modVert {a : Nat} {f : VGroup → VGroup} (h : Keeps s t) : Keeps s (t.modVert a f) := h.modTherm

theorem Keeps.releaseBanks {r : Nat} (h : Keeps s t) : Keeps s (releaseBanks r t) :=
  .forEach h (fun h => .ite (.ite h.set h.set.commitHandover) h)

theorem Keeps.fenceRegion {r : Nat} (h : Keeps s t) : Keeps s (fenceRegion r t) :=
  .releaseBanks (.swapPlume (.refreshBorder (.set (.beginHold (.applyIf h (fun h => h.keepPolicy))))))

theorem Keeps.fenceSeam {p addr : Nat} {border : List Nat} (h : Keeps s t) : Keeps s (fenceSeam p addr border t) := by
  unfold Machine.fenceSeam
  exact .forEach (.raise (.addSat (.set (h.modFab (hs := fun _ => sorted_filter _ _))))) fun h => h.logEss

theorem Keeps.closePort {n o : Nat} (h : Keeps s t) : Keeps s (closePort n o t) := .ite h.modNoc h

theorem Keeps.withdraw {addr : Nat} {c : VertLoad} (h : Keeps s t) : Keeps s (withdraw addr c t) := by
  unfold Machine.withdraw
  split
  exacts [h.fenceRegion, h.modPort.raise, h.offlineBank.raise, h.modCache.raise, h.fenceSeam,
    h.closePort.closePort, h.modFab, h.modFab]

theorem Keeps.fenceGroup {g : VertGroup} (h : Keeps s t) : Keeps s (fenceGroup g t) :=
  .ite h h.modVert.withdraw.logEss.inc.set.set.modTherm.raise

theorem Keeps.failSignal {g : VertGroup} {pos : Nat} (h : Keeps s t) : Keeps s (failSignal g pos t) :=
  .ite h.modVert h.fenceGroup

theorem Keeps.execLinkMonitorVisit {g : VertGroup} {bad : List Nat} (h : Keeps s t) :
    Performs s (execLinkMonitorVisit g bad t) :=
  .ite (.next h) (.next (.forEach h.modVert (fun h => h.failSignal)))

theorem Keeps.execVertRemap {g : VertGroup} {pos : Nat} (h : Keeps s t) : Performs s (execVertRemap g pos t) := by
  unfold Machine.execVertRemap
  dsimp only
  split
  exacts [.next h, .ite (.next h) (.next (.raise (.set (.ite h.modVert.inc.set.set h.modVert.inc.set.test))))]

/-! ## Operations on tests -/

theorem Keeps.modTest {f : Test → Test} (h : Keeps s t) : Keeps s (t.modTest f) := h.test

theorem Keeps.refreshFuses (h : Keeps s t) : Keeps s (refreshFuses t) := h.set.set

theorem Keeps.addSoft {e : RepairEnt} (h : Keeps s t) : Keeps s (addSoft e t).2 := by
  unfold Machine.addSoft
  split
  exacts [h.set, h.modTest.refreshFuses]

theorem Keeps.applyEntry {e : RepairEnt} (h : Keeps s t) : Keeps s (applyEntry e t) := by
  unfold Machine.applyEntry
  dsimp only
  split
  exacts [h.modTest.modBank'.set, h.modTest.set.set.setBit, h.modTest]

theorem Keeps.handleFail {f : FailEntry} (h : Keeps s t) : Keeps s (handleFail f t).2 := by
  unfold Machine.handleFail
  split
  · exact h
  split
  · exact h
  split
  · exact h
  split
  · exact h
  split
  next e =>
  have h := Keeps.of_snd h.addSoft e
  split
  exacts [h.applyEntry.raise, h]

theorem Keeps.handleFails {l : List FailEntry} (h : Keeps s t) : Keeps s (handleFails l t).2 := by
  induction l generalizing t with
  | nil => exact h
  | cons f l ih => exact ih h.handleFail.raise

theorem Keeps.refreshUnrep (h : Keeps s t) : Keeps s (refreshUnrep t) := h.setB.set

theorem Keeps.fenceAddr {a : Nat} (h : Keeps s t) : Keeps s (fenceAddr a t) :=
  .ite h h.modVert.withdraw.inc.set.modTherm

theorem Keeps.withdrawUnit {slice unit : Nat} (h : Keeps s t) : Keeps s (withdrawUnit slice unit t) := by
  unfold Machine.withdrawUnit
  dsimp only
  split
  exacts [h.modTest.fenceAddr, h.modTest.fenceSeam, h.modTest.offlineBank, .ite h.modTest.set.set.setBit.dropDead
    (.forEach h.modTest.setBit (fun h => h.dropDead)), h.modTest]

theorem Keeps.fenceUnit {u : Nat × Nat} (h : Keeps s t) : Keeps s (fenceUnit u t) :=
  .ite h.setSlot h.addSoft.withdrawUnit

theorem Keeps.fenceAll (h : Keeps s t) : Keeps s (fenceAll t).2 :=
  .refreshUnrep (.modTest (.forEach h (fun h => h.fenceUnit)))

theorem Keeps.startSlice {x : TestRun} (h : Keeps s t) : Keeps s (startSlice x t) := h.modTest.set.set.set

theorem Keeps.stopSlices (h : Keeps s t) : Keeps s (stopSlices t) := h.modTest.clear.set.set

theorem Keeps.nextSlice (h : Keeps s t) : Keeps s (nextSlice t) := by
  unfold Machine.nextSlice
  split
  exacts [h.stopSlices.enterStandby.modAon, h.modTest.startSlice]

theorem Keeps.reinitUnit {slice : Nat} {failed : List Nat} {u : Nat} (h : Keeps s t) :
    Keeps s (reinitUnit slice failed u t) := by
  unfold Machine.reinitUnit
  split
  exacts [h.modCtx.refreshClaimed, h.startBmClear, h.startBankClear, .forEach h (fun h => h.startSegClear),
    .ite h h.free.modIo, .applyIf h.setLane (fun h => h.bringUp), h]

theorem Keeps.closeSlice {x : TestRun} {o : SliceOutcome} {late cut : Bool} (h : Keeps s t) :
    Keeps s (closeSlice x o late cut t).2.2 :=
  h.handleFails.modTest.set.setB.setB.set.set.set.raise.refreshUnrep.refreshFuses

theorem Keeps.endSlice {o : SliceOutcome} {late cut : Bool} (h : Keeps s t) :
    Keeps s (endSlice o late cut t) := by
  unfold Machine.endSlice
  split
  exacts [h, .ite h.closeSlice.nextSlice (.finishCmd (.forEach h.closeSlice.stopSlices (fun h => h.reinitUnit)))]

theorem Keeps.cutOutcome {x : TestRun} (h : Keeps s t) : Keeps s (cutOutcome x t).2 := h.free

theorem Keeps.cutSlice (h : Keeps s t) : Keeps s (cutSlice t) := by
  unfold Machine.cutSlice
  split
  · exact h
  · split
    next e => exact (Keeps.of_snd h.cutOutcome e).endSlice

theorem Keeps.cutTest (h : Keeps s t) : Keeps s (cutTest t) := by
  unfold Machine.cutTest
  split
  · exact h
  · split
    next e => exact .stopSlices (.forEach (Keeps.of_snd h.cutOutcome e).closeSlice fun h => h.closeSlice)

theorem Keeps.execSliceEnd {o : SliceOutcome} (h : Keeps s t) : Performs s (execSliceEnd o t) := .next h.endSlice

theorem Keeps.execSliceBudgetExpiry {o : SliceOutcome} (h : Keeps s t) : Performs s (execSliceBudgetExpiry o t) :=
  .next h.endSlice

/-! ## Operations on mailboxes -/

theorem Keeps.sendOut {o : OutMsg} (h : Keeps s t) : Keeps s (sendOut o t) := .ite h.modBdl h.niInject

theorem Keeps.flushSent (h : Keeps s t) : Keeps s (flushSent t) := .forEach h.modMgt (fun h => h.sendOut)

theorem Keeps.writeComp {m : Nat} {c : List Nat} (h : Keeps s t) : Keeps s (writeComp m c t) :=
  .ite (.applyIf h.set.set (fun h => h.send)) h.set.setMbox.set.set

theorem Keeps.freeMbox {m : Nat} (h : Keeps s t) : Keeps s (freeMbox m t) := h.modMbox

theorem Keeps.postFrame {m path a b : Nat} {frame : List Nat} (h : Keeps s t) :
    Keeps s (postFrame m path a b frame t) := h.modMgt.modMbox.set

theorem Keeps.refuseFrame {m path a b tag : Nat} (h : Keeps s t) :
    Keeps s (refuseFrame m path a b tag t) := h.send

theorem Keeps.startEvents {m : Nat} (h : Keeps s t) : Keeps s (startEvents m t) := h.modMbox.setQueue

theorem Keeps.millinerReset {due : Option Nat} (h : Keeps s t) : Keeps s (millinerReset due t) :=
  .flushSent (.modMgt (.aon (.forEach (.forEach h (fun h => .startEvents (.freeMbox (.ite h.writeComp h))))
    (fun h => h.set))))

/-! ## Function resets -/

theorem Keeps.setAct {f : Nat} {b : Bool} (h : Keeps s t) : Keeps s (setAct f b t) := h.setBit

theorem Keeps.holdRegion {r : Nat} (h : Keeps s t) : Keeps s (holdRegion r t) :=
  .refreshBorder (.modCtx (.forEach h.initRegion.resetPort.modNoc.startResync (fun h => h.resyncPort)))

theorem Keeps.releaseRegion {r : Nat} (h : Keeps s t) : Keeps s (releaseRegion r t) := h.modCtx.releaseNets

theorem Keeps.holdCfg (h : Keeps s t) : Keeps s (holdCfg t) := by
  unfold Machine.holdCfg
  extract_lets a u
  have ha : Keeps s a := by
    unfold a
    split
    exacts [h.failRepair, h]
  have hu : Keeps s u := ha.modCfg
  clear_value u
  split
  exacts [hu, .ite hu (.ite (.ite hu.endLoadWith.cfgFailed hu.endLoadWith.modCfg) hu.endLoadWith)]

theorem Keeps.releaseCfg (h : Keeps s t) : Keeps s (releaseCfg t) :=
  .ite (.ite h.modCfg.bootLoad h.modCfg.waitPort) h

theorem Keeps.holdStore (h : Keeps s t) : Keeps s (holdStore t) := by
  unfold Machine.holdStore
  dsimp only
  split
  · refine .ite (.failLoad ?_) ?_
    · split
      exacts [h.failRepair, h]
    · split
      exacts [h.failRepair, h]
  · split
    exacts [h.failRepair, h]

theorem Keeps.hkpInvalid {l : List Nat} (h : Keeps s t) : Keeps s (hkpInvalid l t) := .forEach h (fun h => h.set)

theorem Keeps.holdFunc {f : Nat} (h : Keeps s t) : Keeps s (holdFunc f t) := by
  unfold Machine.holdFunc
  extract_lets _ c u
  have hc : Keeps s c := .applyIf h.modXing fun h => h.cutSlice
  have hu : Keeps s u := .ite hc.setAct hc.modMgt
  clear_value u
  refine .ite hu.holdRegion (.ite hu.quadReset (.ite hu.resetCacheDie (.ite hu.resetBulk.hkpInvalid
    (.ite hu.startMeshReset (.ite (.forEach hu.resetBanks fun h => h.resyncPort) ?_)))))
  split
  exacts [hu.hkpInvalid, hu.holdCfg, hu.holdStore, hu.millinerReset, hu]

theorem Keeps.releaseFunc {f : Nat} (h : Keeps s t) : Keeps s (releaseFunc f t) := by
  refine .ite h.modMgt.setAct.releaseRegion (.ite h.modMgt.setAct.quadRelease
    (.ite h.modMgt.setAct (.ite h.modMgt.setAct.setB (.ite h.modMgt.setAct.endMeshReset ?_))))
  split
  exacts [h.modMgt.setAct.driveDacs, h.modMgt.setAct.integ, h.modMgt.setAct.releaseCfg,
    .ite h.modMgt.setAct h.modMgt.setAct.modMgt, h.modMgt.setAct]

theorem Keeps.setFunc {f : Nat} {b : Bool} (h : Keeps s t) : Keeps s (setFunc f b t) :=
  .ite h (.ite h.setBit.holdFunc h.setBit.releaseFunc)

theorem Keeps.pulseFunc {f : Nat} (h : Keeps s t) : Keeps s (pulseFunc f t) :=
  .setFunc (.ite h.setFunc.modCtx.refreshBorder (.ite h.setFunc.cutMesh h.setFunc))

theorem Keeps.writeRst {i val : Nat} (h : Keeps s t) : Keeps s (writeRst i val t) :=
  .forEach h (fun h => h.setFunc)

theorem Keeps.execRstFuncWrite {i : Fin 8} {val : BitVec 32} (h : Keeps s t) :
    Performs s (execRstFuncWrite i val t) := .ite (.next h.writeRst) (.next h)

theorem Keeps.execFuncResetDrainDone {f : Fin 256} (h : Keeps s t) : Performs s (execFuncResetDrainDone f t) :=
  .ite (.next h.modMgt.setAct) (.next h)

/-! ## Integrity and observation -/

theorem Keeps.modInteg {f : Integ → Integ} (h : Keeps s t) : Keeps s (t.modInteg f) := h.integ

theorem Keeps.checkWord {bad : List Nat} {a : FrameChk × State} {w : Nat} (h : Keeps s a.2) :
    Keeps s (checkWord bad a w).2 := by
  unfold Machine.checkWord
  dsimp only
  split
  · exact h
  · exact h
  · exact h
  · split
    exacts [h.useFree, h.useFree.useFree]

theorem Keeps.readFrame {r p f : Nat} (h : Keeps s t) : Keeps s (readFrame r p f t).2 :=
  .foldl Prod.snd h fun h => h.checkWord

theorem Keeps.queueRepair {k f : Nat} (h : Keeps s t) : Keeps s (queueRepair k f t).2 :=
  .ite h h.modInteg

theorem Keeps.uncAct {r : Nat} (h : Keeps s t) : Keeps s (uncAct r t) := .ite h h.modInteg.setFunc

theorem Keeps.checkFrame {r p f : Nat} (h : Keeps s t) : Keeps s (checkFrame r p f t).2 := by
  unfold Machine.checkFrame
  split
  next e =>
  have h := Keeps.of_snd h.readFrame e
  have hm {c : Bool} {fl a : Nat} {g : Plane → Plane} := (h.modPlane (r := r) (p := p) (f := g)).applyIf (c := c)
    (f := Machine.logEss 8 fl a 0xFFFF 0 0) fun h => h.logEss
  refine .sndIte ?_ (.sndIte hm ?_)
  · refine .sndIte hm.inc.queueRepair (.pair (.applyIf hm.inc.queueRepair.logEss.raise fun h => h.uncAct))
  · dsimp only
    split
    exacts [hm.inc, hm.inc.logEss.raise]

theorem Keeps.upsetFrame {r p f : Nat} {ups : List Nat} (h : Keeps s t) :
    Keeps s (upsetFrame r p f ups t) := h.modPlane

theorem Keeps.checkPaths {r f : Nat} {paths : List (VertGroup × Nat)} (h : Keeps s t) :
    Keeps s (checkPaths r f paths t) := .forEach h.modInteg (fun h => .ite h h.failSignal)

theorem Keeps.stepPounce {r : Nat} (h : Keeps s t) : Keeps s (stepPounce r t) :=
  .ite (.applyIf h.modInteg.set (fun h => h.incWrap)) h.modInteg

theorem Keeps.limitSlot {r : Nat} (h : Keeps s t) : Keeps s (limitSlot r t).2 := by
  unfold Machine.limitSlot
  split
  exacts [h, .pair h.modInteg]

theorem Keeps.execPounceFrameSlot {r : Fin 128} {upsets : List Nat} {paths : List (VertGroup × Nat)} (h : Keeps s t) : Performs s (execPounceFrameSlot r upsets paths t) :=
  .ite (.next h) (.ite (.next h.limitSlot) (.ite (.next h.limitSlot.stepPounce)
    (.next (.stepPounce (.applyIf h.limitSlot.upsetFrame.checkFrame (fun h => h.checkPaths))))))

theorem Keeps.nextRepair (h : Keeps s t) : KeepsOpt s Prod.snd (nextRepair t) := by
  unfold Machine.nextRepair
  split
  · exact .some (.pair h.modInteg)
  · split
    exacts [.none, .some (.pair h.modInteg)]

theorem Keeps.dropRepair {x : Repair} {st ps : Nat} (h : Keeps s t) : Keeps s (dropRepair x st ps t) :=
  h.modInteg.failRepair

theorem Keeps.execRepairLoadStart (h : Keeps s t) : Performs s (execRepairLoadStart t) := by
  refine .ite (.next h) ?_
  split
  · exact .next h
  · next e =>
    have h := h.nextRepair _ e
    exact .ite (.next h.modInteg.dropRepair) (.ite (.next h.modInteg) (.next h.modInteg.askClaim))

theorem Keeps.writeRepair {x : Repair} {src : Plane} (h : Keeps s t) : Keeps s (writeRepair x src t) :=
  h.modPlane

theorem Keeps.endRepair {x : Repair} (h : Keeps s t) : Keeps s (endRepair x t) :=
  .ite (.modInteg (.refreshClaimed (.endUncHold (.forEach (.applyIf h.modInteg.modCtx (fun h => h.setPlaneState))
    (fun h => h.logEss.raise))))) (.finishCmd (.refreshClaimed
    (.endUncHold (.forEach (.applyIf h.modInteg.modCtx (fun h => h.setPlaneState)) (fun h => h.logEss.raise)))))

theorem Keeps.execRepairLoadEnd (h : Keeps s t) : Performs s (execRepairLoadEnd t) := by
  unfold Machine.execRepairLoadEnd
  split
  · exact .next h
  · refine .ite (.next h) ?_
    split
    · exact .next h.dropRepair
    · split
      exacts [.next (.dropRepair (.applyIf h (fun h => h.inc.raise))), .ite (.next h.writeRepair.endRepair)
        (.next h.dropRepair)]

theorem Keeps.execCfgRepair {mb r p frame : Nat} (h : Keeps s t) :
    Performs s (execCfgRepair mb r p frame t) :=
  .next (Keeps.talnum h (fun h => Keeps.checks h (fun h => .ite h.ret h.modInteg.runs)))

theorem Keeps.readFrames {r p first n : Nat} (h : Keeps s t) : Keeps s (readFrames r p first n t).2 :=
  .foldl Prod.snd h fun h => h.checkFrame

theorem Keeps.sendRdbk {x : Rdbk} {l : List Nat} (h : Keeps s t) : Keeps s (sendRdbk x l t) :=
  .ite h.sendCfgo h.sendWrites

theorem Keeps.endRdbk {st : Nat} (h : Keeps s t) : Keeps s (endRdbk st t) := h.modInteg.raise

theorem Keeps.execRdbkEnd (h : Keeps s t) : Performs s (execRdbkEnd t) := by
  unfold Machine.execRdbkEnd
  split
  · exact .next h
  · refine .ite (.next h) (.ite ?_ (.ite (.next h.endRdbk) (.next h.readFrames.sendRdbk.endRdbk)))
    split
    exacts [.next h.endRdbk, .ite (.next h.useFree.sendRdbk.endRdbk) (.next h.sendRdbk.freeCapture.endRdbk)]

theorem Keeps.execRdbkStart {mb kind r p first count : Nat} {path :
    Nat} {addr : Nat} (h : Keeps s t) : Performs s (execRdbkStart mb kind r p first count path addr t) :=
  .next (Keeps.talnum h (fun h => Keeps.checks h (fun h => h.modInteg.ok)))

theorem Keeps.execRdbkAbort {mb : Nat} (h : Keeps s t) : Performs s (execRdbkAbort mb t) := by
  refine .next (Keeps.talnum h (fun h => ?_))
  split
  exacts [h.ret, h.useFree.sendRdbk.modInteg.ret]

theorem Keeps.execPounceSet {mb en mode unc : Nat} (h : Keeps s t) :
    Performs s (execPounceSet mb en mode unc t) :=
  .next (Keeps.talnum h (fun h => Keeps.checks h (fun h => h.set.set.set.ok)))

theorem Keeps.execPounceGet {mb r clear : Nat} (h : Keeps s t) :
    Performs s (execPounceGet mb r clear t) :=
  .next (Keeps.talnum h (fun h => Keeps.checks h (fun h => Keeps.ret (.applyIf h (fun h => h.set.set.set)))))

theorem Keeps.execEssLog {mb first count clear : Nat} (h : Keeps s t) :
    Performs s (execEssLog mb first count clear t) :=
  .next (Keeps.talnum h (fun h => Keeps.checks h (fun h => Keeps.ret (.ite h.modInteg.set h))))

theorem Keeps.selectPlume {k r probe en : Nat} (h : Keeps s t) :
    Keeps s (selectPlume k r probe en t) := h.set.set.set.set

theorem Keeps.writePlume {k v : Nat} (h : Keeps s t) : Keeps s (writePlume k v t) := h.selectPlume

theorem Keeps.execPlumeSelWrite {k : Fin 16} {val : BitVec 32} (h : Keeps s t) :
    Performs s (execPlumeSelWrite k val t) := .ite (.next h.writePlume) (.next h)

theorem Keeps.execPlumeSet {mb pin r probe en : Nat} (h : Keeps s t) :
    Performs s (execPlumeSet mb pin r probe en t) :=
  .next (Keeps.talnum h (fun h => Keeps.checks h (fun h => h.selectPlume.ok)))

theorem Keeps.execPlumeGet {mb : Nat} (h : Keeps s t) : Performs s (execPlumeGet mb t) :=
  .next (Keeps.talnum h (fun h => h.ret))

/-! ## Modes -/

theorem Keeps.sampleStraps (h : Keeps s t) : Keeps s (sampleStraps t) :=
  .set (.set (.setB (.forEach h (fun h => h.set))))

theorem Keeps.bootEntry {e : RepairEnt} (h : Keeps s t) : Keeps s (bootEntry e t) :=
  .ite h.withdrawUnit (.ite h.raise h.applyEntry)

theorem Keeps.applyRepairs (h : Keeps s t) : Keeps s (applyRepairs t) :=
  .refreshUnrep (.refreshFuses (.setB (.forEach h (fun h => h.bootEntry))))

theorem Keeps.refreshLife (h : Keeps s t) : Keeps s (refreshLife t) := h.set

theorem Keeps.loadLife (h : Keeps s t) : Keeps s (loadLife t) := h.modTherm.refreshLife

theorem Keeps.bootLanes (h : Keeps s t) : Keeps s (bootLanes t) :=
  .applyIf (.applyIf h (fun h => h.applySetting.set.setLane)) (fun h => h.applySetting.set.set.bringUp)

theorem Keeps.enterBoot (h : Keeps s t) : Keeps s (enterBoot t) :=
  .bootLanes (.modMgt (.loadLife
    (.holdGsr (.applyIf h.modAon.sampleStraps.commitMode.modLink.applyRepairs.lockProtection.modCfg
    (fun h => h.set.set)))))

theorem Keeps.tryBoot (h : Keeps s t) : Keeps s (tryBoot t) := .ite h.enterBoot h

theorem Keeps.restart (h : Keeps s t) : Keeps s (restart t) := .ite h.enterStandby.tryBoot h

theorem Keeps.execResetNLow {short : Bool} (h : Keeps s t) : Performs s (execResetNLow short t) :=
  .ite (.next (.applyIf h (fun h => h.useFree))) (.ite (.next
    (.enterStandby (.modAon (.applyIf h (fun h => h.useFree)))))
    (.next (.modAon (.applyIf h (fun h => h.useFree)))))

theorem Keeps.execResetNRise (h : Keeps s t) : Performs s (execResetNRise t) :=
  .ite (.next h) (.next h.modAon.tryBoot)

theorem Keeps.execModeSafe {mb : Nat} (h : Keeps s t) : Performs s (execModeSafe mb t) :=
  .next (Keeps.talnum h (fun h => Keeps.checks h (fun h => h.enterSafe.ok)))

theorem Keeps.execModeResume {mb : Nat} (h : Keeps s t) : Performs s (execModeResume mb t) :=
  .next (Keeps.talnum h (fun h => Keeps.checks h (fun h => h.modAon.startBlocking.commitMode.driveDacs.ok)))

theorem Keeps.execDevCtlSafe {key : BitVec 8} (h : Keeps s t) : Performs s (execDevCtlSafe key t) :=
  .ite (.next h.enterSafe) (.next h)

theorem Keeps.execDevCtlRestart {key : BitVec 8} {_alsoSafe : Bool} (h : Keeps s t) :
    Performs s (execDevCtlRestart key _alsoSafe t) := .ite (.next h.restart) (.next h)

theorem Keeps.exitAfter {mb : Nat} {again : Bool} (h : Keeps s t) : KeepsAns s (exitAfter mb again t) :=
  h.modAon.ok

theorem Keeps.leaveDue (h : Keeps s t) : Keeps s (leaveDue t) := by
  unfold Machine.leaveDue
  split
  exacts [h, .ite h (.ite h.restart h.enterStandby)]

theorem Keeps.execModeRestart {mb : Nat} (h : Keeps s t) : Performs s (execModeRestart mb t) :=
  .next (Keeps.talnum h (fun h => h.exitAfter))

theorem Keeps.execModeGet {mb : Nat} (h : Keeps s t) : Performs s (execModeGet mb t) :=
  .next (Keeps.talnum h (fun h => h.ret))

theorem Keeps.execModeQuiesce {mb sleep wakeTick : Nat} (h : Keeps s t) :
    Performs s (execModeQuiesce mb sleep wakeTick t) := by
  refine .next (h.talnum fun h => h.checks fun h => .ite (h.modAon.runs) ?_)
  split
  · exact h.fail
  · next e => exact (h.schedPlace _ e).modAon.runs

theorem Keeps.execQuiescentCommit (h : Keeps s t) : Performs s (execQuiescentCommit t) := by
  unfold Machine.execQuiescentCommit
  split
  exacts [.next h, .ite (.next (.forEach h.modAon.modAon.commitMode.quiesce (fun h => h.commitCmd.finishCmd)))
    (.next (.forEach h.modAon.clearWake (fun h => h.finishCmd)))]

theorem Keeps.execWakeNLow {short : Bool} (h : Keeps s t) : Performs s (execWakeNLow short t) :=
  .ite (.next (.wakeSource (.applyIf h (fun h => h.useFree)))) (.next (.applyIf h (fun h => h.useFree)))

theorem Keeps.writeWake (h : Keeps s t) : Keeps s (writeWake t) := .ite h.set.wakeSource h

theorem Keeps.execDevModeWake (h : Keeps s t) : Performs s (execDevModeWake t) :=
  .ite (.next h.writeWake) (.next h)

theorem Keeps.execModeWake {mb : Nat} (h : Keeps s t) : Performs s (execModeWake mb t) :=
  .next (Keeps.talnum h (fun h => Keeps.checks h (fun h => h.modAon.wakeSource.runs)))

theorem Keeps.execWakeComplete (h : Keeps s t) : Performs s (execWakeComplete t) :=
  .ite (.next h) (.next (.forEach h.unquiesce.modFab.modAon.commitMode (fun h => h.finishCmd)))

theorem Keeps.enterTest (h : Keeps s t) : Keeps s (enterTest t) := by
  unfold Machine.enterTest
  refine .forEach (.modBulk (.modCache (.bm ?_ fun _ => rfl) fun _ _ => rfl) fun _ _ => rfl)
    fun h => .ite h h.setLane.bundleCheckDown
  refine .refreshReblock
    (.holdGsr (.eachRegion (.cutPasses (.applyIf ?_ fun h => h.endRdbk)) fun h => h.emptyRegion))
  have h := (h.applyIf (c := decide (t.mode = mQuiescent)) fun h => h.unquiesce).commitMode (m := mTest)
  split
  exacts [h.dropWakes.modFab.modIo.modCfg.set.modAon.failRepair, h.dropWakes.modFab.modIo.modCfg.set.modAon]

theorem Keeps.writeLife (h : Keeps s t) : Keeps s (writeLife t) := h.modTherm

theorem Keeps.startTest {slices : List Nat} {total : Nat} (h : Keeps s t) : Keeps s (startTest slices total t) :=
  .nextSlice (.modTest (.forEach h.cutSlice.enterTest (fun h => .forEach h (fun h => h.clear))))

theorem Keeps.execModeShutdown {mb test mask budget : Nat} (h : Keeps s t) :
    Performs s (execModeShutdown mb test mask budget t) :=
  .next (Keeps.talnum h (fun h => Keeps.checks h (fun h => .ite h.writeLife.exitAfter h.writeLife.startTest.ok)))

theorem Keeps.execModeBootGo {mb source num : Nat} (h : Keeps s t) :
    Performs s (execModeBootGo mb source num t) :=
  .next (Keeps.talnum h (fun h => Keeps.checks h (fun h => .ite h.modCfg.modAon.commitMode.setLast.cfgFailed.ok
    (Keeps.ok (.startLoad (.applyIf h.modCfg.modAon.commitMode (fun h => h.laneForLoad)))))))

/-! ## Supplies, heat and life -/

theorem Keeps.supplyFail {code : Nat} (h : Keeps s t) : Keeps s (supplyFail code t) :=
  .ite h (.ite (.enterStandby (.ite h.set h)) (.ite h.set h))

theorem Keeps.enterOff (h : Keeps s t) : Keeps s (enterOff t) := by
  have hsec : (if t.sec.vbatGood then t.sec else { t.sec with bbk := none }).fuses =
      (Machine.enterStandby t).sec.fuses := by
    have e : (Machine.enterStandby t).sec = t.sec := commitMode_sec _ _
    rw [e]
    split <;> rfl
  unfold Machine.enterOff
  dsimp only
  exact .set (.set (.aon (.therm (.sec (.regs h.enterStandby (sorted_filter _ _)) (fun k hk => hsec.symm ▸ hk)
    fun hk => hsec.symm ▸ hk))))

theorem Keeps.execVaonPresent {notOff : Nat} (h : Keeps s t) : Performs s (execVaonPresent notOff t) :=
  .ite (.next h) (.ite (.next h.set.set.supplyFail) (.ite (.next h.set.set.supplyFail) (.next h.set.set)))

theorem Keeps.execVaonLost (h : Keeps s t) : Performs s (execVaonLost t) := .ite (.next h) (.next h.enterOff)

theorem Keeps.setRail {r : Nat} {on : Bool} (h : Keeps s t) : Keeps s (setRail r on t) :=
  .ite h.setBit.setBit h.setBit

theorem Keeps.execRailPresent {rail : Fin 14} {notOff : Nat} (h : Keeps s t) :
    Performs s (execRailPresent rail notOff t) := by
  refine .ite (.next h) ?_
  dsimp only
  split
  exacts [.next h.setRail.supplyFail, .next h.setRail.tryBoot]

theorem Keeps.execRailOff {rail : Fin 14} {notOff : Nat} (h : Keeps s t) : Performs s (execRailOff rail notOff t) :=
  .ite (.next h) (.ite (.next h.setRail.supplyFail) (.ite (.next h.setRail.supplyFail) (.next h.setRail)))

theorem Keeps.execSupplyFault {ev : SupplyEv} (h : Keeps s t) : Performs s (execSupplyFault ev t) := by
  refine .ite (.next h) ?_
  split
  exacts [.ite (.next h) (.ite (.next h.setRail.supplyFail) (.next h.setRail)), .ite (.next h.supplyFail)
    (.next h), .ite (.next h.supplyFail) (.next h)]

theorem Keeps.publishRound {rds : List HkpRd} (h : Keeps s t) : Keeps s (publishRound rds t) := by
  refine .forEach h.modIo (fun h => ?_)
  split
  exacts [.ite h.set h.set.set.setB.set, h.set]

theorem Keeps.judgeSensor {c : Nat} (h : Keeps s t) : Keeps s (judgeSensor c t) :=
  .ite h (.ite h.modTherm h.modTherm.set.raise)

theorem Keeps.thermRelief (h : Keeps s t) : Keeps s (thermRelief t) := h.set.set.set.raise.refreshMode

theorem Keeps.thermTrip {sensor : Nat} (h : Keeps s t) : Keeps s (thermTrip sensor t) :=
  .enterSafe (.applyIf h.set.raise (fun h => h.cutTest))

theorem Keeps.judgeThermal (h : Keeps s t) : Keeps s (judgeThermal t) := by
  refine .ite h.set.thermTrip ?_
  split
  exacts [.ite h.set.set.raise h, .ite h.set.raise h, .ite h.thermRelief h.set, .ite h.thermRelief h]

theorem Keeps.takeHeat (h : Keeps s t) : Keeps s (takeHeat t) := by
  unfold Machine.takeHeat
  dsimp only
  split
  exacts [.modTherm (.modTherm (.forEach h (fun h => h.judgeSensor))), .ite
    (.set (.set (.set (.modTherm (.modTherm (.forEach h (fun h => h.judgeSensor)))))))
    (.set (.set (.modTherm (.modTherm (.forEach h (fun h => h.judgeSensor))))))]

theorem Keeps.countLife (h : Keeps s t) : Keeps s (countLife t) :=
  .ite h (.ite h.modTherm.refreshLife.modTherm.raise h.modTherm.refreshLife)

theorem Keeps.ageDie {d : Nat} (h : Keeps s t) : Keeps s (ageDie d t) := by
  refine .ite h ?_
  dsimp only
  split
  exacts [h.modTherm, .ite (.raise (.modTherm (.ite h.modTherm.modTherm.raise h.modTherm)))
    (.ite h.modTherm.modTherm.raise h.modTherm)]

theorem Keeps.bulkHot {k : Nat} (h : Keeps s t) : Keeps s (bulkHot k t) := .ite h.raise h

theorem Keeps.execHkpRoundEnd {rds : List HkpRd} (h : Keeps s t) : Performs s (execHkpRoundEnd rds t) :=
  .ite (.next h) (.next (.judgeThermal (.forEach (.countLife (.forEach h.publishRound.refreshVio.takeHeat
    (fun h => h.bulkHot))) (fun h => h.ageDie))))

theorem Keeps.execGraceExpiry (h : Keeps s t) : Performs s (execGraceExpiry t) :=
  .ite (.next h) (.next h.set.set.set.raise.refreshMode)

theorem Keeps.execSensorRoundMissing (h : Keeps s t) : Performs s (execSensorRoundMissing t) :=
  .ite (.next h) (.next h.set.modTherm.thermTrip)

theorem Keeps.execLifeRecordWrite (h : Keeps s t) : Performs s (execLifeRecordWrite t) :=
  .ite (.next h.writeLife) (.next h)

theorem Keeps.writeThermCfg {v : Nat} (h : Keeps s t) : Keeps s (writeThermCfg v t) := .ite h.writeFields h.set

theorem Keeps.execThermCfgWrite {val : BitVec 32} (h : Keeps s t) : Performs s (execThermCfgWrite val t) :=
  .ite (.next h.writeThermCfg) (.next h)

theorem Keeps.execThermSet {mb limit grace floor : Nat} (h : Keeps s t) :
    Performs s (execThermSet mb limit grace floor t) :=
  .next (Keeps.talnum h (fun h => Keeps.checks h (fun h => h.set.set.set.ok)))

theorem Keeps.execThermGet {mb : Nat} (h : Keeps s t) : Performs s (execThermGet mb t) :=
  .next (Keeps.talnum h (fun h => h.ret))

theorem Keeps.execThermPeakClr {mb : Nat} (h : Keeps s t) : Performs s (execThermPeakClr mb t) :=
  .next (Keeps.talnum h (fun h => h.set.ret))

theorem Keeps.execLifeGet {mb : Nat} (h : Keeps s t) : Performs s (execLifeGet mb t) :=
  .next (Keeps.talnum h (fun h => h.ret))

theorem Keeps.execPwrGet {mb : Nat} (h : Keeps s t) : Performs s (execPwrGet mb t) :=
  .next (Keeps.talnum h (fun h => h.ret))

theorem Keeps.execVertGet {mb first count : Nat} (h : Keeps s t) :
    Performs s (execVertGet mb first count t) :=
  .next (Keeps.talnum h (fun h => Keeps.checks h (fun h => h.ret)))

theorem Keeps.upperUnitOff {q : Nat} (h : Keeps s t) : Keeps s (upperUnitOff q t) := by
  unfold Machine.upperUnitOff
  refine .modTherm (.bm (.forEach ?_ fun h => h.fenceRegion.initRegion.emptyRegion) (sorted_filter _ _))
  split
  · exact .ite h.failLoad h
  · exact h

theorem Keeps.execDiePower {mb q unit off : Nat} (h : Keeps s t) :
    Performs s (execDiePower mb q unit off t) := by
  refine .next (Keeps.talnum h (fun h => Keeps.checks h (fun h => ?_)))
  split
  exacts [h.modTherm.ok, Keeps.ok (.ite h h.upperUnitOff), h.modTherm.ok, .ite h.ok
    (Keeps.ok (.forEach h.modTherm (fun h => h.startPower)))]

/-! ## Self-test -/

theorem Keeps.leaveBoot (h : Keeps s t) : Keeps s (leaveBoot t) := by
  unfold Machine.leaveBoot
  split
  exacts [h.commitMode.bootLoad, h, h.commitMode.waitPort]

theorem Keeps.recordQuick {exec prog : Nat} {fails : List FailEntry} (h : Keeps s t) :
    Keeps s (recordQuick exec prog fails t) :=
  .ite h.handleFails.modTest.setB.set.raise h.handleFails.modTest.setB.set

theorem Keeps.execQuickCheckEnd {exec prog : Nat} {fails : List FailEntry} (h : Keeps s t) :
    Performs s (execQuickCheckEnd exec prog fails t) := by
  unfold Machine.execQuickCheckEnd
  refine .ite (.next h) ?_
  extract_lets _ _ _ a _ b
  have ha : Keeps s a := .forEach h.recordQuick.modAon.raise fun h => .ite h.fenceAddr (.ite h.offlineBank h)
  have hb : Keeps s b := .ite ha.refreshUnrep (.ite ha.fenceAll ha.fenceAll.raise)
  clear_value b
  exact .ite (.next (.forEach hb fun h => h.enterSafe)) (.ite (.next hb.leaveBoot) (.next hb))

theorem Keeps.execTestGet {mb : Nat} (h : Keeps s t) : Performs s (execTestGet mb t) :=
  .next (Keeps.talnum h (fun h => h.ret))

theorem Keeps.execTestResults {mb record first count : Nat} (h : Keeps s t) :
    Performs s (execTestResults mb record first count t) :=
  .next (Keeps.talnum h (fun h => Keeps.checks h (fun h => h.done)))

theorem Keeps.startService {i u budget serial : Nat} (h : Keeps s t) :
    Keeps s (startService i u budget serial t) :=
  .startSlice (.modTest (.applyIf h (fun h => h.modCtx.refreshClaimed)))

theorem Keeps.execTestRun {mb slice unit budget : Nat} (h : Keeps s t) :
    Performs s (execTestRun mb slice unit budget t) :=
  .next (Keeps.talnum h (fun h => Keeps.checks h (fun h => h.startService.runs)))

theorem Keeps.execTestPolicy {mb policy : Nat} (h : Keeps s t) : Performs s (execTestPolicy mb policy t) :=
  .next (Keeps.talnum h (fun h => Keeps.checks h (fun h => h.modTest.refreshUnrep.ok)))

theorem Keeps.execTestFence {mb : Nat} (h : Keeps s t) : Performs s (execTestFence mb t) :=
  .next (Keeps.talnum h (fun h => Keeps.checks h (fun h => h.fenceAll.ret)))

theorem Keeps.execRepairList {mb soft first count : Nat} (h : Keeps s t) :
    Performs s (execRepairList mb soft first count t) :=
  .next (Keeps.talnum h (fun h => Keeps.checks h (fun h => h.ret)))

theorem Keeps.fuseEntry {e : RepairEnt} {fails : Bool} (h : Keeps s t) : Keeps s (fuseEntry e fails t) := by
  unfold Machine.fuseEntry
  split
  exacts [h, .ite h.useFree.modTest h.modTest]

theorem Keeps.fuseLow (h : Keeps s t) : Keeps s (fuseLow t) := .ite h.refreshFuses.raise h.refreshFuses

theorem Keeps.execRepairFuse {mb first count : Nat} {failed : List Nat} {vfuse : Bool} (h : Keeps s t) : Performs s (execRepairFuse mb first count failed vfuse t) :=
  .next (Keeps.talnum h (fun h => Keeps.checks h (fun h => Keeps.ret
    (.fuseLow (.forEach h (fun h => h.fuseEntry))))))

theorem Keeps.execRepairRetire {mb entry : Nat} {vfuse : Bool} (h : Keeps s t) :
    Performs s (execRepairRetire mb entry vfuse t) :=
  .next (Keeps.talnum h (fun h => Keeps.checks h (fun h => h.modTest.fuseLow.ok)))

/-! ## Mailboxes -/

theorem Keeps.cancelWait {n : Nat} {args : List Nat} (h : Keeps s t) : KeepsOpt s id (cancelWait n args t) := by
  unfold Machine.cancelWait
  dsimp only
  split
  · exact .some h.modCtx
  split
  · exact .some h.modCtx
  refine .ite (.some h.endLoadWith) (.ite (.some h.modInteg) ?_)
  split
  · exact .some h.yieldRepair.modInteg
  split
  · exact .some h.modLane
  refine .ite (.some ?_) .none
  split
  · exact .ite h.modAon.clearWake h.modAon.clearWake.setSched
  · exact h.modAon.clearWake

theorem Keeps.cancelCmd {m : Nat} (h : Keeps s t) : Keeps s (cancelCmd m t) := h.modMbox

theorem Keeps.abortMbox {m : Nat} (h : Keeps s t) : Keeps s (abortMbox m t) := by
  unfold Machine.abortMbox
  dsimp only
  split
  · exact h.modMbox
  · refine .ite h (.ite h.cancelCmd ?_)
    split
    · exact .ite h.cancelCmd h
    · refine .ite h.cancelCmd (.ite h ?_)
      split
      · next e => exact (h.cancelWait _ e).cancelCmd
      · exact h
  · exact h

theorem Keeps.requestAbort {m : Nat} (h : Keeps s t) : Keeps s (requestAbort m t) :=
  .ite h (.applyIf h.abortMbox (fun h => h.set))

theorem Keeps.execMbCtlAbort {m : Fin 16} (h : Keeps s t) : Performs s (execMbCtlAbort m t) :=
  .ite (.next h.requestAbort.flushSent) (.next h)

theorem Keeps.goMbox {m path : Nat} (h : Keeps s t) : Keeps s (goMbox m path t) := .ite h.postFrame h.set

theorem Keeps.execMbCtlGo {m : Fin 16} (h : Keeps s t) : Performs s (execMbCtlGo m t) :=
  .ite (.next h.goMbox) (.next h)

theorem Keeps.clearDone {m : Nat} (h : Keeps s t) : Keeps s (clearDone m t) := .ite h.set.set h

theorem Keeps.execMbCtlDoneClear {m : Fin 16} (h : Keeps s t) : Performs s (execMbCtlDoneClear m t) :=
  .ite (.next h.clearDone) (.next h)

theorem Keeps.popEvent {m : Nat} (h : Keeps s t) : Keeps s (popEvent m t) := h.setQueue

theorem Keeps.execMbCtlEvtPop {m : Fin 16} (h : Keeps s t) : Performs s (execMbCtlEvtPop m t) :=
  .ite (.next h.popEvent) (.next h)

theorem Keeps.postMsg {m path a b : Nat} {frame : List Nat} (h : Keeps s t) :
    Keeps s (postMsg m path a b frame t) := .ite h (.ite h.postFrame h.refuseFrame.flushSent)

theorem Keeps.execMgmtFrameRx {l : Fin 96} {bytes : List Nat} (h : Keeps s t) :
    Performs s (execMgmtFrameRx l bytes t) := by
  refine .ite (.next h) (.ite (.next h.inc) (.ite (.next h) ?_))
  split
  exacts [.next h.postMsg, .next h.abortMbox.flushSent, .next h]

theorem Keeps.execMailboxMsgPacket {p : Pkt} (h : Keeps s t) : Performs s (execMailboxMsgPacket p t) :=
  .ite (.next h) (.ite (.next h.popRx.answerPkt) (.ite (.next h.popRx.postMsg)
    (.ite (.next h.popRx.abortMbox.flushSent) (.next h.popRx.logNoc))))

theorem Keeps.takeFrame {m : Nat} (h : Keeps s t) : Keeps s (takeFrame m t) :=
  .ite h.set.setMbox.cancelCmd (.ite h.set.setMbox (.ite h.set.setMbox
    (.setMbox (.applyIf h.set (fun h => h.modMgt)))))

theorem Keeps.execMailboxTake {m : Fin 16} (h : Keeps s t) : Performs s (execMailboxTake m t) :=
  .ite (.next h.takeFrame.flushSent) (.next h)

theorem Keeps.writeResult {m status : Nat} {late : Bool} {result : List Nat} {total : Nat} (h : Keeps s t) : Keeps s (writeResult m status late result total t) :=
  .ite h.writeComp.freeMbox h.writeComp.modMbox

theorem Keeps.completeMbox {m : Nat} {late : Bool} (h : Keeps s t) : Keeps s (completeMbox m late t) := by
  unfold Machine.completeMbox
  dsimp only
  split
  exacts [h.writeComp.modMbox, h.writeResult, h.writeResult, h]

theorem Keeps.execMailboxComplete {m : Fin 16} (h : Keeps s t) : Performs s (execMailboxComplete m t) :=
  .ite (.next h.completeMbox.flushSent.leaveDue) (.next h)

theorem Keeps.timeoutMbox {m : Nat} (h : Keeps s t) : Keeps s (timeoutMbox m t) := by
  refine .ite h.writeComp.freeMbox ?_
  split
  exacts [h.writeComp.freeMbox.raise, h.writeComp.freeMbox.modMgt]

theorem Keeps.execMailboxTimeout {m : Fin 16} {doneAtEdge : Bool} (h : Keeps s t) :
    Performs s (execMailboxTimeout m doneAtEdge t) :=
  .ite (.next h) (.ite (.next h.completeMbox.flushSent.leaveDue) (.next h.timeoutMbox.flushSent.leaveDue))

theorem Keeps.execMillinerStart {cause : Fin 3} (h : Keeps s t) : Performs s (execMillinerStart cause t) := by
  refine .ite (.next h) ?_
  dsimp only
  split
  exacts [.next (.modMgt (.ite h.set.set h.set.inc)), .next (.flushSent
    (.raise (.modMgt (.ite h.set.set h.set.inc))))]

theorem Keeps.safeNow {c : Nat} (h : Keeps s t) : Keeps s (safeNow c t) :=
  .enterSafe (.applyIf h (fun h => h.cutTest))

theorem Keeps.execWatchdogExpiry (h : Keeps s t) : Performs s (execWatchdogExpiry t) :=
  .ite (.next h) (.next h.set.safeNow.millinerReset)

theorem Keeps.execLockstepMismatch (h : Keeps s t) : Performs s (execLockstepMismatch t) :=
  .ite (.next h) (.next h.set.safeNow.millinerReset.modMgt)

/-! ## Identity -/

theorem Keeps.execUnknownCommand {mb : Nat} (h : Keeps s t) : Performs s (execUnknownCommand mb t) :=
  .ite (.next h.setOutcome) (.next h)

theorem Keeps.execIdGet {mb : Nat} (h : Keeps s t) : Performs s (execIdGet mb t) :=
  .next (Keeps.talnum h (fun h => h.ret))

theorem Keeps.execFwInfo {mb : Nat} (h : Keeps s t) : Performs s (execFwInfo mb t) :=
  .next (Keeps.talnum h (fun h => h.ret))

theorem Keeps.execFwWrite {mb copy off : Nat} {bytes : List Nat} (h : Keeps s t) :
    Performs s (execFwWrite mb copy off bytes t) :=
  .next (Keeps.talnumBytes h (fun h => Keeps.checks h (fun h => h.modMgt.ok)))

theorem Keeps.execFwCommit {mb copy : Nat} (h : Keeps s t) : Performs s (execFwCommit mb copy t) :=
  .next (Keeps.talnum h (fun h => Keeps.checks h (fun h => .ite h.ret (.ite h.fail h.modMgt.ret))))

theorem Keeps.setUnlocks {first count : Nat} {b : Bool} (h : Keeps s t) :
    KeepsAns s (setUnlocks first count b t) := Keeps.ret (.forEach h (fun h => h.setBit))

theorem Keeps.execExpertUnlock {mb first count : Nat} (h : Keeps s t) :
    Performs s (execExpertUnlock mb first count t) :=
  .next (Keeps.talnum h (fun h => Keeps.checks h (fun h => h.setUnlocks)))

theorem Keeps.execExpertLock {mb first count : Nat} (h : Keeps s t) :
    Performs s (execExpertLock mb first count t) :=
  .next (Keeps.talnum h (fun h => Keeps.checks h (fun h => h.setUnlocks)))

theorem Keeps.execFuncReset {mb func action : Nat} (h : Keeps s t) :
    Performs s (execFuncReset mb func action t) := by
  refine .next (Keeps.talnum h (fun h => Keeps.checks h (fun h => Keeps.ok ?_)))
  split
  exacts [h.pulseFunc, h.setFunc]

theorem Keeps.execEventCfg {mb box mask : Nat} (h : Keeps s t) :
    Performs s (execEventCfg mb box mask t) :=
  .next (Keeps.talnum h (fun h => Keeps.checks h (fun h => Keeps.ret
    (.ite h.setMbox.set (.setQueue (.forEach h.setMbox.set (fun h => h.send)))))))

theorem Keeps.execMbConfig {mb box timeout : Nat} (h : Keeps s t) :
    Performs s (execMbConfig mb box timeout t) :=
  .next (Keeps.talnum h (fun h => Keeps.checks h (fun h => h.modMbox.ok)))

/-! ## Registers and the bus -/

theorem Keeps.readBus {a : Nat} (h : Keeps s t) : Keeps s (readBus a t).2 := by
  unfold Machine.readBus
  dsimp only
  split
  · exact h
  split
  · exact h.set.set.setB.setB
  split
  · exact h
  split
  · exact h
  split
  · exact h
  split
  exacts [h, h.set]

theorem Keeps.writeMbCtl {m path v : Nat} (h : Keeps s t) : Keeps s (writeMbCtl m path v t) :=
  .flushSent (.applyIf (.applyIf (.applyIf (.writeFields (.applyIf h (fun h => h.requestAbort)))
    (fun h => h.clearDone)) (fun h => h.popEvent)) (fun h => .ite h.goMbox h.set))

theorem Keeps.writeCounted {a v : Nat} {cor unc : Fld × Nat} (h : Keeps s t) :
    Keeps s (writeCounted a v cor unc t) := .applyIf (.applyIf h.writeFields (fun h => h.set)) (fun h => h.set)

theorem Keeps.writeImm {path a v : Nat} (h : Keeps s t) : Keeps s (writeImm path a v t) :=
  .ite (.applyIf h.writeFields (fun h => h.writeWake)) (.ite (.ite h
    (.ite h.restart (.applyIf h (fun h => h.enterSafe)))) (.ite h.writeRst
    (.ite h (.ite h.writeFields (.ite h.writePlume (.ite h.writeMbCtl (.ite h.writeThermCfg h.writeFields)))))))

theorem Keeps.writeLow {a v : Nat} (h : Keeps s t) : Keeps s (writeLow a v t) :=
  .ite (.applyIf h.writeCounted (fun h => h.writeBmClr)) (.ite h.writeSwapTgt
    (.ite h.writeFields (.ite (.applyIf h.writeFields (fun h => h.startHandover))
    (.ite (.applyIf h.writeCounted (fun h => h.bankClr)) (.ite (.applyIf h.writeCounted (fun h => h.writeSegClr))
    (.ite (.applyIf h.writeFields (fun h => h.splitRun)) h.writeFields))))))

theorem Keeps.writeHigh {a v : Nat} (h : Keeps s t) : Keeps s (writeHigh a v t) :=
  .ite h.writeFields (.ite h.writeFields (.ite (.ite h.writeFields h)
    (.ite h.writeFields.modLane (.ite h.writeFields (.ite h.writeFields
    (.ite (.applyIf h.writeFields (fun h => h.rtAccess)) (.ite (.applyIf h.writeFields (fun h => h.startDrain))
    (.ite (.applyIf h (fun h => h.writeFields)) (.ite h.writeTdcCfg
    (.ite (.applyIf h (fun h => h.loadDac)) (.ite (.applyIf h.writeFields
    (fun h => h.modCfg)) h.writeFields)))))))))))

theorem Keeps.writeReg {path a v0 : Nat} (h : Keeps s t) : Keeps s (writeReg path a v0 t) := by
  unfold Machine.writeReg
  split
  exacts [h, .ite h.writeImm (.ite h.writeLow h.writeHigh)]

theorem Keeps.setPosted {l : List (Nat × Nat)} (h : Keeps s t) : Keeps s (setPosted l t) := h.modMgt.setB.set

theorem Keeps.postExpert {a v : Nat} (h : Keeps s t) : Keeps s (postExpert a v t) := by
  unfold Machine.postExpert
  split
  exacts [h.set, .ite h.set h.setPosted]

theorem Keeps.ackXing {f : Nat} (h : Keeps s t) : Keeps s (ackXing f t) := by
  unfold Machine.ackXing
  split
  exacts [h, h.modXing.writeReg]

theorem Keeps.crossWrite {acked : Bool} {path a v : Nat} (h : Keeps s t) :
    Keeps s (crossWrite acked path a v t) := .ite h.ackXing.ackXing.writeReg (.ite h h.modXing)

theorem Keeps.execHandshakeTimeout {f : Nat} {ackAtEdge : Bool} (h : Keeps s t) :
    Performs s (execHandshakeTimeout f ackAtEdge t) :=
  .ite (.next h) (.ite (.next h.ackXing.modXing) (.next h.modXing))

theorem Keeps.execExpertWriteDeliver (h : Keeps s t) : Performs s (execExpertWriteDeliver t) := by
  unfold Machine.execExpertWriteDeliver
  split
  exacts [.next h, .ite (.next h) (.ite (.next h.setPosted) (.ite (.next h.setPosted.crossWrite)
    (.next h.setPosted.set)))]

theorem Keeps.writeBus {acked : Bool} {path a0 v : Nat} (h : Keeps s t) :
    Keeps s (writeBus acked path a0 v t) := .ite h (.ite h.crossWrite (.ite (.ite h.modMbox h) h.postExpert))

theorem Keeps.execRegisterWrite {addr : BitVec 16} {w : RegWrite} (h : Keeps s t) :
    Performs s (execRegisterWrite addr w t) := .ite (.next h.writeBus) (.next h)

theorem Keeps.execExpertWindowWrite {addr : BitVec 16} {val : BitVec 32} (h : Keeps s t) :
    Performs s (execExpertWindowWrite addr val t) := .ite (.next h.postExpert) (.next h)

theorem Keeps.execTapUpdateIr {opcode : BitVec 8} (h : Keeps s t) : Performs s (execTapUpdateIr opcode t) :=
  .next h.modMgt

theorem Keeps.execFcbaccUpdate {dr : BitVec 49} (h : Keeps s t) : Performs s (execFcbaccUpdate dr t) :=
  .ite (.next h) (.ite (.next h.writeBus) (.next h.readBus.modMgt))

end Sys2Proof.Machine
end

section
/-! PROOFS. Every command keeps, and what follows for the block as a whole. -/

namespace Sys2Proof.Machine

/-- Every command, in every state, is performed, and keeps what `Keeps` says. -/
theorem exec_performs (c : Instr) (s : State) : Performs s (exec c s) :=
  have h : Keeps s s := .refl
  match c with
  | .vaonPresent .. => h.execVaonPresent
  | .vaonLost => h.execVaonLost
  | .railPresent .. => h.execRailPresent
  | .supplyFault .. => h.execSupplyFault
  | .railOff .. => h.execRailOff
  | .resetNLow .. => h.execResetNLow
  | .resetNRise => h.execResetNRise
  | .quickCheckEnd .. => h.execQuickCheckEnd
  | .wakeNLow .. => h.execWakeNLow
  | .tamperAssert .. => h.execTamperAssert
  | .vioPresent .. => h.execVioPresent
  | .vioLoss .. => h.execVioLoss
  | .vioRestore .. => h.execVioRestore
  | .quiescentCommit => h.execQuiescentCommit
  | .wakeComplete => h.execWakeComplete
  | .pairingTimeout => h.execPairingTimeout
  | .mclkMeasure .. => h.execMclkMeasure
  | .mclkLoss => h.execMclkLoss
  | .mclkReturn .. => h.execMclkReturn
  | .tickBoundary => h.execTickBoundary
  | .tickLoad => h.execTickLoad
  | .schedEntryFire .. => h.execSchedEntryFire
  | .synthLock .. => h.execSynthLock
  | .synthUnlock .. => h.execSynthUnlock
  | .handshakeTimeout .. => h.execHandshakeTimeout
  | .pointerResyncDone .. => h.execPointerResyncDone
  | .flipFlopEdge .. => h.execFlipFlopEdge
  | .clockSwitchComplete .. => h.execClockSwitchComplete
  | .clockEnableChange .. => h.execClockEnableChange
  | .fabSourceLost .. => h.execFabSourceLost
  | .fabSourceReturn .. => h.execFabSourceReturn
  | .shedPassUpdate .. => h.execShedPassUpdate
  | .pillarContention .. => h.execPillarContention
  | .seamClockLost .. => h.execSeamClockLost
  | .bmPortAccess .. => h.execBmPortAccess
  | .bmClrInput .. => h.execBmClrInput
  | .bmBulkClearDone .. => h.execBmBulkClearDone
  | .abEdge .. => h.execAbEdge
  | .swapEdge .. => h.execSwapEdge
  | .swapCycleEnd .. => h.execSwapCycleEnd
  | .hostSwapTimeout .. => h.execHostSwapTimeout
  | .swapMemberTimeout .. => h.execSwapMemberTimeout
  | .rotationEdge .. => h.execRotationEdge
  | .captureEdge .. => h.execCaptureEdge
  | .hoodClaimGrant .. => h.execHoodClaimGrant
  | .owReloadCommit .. => h.execOwReloadCommit
  | .owCopyDone .. => h.execOwCopyDone
  | .owRegionRelease .. => h.execOwRegionRelease
  | .cachePortRequest .. => h.execCachePortRequest
  | .bankCycle .. => h.execBankCycle
  | .cachePortResponse .. => h.execCachePortResponse
  | .handoverCommit .. => h.execHandoverCommit
  | .handoverComplete .. => h.execHandoverComplete
  | .fullPageBreak .. => h.execFullPageBreak
  | .bankClearDone .. => h.execBankClearDone
  | .bankPowerChangeDone .. => h.execBankPowerChangeDone
  | .bankWake .. => h.execBankWake
  | .spillCopy .. => h.execSpillCopy
  | .cacheLineFill .. => h.execCacheLineFill
  | .bulkPageAccess .. => h.execBulkPageAccess
  | .bulkFullPageTimeout .. => h.execBulkFullPageTimeout
  | .segmentClearDone .. => h.execSegmentClearDone
  | .scrubUnit .. => h.execScrubUnit
  | .bgScrubTick .. => h.execBgScrubTick
  | .tdcEdge .. => h.execTdcEdge
  | .hitArbiter .. => h.execHitArbiter
  | .watermarkEmit .. => h.execWatermarkEmit
  | .hitPortTransfer .. => h.execHitPortTransfer
  | .tdcCalSwitch .. => h.execTdcCalSwitch
  | .tdcCodeDensityDone .. => h.execTdcCodeDensityDone
  | .tdcCalSwitchBack .. => h.execTdcCalSwitchBack
  | .tdcRotationTurn .. => h.execTdcRotationTurn
  | .tpReqPulse .. => h.execTpReqPulse
  | .testPulseFire .. => h.execTestPulseFire
  | .idelayStep .. => h.execIdelayStep
  | .dacLoadApply .. => h.execDacLoadApply
  | .hkpRoundEnd .. => h.execHkpRoundEnd
  | .graceExpiry => h.execGraceExpiry
  | .sensorRoundMissing => h.execSensorRoundMissing
  | .lifeRecordWrite => h.execLifeRecordWrite
  | .linkMonitorVisit .. => h.execLinkMonitorVisit
  | .vertRemap .. => h.execVertRemap
  | .pounceFrameSlot .. => h.execPounceFrameSlot
  | .repairLoadStart => h.execRepairLoadStart
  | .repairLoadEnd => h.execRepairLoadEnd
  | .cfgPortWord .. => h.execCfgPortWord
  | .cfgStreamPacket .. => h.execCfgStreamPacket
  | .segmentHeader => h.execSegmentHeader
  | .segmentForward .. => h.execSegmentForward
  | .segmentRecord => h.execSegmentRecord
  | .segmentEnd => h.execSegmentEnd
  | .segmentTagCheck => h.execSegmentTagCheck
  | .signatureVerify => h.execSignatureVerify
  | .loadCommit => h.execLoadCommit
  | .loadTimeout .. => h.execLoadTimeout
  | .blockingLockDone => h.execBlockingLockDone
  | .lockTimeout => h.execLockTimeout
  | .blockingDelayEnd => h.execBlockingDelayEnd
  | .feltingFillEnd => h.execFeltingFillEnd
  | .imageRefreshStart .. => h.execImageRefreshStart
  | .rdbkEnd => h.execRdbkEnd
  | .npTxPacket .. => h.execNpTxPacket
  | .routerHop .. => h.execRouterHop
  | .wormAge .. => h.execWormAge
  | .nocResponseRx .. => h.execNocResponseRx
  | .txnTimeout .. => h.execTxnTimeout
  | .npRxStall .. => h.execNpRxStall
  | .doorPacketArrival .. => h.execDoorPacketArrival
  | .routerDrainEnd .. => h.execRouterDrainEnd
  | .routerDrainTimeout .. => h.execRouterDrainTimeout
  | .meshResetDrainEnd .. => h.execMeshResetDrainEnd
  | .laneSignalDetect .. => h.execLaneSignalDetect
  | .blockLock .. => h.execBlockLock
  | .trainingBlockRx .. => h.execTrainingBlockRx
  | .tapRequestTimeout .. => h.execTapRequestTimeout
  | .trainDone .. => h.execTrainDone
  | .bitSlip .. => h.execBitSlip
  | .alignMeasureDone .. => h.execAlignMeasureDone
  | .laneEnterUp .. => h.execLaneEnterUp
  | .bringupTimeout .. => h.execBringupTimeout
  | .laneDownEvent .. => h.execLaneDownEvent
  | .rxBufferFillCheck .. => h.execRxBufferFillCheck
  | .elasticAdjust .. => h.execElasticAdjust
  | .adaptFreeze .. => h.execAdaptFreeze
  | .laneNoticeRx .. => h.execLaneNoticeRx
  | .laneSignalWake .. => h.execLaneSignalWake
  | .laneDozeExitDone .. => h.execLaneDozeExitDone
  | .prbsCheck .. => h.execPrbsCheck
  | .slicerCalTurn .. => h.execSlicerCalTurn
  | .eyeScanEnd .. => h.execEyeScanEnd
  | .tickMarkerRx .. => h.execTickMarkerRx
  | .triggerSlotTx .. => h.execTriggerSlotTx
  | .triggerSlotRx .. => h.execTriggerSlotRx
  | .safeBlockRx .. => h.execSafeBlockRx
  | .pktRx .. => h.execPktRx
  | .ackRx .. => h.execAckRx
  | .ackTimeout .. => h.execAckTimeout
  | .bundleDownTimeout .. => h.execBundleDownTimeout
  | .initRx .. => h.execInitRx
  | .bridgeForward .. => h.execBridgeForward
  | .announceTx => h.execAnnounceTx
  | .announceRx .. => h.execAnnounceRx
  | .parentTimeout => h.execParentTimeout
  | .measRx .. => h.execMeasRx
  | .syncAlignStep .. => h.execSyncAlignStep
  | .alignedRx .. => h.execAlignedRx
  | .pairIdRx .. => h.execPairIdRx
  | .pairGoRx .. => h.execPairGoRx
  | .pairStartTick => h.execPairStartTick
  | .digestTx => h.execDigestTx
  | .digestRx .. => h.execDigestRx
  | .digestMissing => h.execDigestMissing
  | .mgmtFrameRx .. => h.execMgmtFrameRx
  | .mailboxMsgPacket .. => h.execMailboxMsgPacket
  | .imgDataPacket .. => h.execImgDataPacket
  | .millinerStart .. => h.execMillinerStart
  | .watchdogExpiry => h.execWatchdogExpiry
  | .lockstepMismatch => h.execLockstepMismatch
  | .mailboxTake .. => h.execMailboxTake
  | .mailboxComplete .. => h.execMailboxComplete
  | .mailboxTimeout .. => h.execMailboxTimeout
  | .sliceEnd .. => h.execSliceEnd
  | .sliceBudgetExpiry .. => h.execSliceBudgetExpiry
  | .funcResetDrainDone .. => h.execFuncResetDrainDone
  | .expertWriteDeliver => h.execExpertWriteDeliver
  | .registerWrite .. => h.execRegisterWrite
  | .tickLoRead => h.execTickLoRead
  | .devModeWake => h.execDevModeWake
  | .devCtlRestart _ safe => h.execDevCtlRestart (_alsoSafe := safe)
  | .devCtlSafe .. => h.execDevCtlSafe
  | .rstFuncWrite .. => h.execRstFuncWrite
  | .expertWindowWrite .. => h.execExpertWindowWrite
  | .mbCtlGo .. => h.execMbCtlGo
  | .mbCtlDoneClear .. => h.execMbCtlDoneClear
  | .mbCtlAbort .. => h.execMbCtlAbort
  | .mbCtlEvtPop .. => h.execMbCtlEvtPop
  | .plumeSelWrite .. => h.execPlumeSelWrite
  | .bankOwnGo .. => h.execBankOwnGo
  | .bankStatClr .. => h.execBankStatClr
  | .bmStatClr .. => h.execBmStatClr
  | .segCfgClr .. => h.execSegCfgClr
  | .splitCtlGo => h.execSplitCtlGo
  | .rtAccGo => h.execRtAccGo
  | .rtrCfgApply .. => h.execRtrCfgApply
  | .tdcCfgCalReq .. => h.execTdcCfgCalReq
  | .idelayWrite .. => h.execIdelayWrite
  | .dacCodeWrite .. => h.execDacCodeWrite
  | .swapTgtWrite .. => h.execSwapTgtWrite
  | .thermCfgWrite .. => h.execThermCfgWrite
  | .fcbaccUpdate .. => h.execFcbaccUpdate
  | .unknownCommand .. => h.execUnknownCommand
  | .idGet .. => h.execIdGet
  | .fwInfo .. => h.execFwInfo
  | .fwWrite .. => h.execFwWrite
  | .fwCommit .. => h.execFwCommit
  | .expertUnlock .. => h.execExpertUnlock
  | .expertLock .. => h.execExpertLock
  | .funcReset .. => h.execFuncReset
  | .eventCfg .. => h.execEventCfg
  | .mbConfig .. => h.execMbConfig
  | .modeGet .. => h.execModeGet
  | .modeSafe .. => h.execModeSafe
  | .modeResume .. => h.execModeResume
  | .modeQuiesce .. => h.execModeQuiesce
  | .modeWake .. => h.execModeWake
  | .modeShutdown .. => h.execModeShutdown
  | .modeRestart .. => h.execModeRestart
  | .modeBootGo .. => h.execModeBootGo
  | .cfgLoad .. => h.execCfgLoad
  | .cfgStatus .. => h.execCfgStatus
  | .cfgAbort .. => h.execCfgAbort
  | .imgInfo .. => h.execImgInfo
  | .imgWrite .. => h.execImgWrite
  | .imgData .. => h.execImgData
  | .imgCommit .. => h.execImgCommit
  | .imgBoot .. => h.execImgBoot
  | .imgRefresh .. => h.execImgRefresh
  | .cfgSource .. => h.execCfgSource
  | .ctxStatus .. => h.execCtxStatus
  | .ctxSwap .. => h.execCtxSwap
  | .ctxSetDef .. => h.execCtxSetDef
  | .ctxDiscard .. => h.execCtxDiscard
  | .ctxRotate .. => h.execCtxRotate
  | .ctxCapture .. => h.execCtxCapture
  | .ctxCapFree .. => h.execCtxCapFree
  | .cacheGet .. => h.execCacheGet
  | .cacheOwn .. => h.execCacheOwn
  | .cacheCode .. => h.execCacheCode
  | .cacheClear .. => h.execCacheClear
  | .cachePower .. => h.execCachePower
  | .cacheWin .. => h.execCacheWin
  | .cacheMode .. => h.execCacheMode
  | .cacheFlush .. => h.execCacheFlush
  | .cacheSpill .. => h.execCacheSpill
  | .cacheRepair .. => h.execCacheRepair
  | .bulkGet .. => h.execBulkGet
  | .bulkCode .. => h.execBulkCode
  | .bulkClear .. => h.execBulkClear
  | .scrubStart .. => h.execScrubStart
  | .scrubStatus .. => h.execScrubStatus
  | .scrubAbort .. => h.execScrubAbort
  | .scrubBg .. => h.execScrubBg
  | .splitGo .. => h.execSplitGo
  | .bmClear .. => h.execBmClear
  | .bmGet .. => h.execBmGet
  | .abFlags .. => h.execAbFlags
  | .laneGet .. => h.execLaneGet
  | .laneUp .. => h.execLaneUp
  | .laneDown .. => h.execLaneDown
  | .lanePower .. => h.execLanePower
  | .laneFlSet .. => h.execLaneFlSet
  | .laneSlip .. => h.execLaneSlip
  | .laneTest .. => h.execLaneTest
  | .laneErr .. => h.execLaneErr
  | .laneEye .. => h.execLaneEye
  | .laneEqSet .. => h.execLaneEqSet
  | .linkGet .. => h.execLinkGet
  | .drtSet .. => h.execDrtSet
  | .drtGet .. => h.execDrtGet
  | .linkIdSet .. => h.execLinkIdSet
  | .twinGet .. => h.execTwinGet
  | .twinPolicy .. => h.execTwinPolicy
  | .timeGet .. => h.execTimeGet
  | .schedAdd .. => h.execSchedAdd
  | .schedCancel .. => h.execSchedCancel
  | .schedList .. => h.execSchedList
  | .clkSet .. => h.execClkSet
  | .clkGet .. => h.execClkGet
  | .timeSet .. => h.execTimeSet
  | .syncRole .. => h.execSyncRole
  | .syncGet .. => h.execSyncGet
  | .syncAlign .. => h.execSyncAlign
  | .linkAsym .. => h.execLinkAsym
  | .pinGet .. => h.execPinGet
  | .pinSet .. => h.execPinSet
  | .tdcSet .. => h.execTdcSet
  | .tdcCal .. => h.execTdcCal
  | .tdcStat .. => h.execTdcStat
  | .tpArm .. => h.execTpArm
  | .dacSet .. => h.execDacSet
  | .adcGet .. => h.execAdcGet
  | .hkpRead .. => h.execHkpRead
  | .hkpMask .. => h.execHkpMask
  | .thermGet .. => h.execThermGet
  | .thermSet .. => h.execThermSet
  | .thermPeakClr .. => h.execThermPeakClr
  | .lifeGet .. => h.execLifeGet
  | .pwrGet .. => h.execPwrGet
  | .vertGet .. => h.execVertGet
  | .diePower .. => h.execDiePower
  | .testGet .. => h.execTestGet
  | .testResults .. => h.execTestResults
  | .testRun .. => h.execTestRun
  | .testPolicy .. => h.execTestPolicy
  | .testFence .. => h.execTestFence
  | .repairList .. => h.execRepairList
  | .repairFuse .. => h.execRepairFuse
  | .repairRetire .. => h.execRepairRetire
  | .secStatus .. => h.execSecStatus
  | .secBbkSet .. => h.execSecBbkSet
  | .secZeroise .. => h.execSecZeroise
  | .secFuseProg .. => h.execSecFuseProg
  | .secFuseRead .. => h.execSecFuseRead
  | .secPubkeySet .. => h.execSecPubkeySet
  | .secRestrict .. => h.execSecRestrict
  | .secTamperClr .. => h.execSecTamperClr
  | .pounceSet .. => h.execPounceSet
  | .pounceGet .. => h.execPounceGet
  | .essLog .. => h.execEssLog
  | .cfgRepair .. => h.execCfgRepair
  | .rdbkStart .. => h.execRdbkStart
  | .rdbkAbort .. => h.execRdbkAbort
  | .plumeSet .. => h.execPlumeSet
  | .plumeGet .. => h.execPlumeGet
  | .nocRtSet .. => h.execNocRtSet
  | .nocRtGet .. => h.execNocRtGet
  | .nocRtrSet .. => h.execNocRtrSet
  | .nocNiSet .. => h.execNocNiSet
  | .nocStatus .. => h.execNocStatus
  | .nocErrlog .. => h.execNocErrlog
  | .calExport .. => h.execCalExport
  | .calImport .. => h.execCalImport
  | .calList .. => h.execCalList
  | .calSave .. => h.execCalSave
  | .tamperNHigh => h.execTamperNHigh
  | .vbatLow .. => h.execVbatLow
  | .vioAbsent .. => h.execVioAbsent
  | .tapUpdateIr .. => h.execTapUpdateIr
  | .nocPortRxFlit .. => h.execNocPortRxFlit
  | .baseRRxBlock .. => h.execBaseRRxBlock
  | .baseRTxBlock .. => h.execBaseRTxBlock
  | .streamPositionTx .. => h.execStreamPositionTx

theorem exec_keeps {c : Instr} {s t : State} (h : exec c s = .next t) : Keeps s t := by
  cases h ▸ exec_performs c s with
  | next h => exact h

/-! ## The block as a whole -/

/-- Settles O1: `step` by its two cases. -/
theorem stepRunsFront : Obligations.StepRunsFront := by
  unfold Obligations.StepRunsFront
  intro s
  constructor
  · intro h
    simp only [step, h]
  · intro c q h
    simp only [step, h]

/-- Settles O2: the stores of the reset state are empty, but for the registers of the cards. -/
theorem resetIsCanonical : Obligations.ResetIsCanonical := by
  unfold Obligations.ResetIsCanonical
  decide +kernel

/-- The queue is no part of the canonical form. -/
theorem State.wf_pending (s : State) (q : List Instr) : ({ s with pending := q } : State).wf = s.wf := rfl

/-- Settles O3: the command at the front keeps the form, by `exec_keeps`, and an idle step changes nothing. -/
theorem stepKeepsCanonicalForm : Obligations.StepKeepsCanonicalForm := by
  unfold Obligations.StepKeepsCanonicalForm
  intro s t hs ht
  obtain ⟨idle, runs⟩ := stepRunsFront s
  match hq : s.pending with
  | [] =>
    cases (idle hq).symm.trans ht
    exact hs
  | c :: q =>
    exact (exec_keeps ((runs c q hq).symm.trans ht)).wf ((s.wf_pending q).trans hs)

/-- Settles O4, by `exec_keeps`. -/
theorem execKeepsQueueIdentityAndFuses : Obligations.ExecKeepsQueueIdentityAndFuses := by
  unfold Obligations.ExecKeepsQueueIdentityAndFuses
  intro c s t h
  have hk := exec_keeps h
  exact ⟨hk.pending, hk.ident, hk.fuses⟩

/-- Settles O5, by `exec_performs`. -/
theorem everyCommandIsPerformed : Obligations.EveryCommandIsPerformed := by
  unfold Obligations.EveryCommandIsPerformed
  intro c s
  generalize ho : exec c s = o
  cases ho ▸ exec_performs c s with
  | next h => exact ⟨_, rfl⟩

end Sys2Proof.Machine
end

section
/-! PROOFS. Commands of the mailboxes, in the form in which the chapters state them. -/

namespace Sys2Proof.Machine

section Served

variable {c : Instr} {mb code : Nat} {args : List (Nat × Nat)} {s : State}

/-- A served command without checks is answered by its meaning. -/
theorem exec_served {f : State → Ans} (h : s.serves mb code args = true)
    (he : exec c s = .next (talnum mb code args f s)) : exec c s = .next (settle mb (f (s.begun mb))) := by
  rw [he, talnum_serves _ h]

variable {l : List (Bool × Nat)} {f : State → Ans}

/-- A served command whose checks pass is answered by its meaning. -/
theorem exec_checked (h : s.serves mb code args = true) (he : exec c s = .next (talnum mb code args (checks l f) s))
    (hl : ∀ p ∈ l, p.1 = false) : exec c s = .next (settle mb (f (s.begun mb))) := by
  rw [exec_served h he, checks_pass _ _ hl]

/-- The first check that fails gives the status. -/
theorem completes_denied {st : Nat} (h : s.serves mb code args = true)
    (he : exec c s = .next (talnum mb code args (checks l f) s)) (hl : l.find? (fun p => p.1) = some (true, st))
    (hst : st ≠ stBusyTest) : Completes c mb s st [] (s.begun mb) := by
  rw [Completes, exec_served h he, checks, hl]
  exact congrArg Host.Outcome.next (settle_fail mb _ hst)

variable {st : Nat} {r : List Nat} {t : State}

/-- A served command without checks completes with the answer of its meaning. -/
theorem completes_served {f : State → Ans} (h : s.serves mb code args = true)
    (he : exec c s = .next (talnum mb code args f s)) (hf : f (s.begun mb) = .done st r t) : Completes c mb s st r t := by
  rw [Completes, exec_served h he, hf, settle_done]

/-- A served command whose checks pass completes with the answer of its meaning. -/
theorem completes_checked (h : s.serves mb code args = true)
    (he : exec c s = .next (talnum mb code args (checks l f) s)) (hl : ∀ p ∈ l, p.1 = false)
    (hf : f (s.begun mb) = .done st r t) : Completes c mb s st r t := by
  rw [Completes, exec_checked h he hl, hf, settle_done]

/-- A served command whose checks pass begins to run. -/
theorem runs_checked (h : s.serves mb code args = true)
    (he : exec c s = .next (talnum mb code args (checks l f) s)) (hl : ∀ p ∈ l, p.1 = false)
    (hf : f (s.begun mb) = .runs t) : exec c s = .next t := by
  rw [exec_checked h he hl, hf, settle_runs]

/-- No command with an effect is served in Test. -/
theorem State.serves_notTest (h : s.serves mb code args = true) : s.mode ≠ mTest := by
  simp only [State.serves, Bool.and_eq_true, decide_eq_true_eq] at h
  obtain ⟨⟨⟨_, hmode⟩, _⟩, _⟩ := h
  exact hmode

theorem State.freeBelow_lt (s : State) {n : Nat} (h : 0 < n) : s.freeBelow n < n := Nat.mod_lt _ h

end Served

end Sys2Proof.Machine
end

section
/-! PROOFS. The commands of the mode controller. -/

namespace Sys2Proof.Machine

/-- A free handle takes the entry, where there is one. -/
theorem schedPlace_free {s : State} (tick action target arg : Nat) (h : s.freeHandles ≠ []) :
    ∃ k ∈ s.freeHandles, schedPlace tick action target arg s =
      some (k, s.useFree.setSched k ⟨1, tick, action, target, arg⟩) := by
  have hlt := s.freeBelow_lt (List.length_pos_iff.2 h)
  refine ⟨_, ?_, if_neg h⟩
  rw [List.getD_eq_getElem _ _ hlt]
  exact List.getElem_mem _

/-- Causes that the host may clear: its own request, and a trip once the device is cool (R46). -/
theorem State.causesIn_of_clearable {s : State}
    (hc : ∀ c ∈ s.aon.safeCauses, c = 1 ∨ (c = 3 ∧ s.therm.cool = true)) :
    s.causesIn [1, 3] = true ∧ (s.aon.safeCauses.contains 3 && !s.therm.cool) = false := by
  constructor
  · simp only [State.causesIn, List.all_eq_true]
    intro c hcm
    rcases hc c hcm with rfl | ⟨rfl, _⟩ <;> rfl
  · cases h3 : s.aon.safeCauses.contains 3
    · rfl
    · rcases hc 3 (by simpa using h3) with h | ⟨_, h⟩
      · cases h
      · rw [h]; rfl

/-- Settles O7: each command by its checks, and a transition that waits by `leaveDue`. -/
theorem modeCommandsComplete : Obligations.ModeCommandsComplete := by
  unfold Obligations.ModeCommandsComplete
  refine ⟨fun mb s => ⟨?get, ?safe, ?resume, ?quiesce, ?quiesceTill, ?wake, ?shutdown, ?test, ?restart, ?bootGo, ?twin⟩,
    ?leave, ?refused⟩
  case get => exact fun h => completes_served h rfl rfl
  case safe =>
    intro h hup hs
    exact completes_checked h rfl (by simp [State.safeFrom, hup, hs, State.serves_notTest h]) rfl
  case resume =>
    intro h hm hc hi hl
    obtain ⟨hin, hcool⟩ := State.causesIn_of_clearable hc
    refine completes_checked h rfl ?_ rfl
    simp only [List.forall_mem_cons, hm, hin, hcool, hi, hl]
    decide
  case quiesce =>
    intro sleep h hs hm hq hl
    refine runs_checked h rfl ?_ rfl
    simp [Nat.not_le.2 hs, hq, hl, imp_iff_not_or, hm]
  case quiesceTill =>
    intro sleep wakeTick h hs hm hq hl hw ht hn hf
    obtain ⟨k, hk, hp⟩ := schedPlace_free (s := s.begun mb) wakeTick 2 0 0 hf
    refine ⟨k, hk, runs_checked h rfl ?_ ?_⟩
    · have hnone : (s.clk.sched.any fun e => e.2.st == 1 && e.2.tick == wakeTick && e.2.action == 2) = false := by
        simpa [and_assoc] using hn
      simp [Nat.not_le.2 hs, hq, hl, ht, hnone, imp_iff_not_or, hm]
    · simp only [if_neg hw, hp]
  case wake =>
    intro h hm
    refine runs_checked h rfl (by simp [hm]) ?_
    rw [← begun_serial s mb]
  case shutdown =>
    intro mask budget h hmask hm hl
    refine completes_checked h rfl ?_ ?_
    · simp [hl, Nat.not_le.2 hmask, imp_iff_not_or, or_assoc, hm]
    · rw [← begun_serial s mb]
      rfl
  case test =>
    intro test mask budget h ht hmask hm hl
    have h3 : ¬ 3 ≤ test := by omega
    refine completes_checked h rfl ?_ ?_
    · simp [hl, Nat.not_le.2 hmask, h3, imp_iff_not_or, or_assoc, hm]
    · exact if_neg (by omega)
  case restart =>
    intro h
    refine completes_served h rfl ?_
    rw [← begun_serial s mb]
    rfl
  case bootGo =>
    intro source num h hfrom hsrc
    refine completes_checked h rfl ?_ ?_
    · have hin : s.aon.safeCauses = [2] → s.causesIn [2] = true := fun e => by rw [State.causesIn, e]; rfl
      rcases hfrom with ⟨hm, hr, hb⟩ | ⟨hm, hc⟩ <;> rcases hsrc with ⟨rfl, hn, _⟩ | rfl | ⟨rfl, hn, hside, h5, h6⟩ <;>
        simp [*]
    · rcases hsrc with ⟨rfl, _, hv⟩ | rfl | ⟨rfl, _⟩
      · exact if_neg fun ⟨_, h⟩ => absurd hv (by simpa [State.slot] using h)
      · rfl
      · rfl
  case twin =>
    intro policy t h hp h1 h2 hb
    refine completes_checked h rfl ?_ ?_
    · simp [hb]
      omega
    · simp only [Ans.ok, if_neg (show 100 * t ≠ 0 by omega), Nat.mul_div_cancel_left t (show 0 < 100 by decide)]
  case leave =>
    intro s n again h
    refine ⟨fun hm => ?_, fun hm => ?_⟩
    · simp only [leaveDue, h, hm, if_true]
    · simp only [leaveDue, h, hm, Option.isSome_none, Bool.false_eq_true, if_false]
  case refused =>
    intro mb s c h hm hc h1 h3
    have hin : s.causesIn [1, 3] = false := by
      rw [State.causesIn, List.all_eq_false]
      exact ⟨c, hc, by simp [h1, h3]⟩
    exact completes_denied h rfl (by simp [List.find?, hm, hin]) (by decide)

end Sys2Proof.Machine
end

section
/-! PROOFS. Events of the mode controller, and its commands. -/

namespace Sys2Proof.Machine

/-! ## Changes of mode -/

/-- A change to another mode writes three fields of `DEV_MODE` and raises its event. -/
theorem commitMode_ne {m : Nat} {s : State} (h : s.mode ≠ m) :
    ∃ args, commitMode m s = raise 0x0101 args
      (((s.set R.DEV_MODE.PREV_MODE s.mode).set R.DEV_MODE.MODE m).set R.DEV_MODE.MODE_CHG 1) :=
  ⟨_, if_neg h⟩

theorem commitMode_prevMode {m : Nat} {s : State} (hs : s.mode < 16) (h : s.mode ≠ m) :
    (commitMode m s).get R.DEV_MODE.PREV_MODE = s.mode := by
  obtain ⟨args, e⟩ := commitMode_ne h
  rw [e, raise_get _ _ _ _ (by decide), State.get_set_ne _ _ (by decide), State.get_set_ne _ _ (by decide),
    State.get_set_same]
  exact Nat.mod_eq_of_lt hs

theorem commitMode_modeChg {m : Nat} {s : State} (h : s.mode ≠ m) :
    (commitMode m s).get R.DEV_MODE.MODE_CHG = 1 := by
  obtain ⟨args, e⟩ := commitMode_ne h
  rw [e, raise_get _ _ _ _ (by decide), State.get_set_same]
  rfl

/-- The other fields of `DEV_MODE` keep their values. -/
theorem commitMode_devMode {f : Fld} (ha : f.addr = 0x4) (hl : f.lsb < 64) (h0 : f.lsb ≠ 0) (h4 : f.lsb ≠ 4)
    (h24 : f.lsb ≠ 24) (m : Nat) (s : State) : (commitMode m s).get f = s.get f := by
  have hk : f.key = 256 + f.lsb := by rw [Fld.key, ha]
  refine commitMode_get m s f ?_ ?_ ?_ ?_
  · rw [Fld.Plain, hk]; omega
  · rw [hk]; simp only [R.DEV_MODE.PREV_MODE, Fld.key]; omega
  · rw [hk]; simp only [R.DEV_MODE.MODE, Fld.key]; omega
  · rw [hk]; simp only [R.DEV_MODE.MODE_CHG, Fld.key]; omega

/-! ## Events of the mode controller -/

theorem execResetNLow_true (s : State) :
    execResetNLow true s = if s.freeBit then execResetNLow false s.useFree else .next s.useFree := by
  cases h : s.freeBit <;> simp [execResetNLow, h]

theorem execWakeNLow_true (s : State) :
    execWakeNLow true s = if s.freeBit then execWakeNLow false s.useFree else .next s.useFree := by
  cases h : s.freeBit <;> simp [execWakeNLow, h]

theorem wakeSource_due {s : State} (h : s.mode = mQuiescent ∨ s.aon.quiesceReq.isSome = true) :
    wakeSource s = s.modAon fun a => { a with waking := true } := if_pos h

theorem execResetNRise_boots {s : State} (hr : s.aon.resetHigh = false) (hm : s.mode = mStandby) (hu : s.railsUp = true)
    (hf : s.get R.DEV_MODE.STBY_FAULT = 0) :
    execResetNRise s = .next (enterBoot (s.modAon fun a => { a with resetHigh := true })) := by
  rw [execResetNRise, hr, if_neg (by decide), tryBoot, if_pos ⟨hm, rfl, hu, hf⟩]

theorem execResetNRise_waits {s : State} (hr : s.aon.resetHigh = false)
    (h : ¬ (s.mode = mStandby ∧ s.railsUp = true ∧ s.get R.DEV_MODE.STBY_FAULT = 0)) :
    execResetNRise s = .next (s.modAon fun a => { a with resetHigh := true }) := by
  rw [execResetNRise, hr, if_neg (by decide), tryBoot, if_neg fun ⟨hm, _, hu, hf⟩ => h ⟨hm, hu, hf⟩]

theorem execQuiescentCommit_enters {s : State} {sleep : Nat} (hm : s.mode = mRun ∨ s.mode = mTwin)
    (hl : s.cfg.load = none) (hq : s.aon.quiesceReq = some sleep) :
    execQuiescentCommit s = .next (forEach (s.running 0x0103) (fun n u => finishCmd n stOk [] false (commitCmd n u))
      (quiesce sleep (commitMode mQuiescent
        ((s.modAon fun a => { a with quiesceReq := none }).modAon fun a => { a with quiesceSleep := sleep })))) := by
  simp only [execQuiescentCommit, hq]
  exact if_pos ⟨hm, by simp [hl]⟩

theorem execQuiescentCommit_void {s : State} {sleep : Nat} (h : ¬ (s.mode = mRun ∨ s.mode = mTwin) ∨ s.cfg.load ≠ none)
    (hq : s.aon.quiesceReq = some sleep) :
    execQuiescentCommit s = .next (forEach (s.running 0x0103) (fun n u => finishCmd n stDenied [] false u)
      (clearWake (s.modAon fun a => { a with quiesceReq := none }))) := by
  simp only [execQuiescentCommit, hq]
  refine if_neg fun ⟨hm, hl⟩ => ?_
  rcases h with h | h
  · exact h hm
  · exact h (Option.isNone_iff_eq_none.1 hl)

/-- Settles O6: each event by its definition under its condition, and a committed change field by field. -/
theorem modeEventsComplete : Obligations.ModeEventsComplete := by
  unfold Obligations.ModeEventsComplete
  refine ⟨fun s => ⟨?vaon, ?low, ?lowDown, ?lowShort, ?rise, ?riseWaits, ?wake, ?wakeShort, ?wakeBit, ?commit, ?void,
    ?wakeEnd, ?pairing⟩, ?change⟩
  case vaon =>
    intro hm notOff
    rw [exec_vaonPresent, execVaonPresent, if_neg (not_not.2 hm)]
    simp only [Bool.or_eq_true]
    split_ifs <;> rfl
  case low =>
    intro hup
    rw [exec_resetNLow]
    exact if_pos hup
  case lowDown =>
    intro hup
    rw [exec_resetNLow]
    exact if_neg (ne_true_of_eq_false hup)
  case lowShort => exact execResetNLow_true s
  case rise => exact execResetNRise_boots
  case riseWaits => exact execResetNRise_waits
  case wake =>
    intro h
    rw [exec_wakeNLow, ← wakeSource_due h]
    rfl
  case wakeShort => exact execWakeNLow_true s
  case wakeBit =>
    intro h hf
    have hmode : (s.set R.DEV_MODE.WAKE 1).mode = s.mode := State.get_set_ne _ _ (by decide)
    rw [exec_devModeWake, execDevModeWake, if_pos hf, writeWake, if_pos h, wakeSource_due (hmode ▸ h)]
  case commit => exact fun hm hl _ hq => execQuiescentCommit_enters hm hl hq
  case void => exact fun h _ hq => execQuiescentCommit_void h hq
  case wakeEnd =>
    intro hm hw
    rw [exec_wakeComplete]
    exact if_neg (by simp [hm, hw])
  case pairing =>
    intro hm hp
    rw [exec_pairingTimeout]
    exact if_neg (by simp [hm, hp])
  case change =>
    intro m s hm hs h
    exact ⟨commitMode_mode m s hm, commitMode_prevMode hs h, commitMode_modeChg h,
      fun f ha hl h0 h4 h24 => commitMode_devMode ha hl h0 h4 h24 m s⟩

end Sys2Proof.Machine
end

section
/-! PROOFS. Clock and tick events. -/

namespace Sys2Proof.Machine

/-! ## The machine clock -/

section Measure

variable {s : State} {srcKHz kHz : Nat} (hup : s.up = true)
include hup

/-- The state after a measurement that finds the clock present. -/
def measured (s : State) (kHz : Nat) : State :=
  { (s.set R.MCLK_STAT.FREQ_KHZ kHz).setBit R.CLK_LOCK.LOCK 2 true with clk := { s.clk with prevMeas := some kHz } }

/-- A measurement with a source: first lock, tracking or loss (R69–R72). -/
theorem execMclkMeasure_present (hsrc : s.mclkSource = true) (hk : s.mclkOf srcKHz = kHz) (h0 : kHz ≠ 0) :
    execMclkMeasure srcKHz s = match s.clk.lockMeas with
      | none => if measLocks kHz s.clk.prevMeas then
          .next (judgeSettings (State.set { measured s kHz with clk := { (measured s kHz).clk with
            lockMeas := some kHz, startDue := true } } R.MCLK_STAT.PRESENT 1))
        else .next (measured s kHz)
      | some l => if !s.hold && !within1000ppm kHz l then .next (loseMclk (measured s kHz))
        else .next (measured s kHz) := by
  simp only [execMclkMeasure, hup, hsrc, hk, if_true, h0, Bool.not_true, Bool.false_eq_true, if_false]
  rfl

theorem execMclkMeasure_absent (h : s.mclkSource = false ∨ s.mclkOf srcKHz = 0) :
    execMclkMeasure srcKHz s =
      .next (({ s with clk := { s.clk with prevMeas := none } } : State).setBit R.CLK_LOCK.LOCK 2 false) := by
  have hk : (if s.mclkSource = true then s.mclkOf srcKHz else 0) = 0 := by
    rcases h with h | h <;> simp [h]
  simp only [execMclkMeasure, hup, hk, Bool.not_true, Bool.false_eq_true, if_false, if_true]

end Measure

/-! ## Ticks -/

/-- The load that is due becomes the tick, shows `STEP` and leaves the loads that wait for other boundaries. -/
theorem execTickLoad_loads {s : State} {v : Nat} (hup : s.up = true) (h : s.loadAt = some v) :
    ∃ t, execTickLoad s = .next t ∧ t.clk.tick = v ∧ t.get R.MCLK_STAT.STEP = 1 ∧
      t.clk.loads = s.clk.loads.filter fun l => l.2 != s.nextTick := by
  simp only [execTickLoad, h, hup, if_true]
  obtain ⟨-, hloads, hstep⟩ := skipEntries_keeps s.nextTick v
    { s.set R.MCLK_STAT.STEP 1 with
      clk := { s.clk with loads := s.clk.loads.filter (fun l => l.2 != s.nextTick), tick := v }
      io := { s.io with banks := s.io.banks.map fun (e : Nat × IoBank) => (e.1, { e.2 with wmTick := none }) } }
  refine ⟨_, rfl, beginTick_tick _ _, ?_, ?_⟩
  · rw [State.get, beginTick_regs]
    exact hstep.trans (State.get_set_same s R.MCLK_STAT.STEP 1)
  · rw [beginTick_loads]
    exact hloads

theorem State.get_setB_same (s : State) (f : Fld) (b : Bool) (hw : 0 < f.w) :
    (s.setB f b).get f = if b then 1 else 0 := by
  have hlt : (if b then 1 else 0) < 2 ^ f.w := by
    have : 1 < 2 ^ f.w := Nat.one_lt_two_pow hw.ne'
    split <;> omega
  rw [State.setB, State.get_set_same, Nat.mod_eq_of_lt hlt]

/-- A read of `TICK_LO` copies the tick and its state (R79). -/
theorem execTickLoRead_snapshot {s : State} (hf : s.fcbOn = true) :
    ∃ t, execTickLoRead s = .next t ∧ t.get R.TICK_LO.TICK_L = s.clk.tick % 2 ^ 32 ∧
      t.get R.TICK_HI.TICK_H = s.clk.tick / 2 ^ 32 % 2 ^ 16 ∧ (t.get R.TICK_HI.SNAP_HOLD = if s.hold then 1 else 0) ∧
      (t.get R.TICK_HI.VALID = if s.clk.running then 1 else 0) ∧ t.clk = s.clk := by
  refine ⟨_, if_pos hf, ?_, ?_, ?_, State.get_setB_same _ _ _ (by decide), rfl⟩
  · rw [State.get_setB_ne _ _ (by decide), State.get_setB_ne _ _ (by decide), State.get_set_ne _ _ (by decide),
      State.get_set_same]
    rfl
  · rw [State.get_setB_ne _ _ (by decide), State.get_setB_ne _ _ (by decide), State.get_set_same]
    rfl
  · rw [State.get_setB_ne _ _ (by decide), State.get_setB_same _ _ _ (by decide)]

/-! ## Synthesizers -/

theorem execSynthLock_locks {s : State} {d : Fin 25} (hup : s.up = true) (hb : s.bit R.CLK_LOCK.LOCK d = false)
    (hc : s.canLock d = true) :
    execSynthLock d s =
      let u := if settable d then (s.setBit R.CLK_LOCK.LOCK d true).setSynth d { s.synth d with wait := false }
        else s.setBit R.CLK_LOCK.LOCK d true
      .next (if 17 ≤ d.val ∧ d.val ≤ 20 then sideLocked d u else if 21 ≤ d.val then treeReturns (d.val - 21) u else u) := by
  simp only [execSynthLock, hup, hb, hc, Bool.not_true, Bool.or_false, Bool.false_eq_true, if_false]
  simp only [← apply_ite Host.Outcome.next]
  have hsynth : (s.setBit R.CLK_LOCK.LOCK d true).synth d = s.synth d := by simp [State.synth]
  simp only [applyIf, hsynth]

theorem execSynthUnlock_loses {s : State} {d : Fin 25} (hup : s.up = true) (hb : s.bit R.CLK_LOCK.LOCK d = true)
    (hd : synthesized d = true) :
    execSynthUnlock d s =
      let u := raise 0x0501 [(1, d.val)] ((s.setBit R.CLK_LOCK.LOCK d false).setBit R.CLK_LOST.LOST d true)
      .next (if 17 ≤ d.val ∧ d.val ≤ 20 then sideLost d u else if 21 ≤ d.val then loseTree (d.val - 21) u else u) := by
  have hn : ¬ (13 ≤ d.val ∧ d.val ≤ 15) := by
    simp [synthesized] at hd
    omega
  simp only [execSynthUnlock, hup, hb, hd, hn, Bool.not_true, Bool.or_false, Bool.false_eq_true, if_false]
  simp only [← apply_ite Host.Outcome.next]

/-- Settles O8: each event by its definition under its condition. -/
theorem timeEventsComplete : Obligations.TimeEventsComplete := by
  unfold Obligations.TimeEventsComplete
  intro s hup
  refine ⟨?measure, ?absent, ?loss, ?returns, ?start, ?tick, ?load, ?fire, ?lock, ?unlock, ?edges, ?timeout, ?resync, ?read⟩
  case measure =>
    intro srcKHz kHz hsrc hk h0
    have hm := execMclkMeasure_present hup hsrc hk h0
    refine ⟨fun hl hp => ?_, fun hl hp => ?_, fun l hl h => ?_, fun l hl hh hw => ?_⟩ <;>
      rw [hl] at hm <;> refine hm.trans ?_
    · exact if_pos hp
    · exact if_neg (ne_true_of_eq_false hp)
    · exact if_neg (by simpa [or_iff_not_imp_left] using h)
    · exact if_pos (by simp [hh, hw])
  case absent => exact fun _ => execMclkMeasure_absent hup
  case loss =>
    intro hl hh
    exact if_pos (by simp [hup, hl, hh])
  case returns =>
    intro srcKHz kHz l hl hh hsrc hk hw
    rw [exec_mclkReturn]
    simp only [execMclkReturn, hl, hk]
    rw [if_pos (by simp [hup, hh, hsrc, hw])]
  case start =>
    intro hd
    rw [exec_tickBoundary, execTickBoundary, hup]
    exact if_pos hd
  case tick =>
    intro hd hr hl
    have hgo : (s.clk.running && !s.loadDue) = true := by rw [hr, hl]; rfl
    rw [exec_tickBoundary, execTickBoundary, hup, hd]
    exact if_pos hgo
  case load => exact fun v => execTickLoad_loads hup
  case fire =>
    intro h hst
    have hdue : (!s.up || decide ((s.sched h).st ≠ 4)) = false := by simp [hup, hst]
    simp only [exec_schedEntryFire, execSchedEntryFire, hdue, Bool.false_eq_true, if_false]
    refine ⟨fun hr ha hq => ?_, fun hq ha => ?_, fun hq h2 h3 => ?_, fun hq ha => ?_⟩
    · rw [if_neg hq, if_pos (by simpa [hr, imp_iff_not_or] using ha)]
    · rw [if_pos hq, if_pos ha]
    · rw [if_pos hq, if_neg (not_or.2 ⟨h2, h3⟩)]
    · rw [if_neg hq, if_neg (by cases hr : s.runClass <;> simp_all)]
  case lock => exact fun d => execSynthLock_locks hup
  case unlock => exact fun d => execSynthUnlock_loses hup
  case edges =>
    intro d hb h13 h15
    have hd : 13 ≤ d.val ∧ d.val ≤ 15 := ⟨h13, h15⟩
    rw [exec_synthUnlock, execSynthUnlock, hup, hb]
    exact if_pos hd
  case timeout =>
    intro f
    rw [exec_handshakeTimeout, exec_handshakeTimeout, execHandshakeTimeout, execHandshakeTimeout, hup]
    exact And.intro rfl rfl
  case resync =>
    intro f hr hh
    exact if_pos (by simp [hup, hr, hh])
  case read => exact fun hf => execTickLoRead_snapshot (by simp [State.fcbOn, hup, hf])

end Sys2Proof.Machine
end

section
/-! PROOFS. The timing commands. -/

namespace Sys2Proof.Machine

theorem State.mem_freeHandles {s : State} {h : Nat} (hm : h ∈ s.freeHandles) :
    h < 256 ∧ (s.sched h).st ≠ 1 ∧ (s.sched h).st ≠ 4 := by
  simpa [State.freeHandles] using hm

section Serve

variable {s : State} {mb : Nat}

/-- An entry with a lead, in range and not yet in the schedule takes a free handle (R81). -/
theorem execSchedAdd_adds {tick action target arg : Nat}
    (h : s.serves mb 0x0501 [(6, tick), (1, action), (2, target), (4, arg)] = true) (ha : s.tickAhead tick = true)
    (ho : schedArgsOk action target arg = true)
    (hn : ∀ e ∈ s.clk.sched, ¬ ((e.2.st = 1 ∨ e.2.st = 4) ∧ e.2.tick = tick ∧ e.2.action = action ∧ e.2.target = target))
    (hf : s.freeHandles ≠ []) :
    ∃ k ∈ s.freeHandles, execSchedAdd mb tick action target arg s = .next (setOutcome mb ⟨stOk, false, pack [(1, k)]⟩
      ((s.begun mb).useFree.setSched k ⟨1, tick, action, target, arg⟩)) := by
  obtain ⟨k, hk, hp⟩ := schedPlace_free (s := s.begun mb) tick action target arg hf
  have hnone : (s.clk.sched.any fun p => (p.2.st == 1 || p.2.st == 4) && p.2.tick == tick && p.2.action == action
      && p.2.target == target) = false := by
    simpa [and_assoc] using hn
  refine ⟨k, hk, ?_⟩
  rw [execSchedAdd, talnum_serves _ h, hp, begun_tickAhead, ha, ho]
  have hb : (s.begun mb).clk = s.clk := rfl
  rw [hb, hnone]
  rfl

end Serve

/-- Settles O9: each command by its checks and its meaning. -/
theorem timeCommandsComplete : Obligations.TimeCommandsComplete := by
  unfold Obligations.TimeCommandsComplete
  intro mb s
  refine ⟨?get, ?add, ?cancel, ?cancelDenied, ?list, ?set, ?clkGet, ?clkGetFixed, ?timeSet⟩
  case get => exact fun h => ⟨_, completes_served h rfl rfl⟩
  case add =>
    intro tick action target arg h ha ho hn hf
    obtain ⟨k, hk, he⟩ := execSchedAdd_adds h ha ho hn hf
    obtain ⟨hlt, h1, h4⟩ := State.mem_freeHandles hk
    exact ⟨k, hlt, h1, h4, he⟩
  case cancel =>
    intro k h hk h1
    refine completes_served h rfl ?_
    rw [if_neg (Nat.not_le.2 hk)]
    exact if_pos h1
  case cancelDenied =>
    intro k h hk h1
    refine completes_served h rfl ?_
    rw [if_neg (Nat.not_le.2 hk)]
    exact if_neg h1
  case list =>
    intro first count h hf h1 h16
    exact completes_served h rfl (if_neg (by omega))
  case set =>
    intro d mode n q h hset hd hmode hrange hfreq hwait
    refine completes_checked h rfl ?_ rfl
    simp [hset, hd, hrange, hfreq, hwait, imp_iff_not_or, or_assoc, hmode]
  case clkGet =>
    intro d h hset hd
    refine completes_served h rfl ?_
    simp only [if_neg (Nat.not_lt.2 hd), hset, if_true]
    rfl
  case clkGetFixed =>
    intro d h hset hd
    refine completes_served h rfl ?_
    simp only [if_neg (Nat.not_lt.2 hd), hset, Bool.false_eq_true, if_false]
    rfl
  case timeSet => exact fun tick b h hrun hlead => execTimeSet_accepts h hrun hlead

end Sys2Proof.Machine
end

section
/-! PROOFS. Events of VIO groups, pins, test pulses and DACs. -/

namespace Sys2Proof.Machine

section Pulses

variable {s : State} {n : Fin 1536} (hup : s.up = true) (hc : s.clocked 3 = true)
include hup hc

/-- A pulse of `TP_REQ` that the border lets through enters its crossing (R90, R112). -/
theorem execTpReqPulse_pulse (hw : s.fab.writes = true) (hb : s.borderCause (bankRegion (n.val / 48)) = 0) :
    execTpReqPulse ⟨n, false⟩ s = .next (applyIf (s.ch n).tp.pulse.2.2
      (fun s => s.modXing (bankFunc (n.val / 48)) fun x => { x with overrun := true })
      (applyIf (s.ch n).tp.pulse.2.1 (armPulse n s.clk.tick)
        (s.modCh n fun c => { c with tp := (s.ch n).tp.pulse.1 }))) := by
  simp only [execTpReqPulse, hup, hc, hw, hb, Bool.not_true, Bool.or_false, bne_self_eq_false, Bool.false_eq_true, if_false]

/-- The acknowledge of a pulse ends its crossing. -/
theorem execTpReqPulse_ack : execTpReqPulse ⟨n, true⟩ s = .next (applyIf (s.ch n).tp.ack.2 (armPulse n s.clk.tick)
      (s.modCh n fun c => { c with tp := (s.ch n).tp.ack.1 })) := by
  simp only [execTpReqPulse, hup, hc, Bool.not_true, Bool.or_false, Bool.false_eq_true, if_false, if_true]

/-- The pulse of a request whose tick has ended, or none where the pin is no pulse output (R124). -/
theorem execTestPulseFire_due {sincePs q : Nat} {l : List Nat} (ha : (s.ch n).armed = q :: l)
    (hq : tickLater s.clk.tick q = true) :
    execTestPulseFire ⟨n, sincePs⟩ s =
      let w := s.get (R.TDC_CFG.P_WIDTH n)
      let co := min (s.get (R.TDC_CFG.P_COARSE n)) ((s.synth 3).n - 1)
      let go := s.bankLive (n.val / 48) && s.get (R.PIN_CFG.DIR n) == 3 && w != 0
      let u := s.modCh n fun c => { c with
        armed := c.armed.filter fun x => x != q
        pulse := if go then some (q, co, s.get (R.TDC_CFG.P_FINE n), w) else c.pulse }
      if !go then .next u
      else .next (ownEdge n true
        (if u.records n false sincePs then w * u.tdcFs / 1000 else sincePs + w * u.tdcFs / 1000) ((q + 1) % tickMod) (co + w)
        (ownEdge n false sincePs ((q + 1) % tickMod) co u)) := by
  have hfind : (if (s.up && s.clocked 3) = true then (s.ch n).armed.find? fun t => tickLater s.clk.tick t else none) = some q := by
    rw [hup, hc, ha]
    exact List.find?_cons_of_pos hq
  simp only [execTestPulseFire, hfind]

end Pulses

/-- The loads that arrived at one edge: the first of the highest rank is applied, every other one is discarded (R126). -/
theorem execDacLoadApply_applies {s : State} {k : Fin 16} {win : DacLoad} (hup : s.up = true) (hc : s.clocked 16 = true)
    (hh : s.held 0xB1 = false)
    (hw : (at' s.io.loads k []).find? (fun d => d.rank == ((at' s.io.loads k []).map fun d => d.rank).foldl min 9) = some win) :
    let lost := (at' s.io.loads k []).erase win
    let u := endLoad' stOk win (takeDac k win.code (s.modIo fun i => { i with loads := putD i.loads k [] [] }))
    execDacLoadApply k s = .next (forEach lost (endLoad' stBusy)
      (if lost = [] then u else u.setBit R.DAC_STAT.COLLIDE k true)) := by
  have hne : (at' s.io.loads k [] == []) = false := by
    cases hl : at' s.io.loads k []
    · rw [hl] at hw; cases hw
    · rfl
  intro lost u
  have hcol : applyIf (lost != []) (fun s => s.setBit R.DAC_STAT.COLLIDE k true) u =
      if lost = [] then u else u.setBit R.DAC_STAT.COLLIDE k true := by
    by_cases h : lost = [] <;> simp [applyIf, h]
  rw [← hcol]
  simp only [execDacLoadApply, hup, hc, hh, hne, hw, Bool.not_true, Bool.or_false, Bool.false_eq_true, if_false,
    Option.getD_some, lost, u]

theorem execDacLoadApply_held {s : State} {k : Fin 16} (hup : s.up = true) (hc : s.clocked 16 = true)
    (hh : s.held 0xB1 = true) (hl : at' s.io.loads k [] ≠ []) :
    execDacLoadApply k s = .next (forEach (at' s.io.loads k []) dropLoad
      (s.modIo fun i => { i with loads := putD i.loads k [] [] })) := by
  have hne : (at' s.io.loads k [] == []) = false := beq_eq_false_iff_ne.2 hl
  simp only [execDacLoadApply, hup, hc, hh, hne, Bool.not_true, Bool.or_false, Bool.false_eq_true, if_false, if_true]

/-- Settles O11: each event by its definition under its condition. -/
theorem pinEventsComplete : Obligations.PinEventsComplete := by
  unfold Obligations.PinEventsComplete
  intro s
  refine ⟨?present, ?absent, ?loss, ?restore, ?write, ?step, ?pulse, ?ack, ?fire, ?noFire, ?dacWrite, ?apply, ?dropped⟩
  case present =>
    refine fun g => ⟨_, rfl, ?_, rfl, ?_⟩
    · simp only [State.modIo]
      split
      · next h => exact List.contains_iff_mem.1 h
      · exact List.mem_cons_self
    · simp only [State.modIo]
      split
      · exact fun k hk => .inr hk
      · exact fun k hk => List.mem_cons.1 hk
  case absent => exact fun g => rfl
  case loss =>
    intro b hr hv
    exact if_neg (by simp [hr, hv])
  case restore => exact fun b hv => if_pos hv
  case write =>
    intro n taps hp
    exact congrArg _ (if_pos hp)
  case step =>
    intro n hup hc ht
    exact if_neg (by simp [hup, hc, ht])
  case pulse =>
    intro n hup hc hw hb
    have hp := execTpReqPulse_pulse hup hc hw hb
    refine ⟨fun h => hp.trans ?_, fun h h' => hp.trans ?_, fun h h' => hp.trans ?_⟩
    · rw [PulseX.pulse, h]
      rfl
    · rw [PulseX.pulse, h, h']
      rfl
    · rw [PulseX.pulse, h, h']
      rfl
  case ack =>
    intro n hup hc hb
    have hp := execTpReqPulse_ack (n := n) hup hc
    refine ⟨fun h => hp.trans ?_, fun h => hp.trans ?_⟩
    · rw [PulseX.ack, hb, h]
      rfl
    · rw [PulseX.ack, hb, h]
      rfl
  case fire =>
    intro n sincePs q l hup hc ha hq hb hd hw
    have hgo : (s.bankLive (n.val / 48) && s.get (R.PIN_CFG.DIR n) == 3 && s.get (R.TDC_CFG.P_WIDTH n) != 0) = true := by
      simp [hb, hd, hw]
    refine (execTestPulseFire_due hup hc ha hq).trans ?_
    simp only [hgo, Bool.not_true, Bool.false_eq_true, if_false, if_true]
  case noFire =>
    intro n sincePs q l hup hc ha hq hno
    have hgo : (s.bankLive (n.val / 48) && s.get (R.PIN_CFG.DIR n) == 3 && s.get (R.TDC_CFG.P_WIDTH n) != 0) = false := by
      rcases hno with h | h | h <;> simp [h]
    refine (execTestPulseFire_due hup hc ha hq).trans ?_
    simp only [hgo, Bool.not_false, Bool.false_eq_true, if_false, if_true]
  case dacWrite =>
    intro k code hup hh
    exact if_neg (by simp [hup, hh])
  case apply => exact fun k win => execDacLoadApply_applies
  case dropped => exact fun k => execDacLoadApply_held

end Sys2Proof.Machine
end

section
/-! PROOFS. Events of the TDC channels, their hits and their calibration. -/

namespace Sys2Proof.Machine

/-! ## Hits -/

@[simp] theorem State.modCh_ch_same (s : State) (n : Nat) (f : TdcCh → TdcCh) : (s.modCh n f).ch n = f (s.ch n) :=
  at'_putD_same _ _ _ _

/-- A hit word holds the tick, the coarse count and the channel of its stamp (Table 4-5). -/
theorem hitWord_fields {tick coarse f m x y z : Nat} (ht : tick < 2 ^ 48) (hc : coarse < 2 ^ 8) (hf : f < 4096)
    (hm : m < 48) (hx : x % 64 = 0) (hy : y % 64 = 0) (hz : z % 64 = 0) :
    let w := 65536 * tick + 256 * coarse + f / 16 + 2 ^ 64 * (m + x + 128 * (f % 16) + y + z)
    w / 2 ^ 16 % 2 ^ 48 = tick % 2 ^ 48 ∧ w / 2 ^ 8 % 2 ^ 8 = coarse ∧ w / 2 ^ 64 % 64 = m := by
  have hg : f / 16 < 2 ^ 8 := by omega
  have hh : (m + x + 128 * (f % 16) + y + z) % 64 = m := by omega
  generalize f / 16 = g at hg ⊢
  generalize m + x + 128 * (f % 16) + y + z = hdr at hh ⊢
  intro w
  have hlow : w % 2 ^ 64 = 65536 * tick + 256 * coarse + g := by simp only [w]; omega
  have hhigh : w / 2 ^ 64 = hdr := by simp only [w]; omega
  refine ⟨?_, ?_, ?_⟩
  · have : w / 2 ^ 16 % 2 ^ 48 = w % 2 ^ 64 / 2 ^ 16 := by omega
    omega
  · have : w / 2 ^ 8 % 2 ^ 8 = w % 2 ^ 64 / 2 ^ 8 % 2 ^ 8 := by omega
    omega
  · rw [hhigh, hh]

theorem coreStamp_tick_lt {c : CoreIn} {t : Nat} (ht : t < 2 ^ 48) : (coreStamp c t).tick < 2 ^ 48 := by
  unfold coreStamp
  dsimp only
  split
  · exact Nat.mod_lt _ (by decide)
  · exact ht

/-- A hit that finds room enters the FIFO with the stamp of the core that serves the channel. -/
theorem recordHit_room {s : State} {n : Nat} {falling : Bool} {p x : CoreStamp} (hroom : (s.ch n).fifo.length < 16)
    (hp : p.tick < 2 ^ 48) (hx : x.tick < 2 ^ 48) (hpc : p.coarse < 2 ^ 8) (hxc : x.coarse < 2 ^ 8) :
    let st := if s.onSpare n p x then x else p
    ∃ w, recordHit n falling p x s = (s.modCh n fun c => { c with fifo := c.fifo ++ [w] }) ∧
      w / 2 ^ 16 % 2 ^ 48 = st.tick % 2 ^ 48 ∧ w / 2 ^ 8 % 2 ^ 8 = st.coarse ∧ w / 2 ^ 64 % 64 = n % 48 := by
  intro st
  have htick : st.tick < 2 ^ 48 := by simp only [st]; split <;> assumption
  have hcoarse : st.coarse < 2 ^ 8 := by simp only [st]; split <;> assumption
  refine ⟨_, if_neg (Nat.not_le.2 hroom), ?_⟩
  exact hitWord_fields htick hcoarse (Nat.lt_succ_of_le (Nat.min_le_left _ _)) (Nat.mod_lt _ (by decide))
    (by split <;> rfl) (by split <;> rfl) (by split <;> rfl)

theorem recordHit_full {s : State} {n : Nat} {falling : Bool} {p x : CoreStamp} (hfull : 16 ≤ (s.ch n).fifo.length) :
    recordHit n falling p x s =
      ((s.modCh n fun c => { c with lossNext := true }).incWrap (R.TDC_LOST.LOST n)).set (R.TDC_CFG.LOSS n) 1 :=
  if_pos hfull

/-- An edge that arrives through the delay in force reaches the fabric, and is recorded where the channel records. -/
theorem execTdcEdge_arrives {s : State} {n : Fin 1536} {e : TdcIn} (hup : s.up = true) (htap : e.tap = (s.ch n).tap)
    (hc : e.core.coarse < (s.synth 3).n) (hx : e.spare.coarse < (s.synth 3).n) :
    execTdcEdge n e s = .next (applyIf (s.records n e.falling e.sincePs)
      (recordHit n e.falling (coreStamp e.core s.clk.tick) (coreStamp e.spare s.clk.tick))
      (s.modCh n fun c => { c with level := !e.falling })) :=
  if_neg (by simp [hup, htap, hc, hx])

/-! ## The port of a bank -/

section Bank

variable {s : State} {b : Fin 32} (hup : s.up = true) (hc : s.clocked 3 = true) (hh : s.held (bankFunc b) = false)
include hup hc hh

theorem execHitArbiter_serves {i : Nat} (hr : s.resyncing b = false) (hi : s.nextChannel b (s.ioBank b).last = some i) :
    execHitArbiter b s = if 256 ≤ (s.ioBank b).port.length then .next (s.set (R.BANK_CTL.STREAM_FULL b) 1)
      else .next (pushPort b ((s.ch (48 * b.val + i)).fifo.headD 0 +
          if (s.ch (48 * b.val + i)).lossNext then 2 ^ 64 * 4096 else 0)
        ((s.modCh (48 * b.val + i) fun c => { c with fifo := c.fifo.drop 1, lossNext := false }).modBank b fun k =>
          { k with last := i })) := by
  simp only [execHitArbiter, hup, hc, hh, hr, hi, Bool.not_true, Bool.or_false, Bool.false_eq_true, if_false]

/-- The spare of a group turns where it serves nothing and is in use. -/
theorem execTdcRotationTurn_turns {g : Fin 3} (hs : (s.group (3 * b.val + g.val)).stopped = false)
    (hn : (s.group (3 * b.val + g.val)).serving = none) (hg : s.bit (R.BANK_CTL.SPARE_GONE b) g = false) :
    execTdcRotationTurn b g s = match (s.group (3 * b.val + g.val)).queue with
      | n :: t => .next (connectSpare n (s.modGroup (3 * b.val + g.val) fun g => { g with queue := t, byReq := true }))
      | [] => match s.nextTurn (3 * b.val + g.val) with
        | none => .next s
        | some i =>
          let s := s.modGroup (3 * b.val + g.val) fun g => { g with next := (i + 1) % 17, byReq := false }
          if i = 16 then .next (s.modGroup (3 * b.val + g.val) fun q => { q with serving := some (1536 + (3 * b.val + g.val)) })
          else .next (connectSpare (48 * b.val + 16 * g.val + i) s) := by
  simp only [execTdcRotationTurn, hup, hc, hh, hs, hn, hg, Bool.not_true, Bool.or_false, Option.isSome_none,
    Bool.false_eq_true, if_false] <;> rfl

end Bank

/-- Every earlier hit has left: the watermark is emitted, or finds the port full (R118). -/
theorem execWatermarkEmit_emits {s : State} {b : Fin 32} (hw : s.get (R.BANK_CTL.WMARK_PER b) ≠ 0)
    (hl : s.bankLive b = true) (hc : s.clocked 3 = true) (hr : s.clk.running = true) (hh : s.held (bankFunc b) = false)
    (hs : s.resyncing b = false)
    (hearly : ∀ i < 48, ∀ h ∈ (s.ch (48 * b.val + i)).fifo,
      tickLater (s.wmNext b (s.get (R.BANK_CTL.WMARK_PER b))) (h / 65536 % tickMod) = false)
    (hdue : tickLater (s.wmNext b (s.get (R.BANK_CTL.WMARK_PER b))) s.clk.tick = false) :
    execWatermarkEmit b s = if 256 ≤ (s.ioBank b).port.length then .next (s.set (R.BANK_CTL.STREAM_FULL b) 1)
      else .next (pushPort b (65536 * s.wmNext b (s.get (R.BANK_CTL.WMARK_PER b)) + 2 ^ 64 * (16384 + if s.hold then 2048 else 0))
        (s.modBank b fun k => { k with wmTick := some (s.wmNext b (s.get (R.BANK_CTL.WMARK_PER b))) })) := by
  have hnone : ((List.range 48).any fun i => (s.ch (48 * b.val + i)).fifo.any fun h =>
      tickLater (s.wmNext b (s.get (R.BANK_CTL.WMARK_PER b))) (h / 65536 % tickMod)) = false := by
    simpa using hearly
  simp only [execWatermarkEmit, hw, hl, hc, hr, hh, hs, hdue, hnone, Bool.not_true, Bool.or_false, Bool.false_eq_true,
    or_self, if_false]

/-! ## Calibration -/

theorem execTdcCodeDensityDone_channel {s : State} {n : Fin 1536} (counts : List Nat) (hc : s.clocked 3 = true)
    (hcal : (s.ch n).cal = 3) :
    execTdcCodeDensityDone ⟨n.val, by omega⟩ counts s = match densityTable counts with
      | some tab => .next ((keepTable n tab s.useFree).modCh n fun x =>
          { x with cal := 4, switchTick := s.namedTick
                   oldTable := if s.io.tableKept.contains n.val then none else some (s.binTable n) })
      | none => .next (raise 0x0602 [(2, n.val)] ((((dropQueue (chGroup n) ((s.modCh n fun x =>
          { x with cal := 6, calTick := s.clk.tick }).modGroup (chGroup n) fun g =>
            { g with stopped := true, serving := none, byReq := false })).set (R.TDC_CFG.CAL_REQ n) 0).set
              (R.TDC_CFG.CORE_FAIL n) 1).setBit (R.BANK_CTL.SPARE_GONE (n.val / 48)) (n.val % 48 / 16) true)) := by
  simp only [execTdcCodeDensityDone, hc, hcal, n.isLt, Bool.not_true, Bool.false_eq_true, if_false, if_true, ne_eq,
    not_true] <;> rfl

theorem execTdcCodeDensityDone_spare {s : State} {k : Fin 96} (counts : List Nat) (hc : s.clocked 3 = true)
    (hs : (s.group k).serving = some (1536 + k.val)) :
    execTdcCodeDensityDone ⟨1536 + k.val, by omega⟩ counts s =
      let u := s.modGroup k fun g => { g with serving := none }
      match densityTable counts with
      | some tab => .next (keepTable (1536 + k.val) tab u)
      | none => .next ((dropQueue k (u.modGroup k fun g => { g with stopped := true })).setBit
          (R.BANK_CTL.SPARE_GONE (k.val / 3)) (k.val % 3) true) := by
  have hlt : ¬ 1536 + k.val < 1536 := by omega
  simp only [execTdcCodeDensityDone, hc, hlt, Nat.add_sub_cancel_left, hs, Bool.not_true, Bool.false_eq_true, if_false,
    ne_eq, not_true] <;> rfl

/-- Settles O12: each event by its definition under its condition. -/
theorem tdcEventsComplete : Obligations.TdcEventsComplete := by
  unfold Obligations.TdcEventsComplete
  intro s
  refine ⟨?edge, ?unrecorded, ?arbiter, ?arbiterFull, ?watermark, ?transfer, ?request, ?turn, ?switch, ?density, ?spare,
    ?back⟩
  case edge =>
    intro n e hup hl hc hen hpol hsince hodd hheld hfence htap hcore hspare hnt htick u st
    have hrec : s.records n e.falling e.sincePs = true := by
      simp [State.records, hl, hc, hen, hpol, hsince, hodd, hheld, hfence]
    have he : exec (.tdcEdge n e) s = .next (recordHit n e.falling (coreStamp e.core s.clk.tick)
        (coreStamp e.spare s.clk.tick) u) := by
      rw [exec_tdcEdge, execTdcEdge_arrives hup htap hcore hspare, hrec, applyIf_true]
    have hfifo : (u.ch n).fifo = (s.ch n).fifo := by simp [u]
    rw [he, ← hfifo]
    refine ⟨fun hroom => ?_, fun hfull => by rw [recordHit_full hfull]⟩
    obtain ⟨w, hw, hfields⟩ := recordHit_room (falling := e.falling) hroom (coreStamp_tick_lt (c := e.core) htick)
      (coreStamp_tick_lt (c := e.spare) htick) (show e.core.coarse < 2 ^ 8 by omega) (show e.spare.coarse < 2 ^ 8 by omega)
    exact ⟨w, by rw [hw], hfields⟩
  case unrecorded =>
    intro n e hup htap hcore hspare hrec
    rw [exec_tdcEdge, execTdcEdge_arrives hup htap hcore hspare, hrec, applyIf_false]
  case arbiter => exact fun b i hup hc hh hr hi hp => (execHitArbiter_serves hup hc hh hr hi).trans (if_neg (Nat.not_le.2 hp))
  case arbiterFull => exact fun b i hup hc hh hr hi hp => (execHitArbiter_serves hup hc hh hr hi).trans (if_pos hp)
  case watermark =>
    intro b hw hl hc hr hh hs tick hearly hdue
    have he := execWatermarkEmit_emits hw hl hc hr hh hs hearly hdue
    exact ⟨fun hp => he.trans (if_neg (Nat.not_le.2 hp)), fun hp => he.trans (if_pos hp)⟩
  case transfer =>
    intro b hsReady hup hon a u
    have he : exec (.hitPortTransfer b hsReady) s =
        if u.present a != 1 || !u.fab.writes || u.held (bankRegion b) || u.resyncing b || u.fab.cutHits.contains b.val then
          .next u
        else match (u.ioBank b).port with
          | [] => .next u
          | h :: t => .next (u.modBank b fun k => { k with port := t, shown := some h }) :=
      if_neg (by simp [hup, hon])
    refine ⟨fun h l ha hw hh hr hcut hp => ?_, fun hno => ?_⟩
    · simp only [he, ha, hw, hh, hr, hcut, hp, bne_self_eq_false, Bool.not_true, Bool.or_false, Bool.false_eq_true, if_false]
    · rw [he]
      split
      · rfl
      · next hgo =>
        have hp : (u.ioBank b).port = [] := hno.resolve_left fun ha => hgo (by simp [ha])
        rw [hp]
  case request =>
    intro n hup
    rw [exec_tdcCfgCalReq, execTdcCfgCalReq, if_pos hup, requestCal]
    refine ⟨fun hg hp => ?_, fun hno => ?_⟩
    · rw [calRequest, hg, hp]
      rfl
    · rcases hno with hg | hp
      · rw [calRequest, if_pos hg]
        rfl
      · by_cases hg : s.bit (R.BANK_CTL.SPARE_GONE (n.val / 48)) (n.val % 48 / 16) = true
        · rw [calRequest, if_pos hg]
          rfl
        · rw [calRequest, if_neg hg, if_pos hp]
          rfl
  case turn =>
    intro b g hup hc hs hn hg hh
    have he := execTdcRotationTurn_turns hup hc hh hs hn hg
    refine ⟨fun n q hq => ?_, fun hq => ⟨fun i hi h16 => ?_, fun hi => ?_, fun hi => ?_⟩⟩ <;> rw [hq] at he <;>
      refine he.trans ?_ <;> dsimp only
    · rw [hi]
      exact if_neg h16
    · rw [hi]
      rfl
    · rw [hi]
  case switch => exact fun n hc hcal ht => if_pos ⟨hc, hcal, by rw [ht]; rfl⟩
  case density =>
    intro n counts hc hcal
    have he := execTdcCodeDensityDone_channel counts hc hcal
    exact ⟨fun tab ht => by rw [ht] at he; exact he, fun ht => by rw [ht] at he; exact he⟩
  case spare =>
    intro k counts hc hs u
    have he := execTdcCodeDensityDone_spare counts hc hs
    exact ⟨fun tab ht => by rw [ht] at he; exact he, fun ht => by rw [ht] at he; exact he⟩
  case back => exact fun n hc hcal ht => if_pos ⟨hc, hcal, by rw [ht]; rfl⟩

end Sys2Proof.Machine
end

section
/-! PROOFS. The measurement commands. -/

namespace Sys2Proof.Machine

/-- Settles O13: each command by its checks and its meaning. -/
theorem measureCommandsComplete : Obligations.MeasureCommandsComplete := by
  unfold Obligations.MeasureCommandsComplete
  intro mb s
  refine ⟨?pinGet, ?pinSet, ?tdcSet, ?tdcCal, ?tdcStat, ?tpArm, ?dacSet, ?adcGet, ?hkpRead, ?hkpMask⟩
  case pinGet => exact fun n h hn => completes_served h rfl (if_neg (Nat.not_le.2 hn))
  case pinSet =>
    intro n v h hn hp hstd hdir hsafe
    exact completes_checked h rfl (by simp [Nat.not_le.2 hn, hp, hstd, hdir, hsafe]) rfl
  case tdcSet =>
    intro n v h hn ht
    refine completes_served h rfl ?_
    rw [if_neg (Nat.not_le.2 hn), begun_tdcTested, ht]
    rfl
  case tdcCal =>
    intro n h hn ht
    refine completes_served h rfl ?_
    rw [if_neg (Nat.not_le.2 hn), begun_tdcTested, ht]
    rfl
  case tdcStat =>
    intro n h hn ht
    refine completes_served h rfl ?_
    rw [if_neg (Nat.not_le.2 hn), begun_tdcTested, ht]
    rfl
  case tpArm =>
    intro first count tick h hf h1 h48 hd ha
    refine completes_served h rfl (if_neg ?_)
    rw [begun_tickAhead, ha]
    simp only [Bool.not_true, Bool.false_eq_true, or_false]
    omega
  case dacSet =>
    intro k code h hk hcode hh
    refine runs_checked h rfl (by simp [Nat.not_le.2 hk, Nat.not_le.2 hcode, hh]) ?_
    rw [← begun_serial s mb]
  case adcGet => exact fun i h hi => completes_served h rfl (if_neg (Nat.not_le.2 hi))
  case hkpRead => exact fun first count h h1 h32 hr => completes_served h rfl (if_neg (by omega))
  case hkpMask =>
    intro m h
    refine ⟨fun hm => completes_served h rfl (if_neg (not_not.2 hm)), fun hm => completes_served h rfl (if_pos hm)⟩

end Sys2Proof.Machine
end

section
/-! PROOFS. A region that takes no edge: what its clock nets do while they run on (R139, R142–R144, R181). -/

namespace Sys2Proof.Machine

/-! ## Bits of a register field -/

/-- Clearing one bit of a number leaves the others. -/
theorem testBit_sub_two_pow {v i j : Nat} (hi : v.testBit i = true) (hj : j ≠ i) :
    (v - 2 ^ i).testBit j = v.testBit j := by
  have hle : 2 ^ i ≤ v := Nat.ge_two_pow_of_testBit hi
  obtain ⟨w, rfl⟩ := Nat.exists_eq_add_of_le hle
  rw [Nat.add_sub_cancel_left]
  have hw : w.testBit i = false := by
    rw [Nat.testBit_two_pow_add_eq] at hi
    simpa using hi
  rcases Nat.lt_or_gt_of_ne hj with h | h
  · exact (Nat.testBit_two_pow_add_gt h w).symm
  · obtain ⟨k, rfl⟩ := Nat.exists_eq_add_of_lt h
    have hlow : w % 2 ^ (i + 1) < 2 ^ i := by
      have hbit : w / 2 ^ i % 2 = 0 := by
        rw [Nat.testBit_eq_decide_div_mod_eq] at hw
        have := decide_eq_false_iff_not.1 hw
        omega
      rw [Nat.pow_succ, Nat.mod_mul, hbit, Nat.mul_zero, Nat.add_zero]
      exact Nat.mod_lt _ (Nat.two_pow_pos i)
    have hdiv : (2 ^ i + w) / 2 ^ (i + 1) = w / 2 ^ (i + 1) := by
      conv_lhs => rw [← Nat.div_add_mod w (2 ^ (i + 1)), Nat.add_left_comm, Nat.mul_add_div (Nat.two_pow_pos _)]
      rw [Nat.div_eq_of_lt (show 2 ^ i + w % 2 ^ (i + 1) < 2 ^ (i + 1) by omega), Nat.add_zero]
    rw [show i + k + 1 = k + (i + 1) by omega, Nat.testBit_add, Nat.testBit_add, hdiv]

/-- Clearing a bit leaves every field of another key. -/
theorem State.get_setBit_ne (s : State) {f g : Fld} (i : Nat) (b : Bool) (h : g.key ≠ f.key) :
    (s.setBit f i b).get g = s.get g := by
  unfold State.setBit
  split
  · rfl
  · exact State.get_set_ne _ _ h

/-- Clearing one bit of a field leaves its other bits. -/
theorem State.bit_setBit_false_ne (s : State) {f : Fld} {i j : Nat} (hj : j ≠ i) (hw : j < f.w) :
    (s.setBit f i false).bit f j = s.bit f j := by
  unfold State.setBit
  split
  · rfl
  · next h =>
    have hi : (s.get f).testBit i = true := by simpa [State.bit] using h
    rw [State.bit, State.get_set_same, Nat.testBit_mod_two_pow]
    simp [hw, State.bit, testBit_sub_two_pow hi hj]


/-- What reads 1 where nothing is stored, stored under a reset value 0, is never read as 0. -/
theorem at'_putD_zero_ne_zero (m : SMap Nat) (k v : Nat) {d : Nat} (hd : d ≠ 0) : at' (putD m k 0 v) k d ≠ 0 := by
  unfold putD
  split
  · rwa [at', lookup_del_same]
  · next hv => rwa [at'_put_same]

/-! ## A region that is stopped -/

/-- Net `n` of region `r` brings its flip-flops no edge: its set/reset is held, a fence holds it, or its nets wait for the
release (R139, R144, R181). -/
def State.Stopped (s : State) (r n : Nat) : Prop :=
  s.srHeld r = true ∨ s.flag (R.BORDER_STAT.FENCED r) = true ∨ 2 ≤ at' s.fab.rel n 0

/-- From `s` to `t`, the flip-flops, the block memories and the edges that nets have passed stay, and so do the enable and the
gates of net `n`. -/
structure Quiet (r n : Nat) (s t : State) : Prop where
  ff : t.fab.ff = s.fab.ff
  bm : t.bm = s.bm
  acts : t.fab.acts = s.fab.acts
  gate : t.gate n = s.gate n
  phase : t.fab.phase = s.fab.phase
  enableLow : t.enableLow n = s.enableLow n
  pass : t.get (R.RCN_CFG.SHED_PASS n) = s.get (R.RCN_CFG.SHED_PASS n)
  fenced : t.get (R.BORDER_STAT.FENCED r) = s.get (R.BORDER_STAT.FENCED r)

/-- As `Quiet`, and net `n` stays stopped where it is. -/
structure Still (r n : Nat) (s t : State) : Prop extends Quiet r n s t where
  stopped : s.Stopped r n → t.Stopped r n

section

variable {r n : Nat} {s t u : State}

theorem Quiet.trans (h : Quiet r n s t) (h' : Quiet r n t u) : Quiet r n s u :=
  ⟨h'.ff.trans h.ff, h'.bm.trans h.bm, h'.acts.trans h.acts, h'.gate.trans h.gate, h'.phase.trans h.phase,
    h'.enableLow.trans h.enableLow, h'.pass.trans h.pass, h'.fenced.trans h.fenced⟩

theorem Still.refl : Still r n s s := ⟨⟨rfl, rfl, rfl, rfl, rfl, rfl, rfl, rfl⟩, id⟩

theorem Still.trans (h : Still r n s t) (h' : Still r n t u) : Still r n s u :=
  ⟨h.toQuiet.trans h'.toQuiet, h'.stopped ∘ h.stopped⟩

theorem Still.ite {c : Prop} [Decidable c] (ht : Still r n s t) (hu : Still r n s u) : Still r n s (if c then t else u) := by
  split <;> assumption

theorem Still.applyIf {c : Bool} {f : State → State} (hf : Still r n s (f s)) : Still r n s (applyIf c f s) := .ite hf .refl

theorem Still.forEach {α : Type} {f : α → State → State} (l : List α) (s : State) (hf : ∀ a u, Still r n u (f a u)) :
    Still r n s (forEach l f s) :=
  forEach_ind (Still r n s) f l s .refl fun a u h => h.trans (hf a u)

/-- The fields on which it depends whether net `n` is stopped and what its next edge does. -/
def watched (r n : Nat) : List Fld :=
  [R.FAB_CTL.GSR_HELD, R.RST_FUNC.HOLD (r / 32), R.BORDER_STAT.FENCED r, R.RCN_CFG.CE_EN n, R.RCN_CFG.SHED_PASS n]

/-- What leaves the fabric, the block memories, those fields and the overwrite state alone is still. -/
theorem Still.ofGet (hf : t.fab = s.fab) (hb : t.bm = s.bm) (hg : ∀ f ∈ watched r n, t.get f = s.get f)
    (ho : (t.ctxR r).ow = (s.ctxR r).ow) : Still r n s t := by
  simp only [watched, List.forall_mem_cons] at hg
  obtain ⟨hgsr, hhold, hfenced, henable, hpass, -⟩ := hg
  refine ⟨⟨by rw [hf], hb, by rw [hf], by rw [State.gate, hf, State.gate], by rw [hf], ?_, hpass, hfenced⟩, ?_⟩
  · simp only [State.enableLow, State.flag, henable, hf]
  · simp only [State.Stopped, State.srHeld, State.flag, State.held, State.bit, hgsr, hhold, hfenced, hf, ho, imp_self]

theorem Still.off (hf : t.fab = s.fab) (hb : t.bm = s.bm) (hr : t.regs = s.regs)
    (ho : (t.ctxR r).ow = (s.ctxR r).ow) : Still r n s t :=
  .ofGet hf hb (fun f _ => by rw [State.get, hr, State.get]) ho

/-- A register that is none of those fields. -/
def Fld.Aside (r n : Nat) (f : Fld) : Prop := ∀ g ∈ watched r n, g.key ≠ f.key

theorem Still.set {f : Fld} (v : Nat) (h : f.Aside r n) : Still r n s (s.set f v) :=
  .ofGet rfl rfl (fun g hg => State.get_set_ne s v (h g hg)) rfl


/-- A change of a region's context state that leaves its overwrite state is still. -/
theorem Still.modCtx (q : Nat) {f : CtxR → CtxR} (hf : ∀ c, (f c).ow = c.ow) : Still r n s (s.modCtx q f) := by
  refine .off rfl rfl rfl ?_
  by_cases hq : r = q
  · subst hq
    exact (congrArg CtxR.ow (at'_putD_same _ _ _ _)).trans (hf _)
  · exact congrArg CtxR.ow (at'_putD_ne _ _ _ _ hq)

/-- A change of the fabric that leaves flip-flops, edges, gates, phases, enables and releases is still. -/
theorem Still.modFab {f : Fab → Fab} (hff : (f s.fab).ff = s.fab.ff) (ha : (f s.fab).acts = s.fab.acts)
    (hg : (f s.fab).gate = s.fab.gate) (hp : (f s.fab).phase = s.fab.phase) (hc : (f s.fab).ceLow = s.fab.ceLow)
    (hr : 2 ≤ at' s.fab.rel n 0 → 2 ≤ at' (f s.fab).rel n 0) : Still r n s (s.modFab f) := by
  refine ⟨⟨hff, rfl, ha, ?_, hp, ?_, rfl, rfl⟩, ?_⟩
  · simp only [State.gate, State.modFab, hg]
  · simp only [State.enableLow, State.modFab, hc]
    rfl
  · exact Or.imp id (Or.imp id hr)

section

variable {f : Fld} {i : Nat} (hl : f.lsb = 0)
include hl

theorem State.get_setBit_zero {g : Fld} (hg : g.lsb % 64 ≠ 0) : (s.setBit f i false).get g = s.get g :=
  State.get_setBit_ne s i false (by rw [Fld.key, Fld.key, hl]; omega)

theorem Quiet.clearBit : Quiet r n s (s.setBit f i false) := by
  have hfab : (s.setBit f i false).fab = s.fab := State.setBit_fab ..
  refine ⟨by rw [hfab], State.setBit_bm .., by rw [hfab], by rw [State.gate, hfab, State.gate], by rw [hfab], ?_,
    State.get_setBit_zero hl (by simp [R.RCN_CFG.SHED_PASS]), State.get_setBit_zero hl (by simp [R.BORDER_STAT.FENCED])⟩
  rw [State.enableLow, State.enableLow, State.flag, State.flag, State.get_setBit_zero hl (by simp [R.RCN_CFG.CE_EN]), hfab]

/-- Clearing a bit of a register at bit 0 that reads 0 after reset is still, unless the bit is the hold of the region. The
global set/reset, should the register be its own, is not released: what is cleared reads its reset value, and that is 1. -/
theorem Still.clearBit (h0 : f.rst = 0)
    (hh : f.key = (R.RST_FUNC.HOLD (r / 32)).key → f = R.RST_FUNC.HOLD (r / 32) ∧ r % 32 ≠ i) :
    Still r n s (s.setBit f i false) := by
  have hgsr : s.flag R.FAB_CTL.GSR_HELD = true → (s.setBit f i false).flag R.FAB_CTL.GSR_HELD = true := by
    by_cases hk : f.key = R.FAB_CTL.GSR_HELD.key
    · intro h
      unfold State.setBit
      split
      · exact h
      · simp only [State.flag, State.get, State.set, ← hk, h0]
        exact bne_iff_ne.2 (at'_putD_zero_ne_zero _ _ _ Nat.one_ne_zero)
    · rw [State.flag, State.flag, State.get_setBit_ne s i false (Ne.symm hk)]
      exact id
  have hheld : (s.setBit f i false).held r = s.held r := by
    by_cases hk : f.key = (R.RST_FUNC.HOLD (r / 32)).key
    · obtain ⟨rfl, hi⟩ := hh hk
      exact State.bit_setBit_false_ne s hi (Nat.mod_lt _ (by decide))
    · rw [State.held, State.held, State.bit, State.bit, State.get_setBit_ne s i false (Ne.symm hk)]
  have hctx : (s.setBit f i false).ctxR = s.ctxR := by simp [funext_iff, State.ctxR]
  refine ⟨.clearBit hl, ?_⟩
  simp only [State.Stopped, State.srHeld, hheld, hctx, State.setBit_fab, Bool.or_eq_true]
  refine Or.imp (Or.imp (Or.imp hgsr id) id) (Or.imp (fun h => ?_) id)
  rwa [State.flag, State.get_setBit_zero hl (by simp [R.BORDER_STAT.FENCED])]

end

/-- The nets of a region wait for their release after its set/reset (R144). -/
theorem releaseNets_rel (q : Nat) (s : State) (n : Nat) :
    at' (releaseNets q s).fab.rel n 0 = if n / 16 = q then 3 else at' s.fab.rel n 0 := by
  have : ∀ (l : List Nat) (u : State), at' (Machine.forEach l (fun k s => s.modFab fun f =>
      { f with rel := put f.rel (16 * q + k) 3 }) u).fab.rel n 0 =
      if ∃ k ∈ l, n = 16 * q + k then 3 else at' u.fab.rel n 0 := by
    intro l
    induction l with
    | nil => intro u; simp
    | cons a l ih =>
      intro u
      rw [forEach_cons, ih]
      by_cases ha : n = 16 * q + a
      · subst ha
        simp [State.modFab, at'_put_same]
      · simp [State.modFab, at'_put_ne _ _ _ ha, ha]
  rw [releaseNets, this]
  refine if_congr ?_ rfl rfl
  simp only [List.mem_range]
  constructor
  · rintro ⟨k, hk, rfl⟩
    omega
  · rintro rfl
    exact ⟨n % 16, Nat.mod_lt _ (by decide), by omega⟩

theorem releaseNets_still (q : Nat) : Still r n s (releaseNets q s) :=
  .forEach _ _ fun k u => .modFab rfl rfl rfl rfl rfl fun h => by
    by_cases hk : n = 16 * q + k
    · subst hk
      rw [at'_put_same]
      decide
    · rwa [at'_put_ne _ _ _ hk]

/-- A region that leaves its reset is still: another region, or this one, whose nets then wait for their release. -/
theorem Still.leaveReset (hr : r < 128) (hnr : n / 16 = r) (q : Nat) (m : Mgt) {g : CtxR → CtxR}
    (hg : ∀ c, (g c).ow = c.ow) : Still r n s (releaseNets q (State.modCtx { (s.setBit (R.RST_FUNC.HOLD (q / 32))
      (q % 32) false).setBit (R.RST_ACT.ACT (q / 32)) (q % 32) false with mgt := m } q g)) := by
  have hrest (u : State) : Still r n u (releaseNets q (State.modCtx { u with mgt := m } q g)) :=
    .trans (t := { u with mgt := m }) (.off rfl rfl rfl rfl) (.trans (.modCtx q hg) (releaseNets_still q))
  by_cases hq : q = r
  · refine ⟨(Quiet.clearBit rfl).trans ((Quiet.clearBit rfl).trans (hrest _).toQuiet), fun _ => .inr (.inr ?_)⟩
    rw [releaseNets_rel, if_pos (hnr.trans hq.symm)]
    decide
  · refine .trans (.clearBit rfl rfl fun hk => ?_) (.trans (.clearBit rfl rfl fun hk => ?_) (hrest _))
    · simp only [Fld.key, R.RST_FUNC.HOLD] at hk
      have hw : q / 32 = r / 32 := by omega
      exact ⟨by rw [hw], by omega⟩
    · simp only [Fld.key, R.RST_FUNC.HOLD, R.RST_ACT.ACT] at hk
      omega

/-- The end of a repair that kept a region in reset is still (R144, R480). -/
theorem Still.endUncHold (hr : r < 128) (hnr : n / 16 = r) (q : Nat) : Still r n s (endUncHold q s) := by
  unfold Machine.endUncHold
  refine .ite .refl (.trans (t := { s with integ := { s.integ with uncHeld := s.integ.uncHeld.filter fun k => k != q } })
    (.off rfl rfl rfl rfl) (.ite .refl ?_))
  exact .leaveReset hr hnr q _ fun _ => rfl

theorem Still.raise (hr : r < 128) (hn : n < 2048) (code : Nat) (args : List (Nat × Nat)) :
    Still r n s (raise code args s) := by
  refine .ofGet (raise_fab ..) (raise_bm ..) (fun f hf => raise_get _ _ _ _ ?_) ?_
  · simp only [watched, List.mem_cons, List.not_mem_nil, or_false] at hf
    rcases hf with rfl | rfl | rfl | rfl | rfl <;> simp only [Fld.Plain, Fld.key, R.FAB_CTL.GSR_HELD, R.RST_FUNC.HOLD,
      R.BORDER_STAT.FENCED, R.RCN_CFG.CE_EN, R.RCN_CFG.SHED_PASS] <;> omega
  · rw [State.ctxR, raise_ctx, State.ctxR]

section

variable (hr : r < 128) (hn : n < 2048)
include hr hn

theorem Still.finishCmd (c status : Nat) (result : List Nat) (late : Bool) :
    Still r n s (finishCmd c status result late s) := by
  unfold Machine.finishCmd
  split
  · exact .ite (.off rfl rfl rfl rfl) .refl
  · split
    · refine .trans ?_ (.raise hr hn _ _)
      exact .off rfl rfl rfl rfl
    · exact .refl

/-- Registers of the context and of the block memories are no watched ones. -/
theorem aside_of_lsb {f : Fld} (ha : 0x102200 ≤ f.addr) (hl : f.lsb < 64) (h4 : f.lsb = 4 → 0x102400 ≤ f.addr) :
    f.Aside r n := by
  intro g hg
  simp only [watched, List.mem_cons, List.not_mem_nil, or_false] at hg
  rcases hg with rfl | rfl | rfl | rfl | rfl <;> simp only [Fld.key, R.FAB_CTL.GSR_HELD, R.RST_FUNC.HOLD,
      R.BORDER_STAT.FENCED, R.RCN_CFG.CE_EN, R.RCN_CFG.SHED_PASS] <;> omega

theorem psField_aside (p : Nat) : (psField r p).Aside r n := by
  refine aside_of_lsb hr hn ?_ ?_ fun _ => ?_ <;> unfold psField <;> split <;>
    simp only [R.CTX_STAT.PS0, R.CTX_STAT.PS1, R.CTX_STAT.PS2, R.CTX_STAT.PS3] <;> omega

theorem Still.cancelRepairs (hnr : n / 16 = r) (k : Nat) : Still r n s (cancelRepairs k s) := by
  refine .trans (t := { s with integ := { s.integ with
    queue := s.integ.queue.filter fun e => e.1 != k
    asks := s.integ.asks.filter fun e => e.2.1 != k } }) (.off rfl rfl rfl rfl) ?_
  refine .trans (.forEach (s.integ.asks.filter fun e => e.2.1 == k) _ fun e u => .finishCmd hr hn e.1 stCancelled [] false) ?_
  exact .ite (.endUncHold hr hnr _) .refl

theorem Still.refreshPlanes : Still r n s (refreshPlanes r s) :=
  .forEach _ _ fun m u => .set _ (aside_of_lsb hr hn (Nat.le_add_right_of_le (by decide))
    (show (2 : Nat) < 64 by decide) fun h => absurd h (show (2 : Nat) ≠ 4 by decide))

theorem Still.emptyPlane (hnr : n / 16 = r) (p : Nat) : Still r n s (emptyPlane r p s) := by
  refine .trans (.set psEmpty (psField_aside hr hn p)) (.trans
    (t := State.modPlane (s.set (psField r p) psEmpty) r p fun _ => Plane.empty) (.off rfl rfl rfl rfl) ?_)
  exact .trans (.cancelRepairs hr hn hnr (4 * r + p)) (.refreshPlanes hr hn)

theorem Still.placeState (hnr : n / 16 = r) (e : Nat × Nat × Nat) : Still r n s (placeState r e s) :=
  .ite (.trans (.emptyPlane hr hn hnr e.1) (.finishCmd hr hn e.2.2 stOk [] false)) (.set _ (psField_aside hr hn e.1))

theorem Still.placeDue (hnr : n / 16 = r) : Still r n s (placeDue r s) :=
  .trans (.modCtx r (f := fun c => { c with due := [] }) fun _ => rfl)
    (.forEach (s.ctxR r).due _ fun e _ => .placeState hr hn hnr e)

theorem Still.beginHold : Still r n s (beginHold r s) :=
  .ite .refl (.trans (.ite .refl (.modFab rfl rfl rfl rfl rfl id)) (.set 1 (aside_of_lsb hr hn
    (Nat.le_add_right_of_le (by decide)) (show (0 : Nat) < 64 by decide) fun h => absurd h (show (0 : Nat) ≠ 4 by decide))))

theorem Still.endRotation : Still r n s (endRotation r s) := by
  have hrot : (R.CTX_STAT.ROTATING r).Aside r n := aside_of_lsb hr hn (Nat.le_add_right_of_le (by decide))
    (show (10 : Nat) < 64 by decide) fun h => absurd h (show (10 : Nat) ≠ 4 by decide)
  have hen : (R.CTX_CFG.ROT_EN r).Aside r n := aside_of_lsb hr hn (Nat.le_add_right_of_le (by decide))
    (show (5 : Nat) < 64 by decide) fun h => absurd h (show (5 : Nat) ≠ 4 by decide)
  exact .trans (.set 0 hrot) (.trans (.set 0 hen) (.modCtx r fun _ => rfl))

theorem Still.refreshBorder : Still r n s (refreshBorder r s) := by
  have hcause : (R.BORDER_STAT.CAUSE r).Aside r n := aside_of_lsb hr hn (Nat.le_add_right_of_le (by decide))
    (show (1 : Nat) < 64 by decide) fun h => absurd h (show (1 : Nat) ≠ 4 by decide)
  have hhold : (R.BORDER_STAT.HOLDING r).Aside r n := aside_of_lsb hr hn (Nat.le_add_right_of_le (by decide))
    (show (0 : Nat) < 64 by decide) fun h => absurd h (show (0 : Nat) ≠ 4 by decide)
  exact .trans (.applyIf (.beginHold hr hn)) (.trans (.set _ hcause) (.trans (.set _ hhold) (.applyIf (.endRotation hr hn))))

theorem Still.endSwap : Still r n s (endSwap r s) :=
  .trans (.modCtx r (f := fun c => { c with inSwap := false }) fun _ => rfl)
    (.trans (.forEach _ _ fun _ _ => .ite .refl (.modFab rfl rfl rfl rfl rfl id)) (.refreshBorder hr hn))

theorem Still.endResetCause : Still r n s (endResetCause r s) :=
  .ite (.trans (.modCtx r (f := fun c => { c with rstCause := 0 }) fun _ => rfl) (.refreshBorder hr hn)) .refl

theorem Still.ctxEdge (hnr : n / 16 = r) : Still r n s (ctxEdge r s) := by
  unfold Machine.ctxEdge
  extract_lets c u v w
  have hu : Still r n s u := .applyIf (.endSwap hr hn)
  have hv : Still r n u v := .modCtx r fun _ => rfl
  have hw : Still r n v w := .placeDue hr hn hnr
  exact (hu.trans (hv.trans hw)).trans
    (.ite (.trans (.modCtx r (f := fun c => { c with rstCause := 2 }) fun _ => rfl) (.refreshBorder hr hn)) .refl)

end

end

/-! ## Edges of a region that is stopped -/

/-- A region in set/reset or behind a fence takes no edge. -/
theorem frozen_of_stopped {s : State} {r : Nat} (h : s.srHeld r = true ∨ s.flag (R.BORDER_STAT.FENCED r) = true) :
    s.frozen r = true := by
  rcases h with h | h <;> simp [State.frozen, h]

section

variable {n : Nat} (hn : n < 2048) (i : FabIn) (s : State)
include hn

theorem div16_lt : n / 16 < 128 := by omega

omit hn in
theorem running_aside (n : Nat) : (R.RCN_CFG.RUNNING n).Aside (n / 16) n := by
  intro g hg
  simp only [watched, List.mem_cons, List.not_mem_nil, or_false] at hg
  rcases hg with rfl | rfl | rfl | rfl | rfl <;> simp only [Fld.key, R.FAB_CTL.GSR_HELD, R.RST_FUNC.HOLD,
    R.BORDER_STAT.FENCED, R.RCN_CFG.CE_EN, R.RCN_CFG.SHED_PASS, R.RCN_CFG.RUNNING] <;> omega

/-- The stop gate counts the edge, and leaves all else still. -/
theorem gateStep_still : Still (n / 16) n (s.modFab fun f => { f with gate := putD f.gate n ⟨false, 0⟩ (s.nextGate n) })
    (gateStep n s) :=
  .trans (.applyIf (.set 0 (running_aside n))) (.applyIf (.placeDue (div16_lt hn) hn rfl))

theorem gateStep_gate : (gateStep n s).gate n = s.nextGate n :=
  (gateStep_still hn s).gate.trans (at'_putD_same _ _ _ _)

/-- An edge that a net passes reaches no flip-flop of a region that is stopped. -/
theorem performEdge_stopped (h : s.Stopped (n / 16) n) :
    (performEdge n i s).fab.ff = s.fab.ff ∧ (performEdge n i s).bm = s.bm := by
  unfold performEdge
  extract_lets r k u v
  split
  · exact ⟨rfl, rfl⟩
  next hsr =>
  split
  · exact ⟨rfl, rfl⟩
  next hrel =>
  have hr := div16_lt hn
  have hfenced : s.flag (R.BORDER_STAT.FENCED (n / 16)) = true := (h.resolve_left hsr).resolve_right hrel
  have hv : Still (n / 16) n u v := .applyIf (.endResetCause hr hn)
  have hfrozen : v.frozen (n / 16) = true := by
    have : v.flag (R.BORDER_STAT.FENCED (n / 16)) = true := by rw [State.flag, hv.fenced]; exact hfenced
    rw [State.frozen, this, Bool.or_true]
  rw [if_pos hfrozen]
  exact ⟨hv.ff, hv.bm⟩

/-- The net as its source begins a rising edge. -/
def riseStart (n : Nat) (s : State) : State :=
  applyIf (n == (lowNet n s).ctxNet (n / 16)) (fun s => s.modCtx (n / 16) fun c => { c with edge := false }) (lowNet n s)

omit hn in
theorem riseStart_nextGate : (riseStart n s).nextGate n = s.nextGate n := by
  unfold riseStart applyIf
  split <;> rfl

omit hn in
theorem riseStart_sourceRuns : (riseStart n s).sourceRuns n = s.sourceRuns n := by
  unfold riseStart applyIf
  split <;> rfl

omit hn in
theorem riseStart_still (n : Nat) (s : State) : Still (n / 16) n (lowNet n s) (riseStart n s) := .applyIf (.modCtx _ fun _ => rfl)

omit hn in
theorem lowNet_stopped (h : s.Stopped (n / 16) n) : (lowNet n s).Stopped (n / 16) n := h

/-- The net as its rising edge leaves the stop gate. -/
def riseGated (n : Nat) (s : State) : State := gateStep n (riseStart n s)

/-- The net as its rising edge leaves the shed gate. -/
def riseShed (n : Nat) (s : State) : State :=
  (riseGated n s).modFab fun f => { f with phase := putD f.phase n 0 ((at' f.phase n 0 + 1) % 16) }

/-- The net as its rising edge leaves it. -/
def riseHigh (n : Nat) (s : State) : State :=
  ((riseShed n s).set (R.RCN_CFG.RUNNING n) 1).modFab fun f => { f with high := n :: f.high }

omit hn in
/-- A rising edge through the four stages of its net (R150). -/
theorem risingEdge_eq : risingEdge n i s =
    if !(riseStart n s).sourceRuns n then riseStart n s
    else if (riseGated n s).enableLow n then riseGated n s
    else if (riseGated n s).shedPasses n && ((riseGated n s).gate n).isOpen then
      performEdge n i (applyIf (n == (riseHigh n s).ctxNet (n / 16)) (ctxEdge (n / 16)) (riseHigh n s))
    else riseShed n s := rfl

/-- Through the gates nothing of the region moves. -/
theorem riseGated_keeps : (riseGated n s).fab.ff = s.fab.ff ∧ (riseGated n s).bm = s.bm ∧
    (riseGated n s).fab.acts = (lowNet n s).fab.acts ∧ (s.Stopped (n / 16) n → (riseGated n s).Stopped (n / 16) n) := by
  have hb := riseStart_still n s
  have hc := gateStep_still hn (riseStart n s)
  exact ⟨hc.ff.trans hb.ff, hc.bm.trans hb.bm, hc.acts.trans hb.acts, fun h => hc.stopped (hb.stopped (lowNet_stopped s h))⟩

omit hn in
theorem riseHigh_still (n : Nat) (s : State) : Still (n / 16) n (riseShed n s) (riseHigh n s) :=
  .trans (.set 1 (running_aside n)) (.modFab rfl rfl rfl rfl rfl id)

/-- A rising edge reaches no flip-flop of a region that is stopped. -/
theorem risingEdge_stopped (h : s.Stopped (n / 16) n) :
    (risingEdge n i s).fab.ff = s.fab.ff ∧ (risingEdge n i s).bm = s.bm := by
  obtain ⟨hff, hbm, -, hstop⟩ := riseGated_keeps hn s
  have hhigh : Still (n / 16) n (riseShed n s)
      (applyIf (n == (riseHigh n s).ctxNet (n / 16)) (ctxEdge (n / 16)) (riseHigh n s)) :=
    (riseHigh_still n s).trans (.applyIf (.ctxEdge (div16_lt hn) hn rfl))
  obtain ⟨pff, pbm⟩ := performEdge_stopped hn i _ (hhigh.stopped (show (riseShed n s).Stopped (n / 16) n from hstop h))
  rw [risingEdge_eq]
  split
  · exact ⟨(riseStart_still n s).ff, (riseStart_still n s).bm⟩
  split
  · exact ⟨hff, hbm⟩
  split
  · exact ⟨pff.trans (hhigh.ff.trans hff), pbm.trans (hhigh.bm.trans hbm)⟩
  · exact ⟨hff, hbm⟩

/-- A rising edge that a stage of its net does not pass moves nothing, and is not kept as an edge. -/
theorem risingEdge_blocked (h : s.passesNext n = false) :
    (risingEdge n i s).fab.ff = s.fab.ff ∧ (risingEdge n i s).bm = s.bm ∧ (risingEdge n i s).acted n false = false := by
  obtain ⟨hff, hbm, hacts, -⟩ := riseGated_keeps hn s
  have hb := riseStart_still n s
  have hlow : (lowNet n s).acted n false = false := by
    simp [State.acted, lowNet, State.modFab]
  have hc := gateStep_still hn (riseStart n s)
  have hgate : (riseGated n s).gate n = s.nextGate n := (gateStep_gate hn _).trans (riseStart_nextGate s)
  have hphase : (riseGated n s).fab.phase = s.fab.phase := hc.phase.trans hb.phase
  have hpass : (riseGated n s).get (R.RCN_CFG.SHED_PASS n) = s.get (R.RCN_CFG.SHED_PASS n) := hc.pass.trans hb.pass
  have hshed : (riseGated n s).shedPasses n = s.shedPasses n := by
    rw [State.shedPasses, hphase, hpass, State.shedPasses]
  have henable : (riseGated n s).enableLow n = s.enableLow n := hc.enableLow.trans hb.enableLow
  rw [risingEdge_eq, hgate, hshed, henable, riseStart_sourceRuns]
  have hacted {u : State} (hu : u.fab.acts = (lowNet n s).fab.acts) : u.acted n false = false := by
    rw [State.acted, hu]
    exact hlow
  split
  · exact ⟨hb.ff, hb.bm, hacted hb.acts⟩
  next hs =>
  split
  · exact ⟨hff, hbm, hacted hacts⟩
  next he =>
  split
  · next hgo =>
    simp [State.passesNext] at h hs he hgo
    simp [hs, he, hgo] at h
  · exact ⟨hff, hbm, hacted hacts⟩

omit hn in
/-- A falling edge reaches no flip-flop of a region that is stopped. -/
theorem fallingEdge_stopped (h : s.srHeld (n / 16) = true ∨ s.flag (R.BORDER_STAT.FENCED (n / 16)) = true) :
    (fallingEdge n i s).fab.ff = s.fab.ff ∧ (fallingEdge n i s).bm = s.bm := by
  have hfrozen : (lowNet n s).frozen (n / 16) = true := frozen_of_stopped (s := s) h
  unfold fallingEdge
  split
  · exact ⟨rfl, rfl⟩
  · simp only [hfrozen, Bool.true_or, if_true]
    exact ⟨rfl, rfl⟩

end

/-! ## Edges that a region takes -/

/-- A falling edge that follows a passed rising edge reaches the flip-flops of a region that takes edges. -/
theorem fallingEdge_acts {n : Nat} (i : FabIn) (s : State) (hhigh : n ∈ s.fab.high) (hf : s.frozen (n / 16) = false)
    (hrel : at' s.fab.rel n 0 = 0) (hskip : at' s.fab.skip (2 * n + 1) 0 = 0) :
    fallingEdge n i s = actEdge n true i (lowNet n s) := by
  have hlow : (lowNet n s).frozen (n / 16) = false := hf
  have hrel' : at' (lowNet n s).fab.rel n 0 = 0 := hrel
  have hskip' : at' (lowNet n s).fab.skip (2 * n + 1) 0 = 0 := hskip
  have hcont : s.fab.high.contains n = true := List.contains_iff_mem.2 hhigh
  simp only [fallingEdge, hcont, hlow, hrel', hskip', Bool.not_true, bne_self_eq_false, Bool.or_false, ne_eq, not_true,
    Bool.false_eq_true, if_false]

/-- The flip-flops of one cell follow Table 5-7; nothing but flip-flops, outputs and pillars moves. -/
theorem recordFab_takeFfs {r : Nat} {e : Option EdgeOf} {i : FabIn} {u : CluIn} {x : CellIn} (s : State)
    (h1 : i.clu = [u]) (h2 : u.cells = [x]) (hu : u.hazard = 0) (he : ∀ y, e = some y → y.narrow = false) :
    let t := recordFab r i (takeFfs r e i s)
    FollowsTable57 s t r e i u x ∧ t.regs = s.regs ∧ t.bm = s.bm ∧ t.cache = s.cache ∧ t.bulk = s.bulk := by
  obtain ⟨m, hm⟩ := (ffTake_ffOnly r e i u x 0 s he hu).trans (ffTake_ffOnly r e i u x 1 _ he hu)
  rw [← takeFfs_one r e i u x s h1 h2] at hm
  refine ⟨(takeFfs_follows r e i u x s h1 h2 he hu).congr rfl (fun _ _ => rfl) (recordFab_ffVal r i _), ?_⟩
  rw [hm]
  exact ⟨rfl, rfl, rfl, rfl⟩

/-- Settles O14: edges that a region takes by the lemmas on `takeFfs`, and edges of a region that is stopped by what keeps it
so. -/
theorem flipFlopTakesItsNextValue : Obligations.FlipFlopTakesItsNextValue := by
  unfold Obligations.FlipFlopTakesItsNextValue
  refine ⟨fun s i u x hup h1 h2 hu => ⟨?wire, ?rise, ?fall, ?between⟩, ?stopped, ?blocked, ?low⟩
  case wire =>
    intro r falling via hg hf hvia
    have hclu : i.clu.filter (fun v => v.cluster.val == u.cluster.val) = i.clu := by simp [h1]
    have he : exec (.flipFlopEdge (.wire r u.cluster falling false via i)) s =
        .next (recordFab r i (takeFfs r (some ⟨16, falling, false⟩) i s)) := by
      rw [exec_flipFlopEdge, execFlipFlopEdge, hup]
      simp only [wireEdge, hg, hf, hvia, hclu, Bool.not_true, Bool.or_false, Bool.false_eq_true, if_false]
    exact ⟨_, he, recordFab_takeFfs s h1 h2 hu (by simp)⟩
  case rise =>
    intro n hp hg hf hrel hskip hdue
    obtain ⟨h, hh, hframes, hff, hhigh, hcache, hbulk⟩ := risingEdge_passes n i s hp hg hf hrel hskip hdue
    obtain ⟨m, o, p, ha⟩ := actEdge_shape n false i u x h h1 h2 hu
    have he : exec (.flipFlopEdge (.net n false i)) s = .next (actEdge n false i h) := by
      rw [exec_flipFlopEdge, execFlipFlopEdge, hup, ← hh]
      rfl
    refine ⟨_, he, (actEdge_follows n false i u x h h1 h2 hu).congr (hframes _).symm ?_ fun _ _ => rfl, ?_⟩
    · intro q j
      rw [State.ffVal, State.ffVal, hframes, hff]
    · rw [ha]
      exact ⟨by simp [State.acted], hhigh, hcache, hbulk⟩
  case fall =>
    intro n hhigh hf hrel hskip
    have hlow : (lowNet n s).frozen (n.val / 16) = false := hf
    obtain ⟨m, o, p, ha⟩ := actEdge_shape n true i u x (lowNet n s) h1 h2 hu
    have he : exec (.flipFlopEdge (.net n true i)) s = .next (actEdge n true i (lowNet n s)) := by
      rw [exec_flipFlopEdge, execFlipFlopEdge, hup]
      exact congrArg Host.Outcome.next (fallingEdge_acts i s hhigh hf hrel hskip)
    refine ⟨_, he, (actEdge_follows n true i u x (lowNet n s) h1 h2 hu).congr rfl (fun _ _ => rfl) fun _ _ => rfl, ?_⟩
    rw [ha]
    exact ⟨by simp [State.acted], by simp [lowNet, State.modFab], rfl, rfl⟩
  case between =>
    intro r hf
    have he : exec (.flipFlopEdge (.between r i)) s = .next (recordFab r i (takeFfs r none i s)) := by
      rw [exec_flipFlopEdge, execFlipFlopEdge, hup]
      simp only [betweenEdges, hf, Bool.not_true, Bool.false_eq_true, if_false]
    exact ⟨_, he, recordFab_takeFfs s h1 h2 hu (by simp)⟩
  case stopped =>
    intro s e r h _ hwhere
    have hf := frozen_of_stopped h
    cases hup : s.up with
    | false =>
      refine ⟨s, ?_, rfl, rfl⟩
      rcases hwhere with ⟨n, falling, i, rfl, -⟩ | ⟨q, c, f, w, v, i, rfl, -⟩ | ⟨q, i, rfl, -⟩ <;>
        exact if_pos (by rw [hup]; rfl)
    | true =>
      rcases hwhere with ⟨n, falling, i, rfl, rfl⟩ | ⟨q, c, f, w, v, i, rfl, rfl⟩ | ⟨q, i, rfl, rfl⟩
      · refine ⟨_, if_neg (by simp [hup]), ?_⟩
        cases falling with
        | false => exact risingEdge_stopped n.isLt i s (h.imp id .inl)
        | true => exact fallingEdge_stopped i s h
      · refine ⟨s, (if_neg (by simp [hup])).trans (congrArg _ (if_pos ?_)), rfl, rfl⟩
        simp [hf]
      · refine ⟨_, if_neg (by simp [hup]), ?_⟩
        rw [betweenEdges, if_pos hf]
        exact ⟨rfl, rfl⟩
  case blocked =>
    intro s n i hup hp
    refine ⟨_, ?_, risingEdge_blocked n.isLt i s hp⟩
    rw [exec_flipFlopEdge, execFlipFlopEdge, hup]
    rfl
  case low =>
    intro s n i hn
    have hlow : fallingEdge n i s = s := if_pos (by simpa using hn)
    rw [exec_flipFlopEdge, execFlipFlopEdge]
    split
    · rfl
    · exact congrArg _ hlow

end Sys2Proof.Machine
end

section
/-! PROOFS. The shed gate passes P of 16 edges (R155). -/

namespace Sys2Proof.Machine

theorem shedStep_phase (n : Nat) (s : State) : at' (shedStep n s).2.fab.phase n 0 = (at' s.fab.phase n 0 + 1) % 16 :=
  at'_putD_same _ _ _ _

theorem shedStep_pass (n : Nat) (s : State) :
    (shedStep n s).2.get (R.RCN_CFG.SHED_PASS n) = s.get (R.RCN_CFG.SHED_PASS n) := rfl

/-- The edge of phase `c` is passed where `c * p / 16` steps. -/
theorem shedPasses_iff {n c p : Nat} {s : State} (hc : at' s.fab.phase n 0 = c) (hp : s.get (R.RCN_CFG.SHED_PASS n) = p) :
    s.shedPasses n = true ↔ c * p / 16 < (c + 1) * p / 16 := by
  simp only [State.shedPasses, hc, hp, decide_eq_true_eq]

/-- After `k` edges from phase 0, `k * p / 16` of them have passed. -/
theorem shedCount_run {n p : Nat} {s : State} (hp : s.get (R.RCN_CFG.SHED_PASS n) = p) (h16 : p ≤ 16)
    (h0 : at' s.fab.phase n 0 = 0) {k : Nat} (hk : k ≤ 16) :
    let run := (List.range k).foldl (fun (a : Nat × State) _ =>
      (a.1 + if (shedStep n a.2).1 then 1 else 0, (shedStep n a.2).2)) (0, s)
    run.1 = k * p / 16 ∧ at' run.2.fab.phase n 0 = k % 16 ∧ run.2.get (R.RCN_CFG.SHED_PASS n) = p := by
  induction k with
  | zero => exact ⟨by simp, h0, hp⟩
  | succ k ih =>
    obtain ⟨hcount, hphase, hpass⟩ := ih (by omega)
    rw [Nat.mod_eq_of_lt (show k < 16 by omega)] at hphase
    simp only [List.range_succ, List.foldl_append, List.foldl_cons, List.foldl_nil]
    generalize (List.range k).foldl (fun (a : Nat × State) _ =>
      (a.1 + if (shedStep n a.2).1 then 1 else 0, (shedStep n a.2).2)) (0, s) = a at hcount hphase hpass ⊢
    refine ⟨?_, ?_, hpass⟩
    · have hiff := shedPasses_iff hphase hpass
      have hstep : (k + 1) * p = k * p + p := Nat.succ_mul k p
      simp only [shedStep, hcount, hiff]
      split <;> omega
    · rw [shedStep_phase, hphase]

/-- Settles O15: the whole run of 16 edges. -/
theorem shedGatePassesP : Obligations.ShedGatePassesP := by
  unfold Obligations.ShedGatePassesP
  intro s n p hp _ h16 h0
  have h := shedCount_run hp h16 h0 (Nat.le_refl 16)
  dsimp only at h ⊢
  generalize (List.range 16).foldl _ (0, s) = run at h ⊢
  obtain ⟨hcount, hphase, -⟩ := h
  exact ⟨by omega, hphase⟩

end Sys2Proof.Machine
end

section
/-! PROOFS. Clock nets, pillars and seam trees: their events act when due (R151–R157, R174, R187–R193). -/

namespace Sys2Proof.Machine

/-! ## Entries of a store -/

theorem lookup_none_of_lt {α : Type} {l : SMap α} {i : Nat} (h : ∀ e ∈ l, i < e.1) : lookup l i = none := by
  induction l with
  | nil => rfl
  | cons e l ih =>
    have hi : i ≠ e.1 := Nat.ne_of_lt (h e List.mem_cons_self)
    rw [lookup, if_neg hi]
    exact ih fun e he => h e (List.mem_cons_of_mem _ he)

theorem mem_of_lookup {α : Type} {l : SMap α} {i : Nat} {v : α} (h : lookup l i = some v) : (i, v) ∈ l := by
  induction l with
  | nil => cases h
  | cons e l ih =>
    rw [lookup] at h
    split at h
    · next hi => cases h; exact hi ▸ List.mem_cons_self
    · exact List.mem_cons_of_mem _ (ih h)

/-- A key that does not read its default has an entry. -/
theorem mem_of_at'_ne {α : Type} {l : SMap α} {i : Nat} {d : α} (h : at' l i d ≠ d) : ∃ v, (i, v) ∈ l := by
  cases hi : lookup l i with
  | none => exact absurd (by rw [at', hi, Option.getD_none]) h
  | some v => exact ⟨v, mem_of_lookup hi⟩

/-! ## The registers of a seam -/

/-- Keys that a fold puts one place on: the place after a key that moves holds what that key held, and the place after
one that stays, or that held nothing, what was there. -/
theorem lookup_foldl_putSucc (stays : Nat → Prop) [DecidablePred stays] (l rest : SMap Nat) (j : Nat)
    (h : sorted l = true) :
    lookup (l.foldl (fun m e => if stays e.1 then m else put m (e.1 + 1) e.2) rest) (j + 1) =
      if stays j then lookup rest (j + 1) else (lookup l j).or (lookup rest (j + 1)) := by
  rw [sorted_iff_pairwise] at h
  induction l generalizing rest with
  | nil => simp [lookup]
  | cons e l ih =>
    obtain ⟨i, v⟩ := e
    obtain ⟨hfirst, hlater⟩ := List.pairwise_cons.1 h
    rw [List.foldl_cons, ih _ hlater]
    by_cases hj : stays j
    · rw [if_pos hj, if_pos hj]
      split
      · rfl
      · next hi => exact lookup_put_ne _ _ (fun h => hi (Nat.succ_inj.1 h ▸ hj))
    · rw [if_neg hj, if_neg hj]
      by_cases hij : j = i
      · subst hij
        have hnone : lookup l j = none := lookup_none_of_lt hfirst
        simp [hj, hnone, lookup, lookup_put_same]
      · have hput : lookup (if stays i then rest else put rest (i + 1) v) (j + 1) = lookup rest (j + 1) := by
          split
          · rfl
          · exact lookup_put_ne _ _ (by omega)
        simp [hput, lookup, hij]

/-- An output that is 1 is recorded. -/
theorem State.output_recorded {s : State} {a : Nat} (h : s.output a = 1) : ∃ v, (a, v) ∈ s.fab.out := by
  rw [State.output] at h
  split at h
  · exact mem_of_at'_ne (d := 0) (by omega)
  · cases h

/-- A policy that forces 1 stands in the active plane or in what was kept of it. -/
theorem State.policy_recorded {s : State} {c a : Nat} (h : s.borderPolicy c a ≠ 1) :
    ∃ v, (a, v) ∈ (s.plane (borderRegion a) (s.activePlane (borderRegion a))).border ∨
      (a, v) ∈ at' s.fab.policy (256 + borderRegion a) [] ∨ (a, v) ∈ at' s.fab.policy (512 + borderRegion a) [] := by
  obtain ⟨v, hv⟩ := mem_of_at'_ne h
  have hkept : ∀ k, (a, v) ∈ at' s.fab.policy k (s.plane (borderRegion a) (s.activePlane (borderRegion a))).border →
      (a, v) ∈ (s.plane (borderRegion a) (s.activePlane (borderRegion a))).border ∨ (a, v) ∈ at' s.fab.policy k [] := by
    intro k hk
    unfold at' at hk ⊢
    cases hl : lookup s.fab.policy k <;> simp_all
  split at hv
  · exact ⟨v, (hkept _ hv).imp_right .inl⟩
  · split at hv
    · exact ⟨v, (hkept _ hv).imp_right .inr⟩
    · exact ⟨v, .inl hv⟩

/-- What presents a 1 has an entry among the outputs, the values held or the border policies. -/
theorem State.presents_from {s : State} {a : Nat} (h : s.present a = 1) :
    (∃ v, (a, v) ∈ s.fab.out) ∨ (∃ v, (a, v) ∈ s.fab.hold) ∨
      ∃ v, (a, v) ∈ (s.plane (borderRegion a) (s.activePlane (borderRegion a))).border ∨
        (a, v) ∈ at' s.fab.policy (256 + borderRegion a) [] ∨ (a, v) ∈ at' s.fab.policy (512 + borderRegion a) [] := by
  have hheld : at' s.fab.hold a 0 = 1 → ∃ v, (a, v) ∈ s.fab.hold := fun h => mem_of_at'_ne (d := 0) (by omega)
  simp only [State.present] at h
  split at h
  · split at h
    · exact .inr (.inl (hheld h))
    · exact .inl (s.output_recorded h)
  · exact .inr (.inl (hheld h))
  · split at h
    · cases h
    · split at h
      · exact .inl (s.output_recorded h)
      · exact .inr (.inl (hheld h))
      · cases h
      · next h1 _ => exact .inr (.inr (s.policy_recorded h1))

/-- The ones of a list of regions are the addresses of those regions that present a 1. -/
theorem State.mem_ones {s : State} {rs : List Nat} {a : Nat} :
    a ∈ s.ones rs ↔ borderRegion a ∈ rs ∧ s.present a = 1 := by
  simp only [State.ones, List.mem_filterMap, List.mem_append, List.mem_flatMap]
  constructor
  · rintro ⟨e, -, h⟩
    split at h
    · next hc => cases h; simpa using hc
    · cases h
  · rintro ⟨hr, hp⟩
    have hkeep : (if (rs.contains (borderRegion a) && s.present a == 1) = true then some a else none) = some a := by
      simp [hr, hp]
    suffices h : (∃ v, (a, v) ∈ s.fab.out) ∨ (∃ v, (a, v) ∈ s.fab.hold) ∨
        ∃ v, (a, v) ∈ (s.plane (borderRegion a) (s.activePlane (borderRegion a))).border ∨
          (a, v) ∈ at' s.fab.policy (256 + borderRegion a) [] ∨ (a, v) ∈ at' s.fab.policy (512 + borderRegion a) [] by
      rcases h with ⟨v, h⟩ | ⟨v, h⟩ | ⟨v, h⟩
      · exact ⟨(a, v), .inl (.inl h), hkeep⟩
      · exact ⟨(a, v), .inl (.inr h), hkeep⟩
      · exact ⟨(a, v), .inr ⟨_, hr, by simpa only [or_assoc] using h⟩, hkeep⟩
    exact State.presents_from hp

/-! ## The signals of a port -/

theorem seam_lt {p k : Nat} (hk : k < 2 * seamWidth p) : k < 8192 := by
  have : seamWidth p ≤ 4096 := by unfold seamWidth; split <;> omega
  omega

theorem borderRegion_seamAddr {p k : Nat} (hp : p < 24) : borderRegion (seamAddr p k) = seamDriver p k := by
  have hdriver : seamDriver p k < 128 := by
    unfold seamDriver seamRegions
    split <;> split <;> dsimp only <;> omega
  have hw : k % seamWidth p < 2 ^ 19 := by
    have : seamWidth p ≤ 4096 ∧ 0 < seamWidth p := by unfold seamWidth; split <;> omega
    have := Nat.mod_lt k this.2
    omega
  simp only [borderRegion, seamAddr]
  split <;> split <;> omega

theorem seamDriver_mem {p k : Nat} : seamDriver p k ∈ [(seamRegions p).1, (seamRegions p).2] := by
  unfold seamDriver
  split <;> simp

/-- Such a fold leaves a key that follows none that moves. -/
theorem lookup_foldl_putSucc_ne (stays : Nat → Prop) [DecidablePred stays] (l rest : SMap Nat) {j : Nat}
    (h : ∀ i, i + 1 = j → stays i) :
    lookup (l.foldl (fun m e => if stays e.1 then m else put m (e.1 + 1) e.2) rest) j = lookup rest j := by
  induction l generalizing rest with
  | nil => rfl
  | cons e l ih =>
    rw [List.foldl_cons, ih]
    split
    · rfl
    · next he => exact lookup_put_ne _ _ (fun hj => he (h _ hj.symm))

/-- No two signals of a port have one address. -/
theorem seamAddr_inj {p j k : Nat} (hp : p < 24) (hj : j < 2 * seamWidth p) (hk : k < 2 * seamWidth p)
    (h : seamAddr p j = seamAddr p k) : j = k := by
  have hw : seamWidth p = 4096 ∨ seamWidth p = 2048 := by unfold seamWidth; split <;> simp
  have hdriver : seamDriver p j = seamDriver p k := by
    rw [← borderRegion_seamAddr hp, ← borderRegion_seamAddr hp, h]
  have hside : j < seamWidth p ↔ k < seamWidth p := by
    have hne : (seamRegions p).1 ≠ (seamRegions p).2 := by unfold seamRegions; split <;> dsimp only <;> omega
    unfold seamDriver at hdriver
    by_cases hj1 : j < seamWidth p
    · simpa [hj1, hne, eq_comm] using hdriver
    · simpa [hj1, hne.symm] using hdriver
  have hmod : j % seamWidth p = k % seamWidth p := by
    simp only [seamAddr, hdriver, hside] at h
    exact Nat.add_left_cancel h
  rcases hw with hw | hw <;> rw [hw] at hj hk hside hmod <;> omega

/-- The signal that a seam stage's address names is the one. -/
theorem seamSignal_iff {p k a : Nat} (hp : p < 24) :
    seamSignal p a = some k ↔ k < 2 * seamWidth p ∧ seamAddr p k = a := by
  constructor
  · intro h
    simpa using List.find?_some h
  · rintro ⟨hk, rfl⟩
    have hw : seamWidth p = 4096 ∨ seamWidth p = 2048 := by unfold seamWidth; split <;> simp
    have hmod : seamAddr p k % 8192 = k % seamWidth p := by
      simp only [seamAddr]
      rcases hw with hw | hw <;> rw [hw] <;> split <;> omega
    have hmem : k ∈ [seamAddr p k % 8192, seamWidth p + seamAddr p k % 8192] := by
      rw [hmod, List.mem_cons, List.mem_singleton]
      rcases hw with hw | hw <;> rw [hw] at hk ⊢ <;> omega
    cases hf : seamSignal p (seamAddr p k) with
    | none => exact absurd (List.find?_eq_none.1 hf k hmem) (by simp [hk])
    | some j =>
      have hj : j < 2 * seamWidth p ∧ seamAddr p j = seamAddr p k := by simpa using List.find?_some hf
      exact congrArg some (seamAddr_inj hp hj.1 hk hj.2)

/-- The signals that launch a 1 are those whose address presents one. -/
theorem State.mem_launches {s : State} {p k : Nat} (hp : p < 24) (hk : k < 2 * seamWidth p) :
    k ∈ s.launches p ↔ s.present (seamAddr p k) = 1 := by
  simp only [State.launches, List.mem_dedup, List.mem_filterMap, State.mem_ones, seamSignal_iff hp]
  constructor
  · rintro ⟨a, ⟨-, h⟩, -, rfl⟩
    exact h
  · exact fun h => ⟨_, ⟨borderRegion_seamAddr hp ▸ seamDriver_mem, h⟩, hk, rfl⟩

/-! ## An edge of a seam's tree -/

/-- A fold that stores 1 at the launch stages of a list of signals. -/
theorem lookup_foldl_launch (p j : Nat) (l : List Nat) (m : SMap Nat) :
    lookup (l.foldl (fun m k => put m (seamKey p k 0) 1) m) j =
      if ∃ k ∈ l, seamKey p k 0 = j then some 1 else lookup m j := by
  induction l generalizing m with
  | nil => simp
  | cons k l ih =>
    rw [List.foldl_cons, ih]
    by_cases hl : ∃ k ∈ l, seamKey p k 0 = j
    · rw [if_pos hl, if_pos (by obtain ⟨k, hk, h⟩ := hl; exact ⟨k, List.mem_cons_of_mem _ hk, h⟩)]
    · rw [if_neg hl]
      by_cases hk : seamKey p k 0 = j
      · rw [if_pos ⟨k, List.mem_cons_self, hk⟩, ← hk, lookup_put_same]
      · rw [if_neg (by simpa [hk] using hl), lookup_put_ne _ _ (Ne.symm hk)]

/-- A shift moves every register of a port one place on: it drops what a capture stage held, and what the second bridge
register of a fenced signal held. -/
theorem lookup_seamShift {p k st : Nat} {s : State} (hk : k < 8192) (hst : st < 3) (h : sorted s.fab.seam = true) :
    lookup (seamShift p s).fab.seam (seamKey p k (st + 1)) =
      if st = 2 ∧ s.fab.seamFenced.contains (seamAddr p k) then none else lookup s.fab.seam (seamKey p k st) := by
  have hkey : ∀ j, j < 4 → seamKey p k j / 32768 = p := by intro j hj; simp only [seamKey]; omega
  have hlaunch : ¬∃ j ∈ s.launches p, seamKey p j 0 = seamKey p k (st + 1) := by
    rintro ⟨j, -, hj⟩
    simp only [seamKey] at hj
    omega
  have hstage : seamKey p k st % 4 = st ∧ seamKey p k st / 4 % 8192 = k := by simp only [seamKey]; omega
  have hrest : lookup (dropKeys s.fab.seam fun k => k / 32768 == p) (seamKey p k st + 1) = none := by
    rw [lookup_dropKeys]
    exact if_pos (beq_iff_eq.2 (hkey (st + 1) (by omega)))
  have hmine : lookup (s.fab.seam.filter fun e => e.1 / 32768 == p) (seamKey p k st) =
      lookup s.fab.seam (seamKey p k st) :=
    lookup_filter_keep _ (fun j => j / 32768 == p) (beq_iff_eq.2 (hkey st (by omega)))
  simp only [seamShift, State.modFab_fab, lookup_foldl_launch, if_neg hlaunch]
  rw [show seamKey p k (st + 1) = seamKey p k st + 1 from rfl,
    lookup_foldl_putSucc (fun i => i % 4 = 3 ∨ (i % 4 = 2 ∧ s.fab.seamFenced.contains (seamAddr p (i / 4 % 8192)))) _ _ _
      (sorted_filter _ _ h), hstage.1, hstage.2, hrest, hmine, Option.or_none]
  simp [show st ≠ 3 by omega]

/-- A shift loads the launch stage of a signal with what its border stage presents. -/
theorem at'_seamShift_launch {p k : Nat} {s : State} (hp : p < 24) (hk : k < 2 * seamWidth p) :
    at' (seamShift p s).fab.seam (seamKey p k 0) 0 = if s.present (seamAddr p k) = 1 then 1 else 0 := by
  have hkey : seamKey p k 0 / 32768 = p ∧ seamKey p k 0 % 4 = 0 := by
    have : seamWidth p ≤ 4096 := by unfold seamWidth; split <;> omega
    simp only [seamKey]
    omega
  have hrest : lookup (dropKeys s.fab.seam fun k => k / 32768 == p) (seamKey p k 0) = none := by
    rw [lookup_dropKeys]
    exact if_pos (beq_iff_eq.2 hkey.1)
  have hlaunch : (∃ j ∈ s.launches p, seamKey p j 0 = seamKey p k 0) ↔ s.present (seamAddr p k) = 1 := by
    rw [← State.mem_launches hp hk]
    constructor
    · rintro ⟨j, hj, h⟩
      simp only [seamKey] at h
      rwa [show k = j by omega]
    · exact fun h => ⟨k, h, rfl⟩
  simp only [seamShift, State.modFab_fab, at', lookup_foldl_launch, hlaunch]
  split
  · rfl
  · rw [lookup_foldl_putSucc_ne
      (fun i => i % 4 = 3 ∨ (i % 4 = 2 ∧ s.fab.seamFenced.contains (seamAddr p (i / 4 % 8192)))), hrest]
    · rfl
    · intro i hi
      left
      omega

/-- A capture stage that nothing holds off presents its register. -/
theorem State.capture_open {s : State} {p k : Nat} (h7 : s.get (R.SEAM_CFG.SEAM_CLK p) ≠ 7)
    (hf : s.fab.seamFenced.contains (seamAddr p k) = false)
    (hd : Config.planeDrives (s.frames (seamDriver p k)) (seamAddr p k) = true) :
    s.capture p k = at' s.fab.seam (seamKey p k 3) 0 := by
  simp only [State.capture, hf, hd, h7, Bool.false_eq_true, Bool.not_true, or_self, if_false]

/-- A capture stage presents 0 on a port that is off, for a fenced signal and for one that is unused. -/
theorem State.capture_shut {s : State} {p k : Nat} (h : s.fab.seamFenced.contains (seamAddr p k) = true ∨
    s.get (R.SEAM_CFG.SEAM_CLK p) = 7 ∨ Config.planeDrives (s.frames (seamDriver p k)) (seamAddr p k) = false) :
    s.capture p k = 0 := by
  rw [State.capture, if_pos]
  rcases h with h | h | h
  · exact .inr (.inl h)
  · exact .inl h
  · exact .inr (.inr (by rw [h]; rfl))

/-- The launches of an edge of seam port `p`, recorded, and the port marked as running. -/
def seamLaunch (p : Nat) (launch : List (Nat × Bool)) (s : State) : State :=
  (forEach [(seamRegions p).1, (seamRegions p).2] (fun r => recordOuts r
    ((launch.filter fun e => decide (e.1 < 2 * seamWidth p) && seamDriver p e.1 == r).map fun e =>
      (seamAddr p e.1, e.2))) s).set (R.SEAM_CFG.RUNNING p) 1

theorem seamEdge_runs {p : Nat} {l : List (Nat × Bool)} {s : State} (h : s.seamRuns p = true) :
    seamEdge p l s = seamShift p (seamLaunch p l s) := by
  simp only [seamEdge, h, Bool.not_true, Bool.false_eq_true, if_false]
  rfl

theorem seamLaunch_get {p : Nat} {l : List (Nat × Bool)} {s : State} {f : Fld} (h : f.key ≠ (R.SEAM_CFG.RUNNING p).key) :
    (seamLaunch p l s).get f = s.get f := State.get_set_ne _ _ h

theorem seamRuns_clock {p : Nat} {s : State} (h : s.seamRuns p = true) : s.get (R.SEAM_CFG.SEAM_CLK p) < 4 := by
  simp only [State.seamRuns, Bool.and_eq_true, decide_eq_true_eq] at h
  exact h.1.1.2

/-- An edge loads each bridge register of a signal with the register before it (R189). -/
theorem seamEdge_bridge {p k st : Nat} {l : List (Nat × Bool)} {s : State} (hk : k < 2 * seamWidth p)
    (hrun : s.seamRuns p = true) (h : sorted s.fab.seam = true) (hst : st < 2) :
    at' (seamEdge p l s).fab.seam (seamKey p k (st + 1)) 0 = at' s.fab.seam (seamKey p k st) 0 := by
  have hseam := lookup_seamShift (s := seamLaunch p l s) (p := p) (st := st) (seam_lt hk) (by omega) h
  rw [if_neg (by omega)] at hseam
  rw [seamEdge_runs hrun, at', hseam]
  rfl

/-- The third clause of a seam edge: what the capture stage presents after it (R187, R189, R193). -/
theorem seamEdge_capture {p k : Nat} {l : List (Nat × Bool)} {s : State} (hp : p < 24) (hk : k < 2 * seamWidth p)
    (hrun : s.seamRuns p = true) (h : sorted s.fab.seam = true) :
    let t := seamEdge p l s
    (t.capture p k = 0 ∨ t.capture p k = at' s.fab.seam (seamKey p k 2) 0) ∧
      (s.fab.seamFenced.contains (seamAddr p k) = false →
        Config.planeDrives (s.frames (seamDriver p k)) (seamAddr p k) = true →
        t.capture p k = at' s.fab.seam (seamKey p k 2) 0) := by
  intro t
  have ht : t = seamShift p (seamLaunch p l s) := seamEdge_runs hrun
  have hk2 : k < 8192 := seam_lt hk
  have hdriver : seamDriver p k < 128 := by
    unfold seamDriver seamRegions
    split <;> split <;> dsimp only <;> omega
  have hseam := lookup_seamShift (s := seamLaunch p l s) (p := p) hk2 (st := 2) (by omega) h
  have hclock : t.get (R.SEAM_CFG.SEAM_CLK p) ≠ 7 := by
    have : t.get (R.SEAM_CFG.SEAM_CLK p) = s.get (R.SEAM_CFG.SEAM_CLK p) := by
      rw [ht]
      exact seamLaunch_get (by simp [Fld.key, R.SEAM_CFG.SEAM_CLK, R.SEAM_CFG.RUNNING])
    have := seamRuns_clock hrun
    omega
  have hframes : t.frames (seamDriver p k) = s.frames (seamDriver p k) := by
    have : t.activePlane (seamDriver p k) = s.activePlane (seamDriver p k) := by
      rw [ht]
      exact seamLaunch_get (by simp only [Fld.key, R.CTX_STAT.ACTIVE, R.SEAM_CFG.RUNNING]; omega)
    rw [State.frames, this]
    rw [ht]
    rfl
  have hfenced : t.fab.seamFenced = s.fab.seamFenced := by rw [ht]; rfl
  have hopen : s.fab.seamFenced.contains (seamAddr p k) = false →
      Config.planeDrives (s.frames (seamDriver p k)) (seamAddr p k) = true →
      t.capture p k = at' s.fab.seam (seamKey p k 2) 0 := by
    intro hf hd
    rw [State.capture_open hclock (hfenced ▸ hf) (hframes ▸ hd), ht, at', hseam, if_neg]
    · rfl
    · rw [show (seamLaunch p l s).fab.seamFenced = s.fab.seamFenced from rfl, hf]
      simp
  refine ⟨?_, hopen⟩
  cases hf : s.fab.seamFenced.contains (seamAddr p k) with
  | true => exact .inl (State.capture_shut (.inl (hfenced ▸ hf)))
  | false =>
    cases hd : Config.planeDrives (s.frames (seamDriver p k)) (seamAddr p k) with
    | true => exact .inr (hopen hf hd)
    | false => exact .inl (State.capture_shut (.inr (.inr (hframes ▸ hd))))

/-- Settles O16: clock switches, enables and losses, the shed gate, pillar contention, and an edge of a seam's tree. -/
theorem fabricEventsComplete : Obligations.FabricEventsComplete := by
  unfold Obligations.FabricEventsComplete
  refine ⟨fun s => ⟨?switch, ?enable, ?lost, fun _ => rfl, ?shed, ?contention, ?release, ?pillar, ?seamLost⟩,
    fun s p k l hk => ⟨fun hrun h => ?_, State.capture_shut, ?_⟩⟩
  case switch =>
    intro n sel dead side hdue u
    have hx : (!s.fab.switching.contains n.val && s.flag (R.RCN_CFG.ACT_SRC n) == side) = false := by
      rcases hdue with h | h <;> simp [h]
    rw [exec_clockSwitchComplete]
    refine (if_neg (by rw [hx]; decide)).trans ?_
    cases dead <;> rfl
  case enable =>
    intro n en hce
    refine ⟨s.modFab fun f =>
      let l := f.ceLow.filter fun k => k != n.val
      { f with ceLow := if en then l else n.val :: l }, ?_, ?_⟩
    · rw [exec_clockEnableChange, execClockEnableChange, hce]
      rfl
    · cases en <;> simp +contextual
  case lost =>
    intro n hup hl hsrc
    have hx : (s.fab.lost.contains n.val || !sourceIn (n.val / 16) (s.netSrc n)) = false := by simp [hl, hsrc]
    refine ⟨(((lowNet n s).modFab fun f => { f with lost := n.val :: f.lost }).set (R.RCN_CFG.SRC_LOST n) 1).set
      (R.RCN_CFG.RUNNING n) 0, ?_, List.mem_cons_self, ?_, rfl⟩
    · rw [exec_fabSourceLost, execFabSourceLost, if_pos hup, loseSource, hx]
      rfl
    · show n.val ∉ s.fab.high.filter fun k => k != n.val
      simp
  case shed =>
    intro n h0
    constructor
    · intro h
      rw [exec_shedPassUpdate, execShedPassUpdate, if_pos h0, State.wantedPass, if_pos h]
    · intro h
      rw [exec_shedPassUpdate, execShedPassUpdate, if_pos h0, State.wantedPass, h]
      rfl
  case contention =>
    intro r c k a hr ha
    have hx : (!s.hasActive r || s.fab.pillarOff.contains a || !(s.pillarEn a 0 && s.pillarEn a 1)) =
        !(s.pillarEn a 0 && s.pillarEn a 1) := by simp [hr, ha]
    rw [exec_pillarContention]
    refine congrArg (fun c : Bool => if c = true then Host.Outcome.next s else _) hx |>.trans ?_
    by_cases hen : s.pillarEn a 0 = true ∧ s.pillarEn a 1 = true
    · rw [if_pos hen, hen.1, hen.2]
      rfl
    · rw [if_neg hen, if_pos (by
        rw [Bool.not_eq_true', Bool.and_eq_false_iff, ← Bool.not_eq_true, ← Bool.not_eq_true]
        exact not_and_or.1 hen)]
  case release =>
    intro r c k a
    rw [exec_pillarContention]
    by_cases hen : s.pillarEn a 0 = true ∨ s.pillarEn a 1 = true
    · rw [if_pos hen]
      exact if_pos (by simpa using hen)
    · rw [if_neg hen]
      exact if_neg (by simpa using hen)
  case pillar =>
    intro a
    refine ⟨fun h => ?_, fun h => ?_, fun h h0 h1 => ?_, fun h h0 h1 => ?_⟩
    · simp [State.pillar, h]
    · by_contra hno
      simp only [not_or, Bool.not_eq_true] at hno
      simp [State.pillar, hno.1, hno.2] at h
    · simp [State.pillar, h, h0, h1]
    · simp [State.pillar, h, h0, h1]
  case seamLost =>
    intro p hup h7 hl
    rw [exec_seamClockLost, execSeamClockLost, if_pos hup, loseSeam, if_neg (not_or.2 ⟨h7, by rw [hl]; decide⟩)]
  · refine ⟨_, by rw [exec_flipFlopEdge]; rfl, ?_, ?_, ?_, seamEdge_capture p.isLt hk hrun h⟩
    · rw [seamEdge_runs hrun]
      exact at'_seamShift_launch p.isLt hk
    · exact seamEdge_bridge (st := 0) hk hrun h (by decide)
    · exact seamEdge_bridge (st := 1) hk hrun h (by decide)
  · intro h
    rw [exec_flipFlopEdge, execFlipFlopEdge, seamEdge, h]
    rfl

end Sys2Proof.Machine
end

section
/-! PROOFS. Both ports of a block memory at one edge, what they write and what they leave (R198–R208). -/

namespace Sys2Proof.Machine

/-! ## An access in parts -/

/-- The row lanes that a port writes at its edge, if it has one. -/
def edgeMask (s : State) (m : Nat) : Option (BmCfg × BmIn) → Nat
  | some e => if s.flag (R.BM_STAT.CLR_BUSY m) || !s.fab.writes then 0 else bmMask e.1 e.2
  | none => 0

/-- The write of a port at its edge, if it has one; `s` is the state before the edge. -/
def edgeWrite (s : State) (m : Nat) (p : Option (BmCfg × BmIn)) (t : State) : State :=
  match p with
  | some e => bmWrite m (bmRow e.1 e.2) (edgeMask s m p) (bmData e.1 e.2 (laneBits (s.get (R.BM_STAT.CODE m)))) t
  | none => t

/-- What a port shows after its edge, beside `other` lanes that port A writes. -/
def edgeResult (s : State) (m k : Nat) (p : Option (BmCfg × BmIn)) (other : Nat) : Option BmRes :=
  match p with
  | some e => if e.2.en then
      some (bmResult s m e.1 e.2 (edgeMask s m p) other (s.flag (R.BM_STAT.CLR_BUSY m)) (s.bmPort m k)) else none
  | none => none

/-- The registers of a port move at its edge. -/
def edgeMove (s : State) (m k : Nat) (p : Option (BmCfg × BmIn)) (r : Option BmRes) (t : State) : State :=
  match p with
  | some e => setBmPort m k (bmRegs e.1 (s.bmPort m k) e.2 r) t
  | none => t

/-- An edge shows lanes of the array, so that its errors count. -/
def edgeFresh (s : State) (m : Nat) (p : Option (BmCfg × BmIn)) : Bool :=
  match p with
  | some e => !(e.1.mode.val == 2 && Nat.land (edgeMask s m p) (bmSpan e.1 e.2) == bmSpan e.1 e.2)
  | none => false

/-- Both ports access one row. -/
def sameRow (a c : Option (BmCfg × BmIn)) : Bool :=
  match a, c with
  | some x, some y => x.2.en && y.2.en && bmRow x.1 x.2 == bmRow y.1 y.2
  | _, _ => false

/-- The memory after the writes of both ports: port A's are the last. -/
def edgeWrites (s : State) (m : Nat) (a c : Option (BmCfg × BmIn)) : State :=
  edgeWrite s m a (edgeWrite s m c { s with free := s.free + 4 })

/-- The lanes that port B sees port A write. -/
def edgeOther (s : State) (m : Nat) (a c : Option (BmCfg × BmIn)) : Nat := if sameRow a c then edgeMask s m a else 0

/-- The memory once the registers of both ports have moved. -/
def edgeMoves (s : State) (m : Nat) (a c : Option (BmCfg × BmIn)) : State :=
  edgeMove s m 1 c (edgeResult s m 1 c (edgeOther s m a c)) (edgeMove s m 0 a (edgeResult s m 0 a 0) (edgeWrites s m a c))

/-- The state after the reports of both ports. -/
def edgeReports (s : State) (m : Nat) (a c : Option (BmCfg × BmIn)) : State :=
  bmCount m (edgeFresh s m c) (edgeResult s m 1 c (edgeOther s m a c))
    (bmCount m (edgeFresh s m a) (edgeResult s m 0 a 0) (edgeMoves s m a c))

/-- The end of an edge: `CLR` at port A starts a bulk clear. -/
def edgeClear (s : State) (m : Nat) (a : Option (BmCfg × BmIn)) (t : State) : State :=
  match a with
  | some e => applyIf (e.2.clr && !s.flag (R.BM_STAT.CLR_BUSY m)) (startBmClear m) t
  | none => t

theorem execBmPortAccess_eq (m : Fin 12288) (pa pb : Option BmIn) (s : State) : execBmPortAccess m pa pb s =
    let a := s.portAt m 0 pa
    let c := s.portAt m 1 pb
    if s.get (R.BM_STAT.CODE m) == 3 || (a.isNone && c.isNone) then .next s
    else .next (edgeClear s m a (edgeReports s m a c)) := rfl

/-! ## What an access leaves unchanged -/

/-- The fields of `BM_STAT` that follow a read (Table 7-8). -/
def bmReport (m : Nat) : List Fld :=
  [R.BM_STAT.COR m, R.BM_STAT.UNC m, R.BM_STAT.COLL m, R.BM_STAT.COR_CNT m, R.BM_STAT.UNC_CNT m]

/-- From `s` to `t` only the hard blocks, the free values and the fields `l` of the register cards change. -/
structure HardFrame (l : List Fld) (s t : State) : Prop where
  same : t = { s with regs := t.regs, free := t.free, bm := t.bm }
  get : ∀ g : Fld, (∀ f ∈ l, g.key ≠ f.key) → t.get g = s.get g

namespace HardFrame

variable {l : List Fld} {s t : State}

theorem refl (l : List Fld) (s : State) : HardFrame l s s := ⟨rfl, fun _ _ => rfl⟩

theorem modBm (h : HardFrame l s t) (f : Bm → Bm) : HardFrame l s (t.modBm f) :=
  ⟨by rw [h.same]; rfl, h.get⟩

theorem use (h : HardFrame l s t) (n : Nat) : HardFrame l s { t with free := n } := ⟨by rw [h.same], h.get⟩

theorem set (h : HardFrame l s t) {f : Fld} (hf : f ∈ l) (v : Nat) : HardFrame l s (t.set f v) :=
  ⟨by rw [h.same]; rfl, fun g hg => (State.get_set_ne _ _ (hg f hf)).trans (h.get g hg)⟩

theorem applyIf (h : HardFrame l s t) (b : Bool) {f : State → State} (hf : HardFrame l s (f t)) :
    HardFrame l s (applyIf b f t) := by
  cases b
  · exact h
  · exact hf

theorem bmWrite (h : HardFrame l s t) (m row mask v : Nat) : HardFrame l s (bmWrite m row mask v t) := by
  unfold Machine.bmWrite
  split
  · exact h
  · exact h.modBm _

theorem edgeWrite (h : HardFrame l s t) (u : State) (m : Nat) (p : Option (BmCfg × BmIn)) :
    HardFrame l s (edgeWrite u m p t) := by
  cases p
  · exact h
  · exact h.bmWrite _ _ _ _

theorem edgeMove (h : HardFrame l s t) (u : State) (m k : Nat) (p : Option (BmCfg × BmIn)) (r : Option BmRes) :
    HardFrame l s (edgeMove u m k p r t) := by
  cases p
  · exact h
  · unfold Machine.edgeMove setBmPort
    exact h.modBm _

theorem bmCount {m : Nat} (h : HardFrame (bmReport m) s t) (fresh : Bool) (r : Option BmRes) :
    HardFrame (bmReport m) s (bmCount m fresh r t) := by
  have hmem : ∀ f ∈ [R.BM_STAT.COR m, R.BM_STAT.UNC m, R.BM_STAT.COLL m, R.BM_STAT.COR_CNT m, R.BM_STAT.UNC_CNT m],
      f ∈ bmReport m := fun _ h => h
  cases r with
  | none => exact h
  | some x =>
    simp only [List.forall_mem_cons] at hmem
    obtain ⟨hcor, hunc, hcoll, hcorCnt, huncCnt, -⟩ := hmem
    have h1 := h.applyIf (x.cor && fresh) (f := fun s => (s.set (R.BM_STAT.COR m) 1).inc (R.BM_STAT.COR_CNT m))
      ((h.set hcor 1).set hcorCnt _)
    have h2 := h1.applyIf (x.unc && fresh) (f := fun s => (s.set (R.BM_STAT.UNC m) 1).inc (R.BM_STAT.UNC_CNT m))
      ((h1.set hunc 1).set huncCnt _)
    exact h2.applyIf x.coll (f := fun s => s.set (R.BM_STAT.COLL m) 1) (h2.set hcoll 1)

theorem edgeMoves (s : State) (m : Nat) (a c : Option (BmCfg × BmIn)) : HardFrame l s (edgeMoves s m a c) :=
  ((((HardFrame.refl l s).use _).edgeWrite s m c).edgeWrite s m a |>.edgeMove s m 0 a _).edgeMove s m 1 c _

theorem edgeReports (s : State) (m : Nat) (a c : Option (BmCfg × BmIn)) :
    HardFrame (bmReport m) s (edgeReports s m a c) :=
  ((HardFrame.edgeMoves s m a c).bmCount _ _).bmCount _ _

end HardFrame

theorem edgeClear_same (s : State) (m : Nat) (a : Option (BmCfg × BmIn)) (t : State) :
    edgeClear s m a t = { t with regs := (edgeClear s m a t).regs } := by
  cases a with
  | none => rfl
  | some e => cases h : e.2.clr && !s.flag (R.BM_STAT.CLR_BUSY m) <;> simp only [edgeClear, h, applyIf] <;> rfl

/-! ## The rows after an access -/

theorem edgeReports_bm (s : State) (m : Nat) (a c : Option (BmCfg × BmIn)) :
    (edgeReports s m a c).bm = (edgeMoves s m a c).bm := by rw [edgeReports, bmCount_bm, bmCount_bm]

theorem edgeMove_rows (s : State) (m k : Nat) (p : Option (BmCfg × BmIn)) (r : Option BmRes) (t : State) :
    (edgeMove s m k p r t).bm.rows = t.bm.rows ∧ (edgeMove s m k p r t).bm.inj = t.bm.inj ∧
      (edgeMove s m k p r t).bm.ab = t.bm.ab := by
  cases p <;> exact ⟨rfl, rfl, rfl⟩

/-- Rows, stored lanes and arithmetic blocks after an access are those after its writes. -/
theorem edgeReports_rows (s : State) (m : Nat) (a c : Option (BmCfg × BmIn)) :
    (edgeReports s m a c).bm.rows = (edgeWrites s m a c).bm.rows ∧
      (edgeReports s m a c).bm.inj = (edgeWrites s m a c).bm.inj ∧
      (edgeReports s m a c).bm.ab = (edgeWrites s m a c).bm.ab := by
  obtain ⟨hr1, hi1, ha1⟩ := edgeMove_rows s m 1 c (edgeResult s m 1 c (edgeOther s m a c))
    (edgeMove s m 0 a (edgeResult s m 0 a 0) (edgeWrites s m a c))
  obtain ⟨hr0, hi0, ha0⟩ := edgeMove_rows s m 0 a (edgeResult s m 0 a 0) (edgeWrites s m a c)
  rw [edgeReports_bm]
  exact ⟨hr1.trans hr0, hi1.trans hi0, ha1.trans ha0⟩

theorem bmWrite_ab (m row mask v : Nat) (s : State) : (bmWrite m row mask v s).bm.ab = s.bm.ab := by
  unfold bmWrite
  split <;> rfl

theorem edgeWrite_ab (s : State) (m : Nat) (p : Option (BmCfg × BmIn)) (t : State) :
    (edgeWrite s m p t).bm.ab = t.bm.ab := by
  cases p
  · rfl
  · exact bmWrite_ab _ _ _ _ _

/-! ## The frame of the rows -/

/-- What row `key` holds: its lanes and the stored lanes that a raw write left. -/
def SameRow (key : Nat) (s t : State) : Prop :=
  lookup t.bm.rows key = lookup s.bm.rows key ∧
    t.bm.inj.filter (fun e => e.1 / 4 == key) = s.bm.inj.filter fun e => e.1 / 4 == key

theorem SameRow.trans {key : Nat} {s t u : State} (h : SameRow key s t) (h' : SameRow key t u) : SameRow key s u :=
  ⟨h'.1.trans h.1, h'.2.trans h.2⟩

/-- Rows that are the same read the same. -/
theorem SameRow.readRow {key : Nat} {s t : State} (h : SameRow key s t) (code c : Nat) :
    readRow t.bm.rows t.bm.inj 4 code key c = readRow s.bm.rows s.bm.inj 4 code key c := by
  obtain ⟨hrow, hinj⟩ := h
  simp only [Machine.readRow, hrow, hinj]

/-- A write leaves every other row as it is. -/
theorem bmWrite_sameRow {key m row mask v : Nat} {s : State} (h : key = 1024 * m + row → mask = 0) :
    SameRow key s (bmWrite m row mask v s) := by
  unfold bmWrite
  split
  · exact ⟨rfl, rfl⟩
  · next hmask =>
    have hkey : key ≠ 1024 * m + row := fun he => hmask (h he)
    refine ⟨lookup_put_ne _ _ hkey, ?_⟩
    simp only [writeInj, State.modBm_bm, List.filter_filter]
    refine List.filter_congr fun e _ => ?_
    by_cases he : e.1 / 4 = key
    · simp [he, hkey]
    · simp [he]

/-- The writes of an edge leave a row that no port addresses, or at which no lane is written. -/
theorem edgeWrite_sameRow {key : Nat} {s t : State} {m k : Nat} {p : Option BmIn}
    (h : ∀ a, p = some a → key = 1024 * m + bmRow (s.bmCfg m k) a → bmMask (s.bmCfg m k) a = 0 ∨ s.fab.writes = false) :
    SameRow key t (edgeWrite s m (s.portAt m k p) t) := by
  cases hport : s.portAt m k p with
  | none => exact ⟨rfl, rfl⟩
  | some e =>
    obtain ⟨i, rfl, hi⟩ := Option.bind_eq_some_iff.1 hport
    split at hi
    · cases hi
      refine bmWrite_sameRow fun hkey => ?_
      rcases h i rfl hkey with h0 | hw
      · simp [edgeMask, h0]
      · simp [edgeMask, hw]
    · cases hi

/-- Settles O19: an edge writes the rows that its ports name and no others. -/
theorem portAccessWritesOnlyItsRow : Obligations.PortAccessWritesOnlyItsRow := by
  unfold Obligations.PortAccessWritesOnlyItsRow
  intro s t m pa pb hexec
  rw [exec_bmPortAccess, execBmPortAccess_eq] at hexec
  dsimp only at hexec
  split at hexec
  · cases hexec
    exact ⟨rfl, rfl, rfl, rfl, fun _ _ _ _ _ => ⟨rfl, rfl⟩⟩
  · cases hexec
    generalize ha : s.portAt m 0 pa = a
    generalize hc : s.portAt m 1 pb = c
    obtain ⟨hrows, hinj, hab⟩ := edgeReports_rows s m a c
    have hframe := (HardFrame.edgeReports s m a c).same
    have hlast := edgeClear_same s m a (edgeReports s m a c)
    have hbm : (edgeClear s m a (edgeReports s m a c)).bm = (edgeReports s m a c).bm := by rw [hlast]
    refine ⟨by rw [hlast, hframe], by rw [hlast, hframe], by rw [hlast, hframe], ?_, fun key code v hpa hpb => ?_⟩
    · rw [hbm, hab, edgeWrites, edgeWrite_ab, edgeWrite_ab]
    · have hsame : SameRow key s (edgeClear s m a (edgeReports s m a c)) := by
        refine .trans (t := edgeWrites s m a c) ?_ ⟨by rw [hbm, hrows], by rw [hbm, hinj]⟩
        rw [edgeWrites, ← ha, ← hc]
        exact (edgeWrite_sameRow (t := { s with free := s.free + 4 }) hpb).trans (edgeWrite_sameRow hpa)
      exact ⟨hsame.1, hsame.readRow code v⟩

/-! ## What an access leaves of the ports' configuration -/

namespace HardFrame

variable {m : Nat} {s t : State} (h : HardFrame (bmReport m) s t)
include h

/-- Fields below those of the memories are as before. -/
theorem get_below {g : Fld} (hg : g.key < 0x200000 * 64) : t.get g = s.get g := by
  refine h.get g ?_
  simp only [bmReport, List.forall_mem_cons, Fld.key, R.BM_STAT.COR, R.BM_STAT.UNC, R.BM_STAT.COLL, R.BM_STAT.COR_CNT,
    R.BM_STAT.UNC_CNT] at hg ⊢
  refine ⟨?_, ?_, ?_, ?_, ?_, by simp⟩ <;> omega

/-- Fields above those of the memories are as before. -/
theorem get_above (hm : m < 12288) {g : Fld} (hg : 0x20C000 * 64 ≤ g.key) : t.get g = s.get g := by
  refine h.get g ?_
  simp only [bmReport, List.forall_mem_cons, Fld.key, R.BM_STAT.COR, R.BM_STAT.UNC, R.BM_STAT.COLL, R.BM_STAT.COR_CNT,
    R.BM_STAT.UNC_CNT] at hg ⊢
  refine ⟨?_, ?_, ?_, ?_, ?_, by simp⟩ <;> omega

theorem code : t.get (R.BM_STAT.CODE m) = s.get (R.BM_STAT.CODE m) :=
  h.get _ (by simp [bmReport, Fld.key, R.BM_STAT.COR, R.BM_STAT.UNC, R.BM_STAT.COLL, R.BM_STAT.COR_CNT, R.BM_STAT.UNC_CNT,
    R.BM_STAT.CODE])

theorem clrBusy : t.flag (R.BM_STAT.CLR_BUSY m) = s.flag (R.BM_STAT.CLR_BUSY m) := by
  rw [State.flag, State.flag, h.get _ (by simp [bmReport, Fld.key, R.BM_STAT.COR, R.BM_STAT.UNC, R.BM_STAT.COLL,
    R.BM_STAT.COR_CNT, R.BM_STAT.UNC_CNT, R.BM_STAT.CLR_BUSY])]

theorem fab : t.fab = s.fab := by rw [h.same]

theorem ctx : t.ctx = s.ctx := by rw [h.same]

theorem planeState (hm : m < 12288) (r p : Nat) : t.planeState r p = s.planeState r p := by
  refine h.get_above hm ?_
  unfold psField
  split <;> simp only [Fld.key, R.CTX_STAT.PS0, R.CTX_STAT.PS1, R.CTX_STAT.PS2, R.CTX_STAT.PS3] <;> omega

theorem activePlane (hm : m < 12288) (r : Nat) : t.activePlane r = s.activePlane r :=
  h.get_above hm (by simp only [Fld.key, R.CTX_STAT.ACTIVE]; omega)

theorem bmCfg (hm : m < 12288) (k : Nat) : t.bmCfg m k = s.bmCfg m k := by
  simp only [State.bmCfg, State.frames, State.plane, h.activePlane hm, h.ctx]

theorem hardRuns (hm : m < 12288) {r : Nat} (hr : r < 128) : t.hardRuns r = s.hardRuns r := by
  have hgsr : t.get R.FAB_CTL.GSR_HELD = s.get R.FAB_CTL.GSR_HELD := h.get_below (by decide)
  have hheld : t.get (R.RST_FUNC.HOLD (r / 32)) = s.get (R.RST_FUNC.HOLD (r / 32)) :=
    h.get_below (by simp only [Fld.key, R.RST_FUNC.HOLD]; omega)
  have hfence : t.get (R.BORDER_STAT.FENCED r) = s.get (R.BORDER_STAT.FENCED r) :=
    h.get_below (by simp only [Fld.key, R.BORDER_STAT.FENCED]; omega)
  simp only [State.hardRuns, State.hasActive, State.srHeld, State.held, State.bit, State.flag, State.ctxR,
    h.planeState hm, h.activePlane hm, h.ctx, hgsr, hheld, hfence]

/-- The ports of a memory have the edges that they had. -/
theorem portRuns (hm : m < 12288) (k : Nat) : t.portRuns m k = s.portRuns m k := by
  simp only [State.portRuns, State.planeUses, State.plane, State.acted, h.bmCfg hm, h.hardRuns hm (r := m / 96) (by omega),
    h.planeState hm, h.activePlane hm, h.ctx, h.fab]

end HardFrame

/-! ## A row that was written -/

/-- Row `key` holds `v` in the lanes of `mask`, and none of them an error of its check bits. -/
structure HoldsLanes (s : State) (code key mask v : Nat) : Prop where
  lanes : ∃ x, lookup s.bm.rows key = some x ∧
    ∀ k, k < 4 → mask.testBit k = true → laneOf (laneBits code) x k = laneOf (laneBits code) v k
  clean : ∀ k, k < 4 → mask.testBit k = true → lookup s.bm.inj (4 * key + k) = none
  quiet : ∀ e ∈ s.bm.inj, e.1 / 4 = key → mask.testBit (e.1 % 4) = false

/-- A write puts its lanes into the row. -/
theorem bmWrite_holds {m row mask v : Nat} {s : State} (hmask : mask ≠ 0) :
    HoldsLanes (bmWrite m row mask v s) (s.get (R.BM_STAT.CODE m)) (1024 * m + row) mask v := by
  obtain ⟨x, hx, hlanes⟩ := writeRow_lanes s.bm.rows 4 (s.get (R.BM_STAT.CODE m)) (1024 * m + row) mask v
  have hall : ∀ k, k < 4 → Nat.testBit 15 k = true := by decide
  simp only [bmWrite, if_neg hmask]
  refine ⟨⟨x, hx, fun k hk hbit => by rw [hlanes k hk, if_pos hbit]⟩, fun k hk hbit => ?_, fun e he hkey => ?_⟩
  · refine writeInj_written s.bm.inj _ _ hk ?_
    split
    · exact hall k hk
    · exact hbit
  · obtain ⟨-, he⟩ := List.mem_filter.1 he
    split at he
    · simp [hkey, hall _ (Nat.mod_lt e.1 (show 0 < 4 by decide))] at he
    · simpa [hkey] using he

namespace HoldsLanes

variable {s : State} {code key mask v : Nat} (h : HoldsLanes s code key mask v)
include h

/-- A read of the row is valid and gives the lanes back. -/
theorem readRow (c : Nat) : (readRow s.bm.rows s.bm.inj 4 code key c).valid = true ∧
    ∀ k, k < 4 → mask.testBit k = true →
      laneOf (laneBits code) (readRow s.bm.rows s.bm.inj 4 code key c).data k = laneOf (laneBits code) v k := by
  obtain ⟨x, hx, hlanes⟩ := h.lanes
  simp only [Machine.readRow, hx]
  split
  · exact ⟨rfl, hlanes⟩
  · refine ⟨rfl, fun k hk hbit => ?_⟩
    have hdiv : (4 * key + k) / 4 = key := by omega
    have hnone : lookup (s.bm.inj.filter fun e => e.1 / 4 == key) (4 * key + k) = none := by
      rw [lookup_filter_keep _ (fun j => j / 4 == key) (by simp [hdiv]), h.clean k hk hbit]
    rw [laneOf_packLanes _ hk, hnone]
    simp [hlanes k hk hbit]

/-- No lane that was written reports an error. -/
theorem readErrors {span : Nat} (hspan : Nat.land span mask = span) (c : Nat) :
    readErrors s.bm.rows s.bm.inj 4 code key c span = (false, false) := by
  have hnone : (s.bm.inj.filter fun e => e.1 / 4 == key && span.testBit (e.1 % 4)) = [] := by
    refine List.filter_eq_nil_iff.2 fun e he => ?_
    simp only [Bool.and_eq_true, beq_iff_eq, not_and, Bool.not_eq_true]
    intro hkey
    rw [← hspan]
    show (span &&& mask).testBit _ = false
    rw [Nat.testBit_and, h.quiet e he hkey, Bool.and_false]
  simp only [Machine.readErrors, hnone]
  split <;> rfl

end HoldsLanes

/-- The lanes that an access takes out of a row. -/
theorem laneOf_take {w l n j : Nat} (x : Nat) (hj : j < n) :
    laneOf w (x / 2 ^ (w * l) % 2 ^ (w * n)) j = laneOf w x (l + j) := by
  refine Nat.eq_of_testBit_eq fun i => ?_
  simp only [laneOf, Nat.testBit_mod_two_pow, Nat.testBit_div_two_pow]
  by_cases hi : i < w
  · have hlt : i + w * j < w * n := by
      calc i + w * j < w + w * j := by omega
        _ = w * (j + 1) := by ring
        _ ≤ w * n := Nat.mul_le_mul_left _ hj
    simp only [hi, hlt, decide_true, Bool.true_and]
    congr 1
    ring
  · simp [hi]

theorem bmLane_add_lt {c : BmCfg} {i : BmIn} {j : Nat} (hj : j < bmLanes c) : bmLane c i + j < 4 := by
  unfold bmLanes at hj
  unfold bmLane
  split
  · next h => rw [h] at hj; omega
  · next h => rw [h] at hj; omega
  · next h0 h1 =>
    have hlt := c.lanes.isLt
    have h0 : ¬c.lanes.val = 0 := h0
    have h1 : ¬c.lanes.val = 1 := h1
    rw [show c.lanes.val = 2 by omega] at hj
    omega

/-! ## The two ports -/

theorem State.portAt_runs {s : State} {m k : Nat} (h : s.portRuns m k = true) (i : BmIn) :
    s.portAt m k (some i) = some (s.bmCfg m k, i) := by simp only [State.portAt, Option.bind_some, h, if_true]

/-- The registers of port B after an edge. -/
theorem edgeReports_portB (s : State) (m : Nat) (a : Option (BmCfg × BmIn)) (c : BmCfg) (i : BmIn) :
    (edgeReports s m a (some (c, i))).bmPort m 1 =
      bmRegs c (s.bmPort m 1) i (edgeResult s m 1 (some (c, i)) (edgeOther s m a (some (c, i)))) := by
  rw [State.bmPort, edgeReports_bm]
  exact bmPort_setBmPort_same _ _ _ _

/-- The output of a port with an output register waits for `OCE`. -/
theorem bmRegs_dout (c : BmCfg) (q : BmPort) (i : BmIn) (x : BmRes) : (bmRegs c q i (some x)).dout =
    if c.oreg = false then x.data else if i.oce = true then q.rDout else q.dout := by
  cases hreg : c.oreg <;> cases hoce : i.oce <;> simp [bmRegs, hreg, hoce]

/-- What port B shows after a lone read of a row. -/
theorem edgeResult_read {s : State} {m : Nat} {c : BmCfg} {i : BmIn} (hclr : s.flag (R.BM_STAT.CLR_BUSY m) = false)
    (hen : i.en = true) (hwe : i.we = 0) : edgeResult s m 1 (some (c, i)) 0 =
      let code := s.get (R.BM_STAT.CODE m)
      let rd := readRow s.bm.rows s.bm.inj 4 code (1024 * m + bmRow c i) (Config.freeValue s.free)
      let bad := readErrors s.bm.rows s.bm.inj 4 code (1024 * m + bmRow c i) (Config.freeValue s.free) (bmSpan c i)
      some ⟨rd.data / 2 ^ (laneBits code * bmLane c i) % 2 ^ (laneBits code * bmLanes c), !rd.valid, bad.1, bad.2, false⟩ := by
  simp [edgeResult, edgeMask, hclr, hen, bmMask_of_we_zero c hwe, bmResult]

/-- What port B shows where port A writes lanes of its row: a collision. -/
theorem bmResult_coll {s : State} {m : Nat} {c : BmCfg} {i : BmIn} {w other : Nat} (hother : other ≠ 0) (old : BmPort) :
    (bmResult s m c i w other false old).coll = true := by
  by_cases hw : w = 0
  · simp [bmResult, hw, hother]
  · simp only [bmResult, hw, false_and, if_false, Bool.false_eq_true]
    split
    · simpa using hother
    · simpa using hother
    · split <;> simpa using hother

section

variable {s : State} {m : Fin 12288} {a : BmIn} (hcode : s.get (R.BM_STAT.CODE m) < 3) (hrun : s.portRuns m 0 = true)
  (hclr : a.clr = false)
include hcode hrun hclr

/-- An edge of port A without `CLR`. -/
theorem exec_bmPortAccess_portA (pb : Option BmIn) : exec (.bmPortAccess m (some a) pb) s =
    .next (edgeReports s m (some (s.bmCfg m 0, a)) (s.portAt m 1 pb)) := by
  have h3 : (s.get (R.BM_STAT.CODE m) == 3) = false := beq_eq_false_iff_ne.2 (by omega)
  rw [exec_bmPortAccess, execBmPortAccess_eq]
  simp only [State.portAt_runs hrun, h3, Option.isNone_some, Bool.false_and, Bool.or_false, Bool.false_eq_true, if_false,
    edgeClear, hclr, applyIf]

end

/-- An edge of port B alone. -/
theorem exec_bmPortAccess_portB {s : State} {m : Fin 12288} {b : BmIn} (hcode : s.get (R.BM_STAT.CODE m) < 3)
    (hrun : s.portRuns m 1 = true) :
    exec (.bmPortAccess m none (some b)) s = .next (edgeReports s m none (some (s.bmCfg m 1, b))) := by
  have h3 : (s.get (R.BM_STAT.CODE m) == 3) = false := beq_eq_false_iff_ne.2 (by omega)
  have hnone : s.portAt m 0 none = none := rfl
  rw [exec_bmPortAccess, execBmPortAccess_eq]
  simp only [State.portAt_runs hrun, hnone, h3, Option.isNone_some, Option.isNone_none, Bool.and_false, Bool.or_false,
    Bool.false_eq_true, if_false, edgeClear]

/-- Where writes are performed a port writes the lanes it names. -/
theorem edgeMask_writes {s : State} {m : Nat} (hwrites : s.fab.writes = true) (hclr : s.flag (R.BM_STAT.CLR_BUSY m) = false)
    (c : BmCfg) (i : BmIn) : edgeMask s m (some (c, i)) = bmMask c i := by simp [edgeMask, hwrites, hclr]

/-- The writes of both ports at one row: port A's lanes are its data, port B's others are its own. -/
theorem bothWrites {s : State} {m : Nat} {ca cb : BmCfg} {a b : BmIn} (hmask : bmMask ca a ≠ 0)
    (hwrites : s.fab.writes = true) (hclr : s.flag (R.BM_STAT.CLR_BUSY m) = false) (hrow : bmRow ca a = bmRow cb b) :
    let w := laneBits (s.get (R.BM_STAT.CODE m))
    ∃ v, lookup (edgeWrites s m (some (ca, a)) (some (cb, b))).bm.rows (1024 * m + bmRow ca a) = some v ∧
      ∀ k, k < 4 → laneOf w v k = if (bmMask ca a).testBit k then laneOf w (bmData ca a w) k
        else if (bmMask cb b).testBit k then laneOf w (bmData cb b w) k
        else laneOf w (at' s.bm.rows (1024 * m + bmRow ca a) 0) k := by
  intro w
  have hB : edgeWrite s m (some (cb, b)) { s with free := s.free + 4 } =
      bmWrite m (bmRow ca a) (bmMask cb b) (bmData cb b w) { s with free := s.free + 4 } := by
    rw [hrow, ← edgeMask_writes hwrites hclr cb b]
    rfl
  have hlanesB : ∀ k, k < 4 → laneOf w (at' (bmWrite m (bmRow ca a) (bmMask cb b) (bmData cb b w)
      { s with free := s.free + 4 }).bm.rows (1024 * m + bmRow ca a) 0) k =
        if (bmMask cb b).testBit k then laneOf w (bmData cb b w) k
        else laneOf w (at' s.bm.rows (1024 * m + bmRow ca a) 0) k := by
    intro k hk
    by_cases h0 : bmMask cb b = 0
    · rw [h0, bmWrite_none]
      simp
    · obtain ⟨x, hx, hl⟩ := writeRow_lanes s.bm.rows 4 (s.get (R.BM_STAT.CODE m)) (1024 * m + bmRow ca a) (bmMask cb b)
        (bmData cb b w)
      rw [← hl k hk, at', bmWrite, if_neg h0]
      exact congrArg (fun o => laneOf w (Option.getD o 0) k) hx
  have hA : edgeWrites s m (some (ca, a)) (some (cb, b)) = bmWrite m (bmRow ca a) (bmMask ca a) (bmData ca a w)
      (bmWrite m (bmRow ca a) (bmMask cb b) (bmData cb b w) { s with free := s.free + 4 }) := by
    rw [← hB, ← edgeMask_writes hwrites hclr ca a]
    rfl
  have hcode : (bmWrite m (bmRow ca a) (bmMask cb b) (bmData cb b w) { s with free := s.free + 4 }).get
      (R.BM_STAT.CODE m) = s.get (R.BM_STAT.CODE m) := by
    unfold bmWrite
    split <;> rfl
  rw [hA]
  generalize bmWrite m (bmRow ca a) (bmMask cb b) (bmData cb b w) { s with free := s.free + 4 } = t at hlanesB hcode
  obtain ⟨x, hx, hl⟩ := writeRow_lanes t.bm.rows 4 (s.get (R.BM_STAT.CODE m)) (1024 * m + bmRow ca a) (bmMask ca a)
    (bmData ca a w)
  refine ⟨x, ?_, fun k hk => ?_⟩
  · rw [bmWrite, if_neg hmask, hcode]
    exact hx
  · rw [hl k hk]
    exact if_congr Iff.rfl rfl (hlanesB k hk)

/-- Settles O17: a write through port A and a read through port B, one after the other and at one edge. -/
theorem blockMemoryPortsAgree : Obligations.BlockMemoryPortsAgree := by
  unfold Obligations.BlockMemoryPortsAgree
  refine ⟨?after, ?together⟩
  case after =>
    intro s m a b hcode hrunA hrunB hwrites hclr hena hclra henb hweb ca cb w hmask hrow
    have hexec : exec (.bmPortAccess m (some a) none) s = .next (edgeReports s m (some (ca, a)) none) :=
      exec_bmPortAccess_portA hcode hrunA hclra none
    have hf : HardFrame (bmReport m) s (edgeReports s m (some (ca, a)) none) := .edgeReports _ _ _ _
    have hholds : HoldsLanes (edgeReports s m (some (ca, a)) none) (s.get (R.BM_STAT.CODE m)) (1024 * m + bmRow cb b)
        (bmMask ca a) (bmData ca a w) := by
      obtain ⟨hrows, hinj, -⟩ := edgeReports_rows s m (some (ca, a)) none
      have h := bmWrite_holds (m := m) (row := bmRow ca a) (v := bmData ca a w) (s := { s with free := s.free + 4 }) hmask
      have hw : edgeWrites s m (some (ca, a)) none = bmWrite m (bmRow ca a) (bmMask ca a) (bmData ca a w)
          { s with free := s.free + 4 } := by
        rw [← edgeMask_writes hwrites hclr ca a]
        rfl
      rw [hw] at hrows hinj
      exact ⟨by rw [hrows, ← hrow]; exact h.lanes, by rw [hinj, ← hrow]; exact h.clean, by rw [hinj, ← hrow]; exact h.quiet⟩
    generalize edgeReports s m (some (ca, a)) none = t at hexec hf hholds
    have hcfg : t.bmCfg m 1 = cb := hf.bmCfg m.isLt 1
    have hexecB := exec_bmPortAccess_portB (b := b) (hf.code ▸ hcode) ((hf.portRuns m.isLt 1).trans hrunB)
    have hport := edgeReports_portB t m none (t.bmCfg m 1) b
    have hread := edgeResult_read (c := cb) (hf.clrBusy.trans hclr) henb hweb
    rw [show edgeOther t m none (some (t.bmCfg m 1, b)) = 0 from rfl, hcfg, hread, hf.code] at hport
    refine ⟨t, _, hexec, hexecB, ?_⟩
    rw [hcfg, hport]
    obtain ⟨hdata, hunwr, hcor, hunc⟩ := bmRegs_read cb (t.bmPort m 1) b
      ⟨(readRow t.bm.rows t.bm.inj 4 (s.get (R.BM_STAT.CODE m)) (1024 * m + bmRow cb b) (Config.freeValue t.free)).data /
          2 ^ (laneBits (s.get (R.BM_STAT.CODE m)) * bmLane cb b) % 2 ^ (laneBits (s.get (R.BM_STAT.CODE m)) * bmLanes cb), _, _, _, false⟩
    obtain ⟨hvalid, hlanes⟩ := hholds.readRow (Config.freeValue t.free)
    refine ⟨fun j hj hbit => ?_, ?_, fun hspan => ?_, ?_⟩
    · rw [hdata, laneOf_take _ hj]
      exact hlanes _ (bmLane_add_lt hj) hbit
    · rw [hunwr, hvalid]
      rfl
    · rw [hcor, hunc, hholds.readErrors hspan]
      exact ⟨rfl, rfl⟩
    · rw [bmRegs_dout, hdata]
  case together =>
    intro s m a b hcode hrunA hrunB hwrites hclr hena hclra henb ca cb w hmask hrow
    have hexec := exec_bmPortAccess_portA hcode hrunA hclra (some b)
    rw [State.portAt_runs hrunB] at hexec
    obtain ⟨hrows, -, -⟩ := edgeReports_rows s m (some (ca, a)) (some (cb, b))
    have hother : edgeOther s m (some (ca, a)) (some (cb, b)) = bmMask ca a := by
      simp [edgeOther, sameRow, hena, henb, hrow, edgeMask_writes hwrites hclr]
    have hport := edgeReports_portB s m (some (ca, a)) cb b
    obtain ⟨x, hx, hcoll⟩ : ∃ x, edgeResult s m 1 (some (cb, b)) (edgeOther s m (some (ca, a)) (some (cb, b))) = some x ∧
        x.coll = true := by
      refine ⟨_, by rw [edgeResult, if_pos henb], ?_⟩
      rw [hother, hclr]
      exact bmResult_coll hmask _
    rw [hx] at hport
    obtain ⟨v, hv, hlanes⟩ := bothWrites hmask hwrites hclr hrow
    refine ⟨_, v, hexec, hrows ▸ hv, fun k hk hbit => ?_, fun k hk hbit hbitB => ?_, ?_, fun hreg => ?_, ?_⟩
    · rw [hlanes k hk, if_pos hbit]
    · rw [hlanes k hk, if_neg (by rw [hbit]; decide), if_pos hbitB]
    · rw [hport]
      cases hreg : cb.oreg <;> simp [bmRegs, hreg, hcoll]
    · rw [hport]
      simp [bmRegs, hreg, hcoll]
    · rw [edgeReports, hx]
      simp only [bmCount, hcoll, applyIf, if_true]
      rw [State.flag, State.get_set_same]
      rfl

end Sys2Proof.Machine
end

section
/-! PROOFS. Bulk clears of block memories, and the commands of the hard blocks (R205, R222). -/

namespace Sys2Proof.Machine

/-- After a bulk clear no row of the memory is valid, and rows of other memories are as they were (R205). -/
theorem clearBm_rows (m : Nat) (s : State) (key : Nat) :
    lookup (clearBm m s).bm.rows key = if key / 1024 = m then none else lookup s.bm.rows key := by
  rw [clearBm, State.modBm_bm, lookup_dropKeys]
  simp only [beq_iff_eq]

/-- Settles O21: the three ways to start a bulk clear, its end, and the commands by their checks and meanings. -/
theorem bulkClearAndHardBlockCommandsComplete : Obligations.BulkClearAndHardBlockCommandsComplete := by
  unfold Obligations.BulkClearAndHardBlockCommandsComplete
  intro mb s
  refine ⟨?input, ?done, ?stat, ?clear, ?clearAll, ?get, ?flags, ?flagsClear⟩
  case input =>
    intro m hcode hrun
    have hx : (s.get (R.BM_STAT.CODE m) == 3 || !s.portRuns m 0) = false := by simp [hcode, hrun]
    rw [exec_bmClrInput]
    exact if_neg (by rw [hx]; decide)
  case done =>
    intro m hbusy
    refine ⟨_, by rw [exec_bmBulkClearDone, execBmBulkClearDone, if_pos hbusy], ?_, ?_, fun row hrow => ?_, fun key hkey => ?_⟩
    · show State.flag (((s.set (R.BM_STAT.CLR_BUSY m) 0).set (R.BM_STAT.CLR m) 0)) _ = false
      rw [State.flag, State.get_set_ne _ _ (by simp [Fld.key, R.BM_STAT.CLR_BUSY, R.BM_STAT.CLR]), State.get_set_same]
      rfl
    · show State.get (((s.set (R.BM_STAT.CLR_BUSY m) 0).set (R.BM_STAT.CLR m) 0)) _ = _
      rw [State.get_set_ne _ _ (by simp [Fld.key, R.BM_STAT.CODE, R.BM_STAT.CLR]),
        State.get_set_ne _ _ (by simp [Fld.key, R.BM_STAT.CODE, R.BM_STAT.CLR_BUSY])]
    · rw [clearBm_rows, if_pos (by omega)]
    · rw [clearBm_rows, if_neg hkey]
      rfl
  case stat =>
    intro m hup
    refine ⟨fun hm => ?_, fun hm => ?_⟩
    · rw [exec_bmStatClr, execBmStatClr, if_pos hup, writeBmClr, hm]
      rfl
    · rw [exec_bmStatClr, execBmStatClr, if_pos hup, writeBmClr, if_pos hm]
  case clear =>
    intro r m h hr hm ht
    replace ht : r ∉ s.test.busy := by simpa using ht
    refine ⟨fun hu => ?_, fun hu => ?_⟩
    · exact completes_checked h rfl (by simp [Nat.not_le.2 hr, Nat.not_le.2 hm, ht, hu]) (if_pos hm)
    · exact completes_denied h rfl (by simp [List.find?, Nat.not_le.2 hr, Nat.not_le.2 hm, ht, hu, hm]) (by decide)
  case clearAll =>
    intro r h hr ht all t
    replace ht : r ∉ s.test.busy := by simpa using ht
    have hany : all.any (s.begun mb).bmInUse = all.any s.bmInUse := rfl
    refine ⟨fun hu => ?_, fun hu => ?_⟩
    · refine completes_checked h rfl (by simp [Nat.not_le.2 hr, ht]) ?_
      refine (if_neg (by decide)).trans (if_neg ?_)
      rw [hany, hu]
      decide
    · refine completes_checked h rfl (by simp [Nat.not_le.2 hr, ht]) ?_
      refine (if_neg (by decide)).trans (if_pos ?_)
      rw [hany, hu]
  case get =>
    intro r first count h hr h1 h16 hlast ht
    replace ht : r ∉ s.test.busy := by simpa using ht
    exact completes_served h rfl ((if_neg (by omega)).trans (if_neg (by simpa using ht)))
  case flags =>
    intro r h hr
    exact completes_served h rfl (if_neg (by omega))
  case flagsClear =>
    intro r h hr
    exact completes_served h rfl (if_neg (by omega))

end Sys2Proof.Machine
end

section
/-! PROOFS. The context commands of Table 8-12. -/

namespace Sys2Proof.Machine

/-! ## The tables of a swap set -/

/-- The two fields of region `r` in the table of swap set `k` take their values from two masks. -/
def defMember (k m ps r : Nat) (s : State) : State :=
  (s.set (R.SWAP_TGT.MEMBER k (r / 8) (r % 8)) (m / 2 ^ r)).set (R.SWAP_TGT.PLANE k (r / 8) (r % 8)) (ps / 2 ^ (2 * r))

/-- A field of another region's entry stays. -/
theorem defMember_get {k m ps r : Nat} {s : State} {g : Fld} (h1 : g.key ≠ (R.SWAP_TGT.MEMBER k (r / 8) (r % 8)).key)
    (h2 : g.key ≠ (R.SWAP_TGT.PLANE k (r / 8) (r % 8)).key) : (defMember k m ps r s).get g = s.get g := by
  rw [defMember, State.get_set_ne _ _ h2, State.get_set_ne _ _ h1]

theorem forEach_range_succ (n : Nat) (f : Nat → State → State) (s : State) :
    forEach (List.range (n + 1)) f s = f n (forEach (List.range n) f s) := by
  simp [forEach, List.range_succ]

/-- The table after the first `n` regions. -/
theorem defMembers_get {k m ps n : Nat} (s : State) (hk : k < 16) (hn : n ≤ 128) :
    let t := forEach (List.range n) (defMember k m ps) s
    t.get (R.SWAP_CTL.ATOMIC k) = s.get (R.SWAP_CTL.ATOMIC k) ∧
    ∀ r < n, t.get (R.SWAP_TGT.MEMBER k (r / 8) (r % 8)) = m / 2 ^ r % 2 ∧
      t.get (R.SWAP_TGT.PLANE k (r / 8) (r % 8)) = ps / 2 ^ (2 * r) % 4 := by
  induction n with
  | zero => exact ⟨rfl, fun r hr => absurd hr (Nat.not_lt_zero r)⟩
  | succ n ih =>
    obtain ⟨hatomic, hlow⟩ := ih (by omega)
    rw [forEach_range_succ]
    refine ⟨?_, fun r hr => ?_⟩
    · rw [defMember_get, hatomic]
      · simp only [Fld.key, R.SWAP_CTL.ATOMIC, R.SWAP_TGT.MEMBER]; omega
      · simp only [Fld.key, R.SWAP_CTL.ATOMIC, R.SWAP_TGT.PLANE]; omega
    · rcases Nat.lt_succ_iff_lt_or_eq.1 hr with hlt | rfl
      · rw [defMember_get, defMember_get]
        · exact hlow r hlt
        all_goals simp only [Fld.key, R.SWAP_TGT.MEMBER, R.SWAP_TGT.PLANE]; omega
      · rw [defMember]
        refine ⟨?_, State.get_set_same _ _ _⟩
        rw [State.get_set_ne _ _ (by simp only [Fld.key, R.SWAP_TGT.MEMBER, R.SWAP_TGT.PLANE]; omega)]
        exact State.get_set_same _ _ _

/-! ## The order of a rotation -/

/-- The planes of an order, two bits each, as the register holds them. -/
def packOrder (order : List (Fin 4)) : Nat :=
  (List.range order.length).foldl (fun a k => a + (order.getD k 0).val * 4 ^ k) 0

/-- An order of two to four planes reads back from its register. -/
theorem bitsOf_packOrder (order : List (Fin 4)) (h2 : 2 ≤ order.length) (h4 : order.length ≤ 4) :
    (List.range ((order.length - 1) % 2 ^ 2 + 1)).map (fun k => bitsOf (packOrder order % 2 ^ 8) (2 * k) 2) =
      order.map (·.val) := by
  have hpair : ∀ a b : Fin 4, (List.range 2).map (fun k => bitsOf (packOrder [a, b] % 2 ^ 8) (2 * k) 2) = [a.val, b.val] := by
    decide
  have htriple : ∀ a b c : Fin 4, (List.range 3).map (fun k => bitsOf (packOrder [a, b, c] % 2 ^ 8) (2 * k) 2) =
      [a.val, b.val, c.val] := by
    decide
  have hquad : ∀ a b c d : Fin 4, (List.range 4).map (fun k => bitsOf (packOrder [a, b, c, d] % 2 ^ 8) (2 * k) 2) =
      [a.val, b.val, c.val, d.val] := by
    decide
  match order, h2, h4 with
  | [a, b], _, _ => exact hpair a b
  | [a, b, c], _, _ => exact htriple a b c
  | [a, b, c, d], _, _ => exact hquad a b c d

/-- The registers of a rotation after its start. -/
theorem setRotation_get {r : Nat} (order : List (Fin 4)) (s : State) :
    let t := ((s.set (R.CTX_CFG.ROT_EN r) 1).set (R.CTX_CFG.ROT_LEN r) (order.length - 1)).set (R.CTX_CFG.ROT_ORDER r)
      (packOrder order)
    t.get (R.CTX_CFG.ROT_EN r) = 1 ∧ t.get (R.CTX_CFG.ROT_LEN r) = (order.length - 1) % 2 ^ 2 ∧
      t.get (R.CTX_CFG.ROT_ORDER r) = packOrder order % 2 ^ 8 := by
  intro t
  refine ⟨?_, ?_, State.get_set_same _ _ _⟩
  · rw [State.get_set_ne _ _ (by simp [Fld.key, R.CTX_CFG.ROT_EN, R.CTX_CFG.ROT_ORDER]),
      State.get_set_ne _ _ (by simp [Fld.key, R.CTX_CFG.ROT_EN, R.CTX_CFG.ROT_LEN]), State.get_set_same]
    rfl
  · rw [State.get_set_ne _ _ (by simp [Fld.key, R.CTX_CFG.ROT_LEN, R.CTX_CFG.ROT_ORDER])]
    exact State.get_set_same _ _ _

/-- A change to the swap control of a region reads back. -/
theorem State.ctxR_modCtx_same (s : State) (r : Nat) (f : CtxR → CtxR) : (s.modCtx r f).ctxR r = f (s.ctxR r) :=
  at'_putD_same _ _ _ _

/-- Settles O24: each command by its checks and its meaning. -/
theorem contextCommandsComplete : Obligations.ContextCommandsComplete := by
  unfold Obligations.ContextCommandsComplete
  intro mb s
  refine ⟨?status, ?swap, ?swapSet, ?setDef, ?discard, ?rotate, ?rotateStop, ?capture, ?capFree⟩
  case status =>
    intro r h hr ht
    refine completes_served h rfl ((if_neg (Nat.not_le.2 hr)).trans (if_neg ?_))
    rw [State.begun_test, ht]
    decide
  case swap =>
    intro r p tick h hr hp ht ht'
    have hargs : ¬((0 : Nat) ≠ 0 ∨ 128 ≤ r ∨ 4 ≤ p) := by omega
    have hbusy : ¬((s.begun mb).test.busy.contains r || (s.begun mb).test.busy.contains (1024 + 4 * r + p)) = true := by
      rw [State.begun_test, ht, ht']
      decide
    refine ⟨fun hrun hhost => ?_, fun hrun => ?_⟩
    · have hhost' : ((s.begun mb).ctxR r).host = none := hhost
      rw [exec_served h rfl, if_neg (by decide), if_neg hargs, if_neg hbusy, begun_runClass, hrun, hhost', begun_serial]
      rfl
    · refine completes_served h rfl ?_
      rw [if_neg (by decide), if_neg hargs, if_neg hbusy, begun_runClass, hrun, begun_swapReason]
      rfl
  case swapSet =>
    intro k plane tick h hk ha hn hm hf
    obtain ⟨j, -, hp⟩ := schedPlace_free (s := s.begun mb) tick 1 0 k hf
    refine ⟨j, _, hp, completes_served h rfl ?_⟩
    have hnone : ((s.begun mb).clk.sched.any fun p => (p.2.st == 1 || p.2.st == 4) && p.2.tick == tick
        && p.2.action == 1 && p.2.target == 0) = false := by
      simpa [and_assoc] using hn
    have hbusy : ((s.begun mb).setMembers k).any (fun e => (s.begun mb).test.busy.contains e.1) = false := by
      simpa using hm
    rw [if_pos rfl, begun_tickAhead, ha, hnone, hbusy, hp, if_neg (by simp [hk])]
    rfl
  case setDef =>
    intro k a m ps h hk ha ht
    have hbusy : ((List.range 128).any fun r => m.testBit r && s.test.busy.contains r) = false := by
      simpa [List.any_eq_false] using ht
    refine ⟨fun harm => ?_, fun harm => ?_⟩
    · exact completes_denied h rfl (by
        simp only [List.find?, hbusy]
        simp [harm, Nat.not_le.2 hk, Nat.not_le.2 ha]) (by decide)
    · obtain ⟨hatomic, hmembers⟩ := defMembers_get (m := m) (ps := ps) ((s.begun mb).set (R.SWAP_CTL.ATOMIC k) a) hk
        (Nat.le_refl 128)
      refine ⟨_, completes_checked h rfl ?_ rfl, ?_, fun r hr => ?_⟩
      · simp only [List.forall_mem_cons, hbusy]
        simp [harm, Nat.not_le.2 hk, Nat.not_le.2 ha]
      · refine hatomic.trans ?_
        rw [State.get_set_same]
        exact Nat.mod_eq_of_lt ha
      · obtain ⟨hmember, hplane⟩ := hmembers r hr
        refine ⟨?_, hplane⟩
        refine (congrArg (· != 0) hmember).trans ?_
        rw [Nat.testBit_eq_decide_div_mod_eq]
        rcases Nat.mod_two_eq_zero_or_one (m / 2 ^ r) with h0 | h1
        · rw [h0]; rfl
        · rw [h1]; rfl
  case discard =>
    intro r p h hr hp ht ht' hrot harm hhood
    have hpass : ∀ q ∈ [(decide (128 ≤ r) || decide (4 ≤ p), stBadArg),
        (s.test.busy.contains r || s.test.busy.contains (1024 + 4 * r + p), stBusyTest),
        (s.planeState r p == psActive || s.rotates r p || s.armedPlane r p, stDenied),
        (s.planeState r p == psLoading, stBusy)], q.1 = false := by
      replace ht : r ∉ s.test.busy := by simpa using ht
      replace ht' : 1024 + 4 * r + p ∉ s.test.busy := by simpa using ht'
      simp [ht, ht', hrot, harm, hhood, Nat.not_le.2 hr, Nat.not_le.2 hp, psHood, psActive, psLoading]
    have hne : ¬s.planeState r p = psEmpty := by rw [hhood]; decide
    refine ⟨fun hrun => ?_, fun hrun => ?_⟩
    · refine completes_checked h rfl hpass ((if_neg hne).trans (if_neg ?_))
      rw [begun_ctxRuns, hrun]
      decide
    · refine runs_checked h rfl hpass ((if_neg hne).trans ((if_pos hrun).trans ?_))
      rw [askState, begun_ctxRuns, if_pos hrun, begun_serial]
  case rotate =>
    intro r order arg h hr ht h2 h4 ha hfast hplanes hrot hrun hborder
    have hbusy : ¬(s.begun mb).test.busy.contains r = true := by rw [State.begun_test, ht]; decide
    have hpass : ∀ q ∈ [(decide (order.length < 2) || decide (4 < order.length), stBadArg),
        (arg != 0 && !s.tickAhead arg, stBadArg), (s.ctxTooFast r, stBadArg),
        (order.any fun q => !(s.planeState r q == psHood || s.planeState r q == psActive), stDenied),
        (s.flag (R.CTX_CFG.ROT_EN r) || !s.runClass || decide (2 ≤ s.borderCause r), stDenied)], q.1 = false := by
      have harg : (arg != 0 && !s.tickAhead arg) = false := by
        rcases ha with rfl | ha
        · rfl
        · rw [ha, Bool.not_true, Bool.and_false]
      have hstates : (order.any fun q => !(s.planeState r q == psHood || s.planeState r q == psActive)) = false := by
        rw [List.any_eq_false]
        intro q hq
        rcases hplanes q hq with h | h <;> simp [h]
      simp only [List.forall_mem_cons, harg, hstates]
      simp [hfast, hrot, hrun, Nat.not_lt.2 h2, Nat.not_lt.2 h4, Nat.not_le.2 hborder]
    refine ⟨_, completes_served h rfl ((if_neg (by omega)).trans ((if_neg hbusy).trans ((if_pos rfl).trans
      (checks_pass _ _ hpass)))), ?_, ?_, ?_, ?_⟩
    · exact (congrArg (· != 0) (setRotation_get order ((s.begun mb))).1).trans rfl
    · obtain ⟨-, hlen, horder⟩ := setRotation_get (r := r) order (s.begun mb)
      refine Eq.trans ?_ (bitsOf_packOrder order h2 h4)
      rw [← hlen, ← horder]
      rfl
    · exact congrArg CtxR.rotStart (State.ctxR_modCtx_same _ _ _)
    · exact congrArg CtxR.rotStop (State.ctxR_modCtx_same _ _ _)
  case rotateStop =>
    intro r order q h hr ht hq hrot hmem
    have hbusy : ¬(s.begun mb).test.busy.contains r = true := by rw [State.begun_test, ht]; decide
    refine completes_served h rfl ((if_neg (by omega)).trans ((if_neg hbusy).trans ((if_neg (by decide)).trans
      (checks_pass _ _ ?_))))
    have hmem' : (s.rotOrder r).contains q = true := by simpa using hmem
    simp [Nat.not_le.2 hq, hrot]
    exact hmem
  case capture =>
    intro r p h hr hp ht ht' hbar hfull
    have hpass : ∀ q ∈ [(decide (128 ≤ r) || decide (4 ≤ p), stBadArg),
        (s.test.busy.contains r || s.test.busy.contains (1024 + 4 * r + p), stBusyTest),
        (s.capBarred r p, stDenied)], q.1 = false := by
      replace ht : r ∉ s.test.busy := by simpa using ht
      replace ht' : 1024 + 4 * r + p ∉ s.test.busy := by simpa using ht'
      simp [ht, ht', hbar, Nat.not_le.2 hr, Nat.not_le.2 hp]
    have hfull' : ¬(s.begun mb).flag (R.CAP_STAT.FULL r) = true := by rw [begun_flag, hfull]; decide
    refine ⟨fun hp => ?_, fun hp hm => ?_, fun hp hm hreq => ?_⟩
    · exact completes_checked h rfl hpass ((if_neg hfull').trans (if_pos hp))
    · exact completes_checked h rfl hpass ((if_neg hfull').trans ((if_neg (not_not.2 hp)).trans (if_pos hm)))
    · refine runs_checked h rfl hpass ((if_neg hfull').trans ((if_neg (not_not.2 hp)).trans ((if_neg hm).trans ?_)))
      have hreq' : ((s.begun mb).ctxR r).capReq = none := hreq
      rw [hreq', begun_serial]
      rfl
  case capFree =>
    intro r h hr ht
    replace ht : r ∉ s.test.busy := by simpa using ht
    exact completes_checked h rfl (by simp [Nat.not_le.2 hr, ht]) rfl

end Sys2Proof.Machine
end

section
/-! PROOFS. The swap edge: what it exchanges and what it keeps (R231, R238). -/

namespace Sys2Proof.Machine

/-! ## What the steps around a swap keep -/

/-- The fields of `CTX_STAT` that a swap changes, of region `r`. -/
def swapRegs (r : Nat) : List Fld :=
  [R.CTX_STAT.ACTIVE r, R.CTX_STAT.PS0 r, R.CTX_STAT.PS1 r, R.CTX_STAT.PS2 r, R.CTX_STAT.PS3 r, R.CTX_STAT.SWAP_CNT r]

/-- What a swap of region `r` is about is the same in `s` and `t`. -/
structure SwapKept (r : Nat) (s t : State) : Prop where
  bm : t.bm = s.bm
  cache : t.cache = s.cache
  planes : t.ctx.planes = s.ctx.planes
  ff : t.fab.ff = s.fab.ff
  inSwap : (t.ctxR r).inSwap = (s.ctxR r).inSwap
  sets : (t.ctxR r).sets = (s.ctxR r).sets
  host : (t.ctxR r).host = (s.ctxR r).host
  get : ∀ g ∈ swapRegs r, t.get g = s.get g

/-- A field that lies outside the word of `CTX_STAT` of region `r`, or at a bit that a swap does not change. -/
def Fld.NoSwap (r : Nat) (f : Fld) : Prop := ∀ g ∈ swapRegs r, g.key ≠ f.key

theorem Fld.noSwap_of_key {r : Nat} {f : Fld} (h : f.key < (0x300200 + 4 * r) * 64 ∨ (0x300200 + 4 * r) * 64 + 20 ≤ f.key ∨
    ((0x300200 + 4 * r) * 64 + 9 ≤ f.key ∧ f.key < (0x300200 + 4 * r) * 64 + 19)) : f.NoSwap r := by
  simp only [Fld.NoSwap, swapRegs, List.forall_mem_cons, Fld.key, R.CTX_STAT.ACTIVE, R.CTX_STAT.PS0, R.CTX_STAT.PS1,
    R.CTX_STAT.PS2, R.CTX_STAT.PS3, R.CTX_STAT.SWAP_CNT] at h ⊢
  refine ⟨?_, ?_, ?_, ?_, ?_, ?_, by simp⟩ <;> omega

theorem swapRegs_plain {r : Nat} : ∀ g ∈ swapRegs r, g.Plain ∧ 0x300200 * 64 ≤ g.key := by
  simp only [swapRegs, List.forall_mem_cons, Fld.Plain, Fld.key, R.CTX_STAT.ACTIVE, R.CTX_STAT.PS0, R.CTX_STAT.PS1,
    R.CTX_STAT.PS2, R.CTX_STAT.PS3, R.CTX_STAT.SWAP_CNT]
  refine ⟨?_, ?_, ?_, ?_, ?_, ?_, by simp⟩ <;> omega

namespace SwapKept

variable {r : Nat} {s t u : State}

theorem refl : SwapKept r s s := ⟨rfl, rfl, rfl, rfl, rfl, rfl, rfl, fun _ _ => rfl⟩

theorem trans (h : SwapKept r s t) (h' : SwapKept r t u) : SwapKept r s u :=
  ⟨h'.bm.trans h.bm, h'.cache.trans h.cache, h'.planes.trans h.planes, h'.ff.trans h.ff, h'.inSwap.trans h.inSwap,
    h'.sets.trans h.sets, h'.host.trans h.host, fun g hg => (h'.get g hg).trans (h.get g hg)⟩

theorem ite {c : Prop} [Decidable c] (ht : SwapKept r s t) (hu : SwapKept r s u) :
    SwapKept r s (if c then t else u) := by split <;> assumption

theorem applyIf {c : Bool} {f : State → State} (hf : SwapKept r s (f s)) : SwapKept r s (applyIf c f s) := .ite hf .refl

theorem forEach {α : Type} {f : α → State → State} (l : List α) (s : State)
    (hf : ∀ a ∈ l, ∀ u, SwapKept r u (f a u)) : SwapKept r s (Machine.forEach l f s) := by
  induction l generalizing s with
  | nil => exact .refl
  | cons a l ih =>
    exact (hf a List.mem_cons_self s).trans (ih (f a s) fun b hb => hf b (List.mem_cons_of_mem _ hb))

theorem set {f : Fld} (v : Nat) (h : f.NoSwap r) : SwapKept r s (s.set f v) :=
  ⟨rfl, rfl, rfl, rfl, rfl, rfl, rfl, fun g hg => State.get_set_ne _ _ (h g hg)⟩

theorem modCtx (f : CtxR → CtxR) (h1 : ∀ c, (f c).inSwap = c.inSwap) (h2 : ∀ c, (f c).sets = c.sets)
    (h3 : ∀ c, (f c).host = c.host) : SwapKept r s (s.modCtx r f) := by
  have h := State.ctxR_modCtx_same s r f
  exact ⟨rfl, rfl, rfl, rfl, by rw [h, h1], by rw [h, h2], by rw [h, h3], fun _ _ => rfl⟩

theorem modFab {f : Fab → Fab} (h : (f s.fab).ff = s.fab.ff) : SwapKept r s (s.modFab f) :=
  ⟨rfl, rfl, rfl, h, rfl, rfl, rfl, fun _ _ => rfl⟩

theorem mgt (m : Mgt) : SwapKept r s { s with mgt := m } := ⟨rfl, rfl, rfl, rfl, rfl, rfl, rfl, fun _ _ => rfl⟩

theorem raise (code : Nat) (args : List (Nat × Nat)) : SwapKept r s (raise code args s) := by
  have hctx : (Machine.raise code args s).ctx = s.ctx := raise_ctx _ _ _
  have hctxR : (Machine.raise code args s).ctxR r = s.ctxR r := by rw [State.ctxR, hctx]; rfl
  exact ⟨raise_bm _ _ _, raise_cache _ _ _, by rw [hctx], by rw [raise_fab], by rw [hctxR], by rw [hctxR], by rw [hctxR],
    fun g hg => raise_get _ _ _ _ (swapRegs_plain g hg).1⟩

theorem commitMode (m : Nat) : SwapKept r s (commitMode m s) := by
  have hctx : (Machine.commitMode m s).ctx = s.ctx := commitMode_ctx _ _
  have hctxR : (Machine.commitMode m s).ctxR r = s.ctxR r := by rw [State.ctxR, hctx]; rfl
  refine ⟨commitMode_bm _ _, commitMode_cache _ _, by rw [hctx], by rw [commitMode_fab], by rw [hctxR], by rw [hctxR],
    by rw [hctxR], fun g hg => ?_⟩
  obtain ⟨hplain, hkey⟩ := swapRegs_plain g hg
  have hne : ∀ f : Fld, f.key < 0x300200 * 64 → g.key ≠ f.key := fun f hf => by omega
  exact commitMode_get _ _ _ hplain (hne _ (by decide)) (hne _ (by decide)) (hne _ (by decide))

theorem refreshMode : SwapKept r s (refreshMode s) := .ite (.commitMode _) .refl

theorem finishCmd (n status : Nat) (result : List Nat) (late : Bool) : SwapKept r s (finishCmd n status result late s) := by
  unfold Machine.finishCmd
  split
  · exact .ite (.mgt _) .refl
  · split
    · exact .trans (t := { s with mgt := _ }) (.mgt _) (.raise _ _)
    · exact .refl

section

variable (hr : r < 128)
include hr

/-- The acceptance of a request. -/
theorem acceptSwap (late : Bool) (x : SwapSrc) : SwapKept r s (acceptSwap late x s) := by
  cases x with
  | set n t => exact .set _ (Fld.noSwap_of_key (by simp only [Fld.key, R.SWAP_CTL.FIRED]; omega))
  | host n => exact .finishCmd _ _ _ _
  | port => exact .refl

omit hr in
theorem beginHold : SwapKept r s (beginHold r s) := by
  refine .ite .refl ?_
  refine .trans (.ite .refl (.modFab rfl)) (.set _ (Fld.noSwap_of_key ?_))
  simp only [Fld.key, R.BORDER_STAT.HOLDING]
  omega

/-- A field of a clock net's card is none of a swap. -/
theorem setNet {n : Nat} (hn : n < 2048) {f : Fld} (v : Nat) (ha : f.addr = 0x100000 + 4 * n) (hl : f.lsb < 64) :
    SwapKept r s (s.set f v) := .set _ (Fld.noSwap_of_key (by simp only [Fld.key, ha]; omega))

theorem takeNet {n : Nat} (hn : n < 2048) (v : Nat) : SwapKept r s (takeNet n v s) := by
  refine .ite .refl ?_
  have h1 := setNet hr hn (s := s) (f := R.RCN_CFG.SRC_A n) v rfl (by decide : (0 : Nat) < 64)
  have h2 := h1.trans (setNet hr hn (f := R.RCN_CFG.SRC_B n) (v / 16) rfl (by decide : (4 : Nat) < 64))
  have h3 := h2.trans (setNet hr hn (f := R.RCN_CFG.SW_EN n) (v / 256) rfl (by decide : (8 : Nat) < 64))
  exact (h3.trans (setNet hr hn (f := R.RCN_CFG.CE_EN n) (v / 512) rfl (by decide : (9 : Nat) < 64))).trans (.modFab rfl)

theorem takeNets (p : Nat) : SwapKept r s (takeNets r p s) := by
  refine .forEach _ _ fun k hk u => ?_
  have hn : 16 * r + k < 2048 := by have := List.mem_range.1 hk; omega
  refine .trans ((takeNet hr hn _).trans (setNet hr hn _ rfl (by decide : (10 : Nat) < 64))) (.applyIf ?_)
  exact setNet hr hn _ rfl (by decide : (11 : Nat) < 64)

omit hr in
theorem swapPlume : SwapKept r s (swapPlume r s) := by
  refine .forEach _ _ fun k hk u => .ite (.ite ?_ ?_) .refl
  · refine .trans (.set _ (Fld.noSwap_of_key ?_)) (.set _ (Fld.noSwap_of_key ?_))
    · have := List.mem_range.1 hk
      simp only [Fld.key, R.PLUME_SEL.STATE]
      omega
    · simp only [Fld.key, R.SEC_STAT.PLUME_CUT]
      omega
  · refine .set _ (Fld.noSwap_of_key ?_)
    have := List.mem_range.1 hk
    simp only [Fld.key, R.PLUME_SEL.STATE]
    omega

omit hr in
theorem endRotation : SwapKept r s (endRotation r s) := by
  refine .trans (.trans (.set _ (Fld.noSwap_of_key ?_)) (.set _ (Fld.noSwap_of_key ?_)))
    (.modCtx _ (fun _ => rfl) (fun _ => rfl) fun _ => rfl)
  · simp only [Fld.key, R.CTX_STAT.ROTATING]
    omega
  · simp only [Fld.key, R.CTX_CFG.ROT_EN]
    omega

omit hr in
theorem refreshBorder : SwapKept r s (refreshBorder r s) := by
  refine .trans (.trans (.applyIf .beginHold) (.trans (.set _ (Fld.noSwap_of_key ?_)) (.set _ (Fld.noSwap_of_key ?_))))
    (.applyIf .endRotation)
  · simp only [Fld.key, R.BORDER_STAT.CAUSE]
    omega
  · simp only [Fld.key, R.BORDER_STAT.HOLDING]
    omega

omit hr in
theorem refreshReblock : SwapKept r s (refreshReblock s) := by
  refine .trans (.set _ (Fld.noSwap_of_key ?_)) .refreshMode
  simp only [Fld.key, R.DEV_MODE.COND_REBLOCK]
  omega

end

end SwapKept

/-! ## The exchange -/

/-- The flip-flops and plane states of region `r` change places with those of plane `q`, and `q` becomes Active. -/
def swapExchange (r q : Nat) (s : State) : State :=
  let p := s.activePlane r
  let t := s.modPlane r p fun x => { x with shadow := s.live r }
  setPlaneState r q psActive (setPlaneState r p psHood ((setLive r (t.plane r q).shadow t).set (R.CTX_STAT.ACTIVE r) q))

/-- A swap is the exchange, with the settings of the incoming plane. -/
theorem swapTo_eq (r q : Nat) (s : State) : swapTo r q s =
    let t := takeNets r q (swapExchange r q (s.modCtx r fun c => { c with portWas := s.flag (R.CTX_CFG.PORT_EN r) }))
    swapPlume r ((t.setB (R.CTX_CFG.PORT_EN r) (t.plane r q).portEn).incWrap (R.CTX_STAT.SWAP_CNT r)) := rfl

/-- Flip-flops put back from a shadow read as it does, and the others as before. -/
theorem lookup_foldl_ffs (r i : Nat) (m a : SMap Nat) (h : sorted m = true) :
    lookup (m.foldl (fun a e => put a (ffKey r e.1) e.2) a) (ffKey r i) = (lookup m i).or (lookup a (ffKey r i)) := by
  rw [sorted_iff_pairwise] at h
  induction m generalizing a with
  | nil => rfl
  | cons e m ih =>
    obtain ⟨j, v⟩ := e
    obtain ⟨hfirst, hlater⟩ := List.pairwise_cons.1 h
    rw [List.foldl_cons, ih _ hlater]
    by_cases hij : i = j
    · subst hij
      rw [lookup_none_of_lt hfirst, lookup_put_same]
      simp [lookup]
    · rw [lookup_put_ne _ _ (by unfold ffKey; omega)]
      simp [lookup, hij]

/-- The flip-flops of a region after the exchange are those of its incoming plane. -/
theorem lookup_setLive {r i : Nat} {m : SMap Nat} {s : State} (hi : i < 200704) (h : sorted m = true) :
    lookup (setLive r m s).fab.ff (ffKey r i) = lookup m i := by
  have hkey : (ffKey r i / 200704 == r) = true := by
    rw [beq_iff_eq]
    unfold ffKey
    omega
  simp only [setLive, State.modFab_fab]
  rw [lookup_foldl_ffs r i _ _ h, lookup_dropKeys, if_pos hkey, Option.or_none]

theorem psField_key {r p : Nat} (hp : p < 4) : (psField r p).key = (0x300200 + 4 * r) * 64 + 2 + 2 * p := by
  match p, hp with
  | 0, _ => simp only [psField, Fld.key, R.CTX_STAT.PS0, Nat.mul_zero, Nat.add_zero]
  | 1, _ => simp only [psField, Fld.key, R.CTX_STAT.PS1]
  | 2, _ => simp only [psField, Fld.key, R.CTX_STAT.PS2]
  | 3, _ => simp only [psField, Fld.key, R.CTX_STAT.PS3]

theorem psField_width (r p : Nat) : (psField r p).w = 2 := by
  unfold psField
  split <;> rfl

theorem psField_mem {r p : Nat} : psField r p ∈ swapRegs r := by
  unfold psField swapRegs
  split <;> simp

section

variable {r q : Nat} {s : State} (hq : q < 4) (hp : s.activePlane r < 4) (hne : q ≠ s.activePlane r)
include hne

theorem swapExchange_plane : (swapExchange r q s).plane r q = s.plane r q := by
  show at' (putD s.ctx.planes (4 * r + s.activePlane r) Plane.empty _) (4 * r + q) Plane.empty = _
  exact at'_putD_ne _ _ _ _ (by omega)

omit hne in
theorem swapExchange_shadow : ((swapExchange r q s).plane r (s.activePlane r)).shadow = s.live r := by
  show (at' (putD s.ctx.planes (4 * r + s.activePlane r) Plane.empty _) (4 * r + s.activePlane r) Plane.empty).shadow = _
  rw [at'_putD_same]

theorem swapExchange_ff {i : Nat} (hi : i < 200704) (h : sorted (s.plane r q).shadow = true) :
    lookup (swapExchange r q s).fab.ff (ffKey r i) = lookup (s.plane r q).shadow i := by
  let t := s.modPlane r (s.activePlane r) fun x => { x with shadow := s.live r }
  have hplane : t.plane r q = s.plane r q := at'_putD_ne _ _ _ _ (by omega)
  have hff : (swapExchange r q s).fab.ff = (setLive r (t.plane r q).shadow t).fab.ff := rfl
  rw [hff, hplane]
  exact lookup_setLive hi h

include hq hp

theorem swapExchange_get : (swapExchange r q s).activePlane r = q ∧ (swapExchange r q s).planeState r q = psActive ∧
    (swapExchange r q s).planeState r (s.activePlane r) = psHood ∧
    (swapExchange r q s).get (R.CTX_STAT.SWAP_CNT r) = s.get (R.CTX_STAT.SWAP_CNT r) := by
  have hkq := psField_key (r := r) hq
  have hkp := psField_key (r := r) hp
  have hactive : (R.CTX_STAT.ACTIVE r).key = (0x300200 + 4 * r) * 64 := by
    simp only [Fld.key, R.CTX_STAT.ACTIVE, Nat.add_zero]
  have hcount : (R.CTX_STAT.SWAP_CNT r).key = (0x300200 + 4 * r) * 64 + 19 := by simp only [Fld.key, R.CTX_STAT.SWAP_CNT]
  simp only [swapExchange, setPlaneState, State.activePlane, State.planeState] at *
  refine ⟨?_, ?_, ?_, ?_⟩
  · rw [State.get_set_ne _ _ (by omega), State.get_set_ne _ _ (by omega), State.get_set_same]
    exact Nat.mod_eq_of_lt hq
  · rw [State.get_set_same, psField_width]
    rfl
  · rw [State.get_set_ne _ _ (by omega), State.get_set_same, psField_width]
    rfl
  · rw [State.get_set_ne _ _ (by omega), State.get_set_ne _ _ (by omega), State.get_set_ne _ _ (by omega)]
    rfl

end

/-! ## The swap -/

/-- What `t` holds after region `r` has gone from its plane in `s` to plane `q`. -/
structure Swapped (r q : Nat) (s t : State) : Prop where
  bm : t.bm = s.bm
  cache : t.cache = s.cache
  active : t.activePlane r = q
  incoming : t.planeState r q = psActive
  outgoing : t.planeState r (s.activePlane r) = psHood
  shadow : (t.plane r (s.activePlane r)).shadow = s.live r
  plane : t.plane r q = s.plane r q
  ff : ∀ i, i < 200704 → lookup t.fab.ff (ffKey r i) = lookup (s.plane r q).shadow i
  count : t.get (R.CTX_STAT.SWAP_CNT r) = (s.get (R.CTX_STAT.SWAP_CNT r) + 1) % 2 ^ 13
  sets : (t.ctxR r).sets = (s.ctxR r).sets
  host : (t.ctxR r).host = (s.ctxR r).host

namespace SwapKept

variable {r : Nat} {s t : State} (h : SwapKept r s t)
include h

theorem activePlane : t.activePlane r = s.activePlane r := h.get _ (by simp [swapRegs])

theorem planeState (p : Nat) : t.planeState r p = s.planeState r p := h.get _ psField_mem

theorem plane (p : Nat) : t.plane r p = s.plane r p := by rw [State.plane, h.planes]; rfl

theorem count : t.get (R.CTX_STAT.SWAP_CNT r) = s.get (R.CTX_STAT.SWAP_CNT r) := h.get _ (by simp [swapRegs])

theorem live : t.live r = s.live r := by rw [State.live, h.ff]; rfl

end SwapKept

/-- What keeps a swap's fields before the swap. -/
theorem Swapped.of_kept {r q : Nat} {s t u : State} (h : SwapKept r s t) (h' : Swapped r q t u) : Swapped r q s u := by
  obtain ⟨hbm, hcache, hactive, hin, hout, hshadow, hplane, hff, hcount, hsets, hhost⟩ := h'
  rw [h.activePlane] at hout hshadow
  rw [h.live] at hshadow
  rw [h.plane] at hplane hff
  rw [h.count] at hcount
  exact ⟨hbm.trans h.bm, hcache.trans h.cache, hactive, hin, hout, hshadow, hplane, hff, hcount, hsets.trans h.sets,
    hhost.trans h.host⟩

/-- What keeps a swap's fields after the swap. -/
theorem Swapped.kept {r q : Nat} {s t u : State} (h : Swapped r q s t) (h' : SwapKept r t u) : Swapped r q s u where
  bm := h'.bm.trans h.bm
  cache := h'.cache.trans h.cache
  active := h'.activePlane.trans h.active
  incoming := (h'.planeState q).trans h.incoming
  outgoing := (h'.planeState _).trans h.outgoing
  shadow := by rw [h'.plane, h.shadow]
  plane := (h'.plane q).trans h.plane
  ff i hi := by rw [h'.ff, h.ff i hi]
  count := h'.count.trans h.count
  sets := h'.sets.trans h.sets
  host := h'.host.trans h.host

/-- The swap edge without a failed copy. -/
theorem swapEdge_eq {r q : Nat} {s : State} (h : (s.ctxR r).ow ≠ 4) : swapEdge r q s =
    refreshReblock (refreshBorder r ((((swapTo r q (beginHold r s)).modCtx r fun c =>
      { c with inSwap := true, edge := false, swapFrom := s.activePlane r, ow := c.ow }).modFab fun f =>
        { f with skip := dropKeys f.skip fun k => k / 32 == r }).set (R.CTX_STAT.OW_FAIL r) 0)) := by
  simp only [swapEdge, h, if_false, decide_false, applyIf_false]

section

variable {r q : Nat} {s : State} (hr : r < 128) (hq : q < 4) (hp : s.activePlane r < 4) (hne : q ≠ s.activePlane r)
  (hsorted : sorted (s.plane r q).shadow = true)
include hr hq hp hne hsorted

/-- A swap exchanges the planes and their flip-flops. -/
theorem swapTo_swapped : Swapped r q s (swapTo r q s) := by
  have h0 : SwapKept r s (s.modCtx r fun c => { c with portWas := s.flag (R.CTX_CFG.PORT_EN r) }) :=
    .modCtx _ (fun _ => rfl) (fun _ => rfl) fun _ => rfl
  refine .of_kept h0 ?_
  rw [swapTo_eq]
  have hp' := h0.activePlane
  have hplane' := h0.plane q
  generalize (s.modCtx r fun c => { c with portWas := s.flag (R.CTX_CFG.PORT_EN r) }) = v at *
  rw [← hp'] at hp hne
  rw [← hplane'] at hsorted
  obtain ⟨hactive, hin, hout, hcount⟩ := swapExchange_get hq hp hne
  have h1 : SwapKept r (swapExchange r q v) (takeNets r q (swapExchange r q v)) := .takeNets hr q
  have hport : SwapKept r (swapExchange r q v) ((takeNets r q (swapExchange r q v)).setB (R.CTX_CFG.PORT_EN r)
      ((takeNets r q (swapExchange r q v)).plane r q).portEn) := by
    refine h1.trans (.set _ (Fld.noSwap_of_key ?_))
    simp only [Fld.key, R.CTX_CFG.PORT_EN]
    omega
  dsimp only
  generalize (takeNets r q (swapExchange r q v)).setB (R.CTX_CFG.PORT_EN r)
    ((takeNets r q (swapExchange r q v)).plane r q).portEn = w at hport
  refine Swapped.kept (t := w.incWrap (R.CTX_STAT.SWAP_CNT r)) ?_ .swapPlume
  have hget : ∀ g : Fld, g.key ≠ (R.CTX_STAT.SWAP_CNT r).key →
      (w.incWrap (R.CTX_STAT.SWAP_CNT r)).get g = w.get g := fun g hg => State.get_set_ne _ _ hg
  have hps : ∀ p < 4, (psField r p).key ≠ (R.CTX_STAT.SWAP_CNT r).key := by
    intro p hp
    rw [psField_key hp]
    simp only [Fld.key, R.CTX_STAT.SWAP_CNT]
    omega
  exact {
    bm := hport.bm
    cache := hport.cache
    active := (hget _ (by simp only [Fld.key, R.CTX_STAT.ACTIVE, R.CTX_STAT.SWAP_CNT]; omega)).trans
      (hport.activePlane.trans hactive)
    incoming := (hget _ (hps q hq)).trans ((hport.planeState q).trans hin)
    outgoing := (hget _ (hps _ hp)).trans ((hport.planeState _).trans hout)
    shadow := (congrArg Plane.shadow (hport.plane _)).trans swapExchange_shadow
    plane := (hport.plane q).trans (swapExchange_plane hne)
    ff := fun i hi => (congrArg (fun m => lookup m (ffKey r i)) hport.ff).trans (swapExchange_ff hne hi hsorted)
    count := by rw [State.incWrap, State.get_set_same, hport.count, hcount]; rfl
    sets := hport.sets
    host := hport.host }

/-- The swap edge exchanges the planes, and begins the swap cycle. -/
theorem swapEdge_swapped (how : (s.ctxR r).ow = 0) :
    Swapped r q s (swapEdge r q s) ∧ ((swapEdge r q s).ctxR r).inSwap = true := by
  have hhold : SwapKept r s (beginHold r s) := .beginHold
  have hswap : Swapped r q s (swapTo r q (beginHold r s)) := by
    refine .of_kept hhold (swapTo_swapped hr hq ?_ ?_ ?_)
    · rwa [hhold.activePlane]
    · rwa [hhold.activePlane]
    · rwa [hhold.plane]
  rw [swapEdge_eq (by rw [how]; decide)]
  generalize swapTo r q (beginHold r s) = w at hswap
  have hctx := State.ctxR_modCtx_same w r fun c =>
    { c with inSwap := true, edge := false, swapFrom := s.activePlane r, ow := c.ow }
  have hcycle : Swapped r q s (w.modCtx r fun c =>
      { c with inSwap := true, edge := false, swapFrom := s.activePlane r, ow := c.ow }) :=
    { hswap with sets := (congrArg CtxR.sets hctx).trans hswap.sets, host := (congrArg CtxR.host hctx).trans hswap.host }
  have hinSwap := congrArg CtxR.inSwap hctx
  generalize (w.modCtx r fun c =>
    { c with inSwap := true, edge := false, swapFrom := s.activePlane r, ow := c.ow }) = v at hcycle hinSwap
  have hend : SwapKept r v (refreshReblock (refreshBorder r ((v.modFab fun f =>
      { f with skip := dropKeys f.skip fun k => k / 32 == r }).set (R.CTX_STAT.OW_FAIL r) 0))) := by
    refine .trans (.trans (.trans (.modFab rfl) (.set _ (Fld.noSwap_of_key ?_))) .refreshBorder) .refreshReblock
    simp only [Fld.key, R.CTX_STAT.OW_FAIL]
    omega
  exact ⟨hcycle.kept hend, hend.inSwap.trans hinSwap⟩

end

/-- A lone request that nothing refuses is accepted (R244). -/
theorem judgeRequests_one {r q : Nat} {late : Bool} {x : SwapSrc} {s : State}
    (h : s.swapReason r q (match x with | .host _ => true | _ => false) = none) :
    judgeRequests r late [(x, q)] s = (some q, acceptSwap late x s) := by
  cases x <;> simp_all [judgeRequests, List.find?]

theorem acceptSwap_ctx (late : Bool) (x : SwapSrc) (s : State) : (acceptSwap late x s).ctx = s.ctx := by
  cases x with
  | set n t => rfl
  | port => rfl
  | host n =>
    simp only [acceptSwap, finishCmd]
    split
    · split <;> rfl
    · split
      · exact raise_ctx _ _ _
      · rfl

/-- Settles O22: the request is accepted, and the swap edge exchanges the planes. -/
theorem swapExchangesPlaneAndState : Obligations.SwapExchangesPlaneAndState := by
  unfold Obligations.SwapExchangesPlaneAndState
  intro s r port got x q hedge hactive hswap hc1 hreq hq hne hp hreason how hsorted
  have hkept : SwapKept r s (acceptSwap false x s) := .acceptSwap r.isLt false x
  have hctx : (acceptSwap false x s).ctxR r = s.ctxR r := congrArg (fun c : Ctx => at' c.regions r.val CtxR.init)
    (acceptSwap_ctx false x s)
  have hexec : exec (.swapEdge r port got) s = .next (swapEdge r q ((acceptSwap false x s).modCtx r fun c => { c with
      sets := if s.setsHere r got then [] else c.sets
      host := if got && s.clocked 9 then none else c.host })) := by
    rw [exec_swapEdge]
    simp only [execSwapEdge, hedge, hactive, hswap, if_neg hc1, hreq, sampleEdge, judgeRequests_one hreason, if_neg hne]
    rfl
  generalize acceptSwap false x s = u at hkept hctx hexec
  have hmod := State.ctxR_modCtx_same u r fun c => { c with
    sets := if s.setsHere r got then [] else c.sets
    host := if got && s.clocked 9 then none else c.host }
  have hv : ∀ v, v = (u.modCtx r fun c => { c with
      sets := if s.setsHere r got then [] else c.sets
      host := if got && s.clocked 9 then none else c.host }) →
      v.activePlane r = s.activePlane r ∧ v.live r = s.live r ∧ (∀ p, v.plane r p = s.plane r p) ∧
        v.bm = s.bm ∧ v.cache = s.cache ∧ v.get (R.CTX_STAT.SWAP_CNT r) = s.get (R.CTX_STAT.SWAP_CNT r) := by
    rintro v rfl
    exact ⟨hkept.activePlane, hkept.live, hkept.plane, hkept.bm, hkept.cache, hkept.count⟩
  generalize hveq : (u.modCtx r fun c => { c with
      sets := if s.setsHere r got then [] else c.sets
      host := if got && s.clocked 9 then none else c.host }) = v at hexec hmod
  obtain ⟨hact, hlive, hplane, hbm, hcache, hcount⟩ := hv v hveq.symm
  obtain ⟨h, hin⟩ := swapEdge_swapped (s := v) r.isLt hq (hact ▸ hp) (hact ▸ hne) (hplane q ▸ hsorted)
    (by rw [hmod, hctx]; exact how)
  refine ⟨_, hexec, h.active, h.incoming, hact ▸ h.outgoing, ?_, fun i hi => ?_, ?_, hin, ?_, ?_, ?_, ?_, ?_, ?_⟩
  · rw [← hact, h.shadow, hlive]
  · simp only [State.ffVal, State.frames, h.active, h.plane, h.ff i hi, hplane] <;> rfl
  · rw [h.count, hcount]
  · rw [h.sets, hmod, hctx] <;> rfl
  · rw [h.host, hmod, hctx]
    simp only [Bool.and_eq_true]
  · rw [h.bm, hbm]
  · rw [h.bm, hbm]
  · rw [h.bm, hbm]
  · rw [h.cache, hcache]

end Sys2Proof.Machine
end

section
/-! PROOFS. The other events of swaps, of rotation and of capture (R240–R254). -/

namespace Sys2Proof.Machine

/-- A change to the swap control of a region is the value that it leaves. -/
theorem State.modCtx_congr {s : State} {r : Nat} {f g : CtxR → CtxR} (h : f (s.ctxR r) = g (s.ctxR r)) :
    s.modCtx r f = s.modCtx r g := by simp only [State.modCtx, h]

/-- Without set members nothing waits. -/
theorem State.waitingSets_nil {s : State} {r : Nat} (h : (s.ctxR r).sets = []) : s.waitingSets r = [] := by
  simp [State.waitingSets, h]

/-! ## Tables -/

/-- A write of `SWAP_TGT[k][w]`, entry by entry. -/
def tgtEntry (k w v i : Nat) (s : State) : State :=
  (s.set (R.SWAP_TGT.PLANE k w i) (v / 2 ^ (4 * i))).set (R.SWAP_TGT.MEMBER k w i) (v / 2 ^ (4 * i + 3))

/-- The entries after the first `n` are written. -/
theorem tgtEntries_get (k w v n : Nat) (s : State) :
    ∀ i < n, let t := forEach (List.range n) (tgtEntry k w v) s
      t.get (R.SWAP_TGT.PLANE k w i) = v / 2 ^ (4 * i) % 4 ∧ t.get (R.SWAP_TGT.MEMBER k w i) = v / 2 ^ (4 * i + 3) % 2 := by
  have hne : ∀ i j : Nat, (R.SWAP_TGT.PLANE k w i).key ≠ (R.SWAP_TGT.MEMBER k w j).key := by
    simp only [Fld.key, R.SWAP_TGT.MEMBER, R.SWAP_TGT.PLANE]; omega
  induction n with
  | zero => exact fun i hi => absurd hi (Nat.not_lt_zero i)
  | succ n ih =>
    intro i hi
    rw [forEach_range_succ, tgtEntry]
    rcases Nat.lt_succ_iff_lt_or_eq.1 hi with hlt | rfl
    · obtain ⟨hplane, hmember⟩ := ih i hlt
      constructor
      · rw [State.get_set_ne _ _ (hne i n), State.get_set_ne _ _ (by simp only [Fld.key, R.SWAP_TGT.PLANE]; omega), hplane]
      · rw [State.get_set_ne _ _ (by simp only [Fld.key, R.SWAP_TGT.MEMBER]; omega), State.get_set_ne _ _ (hne n i).symm,
          hmember]
    · exact ⟨by rw [State.get_set_ne _ _ (hne i i), State.get_set_same]; rfl, State.get_set_same _ _ _⟩

/-! ## Refusals -/

/-- Every reason of Table 8-5 fits its field. -/
theorem State.swapReason_lt {s : State} {r q k : Nat} {host : Bool} (h : s.swapReason r q host = some k) : k < 6 := by
  simp only [State.swapReason] at h
  split at h
  · cases h; decide
  · split at h
    · cases h; decide
    · split at h
      · cases h; decide
      · split at h
        · cases h; decide
        · split at h
          · cases h; decide
          · cases h

/-- A refused port request leaves the region on its plane, and sets `NACK` and `REASON` (R245). -/
theorem refuseSwap_port {r k : Nat} (s : State) (hk : k < 8) :
    let t := refuseSwap r k .port s
    t.activePlane r = s.activePlane r ∧ t.flag (R.CTX_STAT.NACK r) = true ∧ t.get (R.CTX_STAT.REASON r) = k ∧
      (t.ctxR r).nack = true ∧ t.fab = s.fab := by
  refine ⟨?_, ?_, ?_, congrArg CtxR.nack (State.ctxR_modCtx_same _ _ _), rfl⟩
  · show State.get (nackRegion r k s) _ = _
    rw [nackRegion, State.get_set_ne _ _ (by simp [Fld.key, R.CTX_STAT.ACTIVE, R.CTX_STAT.REASON]),
      State.get_set_ne _ _ (by simp [Fld.key, R.CTX_STAT.ACTIVE, R.CTX_STAT.NACK])]
    rfl
  · show (State.get (nackRegion r k s) _ != 0) = true
    rw [nackRegion, State.get_set_ne _ _ (by simp [Fld.key, R.CTX_STAT.NACK, R.CTX_STAT.REASON]), State.get_set_same]
    rfl
  · show State.get (nackRegion r k s) _ = _
    rw [nackRegion, State.get_set_same]
    exact Nat.mod_eq_of_lt hk

/-! ## The obligation -/

section

variable (s : State) (r : Fin 128)

/-- The end of a swap cycle. -/
theorem swapCycleEnd_ends (h : (s.ctxR r).inSwap = true) (hp : s.passesNext (s.ctxNet r) = true) :
    ∃ t, exec (.swapCycleEnd r) s = .next t ∧
      (t.ctxR r).inSwap = false ∧ (t.ctxR r).c1 = 1 ∧ t.activePlane r = s.activePlane r ∧ t.fab.ff = s.fab.ff := by
  have hend : SwapKept r (s.modCtx r fun c => { c with inSwap := false }) (endSwap r s) := by
    unfold endSwap
    refine .trans ?_ .refreshBorder
    refine .forEach (List.range 16) _ fun k _ u => ?_
    dsimp only
    split
    · exact .refl
    · exact .modFab rfl
  have hall := hend.trans (.modCtx (fun c => { c with c1 := 1 }) (fun _ => rfl) (fun _ => rfl) fun _ => rfl)
  have hc1 := congrArg CtxR.c1 (State.ctxR_modCtx_same (endSwap r s) r fun c => { c with c1 := 1 })
  refine ⟨_, ?_, hall.inSwap.trans (by rw [State.ctxR_modCtx_same]), hc1, hall.activePlane, hall.ff⟩
  rw [exec_swapCycleEnd, execSwapCycleEnd, h, hp]
  rfl

/-- Requests of an edge that the host alone makes. -/
theorem requests_host {n q : Nat} (hsets : (s.ctxR r).sets = []) (hhost : (s.ctxR r).host = some (n, q))
    (h9 : s.clocked 9 = true) : s.requests r none true = [(.host n, q)] := by
  simp [State.requests, State.waitingSets_nil hsets, hhost, h9]

/-- Requests of an edge that the port alone makes. -/
theorem requests_port {q : Fin 4} {got : Bool} (hsets : (s.ctxR r).sets = []) (hhost : (s.ctxR r).host = none)
    (hen : s.flag (R.CTX_CFG.PORT_EN r) = true) (hw : s.fab.writes = true) :
    s.requests r (some q) got = [(.port, q.val)] := by
  simp [State.requests, State.waitingSets_nil hsets, hhost, hen, hw]

end

/-- Settles O23: swap cycles, timeouts, swap tables, rotation, capture and refused port requests. -/
theorem contextEventsComplete : Obligations.ContextEventsComplete := by
  unfold Obligations.ContextEventsComplete
  refine ⟨fun s r => ⟨swapCycleEnd_ends s r, ?hostLost, ?hostLate, ?member, ?rotLost, ?armed, ?write, ?rotation, ?capture⟩,
    fun s r q got hedge hactive hswap hen hw => ⟨?port, ?portC1⟩⟩
  case hostLost =>
    intro n q h
    rw [exec_hostSwapTimeout]
    simp only [execHostSwapTimeout, h]
    rfl
  case hostLate =>
    intro n q h hsets h9 hreason hedge hactive hswap hc1 u
    have hsample : (fun c : CtxR => { c with
        sets := if s.setsHere r true then [] else c.sets
        host := if true && s.clocked 9 then none else c.host }) = fun c => { c with sets := [], host := none } := by
      simp [State.setsHere, h9]
    have hjudge : judgeRequests r true [(.host n, q)] s = (some q, finishCmd n stOk [] true s) :=
      judgeRequests_one (x := .host n) hreason
    rw [exec_hostSwapTimeout]
    simp only [execHostSwapTimeout, h, hedge, hactive, hswap, bne_iff_ne.2 hc1, sampleEdge, requests_host s r hsets h h9,
      hjudge, hsample]
    rfl
  case member =>
    intro k q t rest hsets hold hrest hrot
    have hdue : ((s.ctxR r).sets.filter fun e => decide (16 ≤ s.since e.2.2)) = [(k, q, t)] := by
      rw [hsets, List.filter_cons_of_pos (by simpa using hold), List.filter_eq_nil_iff.2]
      intro e he
      simpa using hrest e he
    have hleft : s.modCtx r (fun c => { c with sets := c.sets.filter fun e => !decide (16 ≤ s.since e.2.2) }) =
        s.modCtx r fun c => { c with sets := rest } := by
      refine State.modCtx_congr ?_
      rw [hsets, List.filter_cons_of_neg (by simpa using hold), List.filter_eq_self.2]
      intro e he
      simpa using hrest e he
    rw [exec_swapMemberTimeout]
    simp only [execSwapMemberTimeout, hdue, hleft, hrot, forEach_cons, forEach_nil]
  case rotLost =>
    intro t hsets hrot ht hrun hlater hold
    have hleft : s.modCtx r (fun c => { c with sets := c.sets.filter fun e => !decide (16 ≤ s.since e.2.2) }) =
        s.modCtx r fun c => { c with sets := [] } := by
      refine State.modCtx_congr ?_
      rw [hsets]
      rfl
    rw [exec_swapMemberTimeout]
    simp only [execSwapMemberTimeout, hsets, hleft, hrot, List.filter_nil, forEach_nil]
    rw [if_pos ⟨ht, hrun, by rw [hlater]; rfl, hold⟩]
  case armed =>
    intro k w v hup harm
    rw [exec_swapTgtWrite, execSwapTgtWrite, if_pos hup, writeSwapTgt, if_pos harm]
  case write =>
    intro k w v i hup harm
    obtain ⟨hplane, hmember⟩ := tgtEntries_get k w v.toNat 8 s i i.isLt
    refine ⟨_, ?_, hplane, hmember⟩
    rw [exec_swapTgtWrite, execSwapTgtWrite, if_pos hup, writeSwapTgt, harm]
    rfl
  case rotation =>
    intro got hedge hrot hswap
    have hx : (!(s.ctxR r).edge || !s.flag (R.CTX_CFG.ROT_EN r) || (s.ctxR r).inSwap) = false := by
      rw [hedge, hrot, hswap]
      rfl
    rw [exec_rotationEdge]
    simp only [execRotationEdge, hx, Bool.false_eq_true, if_false]
    refine ⟨fun hno => ?_, fun hrun hborder hidle t ht hdue hfree => ?_, fun hrun hborder hidle t ht hgot hdue => ?_,
      fun hrun hborder hturn => ?_⟩
    · have hstop : (!s.runClass || decide (2 ≤ s.borderCause r)) = true := by
        rw [Bool.or_eq_true, Bool.not_eq_true', decide_eq_true_eq, ← Bool.not_eq_true, ← Nat.not_lt]
        exact not_and_or.1 hno
      rw [if_pos hstop]
    · have hgo : (!s.runClass || decide (2 ≤ s.borderCause r)) = false := by simp [hrun, Nat.not_le.2 hborder]
      rw [hgo]
      have hact : (got || (t != 0 && s.ctxAligned r)) = true ∧ ¬(t ≠ 0 ∧ (tickLater t s.clk.tick = true ∨ (!s.clk.running) = true)) ∧
          ¬(t ≠ 0 ∧ 16 ≤ s.since t) := by
        rcases hdue with ⟨rfl, hgot⟩ | ⟨h0, hgot, hrun, hlater, hsince⟩
        · simp [hgot]
        · refine ⟨?_, by simp [hlater, hrun], fun h => absurd h.2 (Nat.not_le.2 hsince)⟩
          rcases hgot with h | h <;> simp [h, h0]
      have hnone : ((s.rotOrder r).filterMap fun q => s.swapReason r q false) = [] := by
        simpa [List.filterMap_eq_nil_iff] using hfree
      simp only [hidle, ht, hact.1, Bool.false_eq_true, if_false, if_true, rotateStart, if_neg hact.2.1, if_neg hact.2.2,
        hnone, List.head?_nil]
    · have hgo : (!s.runClass || decide (2 ≤ s.borderCause r)) = false := by simp [hrun, Nat.not_le.2 hborder]
      have hwait : (got || (t != 0 && s.ctxAligned r)) = false := by
        rcases hdue with rfl | h
        · rw [hgot]; rfl
        · rw [hgot, h, Bool.and_false]; rfl
      simp only [hgo, hidle, ht, hwait, Bool.false_eq_true, if_false]
    · have hgo : (!s.runClass || decide (2 ≤ s.borderCause r)) = false := by simp [hrun, Nat.not_le.2 hborder]
      simp only [hgo, hturn, Bool.false_eq_true, if_false, if_true]
      refine ⟨fun hlt => ?_, fun hlast hstop => ?_, fun q hlast hstop => ?_⟩
      · rw [rotateNext]
        exact congrArg Host.Outcome.next (if_pos hlt)
      · have hge : ¬(s.ctxR r).rotPos + 1 < (s.rotOrder r).length := by omega
        rw [rotateNext]
        refine congrArg Host.Outcome.next ((if_neg hge).trans ?_)
        match hs : (s.ctxR r).rotStop with
        | none => rfl
        | some (q, true) => exact absurd hs (hstop q)
        | some (q, false) => rfl
      · have hge : ¬(s.ctxR r).rotPos + 1 < (s.rotOrder r).length := by omega
        rw [rotateNext]
        refine congrArg Host.Outcome.next ((if_neg hge).trans ?_)
        rw [hstop]
  case capture =>
    intro portReq atSwap race port p answer s0 hedge hactive hreq
    have hx : (!(if atSwap then (s.ctxR r).inSwap else (s.ctxR r).edge) || !s.hasActive r ||
        (!port && (s.ctxR r).capReq.isNone)) = false := by
      rw [hedge, hactive]
      rcases hreq with h | h
      · rw [h]; rfl
      · rw [Option.isNone_eq_false_iff.2 h, Bool.and_false]; rfl
    rw [exec_captureEdge]
    have hexec : execCaptureEdge r portReq atSwap race s =
        if s.capBarred r p = true then .next (answer stDenied [] s0)
        else if s.flag (R.CAP_STAT.FULL r) = true then .next (answer stNoResource [] (s0.set (R.CAP_STAT.REFUSED r) 1))
        else .next (answer stOk (pack [(1, p), (6, s.clk.tick)]) (applyIf port (fun s => s.modCtx r fun c => { c with capDone := true })
          (takeCapture r (s.capOf r p false atSwap (if atSwap then (s.plane r p).shadow else s.raced r race (s.live r))) s0))) :=
      if_neg (by rw [hx]; decide)
    refine ⟨fun hbar => ?_, fun hbar hfull => ?_, fun hbar hfull => ?_⟩
    · rw [hexec, if_pos hbar]
    · rw [hexec, hbar, hfull]
      rfl
    · rw [hexec, hbar, hfull]
      rfl
  case port =>
    intro k hc1 hsets hhost hreason
    obtain ⟨hact, hnack, hwhy, hflag, hfab⟩ := refuseSwap_port (r := r) s (show k < 8 by have := s.swapReason_lt hreason; omega)
    have hjudge : judgeRequests r false [(.port, q.val)] s = (none, refuseSwap r k .port s) := by
      simp [judgeRequests, List.find?, hreason]
    refine ⟨(refuseSwap r k .port s).modCtx r fun c => { c with
        sets := if s.setsHere r got then [] else c.sets
        host := if got && s.clocked 9 then none else c.host }, ?_, hact, hnack, hwhy, ?_, hfab⟩
    · rw [exec_swapEdge]
      simp only [execSwapEdge, hedge, hactive, hswap, if_neg hc1, requests_port s r hsets hhost hen hw, sampleEdge, hjudge]
      rfl
    · rw [State.ctxR_modCtx_same]
      exact hflag
  case portC1 =>
    intro hc1
    have hk : (s.swapReason r q false).getD 5 < 8 := by
      cases h : s.swapReason r q false with
      | none => decide
      | some k => have := s.swapReason_lt h; rw [Option.getD_some]; omega
    refine ⟨_, ?_, refuseSwap_port s hk⟩
    rw [exec_swapEdge]
    simp only [execSwapEdge, hedge, hactive, hswap, if_pos hc1, hen, hw]
    rfl

end Sys2Proof.Machine
end

section
/-! PROOFS. The cache commands of Table 9-14. -/

namespace Sys2Proof.Machine

/-- A bank that is not busy is not tested. -/
theorem State.bankTested_of {s : State} {b : Nat} (h : s.test.busy.contains (256 + b) = false) : s.bankTested b = false := h

/-! ## A handover that nothing refuses -/

section

variable {b o : Nat} {s : State} (hpend : s.flag (R.BANK_OWN.PEND b) = false) (hgo : s.flag (R.BANK_OWN.GO b) = false)
  (hland : s.flag (R.BANK_CFG.LAND b) = false) (hcm : s.flag (R.BANK_CFG.CMODE b) = false)
  (hoff : s.flag (R.BANK_CFG.OFFLINE b) = false) (hused : ownerUsed o = true)
  (hfence : o < 128 → s.flag (R.BORDER_STAT.FENCED o) = false)
include hpend hgo hland hcm hoff hused hfence

/-- A handover to an owner that R274 allows is started. -/
theorem startHandover_starts : startHandover b (s.set (R.BANK_OWN.NEXT b) o) =
    ((s.set (R.BANK_OWN.NEXT b) o).set (R.BANK_OWN.GO b) 1).modBank' b fun k => { k with goDue := true } := by
  have ho : o < 512 := by
    simp only [ownerUsed, Bool.or_eq_true, Bool.and_eq_true, decide_eq_true_eq, beq_iff_eq, ownAgent] at hused
    omega
  have hnext : (s.set (R.BANK_OWN.NEXT b) o).get (R.BANK_OWN.NEXT b) = o := by
    rw [State.get_set_same]
    exact Nat.mod_eq_of_lt ho
  have hflag : ∀ f : Fld, f.key ≠ (R.BANK_OWN.NEXT b).key → (s.set (R.BANK_OWN.NEXT b) o).flag f = s.flag f :=
    fun f hf => congrArg (· != 0) (State.get_set_ne _ _ hf)
  have hfenced : (decide (o < 128) && (s.set (R.BANK_OWN.NEXT b) o).flag (R.BORDER_STAT.FENCED o)) = false := by
    by_cases h : o < 128
    · rw [hflag, hfence h, Bool.and_false]
      simp only [Fld.key, R.BORDER_STAT.FENCED, R.BANK_OWN.NEXT]
      omega
    · simp [h]
  have hrefused : (s.set (R.BANK_OWN.NEXT b) o).handRefused b = false := by
    simp only [State.handRefused, hnext, hfenced, hused]
    rw [hflag, hflag, hflag, hflag, hpend, hland, hcm, hoff]
    · rfl
    all_goals simp only [Fld.key, R.BANK_CFG.OFFLINE, R.BANK_CFG.CMODE, R.BANK_CFG.LAND, R.BANK_OWN.PEND, R.BANK_OWN.NEXT]
    all_goals omega
  rw [startHandover, hflag, hgo, hrefused]
  · rfl
  · simp only [Fld.key, R.BANK_OWN.GO, R.BANK_OWN.NEXT]
    omega

end

/-! ## The banks of a group -/

/-- Bank `b` joins a cache-mode group: strong code, and a bulk clear (R292). -/
def joinGroup (b : Nat) (s : State) : State :=
  startBankClear b ((s.set (R.BANK_CFG.CODE b) 0).set (R.BANK_CFG.CMODE b) 1)

theorem joinGroup_get {b : Nat} {s : State} {g : Fld} (h1 : g.key ≠ (R.BANK_CFG.CODE b).key)
    (h2 : g.key ≠ (R.BANK_CFG.CMODE b).key) (h3 : g.key ≠ (R.BANK_STAT.CLR_BUSY b).key) :
    (joinGroup b s).get g = s.get g := by
  rw [joinGroup, startBankClear, State.get_set_ne _ _ h3, State.get_set_ne _ _ h2, State.get_set_ne _ _ h1]

/-- The three fields that show membership of a group. -/
def Joined (s : State) (b : Nat) : Prop :=
  s.get (R.BANK_CFG.CMODE b) = 1 ∧ s.get (R.BANK_CFG.CODE b) = 0 ∧ s.get (R.BANK_STAT.CLR_BUSY b) = 1

theorem joinGroup_joined {b : Nat} (s : State) : Joined (joinGroup b s) b := by
  refine ⟨?_, ?_, State.get_set_same _ _ _⟩
  · rw [joinGroup, startBankClear, State.get_set_ne, State.get_set_same]
    · rfl
    · simp only [Fld.key, R.BANK_CFG.CMODE, R.BANK_STAT.CLR_BUSY]; omega
  · rw [joinGroup, startBankClear, State.get_set_ne, State.get_set_ne, State.get_set_same]
    · rfl
    · simp only [Fld.key, R.BANK_CFG.CMODE, R.BANK_CFG.CODE]; omega
    · simp only [Fld.key, R.BANK_CFG.CODE, R.BANK_STAT.CLR_BUSY]; omega

/-- A bank that has joined stays so while another joins. -/
theorem Joined.joinGroup {s : State} {b c : Nat} (h : Joined s b) (hne : b ≠ c) :
    Joined (joinGroup c s) b := by
  obtain ⟨h1, h2, h3⟩ := h
  refine ⟨(joinGroup_get ?_ ?_ ?_).trans h1, (joinGroup_get ?_ ?_ ?_).trans h2, (joinGroup_get ?_ ?_ ?_).trans h3⟩
  all_goals simp only [Fld.key, R.BANK_CFG.CMODE, R.BANK_CFG.CODE, R.BANK_STAT.CLR_BUSY]
  all_goals omega

/-- The first `n` banks of a group have joined. -/
theorem forEach_joinGroup (B n : Nat) (s : State) :
    ∀ w < n, Joined (forEach ((List.range n).map fun w => B + w) Machine.joinGroup s) (B + w) := by
  induction n with
  | zero => exact fun w hw => absurd hw (Nat.not_lt_zero w)
  | succ n ih =>
    intro w hw
    have hlast : forEach ((List.range (n + 1)).map fun w => B + w) Machine.joinGroup s =
        Machine.joinGroup (B + n) (forEach ((List.range n).map fun w => B + w) Machine.joinGroup s) := by
      simp [forEach, List.range_succ]
    rw [hlast]
    rcases Nat.lt_succ_iff_lt_or_eq.1 hw with hlt | rfl
    · exact (ih w hlt).joinGroup (by omega)
    · exact joinGroup_joined _

/-- The cards of the segments show which are cached; no other card follows. -/
theorem refreshCached_get (s : State) {g : Fld} (h : g.key < 0x500000 * 64) : (refreshCached s).get g = s.get g := by
  refine forEach_ind (fun t => t.get g = s.get g) _ _ s rfl fun k t ht => ?_
  refine (State.get_setB_ne _ _ ?_).trans ht
  simp only [Fld.key, R.SEG_CFG.CACHED] at h ⊢
  omega

/-- The card of the group of die `d` takes its settings. -/
def setGroup (d g seg n : Nat) (lost : Bool) (s : State) : State :=
  ((((s.set (R.CMODE_CFG.EN d) 1).set (R.CMODE_CFG.GROUP d) g).set (R.CMODE_CFG.BASE_SEG d) seg).set
    (R.CMODE_CFG.SEG_CNT d) n).setB (R.CMODE_CFG.WAY_LOST d) lost

theorem setGroup_get (d g seg n : Nat) (lost : Bool) (s : State) :
    let t := setGroup d g seg n lost s
    t.get (R.CMODE_CFG.EN d) = 1 ∧ t.get (R.CMODE_CFG.GROUP d) = g % 2 ^ 2 ∧ t.get (R.CMODE_CFG.BASE_SEG d) = seg % 2 ^ 8 ∧
      t.get (R.CMODE_CFG.SEG_CNT d) = n % 2 ^ 6 ∧ ∀ f : Fld, f.key < 0x401400 * 64 → t.get f = s.get f := by
  have h0 : (R.CMODE_CFG.EN d).key = (0x401400 + 4 * d) * 64 := by simp only [Fld.key, R.CMODE_CFG.EN, Nat.add_zero]
  have h1 : (R.CMODE_CFG.GROUP d).key = (0x401400 + 4 * d) * 64 + 2 := by simp only [Fld.key, R.CMODE_CFG.GROUP]
  have h2 : (R.CMODE_CFG.BASE_SEG d).key = (0x401400 + 4 * d) * 64 + 8 := by simp only [Fld.key, R.CMODE_CFG.BASE_SEG]
  have h3 : (R.CMODE_CFG.SEG_CNT d).key = (0x401400 + 4 * d) * 64 + 16 := by simp only [Fld.key, R.CMODE_CFG.SEG_CNT]
  have h4 : (R.CMODE_CFG.WAY_LOST d).key = (0x401400 + 4 * d) * 64 + 4 := by simp only [Fld.key, R.CMODE_CFG.WAY_LOST]
  simp only [setGroup]
  refine ⟨?_, ?_, ?_, ?_, fun f hf => ?_⟩
  · rw [State.get_setB_ne _ _ (by omega), State.get_set_ne _ _ (by omega), State.get_set_ne _ _ (by omega),
      State.get_set_ne _ _ (by omega), State.get_set_same]
    rfl
  · rw [State.get_setB_ne _ _ (by omega), State.get_set_ne _ _ (by omega), State.get_set_ne _ _ (by omega),
      State.get_set_same]
    rfl
  · rw [State.get_setB_ne _ _ (by omega), State.get_set_ne _ _ (by omega), State.get_set_same]
    rfl
  · rw [State.get_setB_ne _ _ (by omega), State.get_set_same]
    rfl
  · rw [State.get_setB_ne _ _ (by omega), State.get_set_ne _ _ (by omega), State.get_set_ne _ _ (by omega),
      State.get_set_ne _ _ (by omega), State.get_set_ne _ _ (by omega)]

/-- The banks of a group of die `d` join it, and its card takes its settings (R292). -/
def enterGroup (d g seg n : Nat) (s : State) : State :=
  let s := forEach ((List.range 16).map fun w => 64 * d + 16 * g + w) joinGroup s
  let s := (((s.set (R.CMODE_CFG.EN d) 1).set (R.CMODE_CFG.GROUP d) g).set (R.CMODE_CFG.BASE_SEG d) seg).set
    (R.CMODE_CFG.SEG_CNT d) n
  let lost := (List.range 16).filter fun w => s.flag (R.BANK_CFG.OFFLINE (64 * d + 16 * g + w))
  refreshCached ((s.setB (R.CMODE_CFG.WAY_LOST d) (lost != [])).modCm d fun _ => ⟨[], 0, lost⟩)

theorem enterGroup_eq (d g seg n : Nat) (s : State) : ∃ lost, enterGroup d g seg n s =
    refreshCached ((setGroup d g seg n (lost != [])
      (forEach ((List.range 16).map fun w => 64 * d + 16 * g + w) joinGroup s)).modCm d fun _ => ⟨[], 0, lost⟩) := ⟨_, rfl⟩

theorem enterGroup_get (d g seg n : Nat) (s : State) (hd : d < 4) :
    let t := enterGroup d g seg n s
    t.get (R.CMODE_CFG.EN d) = 1 ∧ t.get (R.CMODE_CFG.GROUP d) = g % 2 ^ 2 ∧ t.get (R.CMODE_CFG.BASE_SEG d) = seg % 2 ^ 8 ∧
      t.get (R.CMODE_CFG.SEG_CNT d) = n % 2 ^ 6 ∧ (g < 4 → ∀ w < 16, Joined t (64 * d + 16 * g + w)) := by
  obtain ⟨lost, he⟩ := enterGroup_eq d g seg n s
  rw [he]
  have hjoined := forEach_joinGroup (64 * d + 16 * g) 16 s
  generalize forEach ((List.range 16).map fun w => 64 * d + 16 * g + w) joinGroup s = u at hjoined
  obtain ⟨hen, hgroup, hbase, hcnt, hrest⟩ := setGroup_get d g seg n (lost != []) u
  generalize setGroup d g seg n (lost != []) u = v at hen hgroup hbase hcnt hrest
  have hget : ∀ f : Fld, f.key < 0x500000 * 64 →
      (refreshCached (v.modCm d fun _ => ⟨[], 0, lost⟩)).get f = v.get f := fun f hf => refreshCached_get _ hf
  refine ⟨(hget _ ?_).trans hen, (hget _ ?_).trans hgroup, (hget _ ?_).trans hbase, (hget _ ?_).trans hcnt, fun hg w hw => ?_⟩
  · simp only [Fld.key, R.CMODE_CFG.EN]; omega
  · simp only [Fld.key, R.CMODE_CFG.GROUP]; omega
  · simp only [Fld.key, R.CMODE_CFG.BASE_SEG]; omega
  · simp only [Fld.key, R.CMODE_CFG.SEG_CNT]; omega
  · obtain ⟨hcm, hcode, hclr⟩ := hjoined w hw
    refine ⟨(hget _ ?_).trans ((hrest _ ?_).trans hcm), (hget _ ?_).trans ((hrest _ ?_).trans hcode),
      (hget _ ?_).trans ((hrest _ ?_).trans hclr)⟩
    all_goals simp only [Fld.key, R.BANK_CFG.CMODE, R.BANK_CFG.CODE, R.BANK_STAT.CLR_BUSY]
    all_goals omega

/-- Settles O28: each command by its checks and its meaning. -/
theorem cacheCommandsComplete : Obligations.CacheCommandsComplete := by
  unfold Obligations.CacheCommandsComplete
  intro mb s
  refine ⟨?get, ?own, ?code, ?clear, ?power, ?win, ?mode, ?flush, ?spill, ?repair⟩
  case get =>
    intro b n h hbn h1 h16 ht
    have hbusy : ((List.range n).any fun k => s.bankTested (b + k)) = false := by
      rw [List.any_eq_false]
      intro k hk
      rw [State.bankTested_of (ht k (List.mem_range.1 hk))]
      decide
    refine completes_checked h rfl ?_ rfl
    simp only [List.forall_mem_cons, hbusy]
    simp [Nat.not_lt.2 h16, Nat.not_lt.2 hbn]
    omega
  case own =>
    intro b o arm h harm hused hfence ht
    have hfenced : (decide (o < 128) && s.flag (R.BORDER_STAT.FENCED o)) = false := by
      by_cases ho : o < 128
      · rw [hfence ho, Bool.and_false]
      · simp [ho]
    refine ⟨fun hbusy => ?_, fun hpend hgo hland hcm hoff => ?_⟩
    · have hx : (s.flag (R.BANK_OWN.PEND b) || s.flag (R.BANK_OWN.GO b)) = true := by simpa using hbusy
      refine completes_denied h rfl ?_ (by decide)
      simp only [List.find?, State.bankTested_of ht, hfenced, hx, decide_eq_false (Nat.not_le.2 harm), hused, Bool.not_true,
        Bool.or_false]
    · refine completes_checked h rfl ?_ ?_
      · simp only [List.forall_mem_cons, hfenced]
        simp [State.bankTested_of ht, hpend, hgo, hland, hcm, hoff, hused, Nat.not_le.2 harm]
      · have hstart := startHandover_starts (s := s.begun mb) hpend hgo hland hcm hoff hused hfence
        by_cases h1 : arm = 1
        · simp only [h1, if_true]
          rfl
        · simp only [h1, if_false, hstart]
          rfl
  case code =>
    intro b c t h hc ht hbusy
    refine ⟨fun hown hpwr hland hcm => ?_, fun hown => ?_⟩
    · exact completes_checked h rfl (by
        simp [Nat.not_le.2 hc, Nat.not_le.2 ht, State.bankTested_of hbusy, hown, hpwr, hland, hcm]) rfl
    · exact completes_denied h rfl (by
        simp [List.find?, Nat.not_le.2 hc, Nat.not_le.2 ht, State.bankTested_of hbusy, bne_iff_ne.2 hown]) (by decide)
  case clear =>
    intro b h ht hc
    exact completes_checked h rfl (by simp [State.bankTested_of ht, hc]) rfl
  case power =>
    intro b p h hp ht howner hland hcm hpend hpwr hdie u
    have hdie' : bankDie b ∉ s.therm.memOff := by simpa using hdie
    have hx : (p == 2 && decide (s.get (R.BANK_OWN.OWNER b) < 128)) = false := by simpa using howner
    refine completes_checked h rfl ?_ ?_
    · simp only [List.forall_mem_cons, hx]
      simp [Nat.not_le.2 hp, State.bankTested_of ht, hland, hcm, hpend, hpwr, hdie']
    · show Ans.ok (startPower b p (s.begun mb)) = _
      rw [startPower, State.begun_get]
      by_cases hsame : s.get (R.BANK_CFG.PWR b) = p
      · rw [if_pos hsame, if_pos hsame]
        rfl
      · rw [if_neg hsame, if_neg hsame]
        by_cases h2 : s.get (R.BANK_CFG.PWR b) = 2
        · rw [if_pos h2, beq_iff_eq.2 h2]
          rfl
        · rw [if_neg h2, beq_false_of_ne h2]
          rfl
  case win =>
    intro w d e a banks h hw hd he ha hl ht
    have hbusy : banks.any s.bankTested = false := by
      rw [List.any_eq_false]
      intro b hb
      rw [State.bankTested_of (ht b hb)]
      decide
    refine completes_checked h rfl ?_ rfl
    simp only [List.forall_mem_cons, hbusy]
    simp only [decide_eq_false (Nat.not_le.2 hw), decide_eq_false (Nat.not_le.2 hd), decide_eq_false (Nat.not_le.2 he),
      decide_eq_false (Nat.not_le.2 ha), decide_eq_false (Nat.not_lt.2 hl)]
    simp
  case mode =>
    intro d g seg n h hd hg
    have hargs : ¬(4 ≤ d ∨ 4 ≤ g) := by omega
    refine ⟨fun hn hen => ?_, fun hn hen h0 h1 => ?_, fun hn hseg hen hover hfence hbanks => ?_⟩
    · exact completes_served h rfl ((if_neg hargs).trans ((if_pos hn).trans (if_pos (by rw [begun_flag, hen]; rfl))))
    · exact completes_served h rfl ((if_neg hargs).trans ((if_pos hn).trans ((if_neg (by rw [begun_flag, hen]; decide)).trans
        (if_neg (by rw [begun_held, begun_held, h0, h1]; decide)))))
    · have hover' : ((List.range 4).any fun c => c != d && s.flag (R.CMODE_CFG.EN c)
          && decide (seg < s.get (R.CMODE_CFG.BASE_SEG c) + s.get (R.CMODE_CFG.SEG_CNT c))
          && decide (s.get (R.CMODE_CFG.BASE_SEG c) < seg + n)) = false := by
        rw [List.any_eq_false]
        intro c hc
        simp only [Bool.and_eq_true, decide_eq_true_eq, not_and]
        rintro ⟨⟨-, hc'⟩, hlo⟩
        have := hover c (List.mem_range.1 hc) hc'
        omega
      have hbusy : (((List.range 16).map fun w => 64 * d + 16 * g + w).any s.bankTested) = false := by
        rw [List.any_map, List.any_eq_false]
        intro w hw
        simp [State.bankTested_of (hbanks w (List.mem_range.1 hw)).1]
      have hfence' : (s.test.fenced.any fun f => f.1 == 5 && decide (seg ≤ f.2) && decide (f.2 < seg + n)) = false := by
        rw [List.any_eq_false]
        intro f hf
        simpa [and_assoc] using hfence f hf
      have hfree : (((List.range 16).map fun w => 64 * d + 16 * g + w).any fun b => s.get (R.BANK_OWN.OWNER b) != ownAgent
          || s.flag (R.BANK_CFG.LAND b) || s.get (R.BANK_CFG.PWR b) != 0 || s.flag (R.BANK_OWN.PEND b)) = false := by
        rw [List.any_map, List.any_eq_false]
        intro w hw
        obtain ⟨-, hown, hland, hpwr, hpend⟩ := hbanks w (List.mem_range.1 hw)
        simp [hown, hland, hpwr, hpend]
      refine ⟨enterGroup d g seg n (s.begun mb), completes_served h rfl
        ((if_neg hargs).trans ((if_neg hn).trans (checks_pass _ _ ?_))), ?_⟩
      · simp only [List.forall_mem_cons]
        exact ⟨by simpa using hseg, hover', hbusy, hen, hfence', hfree, by simp⟩
      · obtain ⟨hen', hgroup, hbase, hcnt, hjoined⟩ := enterGroup_get d g seg n (s.begun mb) hd
        refine ⟨congrArg (· != 0) hen', hgroup.trans (Nat.mod_eq_of_lt hg), hbase.trans (Nat.mod_eq_of_lt (by omega)),
          hcnt.trans (Nat.mod_eq_of_lt (by omega)), fun w hw => ?_⟩
        obtain ⟨hcm, hcode, hclr⟩ := hjoined hg w hw
        exact ⟨congrArg (· != 0) hcm, hcode, congrArg (· != 0) hclr⟩
  case flush =>
    intro d v h hd hv hen ht h0 h1
    have hbusy : ((List.range 16).any fun w => s.bankTested (s.wayBank d w)) = false := by
      rw [List.any_eq_false]
      intro w hw
      rw [State.bankTested_of (ht w (List.mem_range.1 hw))]
      decide
    refine completes_checked h rfl ?_ rfl
    simp only [List.forall_mem_cons, hbusy]
    simp [Nat.not_le.2 hd, Nat.not_le.2 hv, hen, h0, h1]
  case spill =>
    intro b a n h ht
    have hbusy : ¬(s.begun mb).bankTested b = true := by rw [begun_bankTested, State.bankTested_of ht]; decide
    refine ⟨fun hn => ?_, fun hn ha hin hfence hland hcm => ?_⟩
    · exact completes_served h rfl ((if_neg hbusy).trans (if_pos hn))
    · refine completes_served h rfl ((if_neg hbusy).trans ((if_neg hn).trans (checks_pass _ _ ?_)))
      have hfence' : (s.test.fenced.any fun f => f.1 == 5 && decide (a / 2 ^ 30 ≤ f.2)
          && decide (f.2 ≤ (a + 2048 * n - 1) / 2 ^ 30)) = false := by
        rw [List.any_eq_false]
        intro f hf
        simpa [and_assoc] using hfence f hf
      simp only [List.forall_mem_cons]
      refine ⟨?_, ?_, hfence', by simp⟩
      · simpa [ha, imp_iff_not_or, Nat.not_lt] using hin
      · simp [hland, hcm]
  case repair =>
    intro b h ht
    exact completes_served h rfl (if_neg (by rw [begun_bankTested, State.bankTested_of ht]; decide))

end Sys2Proof.Machine
end

section
/-! PROOFS. A handover to an owner that the field of the next owner cannot hold (R272). -/

namespace Sys2Proof.Machine

/-- Bank 0 drains a handover, and its register of the next owner holds 512, a tenth bit that no write can leave there. -/
def wideNext : State :=
  { State.reset with regs := [(R.CLK_LOCK.LOCK.key, 2 ^ 25 - 1), ((R.BANK_OWN.NEXT 0).key, 512), ((R.BANK_OWN.PEND 0).key, 1)] }

theorem wideNext_due : wideNext.flag (R.BANK_OWN.PEND 0) = true ∧ wideNext.clocked (5 + bankDie 0) = true ∧
    wideNext.oldRemains 0 = false := by decide +kernel

/-- The owner after a handover is what its field holds of the next owner. -/
theorem completeHandover_owner (b : Nat) (s : State) :
    (completeHandover b s).get (R.BANK_OWN.OWNER b) = s.get (R.BANK_OWN.NEXT b) % 2 ^ 9 := by
  have hplain : (R.BANK_OWN.OWNER b).Plain := by
    simp only [Fld.Plain, Fld.key, R.BANK_OWN.OWNER]
    omega
  rw [completeHandover, raise_get _ _ _ _ hplain, State.get_set_ne, State.get_set_ne, State.get_set_ne, State.get_set_same]
  · rfl
  all_goals simp only [Fld.key, R.BANK_OWN.OWNER, R.BANK_OWN.PEND, R.BANK_OWN.GO, R.BANK_OWN.HANDED]
  all_goals omega

/-- Refutes O26: where the register of the next owner holds more than its nine bits, the owner is not what it holds. The
statement speaks of every state, also of one that no step leaves. -/
theorem not_handoverGivesTheBankToItsNextOwner : ¬ Obligations.HandoverGivesTheBankToItsNextOwner := by
  unfold Obligations.HandoverGivesTheBankToItsNextOwner
  intro h
  obtain ⟨hpend, hclk, hold⟩ := wideNext_due
  obtain ⟨-, -, -, hcomplete⟩ := h wideNext 0
  obtain ⟨u, hexec, howner, -⟩ := hcomplete hpend hclk hold
  have hnext : wideNext.get (R.BANK_OWN.NEXT 0) = 512 := by decide +kernel
  have hdone : exec (.handoverComplete 0) wideNext = .next (completeHandover 0 wideNext) := by
    rw [exec_handoverComplete]
    exact if_pos (show (wideNext.flag (R.BANK_OWN.PEND 0) && wideNext.clocked (5 + bankDie 0) && !wideNext.oldRemains 0) = true by
      rw [hpend, hclk, hold]; rfl)
  have hsame := Host.Outcome.next.inj (hdone.symm.trans hexec)
  have hgot := completeHandover_owner 0 wideNext
  rw [hsame, raise_get _ _ _ _ (by decide), hnext] at hgot
  replace howner : u.get (R.BANK_OWN.OWNER 0) = wideNext.get (R.BANK_OWN.NEXT 0) := howner
  rw [hnext] at howner
  exact absurd (howner.symm.trans hgot) (by decide)

end Sys2Proof.Machine
end

section
/-! PROOFS. A bulk clear that breaks off a full-page sequence of a page that its bank does not have (R282, R285). -/

namespace Sys2Proof.Machine

/-- Bank 0 is clearing, and a full-page write of page 512 waits there: a bank has 512 pages, from 0 to 511. -/
def strayPage : State :=
  { State.reset with
    regs := [(R.CLK_LOCK.LOCK.key, 2 ^ 25 - 1), ((R.BANK_STAT.CLR_BUSY 0).key, 1)]
    cache := { State.reset.cache with banks := [(0, { Bank.init with seq := some ⟨0, 512, [], [], []⟩ })] } }

/-- What the end of the clear leaves. -/
def strayCleared : State :=
  clearBank 0 (((breakSeq 0 strayPage).set (R.BANK_STAT.CLR_BUSY 0) 0).set (R.BANK_STAT.CLR 0) 0)

theorem strayPage_due : strayPage.clocked (5 + bankDie 0) = true ∧ strayPage.flag (R.BANK_STAT.CLR_BUSY 0) = true ∧
    strayPage.get (R.BANK_CFG.PWR 0) ≠ 3 := by decide +kernel

/-- The page is performed, as rows of bank 1. -/
theorem strayCleared_row : lookup strayPage.cache.rows 16384 = none ∧ lookup strayCleared.cache.rows 16384 = some 0 := by
  decide +kernel

/-- Refutes O27: the end of a clear performs the writes that wait in a full-page sequence, and a sequence of page 512 writes
rows of the next bank. The statement speaks of every state, also of one that no step leaves. -/
theorem not_cacheEventsComplete : ¬ Obligations.CacheEventsComplete := by
  unfold Obligations.CacheEventsComplete
  intro h
  obtain ⟨hclk, hclr, hpwr⟩ := strayPage_due
  obtain ⟨-, -, hbank, -⟩ := h strayPage
  obtain ⟨-, hclear, -⟩ := hbank 0 hclk
  obtain ⟨t, hexec, -, -, -, hother⟩ := hclear hclr (.inl hpwr)
  have hdone : exec (.bankClearDone 0) strayPage = .next strayCleared := by
    rw [exec_bankClearDone]
    exact if_pos (by decide +kernel)
  have hsame := Host.Outcome.next.inj (hdone.symm.trans hexec)
  obtain ⟨hnone, hsome⟩ := strayCleared_row
  have hkept := hother 16384 (by decide)
  rw [← hsame, hnone, hsome] at hkept
  cases hkept

end Sys2Proof.Machine
end

section
/-! PROOFS. A bank cycle: which request a bank serves, and what it does to the rows (R264–R269, R275–R277). -/

namespace Sys2Proof.Machine

theorem State.bank_modBank'_same (s : State) (b : Nat) (f : Bank → Bank) : (s.modBank' b f).bank b = f (s.bank b) :=
  at'_putD_same _ _ _ _

theorem State.cpPort_modPort_same (s : State) (r : Nat) (f : CpPort → CpPort) : (s.modPort r f).cpPort r = f (s.cpPort r) :=
  at'_putD_same _ _ _ _

/-! ## Acceptance -/

/-- A verdict that is to serve comes from the branch that may serve. -/
theorem serve_else {c : Prop} [Decidable c] {x y : Verdict} (hx : x ≠ .serve) (h : (if c then x else y) = .serve) :
    ¬c ∧ y = .serve := by
  split at h
  · exact absurd h hx
  · next hc => exact ⟨hc, h⟩

/-- From `s` to `t` bank `b` has at most gone through a cycle and accepted requests. -/
structure Accepts (b : Nat) (s t : State) : Prop where
  same : t = { s with cache := { s.cache with banks := t.cache.banks } }
  bank : ∃ c a, t.bank b = { s.bank b with cyc := c, acc := a }
  keeps : ∀ r, r ∈ (s.bank b).acc → r ∈ (t.bank b).acc

namespace Accepts

variable {b : Nat} {s t u : State}

theorem trans (h : Accepts b s t) (h' : Accepts b t u) : Accepts b s u where
  same := by rw [h'.same, h.same]
  bank := by
    obtain ⟨c, a, e⟩ := h.bank
    obtain ⟨c', a', e'⟩ := h'.bank
    exact ⟨c', a', by rw [e', e]⟩
  keeps r hr := h'.keeps r (h.keeps r hr)

theorem passCycle (b : Nat) (s : State) : Accepts b s (passCycle b s) where
  same := rfl
  bank := ⟨_, _, State.bank_modBank'_same _ _ _⟩
  keeps r hr := by rw [Machine.passCycle, State.bank_modBank'_same]; exact hr

theorem acceptAll (b : Nat) (s : State) : Accepts b s (acceptAll b s) := by
  unfold Machine.acceptAll
  split
  · exact ⟨rfl, ⟨_, _, rfl⟩, fun _ h => h⟩
  · refine ⟨rfl, ⟨_, _, State.bank_modBank'_same _ _ _⟩, fun r hr => ?_⟩
    rw [State.bank_modBank'_same]
    exact List.mem_dedup.2 (List.mem_append_left _ (List.mem_append_left _ hr))

variable (h : Accepts b s t)
include h

theorem regs : t.regs = s.regs := by rw [h.same]

theorem get (f : Fld) : t.get f = s.get f := by rw [State.get, h.regs]; rfl

theorem flag (f : Fld) : t.flag f = s.flag f := by rw [State.flag, h.get]; rfl

theorem portCands (c : Nat) : t.portCands c = s.portCands c := by rw [h.same]; rfl

theorem nocCands (c : Nat) : t.nocCands c = s.nocCands c := by rw [h.same]; rfl

theorem seq : (t.bank b).seq = (s.bank b).seq := by
  obtain ⟨c, a, e⟩ := h.bank
  rw [e]

theorem pwrTo : (t.bank b).pwrTo = (s.bank b).pwrTo := by
  obtain ⟨c, a, e⟩ := h.bank
  rw [e]

theorem bankServes : t.bankServes b = s.bankServes b := by simp only [State.bankServes, h.get, h.flag]

theorem bankOut : t.bankOut b = s.bankOut b := by rw [State.bankOut, h.flag, h.same]; rfl

theorem spillDue : t.spillDue b = s.spillDue b := by
  obtain ⟨c, a, e⟩ := h.bank
  have hheld : ∀ f, t.held f = s.held f := by rw [h.same]; exact fun f => rfl
  simp only [State.spillDue, e, h.bankServes, h.bankOut, h.flag, hheld]

/-- A verdict follows what the bank has accepted. -/
theorem judgePort_eq {r : Nat} (q : CpWait) (hacc : (t.bank b).acc.contains r = (s.bank b).acc.contains r) :
    t.judgePort b r q = s.judgePort b r q := by
  have hresync : ∀ f, t.resyncing f = s.resyncing f := by rw [h.same]; exact fun f => rfl
  have hport : t.cpPort r = s.cpPort r := by rw [h.same]; rfl
  have htest : t.bankTested b = s.bankTested b := by rw [h.same]; rfl
  have hfar : t.cache.farOff = s.cache.farOff := by rw [h.same]
  have hoff : t.bankOff b = s.bankOff b := by simp only [State.bankOff, h.get, h.pwrTo]
  simp only [State.judgePort, h.flag, h.get, hresync, hport, htest, hfar, hoff, h.bankOut, h.bankServes, h.seq, hacc]

/-- A request that is due for service stays so. -/
theorem judgePort {r : Nat} {q : CpWait} (hj : s.judgePort b r q = .serve) : t.judgePort b r q = .serve := by
  have hresync : ∀ f, t.resyncing f = s.resyncing f := by rw [h.same]; exact fun f => rfl
  have hport : t.cpPort r = s.cpPort r := by rw [h.same]; rfl
  have htest : t.bankTested b = s.bankTested b := by rw [h.same]; rfl
  have hfar : t.cache.farOff = s.cache.farOff := by rw [h.same]
  have hoff : t.bankOff b = s.bankOff b := by simp only [State.bankOff, h.get, h.pwrTo]
  have hacc : (s.bank b).acc.contains r = true → (t.bank b).acc.contains r = true := by
    simpa using h.keeps r
  simp only [State.judgePort, h.flag, h.get, hresync, hport, htest, hfar, hoff, h.bankOut, h.bankServes, h.seq] at hj ⊢
  generalize (s.bank b).acc.contains r = acc at hj hacc
  generalize (t.bank b).acc.contains r = acc' at hacc ⊢
  cases acc with
  | true => rwa [hacc rfl]
  | false =>
    cases acc' with
    | false => exact hj
    | true =>
      obtain ⟨h1, hj⟩ := serve_else (by simp) hj
      obtain ⟨h2, hj⟩ := serve_else (by simp) hj
      obtain ⟨h3, hj⟩ := serve_else (by simp) hj
      obtain ⟨-, hj⟩ := serve_else (by simp) hj
      obtain ⟨h5, hj⟩ := serve_else (by split <;> simp) hj
      obtain ⟨-, hj⟩ := serve_else (by simp) hj
      obtain ⟨h7, hj⟩ := serve_else (by simp) hj
      obtain ⟨h8, hj⟩ := serve_else (by simp) hj
      have hserves : s.bankServes b = true := by simpa using h8
      rw [if_neg h1, if_neg h2, if_neg h3, if_neg (by simp), if_neg h5, if_neg (by simp), if_neg h7,
        if_neg (by simp [hserves])]
      exact hj

end Accepts

/-! ## A bank with one request -/

section

variable {s : State} {b : Fin 256} {r : Nat} {q : CpWait} (hup : s.up = true) (hclk : s.clocked (5 + bankDie b) = true)
  (hport : s.portCands b = [(r, q)]) (hnoc : s.nocCands b = []) (hspill : s.spillDue b = false)
include hup hclk

/-- With one requester a bank serves it, whichever cycle it is. -/
theorem exec_bankCycle_one {x : Cand} (h : (acceptAll b (refuseAll b (passCycle b s))).cands b = ([x], [])) :
    exec (.bankCycle b) s = .next (serveCand b x (acceptAll b (refuseAll b (passCycle b s)))) := by
  have hx : (!s.up || !s.clocked (5 + bankDie b)) = false := by rw [hup, hclk]; rfl
  rw [exec_bankCycle]
  refine (if_neg (by rw [hx]; decide)).trans ?_
  dsimp only
  rw [h]
  have hlist : (if (s.bank b).cyc = 15 then [] ++ [x] else [x] ++ []) = [x] := by split <;> rfl
  cases twinBank b
  · simp only [Bool.false_eq_true, if_false, hlist]
    rfl
  · rfl

/-- Without a requester a bank idles. -/
theorem exec_bankCycle_none (h : (acceptAll b (refuseAll b (passCycle b s))).cands b = ([], [])) :
    exec (.bankCycle b) s = .next (acceptAll b (refuseAll b (passCycle b s))) := by
  have hx : (!s.up || !s.clocked (5 + bankDie b)) = false := by rw [hup, hclk]; rfl
  rw [exec_bankCycle]
  refine (if_neg (by rw [hx]; decide)).trans ?_
  dsimp only
  rw [h]
  have hlist : (if (s.bank b).cyc = 15 then [] ++ [] else [] ++ []) = ([] : List Cand) := by split <;> rfl
  cases twinBank b
  · simp only [Bool.false_eq_true, if_false, hlist]
    rfl
  · rfl

include hport hnoc hspill

/-- A lone request that is due for service is the one that the bank serves. -/
theorem bankCycle_serves (hj : s.judgePort b r q = .serve) : ∃ u, Accepts b s u ∧
    exec (.bankCycle b) s = .next (servePort b r q u) := by
  have hpass : Accepts b s (passCycle b s) := .passCycle b s
  have hrefuse : refuseAll b (passCycle b s) = passCycle b s := by
    rw [refuseAll, hpass.portCands, hport, forEach_cons, forEach_nil, hpass.judgePort hj, hpass.nocCands, hnoc, forEach_nil]
  have hacc : Accepts b s (acceptAll b (refuseAll b (passCycle b s))) := by
    rw [hrefuse]
    exact hpass.trans (.acceptAll b _)
  refine ⟨_, hacc, exec_bankCycle_one hup hclk (x := .port r q) ?_⟩
  simp [State.cands, hacc.portCands, hacc.nocCands, hport, hnoc, hacc.judgePort hj, hacc.spillDue, hspill]

end

/-! ## What a bank does to its rows -/

/-- The rows of the cache, with what their reads depend on. -/
structure SameRows (s t : State) : Prop where
  rows : t.cache.rows = s.cache.rows
  inj : t.cache.inj = s.cache.inj

theorem Accepts.sameRows {b : Nat} {s t : State} (h : Accepts b s t) : SameRows s t :=
  ⟨by rw [h.same], by rw [h.same]⟩

/-- A counted read outside page code changes no store of the cache. -/
theorem countRow_cache {b row : Nat} {rd : RowRd} {s : State} (h : s.bankCode b ≠ 3) :
    (countRow b row rd s).cache = s.cache := by
  rw [countRow, show State.bankCode { s with free := s.free + 34 } b = s.bankCode b from rfl, beq_false_of_ne h]
  cases rd.cor <;> cases rd.unc <;> rfl

/-- The port after a request has left it. -/
theorem takePort_cpPort (r : Nat) (q : CpWait) (s : State) :
    (takePort r q s).cpPort r = { s.cpPort r with reqs := (s.cpPort r).reqs.erase q } :=
  State.cpPort_modPort_same s r fun p => { p with reqs := p.reqs.erase q }

/-- The port after an answer. -/
theorem answerPort_cpPort {r stat data : Nat} {q : CpWait} {s : State} (h : q.dead = false) :
    (answerPort r q stat data s).cpPort r =
      { s.cpPort r with resps := (s.cpPort r).resps ++ [⟨q.tag, q.plane, stat, data⟩] } := by
  rw [answerPort, h]
  exact State.cpPort_modPort_same s r fun p => { p with resps := p.resps ++ [⟨q.tag, q.plane, stat, data⟩] }

theorem answerPort_cache (r stat data : Nat) (q : CpWait) (s : State) :
    SameRows s (answerPort r q stat data s) := by
  unfold answerPort
  split <;> exact ⟨rfl, rfl⟩

/-- A lone read outside page code reads the row as it was. -/
theorem Accepts.readCRow {b row : Nat} {s t : State} (h : Accepts b s t) (hcode : s.bankCode b ≠ 3) (r : Nat) (q : CpWait) :
    (takePort r q t).readCRow b row = s.readCRow b row := by
  have hc : (takePort r q t).bankCode b = s.bankCode b := h.get _
  have hfree : t.free = s.free := by rw [h.same]
  rw [State.readCRow, State.readCRow, hc, if_neg hcode, if_neg hcode]
  show readRow t.cache.rows t.cache.inj 128 _ _ (Config.freeValue t.free) = _
  rw [h.sameRows.rows, h.sameRows.inj, hfree]

/-- A port read is answered with the row, leaves its FIFO and leaves the rows alone (R264, R266). -/
theorem servePort_read {b r : Nat} {q : CpWait} {s u : State} (h : Accepts b s u) (hcode : s.bankCode b ≠ 3)
    (hdead : q.dead = false) (hop : q.op = 0) :
    let rd := s.readCRow b q.row
    let t := servePort b r q u
    (t.cpPort r).resps = (s.cpPort r).resps ++
      [⟨q.tag, q.plane, if !rd.valid then 3 else if rd.unc then 2 else if rd.cor then 1 else 0, rd.data⟩] ∧
    (t.cpPort r).reqs = (s.cpPort r).reqs.erase q ∧ t.cache.rows = s.cache.rows ∧ t.cache.inj = s.cache.inj := by
  have hc : (takePort r q u).bankCode b ≠ 3 := by
    rw [show (takePort r q u).bankCode b = s.bankCode b from h.get _]
    exact hcode
  have hport : u.cpPort r = s.cpPort r := by rw [h.same]; rfl
  simp only [servePort, hop, h.readCRow hcode]
  have hcount := countRow_cache (row := q.row) (rd := s.readCRow b q.row) hc
  have hcp : (countRow b q.row (s.readCRow b q.row) (takePort r q u)).cpPort r =
      { s.cpPort r with reqs := (s.cpPort r).reqs.erase q } := by
    rw [State.cpPort, hcount, ← hport]
    exact takePort_cpPort r q u
  obtain ⟨hrows, hinj⟩ := answerPort_cache r (if !(s.readCRow b q.row).valid then 3 else if (s.readCRow b q.row).unc then 2
    else if (s.readCRow b q.row).cor then 1 else 0) (s.readCRow b q.row).data q
      (countRow b q.row (s.readCRow b q.row) (takePort r q u))
  rw [answerPort_cpPort hdead, hcp, hrows, hinj, hcount]
  exact ⟨rfl, rfl, h.sameRows.rows, h.sameRows.inj⟩

/-! ## A refused request -/

/-- A port that does not own the bank, or that comes after the commit of a handover, is not served (R269, R272). -/
theorem judgePort_ne_serve {s : State} {b r : Nat} (q : CpWait) (h : s.get (R.BANK_OWN.OWNER b) ≠ r ∨
    (s.flag (R.BANK_OWN.PEND b) = true ∧ (s.bank b).acc.contains r = false)) : s.judgePort b r q ≠ .serve := by
  intro hj
  simp only [State.judgePort] at hj
  obtain ⟨-, hj⟩ := serve_else (by simp) hj
  obtain ⟨-, hj⟩ := serve_else (by simp) hj
  obtain ⟨-, hj⟩ := serve_else (by simp) hj
  obtain ⟨-, hj⟩ := serve_else (by simp) hj
  obtain ⟨hown, hj⟩ := serve_else (by split <;> simp) hj
  obtain ⟨hpend, hj⟩ := serve_else (by simp) hj
  rcases h with h | ⟨h, hacc⟩
  · exact hown h
  · rw [h, hacc] at hpend
    exact hpend rfl

/-- A verdict of `NOT_OWNER` comes from the branch that may give it. -/
theorem refuse4_else {c : Prop} [Decidable c] {x y : Verdict} (hx : x ≠ .refuse 4) (h : (if c then x else y) = .refuse 4) :
    y = .refuse 4 := by
  split at h
  · exact absurd h hx
  · exact h

/-- The two grounds on which a bank refuses with `NOT_OWNER`. -/
theorem judgePort_refuse4 {s : State} {b r : Nat} {q : CpWait} (h : s.judgePort b r q = .refuse 4) :
    s.get (R.BANK_OWN.OWNER b) ≠ r ∨ (s.flag (R.BANK_OWN.PEND b) = true ∧ (s.bank b).acc.contains r = false) := by
  by_contra hno
  obtain ⟨hown, hpend⟩ := not_or.1 hno
  have hown := not_not.1 hown
  have hpend : (s.flag (R.BANK_OWN.PEND b) && !(s.bank b).acc.contains r) = false := by
    rw [← Bool.not_eq_true, Bool.and_eq_true, Bool.not_eq_true']
    exact hpend
  simp only [State.judgePort, hown, hpend, ne_eq, not_true_eq_false, if_false, Bool.false_eq_true] at h
  obtain h := refuse4_else (by simp) h
  obtain h := refuse4_else (by simp) h
  obtain h := refuse4_else (by simp) h
  obtain h := refuse4_else (by simp) h
  obtain h := refuse4_else (by simp) h
  obtain h := refuse4_else (by simp) h
  split at h
  · exact absurd (refuse4_else (by simp) h) (by simp)
  · exact absurd h (by simp)

theorem State.cpPort_modPort_ne (s : State) {r r' : Nat} (f : CpPort → CpPort) (h : r' ≠ r) :
    (s.modPort r f).cpPort r' = s.cpPort r' := at'_putD_ne _ _ _ _ h

/-- The state after bank `b` has refused the request of port `r` as not the owner's. -/
def refusedPort (b r : Nat) (q : CpWait) (s : State) : State :=
  answerPort r q 4 0 (takePort r q (s.set (R.BANK_STAT.NOT_OWN b) 1))

/-- Another port keeps its requests. -/
theorem refusedPort_cpPort_ne {b r r' : Nat} {q : CpWait} {s : State} (h : r' ≠ r) :
    (refusedPort b r q s).cpPort r' = s.cpPort r' := by
  have htake : (takePort r q (s.set (R.BANK_STAT.NOT_OWN b) 1)).cpPort r' = s.cpPort r' :=
    State.cpPort_modPort_ne (s.set (R.BANK_STAT.NOT_OWN b) 1) (fun p => { p with reqs := p.reqs.erase q }) h
  rw [← htake]
  unfold refusedPort answerPort
  split
  · rfl
  · exact State.cpPort_modPort_ne _ _ h

theorem refusedPort_cpPort {b r : Nat} {q : CpWait} {s : State} (hdead : q.dead = false) :
    (refusedPort b r q s).cpPort r = { s.cpPort r with
      reqs := (s.cpPort r).reqs.erase q, resps := (s.cpPort r).resps ++ [⟨q.tag, q.plane, 4, 0⟩] } := by
  rw [refusedPort, answerPort_cpPort hdead, takePort_cpPort]
  rfl

/-- A refusal tells the port, sets `NOT_OWN` and drops what the bank had accepted of the port. -/
theorem refusedPort_frame {b r : Nat} {q : CpWait} {s : State} (hbank : q.bank = b) :
    let t := refusedPort b r q s
    t.bank b = { s.bank b with acc := (s.bank b).acc.filter fun x => x != r } ∧
    t.regs = (s.set (R.BANK_STAT.NOT_OWN b) 1).regs ∧ t.cache.rows = s.cache.rows ∧ t.cache.inj = s.cache.inj ∧
    t.noc = s.noc := by
  have hb : (takePort r q (s.set (R.BANK_STAT.NOT_OWN b) 1)).bank b =
      { s.bank b with acc := (s.bank b).acc.filter fun x => x != r } := by
    rw [takePort, hbank, dropAcc]
    exact State.bank_modBank'_same _ b fun k => { k with acc := k.acc.filter fun x => x != r }
  unfold refusedPort answerPort
  split <;> exact ⟨hb, rfl, rfl, rfl, rfl⟩

/-- The refusal changes no field but `NOT_OWN`. -/
theorem refusedPort_get {b r : Nat} {q : CpWait} {s : State} (hbank : q.bank = b) {f : Fld}
    (hf : f.key ≠ (R.BANK_STAT.NOT_OWN b).key) : (refusedPort b r q s).get f = s.get f := by
  obtain ⟨-, hregs, -⟩ := refusedPort_frame (r := r) (s := s) hbank
  rw [State.get, hregs]
  exact State.get_set_ne s 1 hf

/-- A refusal makes no spill due. -/
theorem refusedPort_spillDue {b : Fin 256} {r : Nat} {q : CpWait} {s : State} (hbank : q.bank = b) :
    (refusedPort b r q s).spillDue b = s.spillDue b := by
  obtain ⟨hb, -⟩ := refusedPort_frame (r := r) (s := s) hbank
  have hlt := b.isLt
  have hget : ∀ f : Fld, f.key ≠ (R.BANK_STAT.NOT_OWN b).key → (refusedPort b r q s).get f = s.get f :=
    fun f => refusedPort_get hbank
  have hseg : ∀ g, (refusedPort b r q s).get (R.SEG_CFG.CLR_BUSY g) = s.get (R.SEG_CFG.CLR_BUSY g) := fun g =>
    hget _ (by simp only [Fld.key, R.SEG_CFG.CLR_BUSY, R.BANK_STAT.NOT_OWN]; omega)
  have hheld : ∀ f, f < 256 → (refusedPort b r q s).held f = s.held f := fun f hf => by
    rw [State.held, State.bit, hget _ (by simp only [Fld.key, R.RST_FUNC.HOLD, R.BANK_STAT.NOT_OWN]; omega)]
    rfl
  have hdie : bankDie b < 4 := by unfold bankDie; omega
  have hen := hget (R.SPILL_STAT.EN b) (by simp only [Fld.key, R.SPILL_STAT.EN, R.BANK_STAT.NOT_OWN]; omega)
  have hpwr := hget (R.BANK_CFG.PWR b) (by simp only [Fld.key, R.BANK_CFG.PWR, R.BANK_STAT.NOT_OWN]; omega)
  have hclr := hget (R.BANK_STAT.CLR_BUSY b) (by simp [Fld.key, R.BANK_STAT.CLR_BUSY, R.BANK_STAT.NOT_OWN])
  have hoff := hget (R.BANK_CFG.OFFLINE b) (by simp only [Fld.key, R.BANK_CFG.OFFLINE, R.BANK_STAT.NOT_OWN]; omega)
  simp only [State.spillDue, State.bankServes, State.bankOut, State.flag, hb, hen, hpwr, hclr, hoff, hseg,
    hheld (0x98 + bankDie b) (by omega), hheld (0x9C + if (s.bank b).ringBase < 0x600000000 then 0 else 1) (by split <;> omega)]

/-- A bank sees of each port its first request for the bank. -/
theorem State.mem_portCands {s : State} {b : Nat} {e : Nat × CpWait} :
    e ∈ s.portCands b ↔ e.1 < 128 ∧ (s.cpPort e.1).reqs.find? (fun q => q.bank == b) = some e.2 := by
  obtain ⟨r, q⟩ := e
  simp only [State.portCands, List.mem_filterMap, List.mem_range, Option.map_eq_some_iff, Prod.mk.injEq]
  constructor
  · rintro ⟨r, hr, q, hq, rfl, rfl⟩
    exact ⟨hr, hq⟩
  · rintro ⟨hr, hq⟩
    exact ⟨r, hr, q, hq, rfl, rfl⟩

theorem portCands_bank {s : State} {b r : Nat} {q : CpWait} (hport : s.portCands b = [(r, q)]) : q.bank = b := by
  obtain ⟨-, hq⟩ := State.mem_portCands.1 (hport ▸ List.mem_singleton_self (r, q))
  simpa using List.find?_some hq

theorem refusedPort_nocCands {b r : Nat} {q : CpWait} {s : State} (hbank : q.bank = b) (c : Nat) :
    (refusedPort b r q s).nocCands c = s.nocCands c := by
  obtain ⟨-, -, -, -, hnoc⟩ := refusedPort_frame (r := r) (s := s) hbank
  simp only [State.nocCands, State.rxHead, hnoc]

theorem refuseAll_one {s : State} {b r : Nat} {q : CpWait} (hport : s.portCands b = [(r, q)]) (hnoc : s.nocCands b = [])
    (hj : s.judgePort b r q = .refuse 4) : refuseAll b s = refusedPort b r q s := by
  have hnoc' : (refusedPort b r q s).nocCands b = [] :=
    (refusedPort_nocCands (portCands_bank hport) b).trans hnoc
  simp only [refuseAll, hport, forEach_cons, forEach_nil, hj, beq_self_eq_true, applyIf, if_true]
  rw [← refusedPort, hnoc', forEach_nil]

/-- After the refusal no port has a request that the bank may serve. -/
theorem cands_refused {s : State} {b : Fin 256} {r : Nat} {q : CpWait} (hport : s.portCands b = [(r, q)])
    (hnoc : s.nocCands b = []) (hspill : s.spillDue b = false) (hj : s.judgePort b r q = .refuse 4) :
    (acceptAll b (refusedPort b r q s)).cands b = ([], []) := by
  have hmem : ∀ e, e ∈ s.portCands b → e = (r, q) := by simp [hport]
  have hbank : q.bank = b := portCands_bank hport
  have hacc : Accepts b (refusedPort b r q s) (acceptAll b (refusedPort b r q s)) := .acceptAll b _
  have hget : ∀ f : Fld, f.key ≠ (R.BANK_STAT.NOT_OWN b).key →
      (acceptAll b (refusedPort b r q s)).get f = s.get f := fun f hf => by
    rw [hacc.get, refusedPort_get hbank hf]
  have hlt := b.isLt
  have hpend := hget (R.BANK_OWN.PEND b) (by simp only [Fld.key, R.BANK_OWN.PEND, R.BANK_STAT.NOT_OWN]; omega)
  have hown := hget (R.BANK_OWN.OWNER b) (by simp only [Fld.key, R.BANK_OWN.OWNER, R.BANK_STAT.NOT_OWN]; omega)
  obtain ⟨hb, -⟩ := refusedPort_frame (r := r) (s := s) hbank
  have hnocs : (acceptAll b (refusedPort b r q s)).nocCands b = [] := by
    rw [hacc.nocCands, refusedPort_nocCands hbank, hnoc]
  have hports : ∀ e ∈ (acceptAll b (refusedPort b r q s)).portCands b,
      (acceptAll b (refusedPort b r q s)).judgePort b e.1 e.2 ≠ .serve := fun e he => by
    have hr : e.1 = r := by
      by_contra hne
      rw [hacc.portCands, State.mem_portCands, refusedPort_cpPort_ne hne, ← State.mem_portCands] at he
      exact hne (congrArg Prod.fst (hmem e he))
    rw [hr]
    refine judgePort_ne_serve e.2 ?_
    rw [State.flag, hown, hpend]
    refine (judgePort_refuse4 hj).imp id fun ⟨hp, _⟩ => ⟨hp, ?_⟩
    have hpw : (refusedPort b r q s).flag (R.BANK_OWN.PEND b) = true := by
      rw [← hacc.flag, State.flag, hpend]
      exact hp
    unfold acceptAll
    split
    · simp [hb]
    · simp [State.bank_modBank'_same, hb, hpw, show (refusedPort b r q s).nocCands b = [] from
        hacc.nocCands b ▸ hnocs]
  have hspills : (acceptAll b (refusedPort b r q s)).spillDue b = false := by
    rw [hacc.spillDue, refusedPort_spillDue hbank, hspill]
  have hfilter : (((acceptAll b (refusedPort b r q s)).portCands b).filter fun e =>
      (acceptAll b (refusedPort b r q s)).judgePort b e.1 e.2 == .serve) = [] :=
    List.filter_eq_nil_iff.2 fun e he => by simpa using hports e he
  simp [State.cands, hfilter, hnocs, hspills]

/-! ## A write -/

/-- The lanes of a value pack to its low bits. -/
theorem packLanes_laneOf (l n v : Nat) : packLanes l n (laneOf l v) = v % 2 ^ (l * n) := by
  induction n with
  | zero => simp [packLanes, Nat.mod_one]
  | succ n ih =>
    rw [packLanes_succ, ih, laneOf_mod, laneOf, Nat.mul_succ, pow_add, Nat.mod_mul, Nat.mul_comm (2 ^ (l * n))]

theorem packLanes_congr {l n : Nat} {f g : Nat → Nat} (h : ∀ k, k < n → f k = g k) : packLanes l n f = packLanes l n g := by
  induction n with
  | zero => rfl
  | succ n ih => rw [packLanes_succ, packLanes_succ, ih fun k hk => h k (Nat.lt_succ_of_lt hk), h n (Nat.lt_succ_self n)]

/-- A write of all lanes replaces the row. -/
theorem lookup_writeRow_full (rows : SMap Nat) (code key v : Nat) :
    lookup (writeRow rows 128 code key (2 ^ 128 - 1) v) key = some (v % 2 ^ (laneBits code * 128)) := by
  rw [writeRow, lookup_put_same, ← packLanes_laneOf]
  exact congrArg some (packLanes_congr fun k hk => if_pos (by rw [Nat.testBit_two_pow_sub_one]; exact decide_eq_true hk))

/-- After a write of all lanes no stored bits of the row differ from its data. -/
theorem writeInj_full (inj : SMap Nat) (key : Nat) :
    ((writeInj inj 128 key (2 ^ 128 - 1)).filter fun e => e.1 / 128 == key) = [] := by
  refine List.filter_eq_nil_iff.2 fun e he => ?_
  obtain ⟨-, hkeep⟩ := List.mem_filter.1 he
  intro hkey
  have hlane : e.1 % 128 < 128 := Nat.mod_lt _ (by decide)
  simp only [hkey, Bool.true_and, Nat.testBit_two_pow_sub_one, hlane, decide_true, Bool.not_true] at hkeep
  exact absurd hkeep (by decide)

/-- A write touches no row but its own. -/
theorem readRow_write_ne {rows inj : SMap Nat} {code code' key key' mask mask' v c : Nat} (h : key' ≠ key) :
    readRow (writeRow rows 128 code key mask v) (writeInj inj 128 key mask') 128 code' key' c =
      readRow rows inj 128 code' key' c := by
  have hrow : lookup (writeRow rows 128 code key mask v) key' = lookup rows key' := lookup_put_ne _ _ h
  have hinj : ((writeInj inj 128 key mask').filter fun e => e.1 / 128 == key') =
      inj.filter fun e => e.1 / 128 == key' := by
    rw [writeInj, List.filter_filter]
    refine List.filter_congr fun e _ => ?_
    by_cases he : e.1 / 128 = key'
    · simp [he, h]
    · simp [he]
  rw [readRow, readRow, hrow, hinj]

/-- A port write outside page code writes the row and is answered; the other stores stay. -/
theorem servePort_write {b r : Nat} {q : CpWait} {s u : State} (h : Accepts b s u) (hcode : s.bankCode b ≠ 3)
    (hop : q.op = 1) : let t := servePort b r q u
    t.cache.rows = writeRow s.cache.rows 128 (s.bankCode b) (rowKey b q.row) q.le (q.wdata % 2 ^ rowBits (s.bankCode b)) ∧
    t.cache.inj = writeInj s.cache.inj 128 (rowKey b q.row)
      (if !has s.cache.rows (rowKey b q.row) then 2 ^ 128 - 1 else q.le) ∧
    t.regs = s.regs ∧ t.bulk = s.bulk ∧ t.bm = s.bm ∧ t.fab = s.fab := by
  have hc : (takePort r q u).bankCode b = s.bankCode b := h.get _
  have hrows : (takePort r q u).cache.rows = s.cache.rows := h.sameRows.rows
  have hinj : (takePort r q u).cache.inj = s.cache.inj := h.sameRows.inj
  have hregs : (takePort r q u).regs = s.regs := h.regs
  have hbulk : (takePort r q u).bulk = s.bulk := by rw [← show u.bulk = s.bulk by rw [h.same]]; rfl
  have hbm : (takePort r q u).bm = s.bm := by rw [← show u.bm = s.bm by rw [h.same]]; rfl
  have hfab : (takePort r q u).fab = s.fab := by rw [← show u.fab = s.fab by rw [h.same]]; rfl
  simp only [servePort, hop]
  rw [← hc] at hcode ⊢
  generalize takePort r q u = w at *
  simp only [rowWrite, hcode, ne_eq, not_false_eq_true, if_true, writeCRow, if_false, answerPort]
  rw [← hrows, ← hinj, ← hregs, ← hbulk, ← hbm, ← hfab]
  split <;> exact ⟨rfl, rfl, rfl, rfl, rfl, rfl⟩

/-- Settles O25: one request, the courtesy slot, and a write that is read back. -/
theorem bankCycleServesInTurn : Obligations.BankCycleServesInTurn := by
  unfold Obligations.BankCycleServesInTurn
  refine ⟨fun s b r q hup hclk hport hnoc hspill hdead hcode hseq => ⟨fun hj hop => ?read, fun hj => ?refuse⟩,
    fun s b x y own oth hup hclk => ?turn,
    fun s t b r q hup hclk hport hnoc hspill hcode hseq hj hop hexec => ?write⟩
  case read =>
    obtain ⟨u, hu, hexec⟩ := bankCycle_serves hup hclk hport hnoc hspill hj
    exact ⟨_, hexec, servePort_read hu hcode hdead hop⟩
  case refuse =>
    have hpass : Accepts b s (passCycle b s) := .passCycle b s
    have hacc : ((passCycle b s).bank b).acc.contains r = (s.bank b).acc.contains r := by
      rw [passCycle, State.bank_modBank'_same]
    have hport' := (hpass.portCands b).trans hport
    have hnoc' := (hpass.nocCands b).trans hnoc
    have hj' := (hpass.judgePort_eq q hacc).trans hj
    have hrefuse := refuseAll_one hport' hnoc' hj'
    have hnone := exec_bankCycle_none hup hclk
      (hrefuse ▸ cands_refused hport' hnoc' (hpass.spillDue.trans hspill) hj')
    rw [hrefuse] at hnone
    have hbank : q.bank = b := portCands_bank hport
    have hu : Accepts b (refusedPort b r q (passCycle b s)) _ := .acceptAll b _
    obtain ⟨-, hregs, hrows, hinj, -⟩ := refusedPort_frame (r := r) (s := passCycle b s) hbank
    refine ⟨_, hnone, ?_⟩
    rw [hu.flag, hu.sameRows.rows, hu.sameRows.inj, hrows, hinj, State.cpPort, hu.same]
    have hp := refusedPort_cpPort (b := b) (r := r) (s := passCycle b s) hdead
    refine ⟨congrArg CpPort.resps hp, congrArg CpPort.reqs hp, ?_, rfl, rfl⟩
    rw [State.flag, State.get, hregs]
    have hset := State.get_set_same (passCycle b s) (R.BANK_STAT.NOT_OWN b) 1
    rw [State.get] at hset
    rw [hset]
    rfl
  case turn =>
    intro u hu
    have hx : (!s.up || !s.clocked (5 + bankDie b)) = false := by rw [hup, hclk]; rfl
    rw [exec_bankCycle]
    have hexec : execBankCycle b s = _ := if_neg (by rw [hx]; decide)
    rw [hexec]
    dsimp only
    rw [hu]
    refine ⟨fun htwin hcyc => ?_, fun htwin hcyc => ?_, fun htwin => ?_⟩
    · simp only [htwin, hcyc, Bool.false_eq_true, if_false, if_true]
      rfl
    · simp only [htwin, if_neg hcyc, Bool.false_eq_true, if_false]
      rfl
    · simp only [htwin, if_true]
      rfl
  case write =>
    obtain ⟨u, hu, hserve⟩ := bankCycle_serves hup hclk hport hnoc hspill hj
    obtain rfl : servePort b r q u = t := by simpa [hserve] using hexec
    have hcode3 : s.bankCode b ≠ 3 := by omega
    obtain ⟨hrows, hinj, hregs, hbulk, hbm, hfab⟩ := servePort_write (r := r) hu hcode3 hop
    generalize servePort b r q u = t at hrows hinj hregs hbulk hbm hfab
    have hcode' : t.bankCode b = s.bankCode b := by rw [State.bankCode, State.get, hregs]; rfl
    refine ⟨fun hle => ?_, fun key c hkey => ?_, hbulk, hbm, hfab⟩
    · have hmask : (if !has s.cache.rows (rowKey b q.row) then 2 ^ 128 - 1 else q.le) = 2 ^ 128 - 1 := by rw [hle, ite_self]
      rw [State.readCRow, hcode', if_neg hcode3, readRow, hrows, hinj, hmask, hle, lookup_writeRow_full, writeInj_full,
        rowBits, Nat.mul_comm (laneBits _) 128, Nat.mod_mod]
      exact ⟨rfl, rfl, rfl, rfl⟩
    · rw [hrows, hinj]
      exact readRow_write_ne hkey

end Sys2Proof.Machine
end

section
/-! PROOFS. What a command may narrow: the protection register (R466). -/

namespace Sys2Proof.Machine

/-- Taking away a bit that is set sets no other. -/
theorem testBit_of_testBit_sub {x i k : Nat} (hi : x.testBit i = true) (h : (x - 2 ^ i).testBit k = true) :
    x.testBit k = true := by
  have hdecomp : x = 2 ^ (i + 1) * (x / 2 ^ (i + 1)) + (2 ^ i + x % 2 ^ i) := by
    have hodd : x / 2 ^ i % 2 = 1 := by simpa [Nat.testBit_eq_decide_div_mod_eq] using hi
    have hdiv : x / 2 ^ (i + 1) = x / 2 ^ i / 2 := by rw [pow_succ, Nat.div_div_eq_div_mul]
    have hx := Nat.div_add_mod x (2 ^ i)
    have hq := Nat.div_add_mod (x / 2 ^ i) 2
    rw [hodd] at hq
    calc x = 2 ^ i * (2 * (x / 2 ^ i / 2) + 1) + x % 2 ^ i := by rw [hq, hx]
      _ = _ := by rw [hdiv, pow_succ]; ring
  have hlow : x % 2 ^ i < 2 ^ i := Nat.mod_lt _ (Nat.two_pow_pos i)
  generalize x / 2 ^ (i + 1) = a at hdecomp
  generalize x % 2 ^ i = b at hdecomp hlow
  subst hdecomp
  have hsub : 2 ^ (i + 1) * a + (2 ^ i + b) - 2 ^ i = 2 ^ (i + 1) * a + b := by omega
  have hpow : 2 ^ (i + 1) = 2 ^ i + 2 ^ i := by ring
  rw [hsub, Nat.testBit_two_pow_mul_add _ (by omega)] at h
  rw [Nat.testBit_two_pow_mul_add _ (by omega)]
  split at h
  · next hk =>
    rw [if_pos hk]
    rcases Nat.lt_or_ge k i with hlt | hge
    · rwa [Nat.testBit_two_pow_add_gt hlt]
    · rw [Nat.testBit_lt_two_pow (Nat.lt_of_lt_of_le hlow (Nat.pow_le_pow_right (by decide) hge))] at h
      exact absurd h (by decide)
  · next hk => rwa [if_neg hk]

/-- Clearing a bit sets no other. -/
theorem State.bit_setBit_false {s : State} {f : Fld} {i k : Nat} (h : (s.setBit f i false).bit f k = true) :
    s.bit f k = true := by
  unfold State.setBit at h
  split at h
  · exact h
  · next hi =>
    rw [State.bit, State.get_set_same, Nat.testBit_mod_two_pow] at h
    exact testBit_of_testBit_sub (by simpa [State.bit] using hi) (Bool.and_eq_true_iff.1 h).2

/-- A command of the management layer leaves the registers alone, or runs to the answer of its meaning. -/
theorem talnum_cases (mb code : Nat) (args : List (Nat × Nat)) (f : State → Ans) (s : State) :
    (talnum mb code args f s).regs = s.regs ∨ talnum mb code args f s = settle mb (f (s.begun mb)) := by
  unfold talnum
  dsimp only
  split_ifs
  · exact .inl rfl
  · exact .inl rfl
  · exact .inl rfl
  · exact .inr rfl
  · exact .inl rfl
  · exact .inl rfl

/-! ## `SEC_RESTRICT` -/

/-- The fields of the list that the mask names are cleared. -/
def clearNamed (mask : Nat) (l : List Fld) (s : State) : State :=
  forEach l (fun f s => if mask.testBit f.lsb then s.set f 0 else s) s

/-- The public keys that the mask names are taken out of use. -/
def dropPks (mask : Nat) (s : State) : State :=
  forEach (List.range 2) (fun k s => if mask.testBit (16 + k) then s.setBit R.SEC_PROT.PK_OK k false else s) s

/-- What `SEC_RESTRICT` makes of `SEC_PROT`. -/
def restricted (mask minSvn : Nat) (s : State) : State :=
  let s := clearNamed mask allowBits s
  let s := if mask.testBit 1 then s.set R.SEC_PROT.SIG_REQ 1 else s
  (dropPks mask s).set R.SEC_PROT.MIN_SVN minSvn

theorem exec_secRestrict_restricted (mb : Fin 16) (mask v : Nat) (s : State) : exec (.secRestrict mb mask v) s =
    .next (talnum mb 0x0906 [(4, mask), (1, v)]
      (checks [(mask.testBit 0 || decide (2 ^ 18 ≤ mask) || decide (15 < v) || decide (v < s.get R.SEC_PROT.MIN_SVN), stBadArg)]
        fun s => .ret [(4, (restricted mask v s).cardWord 0x60)] (restricted mask v s)) s) := rfl

theorem clearNamed_get {mask : Nat} {l : List Fld} {g : Fld} (h : ∀ f ∈ l, f.key = g.key → f = g) (s : State) :
    (clearNamed mask l s).get g = if g ∈ l ∧ mask.testBit g.lsb = true then 0 else s.get g := by
  induction l generalizing s with
  | nil => simp [clearNamed]
  | cons f l ih =>
    have hl := ih (fun f' hf' => h f' (List.mem_cons_of_mem f hf')) (if mask.testBit f.lsb then s.set f 0 else s)
    rw [clearNamed, forEach_cons]
    rw [clearNamed] at hl
    rw [hl]
    have hhead := h f List.mem_cons_self
    by_cases hbit : mask.testBit g.lsb = true
    · by_cases hmem : g ∈ l
      · simp [hbit, hmem]
      · by_cases hf : f = g
        · subst hf
          simp [hbit, hmem, State.get_set_same]
        · have hkey : g.key ≠ f.key := fun he => hf (hhead he.symm)
          have hgf : g ≠ f := fun he => hf he.symm
          simp only [hmem, List.mem_cons, hgf, or_self, false_and, if_false]
          split
          · exact State.get_set_ne s 0 hkey
          · rfl
    · simp only [hbit, Bool.false_eq_true, and_false, if_false]
      split
      · next hb => exact State.get_set_ne s 0 fun he => hbit (hhead he.symm ▸ hb)
      · rfl

theorem clearNamed_get_of_notMem {mask : Nat} {g : Fld} (s : State) (h : ∀ f ∈ allowBits, f.key = g.key → f = g)
    (hg : g ∉ allowBits) : (clearNamed mask allowBits s).get g = s.get g := by
  rw [clearNamed_get h, if_neg fun h => hg h.1]

theorem dropPks_get_ne {mask : Nat} {s : State} {g : Fld} (h : g.key ≠ R.SEC_PROT.PK_OK.key) :
    (dropPks mask s).get g = s.get g := by
  refine forEach_ind (fun t => t.get g = s.get g) _ _ s rfl fun k t ht => ?_
  split
  · exact (State.get_setBit_ne t k false h).trans ht
  · exact ht

theorem dropPks_bit {mask k : Nat} {s : State} (h : (dropPks mask s).bit R.SEC_PROT.PK_OK k = true) :
    s.bit R.SEC_PROT.PK_OK k = true := by
  refine forEach_ind (fun t => t.bit R.SEC_PROT.PK_OK k = true → s.bit R.SEC_PROT.PK_OK k = true) _ _ s id
    (fun i t ht hb => ht ?_) h
  split at hb
  · exact State.bit_setBit_false hb
  · exact hb

/-- `SEC_RESTRICT` changes no field but `SIG_REQ`, the keys and `MIN_SVN` otherwise than by clearing it. -/
theorem restricted_get {mask v : Nat} {g : Fld} (s : State) (h : ∀ f ∈ allowBits, f.key = g.key → f = g)
    (hsig : g.key ≠ R.SEC_PROT.SIG_REQ.key) (hpk : g.key ≠ R.SEC_PROT.PK_OK.key) (hsvn : g.key ≠ R.SEC_PROT.MIN_SVN.key) :
    (restricted mask v s).get g = if g ∈ allowBits ∧ mask.testBit g.lsb = true then 0 else s.get g := by
  rw [restricted, State.get_set_ne _ _ hsvn, dropPks_get_ne hpk, ← clearNamed_get h s]
  split
  · exact State.get_set_ne _ _ hsig
  · rfl

/-- A permission of `SEC_PROT` follows the mask. -/
theorem restricted_allow {mask v : Nat} {f : Fld} (s : State) (hf : f ∈ allowBits) :
    (restricted mask v s).get f = if mask.testBit f.lsb then 0 else s.get f := by
  have hall : ∀ f ∈ allowBits, (∀ f' ∈ allowBits, f'.key = f.key → f' = f) ∧ f.key ≠ R.SEC_PROT.SIG_REQ.key ∧
      f.key ≠ R.SEC_PROT.PK_OK.key ∧ f.key ≠ R.SEC_PROT.MIN_SVN.key := by decide
  obtain ⟨hkeys, hsig, hpk, hsvn⟩ := hall f hf
  rw [restricted_get s hkeys hsig hpk hsvn]
  simp [hf]

theorem restricted_lock (mask v : Nat) (s : State) : (restricted mask v s).get R.SEC_PROT.LOCK = s.get R.SEC_PROT.LOCK := by
  rw [restricted_get s (by decide) (by decide) (by decide) (by decide)]
  exact if_neg fun h => absurd h.1 (by decide)

theorem restricted_svn {mask v : Nat} (s : State) (hv : v ≤ 15) : (restricted mask v s).get R.SEC_PROT.MIN_SVN = v := by
  rw [restricted, State.get_set_same]
  exact Nat.mod_eq_of_lt (Nat.lt_succ_of_le hv)

theorem restricted_sigReq {mask v : Nat} {s : State} (h : s.flag R.SEC_PROT.SIG_REQ = true) :
    (restricted mask v s).flag R.SEC_PROT.SIG_REQ = true := by
  rw [restricted, State.flag, State.get_set_ne _ _ (by decide), dropPks_get_ne (by decide)]
  split
  · rw [State.get_set_same]
    decide
  · rwa [clearNamed_get_of_notMem s (by decide) (by decide)]

theorem restricted_pk {mask v k : Nat} {s : State} (h : (restricted mask v s).bit R.SEC_PROT.PK_OK k = true) :
    s.bit R.SEC_PROT.PK_OK k = true := by
  rw [restricted, State.bit, State.get_set_ne _ _ (by decide), ← State.bit] at h
  have hb := dropPks_bit h
  rw [State.bit] at hb ⊢
  rw [← clearNamed_get_of_notMem (mask := mask) s (by decide) (by decide)]
  split at hb
  · rwa [State.get_set_ne _ _ (by decide)] at hb
  · exact hb

/-- What `SEC_RESTRICT` leaves: the register as it was, or narrowed. -/
theorem secRestrict_cases {mb : Fin 16} {mask v : Nat} {s t : State} (h : exec (.secRestrict mb mask v) s = .next t) :
    (∀ f, t.get f = s.get f) ∨ (v ≤ 15 ∧ s.get R.SEC_PROT.MIN_SVN ≤ v ∧ ∀ f, t.get f = (restricted mask v (s.begun mb)).get f) := by
  rw [exec_secRestrict_restricted] at h
  obtain rfl : _ = t := by simpa using h
  rcases talnum_cases mb 0x0906 [(4, mask), (1, v)] _ s with hregs | hrun
  · exact .inl fun f => by rw [State.get, hregs]; rfl
  · rw [hrun, checks]
    split
    · exact .inl fun f => rfl
    · next hnone =>
      obtain ⟨⟨⟨-, -⟩, hv⟩, hsvn⟩ : ((mask.testBit 0 = false ∧ mask < 2 ^ 18) ∧ v ≤ 15) ∧ s.get R.SEC_PROT.MIN_SVN ≤ v := by
        simpa [List.find?_cons_eq_some] using hnone
      exact .inr ⟨hv, hsvn, fun f => rfl⟩

/-- Settles O51. -/
theorem restrictOnlyNarrows : Obligations.RestrictOnlyNarrows := by
  unfold Obligations.RestrictOnlyNarrows
  intro mb s t mask v hexec
  refine ⟨fun f hf h => ?allow, fun k h => ?pk, fun h => ?sig, ?svn, ?lock, fun hserves h0 hmask hv hsvn => ?named⟩
  case allow =>
    rcases secRestrict_cases hexec with hget | ⟨-, -, hget⟩
    · rwa [State.flag, hget] at h
    · rw [State.flag, hget, restricted_allow _ hf] at h
      split at h
      · exact absurd h (by decide)
      · exact h
  case pk =>
    rcases secRestrict_cases hexec with hget | ⟨-, -, hget⟩
    · rwa [State.bit, hget] at h
    · rw [State.bit, hget] at h
      exact restricted_pk (s := s.begun mb) h
  case sig =>
    rcases secRestrict_cases hexec with hget | ⟨-, -, hget⟩
    · rwa [State.flag, hget]
    · rw [State.flag, hget]
      exact restricted_sigReq (s := s.begun mb) h
  case svn =>
    rcases secRestrict_cases hexec with hget | ⟨hv, hsvn, hget⟩
    · exact (hget _).ge
    · rw [hget, restricted_svn _ hv]
      exact hsvn
  case lock =>
    rcases secRestrict_cases hexec with hget | ⟨-, -, hget⟩
    · exact hget _
    · rw [hget, restricted_lock]
      rfl
  case named =>
    have hrun := exec_checked hserves (exec_secRestrict_restricted mb mask v s)
      (List.forall_mem_singleton.2 (by rw [h0, decide_eq_false (Nat.not_le.2 hmask), decide_eq_false (Nat.not_lt.2 hv),
        decide_eq_false (Nat.not_lt.2 hsvn)]; rfl))
    obtain rfl : _ = t := by simpa [hrun] using hexec
    refine ⟨fun f hf hbit => ?_, restricted_svn (s.begun mb) hv⟩
    have hget := restricted_allow (mask := mask) (v := v) (s.begun mb) hf
    rw [if_pos hbit] at hget
    show (restricted mask v (s.begun mb)).flag f = false
    rw [State.flag, hget]
    rfl

end Sys2Proof.Machine
end

section
/-! PROOFS. An overwrite reload before its tag: its records wait in the configuration controller (R435–R437). -/

namespace Sys2Proof.Machine

/-- No step of a load reaches the planes, the block memories, the fabric, the pins or the routes. -/
structure Unloaded (s t : State) : Prop where
  planes : t.ctx.planes = s.ctx.planes
  bm : t.bm = s.bm
  fab : t.fab = s.fab
  io : t.io = s.io
  rt : t.noc.rt = s.noc.rt

theorem Unloaded.trans {s t u : State} (h : Unloaded s t) (h' : Unloaded t u) : Unloaded s u :=
  ⟨h'.planes.trans h.planes, h'.bm.trans h.bm, h'.fab.trans h.fab, h'.io.trans h.io, h'.rt.trans h.rt⟩

/-- Nor does it change the load in progress. -/
structure LoadKept (s t : State) : Prop extends Unloaded s t where
  load : t.cfg.load = s.cfg.load

namespace LoadKept

variable {s t u : State}

theorem refl : LoadKept s s := ⟨⟨rfl, rfl, rfl, rfl, rfl⟩, rfl⟩

theorem trans (h : LoadKept s t) (h' : LoadKept t u) : LoadKept s u :=
  ⟨h.toUnloaded.trans h'.toUnloaded, h'.load.trans h.load⟩

theorem ite {c : Prop} [Decidable c] (ht : LoadKept s t) (hu : LoadKept s u) : LoadKept s (if c then t else u) := by
  split <;> assumption

theorem applyIf {c : Bool} {f : State → State} (hf : LoadKept s (f s)) : LoadKept s (applyIf c f s) := .ite hf .refl

theorem forEach {α : Type} {f : α → State → State} (l : List α) (s : State) (hf : ∀ a u, LoadKept u (f a u)) :
    LoadKept s (Machine.forEach l f s) :=
  forEach_ind (LoadKept s) f l s .refl fun a u h => h.trans (hf a u)

theorem raise (code : Nat) (args : List (Nat × Nat)) (s : State) : LoadKept s (raise code args s) :=
  ⟨⟨by rw [raise_ctx], raise_bm _ _ _, raise_fab _ _ _, raise_io _ _ _, by rw [raise_noc]⟩, by rw [raise_cfg]⟩

theorem refreshMode (s : State) : LoadKept s (refreshMode s) := by
  refine .ite ⟨⟨?_, commitMode_bm _ _, commitMode_fab _ _, commitMode_io _ _, ?_⟩, ?_⟩ .refl
  · rw [commitMode_ctx]
  · rw [commitMode_noc]
  · rw [commitMode_cfg]

theorem mgt (m : Mgt) (s : State) : LoadKept s { s with mgt := m } := ⟨⟨rfl, rfl, rfl, rfl, rfl⟩, rfl⟩

theorem finishCmd (n st : Nat) (res : List Nat) (late : Bool) (s : State) : LoadKept s (finishCmd n st res late s) := by
  unfold Machine.finishCmd
  split
  · exact .ite (.mgt _ _) .refl
  · split
    · exact .trans (t := { s with mgt := _ }) (.mgt _ _) (.raise _ _ _)
    · exact .refl

theorem refreshReblock (s : State) : LoadKept s (refreshReblock s) :=
  .trans (t := s.setB R.DEV_MODE.COND_REBLOCK _) ⟨⟨rfl, rfl, rfl, rfl, rfl⟩, rfl⟩ (.refreshMode _)

theorem modCtx (r : Nat) (f : CtxR → CtxR) (s : State) : LoadKept s (s.modCtx r f) := ⟨⟨rfl, rfl, rfl, rfl, rfl⟩, rfl⟩

theorem set (f : Fld) (v : Nat) (s : State) : LoadKept s (s.set f v) := ⟨⟨rfl, rfl, rfl, rfl, rfl⟩, rfl⟩

theorem modLane (x : Nat) (f : LaneSt → LaneSt) (s : State) : LoadKept s (s.modLane x f) :=
  ⟨⟨rfl, rfl, rfl, rfl, rfl⟩, rfl⟩

theorem setLast (st : Nat) (s : State) : LoadKept s (setLast st s) := .trans (.set _ _ _) ⟨⟨rfl, rfl, rfl, rfl, rfl⟩, rfl⟩

theorem releaseLanding (l : Load) (s : State) : LoadKept s (releaseLanding l s) :=
  .forEach _ _ fun _ _ => ⟨⟨rfl, rfl, rfl, rfl, rfl⟩, rfl⟩

/-- A load that has taken no plane leaves none behind. -/
theorem cleanLoad {l : Load} (h : l.planes = []) (s : State) : LoadKept s (cleanLoad l s) := by
  simp only [Machine.cleanLoad, h, forEach_nil]
  refine .trans (.trans (.trans (.forEach _ _ fun r u => ?_) (.forEach _ _ fun r u => .ite (.modCtx _ _ _) .refl))
    (.releaseLanding _ _)) (.refreshReblock _)
  split
  · exact .ite .refl (.modCtx _ _ _)
  · exact .refl

end LoadKept

/-- An overwrite reload as R436 describes it: of kind 3, and no plane of the device is taken for it. -/
def State.holdsReload (s : State) : Prop := ∀ l, s.cfg.load = some l → l.kind = 3 ∧ l.planes = []

/-- The step leaves what a load writes as it was, and the reload an overwrite reload. -/
structure ReloadKept (s t : State) : Prop extends Unloaded s t where
  reload : t.holdsReload

namespace ReloadKept

variable {s t u : State}

theorem kept (h : ReloadKept s t) (h' : LoadKept t u) : ReloadKept s u :=
  ⟨h.toUnloaded.trans h'.toUnloaded, fun l hl => h.reload l (h'.load ▸ hl)⟩

theorem modLoad {f : Load → Load} (h : ReloadKept s t) (hf : ∀ l, (f l).kind = l.kind ∧ (f l).planes = l.planes) :
    ReloadKept s (t.modLoad f) := by
  refine ⟨h.toUnloaded.trans ⟨rfl, rfl, rfl, rfl, rfl⟩, fun l hl => ?_⟩
  obtain ⟨l, hl', rfl⟩ := Option.map_eq_some_iff.1 hl
  rw [(hf l).1, (hf l).2]
  exact h.reload l hl'

theorem dropLoad (h : ReloadKept s t) : ReloadKept s (t.modCfg fun c => { c with load := none }) :=
  ⟨h.toUnloaded.trans ⟨rfl, rfl, rfl, rfl, rfl⟩, fun _ hl => absurd hl (by simp [State.modCfg])⟩

/-- An overwrite reload that fails leaves what runs as it was. -/
theorem failLoad {st : Nat} (h : ReloadKept s t) : ReloadKept s (failLoad st t) := by
  unfold Machine.failLoad endLoadWith
  split
  · exact h
  · next l hl =>
    obtain ⟨hkind, hplanes⟩ := h.reload l hl
    have hnot : ∀ c d : Bool, ¬ (c && decide (l.kind < 2) && d) = true := by simp [hkind]
    rw [if_neg (hnot _ _)]
    have hlane := h.kept (.applyIf (c := l.source == 2) (f := fun s => s.modLane l.num fun b => { b with loading := false })
      (.modLane _ _ _))
    refine hlane.dropLoad.kept ?_
    exact .trans (.trans (.trans (.cleanLoad hplanes _) (.setLast _ _)) (.set _ _ _)) (.finishCmd _ _ _ _ _)

/-- Words that arrive wait in the load. -/
theorem takeBody (h : ReloadKept s t) (n : Nat) : ReloadKept s (takeBody n t) := by
  unfold Machine.takeBody
  split
  · exact h
  · next l hl =>
    refine modLoad ?_ fun l => ⟨rfl, rfl⟩
    unfold takeWords
    rw [hl]
    refine ⟨h.toUnloaded.trans ⟨rfl, rfl, rfl, rfl, rfl⟩, fun l' hl' => ?_⟩
    obtain rfl := Option.some.inj hl'
    exact h.reload l hl

theorem nextRecord (h : s.holdsReload) : ReloadKept s (nextRecord s) := by
  have hs : ReloadKept s s := ⟨⟨rfl, rfl, rfl, rfl, rfl⟩, h⟩
  unfold Machine.nextRecord
  split
  · exact iteInduction (fun _ => hs.takeBody 1) fun _ => hs
  · exact hs

/-- The planes of a reload are taken in the configuration controller alone (R437). -/
theorem takePlanes (h : ReloadKept s t) (ks : List Nat) : ReloadKept s (takePlanes ks t) := by
  unfold Machine.takePlanes
  split
  · exact h
  · next l hl =>
    obtain ⟨hkind, hplanes⟩ := h.reload l hl
    simp only [hkind, show ¬ (3 < 2) by decide, if_false, if_true]
    split
    · exact h.failLoad
    · refine kept (t := State.modLoad _ _) (modLoad ?_ fun l => ?_) (.refreshReblock _)
      · exact h.kept (.forEach _ _ fun k u => .modCtx _ _ _)
      · exact ⟨rfl, rfl⟩

/-- A record of a reload is held with the load. -/
theorem holdRecord (h : ReloadKept s t) (x : List Nat) : ReloadKept s (holdRecord x t) := by
  unfold Machine.holdRecord
  split
  · exact h
  · next l hl =>
    obtain ⟨hkind, -⟩ := h.reload l hl
    dsimp only
    rw [if_pos hkind]
    split
    · exact h.modLoad fun l => ⟨rfl, rfl⟩
    · exact h.modLoad fun l => ⟨rfl, rfl⟩

end ReloadKept

/-- The state in which a command ends has the property. -/
def EndsIn (P : State → Prop) (o : Out) : Prop := ∀ t, o = .next t → P t

theorem EndsIn.next {P : State → Prop} {t : State} (h : P t) : EndsIn P (.next t) := by
  rintro _ ⟨⟩
  exact h

theorem EndsIn.ite {P : State → Prop} {c : Prop} [Decidable c] {x y : Out} (hx : EndsIn P x) (hy : EndsIn P y) :
    EndsIn P (if c then x else y) := by split <;> assumption

/-- Every record of a reload waits. -/
theorem execSegmentRecord_reloadKept {s : State} (h : s.holdsReload) : EndsIn (ReloadKept s) (execSegmentRecord s) := by
  have hs : ReloadKept s s := ⟨⟨rfl, rfl, rfl, rfl, rfl⟩, h⟩
  have hnext := ReloadKept.nextRecord h
  have hstop : ReloadKept s ((nextRecord s).modLoad fun l => { l with stopped := true }) := hnext.modLoad fun l => ⟨rfl, rfl⟩
  refine .ite (.next hs) ?_
  dsimp only
  split
  · exact .next hs
  · refine .ite (.ite (.next hstop) (.ite (.next hnext.failLoad) (.next hs))) (.ite (.next hnext) ?_)
    split
    · exact .next hstop
    · refine .ite (.next hstop) ?_
      generalize hn : _ + 1 + _ - _ = n
      have hbody := hnext.takeBody n
      split
      · exact .next hbody
      · exact .ite (.ite (.next hbody.failLoad) (.next hbody)) (.ite (.next hbody)
          (.ite (.next ((hbody.takePlanes _).holdRecord _)) (.next (hbody.takePlanes _))))

/-- The end of a reload waits for the tag as well. -/
theorem execSegmentEnd_reloadKept {s : State} (h : s.holdsReload) : EndsIn (ReloadKept s) (execSegmentEnd s) := by
  have hs : ReloadKept s s := ⟨⟨rfl, rfl, rfl, rfl, rfl⟩, h⟩
  have hnext := ReloadKept.nextRecord h
  refine .ite (.next hs) ?_
  dsimp only
  split
  · exact .next hs
  · refine .ite (.next hs) (.ite (.next hnext.failLoad) (.next ?_))
    refine ReloadKept.kept (t := State.modLoad _ _) (hnext.modLoad fun l => ?_) (.set _ _ _)
    exact ⟨rfl, rfl⟩

/-- Settles O47. -/
theorem recordsWaitForTheTag : Obligations.RecordsWaitForTheTag := by
  unfold Obligations.RecordsWaitForTheTag
  intro s t l hl hkind hplanes hexec
  have h : s.holdsReload := fun l' hl' => by
    obtain rfl := Option.some.inj (hl.symm.trans hl')
    exact ⟨hkind, hplanes⟩
  obtain ⟨⟨hp, hbm, hfab, hio, hrt⟩, -⟩ : ReloadKept s t :=
    hexec.elim (execSegmentRecord_reloadKept h t) (execSegmentEnd_reloadKept h t)
  exact ⟨hp, hbm, hfab, hio, hrt⟩

end Sys2Proof.Machine
end

section
/-! PROOFS. A packet that an element refuses (R411, R420, R421). -/

namespace Sys2Proof.Machine

theorem at'_pushAt_same {α : Type} [DecidableEq α] (m : SMap (List α)) (k : Nat) (x : α) : at' (pushAt m k x) k [] = at' m k [] ++ [x] :=
  at'_putD_same _ _ _ _

/-- A response goes to its endpoint on this device. -/
theorem deliverResp_here {p : Pkt} {s : State} (h : p.dev = s.devId) :
    (deliverResp p s).noc.resp = pushAt s.noc.resp p.ep p := by
  rw [deliverResp, if_pos h]
  rfl

/-- A response to another device goes to the bridge toward it. -/
theorem deliverResp_bridge {p : Pkt} {s : State} {k : Nat} (h : p.dev ≠ s.devId) (hk : s.exitBundle p.dev = some k) :
    (deliverResp p s).noc.rx = pushAt s.noc.rx (0x100 + k) p := by
  rw [deliverResp, if_neg h, hk]
  rfl

/-- A response that no bridge takes is logged. -/
theorem deliverResp_lost {p : Pkt} {s : State} (h : p.dev ≠ s.devId) (hk : s.exitBundle p.dev = none) :
    deliverResp p s = logNoc p 0x0A s.devId s := by
  rw [deliverResp, if_neg h, hk]

/-- The entry of the error log for a packet. -/
def logEntry (p : Pkt) (status errinfo : Nat) (s : State) : NocErr :=
  ⟨s.clk.tick, status, p.srcDev, p.srcEp, p.dev, p.ep, p.off, p.seq, errinfo⟩

/-- An entry joins the error log; a full log drops its oldest and counts it. -/
theorem logNoc_log (p : Pkt) (status errinfo : Nat) (s : State) :
    (logNoc p status errinfo s).noc.log =
      (if 64 ≤ s.noc.log.length then s.noc.log.drop 1 else s.noc.log) ++ [logEntry p status errinfo s] ∧
    (logNoc p status errinfo s).noc.ovf = s.noc.ovf + if 64 ≤ s.noc.log.length then 1 else 0 := by
  rw [logNoc, raise_noc]
  simp only [decide_eq_true_eq]
  exact ⟨rfl, rfl⟩

/-- Settles O43. -/
theorem refusedPacketIsAnsweredOrLogged : Obligations.RefusedPacketIsAnsweredOrLogged := by
  unfold Obligations.RefusedPacketIsAnsweredOrLogged
  intro p status info s
  refine ⟨fun hreq hdev => ?here, fun k hreq hdev hk => ?bridge, fun hreq hdev hk => ?lost, fun hreq => ?posted⟩
  case here =>
    refine ⟨{ pktAnswer p status info [] false with srcDev := s.devId }, ?_, rfl, rfl, rfl, rfl, rfl⟩
    rw [refusePkt, if_pos hreq, deliverResp_here hdev]
    exact at'_pushAt_same _ _ _
  case bridge =>
    refine ⟨{ pktAnswer p status info [] false with srcDev := s.devId }, ?_, rfl, rfl, rfl, rfl⟩
    rw [refusePkt, if_pos hreq, deliverResp_bridge hdev hk]
    exact at'_pushAt_same _ _ _
  case lost =>
    rw [refusePkt, if_pos hreq, deliverResp_lost hdev hk]
    exact ⟨_, _, (logNoc_log _ _ _ _).1, rfl, rfl, rfl⟩
  case posted =>
    rw [refusePkt, if_neg (by rw [hreq]; decide)]
    obtain ⟨hlog, hovf⟩ := logNoc_log p status info s
    refine ⟨_, _, hlog, rfl, rfl, rfl, rfl, rfl, rfl, fun hlen => ?_, fun hlen => ?_⟩
    · rw [hovf, if_neg (Nat.not_le.2 hlen), if_neg (Nat.not_le.2 hlen)]
      exact ⟨rfl, rfl⟩
    · rw [hovf, if_pos hlen, if_pos hlen]
      exact ⟨rfl, rfl⟩

end Sys2Proof.Machine
end

section
/-! PROOFS. The source interface: what it writes into a request, and when it sends (R410, R418, R419). -/

namespace Sys2Proof.Machine

/-! ## What the network changes when a packet enters it -/

/-- What an interface keeps of its requests: those outstanding, those that wait, and its count. -/
structure RequestsKept (s t : State) : Prop where
  out : t.noc.out = s.noc.out
  wait : t.noc.wait = s.noc.wait
  seq : t.noc.seq = s.noc.seq

namespace RequestsKept

variable {s t u : State}

theorem trans (h : RequestsKept s t) (h' : RequestsKept t u) : RequestsKept s u :=
  ⟨h'.out.trans h.out, h'.wait.trans h.wait, h'.seq.trans h.seq⟩

theorem logNoc (p : Pkt) (st info : Nat) (s : State) : RequestsKept s (logNoc p st info s) := by
  unfold Machine.logNoc
  refine ⟨?_, ?_, ?_⟩ <;> rw [raise_noc] <;> rfl

theorem refusePkt (p : Pkt) (st info : Nat) (s : State) : RequestsKept s (refusePkt p st info s) := by
  unfold Machine.refusePkt deliverResp
  split
  · split
    · exact ⟨rfl, rfl, rfl⟩
    · split
      · exact ⟨rfl, rfl, rfl⟩
      · exact .logNoc _ _ _ _
  · exact .logNoc _ _ _ _

/-- A packet takes its route, or is refused. -/
theorem routed (r : Option Nat) (e tgt : Nat) (p : Pkt) (st info : Nat) (s : State) :
    RequestsKept s (match r with | some r => enterNet e tgt r p s | none => Machine.refusePkt p st info s) := by
  cases r with
  | some r => exact ⟨rfl, rfl, rfl⟩
  | none => exact .refusePkt _ _ _ _

theorem routeOut (e : Nat) (p : Pkt) (s : State) : RequestsKept s (routeOut e p s) := by
  unfold Machine.routeOut
  dsimp only
  split
  · split
    · exact .refusePkt _ _ _ _
    · refine forEach_ind (RequestsKept s) _ _ _ (.routed _ _ _ _ _ _ _) fun l t h => h.trans (.routed _ _ _ _ _ _ _)
  · split
    · split
      · exact .routed _ _ _ _ _ _ _
      · exact .refusePkt _ _ _ _
    · split
      · split
        · exact .routed _ _ _ _ _ _ _
        · exact .refusePkt _ _ _ _
      · exact .refusePkt _ _ _ _

end RequestsKept

/-! ## What the interface writes -/

/-- The packet as the interface sends it (R410). -/
def stamped (e : Nat) (p : Pkt) (s : State) : Pkt :=
  { p with cls := min p.cls (s.get (R.NI_CFG.MAXCLASS e)), seq := (at' s.noc.seq e 0 + 1) % 65536, tick := s.clk.tick,
           hold := s.hold, srcDev := s.devId, srcEp := e, dhops := s.get (R.NI_CFG.DHOPS e) }

/-- A clamped class shows in `NI_STAT` alone. -/
theorem clamp_get {e : Nat} {c : Bool} (s : State) {g : Fld} (h : g.key ≠ (R.NI_STAT.CLAMP e).key) :
    (applyIf c (fun s => s.set (R.NI_STAT.CLAMP e) 1) s).get g = s.get g := by
  unfold applyIf
  split
  · exact State.get_set_ne s 1 h
  · rfl

/-- The interface counts the request and clamps its class. -/
def clamped (e : Nat) (p : Pkt) (s : State) : State :=
  (applyIf (decide (s.get (R.NI_CFG.MAXCLASS e) < p.cls)) (fun s => s.set (R.NI_STAT.CLAMP e) 1) s).modNoc fun m =>
    { m with seq := putD m.seq e 0 ((at' s.noc.seq e 0 + 1) % 65536) }

/-- A request is stamped, counted, and leaves unless 64 are outstanding (R418). -/
theorem niSend_request {e : Nat} {p : Pkt} {s : State} (hreq : pktReq p = true) :
    niSend e p s =
      if 64 ≤ (at' s.noc.out e []).length then
        (clamped e p s).modNoc fun m => { m with wait := pushAt m.wait e (stamped e p s) }
      else routeOut e (stamped e p s) (((clamped e p s).modNoc fun m => { m with out := pushAt m.out e (stamped e p s) }).set
        (R.NI_STAT.OUTSTANDING e) ((at' s.noc.out e []).length + 1)) := by
  have htyp : p.typ ≠ 2 := by
    intro h
    rw [pktReq, h] at hreq
    exact absurd hreq (by decide)
  have hget : ∀ g : Fld, g.key ≠ (R.NI_STAT.CLAMP e).key → (applyIf (decide (s.get (R.NI_CFG.MAXCLASS e) < p.cls))
      (fun s => s.set (R.NI_STAT.CLAMP e) 1) s).get g = s.get g := fun g => clamp_get s
  have hdev := hget R.DEV_ID.ID (by simp only [Fld.key, R.DEV_ID.ID, R.NI_STAT.CLAMP]; omega)
  have hhold := hget R.MCLK_STAT.HOLD (by simp only [Fld.key, R.MCLK_STAT.HOLD, R.NI_STAT.CLAMP]; omega)
  have hdhops := hget (R.NI_CFG.DHOPS e) (by simp only [Fld.key, R.NI_CFG.DHOPS, R.NI_STAT.CLAMP]; omega)
  have hnoc : ∀ c, (applyIf c (fun s => s.set (R.NI_STAT.CLAMP e) 1) s).noc = s.noc := fun c => by cases c <;> rfl
  have hclk : ∀ c, (applyIf c (fun s => s.set (R.NI_STAT.CLAMP e) 1) s).clk = s.clk := fun c => by cases c <;> rfl
  have hreq' : ∀ q : Pkt, q.typ = p.typ → pktReq q = true := fun q hq => by rw [pktReq, hq]; exact hreq
  unfold niSend
  simp only [State.devId, State.hold, State.flag, hdev, hhold, hdhops, hclk, htyp, false_and, and_false, if_false]
  refine (if_pos (hreq' _ rfl)).trans ?_
  simp only [State.modNoc_noc, hnoc]
  rfl

theorem clamped_noc (e : Nat) (p : Pkt) (s : State) : (clamped e p s).noc =
    { s.noc with seq := putD s.noc.seq e 0 ((at' s.noc.seq e 0 + 1) % 65536) } := by
  unfold clamped applyIf
  split <;> rfl

/-- Settles O44. -/
theorem interfaceStampsItsRequests : Obligations.InterfaceStampsItsRequests := by
  unfold Obligations.InterfaceStampsItsRequests
  intro s e p
  refine ⟨fun hreq hshed hbusy => ?sends, fun hshed => ?waits, fun rest hrest hshed _ => ?slot⟩
  case sends =>
    have hsend : niInject e p s = niSend e p s := by
      refine if_neg ?_
      simp only [hshed, Bool.false_or, Bool.and_eq_true, bne_iff_ne, beq_iff_eq]
      exact fun ⟨h1, h2⟩ => hbusy.elim h1 (· h2)
    have hnoc := clamped_noc e p s
    refine ⟨stamped e p s, rfl, rfl, rfl, rfl, rfl, rfl, rfl, rfl, rfl, rfl, rfl, rfl, rfl, rfl, fun hlen => ?_,
      fun hlen => ?_, ?_⟩
    · rw [hsend, niSend_request hreq, if_neg (Nat.not_le.2 hlen), (RequestsKept.routeOut e _ _).out]
      exact (at'_pushAt_same _ _ _).trans (by rw [hnoc])
    · rw [hsend, niSend_request hreq, if_pos hlen]
      exact ⟨congrArg (fun n => at' n.out e []) hnoc, (at'_pushAt_same _ _ _).trans (by rw [hnoc])⟩
    · have hseq : at' (clamped e p s).noc.seq e 0 = (stamped e p s).seq := by
        rw [hnoc]
        exact at'_putD_same _ _ _ _
      rw [hsend, niSend_request hreq]
      split
      · exact hseq
      · rw [(RequestsKept.routeOut e _ _).seq]
        exact hseq
  case waits =>
    have hpush : niInject e p s = s.modNoc fun n => { n with shed := pushAt n.shed e p } :=
      if_pos (by rw [hshed]; rfl)
    rw [hpush]
    exact ⟨at'_pushAt_same _ _ _, rfl, rfl⟩
  case slot =>
    intro v
    have hslot : shedSlot e s = if 16 * pktFlits p ≤ v then
        niSend e p (s.modNoc fun n => { n with shed := listAt n.shed e rest, saved := putD n.saved e 0 0 })
        else s.modNoc fun n => { n with saved := putD n.saved e 0 v } := by
      rw [shedSlot, hrest]
      simp only [hshed, if_true]
      rfl
    refine ⟨fun hv => ?_, fun hv => ?_⟩
    · rw [hslot, if_neg (Nat.not_le.2 hv)]
      exact ⟨at'_putD_same _ _ _ _, rfl⟩
    · rw [hslot, if_pos hv]

end Sys2Proof.Machine
end

section
/-! PROOFS. A stream position of a bundle: what is sent there, and what it costs (R380, R381). -/

namespace Sys2Proof.Machine

@[simp] theorem State.bdl_modBdl_same (s : State) (f : Nat) (g : Bundle → Bundle) : (s.modBdl f g).bdl f = g (s.bdl f) :=
  at'_putD_same _ _ _ _

theorem State.bdl_modBdl_ne (s : State) {f k : Nat} (g : Bundle → Bundle) (h : k ≠ f) : (s.modBdl f g).bdl k = s.bdl k :=
  at'_putD_ne _ _ _ _ h

/-- Blocks that bundle `f` sends change its position alone. -/
structure StreamSent (f : Nat) (s t : State) : Prop where
  own : ∃ n, t.bdl f = { s.bdl f with txPos := n }
  others : ∀ k, k ≠ f → t.bdl k = s.bdl k
  regs : t.regs = s.regs

theorem sendBlock_bdl (l hdr payload k : Nat) (s : State) : (sendBlock l hdr payload s).bdl k = s.bdl k := by
  unfold sendBlock
  split <;> rfl

theorem sendStream_sent (f : Nat) (blocks : List (Nat × Nat)) (s : State) : StreamSent f s (sendStream f blocks s) := by
  refine forEach_ind (StreamSent f s) _ blocks s ⟨⟨(s.bdl f).txPos, rfl⟩, fun _ _ => rfl, rfl⟩ fun b t h => ?_
  obtain ⟨⟨n, hn⟩, hothers, hregs⟩ := h
  refine ⟨⟨n + 1, ?_⟩, fun k hk => ?_, ?_⟩
  · rw [State.bdl_modBdl_same, sendBlock_bdl, hn]
  · rw [State.bdl_modBdl_ne _ _ hk, sendBlock_bdl, hothers k hk]
  · rw [State.modBdl_regs, sendBlock_regs, hregs]

/-- The rules of R380 and R381 from `s` to `t` for the sender of bundle `f`. -/
structure SenderRules (f : Nat) (s t : State) : Prop where
  own : ((t.bdl f).replay = (s.bdl f).replay ∨
    ∃ p, (t.bdl f).replay = (s.bdl f).replay ++ [((s.bdl f).txSeq, p)] ∧ (s.bdl f).replay.length < 64 ∧
      pktFlits p ≤ (s.bdl f).credits.getD p.vc 0 ∧ (t.bdl f).txSeq = ((s.bdl f).txSeq + 1) % 4096)
  others : ∀ k, k ≠ f → t.bdl k = s.bdl k
  regs : t.regs = s.regs

namespace SenderRules

variable {f : Nat} {s t : State}

theorem refl : SenderRules f s s := ⟨.inl rfl, fun _ _ => rfl, rfl⟩

theorem sendStream (h : SenderRules f s t) (blocks : List (Nat × Nat)) : SenderRules f s (sendStream f blocks t) := by
  obtain ⟨⟨n, hn⟩, hothers, hregs⟩ := sendStream_sent f blocks t
  refine ⟨?_, fun k hk => (hothers k hk).trans (h.others k hk), hregs.trans h.regs⟩
  rw [hn]
  exact h.own

/-- Blocks that are no new packet leave the replay buffer alone. -/
theorem modBdl {g : Bundle → Bundle} (hg : ∀ b, (g b).replay = b.replay) : SenderRules f s (s.modBdl f g) := by
  refine ⟨.inl ?_, fun k hk => State.bdl_modBdl_ne s g hk, rfl⟩
  rw [State.bdl_modBdl_same, hg]

/-- The replay buffer never holds more than 64 packets. -/
theorem replay_le (h : SenderRules f s t) (hs : (s.bdl f).replay.length ≤ 64) : (t.bdl f).replay.length ≤ 64 := by
  rcases h.own with heq | ⟨p, heq, hlt, -, -⟩
  · rw [heq]
    exact hs
  · rw [heq, List.length_append]
    exact hlt

end SenderRules

/-- A new packet has its place in the replay buffer and its credit (R380, R381). -/
theorem nextPacket_new {s : State} {f q : Nat} {p : Pkt} (h : s.nextPacket f = some (false, q, p)) :
    q = (s.bdl f).txSeq ∧ (s.bdl f).replay.length < 64 ∧ pktFlits p ≤ (s.bdl f).credits.getD p.vc 0 := by
  unfold State.nextPacket at h
  dsimp only at h
  split at h
  · exact absurd h (by simp)
  · split at h
    · obtain ⟨e, -, he⟩ := Option.map_eq_some_iff.1 h
      exact absurd (congrArg Prod.fst he) (by simp)
    · split at h
      · exact absurd h (by simp)
      · split at h
        · next hfit =>
          simp only [Option.some.injEq, Prod.mk.injEq, true_and] at h
          obtain ⟨rfl, rfl⟩ := h
          exact ⟨rfl, hfit⟩
        · exact absurd h (by simp)

/-- Every stream position keeps the rules. -/
theorem execStreamPositionTx_rules (l : Fin 96) (s : State) : EndsIn (SenderRules (s.bundleOf l) s) (execStreamPositionTx l s) := by
  unfold execStreamPositionTx
  dsimp only
  generalize s.bundleOf l = f
  refine .ite (.next .refl) ?_
  split
  · exact .next (.sendStream (.modBdl fun _ => by rfl) _)
  · refine .ite (.next (.sendStream (.modBdl fun _ => by rfl) _)) ?_
    split
    · exact .next (.sendStream (.modBdl fun _ => by rfl) _)
    · split
      · exact .next (.sendStream (.modBdl fun _ => by rfl) _)
      · split
        · exact .next (.sendStream (.modBdl fun _ => by rfl) _)
        · next q p hnext =>
          obtain ⟨rfl, hroom, hcredit⟩ := nextPacket_new hnext
          refine .next (.sendStream ?_ _)
          refine SenderRules.mk (.inr ⟨p, ?_, hroom, hcredit, ?_⟩) (fun k hk => ?_) rfl
          · rw [State.bdl_modBdl_same]
            rfl
          · rw [State.bdl_modBdl_same]
          · rw [State.bdl_modBdl_ne _ _ hk]
            rfl
        · exact .ite (.next (.sendStream (.modBdl fun _ => by rfl) _)) (.next (.sendStream (.modBdl fun _ => by rfl) _))

/-- Settles O39. -/
theorem senderKeepsReplayAndCredit : Obligations.SenderKeepsReplayAndCredit := by
  unfold Obligations.SenderKeepsReplayAndCredit
  intro s t l hlen hexec
  have h := execStreamPositionTx_rules l s t hexec
  exact ⟨h.replay_le hlen, h.own, h.others, h.regs⟩

end Sys2Proof.Machine
end

section
/-! PROOFS. What a scrub leaves of a unit (R320, R321). -/

namespace Sys2Proof.Machine

/-- Data that replace written data leave the same units written. -/
theorem has_put_of_has {α : Type} {m : SMap α} {k : Nat} (v : α) (h : has m k = true) (j : Nat) :
    has (put m k v) j = has m j := by
  by_cases hj : j = k
  · subst hj
    rw [h, has, lookup_put_same]
    rfl
  · rw [has, has, lookup_put_ne _ _ hj]

theorem has_foldl_put_of_has {α β : Type} (l : List β) (key : β → Nat) (v : β → α) {m : SMap α}
    (h : ∀ i ∈ l, has m (key i) = true) (j : Nat) : has (l.foldl (fun m i => put m (key i) (v i)) m) j = has m j := by
  induction l generalizing m with
  | nil => rfl
  | cons i l ih =>
    have hi := h i List.mem_cons_self
    rw [List.foldl_cons, ih fun i' hi' => ?_, has_put_of_has _ hi]
    rw [has_put_of_has _ hi]
    exact h i' (List.mem_cons_of_mem i hi')

/-- Written rows and pages stay written, and no other becomes written. -/
structure UnitsKept (s t : State) : Prop where
  cache : ∀ k, has t.cache.rows k = has s.cache.rows k
  bm : ∀ k, has t.bm.rows k = has s.bm.rows k
  bulk : ∀ k, has t.bulk.pages k = has s.bulk.pages k

theorem UnitsKept.trans {s t u : State} (h : UnitsKept s t) (h' : UnitsKept t u) : UnitsKept s u :=
  ⟨fun k => (h'.cache k).trans (h.cache k), fun k => (h'.bm k).trans (h.bm k), fun k => (h'.bulk k).trans (h.bulk k)⟩

/-- The units are as they were. -/
structure UnitsSame (s t : State) : Prop where
  cache : t.cache.rows = s.cache.rows
  bm : t.bm.rows = s.bm.rows
  bulk : t.bulk.pages = s.bulk.pages

theorem UnitsSame.kept {s t : State} (h : UnitsSame s t) : UnitsKept s t :=
  ⟨fun _ => by rw [h.cache], fun _ => by rw [h.bm], fun _ => by rw [h.bulk]⟩

theorem readRow_written {rows inj : SMap Nat} {n code key c : Nat} (h : (readRow rows inj n code key c).cor = true) :
    has rows key = true := by
  unfold has
  cases hl : lookup rows key with
  | none => simp [readRow, hl] at h
  | some v => rfl

theorem State.readPage_written {s : State} {k : Nat} (h : (s.readPage k).cor ≠ 0) : has s.bulk.pages k = true := by
  unfold has
  cases hl : lookup s.bulk.pages k with
  | none => simp [State.readPage, hl] at h
  | some v => rfl

theorem State.readCPage_valid {s : State} {b p : Nat} (h : (s.readCPage b p).valid = true) :
    has s.cache.rows (rowKey b (32 * p)) = true := by
  by_contra hno
  have hno : has s.cache.rows (rowKey b (32 * p)) = false := by simpa using hno
  simp [State.readCPage, hno] at h

/-! ## The three write-backs -/

theorem writeCPage_kept {b p : Nat} {rows : List Nat} {s : State}
    (h : ∀ i, i < 32 → has s.cache.rows (rowKey b (32 * p + i)) = true) : UnitsKept s (writeCPage b p rows s) := by
  have hrows : (writeCPage b p rows s).cache.rows = (List.range 32).foldl (fun m i =>
      put m (rowKey b (32 * p + i)) (rows.getD i 0 % 2 ^ 1024)) s.cache.rows := by
    simp only [writeCPage, State.modBank', State.modCache_cache]
  refine ⟨fun j => ?_, fun _ => rfl, fun _ => rfl⟩
  rw [hrows]
  exact has_foldl_put_of_has (List.range 32) (fun i => rowKey b (32 * p + i)) _ (fun i hi => h i (List.mem_range.1 hi)) j

theorem writeCRow_kept {b row mask v : Nat} {s : State} (hcode : s.bankCode b ≠ 3)
    (h : has s.cache.rows (rowKey b row) = true) : UnitsKept s (writeCRow b row mask v s).2 := by
  unfold writeCRow
  rw [if_neg hcode]
  exact ⟨has_put_of_has _ h, fun _ => rfl, fun _ => rfl⟩

theorem bmWrite_kept {m row mask v : Nat} {s : State} (h : has s.bm.rows (1024 * m + row) = true) :
    UnitsKept s (bmWrite m row mask v s) := by
  unfold bmWrite
  split
  · exact ⟨fun _ => rfl, fun _ => rfl, fun _ => rfl⟩
  · exact ⟨fun _ => rfl, has_put_of_has _ h, fun _ => rfl⟩

theorem writePage_kept {k d : Nat} {s : State} (h : has s.bulk.pages k = true) : UnitsKept s (writePage k d s) :=
  ⟨fun _ => rfl, fun _ => rfl, has_put_of_has _ h⟩

/-- A unit that the scrubber corrects is written back, and any other left alone. -/
theorem unitsKept_ite {fix : Bool} {s t u : State} (hsame : UnitsSame s t) (hkept : fix = true → UnitsKept s u) :
    UnitsKept s (if fix then u else t) ∧ (fix = false → UnitsSame s (if fix then u else t)) := by
  cases fix with
  | false => exact ⟨hsame.kept, fun _ => hsame⟩
  | true => exact ⟨hkept rfl, fun h => absurd h (by decide)⟩

/-- What one unit of a scrub leaves. -/
theorem scrubOne_kept {s : State} {target unit : Nat} (hpages : ∀ b p i, s.bankCode b = 3 → i < 32 →
      has s.cache.rows (rowKey b (32 * p + i)) = has s.cache.rows (rowKey b (32 * p))) :
    UnitsKept s (scrubOne target unit s).2 ∧
      ((scrubOne target unit s).1.corrected = false → UnitsSame s (scrubOne target unit s).2) := by
  have hs : UnitsSame s s := ⟨rfl, rfl, rfl⟩
  have hfree : ∀ n, UnitsSame s { s with free := n } := fun n => ⟨rfl, rfl, rfl⟩
  unfold scrubOne
  dsimp only
  split
  · split
    · exact ⟨hs.kept, fun _ => hs⟩
    · split
      · next hcode =>
        refine unitsKept_ite (hfree _) fun hfix => ?_
        simp only [Bool.and_eq_true] at hfix
        obtain ⟨⟨hvalid, -⟩, -⟩ := hfix
        exact (hfree _).kept.trans (writeCPage_kept fun i hi => (hpages _ _ i hcode hi).trans (State.readCPage_valid hvalid))
      · next hcode =>
        refine unitsKept_ite (hfree _) fun hfix => ?_
        obtain ⟨hcor, -⟩ := Bool.and_eq_true_iff.1 hfix
        rw [State.readCRow, if_neg hcode] at hcor
        exact (hfree _).kept.trans (writeCRow_kept hcode (readRow_written hcor))
  · split
    · split
      · exact ⟨hs.kept, fun _ => hs⟩
      · refine unitsKept_ite (hfree _) fun hfix => ?_
        obtain ⟨hcor, -⟩ := Bool.and_eq_true_iff.1 hfix
        exact (hfree _).kept.trans (bmWrite_kept (readRow_written hcor))
    · refine unitsKept_ite (hfree _) fun hfix => ?_
      obtain ⟨hcor, -⟩ := Bool.and_eq_true_iff.1 hfix
      have hwritten := State.readPage_written (bne_iff_ne.1 hcor)
      exact (hfree _).kept.trans (writePage_kept hwritten)

/-- Settles O30. -/
theorem scrubKeepsContents : Obligations.ScrubKeepsContents := by
  unfold Obligations.ScrubKeepsContents
  intro s target unit hpages k
  obtain ⟨hkept, hsame⟩ := scrubOne_kept (target := target) (unit := unit) hpages
  refine ⟨hkept.cache k, hkept.bm k, hkept.bulk k, fun hcor => ?_⟩
  obtain ⟨hcache, hbm, hbulk⟩ := hsame hcor
  rw [hcache, hbm, hbulk]
  exact ⟨rfl, rfl, rfl⟩

end Sys2Proof.Machine
end

section
/-! PROOFS. Packets touch no store, and what page writes store (R307–R312). -/

namespace Sys2Proof.Machine

/-! ## What a packet that is answered changes -/

/-- Only registers, the management state and the network differ, and of the registers only the mailboxes' and those that the
interfaces write. -/
structure NocOnly (s t : State) : Prop where
  same : t = { s with regs := t.regs, mgt := t.mgt, noc := t.noc }
  get : ∀ f : Fld, f.Plain → f.key < 0x901000 * 64 → t.get f = s.get f

namespace NocOnly

variable {s t u : State}

theorem refl : NocOnly s s := ⟨rfl, fun _ _ _ => rfl⟩

theorem trans (h : NocOnly s t) (h' : NocOnly t u) : NocOnly s u :=
  ⟨by rw [h'.same, h.same], fun f hf hk => (h'.get f hf hk).trans (h.get f hf hk)⟩

theorem ite {c : Prop} [Decidable c] (ht : NocOnly s t) (hu : NocOnly s u) : NocOnly s (if c then t else u) := by
  split <;> assumption

theorem modNoc (f : Noc → Noc) (s : State) : NocOnly s (s.modNoc f) := ⟨rfl, fun _ _ _ => rfl⟩

theorem set {f : Fld} (v : Nat) (s : State) (h : 0x901000 * 64 ≤ f.key) : NocOnly s (s.set f v) :=
  ⟨rfl, fun g _ hg => State.get_set_ne s v (by omega)⟩

theorem raise (code : Nat) (args : List (Nat × Nat)) (s : State) : NocOnly s (raise code args s) := by
  obtain ⟨r, m, h⟩ := raise_events code args s
  exact ⟨by rw [h], fun f hf _ => raise_get code args s f hf⟩

theorem forEach {α : Type} {f : α → State → State} (l : List α) (s : State) (hf : ∀ a u, NocOnly u (f a u)) :
    NocOnly s (Machine.forEach l f s) :=
  forEach_ind (NocOnly s) f l s .refl fun a u h => h.trans (hf a u)

theorem logNoc (p : Pkt) (st info : Nat) (s : State) : NocOnly s (logNoc p st info s) := (modNoc _ _).trans (.raise _ _ _)

theorem refusePkt (p : Pkt) (st info : Nat) (s : State) : NocOnly s (refusePkt p st info s) := by
  unfold Machine.refusePkt deliverResp
  split
  · split
    · exact .modNoc _ _
    · split
      · exact .modNoc _ _
      · exact .logNoc _ _ _ _
  · exact .logNoc _ _ _ _

/-- A packet takes its route, or is refused. -/
theorem routed (r : Option Nat) (e tgt : Nat) (p : Pkt) (st info : Nat) (s : State) :
    NocOnly s (match r with | some r => enterNet e tgt r p s | none => Machine.refusePkt p st info s) := by
  cases r with
  | some r => exact .modNoc _ _
  | none => exact .refusePkt _ _ _ _

theorem routeOut (e : Nat) (p : Pkt) (s : State) : NocOnly s (routeOut e p s) := by
  unfold Machine.routeOut
  dsimp only
  split
  · split
    · exact .refusePkt _ _ _ _
    · refine forEach_ind (NocOnly s) _ _ _ (.routed _ _ _ _ _ _ _) fun l t h => h.trans (.routed _ _ _ _ _ _ _)
  · split
    · split
      · exact .routed _ _ _ _ _ _ _
      · exact .refusePkt _ _ _ _
    · split
      · split
        · exact .routed _ _ _ _ _ _ _
        · exact .refusePkt _ _ _ _
      · exact .refusePkt _ _ _ _

theorem applyIf {c : Bool} {f : State → State} (h : NocOnly s (f s)) : NocOnly s (applyIf c f s) := .ite h .refl

theorem niSend (e : Nat) (p : Pkt) (s : State) : NocOnly s (niSend e p s) := by
  unfold Machine.niSend
  dsimp only
  have hclamp := NocOnly.applyIf (c := decide (s.get (R.NI_CFG.MAXCLASS e) < p.cls))
    (f := fun s => s.set (R.NI_STAT.CLAMP e) 1)
    (.set 1 s (by simp only [Fld.key, R.NI_STAT.CLAMP]; omega))
  refine .trans (hclamp.trans (.modNoc _ _)) (.ite (.ite (.modNoc _ _) ?_) (.routeOut _ _ _))
  exact .trans (.trans (.modNoc _ _) (.set _ _ (by simp only [Fld.key, R.NI_STAT.OUTSTANDING]; omega))) (.routeOut _ _ _)

theorem niInject (e : Nat) (p : Pkt) (s : State) : NocOnly s (niInject e p s) := .ite (.modNoc _ _) (.niSend _ _ _)

theorem answerPkt (p : Pkt) (st info : Nat) (data : List Nat) (unwr : Bool) (s : State) :
    NocOnly s (answerPkt p st info data unwr s) :=
  .ite (.niInject _ _ _) (.ite .refl (.logNoc _ _ _ _))

theorem answerBulk (q : BulkSeq) (ok : Bool) (s : State) : NocOnly s (answerBulk q ok s) :=
  .forEach _ _ fun _ _ => .ite (.answerPkt _ _ _ _ _ _) (.answerPkt _ _ _ _ _ _)

theorem popRx (e : Nat) (s : State) : NocOnly s (popRx e s) := .modNoc _ _

theorem bulk (h : NocOnly s t) : t.bulk = s.bulk := by rw [h.same]

end NocOnly

/-! ## Bytes of a page -/

theorem ofLeBytes_lt {l : List Nat} : ofLeBytes l < 2 ^ (8 * l.length) := by
  induction l with
  | nil => simp [ofLeBytes]
  | cons b bs ih =>
    have hpow : 2 ^ (8 * (b :: bs).length) = 256 * 2 ^ (8 * bs.length) := by
      rw [List.length_cons, Nat.mul_succ, pow_add]
      omega
    rw [ofLeBytes, hpow]
    have hb : b % 256 < 256 := Nat.mod_lt _ (by decide)
    omega

/-- Byte `k` of bytes that are packed. -/
theorem bitsOf_ofLeBytes {l : List Nat} (h : ∀ x ∈ l, x < 256) (k : Nat) : bitsOf (ofLeBytes l) (8 * k) 8 = l.getD k 0 := by
  induction l generalizing k with
  | nil => simp [ofLeBytes, bitsOf]
  | cons b bs ih =>
    have hb : b % 256 = b := Nat.mod_eq_of_lt (h b List.mem_cons_self)
    cases k with
    | zero =>
      rw [ofLeBytes, bitsOf, hb]
      have := h b List.mem_cons_self
      simp
      omega
    | succ k =>
      rw [List.getD_cons_succ, ← ih (fun x hx => h x (List.mem_cons_of_mem b hx)), bitsOf, bitsOf, ofLeBytes, Nat.mul_succ,
        Nat.add_comm (8 * k), pow_add, ← Nat.div_div_eq_div_mul]
      congr 2
      omega

/-- Bits of a page after bytes have been merged into it. -/
theorem testBit_mergeBytes (v off : Nat) (bytes : List Nat) (n : Nat) : (mergeBytes v off bytes).testBit n =
    if 8 * off ≤ n ∧ n < 8 * (off + bytes.length) then (ofLeBytes bytes).testBit (n - 8 * off) else v.testBit n := by
  have hlow : v % 2 ^ (8 * off) < 2 ^ (8 * off) := Nat.mod_lt _ (Nat.two_pow_pos _)
  have hmerge : mergeBytes v off bytes = 2 ^ (8 * off) * (2 ^ (8 * bytes.length) * (v / 2 ^ (8 * (off + bytes.length))) +
      ofLeBytes bytes) + v % 2 ^ (8 * off) := by
    rw [mergeBytes, Nat.mul_add 8, pow_add]
    ring
  rw [hmerge, Nat.testBit_two_pow_mul_add _ hlow]
  by_cases h1 : n < 8 * off
  · rw [if_pos h1, if_neg (by omega), Nat.testBit_mod_two_pow]
    simp [h1]
  · rw [if_neg h1, Nat.testBit_two_pow_mul_add _ ofLeBytes_lt]
    by_cases h2 : n < 8 * (off + bytes.length)
    · rw [if_pos (by omega), if_pos (by omega)]
    · rw [if_neg (by omega), if_neg (by omega), Nat.testBit_div_two_pow]
      congr 1
      omega

theorem testBit_bitsOf (v lo w j : Nat) : (bitsOf v lo w).testBit j = (decide (j < w) && v.testBit (lo + j)) := by
  rw [bitsOf, Nat.testBit_mod_two_pow, Nat.testBit_div_two_pow, Nat.add_comm]

/-- A byte of the page is the new one where it was named, and as before elsewhere. -/
theorem bitsOf_mergeBytes {v off : Nat} {bytes : List Nat} (h : ∀ x ∈ bytes, x < 256) (i : Nat) :
    bitsOf (mergeBytes v off bytes) (8 * i) 8 =
      if off ≤ i ∧ i < off + bytes.length then bytes.getD (i - off) 0 else bitsOf v (8 * i) 8 := by
  have hbits : ∀ j, (bitsOf (mergeBytes v off bytes) (8 * i) 8).testBit j = (if off ≤ i ∧ i < off + bytes.length then
      bitsOf (ofLeBytes bytes) (8 * (i - off)) 8 else bitsOf v (8 * i) 8).testBit j := fun j => by
    rw [testBit_bitsOf, testBit_mergeBytes]
    by_cases hj : j < 8
    · by_cases hi : off ≤ i ∧ i < off + bytes.length
      · rw [if_pos hi, if_pos (by omega), testBit_bitsOf]
        congr 2
        omega
      · rw [if_neg hi, if_neg (by omega), testBit_bitsOf]
    · rw [decide_eq_false hj, Bool.false_and]
      split <;> rw [testBit_bitsOf, decide_eq_false hj, Bool.false_and]
  rw [Nat.eq_of_testBit_eq hbits, bitsOf_ofLeBytes h]

/-! ## Pages -/

/-- A page that has been written reads as written, and no other page has changed. -/
theorem writePage_page {k d : Nat} {s t : State} (h : t.bulk = (writePage k d s).bulk) :
    t.readPage k = ⟨d % 2 ^ 16384, true, 0, false, false⟩ ∧
    ∀ j, j ≠ k → lookup t.bulk.pages j = lookup s.bulk.pages j ∧ lookup t.bulk.inj j = lookup s.bulk.inj j := by
  have hpages : t.bulk.pages = put s.bulk.pages k (d % 2 ^ 16384) := congrArg Bulk.pages h
  have hinj : t.bulk.inj = del s.bulk.inj k := congrArg Bulk.inj h
  constructor
  · rw [State.readPage, hpages, hinj, lookup_put_same, lookup_del_same]
  · intro j hj
    rw [hpages, hinj]
    exact ⟨lookup_put_ne _ _ hj, lookup_del_ne _ hj⟩

theorem countPage_bulk (k : Nat) (rd : PageRd) (s : State) : (countPage k rd s).bulk = s.bulk := by
  obtain ⟨data, valid, cor, unc, misdir⟩ := rd
  unfold countPage applyIf
  dsimp only
  split <;> split <;> split <;> rfl

/-- A page that can be read is written with its bytes merged; any other is left alone (R311). -/
theorem partialWrite_pages (k off : Nat) (bytes : List Nat) (s : State) :
    (partialWrite k off bytes s).1 = !(s.readPage k).unc ∧
    ((s.readPage k).unc = true → (partialWrite k off bytes s).2.bulk = s.bulk) ∧
    ((s.readPage k).unc = false →
      ((partialWrite k off bytes s).2.readPage k).data = mergeBytes (s.readPage k).data off bytes % 2 ^ 16384) ∧
    ∀ j, j ≠ k → lookup (partialWrite k off bytes s).2.bulk.pages j = lookup s.bulk.pages j := by
  have hbulk := countPage_bulk k (s.readPage k) s
  unfold partialWrite
  dsimp only
  cases (s.readPage k).unc with
  | true => exact ⟨rfl, fun _ => hbulk, fun h => absurd h (by decide), fun j _ => congrArg (fun b => lookup b.pages j) hbulk⟩
  | false =>
    obtain ⟨hread, hothers⟩ := writePage_page (s := countPage k (s.readPage k) s) (d := mergeBytes (s.readPage k).data off bytes) rfl
    refine ⟨rfl, fun h => absurd h (by decide), fun _ => congrArg PageRd.data hread, fun j hj => ?_⟩
    rw [← hbulk]
    exact (hothers j hj).1

/-! ## The last of four writes that cover a page -/

/-- The last write of a full-page sequence stores the page and ends the sequence (R309). -/
theorem bulkWrite_last {g : Nat} {p : Pkt} {q : BulkSeq} {s : State} (hq : lookup s.bulk.seqs g = some q)
    (hdev : q.srcDev = p.srcDev) (hep : q.srcEp = p.srcEp) (hlen : q.bytes.length = 1536) (hdata : p.data.length = 512) :
    bulkWrite g 1536 p.srcDev p.srcEp p.data s = (.done, answerBulk q true
      (writePage g (ofLeBytes (q.bytes ++ p.data)) (s.modBulk fun b => { b with seqs := del b.seqs g }))) := by
  unfold bulkWrite
  rw [hq]
  dsimp only
  rw [if_pos ⟨hdev, hep, hlen.symm⟩, if_pos (by rw [List.length_append, hlen, hdata])]

theorem bytesAt_all (l : List Nat) : bytesAt l 0 l.length = l := by
  refine List.ext_getElem (by simp [bytesAt]) fun i h1 h2 => ?_
  simp [bytesAt, h2]

/-- A request that ends is answered, unless its write waits; no store changes. -/
theorem endBulk_false (k e : Nat) (p : Pkt) (s : State) : (endBulk k e p false s).bulk = s.bulk := by
  unfold endBulk
  dsimp only
  exact (NocOnly.answerPkt _ _ _ _ _ _).bulk.trans (NocOnly.popRx e s).bulk

/-- A write whose part at a page ends it there, outside Cache mode, stores what `bulkWrite` stores. -/
theorem servePage_write {e g o n : Nat} {p : Pkt} {s u : State} {bytes : List Nat} (hgroup : s.groupOf g = none)
    (ho : bulkAddr e p % 2048 = o) (hn : min (2048 - o) (p.len - p.reqSeq) = n) (hlen : p.len ≠ 0) (htyp : p.typ ≠ 0)
    (hend : p.len ≤ p.reqSeq + n) (hbytes : bytesAt p.data p.reqSeq n = bytes)
    (hw : bulkWrite g o p.srcDev p.srcEp bytes s = (.done, u)) : (servePage e g p s).bulk = u.bulk := by
  unfold servePage
  dsimp only
  rw [if_neg hlen, if_neg htyp, hgroup, ho]
  dsimp only
  rw [hn, hbytes, hw, if_pos hend]
  exact endBulk_false _ _ _ _

theorem servePage_last {e g : Nat} {p : Pkt} {q : BulkSeq} {s : State} (hgroup : s.groupOf g = none)
    (hq : lookup s.bulk.seqs g = some q) (hdev : q.srcDev = p.srcDev) (hep : q.srcEp = p.srcEp) (hlen : q.bytes.length = 1536)
    (hseq : p.reqSeq = 0) (hplen : p.len = 512) (haddr : bulkAddr e p % 2048 = 1536) (htyp : p.typ ≠ 0)
    (hdata : p.data.length = 512) : (servePage e g p s).bulk =
      (writePage g (ofLeBytes (q.bytes ++ p.data)) (s.modBulk fun b => { b with seqs := del b.seqs g })).bulk := by
  have hbytes : bytesAt p.data p.reqSeq 512 = p.data := by rw [hseq, ← hdata, bytesAt_all]
  rw [servePage_write hgroup haddr (by omega) (by omega) htyp (by omega) hbytes
    (bulkWrite_last hq hdev hep hlen hdata)]
  exact (NocOnly.answerBulk _ _ _).bulk

/- The functions of the next two lemmas match on the page of an address: their bodies are taken out of the functions, and
what they match on is made a variable, since the kernel would compute the numerals of `bulkAddr`. -/

/-- A slot that goes by changes no refusal. -/
theorem passSlot_bulkRefuses (k : Nat) (s : State) (e : Nat) (p : Pkt) :
    (passSlot k s).bulkRefuses e p = s.bulkRefuses e p := by
  generalize hf : State.bulkRefuses = f
  delta State.bulkRefuses at hf
  subst hf
  beta_reduce
  cases pageOf (bulkAddr e p) with
  | none => rfl
  | some g =>
    simp only [passSlot, State.held, State.bit, State.modBulk_get, State.modBulk_test, State.testLeft]
    rfl

/-- A page access performs the most urgent request that its controller can take. -/
theorem execBulkPageAccess_serves {s : State} {k : Fin 2} {e g : Nat} {p : Pkt} {l : List (Nat × Pkt)}
    (hclk : s.clocked (10 + k.val) = true) (hslot : ¬ (s.bulkScrubs k = true ∧ at' s.bulk.slot k 0 = 15))
    (hheads : s.bulkHeads k = (e, p) :: l) (hrefuse : s.bulkRefuses e p = none) (hpage : pageOf (bulkAddr e p) = some g) :
    execBulkPageAccess k s = .next (servePage e g p (passSlot k s)) := by
  have hserve : (s.clocked (10 + k.val) && !(s.bulkScrubs k && at' s.bulk.slot k 0 == 15)) = true := by
    rw [hclk, Bool.true_and, Bool.not_eq_true', ← Bool.not_eq_true, Bool.and_eq_true, beq_iff_eq]
    exact hslot
  generalize hf : execBulkPageAccess = f
  delta execBulkPageAccess at hf
  subst hf
  beta_reduce
  have hrefuse' := (passSlot_bulkRefuses k s e p).trans hrefuse
  rw [hserve, if_pos rfl, hheads]
  obtain ⟨refuses, hrefuses⟩ : ∃ f, f = State.bulkRefuses := ⟨_, rfl⟩
  obtain ⟨page, hpages⟩ : ∃ f, f = pageOf := ⟨_, rfl⟩
  rw [← hrefuses] at hrefuse' ⊢
  rw [← hpages] at hpage ⊢
  simp only [hrefuse', hpage]

/-- Settles O29. -/
theorem pageWritesStoreTheirBytes : Obligations.PageWritesStoreTheirBytes := by
  unfold Obligations.PageWritesStoreTheirBytes
  refine ⟨fun s k e g p l q hheads hclk hslot hrefuse hpage hgroup hq hdev hep hlen hseq hplen haddr htyp hdata hst hbytes =>
    ?full, fun s k off bytes hoff _ hbytes => ?part⟩
  case full =>
    have hexec := execBulkPageAccess_serves hclk hslot hheads hrefuse hpage
    have hbulk := servePage_last (s := passSlot k s) (e := e) hgroup hq hdev hep hlen hseq hplen haddr htyp hdata
    obtain ⟨hread, hothers⟩ := writePage_page hbulk
    refine ⟨_, (exec_bulkPageAccess s k).trans hexec, ?_, ?_, ?_, ?_, hothers⟩
    · rw [hread]
      have hlt := ofLeBytes_lt (l := q.bytes ++ p.data)
      rw [show 8 * (q.bytes ++ p.data).length = 16384 by rw [List.length_append, hlen, hdata]] at hlt
      exact Nat.mod_eq_of_lt hlt
    all_goals rw [hread]
  case part =>
    obtain ⟨hout, hunc, hread, hothers⟩ := partialWrite_pages k off bytes s
    refine ⟨hout, ?_, fun h i hi => ?_, hothers⟩
    · cases h : (s.readPage k).unc with
      | false => exact .inl rfl
      | true => exact .inr (by rw [hunc h]; exact ⟨rfl, rfl⟩)
    · rw [hread h, ← bitsOf_mergeBytes hbytes]
      refine Nat.eq_of_testBit_eq fun j => ?_
      rw [testBit_bitsOf, testBit_bitsOf, Nat.testBit_mod_two_pow]
      by_cases hj : j < 8
      · rw [decide_eq_true (show 8 * i + j < 16384 by omega), Bool.true_and]
      · rw [decide_eq_false hj, Bool.false_and, Bool.false_and]

end Sys2Proof.Machine
end

section
/-! PROOFS. The commands of the Bulk Store, the scrubber and the split-write window (Table 10-11). -/

namespace Sys2Proof.Machine

/-! ## Host passes -/

/-- A pass that has a summary of its own handle. -/
theorem State.scrubPass_handle {s : State} {h : Nat} {x : Scrub} (hx : s.scrubPass h = some x) : x.handle = h := by
  simpa using List.find?_some hx

theorem find?_map_handle {l : List Scrub} {h : Nat} {x y : Scrub} (hx : l.find? (fun z => z.handle == h) = some x)
    (hy : y.handle = h) : (l.map fun z => if z.handle = h then y else z).find? (fun z => z.handle == h) = some y := by
  induction l with
  | nil => exact absurd hx (by simp)
  | cons z l ih =>
    rw [List.map_cons]
    by_cases hz : z.handle = h
    · rw [if_pos hz, List.find?_cons_of_pos (by simpa using hy)]
    · rw [if_neg hz, List.find?_cons_of_neg (by simpa using hz)]
      rw [List.find?_cons_of_neg (by simpa using hz)] at hx
      exact ih hx

/-- The summary of a pass that is replaced is the new one. -/
theorem State.scrubPass_setPass {s : State} {h : Nat} {x y : Scrub} (hx : s.scrubPass h = some x) (hy : y.handle = h) :
    (setPass y s).scrubPass h = some y := by
  subst hy
  exact find?_map_handle hx rfl

theorem endPass_scrubPass {s : State} {h st : Nat} {x : Scrub} (hx : s.scrubPass h = some x) :
    (endPass x st s).scrubPass h = some { x with st := st, endTick := s.clk.tick } := by
  have hhandle := State.scrubPass_handle hx
  have hset := State.scrubPass_setPass (y := { x with st := st, endTick := s.clk.tick }) hx hhandle
  rw [State.scrubPass] at hset
  rw [State.scrubPass, endPass, raise_bulk]
  exact hset

/-- The background summary that has been stored. -/
theorem State.bgScrub_put (s : State) (t : Nat) (x : Scrub) :
    (s.modBulk fun b => { b with bg := put b.bg t x }).bgScrub t = x := by
  show at' (put s.bulk.bg t x) t _ = x
  rw [at', lookup_put_same]
  rfl

/-- The background summary of target `t` with its counts cleared (R324). -/
def State.clearedBg (s : State) (t : Nat) : Scrub :=
  { s.newScrub (0x100 + t) t (targetRange t).1 (targetRange t).2 0 (s.bgScrub t).rowLast with
    unit := (s.bgScrub t).unit, rate := (s.bgScrub t).rate, part := (s.bgScrub t).part }

theorem State.begun_newScrub (s : State) (mb h t a b ra rb : Nat) :
    (s.begun mb).newScrub h t a b ra rb = s.newScrub h t a b ra rb := by
  simp only [State.newScrub, State.firstUnit, State.bankCode, State.begun_get]
  rfl

theorem State.begun_bgScrub (s : State) (mb t : Nat) : (s.begun mb).bgScrub t = s.bgScrub t := by
  rw [State.bgScrub, State.begun_newScrub]
  rfl

/-! ## Commands with bytes -/

/-- A served command with bytes whose checks pass completes with the answer of its meaning. -/
theorem completes_bytes {s t : State} {mb code st : Nat} {args : List (Nat × Nat)} {bytes r : List Nat} {c : Instr}
    {l : List (Bool × Nat)} {f : State → Ans} (h : s.servesBytes mb code args bytes = true)
    (he : exec c s = .next (talnumBytes mb code args bytes (checks l f) s)) (hl : ∀ p ∈ l, p.1 = false)
    (hf : f (s.begun mb) = .done st r t) : Completes c mb s st r t := by
  rw [Completes, he, talnumBytes_serves _ h, checks_pass _ _ hl, hf, settle_done]

/-- Settles O32: each command by its checks and its meaning. -/
theorem bulkCommandsComplete : Obligations.BulkCommandsComplete := by
  unfold Obligations.BulkCommandsComplete
  intro mb s
  refine ⟨?get, ?code, ?clear, ?start, ?status, ?background, ?abort, ?rate, ?split⟩
  case get =>
    intro g n h hgn h1 h16 ht
    have hbusy : ((List.range n).any fun k => s.segTested (g + k)) = false := by
      rw [List.any_eq_false]
      intro k hk
      rw [ht k (List.mem_range.1 hk)]
      decide
    refine completes_checked h rfl ?_ rfl
    simp only [List.forall_mem_cons, hbusy]
    simp [Nat.not_lt.2 h16, Nat.not_lt.2 hgn]
    omega
  case code =>
    intro g t a h hg ht ha hbusy
    have hargs : (decide (48 ≤ g) || decide (5 ≤ t) || decide (3 ≤ a)) = false := by simp; omega
    refine ⟨fun hsame => ?_, fun hne hcached hspill => ?_, fun hne hused => ?_⟩
    · refine completes_checked h rfl ?_ ?_
      · simp only [List.forall_mem_cons, hargs, hbusy, hsame]
        simp
      · simp only [State.begun_get, hsame, bne_self_eq_false]
        rfl
    · refine completes_checked h rfl ?_ ?_
      · simp only [List.forall_mem_cons, hargs, hbusy, hcached, hspill]
        simp
      · simp only [State.begun_get, bne_iff_ne.2 hne]
        rfl
    · refine completes_denied h rfl ?_ (by decide)
      have hx : (s.flag (R.SEG_CFG.CACHED g) || s.flag (R.SEG_CFG.SPILL g)) = true := by simpa using hused
      simp only [List.find?, hargs, hbusy, hx, bne_iff_ne.2 hne, Bool.and_true]
  case clear =>
    intro g h hg hbusy hcached hspill
    exact completes_checked h rfl (by simp [Nat.not_le.2 hg, hbusy, hcached, hspill]) rfl
  case start =>
    intro kind first last ra rb t a b h hserves hkind hfree
    have hh : (List.range 8).find? (fun h => ((s.begun mb).scrubPass h).isNone) = some h := hfree
    rcases hkind with ⟨rfl, hle, hdie, hr, hrb, rfl, rfl, rfl, ht⟩ | ⟨rfl, hle, hlast, hr, hrb, rfl, rfl, rfl, ht⟩ |
      ⟨rfl, hmod, hlast, ha, hb, hstack, rfl, ht⟩
    · refine completes_served hserves rfl ((checks_pass _ _ ?_).trans (by simp only [hh]; rfl))
      have hbusy : ((List.range (b + 1 - a)).any fun i => s.bankTested (a + i)) = false := by
        rw [List.any_eq_false]
        intro i hi
        rw [ht (a + i) (by omega) (by have := List.mem_range.1 hi; omega)]
        decide
      have hbusy' : ((List.range (b + 1 - a)).any fun i => (s.begun mb).bankTested (a + i)) = false := hbusy
      simp only [List.forall_mem_cons, hbusy', hdie]
      simp
      omega
    · refine completes_served hserves rfl ((checks_pass _ _ ?_).trans (by simp only [hh]; rfl))
      have hbusy : ((s.begun mb).test.busy.any fun r => decide (r < 128) && decide (a / 96 ≤ r) && decide (r ≤ b / 96)) =
          false := by
        rw [List.any_eq_false]
        intro r hr
        simpa [and_assoc] using ht r hr
      simp only [List.forall_mem_cons, hbusy]
      simp
      omega
    · refine completes_served hserves rfl ?_
      dsimp only
      simp only [ha, hb]
      refine (checks_pass _ _ ?_).trans (by simp only [hh]; rfl)
      have hbusy : (s.begun mb).test.busy.contains (0x9C + b / stackPages) = false := hstack ▸ ht
      simp only [List.forall_mem_cons, hbusy, hmod, hstack, bne_self_eq_false, beq_false_of_ne hlast]
      simp
  case status =>
    intro h c x hserves hc hh hx
    have hx' : (s.begun mb).scrubPass h = some x := hx
    refine completes_served hserves rfl ?_
    refine (if_neg (Nat.not_le.2 hc)).trans ((if_neg (by omega)).trans ?_)
    rw [hx']
    dsimp only
    by_cases hst : x.st < 2
    · rw [if_pos hst, if_neg (Nat.not_le.2 hst)]
    · rw [if_neg hst, if_pos (Nat.le_of_not_lt hst)]
  case background =>
    intro t c hserves hc ht
    have hrun : Completes (.scrubStatus mb (0x100 + t) c) mb s stOk (scrubSummary (s.bgScrub t))
        (if c = 1 then (s.begun mb).modBulk fun b => { b with bg := put b.bg t (s.clearedBg t) } else s.begun mb) := by
      refine completes_served hserves rfl ?_
      dsimp only
      rw [if_neg (Nat.not_le.2 hc), if_pos ⟨Nat.le_add_right _ _, by omega⟩, Nat.add_sub_cancel_left, State.begun_bgScrub,
        State.begun_newScrub]
      rfl
    refine ⟨_, hrun, fun h0 => if_neg (by omega), fun h1 => ?_⟩
    rw [if_pos h1, State.bgScrub_put]
    exact ⟨rfl, rfl, rfl, rfl, rfl⟩
  case abort =>
    intro h x hserves hx
    have hx' : (s.begun mb).scrubPass h = some x := hx
    refine ⟨fun hst => ?_, fun hst => ?_⟩
    · have hend := endPass_scrubPass (st := 3) hx'
      refine ⟨endPass x 3 (s.begun mb), { x with st := 3, endTick := s.clk.tick }, completes_served hserves rfl ?_, hend, rfl,
        rfl⟩
      dsimp only
      rw [hx']
      dsimp only
      rw [if_neg (Nat.not_le.2 hst), hend]
      rfl
    · refine completes_served hserves rfl ?_
      dsimp only
      rw [hx']
      exact if_pos hst
  case rate =>
    intro t r hserves ht hbusy
    have hchecks : (decide (5 ≤ t) && s.test.busy.contains (0x97 + t)) = false := by
      by_cases h5 : 5 ≤ t
      · rw [hbusy h5, Bool.and_false]
      · rw [decide_eq_false h5, Bool.false_and]
    refine ⟨_, completes_checked hserves rfl ?_ rfl, ?_, rfl, rfl⟩
    · simp only [List.forall_mem_cons, hchecks, decide_eq_false (Nat.not_le.2 ht)]
      simp
    · rw [State.bgScrub_put]
  case split =>
    intro k u bytes hfunc hlen htest hopen
    have hfunc' : (splitFunc k u).isNone = false := by simpa [Option.isNone_eq_false_iff, Option.isSome_iff_ne_none] using hfunc
    refine ⟨fun h => ?_, fun hnil h => ?_⟩
    · refine completes_bytes h rfl ?_ rfl
      simp only [List.forall_mem_cons, htest, hopen, hfunc', decide_eq_false (Nat.not_lt.2 hlen)]
      simp
    · subst hnil
      refine completes_bytes h rfl ?_ rfl
      simp only [List.forall_mem_cons, htest, hopen, hfunc', decide_eq_false (Nat.not_lt.2 hlen)]
      simp

end Sys2Proof.Machine
end

section
/-! PROOFS. The events of the Bulk Store, the scrubber and the split-write window (R309, R313, R320–R328). -/

namespace Sys2Proof.Machine

/-! ## A segment clear -/

/-- What writes of segment `g` that are performed early leave: the pages of every other segment, and the settings of the
segment. -/
structure SegmentKept (g : Nat) (s t : State) : Prop where
  pages : ∀ k, segOfPage k ≠ g → lookup t.bulk.pages k = lookup s.bulk.pages k
  strength : t.get (R.SEG_CFG.T g) = s.get (R.SEG_CFG.T g)
  access : t.get (R.SEG_CFG.ACC g) = s.get (R.SEG_CFG.ACC g)

namespace SegmentKept

variable {g : Nat} {s t u : State}

theorem trans (h : SegmentKept g s t) (h' : SegmentKept g t u) : SegmentKept g s u :=
  ⟨fun k hk => (h'.pages k hk).trans (h.pages k hk), h'.strength.trans h.strength, h'.access.trans h.access⟩

theorem nocOnly (h : NocOnly s t) (hg : g < 48) : SegmentKept g s t := by
  have hplain : ∀ f : Fld, 0x240 * 64 ≤ f.key → f.Plain := fun f hf hc => by omega
  refine ⟨fun k _ => by rw [h.bulk], h.get _ (hplain _ ?_) ?_, h.get _ (hplain _ ?_) ?_⟩
  all_goals simp only [Fld.key, R.SEG_CFG.T, R.SEG_CFG.ACC]
  all_goals omega

end SegmentKept

/-- The errors of a page are counted above the settings of its segment. -/
theorem countPage_get (k : Nat) (rd : PageRd) (s : State) {f : Fld} (hf : f.key % 64 < 10) :
    (countPage k rd s).get f = s.get f := by
  have hset : ∀ (f' : Fld) (v : Nat) (t : State), 10 ≤ f'.key % 64 → (t.set f' v).get f = t.get f :=
    fun f' v t h => State.get_set_ne t v fun he => by omega
  have hif : ∀ (c : Bool) (F : State → State) (t : State), (∀ u, (F u).get f = u.get f) → (applyIf c F t).get f = t.get f :=
    fun c F t h => by
      cases c
      · rfl
      · exact h t
  unfold countPage
  have hinc : ∀ (f' : Fld) (t : State), 10 ≤ f'.key % 64 → (t.inc f').get f = t.get f := fun f' t h => hset f' _ t h
  refine ((hif _ _ _ fun u => hset _ _ _ ?_).trans ((hif _ _ _ fun u => (hinc _ _ ?_).trans (hset _ _ _ ?_)).trans
    (hif _ _ _ fun u => (hinc _ _ ?_).trans (hset _ _ _ ?_)))).trans rfl
  all_goals simp only [Fld.key, R.SEG_CFG.COR, R.SEG_CFG.COR_CNT, R.SEG_CFG.UNC, R.SEG_CFG.UNC_CNT, R.SEG_CFG.MISDIR]
  all_goals omega

theorem partialWrite_get (k off : Nat) (bytes : List Nat) (s : State) {f : Fld} (hf : f.key % 64 < 10) :
    (partialWrite k off bytes s).2.get f = s.get f := by
  refine Eq.trans ?_ (countPage_get k (s.readPage k) s hf)
  unfold partialWrite
  dsimp only
  split <;> rfl

/-- A full-page write that is broken off writes its own page at most. -/
theorem breakBulk_kept {g k : Nat} {s : State} (hg : g < 48) (hk : segOfPage k = g) : SegmentKept g s (breakBulk k s) := by
  unfold breakBulk
  cases lookup s.bulk.seqs k with
  | none => exact ⟨fun _ _ => rfl, rfl, rfl⟩
  | some q =>
    obtain ⟨-, -, -, hothers⟩ := partialWrite_pages k 0 q.bytes (s.modBulk fun b => { b with seqs := del b.seqs k })
    have hget : ∀ f : Fld, f.key % 64 < 10 →
        (partialWrite k 0 q.bytes (s.modBulk fun b => { b with seqs := del b.seqs k })).2.get f = s.get f :=
      fun f hf => partialWrite_get k 0 q.bytes _ hf
    refine SegmentKept.trans ⟨fun j hj => hothers j fun he => hj (he ▸ hk), hget _ ?_, hget _ ?_⟩
      (.nocOnly (.answerBulk _ _ _) hg)
    all_goals simp only [Fld.key, R.SEG_CFG.T, R.SEG_CFG.ACC]
    all_goals omega

theorem forEach_breakBulk_kept {g : Nat} {s : State} (hg : g < 48) (l : List (Nat × BulkSeq))
    (hl : ∀ e ∈ l, segOfPage e.1 = g) : SegmentKept g s (forEach l (fun e s => breakBulk e.1 s) s) := by
  induction l generalizing s with
  | nil => exact ⟨fun _ _ => rfl, rfl, rfl⟩
  | cons e l ih =>
    exact (breakBulk_kept hg (hl e List.mem_cons_self)).trans (ih fun e' he => hl e' (List.mem_cons_of_mem e he))

theorem breakSegment_kept {g : Nat} (s : State) (hg : g < 48) : SegmentKept g s (breakSegment g s) :=
  forEach_breakBulk_kept hg _ fun e he => by simpa using (List.mem_filter.1 he).2

/-- Settles O31: the events of a page, of the scrubber and of the split-write window, and the clear of a segment. -/
theorem bulkEventsComplete : Obligations.BulkEventsComplete := by
  unfold Obligations.BulkEventsComplete
  refine ⟨fun s => ⟨fun k g q hclk hfind => ?timeout, fun g hup => ?clr, fun t x hfind hruns hclk hturn => ?unit,
    fun t hrate hruns hclk hpass hmem hstack => ?background, fun hup => ?split⟩, fun s g hbusy hclk => ?clear⟩
  case timeout =>
    rw [exec_bulkFullPageTimeout, execBulkFullPageTimeout, if_pos hclk, hfind]
  case clr => exact if_pos hup
  case unit =>
    intro v
    have hidle : ¬ (!s.scrubRuns || !s.scrubClock t || !s.scrubTurn x) = true := by simp [hruns, hclk, hturn]
    have hexec : exec (.scrubUnit t) s = match v.2.nextUnit v.1 with
        | some u => .next (setPass { v.1 with unit := u } v.2)
        | none => .next (endPass v.1 2 v.2) := by
      rw [exec_scrubUnit, execScrubUnit, hfind]
      dsimp only
      rw [if_neg hidle]
      simp only [applyIf, decide_eq_true_eq]
      rfl
    refine ⟨fun u hu => ?_, fun hnone => ?_⟩
    · rw [hexec, hu]
    · rw [hexec, hnone]
  case background =>
    intro due
    have hdue : (s.bgScrub t).rate * (if s.mode = mLimit then s.get R.THERM_STAT.P else 16) + (s.bgScrub t).part = due := rfl
    have hidle : ¬ ((s.bgScrub t).rate = 0 ∨ (!s.scrubRuns) = true ∨ (!s.scrubClock t) = true ∨
        (s.bulk.passes.any fun y => y.target == t.val && decide (y.st < 2)) = true) := by
      simp only [hruns, hclk, List.any_eq_true, Bool.and_eq_true, beq_iff_eq, decide_eq_true_eq]
      rintro (h | h | h | ⟨y, hy, h⟩)
      · exact hrate h
      · exact absurd h (by decide)
      · exact absurd h (by decide)
      · exact hpass y hy h
    have hheld : ¬ ((t.val < 4 ∧ s.held (0x98 + t.val) = true) ∨ (5 ≤ t.val ∧ s.held (0x97 + t.val) = true)) := by
      rintro (⟨h, hh⟩ | ⟨h, hh⟩)
      · rw [hmem h] at hh
        exact absurd hh (by decide)
      · rw [hstack h] at hh
        exact absurd hh (by decide)
    refine ⟨_, _, rfl, ?_⟩
    rw [exec_bgScrubTick, execBgScrubTick]
    dsimp only
    rw [if_neg hidle, if_neg hheld, hdue]
  case split =>
    intro k u
    refine ⟨fun hopen htest => ?_, fun hno => ?_⟩
    · have hrun : (s.splitOpen k u && !s.splitTested k u) = true := by rw [hopen, htest]; rfl
      exact (if_pos hup).trans (congrArg Host.Outcome.next (if_pos hrun))
    · have hrun : ¬ (s.splitOpen k u && !s.splitTested k u) = true := by rcases hno with h | h <;> simp [h]
      exact (if_pos hup).trans (congrArg Host.Outcome.next (if_neg hrun))
  case clear =>
    obtain ⟨hpages, hstr, hacc⟩ := breakSegment_kept s g.isLt
    have hset : ∀ f : Fld, f.key ≠ (R.SEG_CFG.CLR g).key → f.key ≠ (R.SEG_CFG.CLR_BUSY g).key →
        (((breakSegment g s).set (R.SEG_CFG.CLR_BUSY g) 0).set (R.SEG_CFG.CLR g) 0).get f = (breakSegment g s).get f :=
      fun f h1 h2 => by rw [State.get_set_ne _ _ h1, State.get_set_ne _ _ h2]
    refine ⟨_, if_pos (by rw [hbusy, hclk]; rfl), ?_, ?_, ?_, fun k hk => ?_, fun k hk => ?_⟩
    · have hget : ((((breakSegment g s).set (R.SEG_CFG.CLR_BUSY g) 0).set (R.SEG_CFG.CLR g) 0).get (R.SEG_CFG.CLR_BUSY g)) = 0 := by
        rw [State.get_set_ne _ _ (by simp [Fld.key, R.SEG_CFG.CLR_BUSY, R.SEG_CFG.CLR]), State.get_set_same]
        rfl
      exact congrArg (· != 0) hget
    · exact (hset _ (by simp [Fld.key, R.SEG_CFG.T, R.SEG_CFG.CLR]) (by simp [Fld.key, R.SEG_CFG.T, R.SEG_CFG.CLR_BUSY])).trans hstr
    · exact (hset _ (by simp [Fld.key, R.SEG_CFG.ACC, R.SEG_CFG.CLR])
        (by simp [Fld.key, R.SEG_CFG.ACC, R.SEG_CFG.CLR_BUSY])).trans hacc
    · have hnone : lookup (clearSegment g (((breakSegment g s).set (R.SEG_CFG.CLR_BUSY g) 0).set (R.SEG_CFG.CLR g) 0)).bulk.pages k =
          none := by
        rw [clearSegment, State.modBulk_bulk, lookup_dropKeys, if_pos (by simpa using hk)]
      rw [State.readPage, hnone]
    · rw [clearSegment, State.modBulk_bulk, lookup_dropKeys, if_neg (by simpa using hk)]
      exact hpages k hk

end Sys2Proof.Machine
end

section
/-! PROOFS. What the link side of a lane leaves of the lanes, and the stages of bring-up (R338–R353). -/

namespace Sys2Proof.Machine

/-! ## What an event of the link leaves of the lanes -/

/-- A field of a lane, of a quad or of the setting of a link, or one of the clock fields on which a lane's rate depends. -/
def Fld.OfLanes (f : Fld) : Prop :=
  f.key = R.CLK_LOCK.LOCK.key ∨ f.key = R.MCLK_STAT.FREQ_KHZ.key ∨ (0x700000 * 64 ≤ f.key ∧ f.key < 0x800200 * 64)

theorem Fld.OfLanes.plain {f : Fld} (h : f.OfLanes) : f.Plain := by
  simp only [Fld.OfLanes, Fld.key, R.CLK_LOCK.LOCK, R.MCLK_STAT.FREQ_KHZ] at h
  intro hc
  simp only [Fld.key] at hc
  omega

/-- From `s` to `t` every lane keeps its registers and its state. -/
structure LanesKept (s t : State) : Prop where
  get : ∀ f : Fld, f.OfLanes → t.get f = s.get f
  lanes : t.lane.lanes = s.lane.lanes
  clk : t.clk = s.clk
  test : t.test = s.test

namespace LanesKept

variable {s t u : State}

theorem refl : LanesKept s s := ⟨fun _ _ => rfl, rfl, rfl, rfl⟩

theorem trans (h : LanesKept s t) (h' : LanesKept t u) : LanesKept s u :=
  ⟨fun f hf => (h'.get f hf).trans (h.get f hf), h'.lanes.trans h.lanes, h'.clk.trans h.clk, h'.test.trans h.test⟩

theorem ite {c : Prop} [Decidable c] (ht : LanesKept s t) (hu : LanesKept s u) : LanesKept s (if c then t else u) := by
  split <;> assumption

theorem applyIf {c : Bool} {f : State → State} (h : LanesKept s (f s)) : LanesKept s (applyIf c f s) := .ite h .refl

theorem forEach {α : Type} {f : α → State → State} (l : List α) (s : State) (hf : ∀ a u, LanesKept u (f a u)) :
    LanesKept s (Machine.forEach l f s) :=
  forEach_ind (LanesKept s) f l s .refl fun a u h => h.trans (hf a u)

theorem set {f : Fld} (v : Nat) (s : State) (h : ¬ f.OfLanes) : LanesKept s (s.set f v) :=
  ⟨fun g hg => State.get_set_ne s v fun he => h (by rw [Fld.OfLanes, ← he]; exact hg), rfl, rfl, rfl⟩

theorem setBit {f : Fld} (i : Nat) (b : Bool) (s : State) (h : ¬ f.OfLanes) : LanesKept s (s.setBit f i b) := by
  unfold State.setBit
  exact .ite .refl (.set _ _ h)

theorem raise (code : Nat) (args : List (Nat × Nat)) (s : State) : LanesKept s (raise code args s) :=
  ⟨fun f hf => raise_get _ _ _ f hf.plain, by rw [raise_lane], raise_clk _ _ _, raise_test _ _ _⟩

theorem mgt (m : Mgt) (s : State) : LanesKept s { s with mgt := m } := ⟨fun _ _ => rfl, rfl, rfl, rfl⟩

theorem finishCmd (n st : Nat) (res : List Nat) (late : Bool) (s : State) : LanesKept s (finishCmd n st res late s) := by
  unfold Machine.finishCmd
  split
  · exact .ite (.mgt _ _) .refl
  · split
    · exact .trans (t := { s with mgt := _ }) (.mgt _ _) (.raise _ _ _)
    · exact .refl

theorem modBdl (f : Nat) (g : Bundle → Bundle) (s : State) : LanesKept s (s.modBdl f g) := ⟨fun _ _ => rfl, rfl, rfl, rfl⟩

theorem settleUps (s : State) : LanesKept s (settleUps s) :=
  .forEach _ _ fun u s => .ite
    (.trans (t := { s with lane := { s.lane with ups := s.lane.ups.erase u } }) ⟨fun _ _ => rfl, rfl, rfl, rfl⟩
      (.finishCmd _ _ _ _ _)) .refl

theorem linkUp (f v : Nat) (s : State) : LanesKept s (s.set (R.LINK_STAT.LINK_UP f) v) := by
  refine .set _ _ ?_
  simp only [Fld.OfLanes, Fld.key, R.LINK_STAT.LINK_UP, R.CLK_LOCK.LOCK, R.MCLK_STAT.FREQ_KHZ]
  omega

theorem bundleCheckUp (l : Nat) (s : State) : LanesKept s (bundleCheckUp l s) := by
  unfold Machine.bundleCheckUp
  refine .ite ?_ .refl
  refine .ite (.trans (.linkUp _ _ _) (.modBdl _ _ _)) ?_
  refine .trans (.trans (.trans (.linkUp _ _ _) (.modBdl _ _ _)) (.modBdl _ _ _)) (.applyIf ?_)
  exact .ite (.modBdl _ _ _) .refl

theorem loseMclk (s : State) : LanesKept s (loseMclk s) := by
  have hno : ∀ f : Fld, f ∈ [R.MCLK_STAT.LOSS, R.MCLK_STAT.HOLD, R.MCLK_STAT.PRESENT, R.CLK_LOST.LOST, R.SYNC_STAT.STATE] →
      ¬ f.OfLanes := by
    simp [Fld.OfLanes, Fld.key, R.MCLK_STAT.LOSS, R.MCLK_STAT.HOLD, R.MCLK_STAT.PRESENT, R.CLK_LOST.LOST, R.SYNC_STAT.STATE,
      R.CLK_LOCK.LOCK, R.MCLK_STAT.FREQ_KHZ]
  refine .trans (.trans (.trans (.trans (.set 1 s (hno _ ?_)) (.set 1 _ (hno _ ?_))) (.set 0 _ (hno _ ?_)))
    (.setBit 2 true _ (hno _ ?_))) (.trans (.raise _ _ _) (.ite .refl (.set _ _ (hno _ ?_))))
  all_goals simp

theorem bundleCheckDown (l : Nat) (s : State) : LanesKept s (bundleCheckDown l s) :=
  .trans (.linkUp _ _ _) (.applyIf (.loseMclk _))

variable (h : LanesKept s t) (l : Nat)
include h

theorem laneState (hl : l < 96) : t.laneState l = s.laneState l :=
  h.get _ (by simp only [Fld.OfLanes, Fld.key, R.LANE_STAT.STATE]; omega)

theorem lst : t.lst l = s.lst l := by rw [State.lst, h.lanes]; rfl

end LanesKept

/-! ## What decides the rate and the mode of a lane -/

/-- A setting of a lane or of a link, or one of the clock fields on which a lane's rate depends. -/
def Fld.OfSettings (f : Fld) : Prop :=
  f.key = R.CLK_LOCK.LOCK.key ∨ f.key = R.MCLK_STAT.FREQ_KHZ.key ∨ (0x700000 * 64 ≤ f.key ∧ f.key < 0x700200 * 64) ∨
    (0x800000 * 64 ≤ f.key ∧ f.key < 0x800200 * 64)

/-- From `s` to `t` every lane keeps its settings and its clock. -/
structure SettingsKept (s t : State) : Prop where
  get : ∀ f : Fld, f.OfSettings → t.get f = s.get f
  clk : t.clk = s.clk
  test : t.test = s.test

theorem LanesKept.settings {s t : State} (h : LanesKept s t) : SettingsKept s t :=
  ⟨fun f hf => h.get f (by simp only [Fld.OfSettings, Fld.OfLanes] at hf ⊢; omega), h.clk, h.test⟩

namespace SettingsKept

variable {s t u : State}

theorem refl : SettingsKept s s := ⟨fun _ _ => rfl, rfl, rfl⟩

theorem trans (h : SettingsKept s t) (h' : SettingsKept t u) : SettingsKept s u :=
  ⟨fun f hf => (h'.get f hf).trans (h.get f hf), h'.clk.trans h.clk, h'.test.trans h.test⟩

theorem ite {c : Prop} [Decidable c] (ht : SettingsKept s t) (hu : SettingsKept s u) : SettingsKept s (if c then t else u) := by
  split <;> assumption

theorem forEach {α : Type} {f : α → State → State} {P : α → Prop} {l : List α} (s : State) (hl : ∀ a ∈ l, P a)
    (hf : ∀ a u, P a → SettingsKept u (f a u)) : SettingsKept s (Machine.forEach l f s) := by
  induction l generalizing s with
  | nil => exact .refl
  | cons a l ih =>
    exact (hf a s (hl a List.mem_cons_self)).trans (ih _ fun b hb => hl b (List.mem_cons_of_mem a hb))

/-- A state register of a lane, or of a quad, is no setting. -/
theorem set {f : Fld} (v : Nat) (s : State) (h : 0x700200 * 64 ≤ f.key) (h' : f.key < 0x800000 * 64) :
    SettingsKept s (s.set f v) := by
  refine ⟨fun g hg => State.get_set_ne s v fun he => ?_, rfl, rfl⟩
  simp only [Fld.OfSettings, he] at hg
  have hlock : R.CLK_LOCK.LOCK.key = 0x48 * 64 := rfl
  have hfreq : R.MCLK_STAT.FREQ_KHZ.key = 0x50 * 64 + 8 := rfl
  omega

/-- A register of lane `l` past its settings. -/
theorem setStat {l : Nat} (hl : l < 96) {f : Fld} (v : Nat) (s : State) (h : f.addr = 0x700200 + 4 * l) (h' : f.lsb < 64) :
    SettingsKept s (s.set f v) := by
  refine .set v s ?_ ?_ <;> (simp only [Fld.key, h]; omega)

theorem modLane (l : Nat) (f : LaneSt → LaneSt) (s : State) : SettingsKept s (s.modLane l f) := ⟨fun _ _ => rfl, rfl, rfl⟩

variable (h : SettingsKept s t) {l : Nat} (hl : l < 96)
include h hl

theorem config {f : Fld} (ha : f.addr = 0x700000 + 4 * l) (hb : f.lsb < 64) : t.get f = s.get f :=
  h.get f (by simp only [Fld.OfSettings, Fld.key, ha]; omega)

theorem laneK : t.laneK l = s.laneK l := by rw [State.laneK, h.config hl rfl (by simp [R.LANE_CFG.KDIV])]; rfl

theorem baseR : t.baseR l = s.baseR l := by rw [State.baseR, h.config hl rfl (by simp [R.LANE_CFG.PROTO])]; rfl

theorem laneAligned : t.laneAligned l = s.laneAligned l := by
  rw [State.laneAligned, h.clk, h.laneK hl]
  rfl

theorem fixedMode : t.fixedMode l = s.fixedMode l := by
  rw [State.fixedMode, h.laneAligned hl, h.baseR hl, State.flag, h.config hl rfl (by simp [R.LANE_CFG.FL_EN])]
  rfl

theorem rateOk : t.rateOk l = s.rateOk l := by
  rw [State.rateOk, h.clk, h.laneK hl, h.get R.MCLK_STAT.FREQ_KHZ (.inr (.inl rfl))]
  rfl

theorem bundleOf : t.bundleOf l = s.bundleOf l := by
  have hbw : ∀ k, k ≤ l → t.get (R.LINK_CFG.BW k) = s.get (R.LINK_CFG.BW k) := fun k hk =>
    h.get _ (by simp only [Fld.OfSettings, Fld.key, R.LINK_CFG.BW]; omega)
  rw [State.bundleOf, hbw _ (by omega), hbw _ (by omega)]
  rfl

end SettingsKept

/-! ## Entries of a lane -/

/-- A state register of lane `l` after a write of another of its fields. -/
theorem stat_ne {s : State} {f g : Fld} (v : Nat) (ha : g.addr = f.addr) (hl : g.lsb ≠ f.lsb) :
    (s.set f v).get g = s.get g := State.get_set_ne s v (by simp only [Fld.key, ha]; omega)

/-- A lane that fails shows its state and its reason (R342). -/
theorem failLane_status {s : State} {l k : Nat} (hl : l < 96) : (failLane l k s).laneState l = lsFail ∧
    (failLane l k s).get (R.LANE_STAT.REASON l) = k % 16 := by
  have hkept : LanesKept ((setLane l lsFail s).set (R.LANE_STAT.REASON l) k) (failLane l k s) :=
    .trans (.raise _ _ _) (.settleUps _)
  refine ⟨(hkept.laneState l hl).trans ?_, (hkept.get _ ?_).trans (State.get_set_same _ _ _)⟩
  · exact (stat_ne (f := R.LANE_STAT.REASON l) (g := R.LANE_STAT.STATE l) k rfl (by simp [R.LANE_STAT.STATE, R.LANE_STAT.REASON])).trans
      (State.get_set_same _ _ _)
  · simp only [Fld.OfLanes, Fld.key, R.LANE_STAT.REASON]
    omega

/-- The latency that a lane takes at its entry to Up (R353). -/
def takeLatency (l : Nat) (s : State) : State :=
  if s.fixedMode l then
    let k := s.laneK l
    let lm := s.get (R.LANE_FL.L_MEAS l)
    let v := s.get (R.LANE_FL.FL_LAT l)
    if flOk k lm v then (s.set (R.LANE_STAT.FL_OK l) 1).modLane l fun b => { b with flUsed := v }
    else raise 0x0404 [(1, l)]
      ((s.set (R.LANE_STAT.FL_OK l) 0).modLane l fun b => { b with flUsed := flFallback k lm })
  else s.set (R.LANE_STAT.FL_OK l) 0

/-- Lane `l` as it enters Up. -/
def upLane (l : Nat) (late : Bool) (s : State) : State :=
  (setLane l lsUp s).modLane l fun b => { b with upLate := late, exiting := false }

theorem enterUp_kept (l : Nat) (late : Bool) (s : State) :
    LanesKept (takeLatency l (upLane l late s)) (enterUp l late s) :=
  .trans (.bundleCheckUp _ _) (.settleUps _)

/-- Only `FL_OK` of the registers of the lanes follows the latency. -/
theorem takeLatency_get {l : Nat} {s : State} {f : Fld} (hf : f.OfLanes) (hne : f.key ≠ (R.LANE_STAT.FL_OK l).key) :
    (takeLatency l s).get f = s.get f := by
  unfold takeLatency
  dsimp only
  split
  · split
    · exact State.get_set_ne s 1 hne
    · exact ((LanesKept.raise _ _ _).get f hf).trans (State.get_set_ne s 0 hne)
  · exact State.get_set_ne s 0 hne

theorem takeLatency_flOk {l : Nat} (hl : l < 96) (s : State) : (takeLatency l s).flag (R.LANE_STAT.FL_OK l) = true ↔
    s.fixedMode l = true ∧ flOk (s.laneK l) (s.get (R.LANE_FL.L_MEAS l)) (s.get (R.LANE_FL.FL_LAT l)) = true := by
  have hof : (R.LANE_STAT.FL_OK l).OfLanes := by simp only [Fld.OfLanes, Fld.key, R.LANE_STAT.FL_OK]; omega
  have hset : ∀ v, ((s.set (R.LANE_STAT.FL_OK l) v).get (R.LANE_STAT.FL_OK l)) = v % 2 := fun v => State.get_set_same _ _ _
  unfold takeLatency
  dsimp only
  split
  · next hfix =>
    split
    · next hok =>
      refine iff_of_true ?_ ⟨hfix, hok⟩
      exact congrArg (· != 0) (hset 1)
    · next hok =>
      refine iff_of_false ?_ fun h => hok h.2
      refine (Bool.eq_false_iff.mp (bne_eq_false_iff_eq.mpr ?_))
      exact ((LanesKept.raise 0x0404 [(1, l)] _).get _ hof).trans (hset 0)
  · next hfix =>
    refine iff_of_false ?_ fun h => hfix h.1
    rw [State.flag, hset]
    decide

theorem enterUp_state {l : Nat} (hl : l < 96) (late : Bool) (s : State) : (enterUp l late s).laneState l = lsUp := by
  rw [(enterUp_kept l late s).laneState l hl, State.laneState, takeLatency_get]
  · exact State.get_set_same s (R.LANE_STAT.STATE l) lsUp
  · simp only [Fld.OfLanes, Fld.key, R.LANE_STAT.STATE]
    omega
  · simp [Fld.key, R.LANE_STAT.STATE, R.LANE_STAT.FL_OK]

/-- What else the registers of the lanes hold stays at an entry to Up. -/
theorem enterUp_get {l : Nat} {f : Fld} (late : Bool) (s : State) (hf : f.OfLanes) (hst : f.key ≠ (R.LANE_STAT.STATE l).key)
    (hok : f.key ≠ (R.LANE_STAT.FL_OK l).key) : (enterUp l late s).get f = s.get f :=
  ((enterUp_kept l late s).get f hf).trans ((takeLatency_get hf hok).trans (State.get_set_ne s lsUp hst))

theorem State.lst_modLane_same (s : State) (l : Nat) (f : LaneSt → LaneSt) : (s.modLane l f).lst l = f (s.lst l) :=
  at'_putD_same _ _ _ _

/-! ## Out of Frame (R338–R341) -/

theorem newRequest_get (l : Nat) (s : State) (f : Fld) : (newRequest l s).get f = s.get f := by
  unfold newRequest
  split <;> rfl

/-- Lane `l` leaves Frame: to Up in BASE-R operation, to Train else, but not the timing lane in Boot. -/
def passFrame (l : Nat) (s : State) : State :=
  if s.baseR l then enterUp l false s
  else if decide (s.mode = mBoot) && s.flag R.STRAP_LATCH.MCLK_SRC && l == 0 then s
  else newRequest l (setLane l lsTrain s)

theorem passFrame_state {l : Nat} (hl : l < 96) {s : State} (h : s.laneState l = lsFrame) : (passFrame l s).laneState l =
    if s.baseR l = true then lsUp
    else if s.mode = mBoot ∧ s.flag R.STRAP_LATCH.MCLK_SRC = true ∧ l = 0 then lsFrame else lsTrain := by
  have hcond : (decide (s.mode = mBoot) && s.flag R.STRAP_LATCH.MCLK_SRC && l == 0) = true ↔
      s.mode = mBoot ∧ s.flag R.STRAP_LATCH.MCLK_SRC = true ∧ l = 0 := by simp [and_assoc]
  simp only [passFrame, hcond]
  split
  · exact enterUp_state hl false s
  · split
    · exact h
    · exact (newRequest_get _ _ _).trans (State.get_set_same s (R.LANE_STAT.STATE l) lsTrain)

theorem passFrame_get {l : Nat} {f : Fld} (s : State) (hf : f.OfLanes) (hst : f.key ≠ (R.LANE_STAT.STATE l).key)
    (hok : f.key ≠ (R.LANE_STAT.FL_OK l).key) : (passFrame l s).get f = s.get f := by
  unfold passFrame
  split
  · exact enterUp_get false s hf hst hok
  · split
    · rfl
    · exact (newRequest_get _ _ _).trans (State.get_set_ne s lsTrain hst)

/-- Lane `l` with block lock at header offset `ofs`. -/
def blockLocked (l ofs : Nat) (s : State) : State := (s.set (R.LANE_STAT.HDR_OFS l) ofs).set (R.LANE_STAT.BLK_LOCK l) 1

theorem blockLocked_kept {l : Nat} (hl : l < 96) (ofs : Nat) (s : State) : SettingsKept s (blockLocked l ofs s) :=
  .trans (.setStat hl _ _ rfl (by simp [R.LANE_STAT.HDR_OFS])) (.setStat hl _ _ rfl (by simp [R.LANE_STAT.BLK_LOCK]))

theorem blockLocked_get {l ofs : Nat} {s : State} {f : Fld} (hofs : f.key ≠ (R.LANE_STAT.HDR_OFS l).key)
    (hlock : f.key ≠ (R.LANE_STAT.BLK_LOCK l).key) : (blockLocked l ofs s).get f = s.get f :=
  (State.get_set_ne _ _ hlock).trans (State.get_set_ne _ _ hofs)

theorem blockLocked_hdrOfs {l ofs : Nat} (h : ofs < 66) (s : State) :
    (blockLocked l ofs s).get (R.LANE_STAT.HDR_OFS l) = ofs := by
  refine (stat_ne (f := R.LANE_STAT.BLK_LOCK l) (g := R.LANE_STAT.HDR_OFS l) 1 rfl (by simp [R.LANE_STAT.HDR_OFS, R.LANE_STAT.BLK_LOCK])).trans ?_
  refine (State.get_set_same _ _ _).trans (Nat.mod_eq_of_lt ?_)
  simp only [R.LANE_STAT.HDR_OFS]
  omega

theorem blockLocked_blkLock (l ofs : Nat) (s : State) : (blockLocked l ofs s).get (R.LANE_STAT.BLK_LOCK l) = 1 :=
  State.get_set_same _ _ _

/-- The lane order that quad `q` takes where it is ganged (R341). -/
def gangOrder (q v : Nat) (s : State) : State := applyIf (s.flag (R.QUAD_STAT.GANG q)) (fun s => s.set (R.QUAD_STAT.REVERSED q) v) s

theorem gangOrder_kept {q : Nat} (hq : q < 24) (v : Nat) (s : State) : SettingsKept s (gangOrder q v s) := by
  unfold gangOrder applyIf
  exact .ite (.set v s (by simp only [Fld.key, R.QUAD_STAT.REVERSED]; omega) (by simp only [Fld.key, R.QUAD_STAT.REVERSED]; omega))
    .refl

theorem gangOrder_get {q v : Nat} {s : State} {f : Fld} (h : f.key ≠ (R.QUAD_STAT.REVERSED q).key) :
    (gangOrder q v s).get f = s.get f := by
  unfold gangOrder applyIf
  split
  · exact State.get_set_ne s v h
  · rfl

theorem gangOrder_reversed {q v : Nat} {s : State} (h : s.flag (R.QUAD_STAT.GANG q) = true) (hv : v < 2) :
    (gangOrder q v s).get (R.QUAD_STAT.REVERSED q) = v := by
  unfold gangOrder applyIf
  rw [if_pos h]
  exact (State.get_set_same _ _ _).trans (Nat.mod_eq_of_lt hv)

theorem blockLocked_gang (l ofs : Nat) (s : State) :
    (blockLocked l ofs s).flag (R.QUAD_STAT.GANG (l / 4)) = s.flag (R.QUAD_STAT.GANG (l / 4)) := by
  rw [State.flag, blockLocked_get]
  · rfl
  all_goals simp only [Fld.key, R.QUAD_STAT.GANG, R.LANE_STAT.HDR_OFS, R.LANE_STAT.BLK_LOCK]; omega

theorem laneOrder_lt (senders : List Nat) : laneOrder senders < 3 := by
  simp only [laneOrder]
  split
  · decide
  · split
    · decide
    · split <;> decide

section

variable {s : State} {l : Fin 96} {ofs : Nat} {senders : List Nat} (hframe : s.laneState l = lsFrame)
  (hlock : s.flag (R.LANE_STAT.BLK_LOCK l) = false)
include hframe hlock

/-- 64 complemented blocks invert the input of the lane. -/
theorem exec_blockLock_complement (hauto : s.flag (R.LANE_CFG.RX_POL_AUTO l) = true) : exec (.blockLock l ofs true senders) s =
    .next (s.set (R.LANE_STAT.RX_INV l) (1 - s.get (R.LANE_STAT.RX_INV l))) := by
  show execBlockLock l ofs true senders s = _
  rw [execBlockLock, if_neg (by simp [hframe, hlock]), if_pos rfl, if_pos hauto, State.setB]
  congr 2
  simp only [State.flag, Bool.not_eq_true', bne_eq_false_iff_eq]
  split <;> omega

variable (hofs : ofs < 66)
include hofs

/-- Block lock in a quad that is not ganged, or whose lanes are in order or in reversed order. -/
theorem exec_blockLock_ordered (horder : s.flag (R.QUAD_STAT.GANG (l / 4)) = false ∨ laneOrder senders < 2) :
    exec (.blockLock l ofs false senders) s =
      .next (passFrame l (gangOrder (l / 4) (laneOrder senders) (blockLocked l ofs s))) := by
  show execBlockLock l ofs false senders s = _
  rw [execBlockLock, if_neg (by simp [hframe, hlock]), if_neg (by simp), if_neg (by omega)]
  show ite ((blockLocked l ofs s).flag (R.QUAD_STAT.GANG (l / 4)) = true) _ _ = _
  rw [gangOrder, applyIf, blockLocked_gang]
  split
  · next hgang =>
    have hcases : laneOrder senders = 0 ∨ laneOrder senders = 1 := by
      have := horder.resolve_left (by simp [hgang])
      omega
    obtain h | h := hcases <;> rw [h] <;> rfl
  · rfl

/-- The lanes of a ganged quad in neither order stop at an order error. -/
theorem exec_blockLock_disordered (hgang : s.flag (R.QUAD_STAT.GANG (l / 4)) = true) (horder : laneOrder senders = 2) :
    exec (.blockLock l ofs false senders) s =
      .next (raise 0x0401 [(1, l / 4)] ((blockLocked l ofs s).set (R.QUAD_STAT.ORDER_ERR (l / 4)) 1)) := by
  show execBlockLock l ofs false senders s = _
  rw [execBlockLock, if_neg (by simp [hframe, hlock]), if_neg (by simp), if_neg (by omega)]
  show ite ((blockLocked l ofs s).flag (R.QUAD_STAT.GANG (l / 4)) = true) _ _ = _
  rw [blockLocked_gang, if_pos hgang, horder]
  rfl

/-- Where block lock leaves the lane: its state, its offset, its lock and the order of its quad. -/
theorem blockLock_leaves (horder : s.flag (R.QUAD_STAT.GANG (l / 4)) = false ∨ laneOrder senders < 2) :
    ∃ t, exec (.blockLock l ofs false senders) s = .next t ∧
      t.laneState l = (if s.baseR l = true then lsUp
        else if s.mode = mBoot ∧ s.flag R.STRAP_LATCH.MCLK_SRC = true ∧ l.val = 0 then lsFrame else lsTrain) ∧
      t.get (R.LANE_STAT.HDR_OFS l) = ofs ∧ t.flag (R.LANE_STAT.BLK_LOCK l) = true ∧
      (s.flag (R.QUAD_STAT.GANG (l / 4)) = true → t.get (R.QUAD_STAT.REVERSED (l / 4)) = laneOrder senders) := by
  have hl := l.isLt
  generalize hu : gangOrder (l / 4) (laneOrder senders) (blockLocked l ofs s) = u
  have hkept : SettingsKept s u := hu ▸ (blockLocked_kept hl ofs s).trans (gangOrder_kept (by omega) _ _)
  have hget : ∀ f : Fld, f.key ≠ (R.QUAD_STAT.REVERSED (l / 4)).key → u.get f = (blockLocked l ofs s).get f := fun f hf =>
    hu ▸ gangOrder_get hf
  have hmode : u.mode = s.mode := by
    refine (hget R.DEV_MODE.MODE ?_).trans (blockLocked_get ?_ ?_)
    all_goals simp only [Fld.key, R.DEV_MODE.MODE, R.QUAD_STAT.REVERSED, R.LANE_STAT.HDR_OFS, R.LANE_STAT.BLK_LOCK]; omega
  have hstate : u.laneState l = lsFrame := by
    refine ((hget _ ?_).trans (blockLocked_get ?_ ?_)).trans hframe
    · simp only [Fld.key, R.LANE_STAT.STATE, R.QUAD_STAT.REVERSED]; omega
    · simp [Fld.key, R.LANE_STAT.STATE, R.LANE_STAT.HDR_OFS]
    · simp [Fld.key, R.LANE_STAT.STATE, R.LANE_STAT.BLK_LOCK]
  have hstrap : u.flag R.STRAP_LATCH.MCLK_SRC = s.flag R.STRAP_LATCH.MCLK_SRC := by
    rw [State.flag, hget, blockLocked_get]
    · rfl
    all_goals simp only [Fld.key, R.STRAP_LATCH.MCLK_SRC, R.QUAD_STAT.REVERSED, R.LANE_STAT.HDR_OFS, R.LANE_STAT.BLK_LOCK]; omega
  refine ⟨_, hu ▸ exec_blockLock_ordered hframe hlock hofs horder, ?_, ?_, ?_, fun hgang => ?_⟩
  · rw [passFrame_state hl hstate, hkept.baseR hl, hmode, hstrap]
  · rw [passFrame_get, hget, blockLocked_hdrOfs hofs]
    all_goals simp only [Fld.OfLanes, Fld.key, R.LANE_STAT.STATE, R.LANE_STAT.FL_OK, R.LANE_STAT.HDR_OFS, R.QUAD_STAT.REVERSED]; omega
  · rw [State.flag, passFrame_get, hget, blockLocked_blkLock]
    · rfl
    all_goals simp only [Fld.OfLanes, Fld.key, R.LANE_STAT.STATE, R.LANE_STAT.FL_OK, R.LANE_STAT.BLK_LOCK, R.QUAD_STAT.REVERSED]; omega
  · rw [passFrame_get, ← hu]
    · refine gangOrder_reversed ((blockLocked_gang _ _ _).trans hgang) (horder.resolve_left (by simp [hgang]))
    all_goals simp only [Fld.OfLanes, Fld.key, R.LANE_STAT.STATE, R.LANE_STAT.FL_OK, R.QUAD_STAT.REVERSED]; omega

end

/-! ## Train and Align (R346–R353) -/

/-- 16 Train done blocks take the lane to Align. -/
theorem trainDone_aligns {s : State} {l : Fin 96} (h : s.laneState l = lsTrain) (h16 : 16 ≤ (s.lst l).trainRx) :
    ∃ t, exec (.trainDone l) s = .next t ∧ t.laneState l = lsAlign ∧ (t.lst l).alignTx = !s.fixedMode l := by
  refine ⟨_, if_pos ⟨h, h16⟩, ?_, ?_⟩
  · exact State.get_set_same s (R.LANE_STAT.STATE l) lsAlign
  · exact congrArg LaneSt.alignTx (State.lst_modLane_same _ _ _)

/-- A bit-slip takes `HDR_OFS` down by 1. -/
theorem bitSlip_slips {s : State} {l : Fin 96} {n : Nat} (h : s.laneState l = lsAlign) (hn : (s.lst l).slips = n + 1) :
    ∃ t, exec (.bitSlip l) s = .next t ∧ t.get (R.LANE_STAT.HDR_OFS l) = (s.get (R.LANE_STAT.HDR_OFS l) + 65) % 66 ∧
      (t.lst l).slips = n ∧ t.laneState l = lsAlign := by
  have hl := l.isLt
  generalize hv : (s.get (R.LANE_STAT.HDR_OFS l) + 65) % 66 = v
  generalize hu : (s.set (R.LANE_STAT.HDR_OFS l) v).modLane l (fun b =>
    { b with slips := b.slips - 1, slipCmd := if b.slips = 1 then 0 else b.slipCmd }) = u
  have huv : u.get (R.LANE_STAT.HDR_OFS l) = v := by
    refine hu ▸ (State.get_set_same s (R.LANE_STAT.HDR_OFS l) v).trans (Nat.mod_eq_of_lt ?_)
    simp only [R.LANE_STAT.HDR_OFS]
    omega
  have hslips : (u.lst l).slips = n := by
    rw [← hu, State.lst_modLane_same]
    exact Nat.sub_eq_of_eq_add hn
  have hstate : u.laneState l = lsAlign :=
    hu ▸ (stat_ne (s := s) (f := R.LANE_STAT.HDR_OFS l) (g := R.LANE_STAT.STATE l) v rfl
      (by simp [R.LANE_STAT.STATE, R.LANE_STAT.HDR_OFS])).trans h
  have hex : exec (.bitSlip l) s = ite ((s.lst l).slips = 1)
      (.next (finishCmd (s.lst l).slipCmd stOk (pack [(1, v)]) false u)) (.next u) := by
    subst hv hu
    exact if_pos ⟨h, by omega⟩
  split at hex
  · have hkept := LanesKept.finishCmd (s.lst l).slipCmd stOk (pack [(1, v)]) false u
    refine ⟨_, hex, (hkept.get _ ?_).trans huv, ?_, (hkept.laneState l hl).trans hstate⟩
    · simp only [Fld.OfLanes, Fld.key, R.LANE_STAT.HDR_OFS]; omega
    · rw [hkept.lst, hslips]
  · exact ⟨u, hex, huv, hslips, hstate⟩

/-- Settles O33, stage by stage. -/
theorem laneBringUpAdvances : Obligations.LaneBringUpAdvances := by
  intro s l
  refine ⟨fun h => if_pos h, fun _ _ => exec_blockLock_complement, fun _ _ h h' => blockLock_leaves h h',
    fun _ _ h h' => exec_blockLock_disordered h h', trainDone_aligns, fun _ => bitSlip_slips,
    fun reads h hfix hofs hlen => ⟨fun hle => ?_, fun hlt => ?_⟩, fun h => if_pos h, fun h hready => ?_, fun h => ?_⟩
  · show execAlignMeasureDone l reads s = _
    rw [execAlignMeasureDone, if_neg (by simp [h, hfix, hofs, hlen])]
    exact if_neg (by omega)
  · show execAlignMeasureDone l reads s = _
    rw [execAlignMeasureDone, if_neg (by simp [h, hfix, hofs, hlen])]
    exact if_pos (by omega)
  · show execBringupTimeout l true s = _
    rw [execBringupTimeout, if_neg (by simp [h]), if_pos rfl, if_pos hready]
  · show execBringupTimeout l false s = _
    rw [execBringupTimeout, if_neg (by simp [h]), if_neg (by simp)]

end Sys2Proof.Machine
end
section
/-! PROOFS. What a lane that goes down shows (R343), with the status of lanes in Fail and Up. -/

namespace Sys2Proof.Machine

/-- The registers that a restart of lane `l` changes. -/
def restartFields (l : Nat) : List Fld :=
  [R.LANE_STAT.STATE l, R.LANE_STAT.REASON l, R.LANE_STAT.CDR_LOCK l, R.LANE_STAT.BLK_LOCK l, R.LANE_STAT.FROZEN l,
    R.LANE_STAT.FL_OK l]

/-- `f` is none of the fields in `l`. -/
def Fld.NotIn (f : Fld) (l : List Fld) : Prop := ∀ g ∈ l, f.key ≠ g.key

theorem forEach_clear_get {f : Fld} (l : List Fld) (s : State) (h : f.NotIn l) :
    (forEach l (fun g s => s.set g 0) s).get f = s.get f := by
  induction l generalizing s with
  | nil => rfl
  | cons g l ih =>
    exact (ih _ fun k hk => h k (List.mem_cons_of_mem g hk)).trans (State.get_set_ne s 0 (h g List.mem_cons_self))

theorem Fld.NotIn.mono {f : Fld} {k l : List Fld} (h : f.NotIn l) (hk : ∀ g ∈ k, g ∈ l) : f.NotIn k :=
  fun g hg => h g (hk g hg)

/-- The locks of lane `l` that its bring-up clears. -/
def bringUpLocks (l : Nat) : List Fld := [R.LANE_STAT.CDR_LOCK l, R.LANE_STAT.BLK_LOCK l, R.LANE_STAT.FROZEN l, R.LANE_STAT.FL_OK l]

theorem bringUp_get {l : Nat} {f : Fld} (s : State) (h : f.NotIn (restartFields l)) : (bringUp l s).get f = s.get f := by
  have hst : f.key ≠ (R.LANE_STAT.STATE l).key := h _ (by simp [restartFields])
  have hreason : f.key ≠ (R.LANE_STAT.REASON l).key := h _ (by simp [restartFields])
  have hlocks : f.NotIn (bringUpLocks l) := h.mono (by simp [restartFields, bringUpLocks])
  unfold bringUp
  split
  · exact State.get_set_ne _ _ hst
  · split
    · exact (State.get_set_ne _ _ hreason).trans (State.get_set_ne _ _ hst)
    · split
      · exact State.get_set_ne s lsIdle hst
      · exact (State.get_set_ne _ _ hst).trans (forEach_clear_get _ _ hlocks)

/-- A bring-up writes the reason of a lane only where its rate is out of range. -/
theorem bringUp_reason {l : Nat} {s : State} (h : s.rateOk l = true) :
    (bringUp l s).get (R.LANE_STAT.REASON l) = s.get (R.LANE_STAT.REASON l) := by
  have hst : (R.LANE_STAT.REASON l).key ≠ (R.LANE_STAT.STATE l).key := by simp [Fld.key, R.LANE_STAT.REASON, R.LANE_STAT.STATE]
  have hlocks : (R.LANE_STAT.REASON l).NotIn (bringUpLocks l) := by
    simp [Fld.NotIn, bringUpLocks, Fld.key, R.LANE_STAT.REASON, R.LANE_STAT.CDR_LOCK, R.LANE_STAT.BLK_LOCK, R.LANE_STAT.FROZEN,
      R.LANE_STAT.FL_OK]
  unfold bringUp
  rw [h]
  split
  · exact State.get_set_ne _ _ hst
  · split
    · next hno => exact absurd hno (by simp)
    · split
      · exact State.get_set_ne s lsIdle hst
      · exact (State.get_set_ne _ _ hst).trans (forEach_clear_get _ _ hlocks)

/-- A restarted lane is Off, Idle or in Acquire. -/
theorem bringUp_state (l : Nat) (s : State) : (bringUp l s).laneState l ∈ [lsOff, lsIdle, lsAcquire] := by
  have hset : ∀ s, ∀ n < 16, (setLane l n s).laneState l = n := fun s n hn => (State.get_set_same _ _ _).trans (Nat.mod_eq_of_lt hn)
  unfold bringUp
  split
  · simp [hset s lsOff (by decide)]
  · split
    · have hoff : ((setLane l lsOff s).set (R.LANE_STAT.REASON l) 9).laneState l = lsOff :=
        (stat_ne (f := R.LANE_STAT.REASON l) (g := R.LANE_STAT.STATE l) _ rfl (by simp [R.LANE_STAT.STATE, R.LANE_STAT.REASON])).trans
          (hset s lsOff (by decide))
      simp [hoff]
    · split
      · simp [show State.laneState ((setLane l lsIdle s).modLane l _) l = lsIdle from hset s lsIdle (by decide)]
      · simp [hset _ lsAcquire (by decide)]

/-- The registers that the loss of MCLK changes. -/
def mclkLossFields : List Fld :=
  [R.MCLK_STAT.LOSS, R.MCLK_STAT.HOLD, R.MCLK_STAT.PRESENT, R.CLK_LOST.LOST, R.SYNC_STAT.STATE]

theorem mclkLossFields_apart : ∀ g ∈ mclkLossFields, g.key < 0x700000 * 64 ∨ 0x800400 * 64 ≤ g.key := by decide

theorem State.bundleOf_le (s : State) (l : Nat) : s.bundleOf l ≤ l := by
  unfold State.bundleOf
  split
  · omega
  · split <;> omega

theorem setBit_get_ne {f g : Fld} (i : Nat) (b : Bool) (s : State) (h : f.key ≠ g.key) : (s.setBit g i b).get f = s.get f := by
  unfold State.setBit
  split
  · rfl
  · exact State.get_set_ne s _ h

theorem syncHoldover_true_get {f : Fld} (s : State) (h : f.key ≠ R.SYNC_STAT.STATE.key) : (syncHoldover true s).get f = s.get f := by
  rw [syncHoldover, if_pos rfl]
  split
  · rfl
  · exact State.get_set_ne s _ h

theorem loseMclk_get {f : Fld} (s : State) (hp : f.Plain) (h : f.NotIn mclkLossFields) : (loseMclk s).get f = s.get f := by
  have hne : ∀ g ∈ mclkLossFields, f.key ≠ g.key := h
  simp only [mclkLossFields, List.forall_mem_cons] at hne
  obtain ⟨hloss, hhold, hpresent, hlost, hsync, -⟩ := hne
  rw [loseMclk, syncHoldover_true_get _ hsync, raise_get _ _ _ _ hp, setBit_get_ne _ _ _ hlost, State.get_set_ne _ _ hpresent,
    State.get_set_ne _ _ hhold, State.get_set_ne _ _ hloss]

theorem loseMclk_linkUp {f : Nat} (hf : f < 96) (s : State) :
    (loseMclk s).get (R.LINK_STAT.LINK_UP f) = s.get (R.LINK_STAT.LINK_UP f) := by
  refine loseMclk_get _ ?_ ?_
  · intro hc
    simp only [Fld.key, R.LINK_STAT.LINK_UP] at hc
    omega
  · intro g hg he
    have hapart := mclkLossFields_apart g hg
    simp only [Fld.key, R.LINK_STAT.LINK_UP] at he hapart
    omega

/-- Where a bundle loses a lane, that bundle is down, and one that was down stays so. -/
theorem bundleCheckDown_down {l f : Nat} (hf : f < 96) {s : State} (h : f = s.bundleOf l ∨ s.get (R.LINK_STAT.LINK_UP f) = 0) :
    (bundleCheckDown l s).get (R.LINK_STAT.LINK_UP f) = 0 := by
  have hset : (s.set (R.LINK_STAT.LINK_UP (s.bundleOf l)) 0).get (R.LINK_STAT.LINK_UP f) = 0 := by
    by_cases he : f = s.bundleOf l
    · exact he ▸ State.get_set_same _ _ _
    · refine (State.get_set_ne _ _ ?_).trans (h.resolve_left he)
      simp only [Fld.key, R.LINK_STAT.LINK_UP]
      omega
  unfold bundleCheckDown applyIf
  dsimp only
  split
  · exact (loseMclk_linkUp hf _).trans hset
  · exact hset

/-- A bundle that loses a lane is not up. -/
theorem bundleCheckDown_linkUp {l : Nat} (hl : l < 96) (s : State) :
    (bundleCheckDown l s).get (R.LINK_STAT.LINK_UP (s.bundleOf l)) = 0 :=
  bundleCheckDown_down (lt_of_le_of_lt (s.bundleOf_le l) hl) (.inl rfl)

/-! ## A lane that goes down -/

/-- Lane `l` as it goes down: its flag, its count and its reason. -/
def markDown (l r : Nat) (s : State) : State :=
  ((s.set (R.LANE_STAT.DOWN l) 1).inc (R.LANE_STAT.DOWN_CNT l)).set (R.LANE_STAT.REASON l) r

theorem markDown_kept {l : Nat} (hl : l < 96) (r : Nat) (s : State) : SettingsKept s (markDown l r s) :=
  .trans (.trans (.setStat hl _ _ rfl (by simp [R.LANE_STAT.DOWN])) (.setStat hl _ _ rfl (by simp [R.LANE_STAT.DOWN_CNT])))
    (.setStat hl _ _ rfl (by simp [R.LANE_STAT.REASON]))

theorem markDown_down (l r : Nat) (s : State) : (markDown l r s).get (R.LANE_STAT.DOWN l) = 1 := by
  rw [markDown, State.get_set_ne, State.inc, State.addSat, State.get_set_ne, State.get_set_same]
  · rfl
  all_goals simp [Fld.key, R.LANE_STAT.DOWN, R.LANE_STAT.REASON, R.LANE_STAT.DOWN_CNT]

theorem markDown_count (l r : Nat) (s : State) :
    (markDown l r s).get (R.LANE_STAT.DOWN_CNT l) = min (s.get (R.LANE_STAT.DOWN_CNT l) + 1) 255 := by
  rw [markDown, State.get_set_ne, State.inc, State.addSat, State.get_set_same, State.get_set_ne]
  · simp only [R.LANE_STAT.DOWN_CNT]
    omega
  all_goals simp [Fld.key, R.LANE_STAT.DOWN, R.LANE_STAT.REASON, R.LANE_STAT.DOWN_CNT]

theorem markDown_reason {l r : Nat} (hr : r < 16) (s : State) : (markDown l r s).get (R.LANE_STAT.REASON l) = r :=
  (State.get_set_same _ _ _).trans (Nat.mod_eq_of_lt hr)

/-- What the bundle, the event and the locks add to a lane that goes down. -/
def dropLink (l r : Nat) (s : State) : State :=
  forEach [R.LANE_STAT.CDR_LOCK l, R.LANE_STAT.BLK_LOCK l] (fun f s => s.set f 0) (raise 0x0403 [(1, l), (1, r)] (bundleCheckDown l s))

theorem dropLink_settings {l : Nat} (hl : l < 96) (r : Nat) (s : State) : SettingsKept s (dropLink l r s) :=
  .trans (.trans (LanesKept.bundleCheckDown _ _).settings (LanesKept.raise _ _ _).settings)
    (.trans (.setStat hl _ _ rfl (by simp [R.LANE_STAT.CDR_LOCK])) (.setStat hl _ _ rfl (by simp [R.LANE_STAT.BLK_LOCK])))

theorem dropLink_get {l r : Nat} {f : Fld} (s : State) (hf : f.OfLanes) (h : f.NotIn [R.LANE_STAT.CDR_LOCK l, R.LANE_STAT.BLK_LOCK l]) :
    (dropLink l r s).get f = s.get f :=
  (forEach_clear_get _ _ h).trans (((LanesKept.bundleCheckDown l s).trans (.raise _ _ _)).get f hf)

theorem dropLink_linkUp {l : Nat} (hl : l < 96) (r : Nat) (s : State) :
    (dropLink l r s).get (R.LINK_STAT.LINK_UP (s.bundleOf l)) = 0 := by
  refine (forEach_clear_get _ _ ?_).trans ((raise_get _ _ _ _ ?_).trans (bundleCheckDown_linkUp hl s))
  · simp only [Fld.NotIn, List.forall_mem_cons, Fld.key, R.LINK_STAT.LINK_UP, R.LANE_STAT.CDR_LOCK, R.LANE_STAT.BLK_LOCK]
    exact ⟨by omega, by omega, by simp⟩
  · intro hc
    simp only [Fld.key, R.LINK_STAT.LINK_UP] at hc
    omega

/-- Where a lane that went down goes on: Off, Idle or a new bring-up (R343, R362). -/
def leaveUp (l r : Nat) (s : State) : State :=
  if r = 0xB then setLane l lsOff s
  else if s.flag (R.LANE_CFG.AUTO_RETRAIN l) then
    if r = 0xA then (setLane l lsIdle s).modLane l fun b => { b with waitClk := true } else bringUp l s
  else setLane l lsIdle s

theorem downLane_eq (l r : Nat) (s : State) : downLane l r s = leaveUp l r (dropLink l r (markDown l r s)) := (rfl)

/-- A lane that leaves Up is set to Off or Idle, or is brought up again. -/
theorem leaveUp_cases (l r : Nat) (s : State) : leaveUp l r s = setLane l lsOff s ∨ leaveUp l r s = setLane l lsIdle s ∨
    leaveUp l r s = (setLane l lsIdle s).modLane l (fun b => { b with waitClk := true }) ∨ leaveUp l r s = bringUp l s := by
  unfold leaveUp
  split
  · exact .inl rfl
  · split
    · split
      · exact .inr (.inr (.inl rfl))
      · exact .inr (.inr (.inr rfl))
    · exact .inr (.inl rfl)

theorem leaveUp_state (l r : Nat) (s : State) : (leaveUp l r s).laneState l ≠ lsUp := by
  have hset : ∀ n < 16, n ≠ lsUp → (setLane l n s).laneState l ≠ lsUp := fun n hn hne =>
    ne_of_eq_of_ne ((State.get_set_same _ _ _).trans (Nat.mod_eq_of_lt hn)) hne
  obtain h | h | h | h := leaveUp_cases l r s <;> rw [h]
  · exact hset lsOff (by decide) (by decide)
  · exact hset lsIdle (by decide) (by decide)
  · exact hset lsIdle (by decide) (by decide)
  · have hmem := bringUp_state l s
    intro hup
    rw [hup] at hmem
    exact absurd hmem (by decide)

theorem leaveUp_get {l : Nat} {f : Fld} (r : Nat) (s : State) (h : f.NotIn (restartFields l)) : (leaveUp l r s).get f = s.get f := by
  have hst : ∀ n, (setLane l n s).get f = s.get f := fun n => State.get_set_ne s n (h _ (by simp [restartFields]))
  obtain h' | h' | h' | h' := leaveUp_cases l r s <;> rw [h']
  · exact hst lsOff
  · exact hst lsIdle
  · exact hst lsIdle
  · exact bringUp_get s h

theorem leaveUp_reason {l : Nat} {s : State} (r : Nat) (h : s.rateOk l = true) :
    (leaveUp l r s).get (R.LANE_STAT.REASON l) = s.get (R.LANE_STAT.REASON l) := by
  have hst : ∀ n, (setLane l n s).get (R.LANE_STAT.REASON l) = s.get (R.LANE_STAT.REASON l) := fun n =>
    State.get_set_ne s n (by simp [Fld.key, R.LANE_STAT.REASON, R.LANE_STAT.STATE])
  obtain h' | h' | h' | h' := leaveUp_cases l r s <;> rw [h']
  · exact hst lsOff
  · exact hst lsIdle
  · exact hst lsIdle
  · exact bringUp_reason h

/-! ## The status registers together -/

theorem enterUp_flOk {l : Nat} (hl : l < 96) (late : Bool) (s : State) :
    (enterUp l late s).flag (R.LANE_STAT.FL_OK l) = true ↔ s.fixedMode l = true ∧
      flOk (s.laneK l) (s.get (R.LANE_FL.L_MEAS l)) (s.get (R.LANE_FL.FL_LAT l)) = true := by
  have hkept : SettingsKept s (upLane l late s) :=
    .trans (.setStat hl lsUp s rfl (by simp [R.LANE_STAT.STATE])) (.modLane _ _ _)
  have hfl : ∀ f : Fld, f.key ≠ (R.LANE_STAT.STATE l).key → (upLane l late s).get f = s.get f := fun f hf =>
    State.get_set_ne s lsUp hf
  rw [State.flag, (enterUp_kept l late s).get, ← State.flag, takeLatency_flOk hl, hkept.fixedMode hl, hkept.laneK hl, hfl, hfl]
  all_goals simp only [Fld.OfLanes, Fld.key, R.LANE_STAT.STATE, R.LANE_STAT.FL_OK, R.LANE_FL.L_MEAS, R.LANE_FL.FL_LAT]; omega

/-- What a lane that went down shows, and its bundle (R343, R383). -/
theorem downLane_status {l r : Nat} (hl : l < 96) (hr : r < 16) (s : State) :
    (downLane l r s).laneState l ≠ lsUp ∧ (downLane l r s).flag (R.LANE_STAT.DOWN l) = true ∧
    (s.rateOk l = true → (downLane l r s).get (R.LANE_STAT.REASON l) = r) ∧
    (downLane l r s).get (R.LANE_STAT.DOWN_CNT l) = min (s.get (R.LANE_STAT.DOWN_CNT l) + 1) 255 ∧
    (downLane l r s).flag (R.LINK_STAT.LINK_UP (s.bundleOf l)) = false := by
  have hmark := markDown_kept hl r s
  have hdrop := hmark.trans (dropLink_settings hl r _)
  rw [downLane_eq]
  refine ⟨leaveUp_state _ _ _, ?_, fun hrate => ?_, ?_, ?_⟩
  · rw [State.flag, leaveUp_get, dropLink_get, markDown_down]
    · rfl
    · simp only [Fld.OfLanes, Fld.key, R.LANE_STAT.DOWN]
      omega
    all_goals simp [Fld.NotIn, restartFields, Fld.key, R.LANE_STAT.STATE, R.LANE_STAT.REASON, R.LANE_STAT.CDR_LOCK,
      R.LANE_STAT.BLK_LOCK, R.LANE_STAT.FROZEN, R.LANE_STAT.FL_OK, R.LANE_STAT.DOWN]
  · rw [leaveUp_reason r ((hdrop.rateOk hl).trans hrate), dropLink_get, markDown_reason hr]
    · simp only [Fld.OfLanes, Fld.key, R.LANE_STAT.REASON]
      omega
    · simp [Fld.NotIn, Fld.key, R.LANE_STAT.REASON, R.LANE_STAT.CDR_LOCK, R.LANE_STAT.BLK_LOCK]
  · rw [leaveUp_get, dropLink_get, markDown_count]
    · simp only [Fld.OfLanes, Fld.key, R.LANE_STAT.DOWN_CNT]
      omega
    all_goals simp [Fld.NotIn, restartFields, Fld.key, R.LANE_STAT.STATE, R.LANE_STAT.REASON, R.LANE_STAT.CDR_LOCK,
      R.LANE_STAT.BLK_LOCK, R.LANE_STAT.FROZEN, R.LANE_STAT.FL_OK, R.LANE_STAT.DOWN_CNT]
  · rw [State.flag, leaveUp_get, ← hmark.bundleOf hl, dropLink_linkUp hl]
    · rfl
    · simp only [Fld.NotIn, restartFields, List.forall_mem_cons, Fld.key, R.LINK_STAT.LINK_UP, R.LANE_STAT.STATE, R.LANE_STAT.REASON,
        R.LANE_STAT.CDR_LOCK, R.LANE_STAT.BLK_LOCK, R.LANE_STAT.FROZEN, R.LANE_STAT.FL_OK]
      exact ⟨by omega, by omega, by omega, by omega, by omega, by omega, by simp⟩

/-- Settles O34, from what a failure, an entry to Up and a going down write. -/
theorem laneStatusShowsItsState : Obligations.LaneStatusShowsItsState := by
  refine ⟨fun s l k late => ⟨(failLane_status l.isLt).1, (failLane_status l.isLt).2.trans (Nat.mod_eq_of_lt k.isLt),
    enterUp_state l.isLt late s, enterUp_flOk l.isLt late s⟩, fun s l r hup hr hhalf => ⟨_, if_pos ⟨hup, hr, hhalf⟩, ?_⟩⟩
  refine downLane_status l.isLt ?_ s
  have hlt : ∀ r ∈ [2, 3, 8, 0xA, 0xB, 0xC], r < 16 := by decide
  exact hlt r hr

end Sys2Proof.Machine
end

section
/-! PROOFS. The error counter of a checker wraps (R91, R363). -/

namespace Sys2Proof.Machine

/-- Lane 0 in Test with pattern 7, its checker locked, and its error counter at its greatest value. -/
def fullErrCnt : State :=
  { State.reset with
    regs := [((R.LANE_STAT.STATE 0).key, lsTest), ((R.LANE_ERR.ERR_CNT 0).key, 2 ^ 32 - 1), ((R.LANE_ERR.PRBS_LOCK 0).key, 1)]
    lane := { State.reset.lane with lanes := [(0, { LaneSt.init with pattern := 7 })] } }

/-- The error counter of lane 0 in the state that a command leaves. -/
def errCntAfter : Out → Option Nat
  | .next t => some (t.get (R.LANE_ERR.ERR_CNT 0))
  | _ => none

/-- One bit in error takes the full counter to 0. -/
theorem prbsCheck_wraps : errCntAfter (exec (.prbsCheck 0 [true] 0) fullErrCnt) = some 0 := by decide +kernel

/-- Refutes O36: `ERR_CNT` counts by R91 and wraps, where the statement says that it stops at its greatest value. -/
theorem not_laneEventsComplete : ¬ Obligations.LaneEventsComplete := by
  unfold Obligations.LaneEventsComplete
  intro h
  obtain ⟨-, -, -, -, -, -, -, -, -, -, -, -, -, -, -, -, -, hcheck, -⟩ := h fullErrCnt 0
  obtain ⟨t, hexec, -, -, hcnt⟩ := hcheck [true] 0 (by decide +kernel) (by decide +kernel)
  have hzero := prbsCheck_wraps
  rw [hexec] at hzero
  have hsat : t.get (R.LANE_ERR.ERR_CNT 0) = 2 ^ 32 - 1 := hcnt.trans (by decide +kernel)
  exact absurd ((Option.some.inj hzero).symm.trans hsat) (by decide)

end Sys2Proof.Machine
end

section
/-! PROOFS. The lane commands of Table 11-16. -/

namespace Sys2Proof.Machine

/-! ## A sweep over the lanes of a mask -/

theorem forEach_append {α : Type} (l k : List α) (f : α → State → State) (s : State) :
    forEach (l ++ k) f s = forEach k f (forEach l f s) := List.foldl_append

theorem forEach_mem_ind {α : Type} {P : State → Prop} {f : α → State → State} (l : List α) (s : State) (h : P s)
    (hf : ∀ a ∈ l, ∀ u, P u → P (f a u)) : P (forEach l f s) := by
  induction l generalizing s with
  | nil => exact h
  | cons a l ih => exact ih _ (hf a List.mem_cons_self s h) fun b hb => hf b (List.mem_cons_of_mem a hb)

/-- In a sweep, element `a` has one step of its own; what the other steps keep holds before it and after it. -/
theorem forEach_at {α : Type} {f : α → State → State} {R : State → State → Prop} {l : List α} {a : α} (s : State)
    (hrefl : ∀ u, R u u) (htrans : ∀ u v w, R u v → R v w → R u w) (ha : a ∈ l) (hl : l.Nodup)
    (hf : ∀ b ∈ l, b ≠ a → ∀ u, R u (f b u)) : ∃ u, R s u ∧ R (f a u) (forEach l f s) := by
  obtain ⟨l₁, l₂, rfl⟩ := List.append_of_mem ha
  have hmid := List.nodup_middle.1 hl
  have hnot : a ∉ l₁ ++ l₂ := (List.nodup_cons.1 hmid).1
  have hkeep : ∀ k, (∀ b ∈ k, b ∈ l₁ ++ l₂) → ∀ u, R u (forEach k f u) := fun k hk u =>
    forEach_mem_ind (P := R u) k u (hrefl u) fun b hb v hv => htrans _ _ _ hv
      (hf b (by have := hk b hb; simp only [List.mem_append, List.mem_cons] at this ⊢; tauto) (fun he => hnot (he ▸ hk b hb)) v)
  refine ⟨forEach l₁ f s, hkeep l₁ (fun b hb => List.mem_append_left _ hb) s, ?_⟩
  rw [forEach_append, forEach_cons]
  exact hkeep l₂ (fun b hb => List.mem_append_right _ hb) _

theorem maskLanes_nodup (mask : Nat) : (maskLanes mask).Nodup := List.nodup_range.filter _

theorem lt_of_mem_maskLanes {mask l : Nat} (h : l ∈ maskLanes mask) : l < 96 := List.mem_range.1 (List.mem_of_mem_filter h)

/-! ## What the other lanes keep of a lane -/

theorem State.lst_modLane_ne {l k : Nat} (h : l ≠ k) (s : State) (f : LaneSt → LaneSt) : (s.modLane k f).lst l = s.lst l :=
  at'_putD_ne s.lane.lanes LaneSt.init LaneSt.init _ h

/-- From `s` to `t` lane `l` keeps its settings and its state, and no bundle comes up. -/
structure LaneKept (l : Nat) (s t : State) : Prop where
  settings : SettingsKept s t
  state : t.laneState l = s.laneState l
  lst : t.lst l = s.lst l
  down : ∀ f < 96, s.get (R.LINK_STAT.LINK_UP f) = 0 → t.get (R.LINK_STAT.LINK_UP f) = 0

namespace LaneKept

variable {l k : Nat} {s t u : State}

theorem refl (s : State) : LaneKept l s s := ⟨.refl, rfl, rfl, fun _ _ h => h⟩

theorem trans (s t u : State) (h : LaneKept l s t) (h' : LaneKept l t u) : LaneKept l s u :=
  ⟨h.settings.trans h'.settings, h'.state.trans h.state, h'.lst.trans h.lst, fun f hf h0 => h'.down f hf (h.down f hf h0)⟩

theorem ite {c : Prop} [Decidable c] (ht : LaneKept l s t) (hu : LaneKept l s u) : LaneKept l s (if c then t else u) := by
  split <;> assumption

theorem modLane (hne : l ≠ k) (f : LaneSt → LaneSt) (s : State) : LaneKept l s (s.modLane k f) :=
  ⟨.modLane _ _ _, rfl, State.lst_modLane_ne hne _ _, fun _ _ h => h⟩

/-- A write of a status register of another lane. -/
theorem setStat (hk : k < 96) {f : Fld} (v : Nat) (s : State) (hne : l ≠ k) (ha : f.addr = 0x700200 + 4 * k) (hb : f.lsb < 64) :
    LaneKept l s (s.set f v) := by
  refine ⟨.setStat hk v s ha hb, State.get_set_ne s v ?_, rfl, fun g hg h => (State.get_set_ne s v ?_).trans h⟩
  · simp only [Fld.key, ha, R.LANE_STAT.STATE]
    omega
  · simp only [Fld.key, ha, R.LINK_STAT.LINK_UP]
    omega

theorem setLane (hk : k < 96) (hne : l ≠ k) (n : Nat) (s : State) : LaneKept l s (setLane k n s) :=
  .setStat hk n s hne rfl (by simp [R.LANE_STAT.STATE])

theorem clearStat (hk : k < 96) (hne : l ≠ k) (fs : List Fld) (s : State)
    (h : ∀ f ∈ fs, f.addr = 0x700200 + 4 * k ∧ f.lsb < 64) : LaneKept l s (forEach fs (fun f s => s.set f 0) s) :=
  forEach_mem_ind (P := LaneKept l s) fs s (refl s) fun f hf u hu =>
    hu.trans _ _ _ (.setStat hk 0 u hne (h f hf).1 (h f hf).2)

theorem bringUp (hk : k < 96) (hne : l ≠ k) (s : State) : LaneKept l s (bringUp k s) := by
  unfold Machine.bringUp
  refine .ite (.setLane hk hne _ s) (.ite ?_ (.ite ?_ ?_))
  · exact .trans _ _ _ (.setLane hk hne lsOff s) (.setStat hk 9 _ hne rfl (by simp [R.LANE_STAT.REASON]))
  · exact .trans _ _ _ (.setLane hk hne lsIdle s) (.modLane hne _ _)
  · refine .trans _ _ _ (.trans _ _ _ (.modLane hne _ s) (.clearStat hk hne (bringUpLocks k) _ ?_)) (.setLane hk hne lsAcquire _)
    simp [bringUpLocks, R.LANE_STAT.CDR_LOCK, R.LANE_STAT.BLK_LOCK, R.LANE_STAT.FROZEN, R.LANE_STAT.FL_OK]

theorem bundleCheckDown (hl : l < 96) (k : Nat) (s : State) : LaneKept l s (bundleCheckDown k s) :=
  have h := LanesKept.bundleCheckDown k s
  ⟨h.settings, h.laneState l hl, h.lst l, fun _ hf h0 => bundleCheckDown_down hf (.inr h0)⟩

theorem settleUps (hl : l < 96) (s : State) : (settleUps s).laneState l = s.laneState l ∧ (Machine.settleUps s).lst l = s.lst l :=
  ⟨(LanesKept.settleUps s).laneState l hl, (LanesKept.settleUps s).lst l⟩

/-- The step of lane `l` in a sweep over a mask, with what the other lanes keep of it. -/
theorem sweep {mask : Nat} {f : Nat → State → State} (s : State) (hl : l ∈ maskLanes mask)
    (hf : ∀ k < 96, l ≠ k → ∀ u, LaneKept l u (f k u)) :
    ∃ u, LaneKept l s u ∧ LaneKept l (f l u) (forEach (maskLanes mask) f s) :=
  forEach_at s refl trans hl (maskLanes_nodup mask) fun k hk hne => hf k (lt_of_mem_maskLanes hk) (Ne.symm hne)

end LaneKept

/-! ## The steps of the sweeps -/

theorem setLane_state {l n : Nat} (hn : n < 16) (s : State) : (setLane l n s).laneState l = n :=
  (State.get_set_same _ _ _).trans (Nat.mod_eq_of_lt hn)

/-- A bring-up that nothing stops starts in Acquire. -/
theorem bringUp_acquires {l : Nat} {s : State} (hfence : s.test.fenced.contains (8, l) = false) (hrate : s.rateOk l = true)
    (hlock : s.bit R.CLK_LOCK.LOCK (sideDomain l) = true) : (bringUp l s).laneState l = lsAcquire := by
  rw [bringUp, if_neg (by rw [hfence]; decide), if_neg (by simp [hrate]), if_neg (by simp [hlock])]
  exact setLane_state (by decide) _

theorem bringUp_upMs (l : Nat) (s : State) : ((bringUp l s).lst l).upMs = (s.lst l).upMs := by
  unfold bringUp
  split
  · rfl
  · split
    · rfl
    · split
      · rw [State.lst_modLane_same]
        rfl
      · simp [State.lst, setLane, State.set, State.modLane, at'_putD_same]

/-- What `LANE_UP` does to each lane it names. -/
def laneUpStep (time l : Nat) (s : State) : State :=
  let s := s.modLane l fun b => { b with upMs := if time = 0 then 500 else time }
  let st := s.laneState l
  if st = lsOff ∨ st = lsIdle ∨ st = lsFail then bringUp l s else s

theorem laneUpStep_kept {l k : Nat} (hk : k < 96) (hne : l ≠ k) (time : Nat) (s : State) : LaneKept l s (laneUpStep time k s) :=
  .trans _ _ _ (.modLane hne _ s) (.ite (.bringUp hk hne _) (.refl _))

theorem laneUpStep_down {time l : Nat} {s : State} (h : s.laneState l = lsIdle ∨ s.laneState l = lsFail ∨ s.laneState l = lsOff) :
    laneUpStep time l s = bringUp l (s.modLane l fun b => { b with upMs := if time = 0 then 500 else time }) :=
  if_pos (show s.laneState l = lsOff ∨ s.laneState l = lsIdle ∨ s.laneState l = lsFail by tauto)

/-- What `LANE_DOWN` does to each lane it names. -/
def laneDownStep (l : Nat) (s : State) : State :=
  let s := bundleCheckDown l (setLane l lsIdle s)
  forEach [R.LANE_STAT.CDR_LOCK l, R.LANE_STAT.BLK_LOCK l] (fun f s => s.set f 0)
    (s.modLane l fun b => { b with waitClk := false, exiting := false, rxHalf := 0 })

theorem laneDownStep_kept {l k : Nat} (hl : l < 96) (hk : k < 96) (hne : l ≠ k) (s : State) : LaneKept l s (laneDownStep k s) := by
  refine .trans _ _ _ (.trans _ _ _ (.setLane hk hne lsIdle s) (.bundleCheckDown hl k _))
    (.trans _ _ _ (.modLane hne _ _) (.clearStat hk hne _ _ ?_))
  simp [R.LANE_STAT.CDR_LOCK, R.LANE_STAT.BLK_LOCK]

theorem laneDownStep_status {l : Nat} (hl : l < 96) (s : State) :
    (laneDownStep l s).laneState l = lsIdle ∧ (laneDownStep l s).get (R.LINK_STAT.LINK_UP (s.bundleOf l)) = 0 := by
  have hset : SettingsKept s (setLane l lsIdle s) := .setStat hl lsIdle s rfl (by simp [R.LANE_STAT.STATE])
  constructor
  · refine (forEach_clear_get _ _ ?_).trans
      (((LanesKept.bundleCheckDown l (setLane l lsIdle s)).laneState l hl).trans (setLane_state (by decide) s))
    simp [Fld.NotIn, Fld.key, R.LANE_STAT.STATE, R.LANE_STAT.CDR_LOCK, R.LANE_STAT.BLK_LOCK]
  · rw [← hset.bundleOf hl]
    refine (forEach_clear_get _ _ ?_).trans (bundleCheckDown_linkUp hl (setLane l lsIdle s))
    simp only [Fld.NotIn, List.forall_mem_cons, Fld.key, R.LINK_STAT.LINK_UP, R.LANE_STAT.CDR_LOCK, R.LANE_STAT.BLK_LOCK]
    exact ⟨by omega, by omega, by simp⟩

/-- What `LANE_POWER` does to each lane it names. -/
def lanePowerStep (state l : Nat) (s : State) : State :=
  if state = 0 then exitDoze l s
  else if s.laneState l = lsUp then bundleCheckDown l (dozeLane (state - 1) l s)
  else s

theorem lanePowerStep_kept {l k : Nat} (hl : l < 96) (hk : k < 96) (hne : l ≠ k) (p : Nat) (s : State) :
    LaneKept l s (lanePowerStep p k s) := by
  unfold lanePowerStep exitDoze
  refine .ite (.ite (.modLane hne _ s) (.ite (.trans _ _ _ (.bringUp hk hne s) (.modLane hne _ _)) (.refl s))) (.ite ?_ (.refl s))
  exact .trans _ _ _ (.trans _ _ _ (.modLane hne _ s) (.setLane hk hne _ _)) (.bundleCheckDown hl k _)

theorem lanePowerStep_up {l p : Nat} (hl : l < 96) (hp : p < 3) {s : State} (h : s.laneState l = lsUp) :
    (lanePowerStep p l s).laneState l = if p = 0 then lsUp else if p = 1 then lsDoze else lsSleep := by
  unfold lanePowerStep
  split
  · rw [exitDoze, if_neg (by rw [h]; decide), if_neg (by rw [h]; decide), h]
  · next hp0 =>
    have hp1 : p - 1 = 0 ↔ p = 1 := by omega
    simp only [(LanesKept.bundleCheckDown l _).laneState l hl, dozeLane, hp1]
    exact setLane_state (by split <;> decide) _

theorem lanePowerStep_doze {l : Nat} (p : Nat) {s : State} (h : s.laneState l = lsDoze) (he : (s.lst l).exiting = false) :
    (lanePowerStep p l s).laneState l = lsDoze ∧ ((lanePowerStep p l s).lst l).exiting = (p == 0) := by
  unfold lanePowerStep
  split
  · next hp0 =>
    rw [exitDoze, if_pos h, State.lst_modLane_same, hp0]
    exact ⟨h, rfl⟩
  · next hp0 =>
    rw [if_neg (by rw [h]; decide), he]
    exact ⟨h, by simp [hp0]⟩

/-- Lane `l` with the pattern, the inversion and the loopback of `LANE_TEST`. -/
def setTest (l p inv loop : Nat) (s : State) : State :=
  (s.modLane l fun b =>
    { b with pattern := p, invert := inv == 1, loop := loop, lbSlip := false, clean := 0, hist := [], chk := 0,
             gen := s.freeBelow (2 ^ p - 1) + 1 }).useFree

theorem setTest_lst (l p inv loop : Nat) (s : State) : (setTest l p inv loop s).lst l =
    { s.lst l with pattern := p, invert := inv == 1, loop := loop, lbSlip := false, clean := 0, hist := [], chk := 0,
                   gen := s.freeBelow (2 ^ p - 1) + 1 } :=
  at'_putD_same s.lane.lanes l LaneSt.init _

/-- The points of an eye scan. -/
def eyePoints (p0 p1 o0 o1 : Nat) : List (Nat × Nat) :=
  (List.range (sbyte p1 - sbyte p0 + 1).toNat).flatMap fun i =>
    (List.range (sbyte o1 - sbyte o0 + 1).toNat).map fun j => ((p0 + i) % 256, (o0 + j) % 256)

theorem eyePoints_length {p0 p1 o0 o1 : Nat} (hp : sbyte p0 ≤ sbyte p1) (ho : sbyte o0 ≤ sbyte o1) :
    ((eyePoints p0 p1 o0 o1).length : Int) = (sbyte p1 - sbyte p0 + 1) * (sbyte o1 - sbyte o0 + 1) := by
  simp only [eyePoints, List.length_flatMap, List.length_map, List.length_range, List.map_const', List.sum_replicate,
    smul_eq_mul,
    Nat.cast_mul]
  rw [Int.toNat_of_nonneg (by omega), Int.toNat_of_nonneg (by omega)]

/-! ## The registers of a lane as words -/

theorem fieldsAt_lane : ∀ l < 96,
    fieldsAt (0x700000 + 4 * l) = [R.LANE_CFG.EN l, R.LANE_CFG.PROTO l, R.LANE_CFG.KDIV l, R.LANE_CFG.TX_POL l,
      R.LANE_CFG.RX_POL_AUTO l, R.LANE_CFG.FL_EN l, R.LANE_CFG.AUTO_ALIGN l, R.LANE_CFG.AUTO_RETRAIN l, R.LANE_CFG.WAKE_TX l,
      R.LANE_CFG.ADAPT l, R.LANE_CFG.LANE_IE l] ∧
    fieldsAt (0x700200 + 4 * l) = [R.LANE_STAT.STATE l, R.LANE_STAT.CDR_LOCK l, R.LANE_STAT.BLK_LOCK l, R.LANE_STAT.RX_INV l,
      R.LANE_STAT.FROZEN l, R.LANE_STAT.HDR_OFS l, R.LANE_STAT.FL_OK l, R.LANE_STAT.REASON l, R.LANE_STAT.DOWN l,
      R.LANE_STAT.FL_SLIP l, R.LANE_STAT.LATE l, R.LANE_STAT.WOKE l, R.LANE_STAT.DOWN_CNT l] ∧
    fieldsAt (0x700400 + 4 * l) = [R.LANE_EQ.TX_PRE l, R.LANE_EQ.TX_POST l, R.LANE_EQ.TX_MAIN l, R.LANE_EQ.PRE_PRESET l,
      R.LANE_EQ.POST_PRESET l, R.LANE_EQ.CTLE l] ∧
    fieldsAt (0x700C00 + 4 * l) = [R.LANE_FL.FL_LAT l, R.LANE_FL.L_MEAS l] ∧
    fieldsAt (0x700E00 + 4 * l) = [R.LANE_FLS.FILL l, R.LANE_FLS.ARR_SPREAD l] := by decide +kernel

/-- A word of a card takes its first field at its bit. -/
theorem wordSum_cons (s : State) (f : Fld) (l : List Fld) (v : Nat) :
    (f :: l).foldl (fun v f => v + s.get f * 2 ^ f.lsb) v = l.foldl (fun v f => v + s.get f * 2 ^ f.lsb) (v + s.get f * 2 ^ f.lsb) := by
  rw [List.foldl_cons]

theorem wordSum_nil (s : State) (v : Nat) : ([] : List Fld).foldl (fun v f => v + s.get f * 2 ^ f.lsb) v = v := by
  rw [List.foldl_nil]

theorem laneCfg_lsb (l : Nat) :
    (R.LANE_CFG.EN l).lsb = 0 ∧ (R.LANE_CFG.PROTO l).lsb = 1 ∧ (R.LANE_CFG.KDIV l).lsb = 3 ∧ (R.LANE_CFG.TX_POL l).lsb = 5 ∧
    (R.LANE_CFG.RX_POL_AUTO l).lsb = 6 ∧ (R.LANE_CFG.FL_EN l).lsb = 7 ∧ (R.LANE_CFG.AUTO_ALIGN l).lsb = 8 ∧
    (R.LANE_CFG.AUTO_RETRAIN l).lsb = 9 ∧ (R.LANE_CFG.WAKE_TX l).lsb = 10 ∧ (R.LANE_CFG.ADAPT l).lsb = 11 ∧
    (R.LANE_CFG.LANE_IE l).lsb = 13 :=
  ⟨rfl, rfl, rfl, rfl, rfl, rfl, rfl, rfl, rfl, rfl, rfl⟩

theorem laneStat_lsb (l : Nat) :
    (R.LANE_STAT.STATE l).lsb = 0 ∧ (R.LANE_STAT.CDR_LOCK l).lsb = 4 ∧ (R.LANE_STAT.BLK_LOCK l).lsb = 5 ∧
    (R.LANE_STAT.RX_INV l).lsb = 6 ∧ (R.LANE_STAT.FROZEN l).lsb = 7 ∧ (R.LANE_STAT.HDR_OFS l).lsb = 8 ∧
    (R.LANE_STAT.FL_OK l).lsb = 15 ∧ (R.LANE_STAT.REASON l).lsb = 16 ∧ (R.LANE_STAT.DOWN l).lsb = 20 ∧
    (R.LANE_STAT.FL_SLIP l).lsb = 21 ∧ (R.LANE_STAT.LATE l).lsb = 22 ∧ (R.LANE_STAT.WOKE l).lsb = 23 ∧
    (R.LANE_STAT.DOWN_CNT l).lsb = 24 :=
  ⟨rfl, rfl, rfl, rfl, rfl, rfl, rfl, rfl, rfl, rfl, rfl, rfl, rfl⟩

theorem laneEq_lsb (l : Nat) :
    (R.LANE_EQ.TX_PRE l).lsb = 0 ∧ (R.LANE_EQ.TX_POST l).lsb = 4 ∧ (R.LANE_EQ.TX_MAIN l).lsb = 9 ∧
    (R.LANE_EQ.PRE_PRESET l).lsb = 15 ∧ (R.LANE_EQ.POST_PRESET l).lsb = 19 ∧ (R.LANE_EQ.CTLE l).lsb = 24 :=
  ⟨rfl, rfl, rfl, rfl, rfl, rfl⟩

theorem laneFl_lsb (l : Nat) : (R.LANE_FL.FL_LAT l).lsb = 0 ∧ (R.LANE_FL.L_MEAS l).lsb = 16 :=
  ⟨rfl, rfl⟩

theorem laneFls_lsb (l : Nat) : (R.LANE_FLS.FILL l).lsb = 0 ∧ (R.LANE_FLS.ARR_SPREAD l).lsb = 8 :=
  ⟨rfl, rfl⟩

section

variable (s : State) {l : Nat} (hl : l < 96)
include hl

theorem laneCfg_word : s.cardWord (0x700000 + 4 * l) = s.get (R.LANE_CFG.EN l) + 2 * s.get (R.LANE_CFG.PROTO l)
    + 8 * s.get (R.LANE_CFG.KDIV l) + 32 * s.get (R.LANE_CFG.TX_POL l) + 64 * s.get (R.LANE_CFG.RX_POL_AUTO l)
    + 128 * s.get (R.LANE_CFG.FL_EN l) + 256 * s.get (R.LANE_CFG.AUTO_ALIGN l) + 512 * s.get (R.LANE_CFG.AUTO_RETRAIN l)
    + 1024 * s.get (R.LANE_CFG.WAKE_TX l) + 2048 * s.get (R.LANE_CFG.ADAPT l) + 8192 * s.get (R.LANE_CFG.LANE_IE l) := by
  obtain ⟨h, -⟩ := fieldsAt_lane l hl
  rw [State.cardWord, State.wordOf, h]
  obtain ⟨hen, hproto, hkdiv, htxpol, hrxpolauto, hflen, hautoalign, hautoretrain, hwaketx, hadapt, hlaneie⟩ := laneCfg_lsb l
  simp only [wordSum_cons, wordSum_nil, hen, hproto, hkdiv, htxpol, hrxpolauto, hflen, hautoalign, hautoretrain, hwaketx,
    hadapt, hlaneie]
  ring

theorem laneStat_word : s.cardWord (0x700200 + 4 * l) = s.laneState l + 16 * s.get (R.LANE_STAT.CDR_LOCK l)
    + 32 * s.get (R.LANE_STAT.BLK_LOCK l) + 64 * s.get (R.LANE_STAT.RX_INV l) + 128 * s.get (R.LANE_STAT.FROZEN l)
    + 256 * s.get (R.LANE_STAT.HDR_OFS l) + 2 ^ 15 * s.get (R.LANE_STAT.FL_OK l) + 2 ^ 16 * s.get (R.LANE_STAT.REASON l)
    + 2 ^ 20 * s.get (R.LANE_STAT.DOWN l) + 2 ^ 21 * s.get (R.LANE_STAT.FL_SLIP l) + 2 ^ 22 * s.get (R.LANE_STAT.LATE l)
    + 2 ^ 23 * s.get (R.LANE_STAT.WOKE l) + 2 ^ 24 * s.get (R.LANE_STAT.DOWN_CNT l) := by
  obtain ⟨-, h, -⟩ := fieldsAt_lane l hl
  rw [State.cardWord, State.wordOf, h, State.laneState]
  obtain ⟨hstate, hcdrlock, hblklock, hrxinv, hfrozen, hhdrofs, hflok, hreason, hdown, hflslip, hlate, hwoke,
    hdowncnt⟩ := laneStat_lsb l
  simp only [wordSum_cons, wordSum_nil, hstate, hcdrlock, hblklock, hrxinv, hfrozen, hhdrofs, hflok, hreason, hdown, hflslip,
    hlate, hwoke, hdowncnt]
  ring

theorem laneEq_word : s.cardWord (0x700400 + 4 * l) = s.get (R.LANE_EQ.TX_PRE l) + 16 * s.get (R.LANE_EQ.TX_POST l)
    + 2 ^ 9 * s.get (R.LANE_EQ.TX_MAIN l) + 2 ^ 15 * s.get (R.LANE_EQ.PRE_PRESET l) + 2 ^ 19 * s.get (R.LANE_EQ.POST_PRESET l)
    + 2 ^ 24 * s.get (R.LANE_EQ.CTLE l) := by
  obtain ⟨-, -, h, -⟩ := fieldsAt_lane l hl
  rw [State.cardWord, State.wordOf, h]
  obtain ⟨htxpre, htxpost, htxmain, hprepreset, hpostpreset, hctle⟩ := laneEq_lsb l
  simp only [wordSum_cons, wordSum_nil, htxpre, htxpost, htxmain, hprepreset, hpostpreset, hctle]
  ring

theorem laneFl_word : s.cardWord (0x700C00 + 4 * l) = s.get (R.LANE_FL.FL_LAT l) + 2 ^ 16 * s.get (R.LANE_FL.L_MEAS l) := by
  obtain ⟨-, -, -, h, -⟩ := fieldsAt_lane l hl
  rw [State.cardWord, State.wordOf, h]
  obtain ⟨hfllat, hlmeas⟩ := laneFl_lsb l
  simp only [wordSum_cons, wordSum_nil, hfllat, hlmeas]
  ring

theorem laneFls_word : s.cardWord (0x700E00 + 4 * l) = s.get (R.LANE_FLS.FILL l) + 256 * s.get (R.LANE_FLS.ARR_SPREAD l) := by
  obtain ⟨-, -, -, -, h⟩ := fieldsAt_lane l hl
  rw [State.cardWord, State.wordOf, h]
  obtain ⟨hfill, harrspread⟩ := laneFls_lsb l
  simp only [wordSum_cons, wordSum_nil, hfill, harrspread]
  ring

end

/-- Settles O37, command by command. -/
theorem laneCommandsComplete : Obligations.LaneCommandsComplete := by
  intro mb s
  refine ⟨fun l h hl ht => ?_, fun mask time h hm htime hmode hall => ?_, fun mask h hm ht => ?_,
    fun mask p h hm hp ht => ⟨fun hbusy => ?_, fun hall => ?_⟩, fun l v h hl ht hup => ⟨fun hok => ?_, fun hok => ?_⟩,
    fun l n h hl h1 h65 ht => ⟨fun hst => ?_, fun hst => ?_⟩, fun l p inv loop h hl hp hinv hloop ht hload => ?_,
    fun l c h hl hc ht => ?_, fun l p0 p1 o0 o1 e h hl hp0 hp hp1 ho0 ho he0 he1 hpts ht => ?_,
    fun l p q c d a h hl ha hr ht => ?_⟩
  · refine completes_checked h rfl (by simp [ht, Nat.not_le.2 hl]) ?_
    simp only [← begun_cardWord s mb, laneCfg_word _ hl, laneStat_word _ hl, laneEq_word _ hl, laneFl_word _ hl,
      laneFls_word _ hl]
    rfl
  · have hnot : ((maskLanes mask).any s.laneTested) = false := List.any_eq_false.2 fun l hl => by simp [(hall l hl).1]
    have hfree : ((maskLanes mask).any fun l => s.test.fenced.contains (8, l)) = false :=
      List.any_eq_false.2 fun l hl => by rw [(hall l hl).2]; decide
    have hmode' : (s.runClass || decide (s.mode = mBlocking) || decide (s.mode = mSafe)) = true := by simpa [or_assoc] using hmode
    have htime' : ¬ (time ≠ 0 ∧ (time < 10 ∨ 5000 < time)) := by omega
    generalize hu : { s.begun mb with lane := { s.lane with ups := s.lane.ups ++ [(⟨(s.begun mb).serial mb, mask⟩ : LaneUp)] } } = u
    refine ⟨settleUps (forEach (maskLanes mask) (laneUpStep time) u), runs_checked h rfl ?_ (by rw [← hu]; rfl), fun l hl hst => ?_⟩
    · simp only [List.forall_mem_cons, hnot, hfree, hmode', htime', hm]
      simp
    · have hl96 := lt_of_mem_maskLanes hl
      obtain ⟨v, hbefore, hafter⟩ := LaneKept.sweep u hl fun k hk hne => laneUpStep_kept hk hne time
      have hus : SettingsKept s u := hu ▸ ⟨fun _ _ => rfl, rfl, rfl⟩
      have hv : v.laneState l = s.laneState l := hbefore.state.trans (by rw [← hu]; rfl)
      have hset := hus.trans hbefore.settings
      obtain ⟨hstate, hlst⟩ := LaneKept.settleUps hl96 (forEach (maskLanes mask) (laneUpStep time) u)
      rw [hstate, hlst, hafter.state, hafter.lst, laneUpStep_down (by rwa [hv]), bringUp_upMs, State.lst_modLane_same]
      refine ⟨rfl, fun hrate hlock => bringUp_acquires ?_ ?_ ?_⟩
      · exact (congrArg (fun x => x.fenced.contains (8, l)) hset.test).trans (hall l hl).2
      · exact (hset.rateOk hl96).trans hrate
      · exact (congrArg (Nat.testBit · (sideDomain l)) (hset.get R.CLK_LOCK.LOCK (.inl rfl))).trans hlock
  · have hnot : ((maskLanes mask).any s.laneTested) = false := List.any_eq_false.2 fun l hl => by simp [ht l hl]
    refine ⟨forEach (maskLanes mask) laneDownStep (s.begun mb), completes_checked h rfl ?_ rfl, fun l hl => ?_⟩
    · simp only [List.forall_mem_cons, hnot, hm]
      simp
    · have hl96 := lt_of_mem_maskLanes hl
      obtain ⟨v, hbefore, hafter⟩ := LaneKept.sweep (s.begun mb) hl fun k hk hne => laneDownStep_kept hl96 hk hne
      obtain ⟨hstate, hdown⟩ := laneDownStep_status hl96 v
      refine ⟨hafter.state.trans hstate, ?_⟩
      have hbdl : v.bundleOf l = s.bundleOf l := hbefore.settings.bundleOf hl96
      rw [State.flag, hafter.down _ (lt_of_le_of_lt (s.bundleOf_le l) hl96) (hbdl ▸ hdown)]
      rfl
  · have hnot : ((maskLanes mask).any s.laneTested) = false := List.any_eq_false.2 fun l hl => by simp [ht l hl]
    have hany : ((maskLanes mask).any fun l => s.bringing l || (s.lst l).exiting) = true := by simpa [List.any_eq_true] using hbusy
    refine completes_denied h rfl ?_ (by decide)
    simp only [List.find?, hnot, hany, hm, Nat.not_le.2 hp, decide_false]
  · have hnot : ((maskLanes mask).any s.laneTested) = false := List.any_eq_false.2 fun l hl => by simp [ht l hl]
    have hany : ((maskLanes mask).any fun l => s.bringing l || (s.lst l).exiting) = false := by
      refine List.any_eq_false.2 fun l hl => ?_
      obtain ⟨hex, hst | hst | hst⟩ := hall l hl <;> simp [State.bringing, hex, hst, lsUp, lsDoze, lsSleep, lsAlign,
        lsAcquire]
    have hin : ((maskLanes mask).any fun l => !(s.laneState l == lsUp || s.laneState l == lsDoze || s.laneState l == lsSleep)) = false := by
      refine List.any_eq_false.2 fun l hl => ?_
      obtain ⟨-, hst⟩ := hall l hl
      simp only [Bool.not_eq_true', Bool.or_eq_false_iff, beq_eq_false_iff_ne]
      tauto
    refine ⟨forEach (maskLanes mask) (lanePowerStep p) (s.begun mb), completes_checked h rfl ?_ rfl, fun l hl => ?_⟩
    · simp only [List.forall_mem_cons, hnot, hany, hin, hm, Nat.not_le.2 hp]
      simp
    · have hl96 := lt_of_mem_maskLanes hl
      obtain ⟨v, hbefore, hafter⟩ := LaneKept.sweep (s.begun mb) hl fun k hk hne => lanePowerStep_kept hl96 hk hne p
      have hv : v.laneState l = s.laneState l := hbefore.state
      have hvl : (v.lst l).exiting = false := (congrArg LaneSt.exiting hbefore.lst).trans (hall l hl).1
      rw [hafter.state, hafter.lst]
      exact ⟨fun hup => lanePowerStep_up hl96 hp (hv.trans hup), fun hdoze => lanePowerStep_doze p (hv.trans hdoze) hvl⟩
  · exact completes_checked h rfl (by simp [ht, hup, hok, Nat.not_le.2 hl]) rfl
  · refine completes_denied h rfl ?_ (by decide)
    simp [ht, hup, hok, Nat.not_le.2 hl]
  · have hn : (decide (n = 0 ∨ 65 < n)) = false := by simp; omega
    refine (exec_checked h rfl ?_).trans ?_
    · simp only [List.forall_mem_cons, hn, ht, hst, Nat.not_le.2 hl]
      simp
    · rw [settle_runs, begun_serial]
  · have hn : (decide (n = 0 ∨ 65 < n)) = false := by simp; omega
    refine completes_denied h rfl ?_ (by decide)
    simp only [List.find?, hn, ht, Nat.not_le.2 hl, decide_false, bne_iff_ne.2 hst]
  · have hdeny : ((s.lst l).loading && loop != 0) = false := by
      obtain hno | rfl := hload
      · rw [hno]; rfl
      · simp
    have hpat : (!([0, 7, 15, 23, 31].contains p)) = false := by rw [List.contains_iff_mem.2 hp]; rfl
    generalize hu : setTest l p inv loop (s.begun mb) = u
    have hlst : u.lst l = _ := hu ▸ setTest_lst l p inv loop (s.begun mb)
    have hkept := LanesKept.bundleCheckDown l u
    refine ⟨(setLane l (if p = 0 ∧ loop = 0 then lsIdle else lsTest) (bundleCheckDown l u)).set (R.LANE_ERR.PRBS_LOCK l) 0,
      completes_checked h rfl ?_ (by rw [← hu]; rfl), ?_, ?_⟩
    · simp only [List.forall_mem_cons, hpat, ht, hdeny, Nat.not_le.2 hl, Nat.not_le.2 hinv, Nat.not_le.2 hloop]
      simp
    · refine (State.get_set_ne _ _ ?_).trans (setLane_state (by split <;> decide) _)
      simp only [Fld.key, R.LANE_STAT.STATE, R.LANE_ERR.PRBS_LOCK]
      omega
    · show ((bundleCheckDown l u).lst l).pattern = p ∧ ((bundleCheckDown l u).lst l).loop = loop ∧
        ((bundleCheckDown l u).lst l).invert = (inv == 1) ∧ ((bundleCheckDown l u).lst l).lbSlip = false ∧ _
      rw [hkept.lst l, hlst, State.flag, State.get_set_same]
      exact ⟨rfl, rfl, rfl, rfl, rfl⟩
  · refine completes_checked h rfl (by simp [ht, Nat.not_le.2 hl, Nat.not_le.2 hc]) ?_
    obtain rfl | rfl : c = 0 ∨ c = 1 := by omega
    · rfl
    · rfl
  · have hphase : decide (sbyte p0 < -32 ∨ 31 < sbyte p1 ∨ sbyte p1 < sbyte p0) = false := decide_eq_false (by omega)
    have hofs : decide (sbyte o0 < -127 ∨ sbyte o1 < sbyte o0) = false := decide_eq_false (by omega)
    have herr : decide (e < 16 ∨ 36 < e) = false := decide_eq_false (by omega)
    have hsize : decide (64 < (sbyte p1 - sbyte p0 + 1) * (sbyte o1 - sbyte o0 + 1)) = false := decide_eq_false (by omega)
    refine ⟨fun heye => ?_, fun heye => ?_⟩
    · refine ⟨⟨eyePoints p0 p1 o0 o1, e, s.serial mb⟩,
        (s.begun mb).modLane l fun b => { b with eye := some ⟨eyePoints p0 p1 o0 o1, e, s.serial mb⟩ }, (exec_checked h rfl ?_).trans ?_, ?_,
        rfl, eyePoints_length hp ho⟩
      · simp only [List.forall_mem_cons, hphase, hofs, herr, hsize, ht, heye, Nat.not_le.2 hl]
        simp
      · rw [settle_runs, begun_serial]
        rfl
      · rw [State.lst_modLane_same]
    · refine completes_denied h rfl ?_ (by decide)
      simp only [List.find?, hphase, hofs, herr, hsize, ht, Option.isSome_iff_ne_none.2 heye, Nat.not_le.2 hl, decide_false]
  · exact completes_checked h rfl (by simp [ht, Nat.not_le.2 hl, Nat.not_le.2 ha, hr]) rfl

end Sys2Proof.Machine
end

section
/-! PROOFS. Registers that hold the last bits of a line agree once they have seen the same bits: the checker of a pattern
locks (R363), a descrambler follows its scrambler (R336). The taps of a transmitter stay in range (R344, R345). -/

namespace Sys2Proof.Machine

/-! ## Shift registers -/

/-- Registers that agree in `k` bits agree in one more after they have taken the same bit. -/
theorem prbsShift_modEq {p q r k : Nat} (b : Bool) (h : q ≡ r [MOD 2 ^ k]) (hk : k + 1 ≤ p) :
    prbsShift p q b ≡ prbsShift p r b [MOD 2 ^ (k + 1)] := by
  have hdvd : 2 ^ (k + 1) ∣ 2 ^ p := pow_dvd_pow 2 hk
  have hdouble : 2 * q ≡ 2 * r [MOD 2 ^ (k + 1)] := by
    rw [Nat.pow_succ']
    exact h.mul_left' 2
  rw [Nat.ModEq, prbsShift, prbsShift, Nat.mod_mod_of_dvd _ hdvd, Nat.mod_mod_of_dvd _ hdvd]
  exact hdouble.add_right _

/-- Registers that agree in all their bits are equal after they have taken the same bit. -/
theorem prbsShift_congr {p q r : Nat} (b : Bool) (h : q ≡ r [MOD 2 ^ p]) : prbsShift p q b = prbsShift p r b :=
  (h.mul_left 2).add_right _

theorem testBit_eq_of_modEq {p q r i : Nat} (h : q ≡ r [MOD 2 ^ p]) (hi : i < p) : q.testBit i = r.testBit i := by
  have hq : (q % 2 ^ p).testBit i = q.testBit i := by simp [Nat.testBit_mod_two_pow, hi]
  have hr : (r % 2 ^ p).testBit i = r.testBit i := by simp [Nat.testBit_mod_two_pow, hi]
  rw [← hq, ← hr, h]

/-! ## The checker of a pattern (R363) -/

/-- The taps of a pattern lie in its register. -/
theorem prbsTaps_lt {p : Nat} (hp : p ∈ [7, 15, 23, 31]) : (prbsTaps p).1 < p ∧ (prbsTaps p).2 < p := by
  have h : ∀ p ∈ [7, 15, 23, 31], (prbsTaps p).1 < p ∧ (prbsTaps p).2 < p := by decide
  exact h p hp

theorem prbsNext_congr {p q r : Nat} (hp : p ∈ [7, 15, 23, 31]) (h : q ≡ r [MOD 2 ^ p]) : prbsNext p q = prbsNext p r := by
  obtain ⟨h1, h2⟩ := prbsTaps_lt hp
  rw [prbsNext, prbsNext, testBit_eq_of_modEq h h1, testBit_eq_of_modEq h h2]

theorem prbsRun_succ (p g n : Nat) :
    (prbsRun p g (n + 1)).1 = prbsNext p g :: (prbsRun p (prbsShift p g (prbsNext p g)) n).1 := (rfl)

/-- The checker `a` of pattern `p` agrees in `k` bits with a generator whose register is `g`. -/
structure Follows (p k g : Nat) (a : PrbsRd) : Prop where
  pattern : a.lane.pattern = p
  chk : a.lane.chk ≡ g [MOD 2 ^ k]

theorem Follows.next {p g : Nat} {a : PrbsRd} (h : Follows p p g a) (hp : p ∈ [7, 15, 23, 31]) :
    prbsNext p a.lane.chk = prbsNext p g := prbsNext_congr hp h.chk

/-- A locked checker that follows its generator finds no error. -/
theorem prbsStep_locked {p g : Nat} {a : PrbsRd} (hp : p ∈ [7, 15, 23, 31]) (h : Follows p p g a) (hlock : a.lock = true)
    (hhist : ∀ x ∈ a.lane.hist, x = false) :
    let b := prbsStep a (prbsNext p g)
    Follows p p (prbsShift p g (prbsNext p g)) b ∧ b.lock = true ∧ b.errs = a.errs ∧ b.lane.bits = a.lane.bits + 1 ∧
      ∀ x ∈ b.lane.hist, x = false := by
  have hall : ∀ x ∈ (false :: a.lane.hist).take 1024, x = false := fun x hx =>
    (List.mem_cons.1 (List.mem_of_mem_take hx)).elim id (hhist x)
  have hnone : ((false :: a.lane.hist).take 1024).filter (fun x => x) = [] :=
    List.filter_eq_nil_iff.2 fun x hx => by simp [hall x hx]
  intro b
  have hb : b = ⟨true, a.errs, { a.lane with
      chk := prbsShift p a.lane.chk (prbsNext p g), bits := a.lane.bits + 1, hist := (false :: a.lane.hist).take 1024, clean := 0 }⟩ := by
    simp only [b, prbsStep, h.pattern, h.next hp, bne_self_eq_false, hlock, if_true, hnone]
    rfl
  rw [hb]
  exact ⟨⟨h.pattern, congrArg (· % 2 ^ p) (prbsShift_congr _ h.chk)⟩, rfl, rfl, rfl, hall⟩

/-- While it follows its generator, a locked checker stays locked, and counts every bit and no error. -/
theorem prbs_staysLocked {p : Nat} (hp : p ∈ [7, 15, 23, 31]) (n : Nat) {g : Nat} {a : PrbsRd} (h : Follows p p g a)
    (hlock : a.lock = true) (hhist : ∀ x ∈ a.lane.hist, x = false) :
    let c := (prbsRun p g n).1.foldl prbsStep a
    c.lock = true ∧ c.errs = a.errs ∧ c.lane.bits = a.lane.bits + n := by
  induction n generalizing g a with
  | zero => exact ⟨hlock, rfl, rfl⟩
  | succ n ih =>
    obtain ⟨hf, hl, he, hb, hh⟩ := prbsStep_locked hp h hlock hhist
    obtain ⟨hl', he', hb'⟩ := ih hf hl hh
    exact ⟨hl', he'.trans he, by rw [prbsRun_succ, List.foldl_cons, hb', hb]; omega⟩

/-- The clean bits of a checker that is not locked, after the bit `bit`. -/
def cleanAfter (a : PrbsRd) (bit : Bool) : Nat :=
  if bit != prbsNext a.lane.pattern a.lane.chk then 0 else a.lane.clean + 1

theorem prbsStep_unlocked {a : PrbsRd} (bit : Bool) (hlock : a.lock = false) : prbsStep a bit =
    ⟨decide (1024 ≤ cleanAfter a bit), a.errs, { a.lane with
      chk := prbsShift a.lane.pattern a.lane.chk bit, hist := [],
      clean := if 1024 ≤ cleanAfter a bit then 0 else cleanAfter a bit }⟩ := by
  rw [prbsStep]
  exact if_neg (by simp [hlock])

/-- A checker that follows its generator locks when 1,024 bits were clean, and finds no error then. -/
theorem prbs_locks {p : Nat} (hp : p ∈ [7, 15, 23, 31]) (n : Nat) {g : Nat} {a : PrbsRd} (h : Follows p p g a)
    (hlock : a.lock = false) (hclean : a.lane.clean < 1024) (hn : 1024 ≤ n + a.lane.clean) :
    let c := (prbsRun p g n).1.foldl prbsStep a
    c.lock = true ∧ c.errs = a.errs ∧ c.lane.bits + 1024 = a.lane.bits + n + a.lane.clean := by
  induction n generalizing g a with
  | zero => omega
  | succ n ih =>
    have hcount : cleanAfter a (prbsNext p g) = a.lane.clean + 1 := by
      rw [cleanAfter, h.pattern, h.next hp]
      simp
    have hstep := prbsStep_unlocked (prbsNext p g) hlock
    rw [hcount, h.pattern] at hstep
    have hf : Follows p p (prbsShift p g (prbsNext p g)) (prbsStep a (prbsNext p g)) := by
      rw [hstep]
      exact ⟨h.pattern, congrArg (· % 2 ^ p) (prbsShift_congr _ h.chk)⟩
    rw [prbsRun_succ, List.foldl_cons]
    by_cases hfull : 1024 ≤ a.lane.clean + 1
    · obtain ⟨hl', he', hb'⟩ := prbs_staysLocked hp n hf (by rw [hstep]; simpa using hfull) (by rw [hstep]; simp)
      refine ⟨hl', he'.trans (by rw [hstep]), ?_⟩
      rw [hb', hstep]
      simp only
      omega
    · have hnext : (prbsStep a (prbsNext p g)).lane.clean = a.lane.clean + 1 := by rw [hstep]; simp [hfull]
      obtain ⟨hl', he', hb'⟩ := ih hf (by rw [hstep]; simpa using hfull) (by omega) (by omega)
      refine ⟨hl', he'.trans (by rw [hstep]), ?_⟩
      rw [hb', hnext, hstep]
      simp only
      omega

/-- A checker that has seen the last `k` bits of its pattern seeds itself from those that follow, and locks. -/
theorem prbs_seedsAndLocks {p : Nat} (hp : p ∈ [7, 15, 23, 31]) (j : Nat) {k n g : Nat} {a : PrbsRd} (hjk : k + j = p)
    (h : Follows p k g a) (hlock : a.lock = false) (hclean : a.lane.clean ≤ k) (hn : 1024 + j ≤ n) :
    let c := (prbsRun p g n).1.foldl prbsStep a
    c.lock = true ∧ c.errs = a.errs ∧ a.lane.bits + n ≤ c.lane.bits + 1024 + j ∧
      c.lane.bits + 1024 ≤ a.lane.bits + n + a.lane.clean := by
  have hlt : ∀ p ∈ [7, 15, 23, 31], p < 1024 := by decide
  have hp' := hlt p hp
  induction j generalizing k n g a with
  | zero =>
    obtain rfl : k = p := hjk
    obtain ⟨hl, he, hb⟩ := prbs_locks hp n h hlock (by omega) (by omega)
    exact ⟨hl, he, by omega, by omega⟩
  | succ j ih =>
    obtain ⟨n, rfl⟩ : ∃ m, n = m + 1 := ⟨n - 1, by omega⟩
    have hcount : cleanAfter a (prbsNext p g) ≤ a.lane.clean + 1 := by
      unfold cleanAfter
      split <;> omega
    have hstep := prbsStep_unlocked (prbsNext p g) hlock
    rw [h.pattern] at hstep
    have hf : Follows p (k + 1) (prbsShift p g (prbsNext p g)) (prbsStep a (prbsNext p g)) := by
      rw [hstep]
      exact ⟨h.pattern, prbsShift_modEq _ h.chk (by omega)⟩
    have hnext : (prbsStep a (prbsNext p g)).lane.clean = cleanAfter a (prbsNext p g) := by
      rw [hstep]
      exact if_neg (by omega)
    obtain ⟨hl', he', hlo, hhi⟩ := ih (n := n) (by omega) hf (by rw [hstep]; simp; omega) (by omega) (by omega)
    have hbits : (prbsStep a (prbsNext p g)).lane.bits = a.lane.bits := by rw [hstep]
    rw [prbsRun_succ, List.foldl_cons]
    exact ⟨hl', he'.trans (by rw [hstep]), by omega, by omega⟩

/-! ## The scrambler (R336) -/

theorem scramTap_congr {q r : Nat} (h : q ≡ r [MOD 2 ^ 58]) : scramTap q = scramTap r := by
  rw [scramTap, scramTap, testBit_eq_of_modEq h (by decide), testBit_eq_of_modEq h (by decide)]

theorem scramShift_congr {q r : Nat} (b : Bool) (h : q ≡ r [MOD 2 ^ 58]) : scramShift q b = scramShift r b := prbsShift_congr b h

theorem scramShift_modEq {q r k : Nat} (b : Bool) (h : q ≡ r [MOD 2 ^ k]) (hk : k + 1 ≤ 58) :
    scramShift q b ≡ scramShift r b [MOD 2 ^ (k + 1)] := prbsShift_modEq b h hk

theorem descramble_scramble (r : Nat) (bits : List Bool) : descramble r (scramble r bits).1 = bits := by
  induction bits generalizing r with
  | nil => rfl
  | cons b l ih =>
    have htap : ((b != scramTap r) != scramTap r) = b := by cases b <;> cases scramTap r <;> rfl
    exact congrArg₂ List.cons htap (ih _)

theorem scramble_register (r : Nat) (bits : List Bool) : (scramble r bits).2 = scramEnter r (scramble r bits).1 := by
  induction bits generalizing r with
  | nil => rfl
  | cons b l ih => exact ih _

theorem descramble_congr {q r : Nat} (h : q ≡ r [MOD 2 ^ 58]) (l : List Bool) : descramble q l = descramble r l := by
  cases l with
  | nil => rfl
  | cons b l => rw [descramble, descramble, scramTap_congr h, scramShift_congr b h]

theorem descramble_drop {k q r : Nat} (j : Nat) (hjk : k + j = 58) (h : q ≡ r [MOD 2 ^ k]) (bits : List Bool) :
    (descramble q (scramble r bits).1).drop j = bits.drop j := by
  induction j generalizing k q r bits with
  | zero =>
    obtain rfl : k = 58 := hjk
    rw [descramble_congr h, descramble_scramble]
  | succ j ih =>
    cases bits with
    | nil => rfl
    | cons b l => exact ih (k := k + 1) (by omega) (scramShift_modEq _ h (by omega)) l

theorem scramEnter_modEq {k q r : Nat} (l : List Bool) (hk : k ≤ 58) (h : q ≡ r [MOD 2 ^ k]) (hl : 58 ≤ k + l.length) :
    scramEnter q l ≡ scramEnter r l [MOD 2 ^ 58] := by
  induction l generalizing k q r with
  | nil =>
    obtain rfl : k = 58 := by simpa using le_antisymm hk hl
    exact h
  | cons b l ih =>
    rw [List.length_cons] at hl
    by_cases hfull : k = 58
    · exact congrArg (fun x => scramEnter x l % 2 ^ 58) (scramShift_congr b (hfull ▸ h))
    · exact ih (k := k + 1) (by omega) (scramShift_modEq b h (by omega)) (by omega)

theorem scramEnter_lt {r : Nat} (l : List Bool) (h : r < 2 ^ 58) : scramEnter r l < 2 ^ 58 := by
  induction l generalizing r with
  | nil => exact h
  | cons b l ih => exact ih (Nat.mod_lt _ (by decide))

/-- After 58 line bits a register holds them alone. -/
theorem scramEnter_congr (q r : Nat) {l : List Bool} (hl : 58 ≤ l.length) : scramEnter q l = scramEnter r l := by
  have hlt : ∀ r, scramEnter r l < 2 ^ 58 := by
    obtain ⟨b, l, rfl⟩ := List.exists_cons_of_length_pos (by omega : 0 < l.length)
    exact fun r => scramEnter_lt (r := scramShift r b) l (Nat.mod_lt _ (by decide))
  have h := scramEnter_modEq (k := 0) (q := q) (r := r) l (by omega) (by simp [Nat.ModEq, Nat.mod_one]) (by omega)
  exact h.eq_of_lt_of_lt (hlt q) (hlt r)

theorem scramble_length (r : Nat) (bits : List Bool) : (scramble r bits).1.length = bits.length := by
  induction bits generalizing r with
  | nil => rfl
  | cons b l ih => exact congrArg (· + 1) (ih _)

/-! ## Training blocks and the taps (R339, R344, R345) -/

/-- Lane `l` after the counts of a training block with payload `v`. -/
def countBlock (l v : Nat) (s : State) : State :=
  s.modLane l fun b =>
    { b with dscr := scramEnter b.dscr (bitList 64 v)
             trainRx := if bitsOf v 8 3 = 2 then b.trainRx + 1 else 0
             alignRx := if bitsOf v 8 3 = 4 then b.alignRx + 1 else 0 }

/-- Lane `l` after it has seen the answer to its own request in a training block with payload `v`. -/
def seeAnswer (l v : Nat) (s : State) : State :=
  applyIf ((s.lst l).reqPend && bitsOf v 24 4 == (s.lst l).reqSeq)
    (fun s => s.modLane l fun b => { b with reqPend := false, retries := 0 }) s

theorem seeAnswer_regs (l v : Nat) (s : State) : (seeAnswer l v s).regs = s.regs := by
  unfold seeAnswer applyIf
  split <;> rfl

/-- A training block that a lane in Train receives: taps are acted on where its request is new. -/
def trainBlock (l v : Nat) (s : State) : State :=
  seeAnswer l v (applyIf (bitsOf v 20 4 != ((countBlock l v s).lst l).ackSeq)
    (actOnTaps l (bitsOf v 12 2) (bitsOf v 14 2) (bitsOf v 20 4)) (countBlock l v s))

/-- A request keeps a tap at most `hi`, and at least 0. -/
theorem tapStep_le (req : Nat) {cur hi : Nat} (h : cur ≤ hi) : (tapStep req cur hi).1 ≤ hi := by
  unfold tapStep
  split
  · split <;> (dsimp only; omega)
  · split <;> (dsimp only; omega)
  · exact h

/-- The taps of lane `l` lie in their ranges, and the main tap is 63 minus both. -/
structure TapsInRange (l : Nat) (s : State) : Prop where
  pre : s.get (R.LANE_EQ.TX_PRE l) ≤ 12
  post : s.get (R.LANE_EQ.TX_POST l) ≤ 24
  main : s.get (R.LANE_EQ.TX_MAIN l) = 63 - s.get (R.LANE_EQ.TX_PRE l) - s.get (R.LANE_EQ.TX_POST l)

theorem TapsInRange.of_regs {l : Nat} {s t : State} (h : TapsInRange l s) (hregs : t.regs = s.regs) : TapsInRange l t := by
  have hget : ∀ f, t.get f = s.get f := fun f => congrArg (fun r => at' r f.key f.rst) hregs
  exact ⟨(hget _).trans_le h.pre, (hget _).trans_le h.post, by rw [hget, hget, hget, h.main]⟩

/-- Taps `a` and `b` as a request sets them. -/
def setTaps (l a b : Nat) (s : State) : State :=
  ((s.set (R.LANE_EQ.TX_PRE l) a).set (R.LANE_EQ.TX_POST l) b).set (R.LANE_EQ.TX_MAIN l) (63 - a - b)

theorem setTaps_inRange {a b : Nat} (l : Nat) (s : State) (ha : a ≤ 12) (hb : b ≤ 24) : TapsInRange l (setTaps l a b s) := by
  have hpre : (setTaps l a b s).get (R.LANE_EQ.TX_PRE l) = a := by
    rw [setTaps, State.get_set_ne, State.get_set_ne, State.get_set_same]
    · exact Nat.mod_eq_of_lt (by simp only [R.LANE_EQ.TX_PRE]; omega)
    all_goals simp [Fld.key, R.LANE_EQ.TX_PRE, R.LANE_EQ.TX_POST, R.LANE_EQ.TX_MAIN]
  have hpost : (setTaps l a b s).get (R.LANE_EQ.TX_POST l) = b := by
    rw [setTaps, State.get_set_ne, State.get_set_same]
    · exact Nat.mod_eq_of_lt (by simp only [R.LANE_EQ.TX_POST]; omega)
    · simp [Fld.key, R.LANE_EQ.TX_POST, R.LANE_EQ.TX_MAIN]
  have hmain : (setTaps l a b s).get (R.LANE_EQ.TX_MAIN l) = 63 - a - b := by
    rw [setTaps, State.get_set_same]
    exact Nat.mod_eq_of_lt (by simp only [R.LANE_EQ.TX_MAIN]; omega)
  exact ⟨hpre.trans_le ha, hpost.trans_le hb, by rw [hpre, hpost, hmain]⟩

theorem actOnTaps_inRange {l : Nat} {s : State} (pre post seq : Nat) (h : TapsInRange l s) (hpre : s.get (R.LANE_EQ.PRE_PRESET l) ≤ 12)
    (hpost : s.get (R.LANE_EQ.POST_PRESET l) ≤ 24) : TapsInRange l (actOnTaps l pre post seq s) := by
  by_cases hset : pre = 3 ∨ post = 3
  · refine (setTaps_inRange l s hpre hpost).of_regs ?_
    simp only [actOnTaps, if_pos hset]
    rfl
  · refine (setTaps_inRange l s (tapStep_le pre h.pre) (tapStep_le post h.post)).of_regs ?_
    simp only [actOnTaps, if_neg hset]
    rfl

theorem trainBlock_inRange {l v : Nat} {s : State} (h : TapsInRange l s) (hpre : s.get (R.LANE_EQ.PRE_PRESET l) ≤ 12)
    (hpost : s.get (R.LANE_EQ.POST_PRESET l) ≤ 24) : TapsInRange l (trainBlock l v s) := by
  have hcount : TapsInRange l (countBlock l v s) := h.of_regs rfl
  have hact : TapsInRange l (actOnTaps l (bitsOf v 12 2) (bitsOf v 14 2) (bitsOf v 20 4) (countBlock l v s)) :=
    actOnTaps_inRange _ _ _ hcount hpre hpost
  refine TapsInRange.of_regs (s := applyIf _ _ (countBlock l v s)) ?_ (seeAnswer_regs _ _ _)
  unfold applyIf
  split <;> assumption

/-- A request that the lane has acted on changes no register. -/
theorem trainBlock_regs {l v : Nat} {s : State} (h : bitsOf v 20 4 = (s.lst l).ackSeq) : (trainBlock l v s).regs = s.regs := by
  have hack : ((countBlock l v s).lst l).ackSeq = (s.lst l).ackSeq := by
    rw [countBlock, State.lst_modLane_same]
  rw [trainBlock, seeAnswer_regs, hack, h, bne_self_eq_false, applyIf_false]
  rfl

/-- A training block leaves the lane as it was, counts, or is acted on in Train. -/
theorem trainingBlockRx_cases (s : State) (l : Fin 96) (w : BitVec 64) : exec (.trainingBlockRx l w) s = .next s ∨
    exec (.trainingBlockRx l w) s = .next (countBlock l w.toNat s) ∨ exec (.trainingBlockRx l w) s = .next (trainBlock l w.toNat s) := by
  show execTrainingBlockRx l w s = _ ∨ execTrainingBlockRx l w s = _ ∨ execTrainingBlockRx l w s = _
  rw [execTrainingBlockRx]
  split
  · exact .inl rfl
  · by_cases hst : s.laneState l = lsTrain
    · exact .inr (.inr (if_pos hst))
    · exact .inr (.inl (if_neg hst))

/-- Settles O35: taps by the cases of a training block, the checker and the scrambler by induction over the bits. -/
theorem tapsScramblerAndPatternsFollowTheirRules : Obligations.TapsScramblerAndPatternsFollowTheirRules := by
  refine ⟨fun s t l w h1 h2 h3 h4 h5 hexec => ?_, fun a g n hp hclean hlock hn => ?_, fun r q bits => ⟨descramble_scramble r bits,
    scramble_register r bits, descramble_drop (k := 0) 58 rfl (by simp [Nat.ModEq, Nat.mod_one]) bits, fun hlen => ?_⟩⟩
  · have h : TapsInRange l s := ⟨h1, h2, h5⟩
    have hrange : TapsInRange l t ∧ (bitsOf w.toNat 20 4 = (s.lst l).ackSeq → t.regs = s.regs) := by
      obtain h' | h' | h' := trainingBlockRx_cases s l w
      · obtain rfl := Host.Outcome.next.inj (h'.symm.trans hexec)
        exact ⟨h, fun _ => rfl⟩
      · obtain rfl := Host.Outcome.next.inj (h'.symm.trans hexec)
        exact ⟨h.of_regs rfl, fun _ => rfl⟩
      · obtain rfl := Host.Outcome.next.inj (h'.symm.trans hexec)
        exact ⟨trainBlock_inRange h h3 h4, trainBlock_regs⟩
    exact ⟨hrange.1.pre, hrange.1.post, hrange.1.main, hrange.2⟩
  · have hseed := prbs_seedsAndLocks hp a.lane.pattern (k := 0) (g := g) (by omega) ⟨rfl, by simp [Nat.ModEq, Nat.mod_one]⟩ hlock
      (by omega) hn
    obtain ⟨hl, he, hlo, hhi⟩ := hseed
    exact ⟨hl, he, by omega, by omega⟩
  · rw [scramble_register]
    exact scramEnter_congr q r (by rwa [scramble_length])

end Sys2Proof.Machine
end

section
/-! PROOFS. The link and synchronisation commands of Table 12-11. -/

namespace Sys2Proof.Machine

theorem runClass_setPrio (s : State) (p : Nat) : (s.set R.SYNC_STAT.PRIO p).runClass = s.runClass :=
  congrArg isRunClass (State.get_set_ne s p (by decide))

/-- Settles O41, command by command. -/
theorem linkCommandsComplete : Obligations.LinkCommandsComplete := by
  intro mb s
  refine ⟨fun l h hl ht => ?_, fun e m k b v h he hm hk hb hv => ?_, fun e n h hen h1 h16 => ?_, fun d h => ⟨fun hd => ?_, fun hd hrun => ?_, fun hd hrun => ?_⟩,
    fun h ht => ?_, fun p h hp ht => ?_, fun p h hp => ⟨fun hid => ?_, fun hid => ?_⟩, fun h => ?_, fun h => ⟨fun hpar => ?_, fun hpar => ?_⟩,
    fun l ps h hl hlo hhi ht => ?_⟩
  · refine completes_checked h rfl (by simp [ht, Nat.not_le.2 hl]) ?_
    simp only [← begun_cardWord s mb]
    rfl
  · exact completes_checked h rfl (by simp; omega) rfl
  · exact completes_checked h rfl (by simp; omega) rfl
  · exact completes_denied h rfl (by simp [hd]) (by decide)
  · exact completes_denied h rfl (by simp [Nat.not_le.2 hd, hrun]) (by decide)
  · exact completes_checked h rfl (by simp [hd, hrun]) rfl
  · refine completes_served h rfl ((if_neg (by simp [ht])).trans ?_)
    simp only [← begun_cardWord s mb]
    rfl
  · exact completes_checked h rfl (by simp [ht, hp]) rfl
  · exact completes_denied h rfl (by simp [hid, Nat.not_le.2 hp]) (by decide)
  · refine completes_checked h rfl (by simp [hid, hp]) ?_
    rw [← begun_runClass s mb, ← runClass_setPrio (s.begun mb) p]
    rfl
  · refine completes_served h rfl ?_
    simp only [← begun_cardWord s mb]
    rfl
  · exact completes_denied h rfl (by simp [hpar]) (by decide)
  · refine ⟨_, runs_checked h rfl (by simp [hpar]) rfl, ?_, ?_, ?_⟩
    · exact congrArg (fun n => some (s.link.align.getD [] ++ [n])) (begun_serial s mb)
    · exact State.get_set_same _ _ _
    · show (if s.link.align.isNone then 0 else s.link.tries) = _
      simp only [Option.isNone_iff_eq_none]
  · exact completes_checked h rfl (by simp [ht]; omega) rfl

end Sys2Proof.Machine
end

section
/-! PROOFS. The NoC commands of Table 13-16. -/

namespace Sys2Proof.Machine

/-- Settles O45, command by command. -/
theorem nocCommandsComplete : Obligations.NocCommandsComplete := by
  intro mb s
  dsimp only
  refine ⟨fun e i h v hs he hi hv => ⟨fun hok hfree => ?_, fun hok => ?_⟩, fun e i n hs he hin h1 h16 hfree => ?_,
    fun n pen vc2 hs hn hpen hvc hfree => ⟨fun hst => ?_, fun hst => ?_⟩, fun e tmo c d sh hs he hc hd hsh hfree => ?_,
    fun n hs hn hfree => ?_, fun e hs he hfree => ?_, fun first n clear hs hfirst h1 h16 hc => ?_⟩
  · exact completes_checked hs rfl (by simp [he, hok, Nat.not_le.2 hi, Nat.not_le.2 hv, hfree]) rfl
  · exact completes_denied hs rfl (by simp [he, hok, Nat.not_le.2 hi, Nat.not_le.2 hv]) (by decide)
  · refine completes_checked hs rfl ?_ rfl
    simp [he, hfree]
    omega
  · refine (exec_checked hs rfl ?_).trans ?_
    · simp [hst, Nat.not_le.2 hn, Nat.not_le.2 hpen, Nat.not_le.2 hvc, hfree]
    · rw [settle_runs, begun_serial]
  · exact completes_denied hs rfl
      (by simp [hst, Nat.not_le.2 hn, Nat.not_le.2 hpen, Nat.not_le.2 hvc, hfree]) (by decide)
  · refine completes_checked hs rfl (by simp [he, Nat.not_le.2 hc, Nat.not_le.2 hd, Nat.not_le.2 hsh, hfree]) ?_
    by_cases hmax : e = 0xA0
    · simp only [hmax, if_true, bne_self_eq_false, applyIf_false]
      rfl
    · rw [if_neg hmax, bne_iff_ne.2 hmax]
      rfl
  · exact completes_checked hs rfl (by simp [Nat.not_le.2 hn, hfree]) rfl
  · exact completes_checked hs rfl (by simp [he, hfree]) rfl
  · refine completes_checked hs rfl (by simp; omega) rfl

end Sys2Proof.Machine
end

section
/-! PROOFS. The configuration commands of Table 14-14. -/

namespace Sys2Proof.Machine

/-! ## What giving up a repair leaves alone -/

/-- A repair that ends touches no load, no slot and no mailbox. -/
theorem yieldRepair_cfg_mgt (s : State) : (yieldRepair s).cfg = s.cfg ∧ (yieldRepair s).mgt = s.mgt := by
  unfold yieldRepair
  split
  · exact ⟨rfl, rfl⟩
  · next x _ =>
    unfold applyIf
    split <;> exact ⟨rfl, rfl⟩

theorem yieldRepair_slot (s : State) (k : Nat) : (yieldRepair s).slot k = s.slot k :=
  congrArg (fun c : Cfg => at' c.slots k ImgSlot.init) (yieldRepair_cfg_mgt s).1

theorem yieldRepair_serial (s : State) (mb : Nat) : (yieldRepair s).serial mb = s.serial mb :=
  congrArg (fun m => (State.mbox { s with mgt := m } mb).serial) (yieldRepair_cfg_mgt s).2

theorem State.slot_setSlot_same (s : State) (k : Nat) (x : ImgSlot) : (s.setSlot k x).slot k = x := at'_putD_same _ _ _ _

/-! ## A load by command -/

section

variable {mb : Fin 16} {s : State} {kind source num off ep ms : Nat} (hkind : kind < 4) (hsrc : badSource source num ep = false)
  (hms : ms ≤ 10000) (hload : s.cfg.load = none) (htest : source = 2 → s.laneTested num = false)
  (hoff : source = 0 → (s.slot num).valid = true → off % 8 = 0 ∧ off < (s.slot num).length)
include hkind hsrc hms hload htest hoff

/-- The checks of `CFG_LOAD` come down to the mode and to the lanes that Boot reserves. -/
theorem cfgLoad_checks : (decide (3 < kind) || badSource source num ep || decide (10000 < ms)) = false ∧
    (source == 0 && (s.slot num).valid && (off % 8 != 0 || decide ((s.slot num).length ≤ off))) = false ∧
    (source == 2 && s.laneTested num) = false ∧ s.cfg.load.isSome = false := by
  refine ⟨by simp [hsrc]; omega, ?_, ?_, by simp [hload]⟩
  · by_cases h0 : source = 0
    · by_cases hv : (s.slot num).valid = true
      · obtain ⟨h8, hlt⟩ := hoff h0 hv
        simp [h8, hlt]
      · simp [hv]
    · simp [h0]
  · by_cases h2 : source = 2
    · simp [htest h2]
    · simp [h2]

end

/-- Settles O49, command by command. -/
theorem configCommandsComplete : Obligations.ConfigCommandsComplete := by
  intro mb s
  refine ⟨fun kind source num off ep ms h hkind hsrc hms hload htest hoff => ?_, fun h => ?_, fun h => ⟨fun hl => ?_, fun hl hc => ?_⟩,
    fun k h hk ht => ?_, fun k h hk ht huse hw hr => ?_, fun k n h hk hn ht huse hr => ⟨fun hb => ?_, fun hb => ?_⟩,
    fun k off bytes h hk hb hw => ⟨fun ho hd => ?_, fun ho => ?_⟩, fun k h hk hw hd hm => ?_,
    fun k h h1 h4 ht => ⟨fun hv => ?_, fun hv => ?_⟩, fun k h hk ht hb hr hw => ?_, fun r p h hr hp ht => ?_⟩
  · obtain ⟨hargs, hoffs, hlane, hnone⟩ := cfgLoad_checks hkind hsrc hms hload htest hoff
    refine ⟨fun hallow => ?_, fun hallow hside hvalid => ?_, fun hallow h0 hinvalid hkind0 => ?_⟩
    · refine completes_denied h rfl ?_ (by decide)
      simp only [List.find?, hargs, hoffs, hlane, hnone, hallow, Bool.not_false]
    · have hres : (source == 2 && kind == 0 && s.sideReserved num) = false := by
        by_cases h2 : source = 2
        · by_cases h0 : kind = 0
          · simp [hside h2 h0]
          · simp [h0]
        · simp [h2]
      refine (exec_checked h rfl ?_).trans ?_
      · simp only [List.forall_mem_cons, hargs, hoffs, hlane, hnone, hallow, hres]
        simp
      · have hnot : ¬ (source = 0 ∧ (!((s.begun mb).slot num).valid) = true) := fun ⟨h0, hno⟩ => by
          rw [show (s.begun mb).slot num = s.slot num from rfl, hvalid h0] at hno
          exact absurd hno (by decide)
        simp only [commandLoad, yieldRepair_slot, yieldRepair_serial, begun_serial]
        rw [if_neg hnot]
        simp only [settle_runs, applyIf, beq_iff_eq]
    · have hres : (source == 2 && kind == 0 && s.sideReserved num) = false := by simp [h0]
      refine completes_checked h rfl ?_ ?_
      · simp only [List.forall_mem_cons, hargs, hoffs, hlane, hnone, hallow, hres]
        simp
      · have hyes : source = 0 ∧ (!((s.begun mb).slot num).valid) = true :=
          ⟨h0, congrArg (!·) hinvalid⟩
        simp only [commandLoad, yieldRepair_slot, yieldRepair_serial, begun_serial]
        rw [if_pos hyes, if_neg hkind0, h0]
        rfl
  · refine completes_served h rfl ?_
    simp only [← begun_cardWord s mb]
    rfl
  · exact completes_denied h rfl (by simp [hl]) (by decide)
  · exact completes_checked h rfl (by simp [Option.isSome_iff_ne_none, hl, hc]) rfl
  · refine completes_checked h rfl (by simp [ht]; omega) ?_
    rw [if_neg (by omega), if_pos rfl]
    rfl
  · refine completes_checked h rfl (by simp [ht, huse, hw, hr]; omega) ?_
    rw [if_neg (by omega), if_neg (by decide)]
    rfl
  · exact completes_checked h rfl (by simp [ht, huse, hr, hb]; omega) rfl
  · refine completes_denied h rfl ?_ (by decide)
    simp [ht, hb, Nat.not_lt.2 (Nat.le_of_lt_succ hk), Nat.not_lt.2 hn]
  · have hput : (s.begun mb).putBytes k off bytes = some ((s.begun mb).setSlot k { s.slot k with bytes := (s.slot k).bytes ++ bytes }) := by
      refine if_neg ?_
      show ¬ (!(s.slot k).writing || off != (s.slot k).bytes.length || decide ((s.slot k).declared < off + bytes.length)) = true
      simp [hw, ho, Nat.not_lt.2 (ho ▸ hd)]
    refine completes_bytes h rfl (by simp [hb]; omega) ?_
    rw [hput]
    rfl
  · have hput : (s.begun mb).putBytes k off bytes = none := by
      refine if_pos ?_
      show (!(s.slot k).writing || off != (s.slot k).bytes.length || decide ((s.slot k).declared < off + bytes.length)) = true
      simp [ho]
    refine completes_bytes h rfl (by simp [hb]; omega) ?_
    rw [hput]
    rfl
  · refine ⟨(s.begun mb).setSlot k { s.slot k with
      valid := true, writing := false, length := (s.slot k).bytes.length, crc := crc32 (s.slot k).bytes,
      imageId := slotWord (s.slot k) 16 % 2 ^ 32 }, completes_checked h rfl (by simp [hw, hd, hm]; omega) rfl, ?_⟩
    rw [State.slot_setSlot_same]
    exact ⟨rfl, rfl, rfl, rfl⟩
  · exact completes_checked h rfl (by simp [ht, hv]; omega) rfl
  · refine completes_denied h rfl ?_ (by decide)
    simp [ht, hv, Nat.not_lt.2 h4, Nat.one_le_iff_ne_zero.1 h1]
  · exact completes_checked h rfl (by simp [ht, hb, hr, hw]; omega) rfl
  · refine completes_checked h rfl ?_ ?_
    · simp only [List.forall_mem_cons, ht, Nat.not_le.2 hr, Nat.not_le.2 hp]
      simp
    · show (match (s.plane r p).source with | some (k, o) => _ | none => _) = _
      cases (s.plane r p).source <;> rfl

end Sys2Proof.Machine
end

section
/-! PROOFS. A tamper that cuts an overwrite reload ends Reblock (R469, R470). -/

namespace Sys2Proof.Machine

/-- The device in Reblock, with an overwrite reload of region 0 that has not reached its commit. -/
def reloadingDevice : State :=
  { State.reset with
    regs := [(R.DEV_MODE.MODE.key, mReblock), (R.DEV_MODE.COND_REBLOCK.key, 1)]
    ctx := { State.reset.ctx with regions := [(0, { CtxR.init with ow := 1 })] }
    cfg := { State.reset.cfg with load := some { newLoad 3 0 0 0 0 100 0 with stage := 1, owLeft := [0] } } }

/-- The mode that a command leaves. -/
def modeAfter : Out → Option Nat
  | .next t => some t.mode
  | _ => none

/-- The tamper cuts the reload, and the device is back in Run. -/
theorem tamperAssert_leavesReblock : modeAfter (exec (.tamperAssert false) reloadingDevice) = some mRun := by decide +kernel

/-- Refutes O50: a tamper ends an overwrite reload before its commit, so that Reblock ends and the mode is Run, where the
statement says that a tamper leaves the mode as it was. -/
theorem not_securityCommandsComplete : ¬ Obligations.SecurityCommandsComplete := by
  unfold Obligations.SecurityCommandsComplete
  rintro ⟨h, -⟩
  obtain ⟨⟨t, hexec, -, -, -, -, hmode⟩, -⟩ := h reloadingDevice
  have hrun := tamperAssert_leavesReblock
  rw [hexec] at hrun
  have hreblock : t.mode = mReblock := hmode.trans (by decide +kernel)
  exact absurd ((Option.some.inj hrun).symm.trans hreblock) (by decide)

end Sys2Proof.Machine
end

section
/-! PROOFS. The integrity and observation commands of Table 16-10. -/

namespace Sys2Proof.Machine

/-- Writes over the network change no store beside it. -/
theorem NocOnly.sendWrites {e dev ep : Nat} (n off : Nat) (l : List Nat) (s : State) :
    NocOnly s (sendWrites e dev ep n off l s) := by
  induction n generalizing off l s with
  | zero => exact .refl
  | succ n ih => exact .ite .refl ((NocOnly.niInject _ _ _).trans (ih _ _ _))

/-- The words of a read-back touch no context. -/
theorem sendRdbk_ctx (x : Rdbk) (l : List Nat) (s : State) : (sendRdbk x l s).ctx = s.ctx := by
  unfold sendRdbk
  split
  · rfl
  · rw [(NocOnly.sendWrites _ _ _ s).same]

/-- Settles O53, command by command. -/
theorem observationCommandsComplete : Obligations.ObservationCommandsComplete := by
  intro mb s
  refine ⟨fun en mode unc h hen hmode hunc => ?_, fun r clear h hr hc hb => ?_, fun first count clear h hf hn hn' hc => ?_,
    fun r p frame h hr hp hf hb hb' hl he hload => ?_, fun kind r p first count path addr h hr hp hpath hb hnone hk => ?_,
    fun h => ⟨fun hnone => ?_, fun hsome => ?_⟩, fun pin r probe en h hpin hr hen hb => ⟨fun hbar => ⟨fun hw => ?_, fun hw => ?_⟩, fun h1 hbar => ?_⟩,
    fun h => ?_⟩
  · exact completes_checked h rfl (by simp; omega) rfl
  · refine completes_checked h rfl (by simp [hb, -List.contains_eq_mem]; omega) ?_
    by_cases h1 : clear = 1
    · subst h1
      simp only [← begun_cardWord s mb]
      rfl
    · rw [if_neg h1, applyIf, if_neg (by simpa using h1)]
      simp only [← begun_cardWord s mb]
      rfl
  · refine ⟨_, completes_checked h rfl (by simp; omega) rfl, fun h0 => ?_, fun h1 => ?_⟩
    · rw [if_neg (by omega)]
      rfl
    · rw [if_pos h1]
      rfl
  · have hchecks : ∀ q ∈ [(decide (128 ≤ r) || decide (4 ≤ p) || (decide (1372 ≤ frame) && frame != 0xFFFF), stBadArg),
        (s.test.busy.contains r || s.test.busy.contains (1024 + 4 * r + p), stBusyTest), (s.cfg.load.isSome, stBusy),
        (s.planeState r p == psEmpty, stDenied),
        (s.planeState r p == psLoading && (s.ctxR r).claim != some p, stDenied)], q.1 = false := by
      have hframe : (decide (1372 ≤ frame) && frame != 0xFFFF) = false := by
        rcases hf with hf | hf <;> simp [hf]
      have hclaim : (s.planeState r p == psLoading && (s.ctxR r).claim != some p) = false := by
        rcases hload with hn | hc
        · simp [hn]
        · simp [hc]
      simp only [List.forall_mem_cons, hframe, hclaim, hb, hb', hl]
      simp [he]
      omega
    dsimp only
    refine ⟨fun hfs => completes_checked h rfl hchecks ?_, fun hfs => ?_⟩
    · exact (if_pos hfs).trans rfl
    · refine ⟨_, runs_checked h rfl hchecks ((if_neg hfs).trans rfl), rfl, rfl⟩
  · refine completes_checked h rfl ?_ rfl
    rcases hk with ⟨rfl, c, hc, hperm⟩ | ⟨rfl, h1, hsum, hb', he, hload, hbar⟩
    · have hprot : (0 == 0 && (s.ctxR r).cap.any (fun c => c.prot) && !s.flag R.SEC_PROT.DBG_READ) = false := by
        rcases hperm with hp | hp <;> simp [hc, hp]
      simp only [List.forall_mem_cons, hprot, hb, hnone]
      simp [hc]
      omega
    · have hstates : (s.planeState r p == psEmpty || s.planeState r p == psLoading || s.capBarred r p) = false := by
        simp [he, hload, hbar]
      simp only [List.forall_mem_cons, hstates, hb, hb', hnone]
      simp
      omega
  · refine completes_served h rfl ?_
    show (match s.integ.rdbk with | none => _ | some x => _) = _
    rw [hnone]
    rfl
  · obtain ⟨x, hx⟩ := Option.isSome_iff_exists.1 hsome
    have hx' : (s.begun mb).integ.rdbk = some x := hx
    have hexec := exec_served (c := .rdbkAbort mb) h rfl
    simp only [hx'] at hexec
    exact ⟨_, _, hexec.trans rfl, rfl, sendRdbk_ctx x _ _⟩
  · refine completes_checked h rfl ?_ rfl
    have hb1 : (en == 1 && s.plumeBarred r) = false := by rcases hbar with hb | hb <;> simp [hb]
    simp only [List.forall_mem_cons, hb1, hb, hw]
    simp
    omega
  · refine completes_denied h rfl ?_ (by decide)
    have hb1 : (en == 1 && s.plumeBarred r) = false := by rcases hbar with hb | hb <;> simp [hb]
    simp only [List.find?, hb1, hb, hw, Nat.not_le.2 hpin, Nat.not_le.2 hr, Nat.not_le.2 hen, decide_false, Bool.or_self]
  · refine completes_denied h rfl ?_ (by decide)
    simp only [List.find?, h1, hbar, hb, Nat.not_le.2 hpin, Nat.not_le.2 hr, decide_false, Bool.or_self]
    rfl
  · exact completes_served h rfl rfl

end Sys2Proof.Machine
end

section
/-! PROOFS. The identity, control and calibration commands of Tables 17-18 and 17-23. -/

namespace Sys2Proof.Machine

/-! ## The bits of a field -/

/-- A bit that is written takes its value, and no other bit of the field changes. -/
theorem State.bit_setBit (s : State) {f : Fld} {i j : Nat} (b : Bool) (hi : i < f.w) (hj : j < f.w) :
    (s.setBit f i b).bit f j = if j = i then b else s.bit f j := by
  unfold State.setBit
  split
  · next h => split <;> simp_all
  · next h =>
    rw [State.bit, State.get_set_same, Nat.testBit_mod_two_pow]
    have hbit : (s.get f).testBit i = !b := by
      cases b <;> simpa [State.bit] using h
    cases b with
    | false =>
      by_cases hji : j = i
      · subst hji
        have hset : s.get f = 2 ^ j + (s.get f - 2 ^ j) := by
          have := Nat.ge_two_pow_of_testBit hbit
          omega
        have hclear : (s.get f - 2 ^ j).testBit j = false := by
          rw [hset, Nat.testBit_two_pow_add_eq] at hbit
          simpa using hbit
        simp [hclear]
      · simp [hj, hji, State.bit, testBit_sub_two_pow hbit hji]
    | true =>
      have hset : (2 ^ i + s.get f).testBit i = true := by simp [Nat.testBit_two_pow_add_eq, hbit]
      rw [if_pos rfl, Nat.add_comm]
      by_cases hji : j = i
      · simp [hji, hset, hi]
      · have hrest := testBit_sub_two_pow hset hji
        rw [Nat.add_sub_cancel_left] at hrest
        simp [hj, hji, State.bit, hrest]

/-! ## The unlock words -/

/-- An unlock bit that is written is that of its function, and no other function is affected. -/
theorem unlocked_setBit (s : State) (g f : Nat) (b : Bool) :
    (s.setBit (R.EXP_UNLK.UNLK (g / 32)) (g % 32) b).unlocked' f = if f = g then b else s.unlocked' f := by
  have hlt (n : Nat) : n % 32 < (R.EXP_UNLK.UNLK (n / 32)).w := Nat.mod_lt n (by decide)
  unfold State.unlocked'
  by_cases hw : f / 32 = g / 32
  · rw [hw, State.bit_setBit s b (hlt g) (hlt f)]
    exact if_congr (by omega) rfl rfl
  · rw [if_neg (by omega), State.bit, State.bit,
      State.get_setBit_ne s _ _ (by simp only [Fld.key, R.EXP_UNLK.UNLK]; omega)]

/-- A sweep over functions gives each of them the bit, and no other. -/
theorem unlocked_sweep (l : List Nat) (b : Bool) (s : State) (f : Nat) :
    (forEach l (fun g s => s.setBit (R.EXP_UNLK.UNLK (g / 32)) (g % 32) b) s).unlocked' f = if f ∈ l then b else s.unlocked' f := by
  induction l generalizing s with
  | nil => rfl
  | cons g l ih =>
    refine (ih _).trans ?_
    rw [unlocked_setBit]
    by_cases hl : f ∈ l
    · simp [hl]
    · simp [hl, List.mem_cons]

/-- A range of functions takes the bit. -/
theorem unlocked_range (a n : Nat) (b : Bool) (s : State) (f : Nat) :
    (forEach ((List.range n).map (a + ·)) (fun g s => s.setBit (R.EXP_UNLK.UNLK (g / 32)) (g % 32) b) s).unlocked' f =
      if a ≤ f ∧ f < a + n then b else s.unlocked' f := by
  rw [unlocked_sweep]
  refine if_congr ?_ rfl rfl
  simp only [List.mem_map, List.mem_range]
  exact ⟨fun ⟨i, hi, he⟩ => by omega, fun h => ⟨f - a, by omega, by omega⟩⟩

/-! ## Bytes of a firmware copy -/

/-- Bytes written in a row read back. -/
theorem lookup_foldl_put_range (off n i : Nat) (g : Nat → Nat) (m : SMap Nat) (hi : i < n) :
    lookup ((List.range n).foldl (fun m i => put m (off + i) (g i)) m) (off + i) = some (g i) := by
  induction n with
  | zero => omega
  | succ n ih =>
    rw [List.range_succ, List.foldl_append]
    by_cases h : i = n
    · subst h
      exact lookup_put_same _ _ _
    · exact (lookup_put_ne _ _ (by omega)).trans (ih (by omega))

/-- The events that leave for a push path change no mailbox and no register. -/
theorem forEach_send (l : List EvRec) (o : EvRec → OutMsg) (s : State) :
    (forEach l (fun e s => s.send (o e)) s).regs = s.regs ∧ (forEach l (fun e s => s.send (o e)) s).mgt.mbx = s.mgt.mbx :=
  forEach_ind (fun t => t.regs = s.regs ∧ t.mgt.mbx = s.mgt.mbx) _ l s ⟨rfl, rfl⟩ fun _ _ h => h

theorem State.mbox_setQueue_same (s : State) (m : Nat) (q : List EvRec) :
    (s.setQueue m q).mbox m = { s.mbox m with queue := q } := at'_putD_same _ _ _ _

/-- A copy that is written leaves the other one. -/
theorem fwCopy_put_other {c : Nat} (s : State) (x : FwCopy) (hc : c < 2) :
    (s.modMgt fun g => { g with fw := put g.fw c x }).fwCopy (1 - c) = s.fwCopy (1 - c) :=
  congrArg (fun o : Option FwCopy => o.getD ⟨false, 0, 0, []⟩) (lookup_put_ne (k := c) (j := 1 - c) s.mgt.fw x (by omega))

/-- The first check that fails gives the status of a command with bytes. -/
theorem completes_bytes_denied {s : State} {mb code st : Nat} {args : List (Nat × Nat)} {bytes : List Nat} {c : Instr}
    {l : List (Bool × Nat)} {f : State → Ans} (h : s.servesBytes mb code args bytes = true)
    (he : exec c s = .next (talnumBytes mb code args bytes (checks l f) s)) (hl : l.find? (fun p => p.1) = some (true, st))
    (hst : st ≠ stBusyTest) : Completes c mb s st [] (s.begun mb) := by
  rw [Completes, he, talnumBytes_serves _ h, checks, hl]
  exact congrArg Host.Outcome.next (settle_fail mb _ hst)

theorem fwCopy_put_same (s : State) (c : Nat) (x : FwCopy) :
    (s.modMgt fun g => { g with fw := put g.fw c x }).fwCopy c = x := at'_put_same _ _ _ _

/-- A good record of this device, or one that is forced, is written to its units. -/
theorem importAns_writes {s : State} {mb force : Nat} {b : List Nat} {l : List CalSec} (hparse : calParse b = some l)
    (hst : s.calStatus l = stOk) (hser : force = 1 ∨ numAt b 8 16 = s.aon.serial) :
    (s.begun mb).importAns b force = .ret [(2, (calUnits l).length)] (writeCal l (s.begun mb)) := by
  have hserial : ¬ (numAt b 8 16 ≠ (s.begun mb).aon.serial ∧ force ≠ 1) := fun ⟨h, h'⟩ => hser.elim h' h
  simp only [State.importAns, hparse, begun_calStatus, hst]
  rw [if_neg hserial]
  rfl

/-- A command that begins changes nothing else of a mailbox. -/
theorem begun_mbox (s : State) (mb box : Nat) :
    ((s.begun mb).mbox box).mask = (s.mbox box).mask ∧ ((s.begun mb).mbox box).path = (s.mbox box).path := by
  by_cases h : box = mb
  · subst h
    have hsame : (s.begun box).mbox box = { s.mbox box with started := true } := at'_putD_same _ _ _ _
    rw [hsame]
    exact ⟨rfl, rfl⟩
  · have hother : (s.begun mb).mbox box = s.mbox box := at'_putD_ne _ _ _ _ h
    rw [hother]
    exact ⟨rfl, rfl⟩

/-- What `EVENT_CFG` leaves: the mailbox with its mask and event path, its records sent where the path pushes them. -/
def eventCfgState (from_ old : Mbox) (box mask : Nat) (s : State) : State :=
  let s := (s.setMbox box { old with mask := mask, evtPath := from_.path, evtA := from_.srcA, evtB := from_.srcB }).set
    (R.MB_CTL.EVT_LOST box) 0
  if from_.path < 2 then s
  else (forEach old.queue (fun e s => s.send ⟨from_.path, from_.srcA, from_.srcB, box, 3, e.bytes⟩) s).setQueue box []

theorem eventCfgState_mbox (from_ old : Mbox) (box mask : Nat) (s : State) :
    (eventCfgState from_ old box mask s).mbox box = { old with
      mask := mask, evtPath := from_.path, evtA := from_.srcA, evtB := from_.srcB
      queue := if from_.path < 2 then old.queue else [] } := by
  unfold eventCfgState
  split
  · exact at'_putD_same _ _ _ _
  · rw [State.mbox_setQueue_same, State.mbox, (forEach_send old.queue _ _).2]
    exact congrArg (fun b : Mbox => { b with queue := [] }) (at'_putD_same _ _ _ _)

theorem eventCfgState_lost (from_ old : Mbox) (box mask : Nat) (s : State) :
    (eventCfgState from_ old box mask s).get (R.MB_CTL.EVT_LOST box) = 0 := by
  unfold eventCfgState
  split
  · exact State.get_set_same _ _ _
  · rw [State.setQueue, State.setB, State.get_set_ne, State.get_set_ne]
    · exact (congrArg (fun r => at' r _ _) (forEach_send old.queue _ _).1).trans (State.get_set_same _ _ _)
    all_goals simp [Fld.key, R.MB_CTL.EVT_LOST, R.MB_CTL.EVT_CNT, R.MB_CTL.EVT]

/-- Settles O57, command by command. -/
theorem identityCommandsComplete : Obligations.IdentityCommandsComplete := by
  intro mb s
  refine ⟨fun c hdue hcode => ?_, fun h => completes_served h rfl rfl, fun h => completes_served h rfl rfl,
    fun c off bs h hc hlen hend => ⟨fun hrun => ?_, fun hrun => ?_⟩, fun c h hc hvalid => ?_, fun c h hc hvalid => ?_,
    fun a n h hn hend => ⟨fun hok hbusy => ?_, fun hok => ?_⟩, fun a n h hn hend => ?_,
    fun f a h ha hf => ⟨fun hne => ?_, fun heq => ?_⟩, fun box mask h hbox => ?_, fun box ms h hbox hms => ?_,
    fun scope h1 h32 => ⟨fun h => ⟨fun hlen n => ?_, fun hlen n => ?_⟩, fun n h => ?_, fun n h hn => ?_⟩,
    fun n force bytes l h hforce hlen hparse hst hser => ?_,
    fun n force bs b l h hn hforce hb hparse hst => ⟨fun hser => ?_, fun h0 hser => ?_⟩,
    fun h => completes_served h rfl rfl, fun b n h hb hn => ?_⟩
  · have hcmd : (s.mbox mb).cmd = c := by
      simp only [State.cmdDue, Bool.and_eq_true, beq_iff_eq] at hdue
      exact hdue.1.1.2
    refine if_pos ?_
    rw [hcmd, hdue, hcode]
    rfl
  · refine ⟨_, completes_bytes h rfl ?_ rfl, ?_, fun i hi => ?_, ?_⟩
    · have hne : (c == s.fwRunning) = false := by simpa using hrun
      simp only [List.forall_mem_cons, hne]
      simp
      omega
    · exact congrArg FwCopy.valid (fwCopy_put_same _ _ _)
    · refine (congrArg (fun x : FwCopy => lookup x.bytes (off + i)) (fwCopy_put_same _ _ _)).trans ?_
      refine (lookup_foldl_put_range off _ i (fun i => bs.getD i 0) _ hi).trans ?_
      simp [hi]
    · exact fwCopy_put_other _ _ hc
  · refine completes_bytes_denied h rfl ?_ (by decide)
    have heq : (c == s.fwRunning) = true := by simpa using hrun
    simp only [List.find?, heq, Nat.not_le.2 hc, Nat.not_lt.2 hlen, Nat.not_lt.2 hend, decide_false, Bool.or_self]
  · refine completes_checked h rfl (by simp; omega) ?_
    show (if (s.fwCopy c).valid = true then _ else _) = _
    rw [if_pos hvalid]
    rfl
  · have hcopy : (s.begun mb).fwCopy c = s.fwCopy c := rfl
    by_cases hv : Config.firmware (s.fwCopy c).bytes = 0
    · refine ⟨[], s.begun mb, ?_, rfl, rfl, by simp [hv, hcopy, hvalid], fun h0 => absurd hv h0⟩
      rw [if_pos hv]
      refine completes_checked h rfl (by simp; omega) ?_
      simp only [hcopy]
      rw [if_neg (by simp [hvalid]), if_pos hv]
      rfl
    · rw [if_neg hv]
      have hdone : ∃ n, Completes (.fwCommit mb c) mb s stOk (pack [(4, Config.firmware (s.fwCopy c).bytes - 1)])
          ((s.begun mb).modMgt fun g => { g with
            fw := put g.fw c ⟨true, (Config.firmware (s.fwCopy c).bytes - 1) % 2 ^ 32, n, (s.fwCopy c).bytes⟩ }) := by
        refine ⟨((s.fwCopy c).bytes.map fun e => e.1 + 1).foldl max 0, completes_checked h rfl (by simp; omega) ?_⟩
        simp only [hcopy]
        rw [if_neg (by simp [hvalid]), if_neg hv]
        rfl
      obtain ⟨n, hdone⟩ := hdone
      refine ⟨_, _, hdone, rfl, fwCopy_put_other _ _ hc, ?_, fun _ => ?_⟩
      · rw [fwCopy_put_same]
        simp [hv]
      · rw [fwCopy_put_same]
  · refine ⟨_, _, completes_checked h rfl ?_ rfl, fun f => ?_⟩
    · simp only [List.forall_mem_cons, hok, hbusy, badRange]
      simp
      omega
    · refine (unlocked_range a n true _ f).trans ?_
      show (if _ then true else s.unlocked' f) = _
      split
      · next hin => simp [hin]
      · next hout => simp [hout]
  · refine completes_denied h rfl ?_ (by decide)
    simp [hok, badRange, Nat.not_lt.2 hend, Nat.ne_of_gt hn]
  · refine ⟨_, _, completes_checked h rfl (by simp [badRange]; omega) rfl, fun f => ?_⟩
    refine (unlocked_range a n false _ f).trans ?_
    show (if _ then false else s.unlocked' f) = _
    split
    · next hin => simp [hin]
    · next hout => simp [hout]
  · refine completes_checked h rfl (by simp [hf, hne]; omega) ?_
    by_cases h2 : a = 2
    · subst h2
      rfl
    · rw [if_neg h2]
      obtain rfl | rfl : a = 0 ∨ a = 1 := by omega
      · rfl
      · rfl
  · refine completes_denied h rfl ?_ (by decide)
    subst heq
    simp [Nat.not_le.2 ha]
    decide
  · refine ⟨eventCfgState ((s.begun mb).mbox mb) ((s.begun mb).mbox box) box mask (s.begun mb),
      completes_checked h rfl (by simp; omega) ?_, ?_, ?_, eventCfgState_lost _ _ _ _ _, fun hpush => ?_⟩
    · rw [← (begun_mbox s mb box).1]
      rfl
    · rw [eventCfgState_mbox]
    · rw [eventCfgState_mbox]
      exact (begun_mbox s mb mb).2
    · rw [eventCfgState_mbox]
      exact if_neg (by rw [(begun_mbox s mb mb).2]; omega)
  · exact completes_checked h rfl (by simp; omega) rfl
  · refine completes_checked h rfl (by simp; omega) ?_
    rw [State.exportAns, if_pos rfl, begun_calRecord]
    exact if_neg (Nat.not_lt.2 hlen)
  · refine completes_checked h rfl (by simp; omega) ?_
    rw [State.exportAns, if_pos rfl, begun_calRecord]
    exact if_pos hlen
  · refine completes_checked h rfl (by simp; omega) ?_
    rw [State.exportAns, if_neg (by decide), if_pos rfl, begun_calRecord]
    rfl
  · refine completes_checked h rfl (by simp; omega) ?_
    rw [State.exportAns, if_neg (by decide), if_neg (by decide), begun_calRecord]
    rfl
  · refine completes_bytes h rfl (by simp; omega) ?_
    rw [importAns_writes hparse hst hser]
    rfl
  · refine completes_checked h rfl (by simp; omega) ?_
    have hlook : lookup (s.begun mb).mgt.cal n = some b := hb
    simp only [hlook]
    rw [importAns_writes hparse hst hser]
    rfl
  · refine completes_checked h rfl (by simp; omega) ?_
    have hlook : lookup (s.begun mb).mgt.cal n = some b := hb
    simp only [hlook, State.importAns, hparse]
    exact if_pos ⟨hser, by omega⟩
  · refine completes_checked h rfl ?_ rfl
    rcases hn with hn | ⟨rfl, rfl⟩
    · simp
      omega
    · simp

end Sys2Proof.Machine
end

section
/-! PROOFS. The thermal and power commands of Table 18-14. -/

namespace Sys2Proof.Machine

/-- Settles O59, command by command. -/
theorem powerCommandsComplete : Obligations.PowerCommandsComplete := by
  intro mb s
  refine ⟨fun h => ?_, fun l g f h hl hl' hg hg' hf hf' => ?_, fun h => completes_served h rfl rfl,
    fun h => completes_served h rfl rfl, fun h => completes_served h rfl rfl, fun a n h hn hn' => ?_,
    fun q u o h hq hu ho ht => ⟨fun hmode => ?_, fun hmode => ⟨?_, ?_, ?_, ?_, ?_, ?_⟩⟩⟩
  · refine completes_served h rfl ?_
    simp only [← begun_cardWord s mb]
    rfl
  · exact completes_checked h rfl (by simp; omega) rfl
  · exact completes_checked h rfl (by simp; omega) rfl
  · refine completes_denied h rfl ?_ (by decide)
    simp [ht, hmode, Nat.not_le.2 hq, Nat.not_le.2 hu, Nat.not_le.2 ho]
  · rintro rfl rfl
    refine completes_checked h rfl (by simp [ht, hmode]; omega) ?_
    by_cases hq' : q ∈ s.therm.upperOff
    · rw [if_pos hq']
      simp only [List.contains_eq_mem, hq', decide_true, if_true]
      rfl
    · rw [if_neg hq']
      simp only [List.contains_eq_mem, hq', decide_false, Bool.false_eq_true, if_false]
      rfl
  · rintro rfl rfl hmem
    refine completes_denied h rfl ?_ (by decide)
    simp [ht, hmode, hmem, Nat.not_le.2 hq]
  · rintro rfl rfl hmem
    exact completes_checked h rfl (by simp [ht, hmode, hmem]; omega) rfl
  · rintro rfl rfl hupper
    refine completes_denied h rfl ?_ (by decide)
    simp [ht, hmode, hupper, Nat.not_le.2 hq]
  · rintro rfl rfl hupper hidle
    have hbanks : ((List.range 64).map (64 * q + ·)).any (fun b => s.flag (R.BANK_CFG.LAND b) || s.flag (R.BANK_CFG.CMODE b)) = false := by
      simp only [List.any_map, List.any_eq_false, List.mem_range, Function.comp_apply]
      intro i hi
      obtain ⟨hland, hcmode⟩ := hidle i hi
      simp [hland, hcmode]
    refine completes_checked h rfl ?_ ?_
    · simp only [List.forall_mem_cons, hbanks, ht]
      simp [hmode, hupper]
      omega
    · by_cases hq' : q ∈ s.therm.memOff
      · rw [if_pos hq']
        simp only [List.contains_eq_mem, hq', decide_true, if_true]
        rfl
      · rw [if_neg hq']
        simp only [List.contains_eq_mem, hq', decide_false, Bool.false_eq_true, if_false]
        rfl
  · rintro rfl rfl
    exact completes_checked h rfl (by simp [ht, hmode]; omega) rfl

end Sys2Proof.Machine
end

section
/-! PROOFS. What leaves the mode, the straps and the self-test registers alone. -/

namespace Sys2Proof.Machine

/-! ## Registers of the mode controller and of self-test -/

/-- The registers below 10h (the device, its mode and its straps) and those of self-test from 900h to 97Fh. -/
def Fld.Low (f : Fld) : Prop := f.key < 0x10 * 64 ∨ 0x900 * 64 ≤ f.key ∧ f.key < 0x980 * 64

theorem Fld.Low.plain {f : Fld} (h : f.Low) : f.Plain := by
  unfold Fld.Low at h
  unfold Fld.Plain
  omega

/-- Those registers, the ready flag of Boot, the policy and the waiting slices stay. -/
structure LowKept (s t : State) : Prop where
  get : ∀ f : Fld, f.Low → t.get f = s.get f
  boot : t.aon.bootReady = s.aon.bootReady
  policy : t.test.policy = s.test.policy
  queue : t.test.queue = s.test.queue

namespace LowKept

variable {s t u : State}

theorem refl : LowKept s s := ⟨fun _ _ => rfl, rfl, rfl, rfl⟩

theorem trans (h : LowKept s t) (h' : LowKept t u) : LowKept s u :=
  ⟨fun f hf => (h'.get f hf).trans (h.get f hf), h'.boot.trans h.boot, h'.policy.trans h.policy, h'.queue.trans h.queue⟩

theorem ite {c : Prop} [Decidable c] (ht : LowKept s t) (hu : LowKept s u) : LowKept s (if c then t else u) := by
  split <;> assumption

theorem applyIf {c : Bool} {f : State → State} (h : LowKept s (f s)) : LowKept s (applyIf c f s) := .ite h .refl

theorem forEach {α : Type} {f : α → State → State} (l : List α) (s : State) (hf : ∀ a u, LowKept u (f a u)) :
    LowKept s (Machine.forEach l f s) :=
  forEach_ind (LowKept s) f l s .refl fun a u h => h.trans (hf a u)

theorem forEachMem {α : Type} {f : α → State → State} (l : List α) (s : State) (hf : ∀ a ∈ l, ∀ u, LowKept u (f a u)) :
    LowKept s (Machine.forEach l f s) :=
  forEach_mem_ind (P := LowKept s) l s .refl fun a ha u h => h.trans (hf a ha u)

/-- Parts of the state other than registers, the AON domain and self-test may change. -/
theorem rest (hregs : t.regs = s.regs) (haon : t.aon = s.aon) (htest : t.test = s.test) : LowKept s t :=
  ⟨fun f _ => by rw [State.get, State.get, hregs], by rw [haon], by rw [htest], by rw [htest]⟩

theorem mgt (m : Mgt) (s : State) : LowKept s { s with mgt := m } := .rest rfl rfl rfl

theorem modCtx (r : Nat) (f : CtxR → CtxR) (s : State) : LowKept s (s.modCtx r f) := .rest rfl rfl rfl

theorem modLane (l : Nat) (f : LaneSt → LaneSt) (s : State) : LowKept s (s.modLane l f) := .rest rfl rfl rfl

theorem modCache (f : Cache → Cache) (s : State) : LowKept s (s.modCache f) := .rest rfl rfl rfl

theorem modTherm (f : Therm → Therm) (s : State) : LowKept s (s.modTherm f) := .rest rfl rfl rfl

theorem integ (x : Integ) (s : State) : LowKept s { s with integ := x } := .rest rfl rfl rfl

theorem modIo (f : Io → Io) (s : State) : LowKept s (s.modIo f) := .rest rfl rfl rfl

theorem modCfg (f : Cfg → Cfg) (s : State) : LowKept s (s.modCfg f) := .rest rfl rfl rfl

theorem modFab (f : Fab → Fab) (s : State) : LowKept s (s.modFab f) := .rest rfl rfl rfl

theorem set {g : Fld} (v : Nat) (s : State) (hg : 0x10 * 64 ≤ g.key) (hg' : g.key < 0x900 * 64 ∨ 0x980 * 64 ≤ g.key) :
    LowKept s (s.set g v) :=
  ⟨fun f hf => State.get_set_ne s v fun he => by unfold Fld.Low at hf; omega, rfl, rfl, rfl⟩

/-- The registers from 1000h on. -/
theorem setHigh {g : Fld} (v : Nat) (s : State) (hg : 0x1000 * 64 ≤ g.key) : LowKept s (s.set g v) :=
  .set v s (by omega) (by omega)

theorem incWrap {g : Fld} (s : State) (hg : 0x1000 * 64 ≤ g.key) : LowKept s (s.incWrap g) := .setHigh _ s hg

theorem setBit {g : Fld} (i : Nat) (b : Bool) (s : State) (hg : 0x1000 * 64 ≤ g.key) : LowKept s (s.setBit g i b) := by
  unfold State.setBit
  exact .ite .refl (.setHigh _ s hg)

theorem raise (code : Nat) (args : List (Nat × Nat)) (s : State) : LowKept s (raise code args s) :=
  ⟨fun f hf => raise_get code args s f hf.plain, by rw [raise_aon], by rw [raise_test], by rw [raise_test]⟩

theorem finishCmd (n st : Nat) (res : List Nat) (late : Bool) (s : State) : LowKept s (finishCmd n st res late s) := by
  unfold Machine.finishCmd
  split
  · exact .ite (.mgt _ s) .refl
  · split
    · exact (LowKept.mgt _ s).trans (.raise _ _ _)
    · exact .refl

theorem mode (h : LowKept s t) : t.mode = s.mode := h.get R.DEV_MODE.MODE (Or.inl (by decide))

/-! ## Regions and lanes -/

theorem refreshClaimed (r : Nat) (s : State) : LowKept s (refreshClaimed r s) :=
  .setHigh _ s (by simp only [Fld.key, R.CTX_STAT.CLAIMED]; omega)

theorem setLane (l st : Nat) (s : State) : LowKept s (setLane l st s) :=
  .setHigh _ s (by simp only [Fld.key, R.LANE_STAT.STATE]; omega)

theorem bringUp (l : Nat) (s : State) : LowKept s (bringUp l s) := by
  unfold Machine.bringUp
  refine .ite (.setLane _ _ _) (.ite ((LowKept.setLane _ _ _).trans (.setHigh _ _ ?_)) (.ite ?_ ?_))
  · simp only [Fld.key, R.LANE_STAT.REASON]
    omega
  · exact (LowKept.setLane _ _ _).trans (.modLane _ _ _)
  · simp only [Machine.forEach, List.foldl_cons, List.foldl_nil]
    refine .trans (.trans (.trans (.trans (.trans (.modLane l _ s) (.setHigh 0 _ ?_)) (.setHigh 0 _ ?_)) (.setHigh 0 _ ?_))
      (.setHigh 0 _ ?_)) (.setLane _ _ _)
    all_goals simp only [Fld.key, R.LANE_STAT.CDR_LOCK, R.LANE_STAT.BLK_LOCK, R.LANE_STAT.FROZEN, R.LANE_STAT.FL_OK]; omega

theorem endRotation (r : Nat) (s : State) : LowKept s (endRotation r s) := by
  refine .trans (.trans (.setHigh (g := R.CTX_STAT.ROTATING r) 0 s ?_) (.setHigh (g := R.CTX_CFG.ROT_EN r) 0 _ ?_)) (.modCtx _ _ _)
  · simp only [Fld.key, R.CTX_STAT.ROTATING]
    omega
  · simp only [Fld.key, R.CTX_CFG.ROT_EN]
    omega

theorem beginHold (r : Nat) (s : State) : LowKept s (beginHold r s) := by
  unfold Machine.beginHold
  refine .ite .refl (.trans (.ite .refl (.modFab _ _)) (.setHigh _ _ ?_))
  simp only [Fld.key, R.BORDER_STAT.HOLDING]
  omega

theorem refreshBorder (r : Nat) (s : State) : LowKept s (refreshBorder r s) := by
  refine .trans (.trans (.applyIf (.beginHold r s)) (.trans (.setHigh (g := R.BORDER_STAT.CAUSE r) _ _ ?_)
    (.setHigh (g := R.BORDER_STAT.HOLDING r) _ _ ?_))) (.applyIf (.endRotation r _))
  · simp only [Fld.key, R.BORDER_STAT.CAUSE]
    omega
  · simp only [Fld.key, R.BORDER_STAT.HOLDING]
    omega

theorem logEss (kind flags addr bit wmask status : Nat) (s : State) : LowKept s (logEss kind flags addr bit wmask status s) := by
  unfold Machine.logEss
  refine .trans (.trans (.incWrap (g := R.ESS_TOTAL.TOTAL) s (by decide)) ?_) (.applyIf (.setHigh _ _ (by decide)))
  refine .trans (.trans ?_ (.setHigh _ _ (by decide))) (.setHigh _ _ (by decide))
  exact .integ _ _

theorem swapPlume (r : Nat) (s : State) : LowKept s (swapPlume r s) := by
  refine .forEachMem _ _ fun k hk u => .ite (.ite (.trans (.set 3 u ?_ ?_) (.set 1 _ (by decide) (by decide))) (.set 0 u ?_ ?_)) .refl
  all_goals
    have := List.mem_range.1 hk
    simp only [Fld.key, R.PLUME_SEL.STATE]
    omega

theorem modBank' (b : Nat) (f : Bank → Bank) (s : State) : LowKept s (s.modBank' b f) := .rest rfl rfl rfl

theorem completeHandover (b : Nat) (s : State) : LowKept s (completeHandover b s) := by
  refine .trans (.trans (.applyIf (.setHigh 0 s ?_)) (.trans (.trans (.trans (.setHigh _ _ ?_) (.setHigh 0 _ ?_)) (.setHigh 0 _ ?_))
    (.setHigh 1 _ ?_))) (.raise _ _ _)
  all_goals simp only [Fld.key, R.BANK_OWN.ARM, R.BANK_OWN.OWNER, R.BANK_OWN.PEND, R.BANK_OWN.GO, R.BANK_OWN.HANDED]; omega

theorem commitHandover (b : Nat) (s : State) : LowKept s (commitHandover b s) := by
  have hpend : LowKept s ((s.modBank' b fun k => { k with goDue := false }).set (R.BANK_OWN.PEND b) 1) :=
    (LowKept.modBank' _ _ _).trans (.setHigh _ _ (by simp only [Fld.key, R.BANK_OWN.PEND]; omega))
  exact .ite (hpend.trans (.completeHandover _ _)) hpend

theorem releaseBanks (r : Nat) (s : State) : LowKept s (releaseBanks r s) := by
  refine .forEach _ _ fun b u => .ite ?_ .refl
  have hnext : LowKept u (u.set (R.BANK_OWN.NEXT b) ownAgent) := .setHigh _ _ (by simp only [Fld.key, R.BANK_OWN.NEXT]; omega)
  exact .ite hnext (hnext.trans (.commitHandover _ _))

theorem fenceRegion (r : Nat) (s : State) : LowKept s (fenceRegion r s) := by
  refine .trans (.trans (.trans (.trans (.applyIf (.modFab _ s)) (.beginHold r _)) (.setHigh 1 _ ?_)) (.refreshBorder r _))
    (.trans (.swapPlume r _) (.releaseBanks r _))
  simp only [Fld.key, R.BORDER_STAT.FENCED]
  omega

theorem offlineBank (b : Nat) (s : State) : LowKept s (offlineBank b s) := by
  have hoff : LowKept s (s.set (R.BANK_CFG.OFFLINE b) 1) := .setHigh _ _ (by simp only [Fld.key, R.BANK_CFG.OFFLINE]; omega)
  refine .ite hoff (.trans (.trans (hoff.trans (.setHigh _ _ ?_)) (.modCache _ _)) (.forEach _ _ fun i u => .raise _ _ _))
  simp only [Fld.key, R.CMODE_CFG.WAY_LOST]
  omega

theorem fenceSeam (p addr : Nat) (border : List Nat) (s : State) : LowKept s (fenceSeam p addr border s) := by
  refine .trans (.trans (.trans (.trans (.modFab _ s) (.setHigh 1 _ ?_)) (.setHigh _ _ ?_)) (.raise _ _ _))
    (.forEach _ _ fun b u => .logEss _ _ _ _ _ _ _)
  all_goals simp only [Fld.key, R.SEAM_CFG.FENCED, R.SEAM_CFG.FENCE_CNT]; omega

theorem closePort (n o : Nat) (s : State) : LowKept s (closePort n o s) := .ite (.rest rfl rfl rfl) .refl

theorem withdraw (a : Nat) (c : VertLoad) (s : State) : LowKept s (withdraw a c s) := by
  cases c with
  | region r => exact .fenceRegion _ _
  | cachePort r => exact (LowKept.modCache _ _).trans (.raise _ _ _)
  | bankPath b => exact (LowKept.offlineBank _ _).trans (.raise _ _ _)
  | farPath a b => exact (LowKept.modCache _ _).trans (.raise _ _ _)
  | seam p border => exact .fenceSeam _ _ _ _
  | join r st => exact (LowKept.closePort _ _ _).trans (.closePort _ _ _)
  | hitStream b => exact .rest rfl rfl rfl
  | trigger l => exact .rest rfl rfl rfl

theorem fenceAddr (a : Nat) (s : State) : LowKept s (fenceAddr a s) := by
  refine .ite .refl (.trans (.trans (.trans (.trans (.modTherm _ _) (.withdraw _ _ _))
    (.set (g := R.VERT_STAT.FENCED) _ _ (by decide) (by decide))) (.set (g := R.VERT_LAST.ADDR) _ _ (by decide) (by decide)))
    (.modTherm _ _))

/-! ## Failures of self-test -/

theorem addSoft (e : RepairEnt) (s : State) : LowKept s (addSoft e s).2 := by
  unfold Machine.addSoft
  split
  · exact .set 1 s (by decide) (by decide)
  · refine .trans (.trans (t := s.modTest fun t => { t with soft := t.soft ++ [e] }) ⟨fun _ _ => rfl, rfl, rfl, rfl⟩
      (.set _ _ (by decide) (by decide))) (.set _ _ (by decide) (by decide))

theorem applyEntry (e : RepairEnt) (s : State) : LowKept s (applyEntry e s) := by
  have happlied : LowKept s (s.modTest fun t => { t with applied := (t.applied.filter fun x => !sameElement x e) ++ [e] }) :=
    ⟨fun _ _ => rfl, rfl, rfl, rfl⟩
  unfold Machine.applyEntry
  refine happlied.trans ?_
  split
  · exact (LowKept.modBank' _ _ _).trans (.setHigh _ _ (by simp only [Fld.key, R.BANK_STAT.SPARES]; omega))
  · refine .trans (.trans (.setHigh 1 _ ?_) (.setHigh 1 _ ?_)) (.setBit _ _ _ ?_)
    all_goals simp only [Fld.key, R.TDC_CFG.CORE_FAIL, R.TDC_CFG.ON_SPARE, R.BANK_CTL.SPARE_GONE]; omega
  · exact .refl

theorem handleFail (f : FailEntry) (s : State) : LowKept s (handleFail f s).2 := by
  unfold Machine.handleFail
  split
  · exact .refl
  · split
    · exact .refl
    · next e _ =>
      split
      · exact .refl
      · split
        · exact .refl
        · simp only
          split
          · exact (LowKept.addSoft e s).trans (.trans (.applyEntry _ _) (.raise _ _ _))
          · exact .addSoft e s

theorem handleFails (l : List FailEntry) (s : State) : LowKept s (handleFails l s).2 := by
  induction l generalizing s with
  | nil => exact .refl
  | cons f l ih => exact (LowKept.handleFail f s).trans (.trans (.raise _ _ _) (ih _))

theorem reinitUnit (slice : Nat) (failed : List Nat) (u : Nat) (s : State) : LowKept s (reinitUnit slice failed u s) := by
  unfold Machine.reinitUnit
  split
  · exact (LowKept.modCtx _ _ _).trans (.refreshClaimed _ _)
  · exact .setHigh _ _ (by simp only [Fld.key, R.BM_STAT.CLR_BUSY]; omega)
  · exact .setHigh _ _ (by simp only [Fld.key, R.BANK_STAT.CLR_BUSY]; omega)
  · exact .forEach _ _ fun g u => .setHigh _ _ (by simp only [Fld.key, R.SEG_CFG.CLR_BUSY]; omega)
  · exact .ite .refl (.rest rfl rfl rfl)
  · exact (LowKept.setLane _ _ _).trans (.applyIf (.bringUp _ _))
  · exact .refl

end LowKept

/-! ## Outside the run-class modes -/

/-- Registers that the end of a load and the entry to Safe leave: a condition of `DEV_MODE` and its `WAKE` may change, and so may
a whole word of `RST_FUNC` or `RST_ACT`. -/
def Fld.Calm (f : Fld) : Prop :=
  f.Low ∧ (f.key < 0x10 * 64 ∨ f.key % 64 ≠ 0) ∧ f.key ≠ R.DEV_MODE.COND_REBLOCK.key ∧ f.key ≠ R.DEV_MODE.WAKE.key

/-- From a mode that is not run-class, the calm registers and the ready flag of Boot stay. -/
structure CalmKept (s t : State) : Prop where
  kept : s.runClass = false → (∀ f : Fld, f.Calm → t.get f = s.get f) ∧ t.aon.bootReady = s.aon.bootReady

theorem Fld.calm_mode : R.DEV_MODE.MODE.Calm := ⟨Or.inl (by decide), Or.inl (by decide), by decide, by decide⟩

theorem LowKept.calm {s t : State} (h : LowKept s t) : CalmKept s t := ⟨fun _ => ⟨fun f hf => h.get f hf.1, h.boot⟩⟩

namespace CalmKept

variable {s t u : State}

theorem refl : CalmKept s s := ⟨fun _ => ⟨fun _ _ => rfl, rfl⟩⟩

theorem runClass (h : CalmKept s t) (hs : s.runClass = false) : t.runClass = false := by
  have hmode : t.mode = s.mode := (h.kept hs).1 _ Fld.calm_mode
  rw [← hs, State.runClass, State.runClass, hmode]

theorem trans (h : CalmKept s t) (h' : CalmKept t u) : CalmKept s u := by
  refine ⟨fun hs => ?_⟩
  obtain ⟨hget, hboot⟩ := h.kept hs
  obtain ⟨hget', hboot'⟩ := h'.kept (h.runClass hs)
  exact ⟨fun f hf => (hget' f hf).trans (hget f hf), hboot'.trans hboot⟩

theorem ite {c : Prop} [Decidable c] (ht : CalmKept s t) (hu : CalmKept s u) : CalmKept s (if c then t else u) := by
  split <;> assumption

theorem forEach {α : Type} {f : α → State → State} (l : List α) (s : State) (hf : ∀ a u, CalmKept u (f a u)) :
    CalmKept s (Machine.forEach l f s) :=
  forEach_ind (CalmKept s) f l s .refl fun a u h => h.trans (hf a u)

theorem set {g : Fld} (v : Nat) (s : State) (hg : ∀ f : Fld, f.Calm → f.key ≠ g.key) : CalmKept s (s.set g v) :=
  ⟨fun _ => ⟨fun f hf => State.get_set_ne s v (hg f hf), rfl⟩⟩

theorem setBit_word (i : Nat) (b : Bool) {g : Fld} (s : State) (hg : 0x10 * 64 ≤ g.key) (hg' : g.key % 64 = 0) :
    CalmKept s (s.setBit g i b) := by
  unfold State.setBit
  exact .ite .refl (.set _ _ fun f ⟨_, hf, _⟩ he => by omega)

theorem releaseNets (r : Nat) (s : State) : LowKept s (releaseNets r s) := .forEach _ _ fun _ _ => .modFab _ _

theorem clearHold (r : Nat) (s : State) :
    CalmKept s ((s.setBit (R.RST_FUNC.HOLD (r / 32)) (r % 32) false).setBit (R.RST_ACT.ACT (r / 32)) (r % 32) false) := by
  refine (setBit_word _ _ _ ?_ ?_).trans (.setBit_word _ _ _ ?_ ?_)
  all_goals simp only [Fld.key, R.RST_FUNC.HOLD, R.RST_ACT.ACT]; omega

theorem endUncHold (r : Nat) (s : State) : CalmKept s (endUncHold r s) := by
  have hinteg : CalmKept s { s with integ := { s.integ with uncHeld := s.integ.uncHeld.filter fun k => k != r } } :=
    (LowKept.integ _ s).calm
  exact .ite .refl (.ite hinteg (hinteg.trans ((clearHold r _).trans
    ((LowKept.mgt _ _).trans (.trans (.modCtx _ _ _) (releaseNets _ _))).calm)))

theorem cancelRepairs (k : Nat) (s : State) : CalmKept s (cancelRepairs k s) := by
  have hlist : LowKept s (Machine.forEach (s.integ.asks.filter fun e => e.2.1 == k) (fun e s => finishCmd e.1 stCancelled [] false s)
      { s with integ := { s.integ with
        queue := s.integ.queue.filter fun e => e.1 != k
        asks := s.integ.asks.filter fun e => e.2.1 != k } }) :=
    (LowKept.integ _ s).trans (.forEach _ _ fun e u => .finishCmd _ _ _ _ _)
  exact .ite (hlist.calm.trans (.endUncHold _ _)) hlist.calm

theorem setPlaneState (r p st : Nat) (s : State) : LowKept s (setPlaneState r p st s) := by
  refine .setHigh _ _ ?_
  unfold psField
  split <;> simp only [Fld.key, R.CTX_STAT.PS0, R.CTX_STAT.PS1, R.CTX_STAT.PS2, R.CTX_STAT.PS3] <;> omega

theorem emptyPlane (r p : Nat) (s : State) : CalmKept s (emptyPlane r p s) := by
  have hempty : LowKept s ((Machine.setPlaneState r p psEmpty s).modPlane r p fun _ => Plane.empty) :=
    (setPlaneState _ _ _ _).trans (.rest rfl rfl rfl)
  refine .trans (.trans hempty.calm (.cancelRepairs _ _)) (LowKept.forEach _ _ fun m u => .setHigh _ _ ?_).calm
  simp only [Fld.key, R.BM_STAT.PLANES]
  omega

theorem refreshReblock (s : State) : CalmKept s (refreshReblock s) := by
  refine ⟨fun hs => ?_⟩
  have hcond : CalmKept s (s.setB R.DEV_MODE.COND_REBLOCK (s.ctx.regions.any fun e => e.2.ow != 0)) :=
    .set _ _ fun f ⟨_, _, hf, _⟩ => hf
  have hsame : Machine.refreshReblock s = s.setB R.DEV_MODE.COND_REBLOCK (s.ctx.regions.any fun e => e.2.ow != 0) :=
    if_neg (by rw [hcond.runClass hs]; decide)
  rw [hsame]
  exact hcond.kept hs

theorem cleanLoad (l : Load) (s : State) : CalmKept s (cleanLoad l s) := by
  refine .trans (.trans (.trans (.trans (.trans (.forEach _ _ fun k u => .ite (.emptyPlane _ _ _) .refl) (.forEach _ _ fun r u => ?_))
    (.forEach _ _ fun r u => .ite (LowKept.modCtx _ _ _).calm .refl)) (.forEach _ _ fun k u => (LowKept.refreshClaimed _ _).calm))
    (.forEach _ _ fun b u => ((LowKept.setHigh 0 _ ?_).trans (.setHigh _ _ ?_)).calm)) (.refreshReblock _)
  · split
    · exact .ite .refl (LowKept.modCtx _ _ _).calm
    · exact .refl
  · simp only [Fld.key, R.BANK_CFG.LAND]
    omega
  · simp only [Fld.key, R.BANK_STAT.CLR_BUSY]
    omega

theorem setLast (st : Nat) (s : State) : LowKept s (setLast st s) :=
  (LowKept.setHigh _ _ (by decide)).trans (.modCfg _ _)

/-- A load that ends without what follows a failed first load. -/
theorem endLoad (st : Nat) (aborted : Bool) (s : State) : CalmKept s (endLoadWith st aborted false s) := by
  unfold endLoadWith
  split
  · exact .refl
  · next l _ =>
    refine .trans (.trans (.trans (.trans ?_ (LowKept.modCfg _ _).calm) (.cleanLoad l _)) ((setLast st _).trans (.setHigh 0 _ (by decide))).calm)
      (LowKept.finishCmd _ _ _ _ _).calm
    exact (LowKept.applyIf (.modLane _ _ _)).calm

end CalmKept

end Sys2Proof.Machine
end

section
/-! PROOFS. The entry to Safe (R46, R449, R450). -/

namespace Sys2Proof.Machine

variable {c : Nat} {s : State}

/-- A later cause of the same entry is noted and nothing else. -/
theorem enterSafe_again (h : s.mode = mSafe) : LowKept s (enterSafe c s) := by
  rw [enterSafe, if_pos h]
  exact ⟨fun _ _ => rfl, rfl, rfl, rfl⟩

/-- The state in which the entry stands before its load ends. -/
def safeEntry (c : Nat) (s : State) : State :=
  commitMode mSafe ((s.set R.DEV_MODE.SAFE_CAUSE c).modAon fun a => { a with safeCauses := [c], pairWait := false })

theorem safeEntry_get (f : Fld) (hf : f.Low) (h0 : f.key ≠ R.DEV_MODE.SAFE_CAUSE.key)
    (h1 : f.key ≠ R.DEV_MODE.PREV_MODE.key) (h2 : f.key ≠ R.DEV_MODE.MODE.key) (h3 : f.key ≠ R.DEV_MODE.MODE_CHG.key) :
    (safeEntry c s).get f = s.get f :=
  (commitMode_get _ _ f hf.plain h1 h2 h3).trans (State.get_set_ne s c h0)

theorem safeEntry_cause : (safeEntry c s).get R.DEV_MODE.SAFE_CAUSE = c % 16 :=
  (commitMode_get _ _ _ (by decide) (by decide) (by decide) (by decide)).trans (State.get_set_same s R.DEV_MODE.SAFE_CAUSE c)

theorem clearWake_calm (s : State) : CalmKept s (clearWake s) :=
  (CalmKept.set (g := R.DEV_MODE.WAKE) 0 s fun _ hf => hf.2.2.2).trans ⟨fun _ => ⟨fun _ _ => rfl, rfl⟩⟩

theorem dropWakes_calm (s : State) : CalmKept s (dropWakes s) := by
  have hdue : CalmKept s (s.modAon fun a => { a with wakeCmds := [], quiesceReq := none }) := ⟨fun _ => ⟨fun _ _ => rfl, rfl⟩⟩
  exact (hdue.trans (clearWake_calm _)).trans (.forEach _ _ fun n u => (LowKept.finishCmd _ _ _ _ _).calm)

/-- Clocks stop, outputs hold, writes are disabled, and Blocking ends. -/
def safeStop (s : State) : State :=
  ((((holdPins s).modFab fun f => { f with clocksOn := false, writes := false }).modIo fun i => { i with released := false }).modCfg
    fun k => { k with blk := { k.blk with active := false, delay := false } }).set R.BLK_STAT.FILLING 0

theorem safeStop_low (s : State) : LowKept s (safeStop s) := by
  refine .trans (.trans (.trans (.trans (.modIo _ s) (.modFab _ _)) (.modIo _ _)) (.modCfg _ _)) (.setHigh _ _ ?_)
  decide

/-- The entry from a mode other than Quiescent: the commit, the wakes given up, the stop, and the end of a load. -/
theorem enterSafe_eq (hup : s.up = true) (h : s.mode ≠ mSafe) (hq : s.mode ≠ mQuiescent) :
    enterSafe c s = if (safeStop (dropWakes (safeEntry c s))).loadCommitted then safeStop (dropWakes (safeEntry c s))
      else endLoadWith stShort false false (safeStop (dropWakes (safeEntry c s))) := by
  have hwas : (s.mode == mQuiescent) = false := by simpa using hq
  have hnot : (s.mode != mQuiescent) = true := by simpa using hq
  rw [enterSafe, if_neg h, if_neg (by simp [hup])]
  simp only [hwas, hnot, applyIf_true, applyIf_false]
  rfl

/-- What follows the commit of Safe keeps the mode, the straps and what the entry shows. -/
theorem enterSafe_calm (hup : s.up = true) (h : s.mode ≠ mSafe) (hq : s.mode ≠ mQuiescent) :
    CalmKept (safeEntry c s) (enterSafe c s) := by
  have hstop := (dropWakes_calm (safeEntry c s)).trans (safeStop_low _).calm
  rw [enterSafe_eq hup h hq]
  exact .ite hstop (hstop.trans (.endLoad _ _ _))

theorem safeEntry_runClass : (safeEntry c s).runClass = false := by
  rw [State.runClass, safeEntry, commitMode_mode _ _ (by decide)]
  rfl

section

variable (hup : s.up = true) (h : s.mode ≠ mSafe) (hq : s.mode ≠ mQuiescent)
include hup h hq

theorem enterSafe_mode : (enterSafe c s).mode = mSafe :=
  (((enterSafe_calm hup h hq).kept safeEntry_runClass).1 _ Fld.calm_mode).trans (commitMode_mode _ _ (by decide))

theorem enterSafe_cause : (enterSafe c s).get R.DEV_MODE.SAFE_CAUSE = c % 16 :=
  (((enterSafe_calm hup h hq).kept safeEntry_runClass).1 _ ⟨Or.inl (by decide), Or.inl (by decide), by decide, by decide⟩).trans
    safeEntry_cause

theorem enterSafe_get (f : Fld) (hf : f.Calm) (h0 : f.key ≠ R.DEV_MODE.SAFE_CAUSE.key) (h1 : f.key ≠ R.DEV_MODE.PREV_MODE.key)
    (h2 : f.key ≠ R.DEV_MODE.MODE.key) (h3 : f.key ≠ R.DEV_MODE.MODE_CHG.key) : (enterSafe c s).get f = s.get f :=
  (((enterSafe_calm hup h hq).kept safeEntry_runClass).1 f hf).trans (safeEntry_get f hf.1 h0 h1 h2 h3)

theorem enterSafe_bootReady : (enterSafe c s).aon.bootReady = s.aon.bootReady := by
  rw [((enterSafe_calm hup h hq).kept safeEntry_runClass).2, safeEntry, commitMode_aon]
  rfl

end

/-- Several causes: the first one enters Safe, and the mode stays. -/
theorem enterSafe_all_mode {l : List Nat} (hl : l ≠ []) (hup : s.up = true) (h : s.mode ≠ mSafe) (hq : s.mode ≠ mQuiescent) :
    (forEach l enterSafe s).mode = mSafe := by
  obtain ⟨c, l, rfl⟩ := List.exists_cons_of_ne_nil hl
  exact forEach_ind (fun t => t.mode = mSafe) enterSafe l _ (enterSafe_mode hup h hq) fun c u hu => (enterSafe_again hu).mode.trans hu

end Sys2Proof.Machine
end

section
/-! PROOFS. The quick check, the end of slices, and the test and repair commands of Table 19-11. -/

namespace Sys2Proof.Machine

/-! ## The quick check -/

namespace LowKept

theorem startLoad (l : Load) (s : State) : LowKept s (startLoad l s) := by
  have hregs : LowKept s (((s.set R.CFG_STAT.SOURCE l.source).set R.CFG_STAT.KIND l.kind).set R.CFG_STAT.STATE 1) :=
    .trans (.trans (.setHigh _ s (by decide)) (.setHigh _ _ (by decide))) (.setHigh _ _ (by decide))
  exact hregs.trans (.rest rfl rfl rfl)

theorem cfgFailed (s : State) : LowKept s (cfgFailed s) := .trans (.setHigh (g := R.CFG_STAT.STATE) 5 s (by decide)) (.raise _ _ _)

theorem goldenLoad (s : State) : LowKept s (goldenLoad s) :=
  .trans (.modCfg _ s) (.ite (.startLoad _ _) (.trans (CalmKept.setLast _ _) (.cfgFailed _)))

theorem bootLoad (s : State) : LowKept s (bootLoad s) :=
  .trans (.modCfg _ s) (.ite (.startLoad _ _) (.trans (.trans (CalmKept.setLast _ _) (.raise _ _ _)) (.goldenLoad _)))

end LowKept

/-- What follows Boot changes no register of the mode controller but the mode itself, and none of self-test. -/
theorem leaveBoot_get (s : State) (f : Fld) (hf : f.Low) (h1 : f.key ≠ R.DEV_MODE.PREV_MODE.key)
    (h2 : f.key ≠ R.DEV_MODE.MODE.key) (h3 : f.key ≠ R.DEV_MODE.MODE_CHG.key) : (leaveBoot s).get f = s.get f := by
  unfold leaveBoot
  split
  · exact ((LowKept.bootLoad _).get f hf).trans (commitMode_get _ _ f hf.plain h1 h2 h3)
  · rfl
  · exact ((LowKept.startLoad _ _).get f hf).trans (commitMode_get _ _ f hf.plain h1 h2 h3)

theorem leaveBoot_bootReady (s : State) : (leaveBoot s).aon.bootReady = s.aon.bootReady := by
  unfold leaveBoot
  split
  · rw [(LowKept.bootLoad _).boot, commitMode_aon]
  · rfl
  · rw [waitPort, (LowKept.startLoad _ _).boot, commitMode_aon]

theorem leaveBoot_waits (s : State) (h : s.get R.STRAP_LATCH.BOOT = 1) : (leaveBoot s).mode = mLoad := by
  rw [leaveBoot, h]
  exact (LowKept.startLoad _ _).mode.trans (commitMode_mode _ _ (by decide))

/-- Which units are unrepairable is a matter of the test records alone. -/
theorem unrepairable_congr {s t : State} (h : t.test = s.test) (l : List Nat) : t.unrepairable l = s.unrepairable l := by
  have hfenced (a b : Nat) : t.isFenced a b = s.isFenced a b := by rw [State.isFenced, State.isFenced, h]
  simp only [State.unrepairable, h, hfenced]

section

variable (e p : Nat) (f : List FailEntry) (s : State)

/-- The quick check is recorded, and firmware is ready. -/
def quickReady : State := raise 0x0001 [] ((recordQuick e p f s).modAon fun a => { a with bootReady := true })

/-- The units that either policy withdraws, out of a list. -/
def withdrawQuick (units : List (Nat × Nat)) (s : State) : State :=
  forEach units (fun u s => if u.1 = 0 then fenceAddr u.2 s else if u.1 = 4 then offlineBank u.2 s else s) s

/-- The rest is fenced under the policy Fence. -/
def settlePolicy (s : State) : State :=
  if s.test.policy = 0 then refreshUnrep s
  else
    let (n, s) := fenceAll s
    if n = 0 then s else raise 0x0806 [(2, n)] s

theorem recordQuick_get (g : Fld) (hg : g.Low) (h1 : g.key ≠ R.TEST_STAT.QUICK_FAIL.key) (h2 : g.key ≠ R.TEST_STAT.QUICK_INC.key) :
    (recordQuick e p f s).get g = s.get g := by
  have hfail (u : State) (v : Nat) : (u.set R.TEST_STAT.QUICK_FAIL v).get g = u.get g := State.get_set_ne u v h1
  have hinc (u : State) (v : Nat) : (u.set R.TEST_STAT.QUICK_INC v).get g = u.get g := State.get_set_ne u v h2
  have hlist : (handleFails f s).2.get g = s.get g := (LowKept.handleFails f s).get g hg
  unfold recordQuick
  simp only
  split
  · rw [raise_get _ _ _ g hg.plain, hinc, State.setB, hfail]
    exact hlist
  · rw [hinc, State.setB, hfail]
    exact hlist

theorem recordQuick_inc : (recordQuick e p f s).get R.TEST_STAT.QUICK_INC = if e < p then 1 else 0 := by
  unfold recordQuick
  simp only
  split
  · rw [raise_get _ _ _ _ (by decide), State.get_set_same]
    rfl
  · rw [State.get_set_same]
    rfl

theorem recordQuick_fail :
    (recordQuick e p f s).flag R.TEST_STAT.QUICK_FAIL = (handleFails f s).1.any fun x => x.1 == 1 || x.1 == 3 := by
  have hset (u : State) (b : Bool) : (u.setB R.TEST_STAT.QUICK_FAIL b).flag R.TEST_STAT.QUICK_FAIL = b := by
    rw [State.flag, State.setB, State.get_set_same]
    cases b <;> rfl
  have hinc (u : State) (v : Nat) : (u.set R.TEST_STAT.QUICK_INC v).flag R.TEST_STAT.QUICK_FAIL = u.flag R.TEST_STAT.QUICK_FAIL := by
    rw [State.flag, State.flag, State.get_set_ne u v (by decide)]
  unfold recordQuick
  simp only
  split
  · rw [State.flag, raise_get _ _ _ _ (by decide), ← State.flag, hinc, hset]
  · rw [hinc, hset]

theorem recordQuick_policy : (recordQuick e p f s).test.policy = s.test.policy := by
  have hlist : (handleFails f s).2.test.policy = s.test.policy := (LowKept.handleFails f s).policy
  unfold recordQuick
  simp only
  split
  · rw [raise_test]
    exact hlist
  · exact hlist

theorem quickReady_get (g : Fld) (hg : g.Plain) : (quickReady e p f s).get g = (recordQuick e p f s).get g :=
  raise_get _ _ _ g hg

theorem quickReady_test : (quickReady e p f s).test = (recordQuick e p f s).test := raise_test _ _ _

theorem quickReady_bootReady : (quickReady e p f s).aon.bootReady = true := by
  rw [quickReady, raise_aon]
  rfl

end

theorem settlePolicy_refresh (s : State) (h : s.unrepairable [0, 1] = [] ∨ s.test.policy = 0) :
    ∃ u : State, u.regs = s.regs ∧ u.aon = s.aon ∧ settlePolicy s = refreshUnrep u := by
  unfold settlePolicy
  split
  · exact ⟨s, rfl, rfl, rfl⟩
  · next hp =>
    have hl : s.unrepairable [0, 1] = [] := h.resolve_right hp
    simp only [fenceAll, hl]
    refine ⟨_, ?_, ?_, if_pos rfl⟩
    · rfl
    · rfl

theorem refreshUnrep_get (s : State) (g : Fld) (h1 : g.key ≠ R.TEST_STAT.UNREP.key) (h2 : g.key ≠ R.TEST_STAT.POLICY.key) :
    (refreshUnrep s).get g = s.get g := by
  rw [refreshUnrep, State.get_set_ne _ _ h2, State.setB, State.get_set_ne _ _ h1]

/-- With nothing to fence, only the summary bits of `TEST_STAT` follow. -/
theorem settlePolicy_get (s : State) (h : s.unrepairable [0, 1] = [] ∨ s.test.policy = 0) (g : Fld)
    (h1 : g.key ≠ R.TEST_STAT.UNREP.key) (h2 : g.key ≠ R.TEST_STAT.POLICY.key) : (settlePolicy s).get g = s.get g := by
  obtain ⟨u, hregs, _, he⟩ := settlePolicy_refresh s h
  rw [he, refreshUnrep_get u g h1 h2, State.get, State.get, hregs]

theorem settlePolicy_aon (s : State) (h : s.unrepairable [0, 1] = [] ∨ s.test.policy = 0) : (settlePolicy s).aon = s.aon := by
  obtain ⟨u, _, haon, he⟩ := settlePolicy_refresh s h
  rw [he, ← haon]
  rfl

theorem withdrawQuick_low (units : List (Nat × Nat)) (s : State) : LowKept s (withdrawQuick units s) :=
  .forEach _ _ fun _ _ => .ite (.fenceAddr _ _) (.ite (.offlineBank _ _) .refl)

/-- Causes of Safe lead to Safe, and else Boot goes on. -/
def quickGoesOn (units : List (Nat × Nat)) (u : State) : Out :=
  if u.bootCauses units ≠ [] then .next (forEach (u.bootCauses units) enterSafe (settlePolicy u))
  else if (settlePolicy u).mode = mBoot then .next (leaveBoot (settlePolicy u)) else .next (settlePolicy u)

/-- The quick check ends in Boot: what it withdraws, then Safe or what follows Boot. -/
theorem quickCheckEnd_exec {e p : Nat} {f : List FailEntry} {s : State} (hready : s.aon.bootReady = false) (hrun : s.mgt.running = true)
    (hrec : s.mgt.recovery = false) (hmode : s.mode = mBoot) :
    exec (.quickCheckEnd e p f) s = quickGoesOn ((recordQuick e p f s).unrepairable [0, 1])
      (withdrawQuick ((recordQuick e p f s).unrepairable [0, 1]) (quickReady e p f s)) := by
  have hunits : (quickReady e p f s).unrepairable [0, 1] = (recordQuick e p f s).unrepairable [0, 1] :=
    unrepairable_congr (quickReady_test e p f s) _
  have hcond : ¬ (s.aon.bootReady ∨ !s.mgt.running ∨ s.mgt.recovery ∨ !(s.mode = mBoot ∨ s.mode = mSafe)) := by
    simp [hready, hrun, hrec, hmode]
  rw [← hunits]
  exact if_neg hcond


section

variable {e p : Nat} {f : List FailEntry} {s : State}

theorem quickSettled_get (hnone : (recordQuick e p f s).unrepairable [0, 1] = []) (g : Fld) (h1 : g.key ≠ R.TEST_STAT.UNREP.key)
    (h2 : g.key ≠ R.TEST_STAT.POLICY.key) (hg : g.Plain) :
    (settlePolicy (quickReady e p f s)).get g = (recordQuick e p f s).get g := by
  have hunits : (quickReady e p f s).unrepairable [0, 1] = [] := (unrepairable_congr (quickReady_test e p f s) _).trans hnone
  rw [settlePolicy_get _ (Or.inl hunits) g h1 h2, quickReady_get _ _ _ _ g hg]

/-- The straps and the mode are those of before. -/
theorem quickSettled_strap (hnone : (recordQuick e p f s).unrepairable [0, 1] = []) (g : Fld) (hg : g.key < 0x10 * 64) :
    (settlePolicy (quickReady e p f s)).get g = s.get g := by
  have hfail : R.TEST_STAT.QUICK_FAIL.key = 0x900 * 64 + 9 := rfl
  have hinc : R.TEST_STAT.QUICK_INC.key = 0x900 * 64 + 10 := rfl
  have hunrep : R.TEST_STAT.UNREP.key = 0x900 * 64 + 7 := rfl
  have hpolicy : R.TEST_STAT.POLICY.key = 0x900 * 64 + 8 := rfl
  rw [quickSettled_get hnone g (by omega) (by omega) (Fld.Low.plain (.inl hg)),
    recordQuick_get _ _ _ _ g (.inl hg) (by omega) (by omega)]

theorem quickReady_strap (g : Fld) (hg : g.key < 0x10 * 64) : (quickReady e p f s).get g = s.get g := by
  have hfail : R.TEST_STAT.QUICK_FAIL.key = 0x900 * 64 + 9 := rfl
  have hinc : R.TEST_STAT.QUICK_INC.key = 0x900 * 64 + 10 := rfl
  rw [quickReady_get _ _ _ _ g (Fld.Low.plain (.inl hg)), recordQuick_get _ _ _ _ g (.inl hg) (by omega) (by omega)]

theorem quickReady_strapFlag (g : Fld) (hg : g.key < 0x10 * 64) : (quickReady e p f s).flag g = s.flag g := by
  rw [State.flag, State.flag, quickReady_strap g hg]

/-- With every failure repaired and good straps, only `STRAP_SAFE` is a cause of Safe. -/
theorem quickReady_causes (herr : s.flag R.STRAP_LATCH.STRAP_ERR = false) :
    (quickReady e p f s).bootCauses [] = if s.flag R.STRAP_LATCH.SAFE then [2] else [] := by
  simp [State.bootCauses, quickReady_strapFlag R.STRAP_LATCH.STRAP_ERR (by decide), quickReady_strapFlag R.STRAP_LATCH.SAFE (by decide), herr]

theorem quickCheck_clean (hready : s.aon.bootReady = false) (hrun : s.mgt.running = true) (hrec : s.mgt.recovery = false)
    (hmode : s.mode = mBoot) (hnone : (recordQuick e p f s).unrepairable [0, 1] = [])
    (herr : s.flag R.STRAP_LATCH.STRAP_ERR = false) :
    ∃ t, exec (.quickCheckEnd e p f) s = .next t ∧ t.aon.bootReady = true ∧
      t.get R.TEST_STAT.QUICK_INC = (if e < p then 1 else 0) ∧
      t.flag R.TEST_STAT.QUICK_FAIL = ((handleFails f s).1.any fun x => x.1 == 1 || x.1 == 3) ∧
      (s.flag R.STRAP_LATCH.SAFE = true → t.mode = mSafe ∧ t.get R.DEV_MODE.SAFE_CAUSE = 2) ∧
      (s.flag R.STRAP_LATCH.SAFE = false → s.get R.STRAP_LATCH.BOOT = 1 → t.mode = mLoad) := by
  have hunits : (quickReady e p f s).unrepairable [0, 1] = [] := (unrepairable_congr (quickReady_test e p f s) _).trans hnone
  have hexec := quickCheckEnd_exec (e := e) (p := p) (f := f) hready hrun hrec hmode
  have hinc := (quickSettled_get hnone R.TEST_STAT.QUICK_INC (by decide) (by decide) (by decide)).trans (recordQuick_inc e p f s)
  have hfail : (settlePolicy (quickReady e p f s)).flag R.TEST_STAT.QUICK_FAIL = _ :=
    (congrArg (· != 0) (quickSettled_get hnone R.TEST_STAT.QUICK_FAIL (by decide) (by decide) (by decide))).trans
      (recordQuick_fail e p f s)
  have hboot : (settlePolicy (quickReady e p f s)).aon.bootReady = true := by
    rw [settlePolicy_aon _ (Or.inl hunits), quickReady_bootReady]
  have hstill : (settlePolicy (quickReady e p f s)).mode = mBoot := (quickSettled_strap hnone R.DEV_MODE.MODE (by decide)).trans hmode
  have hpin : (settlePolicy (quickReady e p f s)).get R.STRAP_LATCH.BOOT = s.get R.STRAP_LATCH.BOOT := quickSettled_strap hnone _ (by decide)
  rw [hnone, quickGoesOn, show withdrawQuick [] (quickReady e p f s) = quickReady e p f s from rfl,
    quickReady_causes herr] at hexec
  generalize settlePolicy (quickReady e p f s) = v at *
  by_cases hsafe : s.flag R.STRAP_LATCH.SAFE = true
  · have hup : v.up = true := by
      rw [State.up, hstill]
      rfl
    have h1 : v.mode ≠ mSafe := by
      rw [hstill]
      decide
    have h2 : v.mode ≠ mQuiescent := by
      rw [hstill]
      decide
    rw [if_pos hsafe, if_pos (List.cons_ne_nil _ _)] at hexec
    refine ⟨enterSafe 2 v, hexec, (enterSafe_bootReady hup h1 h2).trans hboot, ?_, ?_, fun _ => ⟨enterSafe_mode hup h1 h2, enterSafe_cause hup h1 h2⟩,
      fun hno => absurd hsafe (by simp [hno])⟩
    · rw [enterSafe_get hup h1 h2 _ ⟨.inr (by decide), .inr (by decide), by decide, by decide⟩ (by decide) (by decide) (by decide) (by decide), hinc]
    · rw [State.flag, enterSafe_get hup h1 h2 _ ⟨.inr (by decide), .inr (by decide), by decide, by decide⟩ (by decide) (by decide) (by decide) (by decide)]
      exact hfail
  · rw [if_neg hsafe, if_neg (by simp), if_pos hstill] at hexec
    refine ⟨leaveBoot v, hexec, (leaveBoot_bootReady v).trans hboot, ?_, ?_, fun hyes => absurd hyes hsafe, fun _ h1 => leaveBoot_waits v ?_⟩
    · rw [leaveBoot_get v _ (.inr (by decide)) (by decide) (by decide) (by decide), hinc]
    · rw [State.flag, leaveBoot_get v _ (.inr (by decide)) (by decide) (by decide) (by decide)]
      exact hfail
    · exact hpin.trans h1

/-- An unrepairable unit leads to Safe under the policy Safe. -/
theorem quickCheck_unrepairable (hready : s.aon.bootReady = false) (hrun : s.mgt.running = true) (hrec : s.mgt.recovery = false)
    (hmode : s.mode = mBoot) (hpolicy : s.test.policy = 0) (hsome : (recordQuick e p f s).unrepairable [0, 1] ≠ []) :
    ∃ t, exec (.quickCheckEnd e p f) s = .next t ∧ t.mode = mSafe := by
  have hexec := quickCheckEnd_exec (e := e) (p := p) (f := f) hready hrun hrec hmode
  generalize (recordQuick e p f s).unrepairable [0, 1] = units at *
  have hlow := withdrawQuick_low units (quickReady e p f s)
  have hpol : (withdrawQuick units (quickReady e p f s)).test.policy = 0 := by
    rw [hlow.policy, quickReady_test, recordQuick_policy, hpolicy]
  have hstill : (settlePolicy (withdrawQuick units (quickReady e p f s))).mode = mBoot :=
    (settlePolicy_get _ (Or.inr hpol) R.DEV_MODE.MODE (by decide) (by decide)).trans
      (hlow.mode.trans ((quickReady_strap R.DEV_MODE.MODE (by decide)).trans hmode))
  have hcauses : (withdrawQuick units (quickReady e p f s)).bootCauses units ≠ [] := by
    simp [State.bootCauses, hpol, hsome]
  rw [quickGoesOn, if_pos hcauses] at hexec
  refine ⟨_, hexec, enterSafe_all_mode hcauses ?_ ?_ ?_⟩
  · rw [State.up, hstill]
    rfl
  · rw [hstill]
    decide
  · rw [hstill]
    decide

end

/-! ## The end of a slice -/

section

variable {x : TestRun} {o : SliceOutcome} {late cut : Bool} {s : State}

/-- The registers of a slice's result, as the end of the slice writes them. -/
def sliceRegs (k res fails ms : Nat) (late inService : Bool) (s : State) : State :=
  ((((((s.set (R.SLICE_RES.RESULT k) res).setB (R.SLICE_RES.LATE k) late).setB (R.SLICE_RES.IN_SERVICE k) inService).set
    (R.SLICE_RES.FAILS k) fails).set (R.SLICE_RES.ELAPSED_MS k) ms).set R.TEST_STAT.SLICE_DONE 1)

theorem sliceRegs_get (k res fails ms : Nat) (b c : Bool) (s : State) (g : Fld) (h : g.key < 0x900 * 64) :
    (sliceRegs k res fails ms b c s).get g = s.get g := by
  have hdone : R.TEST_STAT.SLICE_DONE.key = 0x900 * 64 + 5 := rfl
  unfold sliceRegs State.setB
  rw [State.get_set_ne, State.get_set_ne, State.get_set_ne, State.get_set_ne, State.get_set_ne, State.get_set_ne]
  all_goals
    simp only [Fld.key, R.SLICE_RES.RESULT, R.SLICE_RES.LATE, R.SLICE_RES.IN_SERVICE, R.SLICE_RES.FAILS,
      R.SLICE_RES.ELAPSED_MS, R.TEST_STAT.SLICE_DONE] at *
    omega

theorem sliceRegs_result (k res fails ms : Nat) (b c : Bool) (s : State) :
    (sliceRegs k res fails ms b c s).get (R.SLICE_RES.RESULT k) = res % 8 := by
  unfold sliceRegs State.setB
  rw [State.get_set_ne, State.get_set_ne, State.get_set_ne, State.get_set_ne, State.get_set_ne, State.get_set_same]
  · rfl
  all_goals
    simp only [Fld.key, R.SLICE_RES.RESULT, R.SLICE_RES.LATE, R.SLICE_RES.IN_SERVICE, R.SLICE_RES.FAILS,
      R.SLICE_RES.ELAPSED_MS, R.TEST_STAT.SLICE_DONE]
    omega

theorem sliceRegs_late (k res fails ms : Nat) (b c : Bool) (s : State) :
    (sliceRegs k res fails ms b c s).flag (R.SLICE_RES.LATE k) = b := by
  unfold sliceRegs State.setB State.flag
  rw [State.get_set_ne, State.get_set_ne, State.get_set_ne, State.get_set_ne, State.get_set_same]
  · cases b <;> rfl
  all_goals
    simp only [Fld.key, R.SLICE_RES.LATE, R.SLICE_RES.IN_SERVICE, R.SLICE_RES.FAILS, R.SLICE_RES.ELAPSED_MS,
      R.TEST_STAT.SLICE_DONE]
    omega

theorem sliceRegs_done (k res fails ms : Nat) (b c : Bool) (s : State) :
    (sliceRegs k res fails ms b c s).get R.TEST_STAT.SLICE_DONE = 1 := State.get_set_same _ _ _

theorem sliceResult_lt (n : Nat) (o : SliceOutcome) (l : List (Nat × FailEntry)) (cut : Bool) : sliceResult n o l cut % 8 = sliceResult n o l cut := by
  refine Nat.mod_eq_of_lt ?_
  unfold sliceResult
  split
  · decide
  · split
    · split <;> decide
    · split <;> decide

/-- The event and the summary bits that follow. -/
def sliceNoted (k res : Nat) (s : State) : State := refreshFuses (refreshUnrep (raise 0x0801 [(1, k), (1, res)] s))

theorem sliceNoted_get (k res : Nat) (s : State) (g : Fld) (hg : g.Plain) (h1 : g.key ≠ R.TEST_STAT.UNREP.key)
    (h2 : g.key ≠ R.TEST_STAT.POLICY.key) (h3 : g.key < 0x980 * 64) : (sliceNoted k res s).get g = s.get g := by
  have hfree : R.FUSE_LEFT.FREE.key = 0x980 * 64 := rfl
  have hsoft : R.FUSE_LEFT.SOFT.key = 0x980 * 64 + 9 := rfl
  rw [sliceNoted, refreshFuses, State.get_set_ne _ _ (by omega), State.get_set_ne _ _ (by omega), refreshUnrep_get _ g h1 h2,
    raise_get _ _ _ g hg]

theorem sliceNoted_queue (k res : Nat) (s : State) : (sliceNoted k res s).test.queue = s.test.queue :=
  congrArg Test.queue (raise_test 0x0801 [(1, k), (1, res)] s)

/-- The end of a slice: its failures handled, its record kept, its registers written and noted. -/
theorem closeSlice_eq (x : TestRun) (o : SliceOutcome) (late cut : Bool) (s : State) : ∃ u : State,
    u.regs = (handleFails o.fails s).2.regs ∧ u.test.queue = (handleFails o.fails s).2.test.queue ∧
    (closeSlice x o late cut s).2.2 =
      sliceNoted x.slice (sliceResult (if x.slice = 0 then o.prog else x.prog) o (handleFails o.fails s).1 cut)
        (sliceRegs x.slice (sliceResult (if x.slice = 0 then o.prog else x.prog) o (handleFails o.fails s).1 cut)
          (min o.fails.length 0x7FF) (min (o.elapsedUs / 1000) 65535) late (x.kind == 2) u) := by
  refine ⟨_, ?_, ?_, by rfl⟩
  · rfl
  · rfl

theorem closeSlice_mode (x : TestRun) (o : SliceOutcome) (late cut : Bool) (s : State) :
    (closeSlice x o late cut s).2.2.mode = s.mode := by
  obtain ⟨u, hregs, _, he⟩ := closeSlice_eq x o late cut s
  rw [he, State.mode, sliceNoted_get _ _ _ _ (by decide) (by decide) (by decide) (by decide),
    sliceRegs_get _ _ _ _ _ _ _ _ (by decide),
    State.get, hregs]
  exact (LowKept.handleFails o.fails s).mode

theorem closeSlice_queue (x : TestRun) (o : SliceOutcome) (late cut : Bool) (s : State) :
    (closeSlice x o late cut s).2.2.test.queue = s.test.queue := by
  obtain ⟨u, _, hqueue, he⟩ := closeSlice_eq x o late cut s
  rw [he, sliceNoted_queue]
  exact hqueue.trans (LowKept.handleFails o.fails s).queue

/-- What the registers of the ended slice show. -/
theorem closeSlice_shows (x : TestRun) (o : SliceOutcome) (late cut : Bool) (s : State) (hk : x.slice < 10) :
    (closeSlice x o late cut s).2.2.get (R.SLICE_RES.RESULT x.slice) =
        sliceResult (if x.slice = 0 then o.prog else x.prog) o (handleFails o.fails s).1 cut ∧
      (closeSlice x o late cut s).2.2.flag (R.SLICE_RES.LATE x.slice) = late ∧
      (closeSlice x o late cut s).2.2.get R.TEST_STAT.SLICE_DONE = 1 := by
  obtain ⟨u, _, _, he⟩ := closeSlice_eq x o late cut s
  have hlow (g : Fld) (hg : g.key < 0x970 * 64) (hg' : 0x940 * 64 ≤ g.key) (v : State) (k res : Nat) :
      (sliceNoted k res v).get g = v.get g := by
    have hunrep : R.TEST_STAT.UNREP.key = 0x900 * 64 + 7 := rfl
    have hpolicy : R.TEST_STAT.POLICY.key = 0x900 * 64 + 8 := rfl
    exact sliceNoted_get k res v g (Fld.Low.plain (.inr ⟨by omega, by omega⟩)) (by omega) (by omega) (by omega)
  refine ⟨?_, ?_, ?_⟩
  · rw [he, hlow _ (by simp only [Fld.key, R.SLICE_RES.RESULT]; omega) (by simp only [Fld.key, R.SLICE_RES.RESULT]; omega),
      sliceRegs_result, sliceResult_lt]
  · rw [he, State.flag, hlow _ (by simp only [Fld.key, R.SLICE_RES.LATE]; omega) (by simp only [Fld.key, R.SLICE_RES.LATE]; omega)]
    exact sliceRegs_late _ _ _ _ _ _ _
  · rw [he, sliceNoted_get _ _ _ _ (by decide) (by decide) (by decide) (by decide), sliceRegs_done]

theorem stopSlices_get (s : State) (g : Fld) (h1 : g.key ≠ R.TEST_STAT.SLICE.key) (h2 : g.key ≠ R.TEST_STAT.RUNNING.key)
    (h3 : g.key ≠ R.TEST_STAT.REMAIN_MS.key) : (stopSlices s).get g = s.get g := by
  rw [stopSlices, State.get_set_ne _ _ h3, State.get_set_ne _ _ h2, State.clear, State.get_set_ne _ _ h1]
  rfl

/-- An in-service slice that ends: the slices stop, its units are initialised again, and its command completes. -/
theorem endSlice_service_get {x : TestRun} (o : SliceOutcome) (late : Bool) {s : State} (hx : s.test.run = some x) (hkind : x.kind = 2)
    (g : Fld) (hg : g.Low) (h1 : g.key ≠ R.TEST_STAT.SLICE.key) (h2 : g.key ≠ R.TEST_STAT.RUNNING.key)
    (h3 : g.key ≠ R.TEST_STAT.REMAIN_MS.key) : (endSlice o late false s).get g = (closeSlice x o late false s).2.2.get g := by
  have hend : endSlice o late false s = finishCmd x.serial stOk (closeSlice x o late false s).1.bytes late
      (forEach x.units (reinitUnit x.slice (closeSlice x o late false s).2.1) (stopSlices (closeSlice x o late false s).2.2)) := by
    simp only [endSlice, hx, hkind]
    rfl
  rw [hend, (LowKept.finishCmd _ _ _ _ _).get g hg, (LowKept.forEach x.units _ fun u v => .reinitUnit _ _ u v).get g hg,
    stopSlices_get _ g h1 h2 h3]

/-- What an in-service slice leaves in its registers. -/
theorem endSlice_service {x : TestRun} (o : SliceOutcome) (late : Bool) {s : State} (hx : s.test.run = some x) (hkind : x.kind = 2)
    (hne : x.slice ≠ 0) (hk : x.slice < 10) :
    (endSlice o late false s).get (R.SLICE_RES.RESULT x.slice) = sliceResult x.prog o (handleFails o.fails s).1 false ∧
      (endSlice o late false s).flag (R.SLICE_RES.LATE x.slice) = late ∧
      (endSlice o late false s).mode = s.mode ∧ (endSlice o late false s).get R.TEST_STAT.SLICE_DONE = 1 := by
  obtain ⟨hres, hlate, hdone⟩ := closeSlice_shows x o late false s hk
  have hslice : R.TEST_STAT.SLICE.key = 0x900 * 64 := rfl
  have hrun : R.TEST_STAT.RUNNING.key = 0x900 * 64 + 4 := rfl
  have hremain : R.TEST_STAT.REMAIN_MS.key = 0x900 * 64 + 16 := rfl
  have hget (g : Fld) (hg : 0x940 * 64 ≤ g.key) (hg' : g.key < 0x980 * 64) :=
    endSlice_service_get o late hx hkind g (.inr ⟨by omega, hg'⟩) (by omega) (by omega) (by omega)
  refine ⟨?_, ?_, ?_, ?_⟩
  · rw [hget _ (by simp only [Fld.key, R.SLICE_RES.RESULT]; omega) (by simp only [Fld.key, R.SLICE_RES.RESULT]; omega), hres, if_neg hne]
  · rw [State.flag, hget _ (by simp only [Fld.key, R.SLICE_RES.LATE]; omega) (by simp only [Fld.key, R.SLICE_RES.LATE]; omega)]
    exact hlate
  · rw [State.mode, endSlice_service_get o late hx hkind _ (.inl (by decide)) (by decide) (by decide) (by decide)]
    exact closeSlice_mode x o late false s
  · rw [endSlice_service_get o late hx hkind _ (.inr (by decide)) (by decide) (by decide) (by decide), hdone]

/-- Fields that keep their value through Standby are those of the commit. -/
theorem enterStandby_get (s : State) (f : Fld) (hf : standbyKey f.key = true) :
    (enterStandby s).get f = (commitMode mStandby s).get f := by
  have hlook := lookup_dropKeys (commitMode mStandby s).regs (fun k => !standbyKey k) f.key
  rw [if_neg (by simp [hf])] at hlook
  exact congrArg (fun o : Option Nat => o.getD f.rst) hlook

theorem enterStandby_mode (s : State) : (enterStandby s).mode = mStandby :=
  (enterStandby_get s R.DEV_MODE.MODE (by decide)).trans (commitMode_mode _ _ (by decide))

theorem modAon_mode (s : State) (f : Aon → Aon) : (s.modAon f).mode = s.mode := rfl

theorem modAon_testDone (s : State) : (s.modAon fun a => { a with testDone := true }).aon.testDone = true := rfl

/-- After the last slice of Test the device commits Standby. -/
theorem endSlice_last {x : TestRun} (o : SliceOutcome) (late : Bool) {s : State} (hx : s.test.run = some x) (hkind : x.kind = 0)
    (hqueue : s.test.queue = []) : (endSlice o late false s).mode = mStandby ∧ (endSlice o late false s).aon.testDone = true := by
  have hend : endSlice o late false s =
      (enterStandby (stopSlices (closeSlice x o late false s).2.2)).modAon fun a => { a with testDone := true } := by
    simp only [endSlice, hx, hkind, if_true, nextSlice, closeSlice_queue, hqueue]
  rw [hend]
  exact ⟨(modAon_mode _ _).trans (enterStandby_mode _), modAon_testDone _⟩

/-- The next slice of Test starts. -/
theorem endSlice_next {x : TestRun} (o : SliceOutcome) (late : Bool) {s : State} (hx : s.test.run = some x) (hkind : x.kind = 0)
    {i : Nat} {q : List Nat} (hqueue : s.test.queue = i :: q) (hi : i < 16) :
    (endSlice o late false s).mode = s.mode ∧ (endSlice o late false s).get R.TEST_STAT.SLICE = i ∧
      (endSlice o late false s).get R.TEST_STAT.RUNNING = 1 := by
  have hend : ∃ r u, u.regs = (closeSlice x o late false s).2.2.regs ∧ r.slice = i ∧ endSlice o late false s = startSlice r u := by
    simp only [endSlice, hx, hkind, if_true, nextSlice, closeSlice_queue, hqueue]
    refine ⟨_, _, ?_, ?_, rfl⟩
    · rfl
    · rfl
  obtain ⟨r, u, hregs, hr, he⟩ := hend
  rw [he]
  refine ⟨?_, ?_, ?_⟩
  · rw [startSlice, State.mode, State.get_set_ne _ _ (by decide), State.get_set_ne _ _ (by decide), State.get_set_ne _ _ (by decide),
      ← closeSlice_mode x o late false s, State.mode, State.get, State.get, ← hregs]
    rfl
  · rw [startSlice, State.get_set_ne _ _ (by decide), State.get_set_ne _ _ (by decide), State.get_set_same, hr]
    exact Nat.mod_eq_of_lt hi
  · rw [startSlice, State.get_set_ne _ _ (by decide), State.get_set_same]
    rfl

end

/-! ## Repair entries -/

/-- Copying a soft entry into a fuse entry changes no fuse entry that was in use, and no fence entry. -/
structure FusesKept (s t : State) : Prop where
  used : ∀ j, at' s.test.fuse j RepairEnt.blank ≠ RepairEnt.blank →
    at' t.test.fuse j RepairEnt.blank = at' s.test.fuse j RepairEnt.blank
  fences : ∀ e ∈ s.test.soft, e.kind = 8 → e ∈ t.test.soft

theorem FusesKept.trans {s t u : State} (h : FusesKept s t) (h' : FusesKept t u) : FusesKept s u :=
  ⟨fun j hj => (h'.used j (by rw [h.used j hj]; exact hj)).trans (h.used j hj), fun e he hk => h'.fences e (h.fences e he hk) hk⟩

/-- The entries in `freeFuses` are blank. -/
theorem freeFuses_head {s : State} {k : Nat} (h : s.freeFuses.head? = some k) : at' s.test.fuse k RepairEnt.blank = RepairEnt.blank := by
  have hmem : k ∈ s.freeFuses := List.mem_of_head? h
  simpa using (List.mem_filter.1 hmem).2

theorem fuseEntry_kept (e : RepairEnt) (fails : Bool) (s : State) (he : e.kind ≠ 8) : FusesKept s (fuseEntry e fails s) := by
  unfold fuseEntry
  split
  · exact ⟨fun _ _ => rfl, fun _ h _ => h⟩
  · next k hk =>
    have hblank := freeFuses_head hk
    have hother (x : RepairEnt) (j : Nat) (hj : at' s.test.fuse j RepairEnt.blank ≠ RepairEnt.blank) :
        at' (put s.test.fuse k x) j RepairEnt.blank = at' s.test.fuse j RepairEnt.blank := by
      have hne : j ≠ k := fun h => hj (h ▸ hblank)
      exact congrArg (fun o : Option RepairEnt => o.getD RepairEnt.blank) (lookup_put_ne _ _ hne)
    split
    · exact ⟨hother _, fun _ h _ => h⟩
    · refine ⟨hother _, fun a ha hk8 => ?_⟩
      exact (List.mem_erase_of_ne fun h : a = e => he (h ▸ hk8)).2 ha

theorem fuseLow_test (s : State) : (fuseLow s).test = s.test := by
  unfold fuseLow
  simp only
  split
  · rw [raise_test]
    rfl
  · rfl

/-- The soft entries that a `REPAIR_FUSE` copies, each with whether one of its fuses fails. -/
def fuseList (s : State) (first count : Nat) (failed : List Nat) : List (RepairEnt × Bool) :=
  (((List.range count).filterMap fun i => (s.test.soft[first + i]?).map fun e => (e, failed.contains (first + i))).filter
    fun x => x.1.kind != 8).take s.freeFuses.length

theorem fuseList_kind {s : State} {first count : Nat} {failed : List Nat} {x : RepairEnt × Bool} (h : x ∈ fuseList s first count failed) :
    x.1.kind ≠ 8 := by
  have hfilter := (List.mem_filter.1 (List.mem_of_mem_take h)).2
  simpa using hfilter

/-- One entry that is no fence entry. -/
theorem fuseList_one {s : State} {a : Nat} {e : RepairEnt} (failed : List Nat) (h : s.test.soft[a]? = some e) (hk : e.kind ≠ 8)
    (hfree : s.freeFuses ≠ []) : fuseList s a 1 failed = [(e, failed.contains a)] := by
  have hlen : 1 ≤ s.freeFuses.length := List.length_pos_iff.2 hfree
  have hrange : List.range 1 = [0] := rfl
  have hk' : (e.kind != 8) = true := by simpa using hk
  simp only [fuseList, hrange, List.filterMap_cons, List.filterMap_nil, Nat.add_zero, h, Option.map_some, List.filter_cons,
    hk', if_true,
    List.filter_nil]
  exact List.take_of_length_le hlen

/-- The fuses are blown entry by entry. -/
def fuseAll (l : List (RepairEnt × Bool)) (s : State) : State := fuseLow (forEach l (fun x => fuseEntry x.1 x.2) s)

theorem fuseAll_kept {l : List (RepairEnt × Bool)} (hl : ∀ x ∈ l, x.1.kind ≠ 8) (s : State) : FusesKept s (fuseAll l s) := by
  have hsweep : FusesKept s (forEach l (fun x => fuseEntry x.1 x.2) s) :=
    forEach_mem_ind (P := FusesKept s) l s ⟨fun _ _ => rfl, fun _ h _ => h⟩ fun x hx u hu => hu.trans (fuseEntry_kept _ _ u (hl x hx))
  have hlow := fuseLow_test (forEach l (fun x => fuseEntry x.1 x.2) s)
  exact ⟨by rw [fuseAll, hlow]; exact hsweep.used, by rw [fuseAll, hlow]; exact hsweep.fences⟩

/-- An entry that is copied whole moves from the soft record to the lowest free fuse entry. -/
theorem fuseAll_whole {s : State} {k : Nat} (e : RepairEnt) (hk : s.freeFuses.head? = some k) :
    (fuseAll [(e, false)] s).test = { s.test with fuse := put s.test.fuse k e, soft := s.test.soft.erase e } := by
  rw [fuseAll, fuseLow_test]
  show (fuseEntry e false s).test = _
  simp only [fuseEntry, hk, Bool.false_eq_true, if_false]
  rfl

/-- An entry that is not copied whole stays in the soft record, and its fuse entry is retired. -/
theorem fuseAll_spoilt {s : State} {k : Nat} (e : RepairEnt) (hk : s.freeFuses.head? = some k) :
    (fuseAll [(e, true)] s).test = { s.test with fuse := put s.test.fuse k (spoiltEnt e s) } := by
  rw [fuseAll, fuseLow_test]
  show (fuseEntry e true s).test = _
  simp only [fuseEntry, hk, if_true]
  rfl

theorem repairFuse_runs {mb : Fin 16} {s : State} {a n : Nat} (fl : List Nat) (h : s.serves mb 0x0806 [(2, a), (1, n)]) (h1 : 1 ≤ n)
    (h64 : n ≤ 64) (hend : a + n ≤ 4096) (hfree : s.freeFuses ≠ []) : ∃ r, Completes (.repairFuse mb a n fl true) mb s stOk r
      (fuseAll (fuseList (s.begun mb) a n fl) (s.begun mb)) := by
  have hmode := State.serves_notTest h
  have hfree' : (s.freeFuses == []) = false := by simpa using hfree
  refine ⟨_, completes_checked h rfl ?_ rfl⟩
  simp only [List.forall_mem_cons, hfree']
  simp [hmode]
  omega

/-- Test serves `TEST_GET` too (R505). -/
theorem testGet_completes {mb : Fin 16} {s : State} (hdue : s.cmdDue mb 0x0800 = true) (hrec : s.mgt.recovery = false)
    (hargs : (s.mbox mb).args = []) : Completes (.testGet mb) mb s stOk (pack s.testWords) (s.begun mb) := by
  have hwords : (s.begun mb).testWords = s.testWords := by simp only [State.testWords, begun_cardWord]
  have htalnum : talnum mb 0x0800 [] (fun s => .ret s.testWords s) s = settle mb (.ret (s.begun mb).testWords (s.begun mb)) := by
    have htest : servedInTest 0x0800 = true := by decide
    simp only [talnum, hdue, hrec, htest, Bool.not_true, Bool.false_and, Bool.and_false, Bool.false_eq_true, if_false]
    rw [if_pos ⟨hargs, by decide⟩]
    rfl
  rw [hwords] at htalnum
  exact congrArg Host.Outcome.next htalnum

/-- Settles O60: the quick check, the slices, and command by command. -/
theorem selfTestCompletes : Obligations.SelfTestCompletes := by
  refine ⟨fun s => ⟨fun e p f hready hrun hrec hmode hnone herr => quickCheck_clean hready hrun hrec hmode hnone herr,
    fun e p f hready hrun hrec hmode hpolicy hsome => quickCheck_unrepairable hready hrun hrec hmode hpolicy hsome,
    fun o => ⟨rfl, rfl⟩, fun o late x hx hkind hne hk => ?_, fun o late x hx hkind hmode => ⟨endSlice_last o late hx hkind, fun i q hq hi => ?_⟩⟩,
    fun mb s => ⟨fun hdue hrec hargs => ?_, fun k a n h hk hn hn' => ⟨fun r hr ha => ?_, fun r hr ha => ?_, fun hr => ?_⟩,
      fun i u b h hi hu hb hb' hmode hrun => ⟨fun hiso => ?_, fun hiso => ?_⟩, fun i u b h hi hnone hb hb' => ?_,
      fun p h hp => ⟨fun hok => ?_, fun h1 hno => ?_⟩, fun h => ⟨fun hmode hcause hok => ?_, fun hmode => ?_⟩,
      fun a n h hn hn' ha => ?_, fun a n h hn hn' ha => ?_, fun a n fl h hn hn' ha hmode => ⟨fun hfree => ?_, fun hnone => ?_, ?_⟩,
      fun a e k h ha hmode he hk hfree => ⟨?_, ?_⟩, fun e h he hmode => ?_, fun e h he hmode hfree => ?_⟩⟩
  · obtain ⟨hres, hlate, hstill, hdone⟩ := endSlice_service o late hx hkind hne hk
    refine ⟨hres, fun hshort => ?_, fun hfull hnil => ?_, hlate, hstill, hdone⟩
    · rw [hres, sliceResult]
      simp [hshort]
    · rw [hres, sliceResult, hnil]
      simp [hfull, handleFails]
  · obtain ⟨hstill, hslice, hrun⟩ := endSlice_next o late hx hkind hq hi
    exact ⟨hstill.trans hmode, hslice, hrun⟩
  · exact testGet_completes hdue hrec hargs
  · refine completes_checked h rfl ?_ ?_
    · simp [hr, ha]
      omega
    · simp only [hr]
  · refine completes_denied h rfl ?_ (by decide)
    simp [hr, ha]
  · refine completes_denied h rfl ?_ (by decide)
    simp [hr]
  · have hcount : ¬ serviceCount i ≤ u := Nat.not_le.2 hu
    have hallowed : (s.runClass || decide (s.mode = mSafe) || decide (s.mode = mQuiescent)) = true := by simpa [or_assoc] using hmode
    have hnone : serviceCount i ≠ 0 := by omega
    refine runs_checked h rfl ?_ rfl
    simp only [List.forall_mem_cons, hallowed]
    simp [hiso, hrun, hcount, hnone]
    omega
  · have hcount : ¬ serviceCount i ≤ u := Nat.not_le.2 hu
    have hallowed : (s.runClass || decide (s.mode = mSafe) || decide (s.mode = mQuiescent)) = true := by simpa [or_assoc] using hmode
    have hnone : (serviceCount i == 0) = false := by
      simp
      omega
    have hargs : (decide (10 ≤ i) || decide (b = 0) || decide (10000 < b)) = false := by simp; omega
    refine completes_denied h rfl ?_ (by decide)
    simp only [List.find?, hargs, hallowed, hnone]
    simp [hiso, hrun, hcount]
  · have hargs : (decide (10 ≤ i) || decide (b = 0) || decide (10000 < b)) = false := by simp; omega
    refine completes_denied h rfl ?_ (by decide)
    simp only [List.find?, hargs, hnone]
    cases !(s.runClass || decide (s.mode = mSafe) || decide (s.mode = mQuiescent)) <;> rfl
  · have hmode := State.serves_notTest h
    refine completes_checked h rfl ?_ rfl
    rcases hok with rfl | hok
    · simp [hmode]
    · simp [hmode, hok]
      omega
  · have hmode := State.serves_notTest h
    refine completes_denied h rfl ?_ (by decide)
    simp [hmode, hno, h1]
  · refine completes_checked h rfl (by simp [hmode, hcause, hok]) ?_
    rfl
  · refine completes_denied h rfl ?_ (by decide)
    simp [hmode]
  · refine completes_checked h rfl (by simp; omega) ?_
    simp only [if_true, List.map_map]
    rfl
  · exact completes_checked h rfl (by simp; omega) rfl
  · obtain ⟨r, hexec⟩ := repairFuse_runs fl h hn hn' ha hfree
    have hkept := fuseAll_kept (fun x hx => fuseList_kind hx) (s.begun mb) (l := fuseList (s.begun mb) a n fl)
    exact ⟨r, _, hexec, hkept.used, hkept.fences⟩
  · refine completes_denied h rfl ?_ (by decide)
    simp [hmode, hnone]
    omega
  · refine completes_denied h rfl ?_ (by decide)
    simp [hmode]
    omega
  · have hfree' : s.freeFuses ≠ [] := by
      rintro hnil
      simp [hnil] at hfree
    obtain ⟨r, hexec⟩ := repairFuse_runs [] h (Nat.le_refl 1) (by decide) ha hfree'
    rw [fuseList_one (s := s.begun mb) [] he hk hfree'] at hexec
    refine ⟨r, _, hexec, ?_, ?_, fun j hj => ?_⟩
    · rw [List.contains_nil, fuseAll_whole (s := s.begun mb) e hfree]
      exact at'_put_same _ _ _ _
    · rw [List.contains_nil, fuseAll_whole (s := s.begun mb) e hfree]
      rfl
    · rw [List.contains_nil, fuseAll_whole (s := s.begun mb) e hfree]
      exact congrArg (fun o : Option RepairEnt => o.getD RepairEnt.blank) (lookup_put_ne _ _ hj)
  · have hfree' : s.freeFuses ≠ [] := by
      rintro hnil
      simp [hnil] at hfree
    have hnamed : [a].contains a = true := by simp
    obtain ⟨r, hexec⟩ := repairFuse_runs [a] h (Nat.le_refl 1) (by decide) ha hfree'
    rw [fuseList_one (s := s.begun mb) [a] he hk hfree', hnamed] at hexec
    refine ⟨r, _, hexec, ?_, ?_⟩
    · rw [fuseAll_spoilt (s := s.begun mb) e hfree]
      exact congrArg RepairEnt.retired (at'_put_same _ _ _ _)
    · rw [fuseAll_spoilt (s := s.begun mb) e hfree]
      rfl
  · refine completes_denied h rfl ?_ (by decide)
    simp [hmode]
    omega
  · have hfree' : (s.freeFuses == []) = false := by simpa using hfree
    refine ⟨fuseLow ((s.begun mb).modTest fun t => { t with
      fuse := put t.fuse e { at' t.fuse e RepairEnt.blank with retired := true } }), completes_checked h rfl ?_ rfl, ?_, ?_⟩
    · simp only [List.forall_mem_cons, hfree']
      simp [hmode]
      omega
    · rw [fuseLow_test]
      exact at'_put_same _ _ _ _
    · rw [fuseLow_test]
      rfl

end Sys2Proof.Machine
end

section
/-! PROOFS. Register accesses on the management bus (R5, R88, R494–R500, R518, R519). -/

namespace Sys2Proof.Machine

/-! ## Bytes of a mailbox frame -/

theorem ofLeBytes_leBytes (n v : Nat) : ofLeBytes (leBytes n v) = v % 256 ^ n := by
  induction n generalizing v with
  | zero => simp [leBytes, ofLeBytes, Nat.mod_one]
  | succ n ih =>
    have hstep : ofLeBytes (leBytes (n + 1) v) = v % 256 + 256 * ofLeBytes (leBytes n (v / 256)) := by
      simp [leBytes, ofLeBytes]
    rw [hstep, ih, Nat.pow_succ, Nat.mul_comm (256 ^ n), Nat.mod_mul]

theorem leBytes_length (n v : Nat) : (leBytes n v).length = n := by
  induction n generalizing v with
  | zero => rfl
  | succ n ih => simp [leBytes, ih]

/-- Bytes that stand in the middle of a list read back. -/
theorem bytesAt_middle (a b c : List Nat) : bytesAt (a ++ b ++ c) a.length b.length = b := by
  refine List.ext_getElem (by simp [bytesAt]) fun i h1 h2 => ?_
  simp [bytesAt, List.getElem?_append, h2]

theorem bytesAt_length (l : List Nat) (i n : Nat) : (bytesAt l i n).length = n := by simp [bytesAt]

/-- A word written in a frame reads back, and the frame keeps its length. -/
theorem frame_word (l : List Nat) (o : Fin 32) (v : BitVec 32) :
    numAt (bytesAt l 0 (4 * o.val) ++ leBytes 4 v.toNat ++ bytesAt l (4 * o.val + 4) (124 - 4 * o.val)) (4 * o.val) 4 = v.toNat ∧
      (bytesAt l 0 (4 * o.val) ++ leBytes 4 v.toNat ++ bytesAt l (4 * o.val + 4) (124 - 4 * o.val)).length = 128 := by
  constructor
  · have hword := bytesAt_middle (bytesAt l 0 (4 * o.val)) (leBytes 4 v.toNat) (bytesAt l (4 * o.val + 4) (124 - 4 * o.val))
    rw [bytesAt_length, leBytes_length] at hword
    rw [numAt, hword, ofLeBytes_leBytes]
    exact Nat.mod_eq_of_lt v.isLt
  · simp only [List.length_append, bytesAt_length, leBytes_length]
    omega

theorem State.up_of_fcbOn {s : State} (h : s.fcbOn = true) : s.up = true := by
  rw [State.fcbOn, Bool.and_eq_true] at h
  exact h.1

/-- A write on the bus to the window of a mailbox. -/
theorem writeBus_mailbox {s : State} (hup : s.up = true) (acked : Bool) (m : Fin 16) (o : Fin 32) (v : Nat) :
    writeBus acked 0 (0x1000 + 256 * m.val + 4 * o.val) v s =
      if s.mbState m = 0 then s.modMbox m fun b => { b with
        frame := bytesAt b.frame 0 (4 * o.val) ++ leBytes 4 v ++ bytesAt b.frame (4 * o.val + 4) (124 - 4 * o.val) } else s := by
  have hword : (0x1000 + 256 * m.val + 4 * o.val) / 4 * 4 = 0x1000 + 256 * m.val + 4 * o.val := by omega
  have hbox : (0x1000 + 256 * m.val + 4 * o.val - 0x1000) / 256 = m.val := by omega
  have hoff : (0x1000 + 256 * m.val + 4 * o.val) % 256 = 4 * o.val := by omega
  have hlt : 4 * o.val < 128 := by omega
  rw [writeBus, if_neg (by simp [hup])]
  simp only [hword, hbox, hoff, hlt, and_true]
  rw [if_neg (by omega), if_pos (by omega)]

/-- A write on the bus below 1000h crosses to its register. -/
theorem writeBus_imm {s : State} (hup : s.up = true) (acked : Bool) (path : Nat) {a : Nat} (ha : a < 0x1000) (v : Nat) :
    writeBus acked path a v s = crossWrite acked path (a / 4 * 4) v s := by
  rw [writeBus, if_neg (by simp [hup])]
  exact if_pos (by omega)

theorem ackXing_idle {f : Nat} {s : State} (h : (s.xing f).req = none) : ackXing f s = s := by rw [ackXing, h]

/-- An unassigned address takes no write. -/
theorem writeReg_unassigned (path v : Nat) {a : Nat} {s : State} (h : cardAt a = none) : writeReg path a v s = s := by
  rw [writeReg, h]

/-- A card of the immediate window without a meaning of its own takes a write field by field. -/
theorem writeReg_plain {a : Nat} (ha : a ∈ [0x4C, 0x50, 0x68, 0x6C, 0x70]) (v : Nat) (s : State) :
    writeReg 0 a v s = writeFields (fieldsAt a) v s := by
  simp only [List.mem_cons, List.not_mem_nil, or_false] at ha
  obtain rfl | rfl | rfl | rfl | rfl := ha
  all_goals rfl

theorem crossWrite_acked (path a v : Nat) (s : State) :
    crossWrite true path a v s = writeReg path a v (ackXing (xingFunc a) (ackXing (xingFunc a) s)) := rfl

theorem setPosted_unlocked (l : List (Nat × Nat)) (s : State) : (setPosted l s).unlocked' = s.unlocked' := by
  funext f
  unfold State.unlocked' setPosted
  rw [State.bit, State.bit, State.get_set_ne, State.setB, State.get_set_ne]
  · rfl
  all_goals
    simp only [Fld.key, R.EXP_UNLK.UNLK, R.EXP_STAT.PEND_CNT, R.EXP_STAT.PEND]
    omega

/-- The oldest posted write is taken, unless its handshake and its pending slot are full. -/
theorem expertWriteDeliver_takes {a v : Nat} {l : List (Nat × Nat)} {s : State} (hl : s.mgt.expWrites = (a, v) :: l)
    (hfree : s.held (xingFunc a) = false ∨ (s.xing (xingFunc a)).pend = none) :
    exec .expertWriteDeliver s = if (cardAt a).isNone then .next (setPosted l s)
      else if (expFuncs a).any (setPosted l s).unlocked' then .next (crossWrite (!s.held (xingFunc a)) 0 a v (setPosted l s))
      else .next ((setPosted l s).set R.EXP_STAT.DENIED 1) := by
  have hroom : ¬ (!(!s.held (xingFunc a)) && (s.xing (xingFunc a)).pend.isSome) = true := by
    rcases hfree with h | h <;> simp [h]
  show execExpertWriteDeliver s = _
  simp only [execExpertWriteDeliver, hl]
  exact if_neg hroom

/-- Settles O56. -/
theorem busAccessesComplete : Obligations.BusAccessesComplete := by
  intro s
  refine ⟨fun a v hon ha => ?_, fun x w => ⟨fun h => ?_, fun h => ?_⟩, fun a v ha => writeReg_plain ha v s, fun m o v k hon => ?_,
    fun a v x hon ha hx => ⟨fun hroom => ?_, fun hfull => ?_⟩, fun a v hon ha hx => ?_, fun a v l hl hfree => ⟨fun hc hu => ?_, fun hc hu => ?_, fun hc => ?_⟩,
    fun a v l hl hheld hpend => ?_, fun op => ?_, fun dr hir hfull => ⟨fun hw => ?_, fun hr => ?_⟩, fun dr hfull => ?_⟩
  · have hup := State.up_of_fcbOn hon
    have hexec (k : Bool) : exec (.registerWrite a ⟨v, k⟩) s = .next (crossWrite k 0 (a.toNat / 4 * 4) v.toNat s) :=
      (if_pos hon).trans (congrArg Host.Outcome.next (writeBus_imm hup k 0 ha v.toNat))
    dsimp only
    refine ⟨hexec true, ackXing_idle, fun hc => ?_, fun hc => ⟨?_, fun hidle => ?_⟩⟩
    · exact (hexec false).trans (congrArg Host.Outcome.next (if_neg (by simpa [Option.isSome_iff_ne_none] using hc)))
    · exact (hexec false).trans (congrArg Host.Outcome.next (if_pos (by simp [hc])))
    · refine (hexec true).trans (congrArg Host.Outcome.next ?_)
      rw [crossWrite_acked, ackXing_idle hidle, ackXing_idle hidle]
      exact writeReg_unassigned _ _ hc
  · have hoffer : x.offer w = { x with req := some w } := if_pos (by simp [h])
    rw [hoffer]
    exact ⟨rfl, rfl, rfl⟩
  · have hoffer : x.offer w = { x with pend := some w, overrun := x.overrun || x.pend.isSome } := if_neg (by simpa [Option.isSome_iff_ne_none] using h)
    rw [hoffer]
    exact ⟨rfl, rfl, rfl⟩
  · have haddr : (BitVec.ofNat 16 (0x1000 + 256 * m.val + 4 * o.val)).toNat = 0x1000 + 256 * m.val + 4 * o.val := by
      simp
      omega
    have hexec : exec (.registerWrite (BitVec.ofNat 16 (0x1000 + 256 * m.val + 4 * o.val)) ⟨v, k⟩) s = _ :=
      (if_pos hon).trans (congrArg Host.Outcome.next
        ((congrArg (fun a => writeBus k 0 a v.toNat s) haddr).trans (writeBus_mailbox (State.up_of_fcbOn hon) k m o v.toNat)))
    refine ⟨fun hbusy => ?_, fun hidle hlen => ?_⟩
    · rw [hexec, if_neg hbusy]
    · rw [if_pos hidle] at hexec
      obtain ⟨hread, hlength⟩ := frame_word (s.mbox m).frame o v
      refine ⟨_, hexec, rfl, ?_, ?_⟩
      · rw [State.modMbox, State.mbox_setMbox_same]
        exact hread
      · rw [State.modMbox, State.mbox_setMbox_same]
        exact hlength
  · refine (if_pos ⟨hon, ha⟩).trans (congrArg Host.Outcome.next ?_)
    simp only [postExpert, hx]
    exact if_neg (by omega)
  · refine (if_pos ⟨hon, ha⟩).trans (congrArg Host.Outcome.next ?_)
    simp only [postExpert, hx]
    exact if_pos hfull
  · refine (if_pos ⟨hon, ha⟩).trans (congrArg Host.Outcome.next ?_)
    simp only [postExpert, hx]
  · refine (expertWriteDeliver_takes hl hfree).trans ?_
    rw [if_neg (by simp [Option.isSome_iff_ne_none.1 hc]), if_pos (by rw [setPosted_unlocked]; exact hu)]
  · refine (expertWriteDeliver_takes hl hfree).trans ?_
    rw [if_neg (by simp [Option.isSome_iff_ne_none.1 hc]), if_neg (by rw [setPosted_unlocked, hu]; decide)]
  · refine (expertWriteDeliver_takes hl hfree).trans ?_
    rw [if_pos (by simp [hc])]
  · show execExpertWriteDeliver s = _
    simp only [execExpertWriteDeliver, hl, hheld, hpend]
    rfl
  · refine ⟨_, rfl, rfl, fun h => ?_, fun h => ?_, fun h h' => ?_⟩
    · exact if_pos (by simp [tapListed, h])
    · subst h
      rfl
    · refine if_neg ?_
      have hne : op.toNat ≠ 0x10 := fun he => h' (BitVec.eq_of_toNat_eq he)
      simp [tapListed, hne]
      omega
  · rw [show exec (.fcbaccUpdate dr) s = execFcbaccUpdate dr s from rfl, execFcbaccUpdate, if_neg (by simp [State.tapActs, hir, hfull])]
    exact if_pos hw
  · refine ⟨(readBus (dr.toNat % 65536) s).2.modMgt fun g => { g with fcbRead := (readBus (dr.toNat % 65536) s).1 }, ?_, rfl⟩
    rw [show exec (.fcbaccUpdate dr) s = execFcbaccUpdate dr s from rfl, execFcbaccUpdate, if_neg (by simp [State.tapActs,
      hir, hfull])]
    exact if_neg (by rw [hr]; decide)
  · refine if_pos ?_
    rw [State.tapActs, hfull]
    split
    · decide
    · next h => exact fun hir => h ⟨hir, rfl⟩

end Sys2Proof.Machine
end

section
/-! PROOFS. Milliner's starts and resets, and the requests for Safe on the bus. -/

namespace Sys2Proof.Machine

/-- A state whose `MODE` holds a value beyond its four bits, with the bus answering. -/
def wideMode : State :=
  { State.reset with regs := [(R.DEV_MODE.MODE.key, 17), (R.STRAP_LATCH.FCB_EN.key, 1)] }

/-- `PREV_MODE` after a step. -/
def prevModeAfter : Out → Option Nat
  | .next t => some (t.get R.DEV_MODE.PREV_MODE)
  | _ => none

theorem wideMode_asksSafe : wideMode.fcbOn = true ∧ wideMode.mode = 17 := by decide +kernel

theorem wideMode_prev : prevModeAfter (exec (.devCtlSafe 0xA5) wideMode) = some 1 := by decide +kernel

/-- Refutes O55: the entry to Safe shows the mode before it in the four bits of `PREV_MODE`, so from a state whose stored mode is
17, which the statement does not exclude, `PREV_MODE` reads 1. -/
theorem not_resetEventsComplete : ¬ Obligations.ResetEventsComplete := by
  intro h
  obtain ⟨-, -, -, -, -, -, -, hsafe, -⟩ := h wideMode
  obtain ⟨hon, hmode⟩ := wideMode_asksSafe
  obtain ⟨t, hexec, -, -, hprev, -⟩ := hsafe hon (by rw [hmode]; decide) (by rw [hmode]; decide)
  have hshown := wideMode_prev
  rw [hexec] at hshown
  have hone : t.get R.DEV_MODE.PREV_MODE = 1 := Option.some.inj hshown
  rw [hone, hmode] at hprev
  exact absurd hprev (by decide)

end Sys2Proof.Machine
end

section
/-! PROOFS. A sensor round that is missing, while a load of a region that does not exist is under way. -/

namespace Sys2Proof.Machine

/-- A region number whose word of `RST_FUNC` would lie at the address of `THERM_STAT`. -/
def farRegion : Nat := 14240

/-- The device in Boot, loading a plane of that region, which a repair is said to hold in reset. -/
def farLoad : State :=
  { State.reset with
    regs := [(R.DEV_MODE.MODE.key, mBoot), ((R.CTX_STAT.PS0 farRegion).key, psLoading)]
    integ := { State.reset.integ with uncHeld := [farRegion] }
    cfg := { State.reset.cfg with load := some { newLoad 0 0 0 0 0 100 0 with planes := [4 * farRegion] } } }

/-- The thermal state after a step. -/
def thermStateAfter : Out → Option Nat
  | .next t => some (t.get R.THERM_STAT.STATE)
  | _ => none

theorem farLoad_up : farLoad.up = true ∧ farLoad.mode ≠ mSafe ∧ farLoad.mode ≠ mTest := by decide +kernel

theorem farLoad_trips : thermStateAfter (exec .sensorRoundMissing farLoad) = some 2 := by decide +kernel

/-- Refutes O58: the entry to Safe ends a load, which takes each of its regions out of the reset that a repair holds it in. The
statement does not exclude a load of region 14240, whose word of `RST_FUNC` has the address of `THERM_STAT`, so that `STATE` reads 2
after the trip. -/
theorem not_supplyAndHeatEventsComplete : ¬ Obligations.SupplyAndHeatEventsComplete := by
  rintro ⟨h, -⟩
  obtain ⟨-, -, -, -, -, -, -, -, -, hmissing, -⟩ := h farLoad
  obtain ⟨hup, hsafe, htest⟩ := farLoad_up
  obtain ⟨t, hexec, -, -, -, hstate⟩ := hmissing hup hsafe htest
  have htrips := farLoad_trips
  rw [hexec] at htrips
  exact absurd ((Option.some.inj htrips).symm.trans hstate) (by decide)

end Sys2Proof.Machine
end

section
/-! PROOFS. Pounce, repair by frame reload, read-back and the plume pins (R475–R488). -/

namespace Sys2Proof.Machine

/-! ## A frame slot -/

/-- An engine that has a slot checks its frame and moves on. -/
def checkSlot (r : Nat) (ups : List Nat) (paths : List (VertGroup × Nat)) (s : State) : State :=
  let n := at' s.integ.pos r 0
  let p := s.passPlane r (n / 1372)
  let v := (checkFrame r p (n % 1372) (upsetFrame r p (n % 1372) ups s)).2
  stepPounce r (if s.pounceSkips r p = true then s
    else if v.planeState r p = psActive then checkPaths r (n % 1372) paths v else v)

theorem pounceFrameSlot_exec {s : State} (r : Fin 128) (ups : List Nat) (paths : List (VertGroup × Nat)) (hruns : s.pounceRuns = true)
    (hclk : s.clocked 9 = true) (hslot : s.slotTaken r = false) : exec (.pounceFrameSlot r ups paths) s =
      .next (if (limitSlot r s).1 = true then checkSlot r ups paths (limitSlot r s).2 else (limitSlot r s).2) := by
  show execPounceFrameSlot r ups paths s = _
  rw [execPounceFrameSlot, if_neg (by simp [hruns, hclk, hslot])]
  obtain ⟨use, u⟩ := limitSlot r s
  cases use with
  | false => rfl
  | true =>
    simp only [Bool.not_true, Bool.false_eq_true, if_false, if_true, checkSlot, applyIf, beq_iff_eq]
    split <;> rfl

theorem limitSlot_free {s : State} (r : Nat) (h : s.mode ≠ mLimit) : limitSlot r s = (true, s) := if_pos h


/-! ## Reading a frame -/

/-- Decoding the eight words of a frame. -/
def decodeFrame (bad : List Nat) (s : State) : FrameChk × State := (List.range 8).foldl (checkWord bad) (⟨[], [], [], []⟩, s)

/-- A word with one error is corrected, and a word without errors is left. -/
theorem checkWord_one {i : Nat} (hi : i < 4096) (w : Nat) (a : FrameChk × State) : checkWord [i] a w =
    if i % 8 = w then ({ a.1 with cor := a.1.cor ++ [w], bits := a.1.bits ++ [i] }, a.2) else a := by
  by_cases hw : i % 8 = w
  · simp [checkWord, hw, hi]
  · simp [checkWord, hw]

/-- Words other than that of the error change nothing. -/
theorem foldl_checkWord_none {i : Nat} (hi : i < 4096) (l : List Nat) (hl : i % 8 ∉ l) (a : FrameChk × State) :
    l.foldl (checkWord [i]) a = a := by
  induction l generalizing a with
  | nil => rfl
  | cons w l ih =>
    rw [List.mem_cons, not_or] at hl
    rw [List.foldl_cons, checkWord_one hi, if_neg hl.1, ih hl.2]

/-- One error in a frame is corrected. -/
theorem decodeFrame_one {i : Nat} (hi : i < 4096) (s : State) : decodeFrame [i] s = (⟨[i % 8], [], [i], []⟩, s) := by
  have hlt : i % 8 < 8 := Nat.mod_lt i (by decide)
  have hsplit : List.range 8 = List.range (i % 8) ++ i % 8 :: (List.range (7 - i % 8)).map (i % 8 + 1 + ·) := by
    have hall : ∀ w : Fin 8, List.range 8 = List.range w ++ w.val :: (List.range (7 - w)).map (w.val + 1 + ·) := by decide
    exact hall ⟨i % 8, hlt⟩
  have hafter : i % 8 ∉ (List.range (7 - i % 8)).map (i % 8 + 1 + ·) := fun h => by
    obtain ⟨x, _, hx⟩ := List.mem_map.1 h
    omega
  have hbefore : i % 8 ∉ List.range (i % 8) := fun h => Nat.lt_irrefl _ (List.mem_range.1 h)
  rw [decodeFrame, hsplit, List.foldl_append, foldl_checkWord_none hi (List.range (i % 8)) hbefore, List.foldl_cons,
    checkWord_one hi,
    if_pos rfl, foldl_checkWord_none hi _ hafter]
  rfl

/-- Two errors in word 0 are found and stay. -/
theorem decodeFrame_two (s : State) : decodeFrame [0, 8] s = (⟨[], [0], [], [0, 8]⟩, s) := rfl

section

variable {r p f : Nat} {s : State}

theorem State.plane_modPlane_same (g : Plane → Plane) : (s.modPlane r p g).plane r p = g (s.plane r p) := at'_putD_same _ _ _ _

/-- Frame `f` with its stored errors `l`. -/
def withBad (r p f : Nat) (l : List Nat) (s : State) : State := s.modPlane r p fun x => { x with bad := putD x.bad f [] l }

theorem withBad_plane (l : List Nat) : (withBad r p f l s).plane r p = { s.plane r p with bad := putD (s.plane r p).bad f [] l } :=
  State.plane_modPlane_same _

/-- A frame with one error in a data bit: it is corrected, counted, and logged where the bit is essential. -/
theorem checkFrame_one {i : Nat} (hi : i < 4096) (hbad : at' (s.plane r p).bad f [] = [i]) (hmap : (s.plane r p).mapBad = []) :
    (checkFrame r p f s).2 =
      if (at' (s.plane r p).essmap f 0).testBit (i / 64) = true then
        raise 0x0A01 [(1, r), (1, p), (2, f)] (logEss 1 ((withBad r p f [] s).planeFlags r p) (frameAddr r p f) (min 4095 i)
          (maskOf [i % 8]) 0 ((withBad r p f [] s).inc (R.POUNCE_CNT.ESS_CNT r)))
      else (withBad r p f [] s).inc (R.POUNCE_CNT.BEN_CNT r) := by
  have hread : readFrame r p f s = (⟨[i % 8], [], [i], []⟩, s) := by
    rw [← decodeFrame_one hi s, ← hbad]
    rfl
  have hplane := withBad_plane (r := r) (p := p) (f := f) (s := s) []
  unfold withBad at *
  simp only [checkFrame, hread]
  generalize (s.modPlane r p fun x => { x with bad := putD x.bad f [] [] }) = u at *
  simp only [hplane, hmap, List.contains_nil, Bool.false_eq_true, if_false, applyIf_false, ne_eq, not_true_eq_false,
    List.cons_ne_nil,
    List.filter_cons, List.filter_nil, List.foldl_cons, List.foldl_nil]
  by_cases hbit : (at' (s.plane r p).essmap f 0).testBit (i / 64) = true
  · simp [hbit]
  · simp [hbit]

/-- A frame with two errors in word 0 whose frame is not essential: it is counted, and queued for repair. -/
theorem checkFrame_two (hbad : at' (s.plane r p).bad f [] = [0, 8]) (hmap : (s.plane r p).mapBad = [])
    (hess : at' (s.plane r p).essmap f 0 = 0) : (checkFrame r p f s).2 =
      (queueRepair (4 * r + p) f ((withBad r p f [0, 8] s).inc (R.POUNCE_CNT.UNC_CNT r))).2 := by
  have hread : readFrame r p f s = (⟨[], [0], [], [0, 8]⟩, s) := by
    rw [← decodeFrame_two s, ← hbad]
    rfl
  have hplane := withBad_plane (r := r) (p := p) (f := f) (s := s) [0, 8]
  unfold withBad at *
  simp only [checkFrame, hread]
  generalize (s.modPlane r p fun x => { x with bad := putD x.bad f [] [0, 8] }) = u at *
  simp only [hplane, hmap, List.contains_nil, Bool.false_eq_true, if_false, applyIf_false, ne_eq, not_false_eq_true,
    List.cons_ne_nil,
    if_true, hess]

theorem modPlane_congr {g h : Plane → Plane} (hgh : g (s.plane r p) = h (s.plane r p)) : s.modPlane r p g = s.modPlane r p h := by
  unfold State.modPlane
  rw [hgh]

/-- An upset of one bit of a frame without errors. -/
theorem upsetFrame_one {i : Nat} (hi : i < 4096) (hbad : at' (s.plane r p).bad f [] = []) :
    upsetFrame r p f [i] s = withBad r p f [i] s := by
  have hlt : i < 4184 := by omega
  have hne : i ≠ 4184 := by omega
  exact modPlane_congr (by simp [hbad, hlt, Ne.symm hne])

/-- An upset of two bits of word 0 of a frame without errors. -/
theorem upsetFrame_two (hbad : at' (s.plane r p).bad f [] = []) : upsetFrame r p f [0, 8] s = withBad r p f [0, 8] s :=
  modPlane_congr (by simp [hbad])

theorem withBad_bad (l : List Nat) : at' ((withBad r p f l s).plane r p).bad f [] = l := by
  rw [withBad_plane]
  exact at'_putD_same _ _ _ _

theorem withBad_mapBad (l : List Nat) : ((withBad r p f l s).plane r p).mapBad = (s.plane r p).mapBad := by rw [withBad_plane]

theorem withBad_essmap (l : List Nat) : ((withBad r p f l s).plane r p).essmap = (s.plane r p).essmap := by rw [withBad_plane]

/-- Which frames of a plane are not tried again does not depend on its stored errors. -/
theorem withBad_noRetry (l : List Nat) (a b : Nat) : ((withBad r p f l s).plane a b).noRetry = (s.plane a b).noRetry := by
  by_cases h : 4 * a + b = 4 * r + p
  · have hplane (u : State) : u.plane a b = u.plane r p := by rw [State.plane, State.plane, h]
    rw [hplane, hplane, withBad_plane]
  · exact congrArg Plane.noRetry (at'_putD_ne _ _ _ _ h)

theorem withBad_repairKnown (l : List Nat) (k j : Nat) : (withBad r p f l s).repairKnown k j = s.repairKnown k j := by
  simp only [State.repairKnown, withBad_noRetry]
  rfl

theorem repairKnown_congr {t : State} (hctx : t.ctx = s.ctx) (hinteg : t.integ = s.integ) (k j : Nat) :
    t.repairKnown k j = s.repairKnown k j := by
  simp only [State.repairKnown, State.plane, hctx, hinteg]

theorem inc_get_congr {t : State} (h : t.regs = s.regs) (g : Fld) : (t.inc g).get g = (s.inc g).get g := by
  have hget : t.get g = s.get g := by rw [State.get, State.get, h]
  rw [State.inc, State.inc, State.addSat, State.addSat, State.get_set_same, State.get_set_same, hget]

/-- What the end of a slot changes: where the engine stands, what it shows of that, and the signals that it checked. -/
structure SlotEnds (r : Nat) (s t : State) : Prop where
  ctx : t.ctx = s.ctx
  mgt : t.mgt = s.mgt
  log : t.integ.log = s.integ.log
  queue : t.integ.queue = s.integ.queue
  pos : at' t.integ.pos r 0 = (at' s.integ.pos r 0 + 1) % 5488
  get : ∀ g : Fld, 0xD00100 * 64 ≤ g.key → t.get g = s.get g

theorem stepPounce_eq (r : Nat) (s : State) : ∃ regs, stepPounce r s =
    { s with regs := regs, integ := { s.integ with pos := putD s.integ.pos r 0 ((at' s.integ.pos r 0 + 1) % 5488) } } := by
  unfold stepPounce applyIf
  simp only
  split
  · split <;> exact ⟨_, rfl⟩
  · exact ⟨_, rfl⟩

theorem stepPounce_get (r : Nat) (s : State) (g : Fld) (hg : 0xD00100 * 64 ≤ g.key) : (stepPounce r s).get g = s.get g := by
  have hrounds : R.POUNCE_STAT.ROUNDS.key < 0xD00100 * 64 := by decide
  have hpass : R.POUNCE_STAT.PASS.key < 0xD00100 * 64 := by decide
  unfold stepPounce applyIf
  simp only
  split
  · split
    · exact (State.get_set_ne _ _ (by omega)).trans (State.get_set_ne _ _ (by omega))
    · exact State.get_set_ne _ _ (by omega)
  · rfl

/-- A frame slot ends: the signals of the frame path are checked where the plane is Active, and the engine moves on. -/
theorem slot_ends (r f : Nat) (active : Bool) (s : State) :
    SlotEnds r s (stepPounce r (if active = true then checkPaths r f [] s else s)) := by
  obtain ⟨regs, heq⟩ := stepPounce_eq r (if active = true then checkPaths r f [] s else s)
  have hget := stepPounce_get r (if active = true then checkPaths r f [] s else s)
  cases active with
  | false =>
    rw [if_neg (by decide)] at *
    refine ⟨?_, ?_, ?_, ?_, ?_, hget⟩
    · rw [heq]
    · rw [heq]
    · rw [heq]
    · rw [heq]
    · rw [heq]
      exact at'_putD_same _ _ _ _
  | true =>
    rw [if_pos rfl] at *
    refine ⟨?_, ?_, ?_, ?_, ?_, hget⟩
    · rw [heq]
      rfl
    · rw [heq]
      rfl
    · rw [heq]
      rfl
    · rw [heq]
      rfl
    · rw [heq]
      exact at'_putD_same _ _ _ _

theorem logEss_eq (kind flags addr bit wmask status : Nat) (s : State) : ∃ regs log,
    logEss kind flags addr bit wmask status s = { s with regs := regs, integ := { s.integ with log := log } } := by
  unfold logEss applyIf
  simp only
  split <;> exact ⟨_, _, rfl⟩

theorem logEss_new (kind flags addr bit wmask status : Nat) (s : State) :
    (logEss kind flags addr bit wmask status s).get R.LOG_STAT.NEW = 1 := by
  unfold logEss applyIf
  simp only
  split
  · exact (State.get_set_ne _ _ (by decide)).trans (State.get_set_same _ _ _)
  · exact State.get_set_same _ _ _

/-- The counts of an engine are those of before a log entry. -/
theorem logEss_get (kind flags addr bit wmask status : Nat) (s : State) (g : Fld) (hg : g.key < 0xD00400 * 64) :
    (logEss kind flags addr bit wmask status s).get g = s.get g := by
  have htotal : R.ESS_TOTAL.TOTAL.key = 0xD00404 * 64 := rfl
  have hentries : 0xD00400 * 64 ≤ R.LOG_STAT.ENTRIES.key := by decide
  have hnew : 0xD00400 * 64 ≤ R.LOG_STAT.NEW.key := by decide
  have hovf : 0xD00400 * 64 ≤ R.LOG_STAT.OVF_CNT.key := by decide
  have hcommon (u : State) (v : Nat) : ((u.set R.LOG_STAT.ENTRIES v).set R.LOG_STAT.NEW 1).get g = u.get g :=
    (State.get_set_ne _ _ (by omega)).trans (State.get_set_ne _ _ (by omega))
  unfold logEss applyIf
  simp only
  split
  · refine (State.get_set_ne _ _ (by omega)).trans ((hcommon _ _).trans ?_)
    exact State.get_set_ne s _ (by omega)
  · refine (hcommon _ _).trans ?_
    exact State.get_set_ne s _ (by omega)

end

/-! ## A slot on one frame -/

section

variable {r : Fin 128} {n p f : Nat} {s : State}

/-- What a slot does on a frame that the engine does not skip. -/
theorem checkSlot_frame (ups : List Nat) (hn : at' s.integ.pos r 0 = n) (hp : s.passPlane r (n / 1372) = p) (hf : n % 1372 = f)
    (hskip : s.pounceSkips r p = false) :
    SlotEnds r (checkFrame r p f (upsetFrame r p f ups s)).2 (checkSlot r ups [] s) := by
  have hslot := slot_ends r f (decide ((checkFrame r p f (upsetFrame r p f ups s)).2.planeState r p = psActive))
    (checkFrame r p f (upsetFrame r p f ups s)).2
  simp only [decide_eq_true_eq] at hslot
  simp only [checkSlot, hn, hp, hf, hskip, Bool.false_eq_true, if_false]
  exact hslot

section

variable (hn : at' s.integ.pos r 0 = n) (hp : s.passPlane r (n / 1372) = p) (hf : n % 1372 = f) (hskip : s.pounceSkips r p = false)
  (hbad : at' (s.plane r p).bad f [] = []) (hmap : (s.plane r p).mapBad = [])
include hn hp hf hskip hbad hmap

theorem checkSlot_essential {i : Nat} (hi : i < 4096) (hess : (at' (s.plane r p).essmap f 0).testBit (i / 64) = true) :
    at' ((checkSlot r [i] [] s).plane r p).bad f [] = [] ∧ at' (checkSlot r [i] [] s).integ.pos r 0 = (n + 1) % 5488 ∧
      (checkSlot r [i] [] s).get (R.POUNCE_CNT.ESS_CNT r) = (s.inc (R.POUNCE_CNT.ESS_CNT r)).get (R.POUNCE_CNT.ESS_CNT r) ∧
      (checkSlot r [i] [] s).get R.LOG_STAT.NEW = 1 ∧ (checkSlot r [i] [] s).integ.queue = s.integ.queue := by
  have hends := checkSlot_frame [i] hn hp hf hskip
  rw [upsetFrame_one hi hbad, checkFrame_one hi (withBad_bad _) ((withBad_mapBad _).trans hmap), withBad_essmap,
    if_pos hess] at hends
  generalize hw : withBad r p f [] (withBad r p f [i] s) = w at hends
  have hplane : at' (w.plane r p).bad f [] = [] := by rw [← hw, withBad_bad]
  have hinteg : w.integ = s.integ := by rw [← hw]; rfl
  have hregs : w.regs = s.regs := by rw [← hw]; rfl
  obtain ⟨regs, log, hlog⟩ := logEss_eq 1 (w.planeFlags r p) (frameAddr r p f) (min 4095 i) (maskOf [i % 8]) 0
    (w.inc (R.POUNCE_CNT.ESS_CNT r))
  obtain ⟨hctx, -, -, hqueue, hpos, hget⟩ := hends
  rw [raise_ctx, hlog] at hctx
  rw [raise_integ, hlog] at hqueue hpos
  refine ⟨?_, ?_, ?_, ?_, ?_⟩
  · rw [State.plane, hctx]
    exact hplane
  · rw [hpos, ← hn, ← hinteg]
    rfl
  · rw [hget _ (by simp only [Fld.key, R.POUNCE_CNT.ESS_CNT]; omega), raise_get _ _ _ _ (by simp only [Fld.Plain, Fld.key, R.POUNCE_CNT.ESS_CNT]; omega),
      logEss_get _ _ _ _ _ _ _ _ (by simp only [Fld.key, R.POUNCE_CNT.ESS_CNT]; omega)]
    exact inc_get_congr hregs _
  · rw [hget _ (by decide), raise_get _ _ _ _ (by decide), logEss_new]
  · rw [hqueue, ← hinteg]
    rfl

theorem checkSlot_benign {i : Nat} (hi : i < 4096) (hess : (at' (s.plane r p).essmap f 0).testBit (i / 64) = false) :
    at' ((checkSlot r [i] [] s).plane r p).bad f [] = [] ∧ (checkSlot r [i] [] s).integ.log = s.integ.log ∧
      (checkSlot r [i] [] s).get (R.POUNCE_CNT.BEN_CNT r) = (s.inc (R.POUNCE_CNT.BEN_CNT r)).get (R.POUNCE_CNT.BEN_CNT r) ∧
      (checkSlot r [i] [] s).mgt = s.mgt := by
  have hends := checkSlot_frame [i] hn hp hf hskip
  rw [upsetFrame_one hi hbad, checkFrame_one hi (withBad_bad _) ((withBad_mapBad _).trans hmap), withBad_essmap,
    if_neg (by simp [hess])]
    at hends
  obtain ⟨hctx, hmgt, hlog, -, -, hget⟩ := hends
  refine ⟨?_, hlog, ?_, hmgt⟩
  · rw [State.plane, hctx]
    exact withBad_bad (s := withBad r p f [i] s) []
  · rw [hget _ (by simp only [Fld.key, R.POUNCE_CNT.BEN_CNT]; omega)]
    rfl

theorem checkSlot_two (hknown : s.repairKnown (4 * r + p) f = false) (hess : at' (s.plane r p).essmap f 0 = 0) :
    (4 * r.val + p, f) ∈ (checkSlot r [0, 8] [] s).integ.queue ∧ (checkSlot r [0, 8] [] s).integ.log = s.integ.log ∧
      (checkSlot r [0, 8] [] s).get (R.POUNCE_CNT.UNC_CNT r) = (s.inc (R.POUNCE_CNT.UNC_CNT r)).get (R.POUNCE_CNT.UNC_CNT r) := by
  have hends := checkSlot_frame [0, 8] hn hp hf hskip
  rw [upsetFrame_two hbad, checkFrame_two (withBad_bad _) ((withBad_mapBad _).trans hmap) (by rw [withBad_essmap,
    hess])] at hends
  generalize hw : withBad r p f [0, 8] (withBad r p f [0, 8] s) = w at hends
  have hinteg : w.integ = s.integ := by rw [← hw]; rfl
  have hregs : w.regs = s.regs := by rw [← hw]; rfl
  have hfree : (w.inc (R.POUNCE_CNT.UNC_CNT r)).repairKnown (4 * r + p) f = false := by
    refine (repairKnown_congr (s := w) rfl rfl _ _).trans ?_
    rw [← hw, withBad_repairKnown, withBad_repairKnown, hknown]
  have hqueued : (queueRepair (4 * r + p) f (w.inc (R.POUNCE_CNT.UNC_CNT r))).2 =
      (w.inc (R.POUNCE_CNT.UNC_CNT r)).modInteg fun i => { i with queue := i.queue ++ [(4 * r.val + p, f)] } := by
    simp only [queueRepair, hfree, Bool.false_eq_true, if_false]
  rw [hqueued] at hends
  obtain ⟨-, -, hlog, hqueue, -, hget⟩ := hends
  refine ⟨?_, ?_, ?_⟩
  · rw [hqueue]
    exact List.mem_append_right _ (List.mem_singleton.2 rfl)
  · rw [hlog, ← hinteg]
    rfl
  · rw [hget _ (by simp only [Fld.key, R.POUNCE_CNT.UNC_CNT]; omega)]
    exact inc_get_congr hregs _

end

end

/-- A write of `PLUME_SEL` selects and shows what it selected. -/
theorem selectPlume_get (k : Fin 16) (r probe en : Nat) (s : State) :
    (selectPlume k r probe en s).get (R.PLUME_SEL.REGION k) = r % 128 ∧ (selectPlume k r probe en s).get (R.PLUME_SEL.PROBE k) = probe % 256 ∧
      (selectPlume k r probe en s).get (R.PLUME_SEL.EN k) = en % 2 ∧
      (selectPlume k r probe en s).get (R.PLUME_SEL.STATE k) = if en = 1 ∧ s.plumeBarred r = true then 2 else 0 := by
  have hbarred : (((s.set (R.PLUME_SEL.REGION k) r).set (R.PLUME_SEL.PROBE k) probe).set (R.PLUME_SEL.EN k) en).plumeBarred r = s.plumeBarred r := by
    have hkept (g : Fld) (hg : g.key < 0x100 * 64 ∨ 0x200 * 64 ≤ g.key) :
        (((s.set (R.PLUME_SEL.REGION k) r).set (R.PLUME_SEL.PROBE k) probe).set (R.PLUME_SEL.EN k) en).get g = s.get g := by
      rw [State.get_set_ne, State.get_set_ne, State.get_set_ne]
      all_goals
        simp only [Fld.key, R.PLUME_SEL.REGION, R.PLUME_SEL.PROBE, R.PLUME_SEL.EN] at *
        omega
    have hactive := hkept (R.CTX_STAT.ACTIVE r) (by simp only [Fld.key, R.CTX_STAT.ACTIVE]; omega)
    have hdbg := hkept R.SEC_PROT.DBG_PLUME (by decide)
    rw [State.plumeBarred, State.plumeBarred, State.activePlane, hactive, State.flag, hdbg]
    rfl
  unfold selectPlume
  simp only
  rw [hbarred]
  refine ⟨?_, ?_, ?_, ?_⟩
  · rw [State.get_set_ne, State.get_set_ne, State.get_set_ne, State.get_set_same]
    · rfl
    all_goals simp [Fld.key, R.PLUME_SEL.REGION, R.PLUME_SEL.PROBE, R.PLUME_SEL.EN, R.PLUME_SEL.STATE]
  · rw [State.get_set_ne, State.get_set_ne, State.get_set_same]
    · rfl
    all_goals simp [Fld.key, R.PLUME_SEL.PROBE, R.PLUME_SEL.EN, R.PLUME_SEL.STATE]
  · rw [State.get_set_ne, State.get_set_same]
    · rfl
    · simp [Fld.key, R.PLUME_SEL.EN, R.PLUME_SEL.STATE]
  · rw [State.get_set_same]
    split <;> rfl

/-- The queued frames of one plane are repaired together. -/
theorem nextRepair_queue {s : State} {k : Nat} {fs : List Nat} (hasks : s.integ.asks = []) (hqueue : s.integ.queue = fs.map fun f => (k, f))
    (hne : fs ≠ []) (hlen : fs.length ≤ 64) :
    nextRepair s = some (⟨k, fs, 0, 0, false⟩, s.modInteg fun i => { i with queue := [] }) := by
  have hfilter : (s.integ.queue.filter fun e => e.1 == k) = s.integ.queue := by
    rw [hqueue, List.filter_eq_self]
    simp
  have hframes : ((s.integ.queue.filter fun e => e.1 == k).map fun e => e.2).take 64 = fs := by
    rw [hfilter, hqueue, List.map_map]
    exact (congrArg (List.take 64) (List.map_id fs)).trans (List.take_of_length_le hlen)
  have hrest : (s.integ.queue.filter fun e => !(e.1 == k && fs.contains e.2)) = [] := by
    rw [hqueue, List.filter_eq_nil_iff]
    simp
  obtain ⟨f, l, hl⟩ := List.exists_cons_of_ne_nil hne
  have hhead : s.integ.queue = (k, f) :: l.map fun f => (k, f) := by rw [hqueue, hl]; rfl
  unfold nextRepair
  rw [hasks]
  dsimp only
  split
  · next h => exact absurd (hhead.symm.trans h) (by simp)
  · next j g m h =>
    obtain ⟨hj, -⟩ := List.cons.inj (hhead.symm.trans h)
    obtain rfl : k = j := congrArg Prod.fst hj
    rw [hframes]
    simp only [State.modInteg, hrest]

/-- The whole stream of a read-back leaves. -/
theorem rdbkEnd_leaves {s : State} {x : Rdbk} (hup : s.up = true)
    (hpath : x.path = 0 → s.cfg.fwdLeft = 0 ∧ s.flag R.CFG_STAT.FWD = false) :
    ¬ (!s.up || (x.path == 0 && (decide (0 < s.cfg.fwdLeft) || s.flag R.CFG_STAT.FWD))) = true := by
  by_cases h0 : x.path = 0
  · obtain ⟨hleft, hfwd⟩ := hpath h0
    simp [hup, hleft, hfwd]
  · simp [hup, h0]

/-- Settles O52. -/
theorem integrityEventsComplete : Obligations.IntegrityEventsComplete := by
  intro s
  refine ⟨fun r ups paths hruns hclk hslot => ?_, fun r n p f hruns hclk hslot hlimit hn hp hf => ?_,
    fun x u hcfg hrun hheld hload hrep hmode hnext => ?_, fun k fs hasks hqueue hne hlen => ?_,
    fun x k off h hrep hcfg hheld hclaim hsrc => ⟨fun l hl => ?_, fun c st he => ?_⟩,
    fun x hx hup hpath => ⟨fun hkind c hc hok => ?_, fun hkind he hl => ?_⟩, fun k v hon => ?_⟩
  · have hexec := pounceFrameSlot_exec r ups paths hruns hclk hslot
    dsimp only
    refine ⟨fun hfull => ?_, fun hfree => ?_⟩
    · rw [hexec, if_neg (by rw [hfull]; decide)]
    · rw [hexec, if_pos hfree]
      rfl
  · have hexec (ups : List Nat) : exec (.pounceFrameSlot r ups []) s = .next (checkSlot r ups [] s) := by
      rw [pounceFrameSlot_exec r ups [] hruns hclk hslot, limitSlot_free _ hlimit, if_pos rfl]
    refine ⟨fun hskip => ?_, fun i hi hskip hbad hmap hess => ⟨_, hexec [i], checkSlot_essential hn hp hf hskip hbad hmap hi hess⟩,
      fun i hi hskip hbad hmap hess => ⟨_, hexec [i], checkSlot_benign hn hp hf hskip hbad hmap hi hess⟩,
      fun hskip hbad hmap hknown hess => ⟨_, hexec [0, 8], checkSlot_two hn hp hf hskip hbad hmap hknown hess⟩⟩
    rw [hexec, checkSlot]
    simp only [hn, hp, hskip, if_true]
  · have hnot : ¬ (!s.cfgRuns || !s.mgt.running || s.held 0xB5 || s.cfg.load.isSome || s.integ.repair.isSome ||
        !(s.runClass || decide (s.mode = mSafe))) = true := by
      have hmode' : (s.runClass || decide (s.mode = mSafe)) = true := by simpa using hmode
      simp only [hcfg, hrun, hheld, hload, hrep, hmode']
      decide
    show execRepairLoadStart s = _
    rw [execRepairLoadStart, if_neg hnot, hnext]
    dsimp only
    split
    · rfl
    · split <;> rfl
  · exact nextRepair_queue hasks hqueue hne hlen
  · have hnot : ¬ (!s.cfgRuns || s.held 0xB5 || (s.ctxR (x.key / 4)).claimReq == some (x.key % 4)) = true := by
      simp [hcfg, hheld, hclaim]
    show execRepairLoadEnd s = _
    simp only [execRepairLoadEnd, hrep, hsrc, hl]
    rw [if_neg hnot]
    split <;> rfl
  · have hnot : ¬ (!s.cfgRuns || s.held 0xB5 || (s.ctxR (x.key / 4)).claimReq == some (x.key % 4)) = true := by
      simp [hcfg, hheld, hclaim]
    show execRepairLoadEnd s = _
    simp only [execRepairLoadEnd, hrep, hsrc, he]
    rw [if_neg hnot]
    simp only [applyIf, beq_iff_eq]
  · show execRdbkEnd s = _
    simp only [execRdbkEnd, hx, hc]
    rw [if_neg (rdbkEnd_leaves hup hpath), if_pos hkind, if_neg (by rcases hok with h | h <;> simp [h])]
  · show execRdbkEnd s = _
    simp only [execRdbkEnd, hx]
    rw [if_neg (rdbkEnd_leaves hup hpath), if_neg hkind, if_neg (not_or.2 ⟨he, hl⟩)]
  · obtain ⟨hregion, hprobe, hen, hstate⟩ := selectPlume_get k (v.toNat % 128) (bitsOf v.toNat 7 8) (bitsOf v.toNat 15 1) s
    refine ⟨_, if_pos hon, hregion.trans ?_, hprobe.trans ?_, hen.trans ?_, hstate⟩
    · omega
    · rw [bitsOf]
      omega
    · rw [bitsOf]
      omega

end Sys2Proof.Machine
end

section
/-! PROOFS. The steps of Blocking, felting fill and the image store (R440, R451–R455). -/

namespace Sys2Proof.Machine

/-! ## What a step of Blocking leaves alone -/

/-- The field tells of the steps of Blocking: those done and the one that runs. -/
def Fld.OfSteps (f : Fld) : Prop := f.key = R.BLK_STAT.DONE.key ∨ f.key = R.BLK_STAT.CUR.key

theorem bringUp_cfg_io (l : Nat) (s : State) : (bringUp l s).cfg = s.cfg ∧ (bringUp l s).io = s.io := by
  unfold bringUp
  split
  · exact ⟨rfl, rfl⟩
  · split
    · exact ⟨rfl, rfl⟩
    · split <;> exact ⟨rfl, rfl⟩

/-- `t` is in the same step of Blocking as `s`, with outputs held or released as there. -/
structure StepKept (s t : State) : Prop where
  get : ∀ f : Fld, f.OfSteps → t.get f = s.get f
  blk : t.cfg.blk = s.cfg.blk
  released : s.io.released = true → t.io.released = true

namespace StepKept

variable {s t u : State}

theorem refl : StepKept s s := ⟨fun _ _ => rfl, rfl, id⟩

theorem trans (h : StepKept s t) (h' : StepKept t u) : StepKept s u :=
  ⟨fun f hf => (h'.get f hf).trans (h.get f hf), h'.blk.trans h.blk, fun hr => h'.released (h.released hr)⟩

theorem ite {c : Prop} [Decidable c] (ht : StepKept s t) (hu : StepKept s u) : StepKept s (if c then t else u) := by
  split <;> assumption

theorem applyIf {c : Bool} {f : State → State} (h : StepKept s (f s)) : StepKept s (applyIf c f s) := .ite h .refl

theorem forEach {α : Type} {f : α → State → State} (l : List α) (s : State) (hf : ∀ a ∈ l, ∀ u, StepKept u (f a u)) :
    StepKept s (Machine.forEach l f s) :=
  forEach_mem_ind (P := StepKept s) l s .refl fun a ha u h => h.trans (hf a ha u)

theorem rest (hregs : t.regs = s.regs) (hblk : t.cfg.blk = s.cfg.blk) (hio : t.io.released = s.io.released) : StepKept s t :=
  ⟨fun f _ => congrArg (fun r => at' r f.key f.rst) hregs, hblk, fun h => hio.trans h⟩

theorem set {f : Fld} (v : Nat) (s : State) (hf : ¬ f.OfSteps) : StepKept s (s.set f v) :=
  ⟨fun g hg => State.get_set_ne s v fun he => hf (by rw [Fld.OfSteps, ← he]; exact hg), rfl, id⟩

theorem raise (code : Nat) (args : List (Nat × Nat)) (s : State) : StepKept s (raise code args s) := by
  refine ⟨fun f hf => raise_get _ _ _ _ ?_, by rw [raise_cfg], by rw [raise_io]; exact id⟩
  simp only [Fld.OfSteps, Fld.key, R.BLK_STAT.DONE, R.BLK_STAT.CUR] at hf
  simp only [Fld.Plain, Fld.key]
  omega

theorem checkVio {b : Nat} (hb : b < 32) (s : State) : StepKept s (checkVio b s) := by
  have hok : ¬ (R.BANK_CTL.VIO_OK b).OfSteps := by
    simp only [Fld.OfSteps, Fld.key, R.BLK_STAT.DONE, R.BLK_STAT.CUR, R.BANK_CTL.VIO_OK]; omega
  have hmis : ¬ (R.BANK_CTL.VIO_MISMATCH b).OfSteps := by
    simp only [Fld.OfSteps, Fld.key, R.BLK_STAT.DONE, R.BLK_STAT.CUR, R.BANK_CTL.VIO_MISMATCH]; omega
  have hdown : StepKept s (s.modBank b fun k => { k with vioDown := false }) := .rest rfl rfl rfl
  exact ((hdown.trans (.set _ _ hok)).trans (.set _ _ hmis)).trans (.applyIf (.raise _ _ _))

theorem driveDacs (s : State) : StepKept s (driveDacs s) := by
  refine .ite .refl (.forEach _ _ fun k hk u => .set _ _ ?_)
  have hlt := List.mem_range.1 hk
  simp only [Fld.OfSteps, Fld.key, R.BLK_STAT.DONE, R.BLK_STAT.CUR, R.DAC_CODE.DRIVEN]
  omega

theorem loadDac (k : Nat) (l : DacLoad) (s : State) : StepKept s (loadDac k l s) := .rest rfl rfl rfl

theorem bringUp {l : Nat} (hl : l < 96) (s : State) : StepKept s (bringUp l s) := by
  refine ⟨fun f hf => bringUp_get s fun g hg => ?_, ?_, ?_⟩
  · simp only [restartFields, List.mem_cons, List.not_mem_nil, or_false] at hg
    simp only [Fld.OfSteps, Fld.key, R.BLK_STAT.DONE, R.BLK_STAT.CUR] at hf
    rcases hg with rfl | rfl | rfl | rfl | rfl | rfl <;>
      simp only [Fld.key, R.LANE_STAT.STATE, R.LANE_STAT.REASON, R.LANE_STAT.CDR_LOCK, R.LANE_STAT.BLK_LOCK,
        R.LANE_STAT.FROZEN,
        R.LANE_STAT.FL_OK] <;>
      omega
  · rw [bringUp_cfg_io l s |>.1]
  · rw [bringUp_cfg_io l s |>.2]; exact id

/-- Outputs that go live release the pins and change nothing else of a step. -/
theorem stepOut (resume : Bool) (s : State) : StepKept (s.modIo fun i => { i with released := true }) (stepOut resume s) := by
  have hvio : StepKept s (Machine.forEach (List.range 32) Machine.checkVio s) :=
    .forEach _ _ fun b hb u => .checkVio (List.mem_range.1 hb) u
  unfold Machine.stepOut
  generalize Machine.forEach (List.range 32) Machine.checkVio s = t at hvio ⊢
  have hout : StepKept (s.modIo fun i => { i with released := true }) (t.modIo fun i => { i with released := true }) :=
    ⟨hvio.get, hvio.blk, fun _ => rfl⟩
  have hinit (u : State) : StepKept u (if resume = true then u else
      (Machine.forEach u.io.initDac (fun (e : Nat × Nat) s => if s.held 0xB1 then s else Machine.loadDac e.1 ⟨3, e.2, 0⟩ s) u).modIo
        fun i => { i with initDac := [] }) := by
    have hload : StepKept u (Machine.forEach u.io.initDac
        (fun (e : Nat × Nat) s => if s.held 0xB1 then s else Machine.loadDac e.1 ⟨3, e.2, 0⟩ s) u) :=
      .forEach _ _ fun e _ v => .ite .refl (.loadDac _ _ _)
    exact .ite .refl (hload.trans (.rest rfl rfl rfl))
  exact ((hout.trans (.driveDacs _)).trans (hinit _)).trans
    (.forEach _ _ fun l hl u => .ite (.bringUp (List.mem_range.1 hl) u) .refl)

theorem goLive (resume : Bool) (s : State) : StepKept s (Machine.stepOut resume s) :=
  trans (t := s.modIo fun i => { i with released := true }) ⟨fun _ _ => rfl, rfl, fun _ => rfl⟩ (.stepOut resume s)

theorem stepGsr (s : State) : StepKept s (stepGsr s) :=
  (StepKept.set 0 s (by simp only [Fld.OfSteps]; decide)).trans
    (.forEach _ _ fun _ _ _ => .forEach _ _ fun _ _ _ => .rest rfl rfl rfl)

theorem stepWren (s : State) : StepKept s (stepWren s) := .rest rfl rfl rfl

end StepKept

theorem stepOut_released (resume : Bool) (s : State) : (stepOut resume s).io.released = true :=
  (StepKept.stepOut resume s).released rfl

theorem releaseNets_regs (r : Nat) (s : State) : (releaseNets r s).regs = s.regs :=
  forEach_ind (fun t => t.regs = s.regs) _ _ _ rfl fun _ _ h => h

theorem stepGsr_held (s : State) : (stepGsr s).flag R.FAB_CTL.GSR_HELD = false := by
  have hregs : (stepGsr s).regs = (s.set R.FAB_CTL.GSR_HELD 0).regs :=
    forEach_ind (fun t => t.regs = (s.set R.FAB_CTL.GSR_HELD 0).regs) _ _ _ rfl fun r t h => (releaseNets_regs r t).trans h
  have hget : (stepGsr s).get R.FAB_CTL.GSR_HELD = (s.set R.FAB_CTL.GSR_HELD 0).get R.FAB_CTL.GSR_HELD :=
    congrArg (fun l => at' l R.FAB_CTL.GSR_HELD.key R.FAB_CTL.GSR_HELD.rst) hregs
  rw [State.flag, hget, State.get_set_same]
  rfl

/-! ## A step of Blocking -/

/-- Step `i`, of code `c`, of Blocking begins to run (R451). -/
def markStep (i c : Nat) (s : State) : State :=
  ((s.modCfg fun k => { k with blk := { k.blk with step := i, delay := true } }).set R.BLK_STAT.CUR c).setBit R.BLK_STAT.DONE c true

theorem State.blkCode_lt (s : State) (i : Nat) : s.blkCode i < 4 := Nat.mod_lt _ (by decide)

theorem markStep_cur {c : Nat} (hc : c < 4) (i : Nat) (s : State) : (markStep i c s).get R.BLK_STAT.CUR = c := by
  have hne : R.BLK_STAT.CUR.key ≠ R.BLK_STAT.DONE.key := by decide
  unfold markStep
  rw [setBit_get_ne _ _ _ hne, State.get_set_same]
  exact Nat.mod_eq_of_lt hc

theorem markStep_done {c : Nat} (hc : c < 4) (i : Nat) (s : State) : (markStep i c s).bit R.BLK_STAT.DONE c = true :=
  by
  rw [markStep, State.bit_setBit _ true hc hc, if_pos rfl]

theorem markStep_step (i c : Nat) (s : State) : (markStep i c s).cfg.blk.step = i := by
  unfold markStep State.setBit
  split <;> rfl

/-- What a step of code `c` shows, and what it does. -/
structure StepRan (i c : Nat) (t : State) : Prop where
  cur : t.get R.BLK_STAT.CUR = c
  done : t.bit R.BLK_STAT.DONE c = true
  step : t.cfg.blk.step = i
  gsr : c = 1 → t.flag R.FAB_CTL.GSR_HELD = false
  writes : c = 2 → t.fab.writes = true
  released : c = 3 → t.io.released = true

/-- What a step keeps of its beginning, it shows. -/
theorem StepRan.of_kept {i c : Nat} {s t : State} (hc : c < 4) (h : StepKept (markStep i c s) t)
    (hgsr : c = 1 → t.flag R.FAB_CTL.GSR_HELD = false) (hwrites : c = 2 → t.fab.writes = true)
    (hreleased : c = 3 → t.io.released = true) : StepRan i c t where
  cur := (h.get R.BLK_STAT.CUR (.inr rfl)).trans (markStep_cur hc i s)
  done := by
    have hbit := markStep_done hc i s
    rw [State.bit, ← h.get R.BLK_STAT.DONE (.inl rfl)] at hbit
    exact hbit
  step := (congrArg Blk.step h.blk).trans (markStep_step i c s)
  gsr := hgsr
  writes := hwrites
  released := hreleased

/-- What the step of code `c` does (Table 14-11). -/
def stepOf (c : Nat) (s : State) : State :=
  if c = 1 then stepGsr s else if c = 2 then stepWren s else stepOut s.cfg.blk.resume s

theorem stepOf_ran {c : Nat} (hc : c < 4) (i : Nat) (s : State) : StepRan i c (stepOf c (markStep i c s)) := by
  generalize ht : markStep i c s = t
  unfold stepOf
  split
  · exact .of_kept hc (by rw [ht]; exact .stepGsr t) (fun _ => stepGsr_held t) (fun h => by omega) fun h => by omega
  · split
    · exact .of_kept hc (by rw [ht]; exact .stepWren t) (fun h => by omega) (fun _ => rfl) fun h => by omega
    · exact .of_kept hc (by rw [ht]; exact .goLive _ t) (fun h => by omega) (fun h => by omega) fun _ => stepOut_released _ t

theorem runSteps_eq {n i : Nat} {s : State} (hresume : s.blkCode i = 1 → s.cfg.blk.resume = false) :
    runSteps (n + 1) i s = stepOf (s.blkCode i) (markStep i (s.blkCode i) s) := by
  have hrun : ¬ (s.blkCode i = 1 ∧ s.cfg.blk.resume = true ∧ (!s.flag R.FAB_CTL.GSR_HELD) = true) := by
    rintro ⟨hone, hres, _⟩
    rw [hresume hone] at hres
    exact absurd hres (by decide)
  rw [runSteps, if_neg hrun]
  generalize s.blkCode i = c
  match c with
  | 0 => rfl
  | 1 => rfl
  | 2 => rfl
  | _ + 3 => rfl

theorem nextStep_ran {c : Nat} {s : State} (hlt : s.cfg.blk.step < 3) (hcode : s.blkCode (s.cfg.blk.step + 1) = c)
    (hresume : c = 1 → s.cfg.blk.resume = false) : StepRan (s.cfg.blk.step + 1) c (nextStep s) := by
  obtain ⟨n, hn⟩ : ∃ n, 3 - s.cfg.blk.step = n + 1 := ⟨2 - s.cfg.blk.step, by omega⟩
  subst hcode
  rw [nextStep, hn, runSteps_eq hresume]
  exact stepOf_ran (s.blkCode_lt _) _ _

/-! ## Felting fill -/

/-- Rows of `m` that are written stay as they are in `n`. -/
def RowsKept (m n : SMap Nat) : Prop := ∀ k, has m k = true → lookup n k = lookup m k

theorem RowsKept.refl {m : SMap Nat} : RowsKept m m := fun _ _ => rfl

theorem RowsKept.trans {m n l : SMap Nat} (h : RowsKept m n) (h' : RowsKept n l) : RowsKept m l := fun k hk => by
  have hn : has n k = true := by rw [has, h k hk]; exact hk
  exact (h' k hn).trans (h k hk)

theorem RowsKept.putNew {m : SMap Nat} {k : Nat} (v : Nat) : RowsKept m (if has m k then m else put m k v) := by
  split
  · exact .refl
  · next hk => exact fun j hj => lookup_put_ne m v fun hjk => hk (hjk ▸ hj)

theorem RowsKept.foldl {α : Type} (l : List α) (key : α → Nat) (v : α → Nat) (m : SMap Nat) :
    RowsKept m (l.foldl (fun a i => if has a (key i) then a else put a (key i) (v i)) m) := by
  induction l generalizing m with
  | nil => exact .refl
  | cons i l ih => exact (RowsKept.putNew (v i)).trans (ih _)

theorem fillBm_rows (v m : Nat) (s : State) : RowsKept s.bm.rows (fillBm v m s).bm.rows := by
  simp only [fillBm]
  split
  · exact .refl
  · generalize List.range 1024 = l
    exact RowsKept.foldl l (fun i => 1024 * m + i)
      (fun _ => packLanes (laneBits (s.get (R.BM_STAT.CODE m))) 4 fun _ => v) s.bm.rows

theorem fillBank_bm (v b : Nat) (s : State) : (fillBank v b s).bm = s.bm := by
  unfold fillBank
  split
  · exact raise_bm _ _ _
  · split
    · rfl
    · exact State.modCache_bm _ _

theorem fillStack_bm (v k : Nat) (s : State) : (fillStack v k s).bm = s.bm := by
  unfold fillStack
  split
  · exact raise_bm _ _ _
  · exact State.modBulk_bm _ _

/-- The state that felting fill with value `v` leaves, before the next step. -/
def filled (v : Nat) (s : State) : State :=
  (forEach (List.range 2) (fillStack v) (forEach (List.range 256) (fillBank v) (forEach (List.range 12288) (fillBm v) s))).set
    R.BLK_STAT.FILLING 0

theorem filled_rows (v : Nat) (s : State) : RowsKept s.bm.rows (filled v s).bm.rows := by
  have hbm : RowsKept s.bm.rows (forEach (List.range 12288) (fillBm v) s).bm.rows :=
    forEach_ind (fun t => RowsKept s.bm.rows t.bm.rows) _ _ _ .refl fun m t h => h.trans (fillBm_rows v m t)
  have hbank := forEach_ind (fun t => RowsKept s.bm.rows t.bm.rows) (fillBank v) (List.range 256) _ hbm fun b t h => by
    rw [fillBank_bm]; exact h
  have hstack := forEach_ind (fun t => RowsKept s.bm.rows t.bm.rows) (fillStack v) (List.range 2) _ hbank fun k t h => by
    rw [fillStack_bm]; exact h
  rw [filled, State.set_bm]
  exact hstack

theorem next_feltingFillEnd {s : State} (hact : s.cfg.blk.active = true) (hfill : s.flag R.BLK_STAT.FILLING = true)
    (hidle : ∀ b, b < 256 → s.cands b = ([], [])) : exec .feltingFillEnd s = .next (nextStep (filled s.cfg.fillVal s)) := by
  have hcands : ((List.range 256).any fun b => s.cands b != ([], [])) = false := by
    rw [List.any_eq_false]
    intro b hb
    rw [hidle b (List.mem_range.1 hb)]
    decide
  show execFeltingFillEnd s = _
  rw [execFeltingFillEnd, if_neg (by rw [hact, hfill, hcands]; decide)]
  rfl

/-! ## The delay of a step -/

theorem next_blockingDelayEnd {s : State} (hact : s.cfg.blk.active = true) (hdelay : s.cfg.blk.delay = true)
    (hfill : s.cfg.blk.step = 0 → s.cfg.blk.fill = false) : exec .blockingDelayEnd s = .next (nextStep s) := by
  have hno : ¬ (s.cfg.blk.step = 0 ∧ s.cfg.blk.fill = true) := fun h => by
    rw [hfill h.1] at h
    exact absurd h.2 (by decide)
  show execBlockingDelayEnd s = _
  simp [execBlockingDelayEnd, hact, hdelay, hno]

theorem next_blockingDelayEnd_fill {s : State} (hact : s.cfg.blk.active = true) (hdelay : s.cfg.blk.delay = true)
    (hstep : s.cfg.blk.step = 0) (hfill : s.cfg.blk.fill = true) : exec .blockingDelayEnd s =
    .next ((s.set R.BLK_STAT.FILLING 1).modCfg fun c => { c with blk := { c.blk with delay := false, fill := false } }) := by
  show execBlockingDelayEnd s = _
  simp [execBlockingDelayEnd, hact, hdelay, hstep, hfill]

/-! ## The image store -/

theorem next_imageRefreshStart_new {k : Fin 5} {s : State} (hup : s.up = true) (hrun : s.mgt.running = true)
    (hclk : s.clocked 12 = true) (hnone : s.cfg.refresh = none) (hvalid : (s.slot k).valid = true) (hage : 8760 ≤ (s.slot k).ageH) :
    exec (.imageRefreshStart k) s = .next (s.modCfg fun c => { c with refresh := some (k.val, 0) }) := by
  show execImageRefreshStart k s = _
  simp [execImageRefreshStart, hup, hrun, hclk, hnone, hvalid, hage]

/-- A step of the refresh that runs on slot `k`: the refresh ends, or unit `u / 2` is staged or reprogrammed (R440). -/
theorem next_imageRefreshStart_step {k : Fin 5} {u : Nat} {s : State} (hup : s.up = true) (hrun : s.mgt.running = true)
    (hclk : s.clocked 12 = true) (hsome : s.cfg.refresh = some (k.val, u)) (hload : s.cfg.load = none) :
    exec (.imageRefreshStart k) s =
      if 2 * (((s.slot k).length + 262143) / 262144) ≤ u then
        .next ((s.setSlot k { s.slot k with ageH := 0, writes := (s.slot k).writes + 1 }).modCfg fun c => { c with refresh := none })
      else if u % 2 = 0 then
        .next (s.modCfg fun c => { c with refresh := some (k.val, u + 1), journal := c.journal ++ [(k.val, u / 2)] })
      else .next (s.modCfg fun c => { c with
        refresh := some (k.val, u + 1), journal := c.journal.filter fun e => e != (k.val, u / 2) }) := by
  show execImageRefreshStart k s = _
  simp [execImageRefreshStart, hup, hrun, hclk, hsome, hload]

theorem find?_range_first {k n : Nat} {q : Nat → Bool} (hk : k < n) (hq : q k = true) (hfirst : ∀ j, j < k → q j = false) :
    (List.range n).find? q = some k := by
  rw [List.find?_range_eq_some]
  exact ⟨hq, List.mem_range.2 hk, fun j hj => by rw [hfirst j hj]; rfl⟩

theorem next_imgDataPacket {p : Pkt} {k : Nat} {s : State} (hup : s.up = true) (hhead : s.rxHead 0xA2 = some p) (htyp : p.typ = 2)
    (hk : k < 5) (hfirst : ∀ j, j < k → (s.slot j).writing = false) (hwriting : (s.slot k).writing = true)
    (hbarred : s.slotBarred k = false) (hoff : p.off = (s.slot k).bytes.length) (hlen : p.off + p.data.length ≤ (s.slot k).declared) :
    exec (.imgDataPacket p) s =
      .next ((popRx 0xA2 s).setSlot k { s.slot k with bytes := (s.slot k).bytes ++ p.data }) := by
  have hslot : ((List.range 5).find? fun k => ((popRx 0xA2 s).slot k).writing) = some k :=
    find?_range_first hk hwriting hfirst
  have hput : (popRx 0xA2 s).putBytes k p.off p.data =
      some ((popRx 0xA2 s).setSlot k { s.slot k with bytes := (s.slot k).bytes ++ p.data }) := by
    have hno : (!(s.slot k).writing || p.off != (s.slot k).bytes.length ||
        decide ((s.slot k).declared < p.off + p.data.length)) = false := by
      simp only [hwriting, hoff, bne_self_eq_false, Bool.not_true, Bool.or_self, Bool.false_or, decide_eq_false_iff_not]
      omega
    rw [State.putBytes]
    exact if_neg (by rw [show (popRx 0xA2 s).slot k = s.slot k from rfl, hno]; decide)
  have hbar : (popRx 0xA2 s).slotBarred k = false := hbarred
  show execImgDataPacket p s = _
  simp [execImgDataPacket, hup, hhead, htyp, hslot, hput, hbar]

/-- Settles O48. -/
theorem blockingEventsComplete : Obligations.BlockingEventsComplete := by
  unfold Obligations.BlockingEventsComplete
  intro s
  refine ⟨?_, ?_, ?_, ?_, ?_, ?_, ?_, ?_⟩
  · intro hact hstep hdelay hfill hlocked
    show execBlockingLockDone s = _
    simp [execBlockingLockDone, hact, hstep, hdelay, hfill, hlocked]
  · intro hact hstep hdone
    show execLockTimeout s = _
    simp [execLockTimeout, hact, hstep, hdone]
  · intro hact hdelay hstep hfill
    refine ⟨_, next_blockingDelayEnd_fill hact hdelay hstep hfill, ?_, rfl, rfl⟩
    show (s.set R.BLK_STAT.FILLING 1).flag R.BLK_STAT.FILLING = true
    rw [State.flag, State.get_set_same]
    rfl
  · intro c hact hdelay hfill hlt hcode hresume
    have hran := nextStep_ran hlt hcode hresume
    exact ⟨_, next_blockingDelayEnd hact hdelay fun _ => hfill, hran.cur, hran.done, hran.step, hran.gsr, hran.writes, hran.released⟩
  · intro hact hdelay hstep
    rw [next_blockingDelayEnd hact hdelay fun h => by omega, nextStep, hstep]
    rfl
  · intro hact hfill hidle
    refine ⟨_, next_feltingFillEnd hact hfill hidle, ?_, filled_rows _ s⟩
    rw [State.flag, filled, State.get_set_same]
    rfl
  · intro k hup hrun hclk
    refine ⟨next_imageRefreshStart_new hup hrun hclk, fun u hsome hload => ?_⟩
    have hexec := next_imageRefreshStart_step hup hrun hclk hsome hload
    refine ⟨fun hend => hexec.trans (if_pos hend), fun hlt => ?_⟩
    have hnot : ¬ 2 * (((s.slot k).length + 262143) / 262144) ≤ u := Nat.not_le.2 hlt
    rw [hexec, if_neg hnot]
    dsimp only
    split <;> rfl
  · exact fun p k => next_imgDataPacket

end Sys2Proof.Machine
end

section
/-! PROOFS. Mailbox frames that are posted, taken, answered and aborted, and the frames of the management channel
(R395, R501–R507). -/

namespace Sys2Proof.Machine

/-! ## CRC-16 and the frames of the management channel -/

theorem crc16_lt (l : List Nat) : crc16 l < 65536 := by
  have hbit (c : Nat) (b : Bool) : crc16Bit c b < 65536 := by
    unfold crc16Bit
    dsimp only
    split
    · exact Nat.xor_lt_two_pow (n := 16) (Nat.mod_lt _ (by decide)) (by decide)
    · exact Nat.mod_lt _ (by decide)
  have hfold : ∀ (bs : List Bool) (c : Nat), c < 65536 → bs.foldl crc16Bit c < 65536 := by
    intro bs
    induction bs with
    | nil => exact fun c h => h
    | cons b bs ih => exact fun c _ => ih _ (hbit c b)
  exact hfold _ _ (by decide)

variable {m : Fin 16} {s : State}

theorem mgmtFrame_eq (m : Nat) (l : List Nat) :
    mgmtFrame m l = m :: l.length :: l ++ leBytes 2 (crc16 (m :: l.length :: l)) := rfl

theorem mgmtFrame_length (m : Nat) (l : List Nat) : (mgmtFrame m l).length = l.length + 4 := by
  simp [mgmtFrame_eq, leBytes_length]

theorem mgmtFrame_take (m : Nat) (l : List Nat) : (mgmtFrame m l).take (l.length + 2) = m :: l.length :: l := by
  rw [mgmtFrame_eq, List.take_left' (by simp)]

theorem mgmtFrame_crc (m : Nat) (l : List Nat) :
    numAt (mgmtFrame m l) (l.length + 2) 2 = crc16 ((mgmtFrame m l).take (l.length + 2)) := by
  have hmid := bytesAt_middle (m :: l.length :: l) (leBytes 2 (crc16 (m :: l.length :: l))) []
  rw [List.append_nil, leBytes_length] at hmid
  rw [mgmtFrame_take, numAt, mgmtFrame_eq]
  refine (congrArg ofLeBytes hmid).trans ((ofLeBytes_leBytes _ _).trans (Nat.mod_eq_of_lt (crc16_lt _)))

/-- The bytes after the kind of a management frame are its traffic. -/
theorem mgmtFrame_tail (m k : Nat) (l : List Nat) : bytesAt (mgmtFrame m (k :: l)) 3 l.length = l := by
  rw [mgmtFrame_eq]
  exact bytesAt_middle [m, (k :: l).length, k] l _

/-- A frame with a good CRC for a mailbox of the device acts by its kind (R395, R504). -/
theorem mgmtFrame_acts {l : Fin 96} {k : Nat} {data : List Nat} (hopen : s.streamOpen (s.bundleOf l) = true)
    (hen : s.flag (R.LINK_CFG.MGMT_EN (s.bundleOf l)) = true) :
    exec (.mgmtFrameRx l (mgmtFrame m (k :: data))) s = match k with
      | 1 => .next (postMsg m 2 (s.bundleOf l) 0 data s)
      | 4 => .next (flushSent (abortMbox m s))
      | _ => .next s := by
  have hlen : (mgmtFrame m (k :: data)).length - 4 = data.length + 1 := by
    rw [mgmtFrame_length, List.length_cons, Nat.add_sub_cancel]
  have hgood : ¬ ((mgmtFrame m (k :: data)).length < 4 ∨ (mgmtFrame m (k :: data)).getD 1 0 ≠ data.length + 1 ∨
      numAt (mgmtFrame m (k :: data)) (data.length + 1 + 2) 2 ≠ crc16 ((mgmtFrame m (k :: data)).take (data.length + 1 + 2))) := by
    rintro (h | h | h)
    · rw [mgmtFrame_length] at h
      omega
    · exact h rfl
    · exact h (mgmtFrame_crc m (k :: data))
  have hclosed : (!s.streamOpen (s.bundleOf l) || !s.flag (R.LINK_CFG.MGMT_EN (s.bundleOf l))) = false := by
    rw [hopen, hen]
    rfl
  rw [exec_mgmtFrameRx, execMgmtFrameRx, hlen, if_neg (by rw [hclosed]; decide), if_neg hgood,
    if_neg (show ¬ 16 ≤ (mgmtFrame m (k :: data)).getD 0 0 from Nat.not_le.2 m.isLt), Nat.add_sub_cancel, mgmtFrame_tail]
  rfl

theorem mgmtFrameRx_badCrc {l : Fin 96} {b : List Nat} (hopen : s.streamOpen (s.bundleOf l) = true)
    (hen : s.flag (R.LINK_CFG.MGMT_EN (s.bundleOf l)) = true) (hlen : 4 ≤ b.length)
    (hcrc : numAt b (b.length - 2) 2 ≠ crc16 (b.take (b.length - 2))) :
    exec (.mgmtFrameRx l b) s = .next (s.inc (R.LINK_STAT.MGMT_ERR (s.bundleOf l))) := by
  have hclosed : (!s.streamOpen (s.bundleOf l) || !s.flag (R.LINK_CFG.MGMT_EN (s.bundleOf l))) = false := by
    rw [hopen, hen]
    rfl
  have hn : b.length - 4 + 2 = b.length - 2 := by omega
  rw [exec_mgmtFrameRx, execMgmtFrameRx, if_neg (by rw [hclosed]; decide), hn, if_pos (.inr (.inr hcrc))]

/-! ## A message frame asks to post -/

section

variable {n path a b : Nat} {frame : List Nat} (hrun : s.mgt.running = true) (hnorm : s.mgt.recovery = false)
include hrun hnorm

theorem postMsg_free (hfree : s.mbFree n path a b = true) : postMsg n path a b frame s = postFrame n path a b frame s := by
  rw [postMsg, if_neg (by rw [hrun, hnorm]; decide), if_pos hfree]

theorem postMsg_busy (hbusy : s.mbFree n path a b = false) :
    postMsg n path a b frame s = flushSent (refuseFrame n path a b (frTag frame) s) := by
  rw [postMsg, if_neg (by rw [hrun, hnorm]; decide), if_neg (by rw [hbusy]; decide)]

end

/-! ## Aborts -/

theorem State.modMbox_same (n : Nat) (f : Mbox → Mbox) (s : State) : (s.modMbox n f).mbox n = f (s.mbox n) :=
  s.mbox_setMbox_same n _

theorem State.modMbox_ne {n k : Nat} (f : Mbox → Mbox) (s : State) (h : k ≠ n) : (s.modMbox n f).mbox k = s.mbox k :=
  s.mbox_setMbox_ne _ h

theorem requestAbort_ignored {n : Nat} (h : s.mbState n = 0 ∨ s.mbState n = 3 ∨ s.flag (R.MB_CTL.ABORT n) = true) :
    requestAbort n s = s := by
  unfold requestAbort
  split
  · rfl
  · next hflag =>
    rcases h with h | h | h
    · simp [abortMbox, h, applyIf]
    · simp [abortMbox, h, applyIf]
    · exact absurd h hflag

theorem requestAbort_posted {n : Nat} (hflag : s.flag (R.MB_CTL.ABORT n) = false) (hst : s.mbState n = 1) :
    requestAbort n s = (s.modMbox n fun b => { b with abortReq := true }).set (R.MB_CTL.ABORT n) 1 := by
  simp [requestAbort, hflag, abortMbox, hst, applyIf]

/-- An abort of a command that has not begun cancels it. -/
theorem requestAbort_taken {n : Nat} (hflag : s.flag (R.MB_CTL.ABORT n) = false) (hst : s.mbState n = 2)
    (hrun : s.mgt.running = true) (hstage : (s.mbox n).stage = 2) (hout : (s.mbox n).outcome = none)
    (hstarted : (s.mbox n).started = false) :
    requestAbort n s = (cancelCmd n s).set (R.MB_CTL.ABORT n) 1 := by
  simp [requestAbort, hflag, abortMbox, hst, applyIf, hrun, hstage, hout, hstarted]

/-! ## Taking -/

theorem takeFrame_regs (n : Nat) (s : State) : (takeFrame n s).regs = (s.set (R.MB_CTL.STATE n) 2).regs := by
  unfold takeFrame
  dsimp only
  split
  · rfl
  · split
    · rfl
    · split
      · rfl
      · unfold applyIf
        split <;> rfl

theorem takeFrame_state (n : Nat) (s : State) : (takeFrame n s).mbState n = 2 := by
  have hget : (takeFrame n s).get (R.MB_CTL.STATE n) = (s.set (R.MB_CTL.STATE n) 2).get (R.MB_CTL.STATE n) :=
    congrArg (fun l => at' l (R.MB_CTL.STATE n).key (R.MB_CTL.STATE n).rst) (takeFrame_regs n s)
  rw [State.mbState, hget, State.get_set_same]
  rfl

theorem takeFrame_long {n : Nat} (habort : (s.mbox n).abortReq = false) (hlong : 120 < frAlen (s.mbox n).frame) :
    ((takeFrame n s).mbox n).outcome = some ⟨stBadFrame, false, []⟩ := by
  simp only [takeFrame, habort, badFrame, hlong, decide_true, Bool.true_or, Bool.false_eq_true, if_false, if_true,
    State.mbox_setMbox_same]

/-- A command that one frame carries whole is ready to be served (R503). -/
theorem takeFrame_whole {n : Nat} (habort : (s.mbox n).abortReq = false) (hserial : (s.mbox n).serial = 0)
    (hmore : frMore (s.mbox n).frame = false) (hcont : frCont (s.mbox n).frame = false)
    (hwhole : frAlen (s.mbox n).frame = frAtotal (s.mbox n).frame) (hlen : frAlen (s.mbox n).frame ≤ 120) :
    let b := (takeFrame n s).mbox n
    b.cmd = frCmd (s.mbox n).frame ∧ b.tag = frTag (s.mbox n).frame ∧ b.stage = 2 ∧ b.outcome = none ∧ b.started = false ∧
      b.args = bytesAt (s.mbox n).frame 8 (frAlen (s.mbox n).frame) := by
  have hgood (b : Mbox) : badFrame b false (s.mbox n).frame = false := by
    have hlong : ¬ 8192 < frAtotal (s.mbox n).frame := by omega
    simp [badFrame, hcont, hmore, ← hwhole, Nat.not_lt.2 hlen]
    omega
  simp [takeFrame, habort, hserial, hgood, hcont, hmore, State.mbox_setMbox_same]

theorem exec_take (hup : s.up = true) (hrun : s.mgt.running = true) (htake : s.takable.contains m.val = true)
    (hfirst : ∀ k ∈ s.takable, (s.mbox m).postSeq ≤ (s.mbox k).postSeq) :
    exec (.mailboxTake m) s = .next (flushSent (takeFrame m s)) := by
  have hall : s.takable.all (fun k => decide ((s.mbox m).postSeq ≤ (s.mbox k).postSeq)) = true := by
    simpa using hfirst
  rw [exec_mailboxTake, execMailboxTake, hup, hrun, htake, hall]
  rfl

/-! ## Completing -/

theorem compBytes_status (st tag : Nat) (more part late mbto : Bool) (total tick : Nat) (result : List Nat) :
    numAt (bytesAt (compBytes st tag more part late mbto total tick result) 0 128) 0 2 = st % 65536 := by
  have h : bytesAt (bytesAt (compBytes st tag more part late mbto total tick result) 0 128) 0 2 = leBytes 2 st := rfl
  rw [numAt, h, ofLeBytes_leBytes]
  rfl

/-- A completion of a frame of the immediate window: the mailbox is Done and free (R501, R503). -/
theorem completeMbox_done {n : Nat} {o : Outc} (hstage : (s.mbox n).stage = 2) (hout : (s.mbox n).outcome = some o)
    (hpath : (s.mbox n).path < 2) (hlen : o.result.length ≤ 112) :
    let t := completeMbox n false s
    t.mbState n = 3 ∧ t.get (R.MB_CTL.DONE n) = 1 ∧ t.get (R.MB_CTL.ABORT n) = 0 ∧ (t.mbox n).held = false ∧
      (t.mbox n).serial = 0 ∧ numAt (t.mbox n).comp 0 2 = o.status % 65536 ∧ ∀ k, k ≠ n → t.mbox k = s.mbox k := by
  have hrest : o.result.drop 112 = [] := List.drop_eq_nil_of_le hlen
  have hcomp : completeMbox n false s = freeMbox n (writeComp n (compBytes o.status (s.mbox n).tag false false (false || o.late) false
      o.result.length s.clk.tick (o.result.take 112)) s) := by
    simp only [completeMbox, hstage, hout, writeResult, hrest, bne_self_eq_false, if_true]
  rw [hcomp, writeComp, if_neg (Nat.not_le.2 hpath)]
  generalize hc : compBytes o.status (s.mbox n).tag false false (false || o.late) false o.result.length s.clk.tick
    (o.result.take 112) = c
  have hdone : (R.MB_CTL.DONE n).key ≠ (R.MB_CTL.STATE n).key := by simp only [Fld.key, R.MB_CTL.DONE, R.MB_CTL.STATE]; omega
  have habortS : (R.MB_CTL.ABORT n).key ≠ (R.MB_CTL.STATE n).key := by
    simp only [Fld.key, R.MB_CTL.ABORT, R.MB_CTL.STATE]; omega
  have habortD : (R.MB_CTL.ABORT n).key ≠ (R.MB_CTL.DONE n).key := by simp only [Fld.key, R.MB_CTL.ABORT, R.MB_CTL.DONE]; omega
  generalize hu : (((s.set (R.MB_CTL.ABORT n) 0).setMbox n { s.mbox n with comp := bytesAt c 0 128 }).set (R.MB_CTL.STATE n) 3).set
    (R.MB_CTL.DONE n) 1 = u
  have hbox : u.mbox n = { s.mbox n with comp := bytesAt c 0 128 } := hu ▸ State.mbox_setMbox_same _ n _
  have hfree : (freeMbox n u).mbox n = _ := State.modMbox_same n _ u
  refine ⟨?_, ?_, ?_, ?_, ?_, ?_, fun k hk => ?_⟩
  · show u.get (R.MB_CTL.STATE n) = 3
    rw [← hu, State.get_set_ne _ _ hdone.symm, State.get_set_same]
    rfl
  · show u.get (R.MB_CTL.DONE n) = 1
    rw [← hu, State.get_set_same]
    rfl
  · show u.get (R.MB_CTL.ABORT n) = 0
    rw [← hu, State.get_set_ne _ _ habortD, State.get_set_ne _ _ habortS]
    exact State.get_set_same s (R.MB_CTL.ABORT n) 0
  · rw [hfree]
  · rw [hfree]
  · rw [hfree, hbox, ← hc]
    exact compBytes_status _ _ _ _ _ _ _ _ _
  · have hset : u.mbox k = s.mbox k := hu ▸ State.mbox_setMbox_ne _ _ hk
    exact (State.modMbox_ne _ u hk).trans hset

/-! ## Frames from the NoC -/

theorem exec_msgPacket_posts {p : Pkt} (hup : s.up = true) (hhead : s.rxHead 0xA0 = some p) (htyp : p.typ = 5) (hoff : p.off = m.val)
    (hlen : p.data.length = 128) : exec (.mailboxMsgPacket p) s = .next (postMsg m 3 p.srcDev p.srcEp p.data (popRx 0xA0 s)) := by
  have hm := m.isLt
  have hmod : p.off % 16 = m := by omega
  have hlow : p.off < 16 ∧ p.data.length = 128 := ⟨by omega, hlen⟩
  rw [exec_mailboxMsgPacket, execMailboxMsgPacket, if_neg (by simp [hup, hhead]), if_neg (by simp [htyp]), if_pos hlow, hmod]

theorem exec_msgPacket_aborts {p : Pkt} (hup : s.up = true) (hhead : s.rxHead 0xA0 = some p) (htyp : p.typ = 5)
    (hoff : p.off = 16 + m.val) : exec (.mailboxMsgPacket p) s = .next (flushSent (abortMbox m (popRx 0xA0 s))) := by
  have hm := m.isLt
  have hmod : p.off % 16 = m := by omega
  have hlow : ¬ (p.off < 16 ∧ p.data.length = 128) := by omega
  have hhigh : 16 ≤ p.off ∧ p.off < 32 := by omega
  rw [exec_mailboxMsgPacket, execMailboxMsgPacket, if_neg (by simp [hup, hhead]), if_neg (by simp [htyp]), if_neg hlow,
    if_pos hhigh, hmod]

theorem exec_msgPacket_logs {p : Pkt} (hup : s.up = true) (hhead : s.rxHead 0xA0 = some p) (htyp : p.typ = 5) (hoff : p.off = m.val)
    (hlen : p.data.length ≠ 128) : exec (.mailboxMsgPacket p) s = .next (logNoc p 2 0 (popRx 0xA0 s)) := by
  have hm := m.isLt
  have hlow : ¬ (p.off < 16 ∧ p.data.length = 128) := fun h => hlen h.2
  have hhigh : ¬ (16 ≤ p.off ∧ p.off < 32) := by omega
  rw [exec_mailboxMsgPacket, execMailboxMsgPacket, if_neg (by simp [hup, hhead]), if_neg (by simp [htyp]), if_neg hlow,
    if_neg hhigh]

/-- Settles O54. -/
theorem mailboxEventsComplete : Obligations.MailboxEventsComplete := by
  unfold Obligations.MailboxEventsComplete
  intro m s
  refine ⟨?_, ?_, ?_, ?_, ?_, requestAbort_ignored, requestAbort_posted, ?_, ?_, ?_, ?_, ?_, ?_, ?_, ?_, ?_⟩
  · intro hon hfree
    rw [exec_mbCtlGo, execMbCtlGo, if_pos hon, goMbox, if_pos hfree]
  · intro hon hbusy
    rw [exec_mbCtlGo, execMbCtlGo, if_pos hon, goMbox, if_neg (by rw [hbusy]; decide)]
  · intro hon hdone
    rw [exec_mbCtlDoneClear, execMbCtlDoneClear, if_pos hon, clearDone, if_pos hdone]
  · intro hon
    rw [exec_mbCtlEvtPop, execMbCtlEvtPop, if_pos hon, popEvent]
  · intro hon
    rw [exec_mbCtlAbort, execMbCtlAbort, if_pos hon]
  · intro hflag hst hrun hstage hout hstarted
    rw [requestAbort_taken hflag hst hrun hstage hout hstarted]
    refine ⟨?_, ?_, fun k hk => ?_⟩
    · rw [State.flag, State.get_set_same]
      rfl
    · show ((cancelCmd m s).mbox m).outcome = _
      rw [cancelCmd, State.modMbox_same]
    · show (cancelCmd m s).mbox k = _
      rw [cancelCmd, State.modMbox_ne _ s hk]
  · intro hup hrun htake hfirst
    refine ⟨exec_take hup hrun htake hfirst, takeFrame_state m s, fun habort => takeFrame_whole habort, takeFrame_long⟩
  · intro hready
    rw [exec_mailboxComplete, execMailboxComplete, if_pos hready]
  · exact fun o => completeMbox_done
  · intro hup hst hms
    have hdue : ¬ ((!s.up) = true ∨ (s.mbState m ≠ 1 ∧ s.mbState m ≠ 2) ∨ (s.mbox m).timeoutMs = 0) := by
      rw [hup]
      rintro (h | h | h)
      · exact absurd h (by decide)
      · omega
      · exact hms h
    constructor
    · rw [exec_mailboxTimeout, execMailboxTimeout, if_neg hdue]
      rfl
    · intro hready
      rw [exec_mailboxTimeout, execMailboxTimeout, if_neg hdue, if_pos ⟨rfl, hready⟩]
  · exact fun l hopen hen => mgmtFrame_acts hopen hen
  · intro l data hopen hen hlen _ hhead hrun hnorm
    obtain ⟨k, rest, rfl⟩ : ∃ k rest, data = k :: rest := List.exists_cons_of_length_eq_add_one hlen
    obtain rfl : k = 1 := Option.some.inj hhead
    refine ⟨fun hfree => ?_, fun hbusy => ?_⟩
    · rw [mgmtFrame_acts hopen hen]
      exact congrArg _ (postMsg_free hrun hnorm hfree)
    · rw [mgmtFrame_acts hopen hen]
      exact congrArg _ (postMsg_busy hrun hnorm hbusy)
  · exact fun l b => mgmtFrameRx_badCrc
  · intro p hup hhead htyp
    refine ⟨fun hoff hlen hrun hnorm hfree => ?_, fun hoff hlen hrun hnorm hbusy => ?_, exec_msgPacket_aborts hup hhead htyp,
      exec_msgPacket_logs hup hhead htyp⟩
    · rw [exec_msgPacket_posts hup hhead htyp hoff hlen, postMsg_free (s := popRx 0xA0 s) hrun hnorm hfree]
    · rw [exec_msgPacket_posts hup hhead htyp hoff hlen, postMsg_busy (s := popRx 0xA0 s) hrun hnorm hbusy]

end Sys2Proof.Machine
end

section
/-! PROOFS. The commit of a first Load whose planes do not exist (R436). -/

namespace Sys2Proof.Machine

/-- A region number whose word of `RST_FUNC` would lie at the address of `CFG_ID`. -/
def heldRegion : Nat := 32 * 0x2FFFFE

/-- A region number such that the field `PLANES` of its block memory 32 would lie at the state of plane 0 of `heldRegion`. -/
def usedRegion : Nat := 1051307

theorem planes_usedRegion : (R.BM_STAT.PLANES (96 * usedRegion + 32)).key = (R.CTX_STAT.PS0 heldRegion).key := by decide

/-- A first Load with `IMAGE_ID` 1 that has passed its checks. It names plane 0 of `heldRegion` and plane 1 of `usedRegion`. -/
def farPlanes : Load :=
  { newLoad 0 1 0 0 0 100 0 with stage := 4, hdr := [0, 0, 1], planes := [4 * heldRegion, 4 * usedRegion + 1] }

/-- The device before the commit of that load. A repair is said to hold `heldRegion` in reset, plane 1 of `usedRegion` is fenced, and
its plane 0 uses block memory 32. -/
def farCommit : State :=
  { State.reset with
    regs := [(R.DEV_MODE.MODE.key, mLoad), (R.SEC_PROT.LOCK.key, 1), ((R.CTX_STAT.PS0 usedRegion).key, psActive)]
    test := { State.reset.test with fenced := [(2, 4 * usedRegion + 1)] }
    ctx := { State.reset.ctx with planes := [(4 * usedRegion, { Plane.empty with codes := 2 ^ 192 - 1 - 3 * 2 ^ 64 })] }
    integ := { State.reset.integ with uncHeld := [heldRegion] }
    cfg := { State.reset.cfg with load := some farPlanes } }

theorem farCommit_runs : farCommit.cfgRuns = true := by decide +kernel

/-! ## The steps of the commit -/

/-- The plane of `heldRegion` is placed. -/
def farHood : State :=
  { farCommit with
    regs := farCommit.regs ++ [((R.CTX_STAT.PS0 heldRegion).key, psHood)]
    ctx := { farCommit.ctx with planes := farCommit.ctx.planes ++ [(4 * heldRegion, segPlane farPlanes Plane.empty)] } }

/-- The plane of `usedRegion` is emptied. The block memories that the region uses are shown, and that makes the state of the first plane
Loading. -/
def farPlaced : State := { farHood with regs := farCommit.regs ++ [((R.CTX_STAT.PS0 heldRegion).key, psLoading)] }

/-- What follows the writing of the planes: the load shows its `IMAGE_ID`, ends, and Blocking begins (R436). -/
def finishCommit (l : Load) (s : State) : State :=
  let s := s.modLoad fun l => { l with planesDone := l.planes.length }
  let s := (s.set R.CFG_ID.IMAGE_ID l.imageId).setB R.CFG_STAT.FALLBACK (s.cfg.golden && l.source == 0 && l.num == 0)
  let fill := l.felt || s.flag R.STRAP_LATCH.FELT
  let s := s.modCfg fun c => { c with felt := l.felt, fillVal := l.fill, golden := false }
  bootCal (commitMode mBlocking (startBlocking false fill (endLoadWith stOk false false s)))

theorem forEach_fixed {α : Type} {f : α → State → State} {l : List α} {s : State} (h : ∀ a ∈ l, f a s = s) :
    forEach l f s = s := by
  induction l with
  | nil => rfl
  | cons a l ih =>
    rw [forEach_cons, h a List.mem_cons_self]
    exact ih fun b hb => h b (List.mem_cons_of_mem a hb)

/-- `t` differs from `s` in its registers alone. -/
def RegsOnly (s t : State) : Prop := t = { s with regs := t.regs }

theorem RegsOnly.refl {s : State} : RegsOnly s s := rfl

theorem RegsOnly.trans {s t u : State} (h : RegsOnly s t) (h' : RegsOnly t u) : RegsOnly s u := by
  rw [RegsOnly] at h h' ⊢
  rw [h', h]

theorem RegsOnly.set (f : Fld) (v : Nat) (s : State) : RegsOnly s (s.set f v) := rfl

theorem RegsOnly.forEach {α : Type} {f : α → State → State} (l : List α) (s : State) (hf : ∀ a u, RegsOnly u (f a u)) :
    RegsOnly s (Machine.forEach l f s) :=
  forEach_ind (RegsOnly s) f l s .refl fun a u h => h.trans (hf a u)

/-- Equal registers are all there is to compare. -/
theorem RegsOnly.eq {s t : State} {l : SMap Nat} (h : RegsOnly s t) (hregs : t.regs = l) : t = { s with regs := l } := by
  rw [RegsOnly, hregs] at h
  exact h

theorem RegsOnly.refreshPlanes (r : Nat) (s : State) : RegsOnly s (refreshPlanes r s) := .forEach _ _ fun _ _ => .set _ _ _

theorem imageDefaults_farCommit : imageDefaults farCommit = farCommit := by decide +kernel

/-- Field `f` is not listed in the registers: it holds its reset value. -/
def State.Unlisted (s : State) (f : Fld) : Prop := f.rst = 0 ∧ ∀ e ∈ s.regs, e.1 ≠ f.key

theorem State.Unlisted.set {s : State} {f : Fld} (h : s.Unlisted f) : s.set f 0 = s := by
  have hput : putD s.regs f.key f.rst (0 % 2 ^ f.w) = s.regs := by
    rw [Nat.zero_mod, h.1, putD, if_pos rfl, del]
    exact List.filter_eq_self.2 fun e he => bne_iff_ne.2 (h.2 e he)
  exact congrArg (fun l => ({ s with regs := l } : State)) hput

theorem lookup_none_of_ne {α : Type} {m : SMap α} {k : Nat} (h : ∀ e ∈ m, e.1 ≠ k) : lookup m k = none := by
  induction m with
  | nil => rfl
  | cons e m ih =>
    rw [lookup, if_neg (h e List.mem_cons_self).symm]
    exact ih fun e' he => h e' (List.mem_cons_of_mem e he)

theorem State.Unlisted.get {s : State} {f : Fld} (h : s.Unlisted f) : s.get f = 0 := by
  rw [State.get, at', lookup_none_of_ne h.2, h.1]
  rfl

/-- Where no bank spills, no segment is shown as one that takes spills. -/
theorem refreshSpill_off {s : State} (hoff : ∀ b ∈ List.range 256, s.flag (R.SPILL_STAT.EN b) = false)
    (hshown : ∀ g ∈ List.range 48, s.Unlisted (R.SEG_CFG.SPILL g)) : refreshSpill s = s := by
  refine forEach_fixed fun g hg => ?_
  have hnone : ((List.range 256).any fun b =>
      let k := s.bank b
      s.flag (R.SPILL_STAT.EN b) && decide (k.ringBase / 2 ^ 30 ≤ g) &&
        decide (g ≤ (k.ringBase + 2048 * k.ringSize - 1) / 2 ^ 30)) = false :=
    List.any_eq_false.2 fun b hb => by simp [hoff b hb]
  rw [hnone]
  exact (hshown g hg).set

theorem resetStores_farCommit : resetStores farCommit = farCommit := by
  unfold resetStores
  dsimp only
  rw [forEach_fixed (l := List.range 256) (by decide +kernel), forEach_fixed (l := List.range 4) (by decide +kernel),
    forEach_fixed (l := List.range 48) (by decide +kernel),
    refreshSpill_off (by decide +kernel) fun g hg => ⟨rfl, by revert g; decide +kernel⟩]
  decide +kernel

theorem planeCode_empty : ∀ m ∈ List.range 96, planeCode Plane.empty m = 3 := by decide +kernel

theorem takeCodes_empty (r : Nat) (s : State) : takeCodes r Plane.empty [] s = s :=
  forEach_fixed fun m hm => if_pos (.inl (planeCode_empty m hm))

theorem endPowerFences_farCommit : endPowerFences farCommit = farCommit := by decide +kernel

theorem placePlane_held : placePlane farPlanes (4 * heldRegion) farCommit = farHood := by
  have hclear : ¬ farCommit.test.fenced.contains (2, 4 * heldRegion) = true := by decide +kernel
  have hactive : ¬ activeOf farPlanes (4 * heldRegion / 4) = some (4 * heldRegion % 4) := by decide
  have hregs : putD farCommit.regs (R.CTX_STAT.PS0 heldRegion).key 0 psHood = farHood.regs := by decide +kernel
  have hne : segPlane farPlanes Plane.empty ≠ Plane.empty := fun h => absurd (congrArg Plane.prot h) (by decide)
  have hplane : farCommit.plane heldRegion 0 = Plane.empty := by decide +kernel
  have hplanes : putD farCommit.ctx.planes (4 * heldRegion) Plane.empty (segPlane farPlanes Plane.empty) = farHood.ctx.planes := by
    rw [putD, if_neg hne]
    rfl
  simp only [placePlane]
  rw [if_neg hclear, if_neg hactive]
  show { farCommit with
      regs := putD farCommit.regs (R.CTX_STAT.PS0 heldRegion).key 0 psHood
      ctx := { farCommit.ctx with
        planes := putD farCommit.ctx.planes (4 * heldRegion) Plane.empty (segPlane farPlanes (farCommit.plane heldRegion 0)) } } =
    farHood
  rw [hplane, hregs, hplanes]
  rfl

theorem placePlane_used : placePlane farPlanes (4 * usedRegion + 1) farHood = farPlaced := by
  have hfenced : farHood.test.fenced.contains (2, 4 * usedRegion + 1) = true := by decide +kernel
  have hempty : setPlaneState usedRegion 1 psEmpty farHood = farHood :=
    RegsOnly.eq (RegsOnly.set _ _ _) (by decide +kernel)
  have hregs : (refreshPlanes usedRegion farHood).regs = farPlaced.regs := by decide +kernel
  have hcancel : cancelRepairs (4 * usedRegion + 1) farHood = farHood := by rfl
  have hplane : farHood.modPlane usedRegion 1 (fun _ => Plane.empty) = farHood := by
    have hdel : putD farHood.ctx.planes (4 * usedRegion + 1) Plane.empty Plane.empty = farHood.ctx.planes := by
      rw [putD, if_pos rfl]
      rfl
    show { farHood with
      ctx := { farHood.ctx with planes := putD farHood.ctx.planes (4 * usedRegion + 1) Plane.empty Plane.empty } } = farHood
    rw [hdel]
  simp only [placePlane]
  rw [if_pos hfenced]
  show refreshPlanes usedRegion (cancelRepairs (4 * usedRegion + 1)
    ((setPlaneState usedRegion 1 psEmpty farHood).modPlane usedRegion 1 fun _ => Plane.empty)) = farPlaced
  rw [hempty, hplane, hcancel]
  exact RegsOnly.eq (.refreshPlanes _ _) hregs

theorem placePlanes_farCommit : forEach farPlanes.planes (placePlane farPlanes) farCommit = farPlaced := by
  have hplanes : farPlanes.planes = [4 * heldRegion, 4 * usedRegion + 1] := rfl
  rw [hplanes, forEach_cons, forEach_cons, forEach_nil, placePlane_held, placePlane_used]

/-- Where no plane of a region is in use, and none is shown to be, `PLANES` has nothing to show. -/
theorem refreshPlanes_empty {r : Nat} {s : State} (hstate : ∀ p ∈ List.range 4, s.planeState r p = psEmpty)
    (hshown : ∀ m ∈ List.range 96, s.Unlisted (R.BM_STAT.PLANES (96 * r + m))) : refreshPlanes r s = s := by
  refine forEach_fixed fun m hm => ?_
  have huse (p : Nat) (hp : p ∈ List.range 4) : s.planeUses r p m = false := by
    rw [State.planeUses, hstate p hp]
    rfl
  have hmask : (List.range 4).foldl (fun a p => a + if s.planeUses r p m then 2 ^ p else 0) 0 = 0 := by
    simp [List.range_succ, huse]
  rw [hmask]
  exact (hshown m hm).set

theorem farPlaced_listed {e : Nat × Nat} (he : e ∈ farPlaced.regs) : e.1 ∈ [256, 6144, 470493954, 25971146754] := by
  have hkeys : farPlaced.regs.map Prod.fst = [256, 6144, 470493954, 25971146754] := by decide +kernel
  rw [← hkeys]
  exact List.mem_map_of_mem he

theorem farPlaced_planeState {r : Nat} (hr : r < 128) : ∀ p ∈ List.range 4, farPlaced.planeState r p = psEmpty := by
  intro p _
  refine State.Unlisted.get ⟨?_, fun e he => ?_⟩
  · unfold psField
    split <;> rfl
  · have hkey := farPlaced_listed he
    unfold psField
    split <;> simp only [Fld.key, R.CTX_STAT.PS0, R.CTX_STAT.PS1, R.CTX_STAT.PS2, R.CTX_STAT.PS3] <;> simp at hkey <;> omega

theorem refreshPlanes_farPlaced {r : Nat} (hr : r < 128) : refreshPlanes r farPlaced = farPlaced := by
  refine refreshPlanes_empty (farPlaced_planeState hr) fun m hm => ⟨rfl, fun e he => ?_⟩
  have hkey := farPlaced_listed he
  have hlt := List.mem_range.1 hm
  simp only [Fld.key, R.BM_STAT.PLANES]
  simp at hkey
  omega

theorem swapPlume_farPlaced (r : Nat) : swapPlume r farPlaced = farPlaced := by
  have hoff : ∀ k ∈ List.range 16, farPlaced.flag (R.PLUME_SEL.EN k) = false := by decide +kernel
  refine forEach_fixed fun k hk => if_neg fun h => ?_
  rw [hoff k hk] at h
  exact absurd h.2.1 (by decide)

theorem eachRegion_farPlaced : eachRegion (fun r s => swapPlume r (refreshPlanes r s)) farPlaced = farPlaced :=
  forEach_fixed fun r hr => by rw [refreshPlanes_farPlaced (List.mem_range.1 hr), swapPlume_farPlaced]

theorem farCommit_exec : exec .loadCommit farCommit = .next (finishCommit farPlanes farPlaced) := by
  have hload : (farCommit.cfg.load.filter fun l => l.stage == 4 && decide (l.kind < 2)) = some farPlanes := rfl
  have hplanes : farCommit.loadPlanes farPlanes = [(4 * heldRegion, Plane.empty), (4 * usedRegion + 1, Plane.empty)] := by
    decide +kernel
  have htake : forEach (farCommit.loadPlanes farPlanes) (fun e s => takeCodes (e.1 / 4) e.2 [] s) farCommit = farCommit := by
    rw [hplanes, forEach_cons, forEach_cons, forEach_nil, takeCodes_empty, takeCodes_empty]
  have hclocks : applyClocks farPlanes farCommit = farCommit := rfl
  have hparked : forEach farPlanes.parked applyRecord farCommit = farCommit := rfl
  have hcopy (l : List (Nat × Plane)) : copyFor farPlanes l farCommit = farCommit := rfl
  rw [exec_loadCommit, execLoadCommit, hload]
  dsimp only
  rw [if_neg (by rw [farCommit_runs]; decide), imageDefaults_farCommit, hclocks, hparked, resetStores_farCommit, htake,
    hcopy,
    endPowerFences_farCommit, placePlanes_farCommit, eachRegion_farPlaced]
  rfl

theorem finishCommit_imageId : (finishCommit farPlanes farPlaced).get R.CFG_ID.IMAGE_ID = 0 := by decide +kernel

/-- Refutes O46: as a first Load ends, a plane that reads Loading is emptied, and its region leaves the reset in which a repair holds
it. The statement does not exclude a load of a region whose word of `RST_FUNC` has the address of `CFG_ID`: `IMAGE_ID` reads 0 after
the commit of an image with `IMAGE_ID` 1. -/
theorem not_loadEventsComplete : ¬ Obligations.LoadEventsComplete := by
  intro h
  obtain ⟨-, -, -, -, -, -, -, -, -, -, -, -, -, hcommit, -⟩ := h farCommit farCommit_runs
  obtain ⟨t, hexec, -, -, hid, -⟩ := hcommit farPlanes rfl rfl (by decide)
  rw [farCommit_exec] at hexec
  obtain rfl := Host.Outcome.next.inj hexec
  exact absurd (finishCommit_imageId.symm.trans hid) (by decide)

end Sys2Proof.Machine
end

section
/-! PROOFS. Routers, doors and interfaces of the network (R404–R428). -/

namespace Sys2Proof.Machine

variable {s : State}

/-! ## A hop -/

section

variable {n : Fin 160} {port : Fin 6} {w : Worm} {u : State} (hu : localSlot n port s = u) (hruns : s.nocRuns = true) (hboot : s.mode ≠ mBoot ∨ 128 ≤ n.val)
  (hhead : (u.headsAt n port).find? (u.hopActs n) = some w)
include hu hruns hboot hhead

/-- A head that can act acts on hop 0 (Table 13-5). -/
theorem next_routerHop : exec (.routerHop n port) s =
    let p := w.pkt
    let h := p.route % 8
    if 2 ≤ u.rtrState n then .next (refusePkt p 0x0C (meshFunc (meshOf n)) (dropWorm w u))
    else if 6 ≤ p.typ then .next (refusePkt p 0x0E p.typ (dropWorm w u))
    else
      match hopPort n h with
      | none => .next (brokenAt n h p (dropWorm w u))
      | some o =>
        let p' := { p with route := p.route / 8 + 7 * 2 ^ 81 }
        if !(u.penAct n).testBit o then .next (brokenAt n h p (dropWorm w u))
        else if o = 4 then
          if !ejects n w.tgt then .next (brokenAt n h p (dropWorm w u))
          else if doored w.tgt then .next ((dropWorm w u).modNoc fun m => { m with door := pushAt m.door w.tgt p' })
          else .next (deliverAt w.tgt p' (dropWorm w u))
        else
          let (m, ip) := neighbour n o
          if 2 ≤ u.rtrState m then .next (refusePkt p 0x0C (meshFunc (meshOf m)) (dropWorm w u))
          else .next ((dropWorm w u).modNoc fun k => { k with worms := k.worms ++ [⟨m, ip, w.tgt, p'⟩] }) := by
  have hgo : ¬ (!s.nocRuns || (decide (s.mode = mBoot) && decide (n.val < 128))) = true := by
    rw [hruns]
    rcases hboot with h | h
    · simp [h]
    · simp [Nat.not_lt.2 h]
  rw [exec_routerHop, execRouterHop, if_neg hgo]
  dsimp only
  rw [hu, hhead] <;> rfl

end

/-! ## Age -/

/-- A step that keeps the keys of a map acts on each of its lists. -/
theorem at'_map_list {α : Type} (f : Nat → List α → List α) (hnil : ∀ k, f k [] = []) (m : SMap (List α)) (k : Nat) :
    at' (m.map fun e : Nat × List α => (e.1, f e.1 e.2)) k [] = f k (at' m k []) := by
  induction m with
  | nil => exact (hnil k).symm
  | cons e m ih =>
    by_cases hk : k = e.1
    · simp [at', lookup, ← hk]
    · simpa [at', lookup, hk] using ih

/-- The packets at the door of interface `e` are `l`; those at element `n` grow older with its local port (R417). -/
def olderAt (n port e : Nat) (l : List Pkt) : List Pkt := if port = 4 ∧ endpointElem e = n then l.map olderPkt else l

theorem at'_olderAt (n port : Nat) (m : SMap (List Pkt)) (k : Nat) :
    at' (m.map fun e : Nat × List Pkt => if port = 4 ∧ endpointElem e.1 = n then (e.1, e.2.map olderPkt) else e) k [] =
      olderAt n port k (at' m k []) := by
  have hmap : (fun e : Nat × List Pkt => if port = 4 ∧ endpointElem e.1 = n then (e.1, e.2.map olderPkt) else e) =
      fun e => (e.1, olderAt n port e.1 e.2) := by
    funext e
    unfold olderAt
    split <;> rfl
  rw [hmap]
  exact at'_map_list (olderAt n port) (fun k => by unfold olderAt; split <;> rfl) m k

theorem next_wormAge {n : Fin 160} {port : Fin 6} (hruns : s.nocRuns = true) : ∃ t, exec (.wormAge n port) s = .next t ∧
    t.regs = s.regs ∧
    t.noc.worms = s.noc.worms.map (fun w => if (s.headsAt n port).contains w = true then
      { w with pkt := { w.pkt with age := min (w.pkt.age + 1) 15 } } else w) ∧
    ∀ e, at' t.noc.door e [] = olderAt n port e (at' s.noc.door e []) := by
  have hexec : exec (.wormAge n port) s = _ := (exec_wormAge s n port).trans (if_neg (by rw [hruns]; decide))
  exact ⟨_, hexec, rfl, rfl, at'_olderAt n port s.noc.door⟩

/-! ## Answers and their timeouts -/

/-- The request `q` of interface `e` ends with the packet `p`, and one that waits is sent (R418). -/
def endRequest (e : Nat) (q p : Pkt) (s : State) : State :=
  sendWaiting e (s.modNoc fun n => { n with out := listAt n.out e ((at' n.out e []).erase q), rx := pushAt n.rx e p })

theorem next_nocResponseRx {e : Fin 1024} {p : Pkt} {rest : List Pkt} (hresp : at' s.noc.resp e [] = p :: rest) :
    exec (.nocResponseRx e) s =
      let u := s.modNoc fun n => { n with resp := listAt n.resp e rest }
      match (at' s.noc.out e []).find? fun q => q.seq == p.reqSeq with
      | some q => .next (endRequest e q p u)
      | none => .next (u.set (R.NI_STAT.LATE_DROP e) 1) := by
  rw [exec_nocResponseRx, execNocResponseRx, hresp]
  rfl

theorem next_txnTimeout {e : Fin 1024} {q : Pkt} {seq : Nat} (hruns : s.nocRuns = true) (hto : s.get (R.NI_CFG.TXN_TO e) ≠ 0)
    (hq : ((at' s.noc.out e []).find? fun q => q.seq == seq) = some q) :
    exec (.txnTimeout e seq false) s = .next (endRequest e q (pktAnswer q 0x0F 0 [] false)
      ((s.set (R.NI_STAT.TIMEOUT e) 1).inc (R.NI_STAT.TO_CNT e))) := by
  have hgo : ¬ (!s.nocRuns || s.get (R.NI_CFG.TXN_TO e) == 0) = true := by simp [hruns, hto]
  rw [exec_txnTimeout, execTxnTimeout, hq]
  exact if_neg hgo

theorem next_txnTimeout_late {e : Fin 1024} {p q : Pkt} {seq : Nat} (hruns : s.nocRuns = true) (hto : s.get (R.NI_CFG.TXN_TO e) ≠ 0)
    (hq : ((at' s.noc.out e []).find? fun q => q.seq == seq) = some q)
    (hp : ((at' s.noc.resp e []).find? fun p => p.reqSeq == seq) = some p) :
    exec (.txnTimeout e seq true) s = .next (endRequest e q { p with late := true }
      ((s.set (R.NI_STAT.LATE e) 1).modNoc fun n => { n with resp := listAt n.resp e ((at' n.resp e []).erase p) })) := by
  have hgo : ¬ (!s.nocRuns || s.get (R.NI_CFG.TXN_TO e) == 0) = true := by simp [hruns, hto]
  rw [exec_txnTimeout, execTxnTimeout, hq]
  refine (if_neg hgo).trans ?_
  dsimp only
  rw [if_pos rfl, hp]
  rfl

/-! ## Doors and ports -/

theorem next_nocPortRxFlit {r : Fin 128} {p : Pkt} (hhead : s.rxHead r = some p) (hborder : s.borderBlocks r = false)
    (hdown : s.regionDown r = false) (hresync : s.resyncing (512 + r.val) = false) (hport : s.npClocked r = true) :
    exec (.nocPortRxFlit r true) s =
      if at' s.noc.rxFlit r 0 + 1 < pktFlits p then
        .next (s.modNoc fun n => { n with rxFlit := putD n.rxFlit r 0 (at' s.noc.rxFlit r 0 + 1) })
      else .next ((popRx r s).modNoc fun n => { n with rxFlit := putD n.rxFlit r 0 0 }) := by
  rw [exec_nocPortRxFlit, execNocPortRxFlit, hhead, hborder, hdown, hresync, hport]
  rfl

theorem next_doorPacketArrival {e : Fin 1024} {p : Pkt} {l : List Pkt} (hup : s.up = true) (hdoor : at' s.noc.door e [] = p :: l) :
    exec (.doorPacketArrival e p) s =
      let u := s.modNoc fun n => { n with door := listAt n.door e l }
      if s.asleep e then
        let v := (u.set (R.NI_STAT.HELD e) 1).modNoc fun n => { n with heldHdr := pushAt n.heldHdr e p }
        if e.val < 0x100 then .next { v with aon := { v.aon with waking := true } }
        else .next (forEach (v.bundleLanes (e - 0x100)) exitDoze v)
      else .next (deliverAt e p u) := by
  have hgo : ¬ (!s.up || (at' s.noc.door e []).head? != some p) = true := by simp [hup, hdoor]
  rw [exec_doorPacketArrival, execDoorPacketArrival, if_neg hgo]
  have hdrop : (at' s.noc.door e []).drop 1 = l := by rw [hdoor]; rfl
  dsimp only [State.modNoc]
  rw [hdrop]
  rfl

/-- Settles O42. -/
theorem nocEventsComplete : Obligations.NocEventsComplete := by
  unfold Obligations.NocEventsComplete
  intro s
  refine ⟨?_, ?_, ?_, ?_, ?_, ?_, ?_, ?_, ?_, ?_, ?_, ?_, ?_⟩
  · intro r p hmode hborder hdown hresync hport hclk
    have hin : (s.runClass || decide (s.mode = mBlocking)) = true := by simpa using hmode
    rw [exec_npTxPacket, execNpTxPacket, hin, hborder, hdown, hresync, hport, hclk]
    rfl
  · intro r p hhold
    rw [exec_npTxPacket, execNpTxPacket, if_pos rfl, if_pos hhold]
  · intro n port w u hruns hboot hhead
    have hexec := next_routerHop (u := u) rfl hruns hboot hhead
    clear_value u
    dsimp only at hexec ⊢
    refine ⟨fun hreset => ?_, fun hst htyp => ?_, fun hst htyp hport => ?_, fun o hst htyp hport => ⟨fun hoff => ?_, fun hon ho => ?_,
      fun hon ho m ip hnext => ?_⟩⟩
    · rw [hexec, if_pos hreset]
    · rw [hexec, if_neg (Nat.not_le.2 hst), if_pos htyp]
    · rw [hexec, if_neg (Nat.not_le.2 hst), if_neg (Nat.not_le.2 htyp), hport]
    · rw [hexec, if_neg (Nat.not_le.2 hst), if_neg (Nat.not_le.2 htyp), hport]
      simp only [hoff, Bool.not_false, if_true]
    · rw [hexec, if_neg (Nat.not_le.2 hst), if_neg (Nat.not_le.2 htyp), hport]
      subst ho
      simp only [hon, Bool.not_true, Bool.false_eq_true, if_false, if_true]
      cases ejects n w.tgt
      · rfl
      · cases doored w.tgt <;> rfl
    · rw [hexec, if_neg (Nat.not_le.2 hst), if_neg (Nat.not_le.2 htyp), hport]
      simp only [hon, Bool.not_true, Bool.false_eq_true, if_false, ho, hnext]
      split <;> rfl
  · exact fun n port => next_wormAge
  · intro e p rest hresp
    refine ⟨fun q hq => ?_, fun hnone => ?_⟩
    · rw [next_nocResponseRx hresp, hq]
      rfl
    · rw [next_nocResponseRx hresp, hnone]
  · intro e q seq l hruns hto hq
    exact ⟨next_txnTimeout hruns hto hq, fun p hp => next_txnTimeout_late hruns hto hq hp⟩
  · intro r p hhead hfirst
    rw [exec_npRxStall, execNpRxStall, hhead]
    exact if_pos hfirst
  · intro r p hhead hborder hdown hresync hport
    rw [next_nocPortRxFlit hhead hborder hdown hresync hport]
    dsimp only
    split <;> rfl
  · intro e p l hup hdoor
    refine ⟨fun hawake => ?_, fun hasleep => ?_⟩
    · rw [next_doorPacketArrival hup hdoor, hawake]
      rfl
    · rw [next_doorPacketArrival hup hdoor, hasleep]
      dsimp only
      rw [if_pos rfl]
      split <;> rfl
  · intro n hst hclk
    refine ⟨?_, ?_, ?_⟩
    · rw [exec_routerDrainEnd, execRouterDrainEnd, if_pos ⟨hst, hclk⟩]
    · rw [exec_routerDrainTimeout, execRouterDrainTimeout, if_pos ⟨hst, hclk⟩, if_pos rfl]
    · rw [exec_routerDrainTimeout, execRouterDrainTimeout, if_pos ⟨hst, hclk⟩, if_neg (by decide)]
  · intro q hq
    rw [exec_meshResetDrainEnd, execMeshResetDrainEnd, if_neg (by rw [hq]; decide)]
  · intro hup
    rw [exec_rtAccGo, execRtAccGo, if_pos hup]
  · intro n hup hst
    rw [exec_rtrCfgApply, execRtrCfgApply, hup, hst]
    rfl

end Sys2Proof.Machine
end

section
/-! PROOFS. The timing channel, the alignment of a child and Twin pairs (R389–R400). -/

namespace Sys2Proof.Machine

variable {s t u : State}

/-! ## What the timing channel leaves alone -/

/-- `t` differs from `s` in its links alone, and there not in what the neighbours announced. -/
structure TreeKept (s t : State) : Prop where
  rest : t = { s with link := t.link }
  heard : ∀ k, (t.bdl k).heard = (s.bdl k).heard
  stable : t.link.stable = s.link.stable

theorem TreeKept.refl : TreeKept s s := ⟨rfl, fun _ => rfl, rfl⟩

theorem TreeKept.trans (h : TreeKept s t) (h' : TreeKept t u) : TreeKept s u := by
  refine ⟨?_, fun k => (h'.heard k).trans (h.heard k), h'.stable.trans h.stable⟩
  rw [h'.rest, h.rest]

theorem TreeKept.forEach {α : Type} {f : α → State → State} (l : List α) (s : State) (hf : ∀ a u, TreeKept u (f a u)) :
    TreeKept s (Machine.forEach l f s) :=
  forEach_ind (TreeKept s) f l s .refl fun a u h => h.trans (hf a u)

/-- A change of one bundle that leaves what its neighbour announced. -/
theorem TreeKept.modBdl {k : Nat} {g : Bundle → Bundle} (hg : ∀ b, (g b).heard = b.heard) (s : State) : TreeKept s (s.modBdl k g) := by
  refine ⟨rfl, fun j => ?_, rfl⟩
  by_cases hj : j = k
  · rw [hj, State.bdl_modBdl_same, hg]
  · rw [State.bdl_modBdl_ne s g hj]

theorem TreeKept.queueTiming (k code v : Nat) (s : State) : TreeKept s (queueTiming k code v s) :=
  .modBdl (g := fun b => { b with timing := b.timing ++ [(code, v)] }) (fun _ => rfl) s

/-- `t` is like that, and keeps bundle `l` as well. -/
structure TimingKept (l : Nat) (s t : State) : Prop where
  tree : TreeKept s t
  bundle : t.bdl l = s.bdl l

theorem TimingKept.refl {l : Nat} : TimingKept l s s := ⟨.refl, rfl⟩

theorem TimingKept.trans {l : Nat} (h : TimingKept l s t) (h' : TimingKept l t u) : TimingKept l s u :=
  ⟨h.tree.trans h'.tree, h'.bundle.trans h.bundle⟩

theorem queueTiming_bdl (f code v : Nat) (s : State) :
    (queueTiming f code v s).bdl f = { s.bdl f with timing := (s.bdl f).timing ++ [(code, v)] } := State.bdl_modBdl_same _ _ _

theorem TimingKept.queueTiming {l k : Nat} (hk : l ≠ k) (code v : Nat) (s : State) : TimingKept l s (queueTiming k code v s) :=
  ⟨.queueTiming k code v s, State.bdl_modBdl_ne s _ hk⟩

theorem timingLinks_nodup (s : State) : s.timingLinks.Nodup := List.nodup_range.filter _

theorem TreeKept.timingLinks (h : TreeKept s t) : t.timingLinks = s.timingLinks := by
  rw [h.rest]
  rfl

/-- A sweep over the timing links has one step on link `l`. -/
theorem sweep_bdl {l : Nat} {f : Nat → State → State} (hl : l ∈ s.timingLinks) (hf : ∀ k u, l ≠ k → TimingKept l u (f k u)) :
    ∃ u, TimingKept l s u ∧ TimingKept l (f l u) (forEach s.timingLinks f s) :=
  forEach_at s (fun _ => .refl) (fun _ _ _ h h' => h.trans h') hl (timingLinks_nodup s) fun k _ hk u => hf k u (Ne.symm hk)

/-! ## Announcements -/

/-- The announcement that a timing link carries, of crown `c` (Table 12-3). -/
def State.announcement (s : State) (c : Nat × Nat) (l : Nat) : Nat :=
  s.get R.SYNC_STAT.HOPS + 2 ^ 5 * c.1 + 2 ^ 13 * c.2 + 2 ^ 33 * (s.synth (sideDomain l)).n + 2 ^ 40 * s.get (R.LANE_CFG.KDIV l)
    + 2 ^ 42 * (if s.crownHold then 1 else 0)

/-- One more period of silence. -/
def oneSilent (b : Bundle) : Bundle := { b with silent := b.silent + 1 }

/-- One timing link announces crown `c`. -/
def announceOn (c : Nat × Nat) (l : Nat) (s : State) : State :=
  queueTiming l 0 (s.announcement c l) (s.modBdl l oneSilent)

theorem TreeKept.announcement (h : TreeKept s t) (c : Nat × Nat) (l : Nat) : t.announcement c l = s.announcement c l := by
  have hget (f : Fld) : t.get f = s.get f := by rw [h.rest]; rfl
  have hsynth (d : Nat) : t.synth d = s.synth d := by rw [h.rest]; rfl
  have hhold : t.hold = s.hold := by rw [h.rest]; rfl
  have hcrown : t.crownHold = s.crownHold := by
    unfold State.crownHold
    rw [hget, hhold]
    split
    · rfl
    · rw [h.heard]
  simp only [State.announcement, hcrown, hget, hsynth]

theorem announceOn_bdl (c : Nat × Nat) (l : Nat) (s : State) :
    (announceOn c l s).bdl l = { s.bdl l with
      silent := (s.bdl l).silent + 1
      timing := (s.bdl l).timing ++ [(0, s.announcement c l)] } := by
  rw [announceOn, queueTiming_bdl, State.bdl_modBdl_same]
  rfl

theorem announceOn_tree (c : Nat × Nat) (k : Nat) (s : State) : TreeKept s (announceOn c k s) :=
  (TreeKept.modBdl (g := oneSilent) (fun _ => rfl) s).trans (.queueTiming _ _ _ _)

theorem announceOn_kept {c : Nat × Nat} {l k : Nat} (hk : l ≠ k) (s : State) : TimingKept l s (announceOn c k s) :=
  ⟨announceOn_tree c k s, (State.bdl_modBdl_ne _ _ hk).trans (State.bdl_modBdl_ne s _ hk)⟩

/-- A crown whose choice has just become stable says so on every timing link (R393). -/
def sayAligned (s : State) : State :=
  applyIf (decide (s.get R.SYNC_STAT.STATE = 4) && s.link.stable == 8)
    (fun s => forEach s.timingLinks (fun l => queueTiming l 6 32) s) s

theorem sayAligned_tree (s : State) : TreeKept s (sayAligned s) := by
  unfold sayAligned applyIf
  split
  · exact .forEach _ _ fun k u => .queueTiming k 6 32 u
  · exact .refl

theorem sayAligned_bdl {l : Nat} (hl : l ∈ s.timingLinks) : (sayAligned s).bdl l = { s.bdl l with
    timing := (s.bdl l).timing ++ if s.get R.SYNC_STAT.STATE = 4 ∧ s.link.stable = 8 then [(6, 32)] else [] } := by
  unfold sayAligned applyIf
  by_cases hsay : s.get R.SYNC_STAT.STATE = 4 ∧ s.link.stable = 8
  · obtain ⟨u, hu, hend⟩ := sweep_bdl (f := fun l => queueTiming l 6 32) hl fun k u hk => .queueTiming hk 6 32 u
    rw [if_pos (by simpa using hsay), if_pos hsay, hend.bundle, queueTiming_bdl, hu.bundle]
  · rw [if_neg (by simpa using hsay), if_neg hsay, List.append_nil]

/-- The state after an announcement: the crown known, or this device, goes out on every timing link (R389). -/
def announced (s : State) : State :=
  let u := sayAligned (s.modLink fun k => { k with stable := k.stable + 1 })
  forEach u.timingLinks (announceOn (s.link.crown.getD (s.prio, s.devId))) u

theorem next_announceTx (hup : s.up = true) : exec .announceTx s = .next (announced s) := by
  rw [exec_announceTx, execAnnounceTx, if_neg (by rw [hup]; decide)]
  rfl

theorem announced_stable (s : State) : (announced s).link.stable = s.link.stable + 1 :=
  ((sayAligned_tree _).trans (.forEach _ _ fun k u => announceOn_tree _ k u)).stable

theorem announced_bdl {l : Nat} (hl : l ∈ s.timingLinks) : (announced s).bdl l = { s.bdl l with
    silent := (s.bdl l).silent + 1
    timing := (s.bdl l).timing ++ (if s.get R.SYNC_STAT.STATE = 4 ∧ s.link.stable = 7 then [(6, 32)] else []) ++
      [(0, s.announcement (s.link.crown.getD (s.prio, s.devId)) l)] } := by
  have hsaid : (sayAligned (s.modLink fun k => { k with stable := k.stable + 1 })).bdl l = { s.bdl l with
      timing := (s.bdl l).timing ++ if s.get R.SYNC_STAT.STATE = 4 ∧ s.link.stable + 1 = 8 then [(6, 32)] else [] } :=
    sayAligned_bdl hl
  have hseven : s.link.stable + 1 = 8 ↔ s.link.stable = 7 := by omega
  rw [if_congr (and_congr_right fun _ => hseven) rfl rfl] at hsaid
  have htree := sayAligned_tree (s.modLink fun k => { k with stable := k.stable + 1 })
  unfold announced
  generalize sayAligned (s.modLink fun k => { k with stable := k.stable + 1 }) = v at hsaid htree
  have hlv : l ∈ v.timingLinks := by rw [htree.timingLinks]; exact hl
  obtain ⟨u, hu, hend⟩ := sweep_bdl (f := announceOn (s.link.crown.getD (s.prio, s.devId))) hlv
    fun k u hk => announceOn_kept hk u
  have hval : u.announcement (s.link.crown.getD (s.prio, s.devId)) l = s.announcement (s.link.crown.getD (s.prio, s.devId)) l :=
    (htree.trans hu.tree).announcement _ l
  dsimp only
  rw [hend.bundle, announceOn_bdl, hu.bundle, hsaid, hval]

/-! ## What a neighbour says -/

section

variable {l : Fin 96} (hlink : s.timingLinks.contains (s.bundleOf l) = true) (hopen : s.streamOpen (s.bundleOf l) = true)
include hlink hopen

theorem next_announceRx {a : Announce} (hu : (s.modBdl (s.bundleOf l) fun b => { b with heard := some a, silent := 0 }) = u) :
    exec (.announceRx l a) s =
      if u.runClass then
        if betterCrown (a.prio, a.crown) (u.link.crown.getD (255, 0xFFFFF)) then .next (raise 0x0510 [(1, a.prio), (3, a.crown)] u)
        else .next u
      else
        let v := adoptMK (s.bundleOf l) a (elect u)
        if v.flag R.STRAP_LATCH.MCLK_SRC && v.get R.SYNC_STAT.PARENT != 0x7F then
          .next (v.modLink fun k => { k with mclkLane := v.get R.SYNC_STAT.PARENT })
        else .next v := by
  subst hu
  rw [exec_announceRx, execAnnounceRx, if_neg (by rw [hlink, hopen]; decide)]

theorem next_measRx {m f o : Nat}
    (hu : (s.modBdl (s.bundleOf l) fun b => { b with farMeas := some (m, f), ownFine := o }) = u) :
    exec (.measRx l m f o true) s =
      if s.get R.SYNC_STAT.STATE = 3 ∧ s.get R.SYNC_STAT.PARENT = s.bundleOf l then
        .next (u.set R.SYNC_STAT.RESID (satByte ((u.offset (s.bundleOf l)).getD 0)))
      else .next u := by
  subst hu
  rw [exec_measRx, execMeasRx, if_neg (by rw [hlink, hopen]; decide)]
  rfl

theorem next_alignedRx {h : Nat} {on : Bool} (hu : (s.modBdl (s.bundleOf l) fun b => { b with aligned := on }) = u) :
    exec (.alignedRx l h on) s =
      if on && s.get R.SYNC_STAT.PARENT == s.bundleOf l && s.link.align.isNone && s.link.alignDue && !s.runClass && decide (h ≤ 24) then
        .next ((u.modLink fun k => { k with align := some [], tries := 0, alignDue := false }).set R.SYNC_STAT.STATE 2)
      else .next u := by
  subst hu
  rw [exec_alignedRx, execAlignedRx, if_neg (by rw [hlink, hopen]; decide)]
  rfl

end

theorem next_parentTimeout (hparent : s.get R.SYNC_STAT.PARENT ≠ 0x7F) (hsilent : 8 ≤ (s.bdl (s.get R.SYNC_STAT.PARENT)).silent)
    (hu : (s.modBdl (s.get R.SYNC_STAT.PARENT) fun b => { b with heard := none, aligned := false }) = u) :
    exec .parentTimeout s =
      if s.runClass then
        if s.flag R.STRAP_LATCH.MCLK_SRC && s.clk.lockMeas.isSome && !s.hold then .next (loseMclk u) else .next u
      else .next (elect u) := by
  have hgo : ¬ (s.get R.SYNC_STAT.PARENT = 0x7F ∨ (s.bdl (s.get R.SYNC_STAT.PARENT)).silent < 8) := by omega
  subst hu
  rw [exec_parentTimeout, execParentTimeout, if_neg hgo]
  rfl

/-! ## Alignment -/

/-- A lane of the tree passes Align again (R392). -/
def realign (l : Nat) (s : State) : State :=
  (setLane l lsAlign (s.set (R.LINK_STAT.LINK_UP (s.bundleOf l)) 0)).modLane l fun b =>
    { b with alignRx := 0, alignTx := false, slips := 0, slipCmd := 0, flSet := true }

/-- `t` has the alignment, the clocks and the synchronisation state of `s`. -/
structure AlignKept (s t : State) : Prop where
  link : t.link = s.link
  clk : t.clk = s.clk
  state : t.get R.SYNC_STAT.STATE = s.get R.SYNC_STAT.STATE

theorem bundleOf_le (s : State) (l : Nat) : s.bundleOf l ≤ l := by
  unfold State.bundleOf
  split
  · omega
  · split <;> omega

theorem realign_kept {l : Nat} (hl : l < 96) (s : State) : AlignKept s (realign l s) := by
  refine ⟨rfl, rfl, ?_⟩
  have hle := bundleOf_le s l
  have hlane : R.SYNC_STAT.STATE.key ≠ (R.LANE_STAT.STATE l).key := by
    simp only [Fld.key, R.SYNC_STAT.STATE, R.LANE_STAT.STATE]; omega
  have hlink : R.SYNC_STAT.STATE.key ≠ (R.LINK_STAT.LINK_UP (s.bundleOf l)).key := by
    simp only [Fld.key, R.SYNC_STAT.STATE, R.LINK_STAT.LINK_UP]; omega
  show ((s.set (R.LINK_STAT.LINK_UP (s.bundleOf l)) 0).set (R.LANE_STAT.STATE l) lsAlign).get R.SYNC_STAT.STATE = _
  rw [State.get_set_ne _ _ hlane, State.get_set_ne s _ hlink]

theorem realign_sweep (p : Nat → Bool) (s : State) : AlignKept s (forEach ((List.range 96).filter p) realign s) := by
  refine forEach_mem_ind (P := AlignKept s) _ s ⟨rfl, rfl, rfl⟩ fun l hl u h => ?_
  have hk := realign_kept (List.mem_range.1 (List.mem_of_mem_filter hl)) u
  exact ⟨hk.link.trans h.link, hk.clk.trans h.clk, hk.state.trans h.state⟩

/-- Whole ticks in offset `d` (R392, R394). -/
def State.alignTicks (s : State) (d : Int) : Int :=
  let w : Int := s.tickSteps (s.get R.SYNC_STAT.PARENT)
  if w = 0 then 0 else (d + (if (!s.flag R.STRAP_LATCH.MCLK_SRC) = true then w / 2 else 0)) / w

/-- The offset is as small as an alignment makes it. -/
def State.alignDone (s : State) (d : Int) : Prop :=
  (-2 ≤ d ∧ d ≤ 2) ∨ ((!s.flag R.STRAP_LATCH.MCLK_SRC) = true ∧ s.alignTicks d = 0)

/-- One application of −Δ, before the lanes pass Align again (R392). -/
def alignStep (p : Nat) (d : Int) (s : State) : State :=
  let w : Int := s.tickSteps (s.get R.SYNC_STAT.PARENT)
  let u := applyIf (s.alignTicks d != 0) (fun u => u.addLoad ((p + 1) % tickMod) ((s.clk.tick + 1) % tickMod)) s
  let u := { u with clk := { u.clk with
    phase := u.clk.phase + (if (!s.flag R.STRAP_LATCH.MCLK_SRC) = true then 0 else d - s.alignTicks d * w) } }
  (u.modLink fun k => { k with tries := k.tries + 1, delta := d }).set R.SYNC_STAT.STATE 2

/-- The lanes whose alignment a new phase breaks. -/
def State.realigned (s : State) : List Nat := (List.range 96).filter fun l => s.laneState l == lsUp && s.fixedMode l

section

variable {p : Nat} {d : Int} (halign : s.link.align ≠ none) (hparent : s.get R.SYNC_STAT.PARENT ≠ 0x7F)
  (haligned : (s.bdl (s.get R.SYNC_STAT.PARENT)).aligned = true) (hoff : s.offset (s.get R.SYNC_STAT.PARENT) = some d)
include halign hparent haligned hoff

theorem next_syncAlignStep [Decidable (s.alignDone d)] : exec (.syncAlignStep p d) s =
    if s.alignDone d then .next (endAlign 3 stOk d s)
    else if 4 ≤ s.link.tries then .next (endAlign 7 stTimeout d s)
    else .next (forEach (alignStep p d s).realigned realign (alignStep p d s)) := by
  have hgo : ¬ (s.link.align = none ∨ s.get R.SYNC_STAT.PARENT = 0x7F ∨ (!(s.bdl (s.get R.SYNC_STAT.PARENT)).aligned) = true) := by
    simp [halign, hparent, haligned]
  have hsame : ¬ s.offset (s.get R.SYNC_STAT.PARENT) ≠ some d := fun h => h hoff
  have hdone : (decide (-2 ≤ d) && decide (d ≤ 2) || (!s.flag R.STRAP_LATCH.MCLK_SRC && s.alignTicks d == 0)) = true ↔
      s.alignDone d := by
    simp [State.alignDone]
  rw [exec_syncAlignStep, execSyncAlignStep, if_neg hgo, if_neg hsame]
  by_cases h : s.alignDone d
  · rw [if_pos h]
    exact if_pos (hdone.2 h)
  · rw [if_neg h]
    refine (if_neg fun h' => h (hdone.1 h')).trans ?_
    split <;> rfl

end

theorem alignStep_facts (p : Nat) (d : Int) (s : State) :
    (alignStep p d s).link.tries = s.link.tries + 1 ∧ (alignStep p d s).link.delta = d ∧
      (alignStep p d s).get R.SYNC_STAT.STATE = 2 ∧
      (alignStep p d s).clk.phase = s.clk.phase + (if (!s.flag R.STRAP_LATCH.MCLK_SRC) = true then 0
        else d - s.alignTicks d * (s.tickSteps (s.get R.SYNC_STAT.PARENT) : Int)) ∧
      (s.alignTicks d ≠ 0 → ((p + 1) % tickMod, (s.clk.tick + 1) % tickMod) ∈ (alignStep p d s).clk.loads) := by
  unfold alignStep applyIf
  by_cases hticks : s.alignTicks d = 0
  · rw [if_neg (by simp [hticks])]
    exact ⟨rfl, rfl, State.get_set_same _ _ _, rfl, fun h => absurd hticks h⟩
  · rw [if_pos (by simp [hticks])]
    exact ⟨rfl, rfl, State.get_set_same _ _ _, rfl, fun _ => List.mem_append_right _ (List.mem_singleton.2 rfl)⟩

/-! ## Twin pairs -/

theorem next_pairGoRx {tick : Nat} (hready : s.pairReady = true) (hopen : s.streamOpen 92 = true)
    (htwin : s.get R.STRAP_LATCH.TWIN = 2) : exec (.pairGoRx tick) s =
      .next (queueTiming 92 5 tick (s.modLink fun k => { k with start := some (tick % tickMod), pairId := k.farDev })) := by
  rw [exec_pairGoRx, execPairGoRx, if_pos (by simp [hready, hopen, htwin])]

/-- The pair is formed (R397). -/
def paired (s : State) : State :=
  let s := s.modLink fun k => { k with start := none }
  let s := ((s.set R.DEV_MODE.COND_TWIN 1).set R.DEV_MODE.TWIN_ALONE 0).set R.TWIN_STAT.PAIRED 1
  let s := { s with integ := { s.integ with pairTotal := s.get R.ESS_TOTAL.TOTAL } }
  commitMode s.topMode { s with aon := { s.aon with pairWait := false } }

theorem paired_shown (s : State) : (paired s).link.start = none ∧ (paired s).flag R.DEV_MODE.COND_TWIN = true ∧
    (paired s).flag R.TWIN_STAT.PAIRED = true := by
  refine ⟨?_, ?_, ?_⟩
  · rw [paired, commitMode_link]
    rfl
  · rw [State.flag, paired, commitMode_get _ _ _ (by decide) (by decide) (by decide) (by decide)]
    show ((((s.modLink fun k => { k with start := none }).set R.DEV_MODE.COND_TWIN 1).set R.DEV_MODE.TWIN_ALONE 0).set
      R.TWIN_STAT.PAIRED 1).get R.DEV_MODE.COND_TWIN != 0
    rw [State.get_set_ne _ _ (by decide), State.get_set_ne _ _ (by decide), State.get_set_same]
    rfl
  · rw [State.flag, paired, commitMode_get _ _ _ (by decide) (by decide) (by decide) (by decide)]
    show ((((s.modLink fun k => { k with start := none }).set R.DEV_MODE.COND_TWIN 1).set R.DEV_MODE.TWIN_ALONE 0).set
      R.TWIN_STAT.PAIRED 1).get R.TWIN_STAT.PAIRED != 0
    rw [State.get_set_same]
    rfl

theorem next_pairStartTick (hstart : s.link.start = some s.clk.tick) : exec .pairStartTick s =
    .next (if s.pairing = true ∧ s.flag (R.LINK_STAT.LINK_UP 92) = true then paired s
      else s.modLink fun k => { k with start := none }) := by
  rw [exec_pairStartTick, execPairStartTick, if_neg (not_not_intro hstart)]
  show (if (!s.pairing || !s.flag (R.LINK_STAT.LINK_UP 92)) = true then
    Host.Outcome.next (s.modLink fun k => { k with start := none }) else Host.Outcome.next (paired s)) = _
  cases s.pairing
  · rfl
  · cases s.flag (R.LINK_STAT.LINK_UP 92) <;> rfl

theorem closeWords_clk (s : State) : (closeWords s).clk = s.clk ∧ (closeWords s).regs = s.regs := by
  unfold closeWords
  split <;> exact ⟨rfl, rfl⟩

/-- The digest of the tick before goes out on bundle 92 (R398). -/
theorem next_digestTx (htwin : s.flag R.DEV_MODE.COND_TWIN = true) (hup : s.flag (R.LINK_STAT.LINK_UP 92) = true) :
    ∃ t, exec .digestTx s = .next t ∧
      let tick := (s.clk.tick + (tickMod - 1)) % tickMod
      (t.bdl 92).digest = some (tick % 65536, at' (closeWords s).link.digests tick (digestOf [])) ∧ t.regs = s.regs := by
  obtain ⟨hclk, hregs⟩ := closeWords_clk s
  have hexec : exec .digestTx s = _ := (exec_digestTx s).trans (if_neg (by rw [htwin, hup]; decide))
  refine ⟨_, hexec, ?_, hregs⟩
  rw [State.bdl_modBdl_same, hclk]

/-- A digest that differs shows a divergence (R398). -/
def diverged (t : Nat) (s : State) : State :=
  raise 0x0413 [(6, t)] (((s.modLink fun k => { k with lastDiv := t }).set R.TWIN_STAT.DIVERGE 1).inc R.TWIN_STAT.DIV_CNT)

theorem diverged_get (t : Nat) (s : State) {f : Fld} (hplain : f.Plain) (hdiv : f.key ≠ R.TWIN_STAT.DIVERGE.key)
    (hcnt : f.key ≠ R.TWIN_STAT.DIV_CNT.key) : (diverged t s).get f = s.get f := by
  rw [diverged, raise_get _ _ _ _ hplain, State.inc, State.addSat, State.get_set_ne _ _ hcnt, State.get_set_ne _ _ hdiv]
  rfl

section

variable {t16 t d : Nat} {g : BitVec 32} (htwin : s.flag R.DEV_MODE.COND_TWIN = true) (hopen : s.streamOpen 92 = true)
  (hfind : (s.link.digests.find? fun e => e.1 % 65536 == t16) = some (t, d))
include htwin hopen hfind

theorem next_digestRx : exec (.digestRx t16 g) s =
    if d = g.toNat then .next s
    else if (diverged t s).flag R.TWIN_STAT.POLICY && decide ((diverged t s).get R.ESS_TOTAL.TOTAL ≠ (diverged t s).integ.pairTotal) then
      if (diverged t s).freeBit then .next (diverged t s).useFree
      else .next (enterSafe 9 ((diverged t s).useFree.set R.TWIN_STAT.SILENCED 1))
    else .next (diverged t s) := by
  rw [exec_digestRx, execDigestRx, if_neg (by rw [htwin, hopen]; decide), hfind]
  rfl

theorem next_digestRx_diverged (hne : d ≠ g.toNat) : exec (.digestRx t16 g) s =
    .next (if s.flag R.TWIN_STAT.POLICY = true ∧ s.get R.ESS_TOTAL.TOTAL ≠ s.integ.pairTotal then
      (if s.freeBit then (diverged t s).useFree else enterSafe 9 ((diverged t s).useFree.set R.TWIN_STAT.SILENCED 1))
      else diverged t s) := by
  have hpolicy : (diverged t s).flag R.TWIN_STAT.POLICY = s.flag R.TWIN_STAT.POLICY :=
    congrArg (· != 0) (diverged_get t s (by decide) (by decide) (by decide))
  have htotal : (diverged t s).get R.ESS_TOTAL.TOTAL = s.get R.ESS_TOTAL.TOTAL :=
    diverged_get t s (by decide) (by decide) (by decide)
  have hpair : (diverged t s).integ.pairTotal = s.integ.pairTotal := by rw [diverged, raise_integ]; rfl
  have hfree : (diverged t s).freeBit = s.freeBit := by
    have h : (diverged t s).free = s.free := by rw [diverged, raise_free]; rfl
    unfold State.freeBit
    rw [h]
  rw [next_digestRx htwin hopen hfind, if_neg hne, hpolicy, htotal, hpair, hfree]
  by_cases h : s.flag R.TWIN_STAT.POLICY = true ∧ s.get R.ESS_TOTAL.TOTAL ≠ s.integ.pairTotal
  · rw [if_pos h, if_pos (by simp [h.1, h.2])]
    split <;> rfl
  · rw [if_neg h, if_neg (by simpa using h)]

end

/-- A missing digest leaves this device alone (R400). -/
def alone (s : State) : State :=
  raise 0x0414 [] (((((s.set R.DEV_MODE.COND_TWIN 0).set R.DEV_MODE.TWIN_ALONE 1).set R.TWIN_STAT.LOST 1)).set R.TWIN_STAT.PAIRED 0)

theorem refreshMode_get (s : State) {f : Fld} (h : f.Plain) (hprev : f.key ≠ R.DEV_MODE.PREV_MODE.key)
    (hmode : f.key ≠ R.DEV_MODE.MODE.key) (hchg : f.key ≠ R.DEV_MODE.MODE_CHG.key) : (refreshMode s).get f = s.get f := by
  unfold refreshMode
  split
  · exact commitMode_get _ _ _ h hprev hmode hchg
  · rfl

theorem sendPairId_get (s : State) (f : Fld) : (sendPairId s).get f = s.get f := by
  unfold sendPairId
  split <;> rfl

theorem next_digestMissing (htwin : s.flag R.DEV_MODE.COND_TWIN = true) :
    exec .digestMissing s = .next (sendPairId (refreshMode (alone s))) := by
  rw [exec_digestMissing, execDigestMissing, if_neg (by rw [htwin]; decide)]
  rfl

theorem digestMissing_get (s : State) {f : Fld} (h : f.Plain) (hprev : f.key ≠ R.DEV_MODE.PREV_MODE.key)
    (hmode : f.key ≠ R.DEV_MODE.MODE.key) (hchg : f.key ≠ R.DEV_MODE.MODE_CHG.key) :
    (sendPairId (refreshMode (alone s))).get f =
      (((((s.set R.DEV_MODE.COND_TWIN 0).set R.DEV_MODE.TWIN_ALONE 1).set R.TWIN_STAT.LOST 1)).set R.TWIN_STAT.PAIRED 0).get f := by
  rw [sendPairId_get, refreshMode_get _ h hprev hmode hchg, alone, raise_get _ _ _ _ h]

/-- Settles O40. -/
theorem timingAndTwinEventsComplete : Obligations.TimingAndTwinEventsComplete := by
  unfold Obligations.TimingAndTwinEventsComplete
  intro s parent
  refine ⟨?_, ?_, ?_, ?_, ?_, ?_, ?_, ?_, ?_, ?_, ?_, ?_⟩
  · intro hup
    refine ⟨_, next_announceTx hup, announced_stable s, fun l hl => ?_⟩
    rw [announced_bdl hl]
    exact ⟨rfl, rfl⟩
  · intro l a hlink hopen u
    have hexec := next_announceRx (u := u) hlink hopen rfl
    have hrunu : u.runClass = s.runClass := rfl
    have hcrown : u.link.crown = s.link.crown := rfl
    rw [hrunu, hcrown] at hexec
    clear_value u
    refine ⟨fun hrun => ?_, fun hrun => ?_⟩
    · rw [hexec, if_pos hrun]
      split <;> rfl
    · rw [hexec, if_neg (by rw [hrun]; decide)]
      dsimp only
      simp only [Bool.and_eq_true, bne_iff_ne, ne_eq]
      split <;> rfl
  · intro hparent hsilent u
    have hexec := next_parentTimeout (u := u) hparent hsilent rfl
    clear_value u
    rw [hexec]
    cases s.runClass
    · rfl
    · simp only [Bool.and_eq_true, Bool.not_eq_true', and_assoc, if_true, Bool.true_eq_false, if_false]
      split <;> rfl
  · intro l m f o hlink hopen u
    have hexec := next_measRx (u := u) hlink hopen rfl
    clear_value u
    rw [hexec]
    split <;> rfl
  · intro p d halign hparent haligned hoff w follower ticks done
    classical
    have hexec := next_syncAlignStep (p := p) halign hparent haligned hoff
    refine ⟨fun hdone => hexec.trans (if_pos hdone), fun hdone htries => ?_, fun hdone htries => ?_⟩
    · exact hexec.trans ((if_neg hdone).trans (if_pos htries))
    · have hsweep := realign_sweep (fun l => (alignStep p d s).laneState l == lsUp && (alignStep p d s).fixedMode l) (alignStep p d s)
      obtain ⟨htry, hdelta, hstate, hphase, hloads⟩ := alignStep_facts p d s
      refine ⟨_, hexec.trans ((if_neg hdone).trans (if_neg (Nat.not_le.2 htries))), hsweep.state.trans hstate, ?_, ?_, ?_, ?_⟩
      · exact (congrArg Link.tries hsweep.link).trans htry
      · exact (congrArg Link.delta hsweep.link).trans hdelta
      · exact (congrArg Clk.phase hsweep.clk).trans hphase
      · intro hticks
        rw [State.realigned, hsweep.clk]
        exact hloads hticks
  · intro l h on hlink hopen u
    have hexec := next_alignedRx (h := h) (u := u) hlink hopen rfl
    clear_value u
    rw [hexec]
    simp only [Bool.and_eq_true, Bool.not_eq_true', and_assoc, beq_iff_eq, Option.isNone_iff_eq_none, decide_eq_true_eq]
    split <;> rfl
  · intro id hopen
    rw [exec_pairIdRx, execPairIdRx, if_neg (by rw [hopen]; decide)]
  · intro tick hready hopen htwin
    exact ⟨_, next_pairGoRx hready hopen htwin, rfl, rfl, congrArg Bundle.timing (queueTiming_bdl 92 5 tick _)⟩
  · intro hstart
    refine ⟨_, next_pairStartTick hstart, ?_, fun hpair hup => ?_⟩
    · split
      · exact (paired_shown s).1
      · rfl
    · rw [if_pos ⟨hpair, hup⟩]
      exact (paired_shown s).2
  · exact next_digestTx
  · intro t16 t d g htwin hopen hfind
    exact ⟨fun heq => (next_digestRx htwin hopen hfind).trans (if_pos heq), next_digestRx_diverged htwin hopen hfind⟩
  · intro htwin
    refine ⟨_, next_digestMissing htwin, ?_, ?_, ?_⟩
    · rw [State.flag, digestMissing_get s (by decide) (by decide) (by decide) (by decide), State.get_set_ne _ _ (by decide),
        State.get_set_ne _ _ (by decide), State.get_set_ne _ _ (by decide), State.get_set_same]
      rfl
    · rw [State.flag, digestMissing_get s (by decide) (by decide) (by decide) (by decide), State.get_set_ne _ _ (by decide),
        State.get_set_ne _ _ (by decide), State.get_set_same]
      rfl
    · rw [State.flag, digestMissing_get s (by decide) (by decide) (by decide) (by decide), State.get_set_ne _ _ (by decide),
        State.get_set_same]
      rfl

end Sys2Proof.Machine
end

section
/-! PROOFS. Trigger and packet channels of a link, and the bridges (R371–R387, R402). -/

namespace Sys2Proof.Machine

variable {s t u : State}

theorem State.trg_modTrg_same (s : State) (l : Nat) (g : TrgPort → TrgPort) : (s.modTrg l g).trg l = g (s.trg l) :=
  at'_putD_same _ _ _ _

/-! ## Tick markers -/

/-- A marker is taken: the check over its interval is judged, and the port shows the tick (R373). -/
def takeMarker (l tick crc skew : Nat) (hold : Bool) (s : State) : State :=
  let s := recvBlock l (markerPayload hold tick crc) s
  let s := applyIf (decide (16 < skew)) (fun s =>
    (s.set (R.LINK_STAT.SKEW_ERR (s.bundleOf l)) 1).modBdl (s.bundleOf l) fun b => { b with skewHold := true }) s
  let bad := tcrc (s.trg l).rxIv != crc
  let s := applyIf bad (fun s => s.inc (R.LINK_STAT.TRG_ERR l)) s
  s.modTrg l fun p => { p with rtick := tick, rbad := bad, rhold := hold, rxIv := [], rmark := true, rslot := 0 }

/-- A marker that does not carry the tick it must is reported. -/
def markerMissed (l tick : Nat) (s : State) : State :=
  let u := applyIf (decide (92 ≤ l)) (fun s => s.modLink fun k => { k with lastMis := some s.clk.tick }) s
  raise 0x0410 [(1, l), (6, tick), (6, u.markTick l)] (u.set (R.LINK_STAT.TICK_MIS l) 1)

theorem next_tickMarkerRx {x : Fin 96} {tick crc skew : Nat} {hold : Bool} (hup : s.laneState (s.delivers x) = lsUp)
    (hbase : s.baseR (s.delivers x) = false) (hu : takeMarker (s.delivers x) tick crc skew hold s = u) :
    exec (.tickMarkerRx x tick hold crc skew) s =
      if u.fixedMode (s.delivers x) = true ∧ tick ≠ u.markTick (s.delivers x) then .next (markerMissed (s.delivers x) tick u)
      else .next (applyIf (decide (92 ≤ s.delivers x)) tryPair u) := by
  have hgo : ¬ (s.laneState (s.delivers x) ≠ lsUp ∨ s.baseR (s.delivers x) = true) := by simp [hup, hbase]
  subst hu
  rw [exec_tickMarkerRx, execTickMarkerRx, if_neg hgo]
  rfl

theorem delivers_lt (s : State) {x : Nat} (hx : x < 96) : s.delivers x < 96 := by
  unfold State.delivers
  split <;> omega

section

variable (l tick crc skew : Nat) (hold : Bool) (s : State)

/-- Too much skew holds the bundle. -/
def takeSkew : State :=
  applyIf (decide (16 < skew)) (fun s =>
    (s.set (R.LINK_STAT.SKEW_ERR (s.bundleOf l)) 1).modBdl (s.bundleOf l) fun b => { b with skewHold := true })
    (recvBlock l (markerPayload hold tick crc) s)

theorem takeSkew_trg : (takeSkew l tick crc skew hold s).trg l = s.trg l := by
  unfold takeSkew applyIf
  split <;> rfl

theorem takeSkew_get {f : Fld} (hf : f.key ≠ (R.LINK_STAT.SKEW_ERR (s.bundleOf l)).key) :
    (takeSkew l tick crc skew hold s).get f = s.get f := by
  unfold takeSkew applyIf
  split
  · show ((recvBlock l (markerPayload hold tick crc) s).set (R.LINK_STAT.SKEW_ERR (s.bundleOf l)) 1).get f = _
    exact State.get_set_ne _ _ hf
  · rfl

theorem recvBlock_flUsed (l payload : Nat) (s : State) : ((recvBlock l payload s).lst l).flUsed = (s.lst l).flUsed := by
  simp only [recvBlock, State.modLane, State.lst, at'_putD_same]

theorem takeSkew_rest : (takeSkew l tick crc skew hold s).clk = s.clk ∧
    ((takeSkew l tick crc skew hold s).lst l).flUsed = (s.lst l).flUsed := by
  have hused : ((recvBlock l (markerPayload hold tick crc) s).lst l).flUsed = (s.lst l).flUsed :=
    recvBlock_flUsed l _ s
  unfold takeSkew applyIf
  split <;> exact ⟨rfl, hused⟩

theorem takeMarker_eq : takeMarker l tick crc skew hold s =
    (applyIf (tcrc (s.trg l).rxIv != crc) (fun s => s.inc (R.LINK_STAT.TRG_ERR l)) (takeSkew l tick crc skew hold s)).modTrg l
      fun p => { p with rtick := tick, rbad := tcrc (s.trg l).rxIv != crc, rhold := hold, rxIv := [], rmark := true, rslot := 0 } := by
  have htrg := takeSkew_trg l tick crc skew hold s
  rw [← htrg]
  rfl

theorem takeMarker_trg : (takeMarker l tick crc skew hold s).trg l = { s.trg l with
    rtick := tick, rbad := tcrc (s.trg l).rxIv != crc, rhold := hold, rxIv := [], rmark := true, rslot := 0 } := by
  have htrg : (applyIf (tcrc (s.trg l).rxIv != crc) (fun s => s.inc (R.LINK_STAT.TRG_ERR l))
      (takeSkew l tick crc skew hold s)).trg l = s.trg l := by
    unfold applyIf
    split <;> exact takeSkew_trg l tick crc skew hold s
  rw [takeMarker_eq, State.trg_modTrg_same, htrg]

theorem takeMarker_get {f : Fld} (herr : f.key ≠ (R.LINK_STAT.TRG_ERR l).key) :
    (takeMarker l tick crc skew hold s).get f = (takeSkew l tick crc skew hold s).get f := by
  rw [takeMarker_eq]
  unfold applyIf
  split
  · exact State.get_set_ne _ _ herr
  · rfl

theorem takeMarker_err : (takeMarker l tick crc skew hold s).get (R.LINK_STAT.TRG_ERR l) =
    if tcrc (s.trg l).rxIv = crc then s.get (R.LINK_STAT.TRG_ERR l) else min (s.get (R.LINK_STAT.TRG_ERR l) + 1) 255 := by
  have hkept : (takeSkew l tick crc skew hold s).get (R.LINK_STAT.TRG_ERR l) = s.get (R.LINK_STAT.TRG_ERR l) :=
    takeSkew_get _ _ _ _ _ _ (by simp only [Fld.key, R.LINK_STAT.TRG_ERR, R.LINK_STAT.SKEW_ERR]; omega)
  rw [takeMarker_eq]
  unfold applyIf
  by_cases hcrc : tcrc (s.trg l).rxIv = crc
  · rw [if_pos hcrc, if_neg (by simp [hcrc])]
    exact hkept
  · rw [if_neg hcrc, if_pos (by simp [hcrc])]
    show ((takeSkew l tick crc skew hold s).inc (R.LINK_STAT.TRG_ERR l)).get (R.LINK_STAT.TRG_ERR l) = _
    rw [State.inc, State.addSat, State.get_set_same, hkept]
    show min (s.get (R.LINK_STAT.TRG_ERR l) + 1) 255 % 256 = _
    exact Nat.mod_eq_of_lt (by omega)

theorem takeMarker_skew (hskew : 16 < skew) : (takeMarker l tick crc skew hold s).get (R.LINK_STAT.SKEW_ERR (s.bundleOf l)) = 1 := by
  have hne : (R.LINK_STAT.SKEW_ERR (s.bundleOf l)).key ≠ (R.LINK_STAT.TRG_ERR l).key := by
    simp only [Fld.key, R.LINK_STAT.TRG_ERR, R.LINK_STAT.SKEW_ERR]; omega
  rw [takeMarker_get _ _ _ _ _ _ hne, takeSkew, applyIf, if_pos (by simpa using hskew)]
  exact State.get_set_same (recvBlock l (markerPayload hold tick crc) s) (R.LINK_STAT.SKEW_ERR (s.bundleOf l)) 1

/-- Settings of lanes, and of nothing else of a link, decide whether a lane is in fixed mode. -/
theorem takeMarker_fixed (hl : l < 96) : (takeMarker l tick crc skew hold s).fixedMode l = s.fixedMode l ∧
    (takeMarker l tick crc skew hold s).markTick l = s.markTick l := by
  have hle := bundleOf_le s l
  obtain ⟨hclk, hused⟩ := takeSkew_rest l tick crc skew hold s
  have hget (f : Fld) (hlow : f.key < 0x800000 * 64) : (takeMarker l tick crc skew hold s).get f = s.get f := by
    rw [takeMarker_get, takeSkew_get]
    · simp only [Fld.key, R.LINK_STAT.SKEW_ERR] at hlow ⊢; omega
    · simp only [Fld.key, R.LINK_STAT.TRG_ERR] at hlow ⊢; omega
  have hclk' : (takeMarker l tick crc skew hold s).clk = s.clk := by
    rw [takeMarker_eq]
    unfold applyIf
    split <;> exact hclk
  have hlst : ((takeMarker l tick crc skew hold s).lst l).flUsed = (s.lst l).flUsed := by
    rw [takeMarker_eq]
    unfold applyIf
    split <;> exact hused
  constructor
  · unfold State.fixedMode State.laneAligned State.laneK State.baseR State.flag
    rw [hclk', hget, hget, hget]
    · simp only [Fld.key, R.LANE_CFG.PROTO]; omega
    · simp only [Fld.key, R.LANE_CFG.FL_EN]; omega
    · simp only [Fld.key, R.LANE_CFG.KDIV]; omega
  · unfold State.markTick
    rw [hclk', hlst]

end

/-- What the two ends of a marker's check keep of it. -/
structure MarkerKept (l : Nat) (s t : State) : Prop where
  trg : t.trg l = s.trg l
  get : ∀ f : Fld, f.Plain → f.key ≠ (R.LINK_STAT.TICK_MIS l).key → t.get f = s.get f

theorem markerMissed_kept (l tick : Nat) (s : State) : MarkerKept l s (markerMissed l tick s) := by
  constructor
  · rw [markerMissed, State.trg, raise_link]
    unfold applyIf
    split <;> rfl
  · intro f hplain hmis
    have hregs : (applyIf (decide (92 ≤ l)) (fun s => s.modLink fun k => { k with lastMis := some s.clk.tick }) s).regs =
        s.regs := by
      unfold applyIf
      split <;> rfl
    rw [markerMissed, raise_get _ _ _ _ hplain, State.get_set_ne _ _ hmis, State.get, hregs]
    rfl

theorem markerMissed_shown (l tick : Nat) (s : State) (hl : l < 96) : (markerMissed l tick s).flag (R.LINK_STAT.TICK_MIS l) = true := by
  have hplain : Fld.Plain (R.LINK_STAT.TICK_MIS l) := by
    simp only [Fld.Plain, Fld.key, R.LINK_STAT.TICK_MIS]; omega
  rw [markerMissed, State.flag, raise_get _ _ _ _ hplain, State.get_set_same]
  rfl

theorem tryPair_kept (l : Nat) (s : State) : MarkerKept l s (tryPair s) := by
  unfold tryPair
  split <;> exact ⟨rfl, fun _ _ _ => rfl⟩


/-- What a received marker leaves in its port and in the status of its link (R373). -/
structure MarkerTaken (l tick crc skew : Nat) (hold : Bool) (s t : State) : Prop where
  tick : (t.trg l).rtick = tick
  hold : (t.trg l).rhold = hold
  bad : (t.trg l).rbad = (tcrc (s.trg l).rxIv != crc)
  fresh : (t.trg l).rxIv = []
  err : t.get (R.LINK_STAT.TRG_ERR l) =
    if tcrc (s.trg l).rxIv = crc then s.get (R.LINK_STAT.TRG_ERR l) else min (s.get (R.LINK_STAT.TRG_ERR l) + 1) 255
  skew : 16 < skew → t.flag (R.LINK_STAT.SKEW_ERR (s.bundleOf l)) = true

theorem takeMarker_taken (l tick crc skew : Nat) (hold : Bool) (s : State) :
    MarkerTaken l tick crc skew hold s (takeMarker l tick crc skew hold s) := by
  have htrg := takeMarker_trg l tick crc skew hold s
  refine ⟨by rw [htrg], by rw [htrg], by rw [htrg], by rw [htrg], takeMarker_err l tick crc skew hold s, fun h => ?_⟩
  rw [State.flag, takeMarker_skew l tick crc skew hold s h]
  rfl

theorem MarkerTaken.kept {l tick crc skew : Nat} {hold : Bool} (h : MarkerTaken l tick crc skew hold s t)
    (hk : MarkerKept l t u) (hl : l < 96) : MarkerTaken l tick crc skew hold s u := by
  have hle := bundleOf_le s l
  obtain ⟨htick, hhold, hbad, hfresh, herr, hskew⟩ := h
  refine ⟨by rw [hk.trg, htick], by rw [hk.trg, hhold], by rw [hk.trg, hbad], by rw [hk.trg, hfresh], ?_, fun h => ?_⟩
  · rw [hk.get, herr]
    · simp only [Fld.Plain, Fld.key, R.LINK_STAT.TRG_ERR]; omega
    · simp only [Fld.key, R.LINK_STAT.TRG_ERR, R.LINK_STAT.TICK_MIS]; omega
  · rw [State.flag, hk.get]
    · exact hskew h
    · simp only [Fld.Plain, Fld.key, R.LINK_STAT.SKEW_ERR]; omega
    · simp only [Fld.key, R.LINK_STAT.SKEW_ERR, R.LINK_STAT.TICK_MIS]; omega

theorem applyIf_tryPair_kept (c : Bool) (l : Nat) (s : State) : MarkerKept l s (applyIf c tryPair s) := by
  unfold applyIf
  split
  · exact tryPair_kept l s
  · exact ⟨rfl, fun _ _ _ => rfl⟩

theorem tickMarkerRx_taken {x : Fin 96} {tick crc skew : Nat} {hold : Bool} (hup : s.laneState (s.delivers x) = lsUp)
    (hbase : s.baseR (s.delivers x) = false) : ∃ t, exec (.tickMarkerRx x tick hold crc skew) s = .next t ∧
      MarkerTaken (s.delivers x) tick crc skew hold s t ∧ (s.fixedMode (s.delivers x) = true → tick ≠ s.markTick (s.delivers x) →
        t.flag (R.LINK_STAT.TICK_MIS (s.delivers x)) = true) := by
  have hl := delivers_lt s x.isLt
  have htaken := takeMarker_taken (s.delivers x) tick crc skew hold s
  obtain ⟨hfixed, hmark⟩ := takeMarker_fixed (s.delivers x) tick crc skew hold s hl
  rw [next_tickMarkerRx hup hbase rfl, hfixed, hmark]
  by_cases hmiss : s.fixedMode (s.delivers x) = true ∧ tick ≠ s.markTick (s.delivers x)
  · rw [if_pos hmiss]
    exact ⟨_, rfl, htaken.kept (markerMissed_kept _ _ _) hl, fun _ _ => markerMissed_shown _ _ _ hl⟩
  · rw [if_neg hmiss]
    exact ⟨_, rfl, htaken.kept (applyIf_tryPair_kept _ _ _) hl, fun hf hne => absurd ⟨hf, hne⟩ hmiss⟩

/-! ## Trigger slots -/

/-- The word of a slot that a port may send (R374). -/
def slotSends (s : State) (x : Fin 96) (tv : Bool) : Bool :=
  tv && s.fab.writes && !s.trgBlocked x && !(s.lst x).trgEmpty && !s.fab.cutLanes.contains x.val

theorem next_triggerSlotTx {x : Fin 96} {slot : Nat} {td : BitVec 64} {tv : Bool} (hup : s.laneState x = lsUp)
    (hone : 1 ≤ slot) (hle : slot ≤ s.get (R.LINK_CFG.TRIG_SLOTS x)) (hu : sendSlot x slot 1 td.toNat td.toNat s = u) :
    exec (.triggerSlotTx x slot td tv) s =
      if s.mode = mSafe then .next (sendSlot x slot 3 0 (safePayload s.devId (s.get R.DEV_MODE.SAFE_CAUSE)) s)
      else if slotSends s x tv = true then .next (if u.flag (R.LINK_CFG.DIG_EN x) = true then
        (closeWords u).modLink fun k => { k with words := k.words ++ [(x.val, slot, td.toNat)], wordsTick := u.clk.tick } else u)
      else .next (sendSlot x slot 2 0 emptyPayload s) := by
  have hgo : ¬ (s.laneState x ≠ lsUp ∨ slot < 1 ∨ s.get (R.LINK_CFG.TRIG_SLOTS x) < slot) := by
    simp only [hup, ne_eq, not_true_eq_false, false_or]
    omega
  have hword : (tv = true ∧ s.fab.writes = true ∧ (!s.trgBlocked x) = true ∧ (!(s.lst x).trgEmpty) = true ∧
      (!s.fab.cutLanes.contains x.val) = true) ↔ slotSends s x tv = true := by
    simp only [slotSends, Bool.and_eq_true, and_assoc]
  subst hu
  rw [exec_triggerSlotTx, execTriggerSlotTx, if_neg hgo]
  simp only [hword]
  split
  · rfl
  · split
    · split <;> rfl
    · rfl

theorem sendSlot_frame (l slot kind word payload : Nat) (s : State) :
    (sendSlot l slot kind word payload s).clk = s.clk ∧ (sendSlot l slot kind word payload s).regs = s.regs := by
  unfold sendSlot sendBlock
  split <;> exact ⟨rfl, rfl⟩

/-- A block of a slot reaches its port, before its kind is looked at (R375). -/
def takeSlot (l slot : Nat) (blk : SlotBlk) (s : State) : State :=
  (recvBlock l (slotPayload blk) s).modTrg l fun p =>
    { p with rslot := slot, rd := 0, rv := false, rerr := false, rmark := false, rxIv := p.rxIv ++ [slotPayload blk] }

/-- What a port presents of the kind of block that reached it (R375, R376). -/
def presentSlot (cut silent : Bool) (blk : SlotBlk) (p : TrgPort) : TrgPort :=
  if cut then { p with rerr := true }
  else match blk with
    | .word w => { p with rd := if !silent then w.toNat else 0, rv := !silent, rsafe := false }
    | .empty => { p with rsafe := false }
    | .safe _ _ => { p with rsafe := true }
    | .error _ => { p with rerr := true }

theorem recvBlock_trgEmpty (l payload : Nat) (s : State) :
    ((recvBlock l payload s).lst l).trgEmpty = (s.lst l).trgEmpty := by
  simp only [recvBlock, State.modLane, State.lst, at'_putD_same]

theorem next_triggerSlotRx {x : Fin 96} {slot : Nat} {blk : SlotBlk} (hup : s.laneState (s.delivers x) = lsUp)
    (hone : 1 ≤ slot) (hle : slot ≤ s.get (R.LINK_CFG.TRIG_SLOTS (s.delivers x))) :
    exec (.triggerSlotRx x slot blk) s = .next ((takeSlot (s.delivers x) slot blk s).modTrg (s.delivers x)
      (presentSlot (s.fab.cutLanes.contains (s.delivers x)) (s.lst (s.delivers x)).trgEmpty blk)) := by
  have hgo : ¬ (s.laneState (s.delivers x) ≠ lsUp ∨ slot < 1 ∨ s.get (R.LINK_CFG.TRIG_SLOTS (s.delivers x)) < slot) := by
    simp only [hup, ne_eq, not_true_eq_false, false_or]
    omega
  have hempty := recvBlock_trgEmpty (s.delivers x) (slotPayload blk) s
  rw [exec_triggerSlotRx, execTriggerSlotRx, if_neg hgo, ← hempty]
  unfold presentSlot
  by_cases hcut : s.fab.cutLanes.contains (s.delivers x) = true
  · simp only [hcut]
    exact if_pos hcut
  · rw [Bool.not_eq_true] at hcut
    simp only [hcut]
    refine (if_neg fun h => Bool.false_ne_true (hcut.symm.trans h)).trans ?_
    cases blk <;> rfl

theorem takeSlot_trg (l slot : Nat) (blk : SlotBlk) (s : State) : (takeSlot l slot blk s).trg l =
    { s.trg l with rslot := slot, rd := 0, rv := false, rerr := false, rmark := false,
                   rxIv := (s.trg l).rxIv ++ [slotPayload blk] } :=
  State.trg_modTrg_same _ _ _

theorem presented_trg (cut silent : Bool) (l slot : Nat) (blk : SlotBlk) (s : State) :
    (((takeSlot l slot blk s).modTrg l (presentSlot cut silent blk)).trg l) = presentSlot cut silent blk
      { s.trg l with rslot := slot, rd := 0, rv := false, rerr := false, rmark := false,
                     rxIv := (s.trg l).rxIv ++ [slotPayload blk] } := by
  rw [State.trg_modTrg_same, takeSlot_trg]

theorem presentSlot_slot (cut silent : Bool) (blk : SlotBlk) (p : TrgPort) : (presentSlot cut silent blk p).rslot = p.rslot := by
  unfold presentSlot
  cases cut <;> cases blk <;> rfl

theorem presentSlot_word (cut silent : Bool) (w : BitVec 64) {p : TrgPort} (hd : p.rd = 0) (hv : p.rv = false) :
    (presentSlot cut silent (.word w) p).rv = (!cut && !silent) ∧
      (presentSlot cut silent (.word w) p).rd = if cut = false ∧ silent = false then w.toNat else 0 := by
  cases cut with
  | true => exact ⟨hv, hd⟩
  | false => cases silent <;> exact ⟨rfl, rfl⟩

theorem presentSlot_noWord (cut silent : Bool) {blk : SlotBlk} {p : TrgPort} (hblk : ∀ w, blk ≠ .word w) (hd : p.rd = 0)
    (hv : p.rv = false) : (presentSlot cut silent blk p).rv = false ∧ (presentSlot cut silent blk p).rd = 0 := by
  cases cut with
  | true => exact ⟨hv, hd⟩
  | false =>
    cases blk with
    | word w => exact absurd rfl (hblk w)
    | empty => exact ⟨hv, hd⟩
    | safe d c => exact ⟨hv, hd⟩
    | error e => exact ⟨hv, hd⟩

theorem presentSlot_error (cut silent : Bool) (blk : SlotBlk) {p : TrgPort} (he : p.rerr = false) :
    (presentSlot cut silent blk p).rerr = (cut || match blk with | .error _ => true | _ => false) := by
  cases cut with
  | true => rfl
  | false =>
    cases blk with
    | word w => exact he
    | empty => exact he
    | safe d c => exact he
    | error e => rfl

theorem safeBlockRx_shows {x : Fin 96} {sender cause : Nat} {on : Bool} (hup : s.laneState x = lsUp) (hbase : s.baseR x = false) :
    ∃ t, exec (.safeBlockRx x sender cause on) s = .next t ∧ (t.bdl (s.bundleOf x)).safeSeen = on ∧ (t.trg x).rsafe = on ∧
      t.flag (R.LINK_STAT.PEER_SAFE (s.bundleOf x)) = on := by
  have hle := bundleOf_le s x
  have hgo : ¬ (s.laneState x ≠ lsUp ∨ s.baseR x = true) := by simp [hup, hbase]
  have hplain : Fld.Plain (R.LINK_STAT.PEER_SAFE (s.bundleOf x)) := by
    have := x.isLt
    simp only [Fld.Plain, Fld.key, R.LINK_STAT.PEER_SAFE]; omega
  have hset : ((s.setB (R.LINK_STAT.PEER_SAFE (s.bundleOf x)) on).modTrg x fun p => { p with rsafe := on }).flag
      (R.LINK_STAT.PEER_SAFE (s.bundleOf x)) = on := by
    show ((s.setB (R.LINK_STAT.PEER_SAFE (s.bundleOf x)) on).get (R.LINK_STAT.PEER_SAFE (s.bundleOf x)) != 0) = on
    rw [State.setB, State.get_set_same]
    cases on <;> rfl
  have htrg : (((s.setB (R.LINK_STAT.PEER_SAFE (s.bundleOf x)) on).modTrg x fun p => { p with rsafe := on }).trg x).rsafe = on :=
    congrArg TrgPort.rsafe (State.trg_modTrg_same _ _ _)
  rw [exec_safeBlockRx, execSafeBlockRx, if_neg hgo]
  dsimp only
  clear hgo hup hbase
  generalize (s.setB (R.LINK_STAT.PEER_SAFE (s.bundleOf x)) on).modTrg x (fun p => { p with rsafe := on }) = u at hset htrg ⊢
  cases on with
  | false =>
    refine ⟨_, rfl, ?_, htrg, hset⟩
    rw [State.bdl_modBdl_same]
  | true =>
    rw [if_pos rfl]
    split
    next hseen => exact ⟨_, rfl, hseen, htrg, hset⟩
    next =>
      refine ⟨_, rfl, ?_, ?_, ?_⟩
      · rw [State.bdl, raise_link]
        exact congrArg Bundle.safeSeen (State.bdl_modBdl_same u (s.bundleOf x) _)
      · rw [State.trg, raise_link]
        exact htrg
      · rw [State.flag, raise_get _ _ _ _ hplain]
        exact hset

/-! ## Packet channel -/

/-- Duplicate suppression keeps what has arrived (R401). -/
structure DupKept (f : Nat) (s : State) (r : Bool × State) : Prop where
  rxSeq : (r.2.bdl f).rxSeq = (s.bdl f).rxSeq
  ackDue : (r.2.bdl f).ackDue = (s.bdl f).ackDue
  nakked : (r.2.bdl f).nakked = (s.bdl f).nakked
  rxPkts : (r.2.bdl f).rxPkts = (s.bdl f).rxPkts
  dupCnt : r.1 = true → (r.2.bdl f).dupCnt = (s.bdl f).dupCnt + 1

theorem dupCheck_kept (f : Nat) (p : Pkt) (s : State) : DupKept f s (dupCheck f p s) := by
  unfold dupCheck
  dsimp only
  split
  · split
    · constructor <;> simp only [State.bdl_modBdl_same, implies_true]
    · constructor <;> simp [State.bdl_modBdl_same]
  · split
    · exact ⟨rfl, rfl, rfl, rfl, fun h => absurd h Bool.false_ne_true⟩
    · constructor <;> simp [State.bdl_modBdl_same]

/-- A packet is good: its check matches, both numbers agree, its flits arrived and it is the next (R379). -/
def PktGood (s : State) (f qs qe n vc : Nat) (pcrc : BitVec 32) (flits : List (BitVec 256)) : Prop :=
  pcrcOf qs n vc flits = pcrc.toNat ∧ qs = qe ∧ flits.length = n ∧ 1 ≤ n ∧ n ≤ 17 ∧ qs = (s.bdl f).rxSeq

/-- A good packet is noted, and the entry bridge gets it unless it was delivered before (R379, R401). -/
def takePkt (f : Nat) (p : Pkt) (s : State) : State :=
  let s := s.modBdl f fun b => { b with rxSeq := (b.rxSeq + 1) % 4096, nakked := false, ackDue := true }
  let r := if s.flag (R.LINK_CFG.DUP_EN f) then dupCheck f p s else (false, s)
  if r.1 then returnCredit f p r.2 else r.2.modBdl f fun b => { b with rxPkts := b.rxPkts ++ [p] }

theorem returnCredit_bdl (f : Nat) (p : Pkt) (s : State) : (returnCredit f p s).bdl f =
    { s.bdl f with giveBack := addCredit (s.bdl f).giveBack p.vc (pktFlits p), ackDue := true } :=
  State.bdl_modBdl_same _ _ _

theorem takePkt_taken (f : Nat) (p : Pkt) (s : State) :
    ((takePkt f p s).bdl f).rxSeq = ((s.bdl f).rxSeq + 1) % 4096 ∧ ((takePkt f p s).bdl f).ackDue = true ∧
      ((takePkt f p s).bdl f).nakked = false ∧ (((takePkt f p s).bdl f).rxPkts = (s.bdl f).rxPkts ++ [p] ∨
        s.flag (R.LINK_CFG.DUP_EN f) = true ∧ ((takePkt f p s).bdl f).rxPkts = (s.bdl f).rxPkts ∧
          ((takePkt f p s).bdl f).dupCnt = (s.bdl f).dupCnt + 1) := by
  have hbdl := State.bdl_modBdl_same s f fun b => { b with rxSeq := (b.rxSeq + 1) % 4096, nakked := false, ackDue := true }
  have hflag : (s.modBdl f fun b => { b with rxSeq := (b.rxSeq + 1) % 4096, nakked := false, ackDue := true }).flag
      (R.LINK_CFG.DUP_EN f) = s.flag (R.LINK_CFG.DUP_EN f) := rfl
  unfold takePkt
  dsimp only
  generalize s.modBdl f (fun b => { b with rxSeq := (b.rxSeq + 1) % 4096, nakked := false, ackDue := true }) = u at hbdl hflag ⊢
  obtain ⟨r, hr⟩ : ∃ r, (if u.flag (R.LINK_CFG.DUP_EN f) = true then dupCheck f p u else (false, u)) = r := ⟨_, rfl⟩
  have hkept : DupKept f u r := by
    rw [← hr]
    split
    · exact dupCheck_kept f p u
    · exact ⟨rfl, rfl, rfl, rfl, fun h => absurd h Bool.false_ne_true⟩
  have hon (h : r.1 = true) : s.flag (R.LINK_CFG.DUP_EN f) = true := by
    by_contra hoff
    rw [if_neg (by rw [hflag]; exact hoff)] at hr
    rw [← hr] at h
    exact Bool.false_ne_true h
  obtain ⟨hseq, hack, hnak, hpkts, hcnt⟩ := hkept
  rw [hr]
  rw [hbdl] at hseq hack hnak hpkts hcnt
  split
  next hdup =>
    rw [returnCredit_bdl]
    exact ⟨hseq, rfl, hnak, .inr ⟨hon hdup, hpkts, hcnt hdup⟩⟩
  next =>
    rw [State.bdl_modBdl_same]
    exact ⟨hseq, hack, hnak, .inl (by rw [← hpkts])⟩

section

variable {x : Fin 96} {qs qe n vc bad : Nat} {pcrc : BitVec 32} {flits : List (BitVec 256)}

theorem next_pktRx_good (hopen : s.streamOpen (s.bundleOf x) = true)
    (hgood : PktGood s (s.bundleOf x) qs qe n vc pcrc flits) :
    exec (.pktRx x qs qe ⟨n, vc⟩ pcrc flits bad) s = .next (takePkt (s.bundleOf x) (pktOf (flits.map BitVec.toNat))
      (s.addSat (R.LINK_STAT.BLK_ERR (s.bundleOf x)) bad)) := by
  rw [exec_pktRx, execPktRx]
  simp only [hopen, applyIf, if_true, Bool.not_true, Bool.false_eq_true, if_false]
  unfold PktGood at hgood
  rw [if_pos hgood]
  exact (apply_ite Host.Outcome.next _ _ _).symm

theorem next_pktRx_bad (hopen : s.streamOpen (s.bundleOf x) = true)
    (hbad : ¬ PktGood s (s.bundleOf x) qs qe n vc pcrc flits) :
    exec (.pktRx x qs qe ⟨n, vc⟩ pcrc flits bad) s =
      if (s.bdl (s.bundleOf x)).nakked then .next (s.addSat (R.LINK_STAT.BLK_ERR (s.bundleOf x)) bad)
      else .next ((s.addSat (R.LINK_STAT.BLK_ERR (s.bundleOf x)) bad).modBdl (s.bundleOf x)
        fun b => { b with nakked := true, ackDue := true, nakDue := true }) := by
  rw [exec_pktRx, execPktRx]
  simp only [hopen, applyIf, if_true, Bool.not_true, Bool.false_eq_true, if_false]
  unfold PktGood at hbad
  rw [if_neg hbad]

theorem addSat_bdl (fld : Fld) (f : Nat) : (s.addSat fld bad).bdl f = s.bdl f := rfl

/-- A good packet is taken once, and the next number is expected (R379, R401). -/
theorem pktRx_good (hopen : s.streamOpen (s.bundleOf x) = true) (hgood : PktGood s (s.bundleOf x) qs qe n vc pcrc flits) :
    ∃ t, exec (.pktRx x qs qe ⟨n, vc⟩ pcrc flits bad) s = .next t ∧ (t.bdl (s.bundleOf x)).rxSeq = (qs + 1) % 4096 ∧
      (t.bdl (s.bundleOf x)).ackDue = true ∧ (t.bdl (s.bundleOf x)).nakked = false ∧
      ((t.bdl (s.bundleOf x)).rxPkts = (s.bdl (s.bundleOf x)).rxPkts ++ [pktOf (flits.map BitVec.toNat)] ∨
        s.flag (R.LINK_CFG.DUP_EN (s.bundleOf x)) = true ∧ (t.bdl (s.bundleOf x)).rxPkts = (s.bdl (s.bundleOf x)).rxPkts ∧
          (t.bdl (s.bundleOf x)).dupCnt = (s.bdl (s.bundleOf x)).dupCnt + 1) := by
  have hne : (R.LINK_CFG.DUP_EN (s.bundleOf x)).key ≠ (R.LINK_STAT.BLK_ERR (s.bundleOf x)).key := by
    have := bundleOf_le s x
    have := x.isLt
    simp only [Fld.key, R.LINK_CFG.DUP_EN, R.LINK_STAT.BLK_ERR]; omega
  have hdup : (s.addSat (R.LINK_STAT.BLK_ERR (s.bundleOf x)) bad).flag (R.LINK_CFG.DUP_EN (s.bundleOf x)) =
      s.flag (R.LINK_CFG.DUP_EN (s.bundleOf x)) :=
    congrArg (· != 0) (State.get_set_ne _ _ hne)
  have htaken := takePkt_taken (s.bundleOf x) (pktOf (flits.map BitVec.toNat))
    (s.addSat (R.LINK_STAT.BLK_ERR (s.bundleOf x)) bad)
  obtain ⟨_, _, _, _, _, hnext⟩ := id hgood
  rw [hdup, addSat_bdl, ← hnext] at htaken
  exact ⟨_, next_pktRx_good hopen hgood, htaken⟩

/-- A bad packet is answered with one NAK, and discarded (R381). -/
theorem pktRx_bad (hopen : s.streamOpen (s.bundleOf x) = true) (hbad : ¬ PktGood s (s.bundleOf x) qs qe n vc pcrc flits) :
    ∃ t, exec (.pktRx x qs qe ⟨n, vc⟩ pcrc flits bad) s = .next t ∧
      (t.bdl (s.bundleOf x)).rxPkts = (s.bdl (s.bundleOf x)).rxPkts ∧
      (t.bdl (s.bundleOf x)).rxSeq = (s.bdl (s.bundleOf x)).rxSeq ∧ (t.bdl (s.bundleOf x)).nakked = true ∧
      ((s.bdl (s.bundleOf x)).nakked = false → (t.bdl (s.bundleOf x)).nakDue = true) := by
  rw [next_pktRx_bad hopen hbad]
  split
  next hnak => exact ⟨_, rfl, rfl, rfl, hnak, fun h => absurd (hnak.symm.trans h) Bool.true_eq_false.mp⟩
  next =>
    refine ⟨_, rfl, ?_⟩
    rw [State.bdl_modBdl_same, addSat_bdl]
    exact ⟨rfl, rfl, rfl, fun _ => rfl⟩

end

theorem next_ackRx {x : Fin 96} {next : Nat} {nak : Bool} {credits : List Nat} {kept : List (Nat × Pkt)}
    (hopen : s.streamOpen (s.bundleOf x) = true) (hblocked : s.flag (R.LINK_STAT.BLOCKED (s.bundleOf x)) = false)
    (hkept : ((s.bdl (s.bundleOf x)).replay.filter fun e => !ackCovers (next % 4096) e.1) = kept)
    (hu : ((if kept.length = (s.bdl (s.bundleOf x)).replay.length then s
        else s.set (R.LINK_STAT.REPLAYS (s.bundleOf x)) 0).modBdl (s.bundleOf x) fun b =>
      { b with replay := kept, resend := min b.resend kept.length,
               credits := (List.range 4).map fun v => min 68 (b.credits.getD v 0 + credits.getD v 0) }) = u) :
    exec (.ackRx x next nak credits) s = .next (if nak then startReplay (s.bundleOf x) u else u) := by
  have hgo : ¬ ((!s.streamOpen (s.bundleOf x) || s.flag (R.LINK_STAT.BLOCKED (s.bundleOf x))) = true) := by
    simp [hopen, hblocked]
  subst hu hkept
  rw [exec_ackRx, execAckRx, if_neg hgo]
  dsimp only [applyIf]
  rw [← ite_not (p := _ = List.length _)]
  simp only [bne_iff_ne, ne_eq]

theorem next_ackTimeout {x : Fin 96} {edge : Bool} (hup : s.flag (R.LINK_STAT.LINK_UP (s.bundleOf x)) = true)
    (hreplay : (s.bdl (s.bundleOf x)).replay ≠ []) : exec (.ackTimeout x edge) s =
      if edge then .next (s.set (R.LINK_STAT.LATE (s.bundleOf x)) 1) else .next (startReplay (s.bundleOf x) s) := by
  have hgo : ¬ ((!s.flag (R.LINK_STAT.LINK_UP (s.bundleOf x)) || (s.bdl (s.bundleOf x)).replay == []) = true) := by
    simpa [hup] using hreplay
  rw [exec_ackTimeout, execAckTimeout, if_neg hgo]

theorem next_bundleDownTimeout {x : Fin 96} (hdown : s.flag (R.LINK_STAT.LINK_UP (s.bundleOf x)) = false)
    (hblocked : s.flag (R.LINK_STAT.BLOCKED (s.bundleOf x)) = false) (hbase : s.baseR (s.bundleOf x) = false)
    (hon : s.up = true) : exec (.bundleDownTimeout x) s = .next (blockChannel (s.bundleOf x) s) := by
  have hgo : ¬ ((s.flag (R.LINK_STAT.LINK_UP (s.bundleOf x)) || s.flag (R.LINK_STAT.BLOCKED (s.bundleOf x)) ||
      s.baseR (s.bundleOf x) || !s.up) = true) := by
    simp [hdown, hblocked, hbase, hon]
  rw [exec_bundleDownTimeout, execBundleDownTimeout, if_neg hgo]

/-! ## An exchange of epochs -/

/-- The channel after an exchange: full credit, the epochs of both ends, and the role of a Twin (R380, R397). -/
def initChannel (f epoch dev role : Nat) (s : State) : State :=
  let own := s.epochOf f
  let u := ((s.set (R.LINK_STAT.BLOCKED f) 0).set (R.LINK_STAT.REPLAYS f) 0).modBdl f fun b =>
    { b with farEpoch := some epoch, ownAtLast := own, nakked := false, credits := [68, 68, 68, 68],
             giveBack := [0, 0, 0, 0], resend := b.replay.length }
  if f = 92 then u.modLink fun k => { k with farRole := some role, farDev := dev } else u

/-- Both ends restart, and what was not acknowledged is refused (R383). -/
def restartChannel (f : Nat) (lost : List Pkt) (s : State) : State :=
  forEach lost (fun p => refusePkt p 0x09 f)
    (s.modBdl f fun b => { b with txSeq := 0, rxSeq := 0, replay := [], resend := 0 })

theorem next_initRx {x : Fin 96} {epoch dev role : Nat} (hopen : s.streamOpen (s.bundleOf x) = true)
    (hu : initChannel (s.bundleOf x) epoch dev role s = u) : exec (.initRx x epoch dev role) s =
      if (s.bdl (s.bundleOf x)).farEpoch = some epoch ∧ (s.bdl (s.bundleOf x)).ownAtLast = s.epochOf (s.bundleOf x) then .next u
      else .next (restartChannel (s.bundleOf x) ((s.bdl (s.bundleOf x)).replay.map (·.2)) u) := by
  have hgo : ¬ ((!s.streamOpen (s.bundleOf x)) = true) := by simp [hopen]
  subst hu
  rw [exec_initRx, execInitRx, if_neg hgo]
  rfl

theorem initChannel_bdl (f epoch dev role : Nat) (s : State) : (initChannel f epoch dev role s).bdl f =
    { s.bdl f with farEpoch := some epoch, ownAtLast := s.epochOf f, nakked := false, credits := [68, 68, 68, 68],
                   giveBack := [0, 0, 0, 0], resend := (s.bdl f).replay.length } := by
  unfold initChannel
  dsimp only
  have hbdl : (((s.set (R.LINK_STAT.BLOCKED f) 0).set (R.LINK_STAT.REPLAYS f) 0).modBdl f fun b =>
      { b with farEpoch := some epoch, ownAtLast := s.epochOf f, nakked := false, credits := [68, 68, 68, 68],
               giveBack := [0, 0, 0, 0], resend := b.replay.length }).bdl f = _ := State.bdl_modBdl_same _ _ _
  split <;> exact hbdl

theorem initChannel_blocked (f epoch dev role : Nat) (s : State) :
    (initChannel f epoch dev role s).get (R.LINK_STAT.BLOCKED f) = 0 := by
  have hne : (R.LINK_STAT.BLOCKED f).key ≠ (R.LINK_STAT.REPLAYS f).key := by
    simp only [Fld.key, R.LINK_STAT.BLOCKED, R.LINK_STAT.REPLAYS]; omega
  have hset : ((s.set (R.LINK_STAT.BLOCKED f) 0).set (R.LINK_STAT.REPLAYS f) 0).get (R.LINK_STAT.BLOCKED f) = 0 := by
    rw [State.get_set_ne _ _ hne, State.get_set_same]
    rfl
  unfold initChannel
  dsimp only
  split <;> exact hset

theorem initChannel_role (epoch dev role : Nat) (s : State) :
    (initChannel 92 epoch dev role s).link.farRole = some role ∧ (initChannel 92 epoch dev role s).link.farDev = dev :=
  ⟨rfl, rfl⟩

theorem restartChannel_frame (f : Nat) (lost : List Pkt) (s : State) : NocOnly
    (s.modBdl f fun b => { b with txSeq := 0, rxSeq := 0, replay := [], resend := 0 }) (restartChannel f lost s) :=
  forEach_ind (NocOnly _) _ _ _ NocOnly.refl fun p t h => h.trans (NocOnly.refusePkt p 0x09 f t)

theorem initRx_exchanged {x : Fin 96} {epoch dev role : Nat} (hopen : s.streamOpen (s.bundleOf x) = true) : ∃ t,
    exec (.initRx x epoch dev role) s = .next t ∧ (t.bdl (s.bundleOf x)).credits = [68, 68, 68, 68] ∧
      (t.bdl (s.bundleOf x)).farEpoch = some epoch ∧ t.flag (R.LINK_STAT.BLOCKED (s.bundleOf x)) = false ∧
      (s.bundleOf x = 92 → t.link.farRole = some role ∧ t.link.farDev = dev) ∧
      if (s.bdl (s.bundleOf x)).farEpoch = some epoch ∧ (s.bdl (s.bundleOf x)).ownAtLast = s.epochOf (s.bundleOf x) then
        (t.bdl (s.bundleOf x)).replay = (s.bdl (s.bundleOf x)).replay ∧
          (t.bdl (s.bundleOf x)).txSeq = (s.bdl (s.bundleOf x)).txSeq
      else (t.bdl (s.bundleOf x)).replay = [] ∧ (t.bdl (s.bundleOf x)).txSeq = 0 ∧ (t.bdl (s.bundleOf x)).rxSeq = 0 := by
  have hle : s.bundleOf x ≤ x := bundleOf_le s x
  have hlt := x.isLt
  rw [next_initRx hopen rfl]
  generalize s.bundleOf x = f at *
  have hbdl := initChannel_bdl f epoch dev role s
  have hblk : (initChannel f epoch dev role s).flag (R.LINK_STAT.BLOCKED f) = false := by
    rw [State.flag, initChannel_blocked]
    rfl
  have hrole : f = 92 → (initChannel f epoch dev role s).link.farRole = some role ∧
      (initChannel f epoch dev role s).link.farDev = dev := by
    rintro rfl
    exact initChannel_role epoch dev role s
  generalize initChannel f epoch dev role s = u at hbdl hblk hrole ⊢
  split
  · refine ⟨u, rfl, ?_, ?_, hblk, hrole, ?_, ?_⟩ <;> rw [hbdl]
  · have hframe := restartChannel_frame f ((s.bdl f).replay.map (·.2)) u
    generalize restartChannel f ((s.bdl f).replay.map (·.2)) u = t at hframe ⊢
    have hlink : t.link = _ := congrArg State.link hframe.same
    have htbdl : t.bdl f = { u.bdl f with txSeq := 0, rxSeq := 0, replay := [], resend := 0 } := by
      have hrest := State.bdl_modBdl_same u f fun b => { b with txSeq := 0, rxSeq := 0, replay := [], resend := 0 }
      rw [State.bdl, hlink]
      exact hrest
    have htblk : t.flag (R.LINK_STAT.BLOCKED f) = false := by
      rw [State.flag, hframe.get]
      · exact hblk
      · simp only [Fld.Plain, Fld.key, R.LINK_STAT.BLOCKED]; omega
      · simp only [Fld.key, R.LINK_STAT.BLOCKED]; omega
    refine ⟨t, rfl, ?_, ?_, htblk, ?_, ?_, ?_, ?_⟩
    · rw [htbdl, hbdl]
    · rw [htbdl, hbdl]
    · rw [hlink]
      exact hrole
    · rw [htbdl]
    · rw [htbdl]
    · rw [htbdl]

/-! ## Bridges -/

section

variable {x : Fin 96} {p : Pkt} {ps : List Pkt}

theorem next_bridgeForward_out (hf : s.bundleOf x = x.val) (hbase : s.baseR (s.bundleOf x) = false)
    (hhead : s.rxHead (0x100 + s.bundleOf x) = some p) : exec (.bridgeForward x false) s =
      .next (exitBridge (s.bundleOf x) p (popRx (0x100 + s.bundleOf x) s)) := by
  have hgo : ¬ (s.bundleOf x ≠ x.val ∨ s.baseR x = true) := by
    rw [hf] at hbase
    simp [hf, hbase]
  rw [exec_bridgeForward, execBridgeForward, if_neg hgo]
  dsimp only
  rw [hhead]
  rfl

/-- A packet that this device keeps: its own, or one of a load over the bridge (R442). -/
def BridgeOwn (s : State) (x : Fin 96) (p : Pkt) : Prop :=
  p.dev = s.devId ∨ ((s.lst x).loading = true ∧ s.mode = mLoad ∧ p.ep = 0xA1)

/-- The packet leaves the buffer of its entry bridge, and its credits return (R380). -/
def takeBridged (f : Nat) (p : Pkt) (ps : List Pkt) (s : State) : State :=
  returnCredit f p (s.modBdl f fun b => { b with rxPkts := ps })

/-- Where a packet that is not this device's goes (R385–R387). -/
def forwardBridged (f : Nat) (p : Pkt) (u : State) : State :=
  if p.dev = 0xFFFFF then
    if p.typ ≠ 2 then refusePkt p 0x0A u.devId u
    else forEach ((bridgeRoute f p.ep p u).treeLinks.filter fun k => k != f) (fun k => bridgeRoute f (0x100 + k) p)
      (bridgeRoute f p.ep p u)
  else match u.exitBundle p.dev with
    | some k => if k = f ∨ !u.isSpaif k then refusePkt p 0x0A u.devId u else bridgeRoute f (0x100 + k) p u
    | none => refusePkt p 0x0A u.devId u

theorem next_bridgeForward_own (hf : s.bundleOf x = x.val) (hbase : s.baseR (s.bundleOf x) = false)
    (hpkts : (s.bdl (s.bundleOf x)).rxPkts = p :: ps) (hown : BridgeOwn s x p) : exec (.bridgeForward x true) s =
      .next (bridgeRoute (s.bundleOf x) p.ep { p with dev := s.devId } (takeBridged (s.bundleOf x) p ps s)) := by
  have hgo : ¬ (s.bundleOf x ≠ x.val ∨ s.baseR x = true) := by
    rw [hf] at hbase
    simp [hf, hbase]
  rw [exec_bridgeForward, execBridgeForward, if_neg hgo]
  dsimp only
  rw [hpkts]
  exact if_pos hown

theorem next_bridgeForward_on (hf : s.bundleOf x = x.val) (hbase : s.baseR (s.bundleOf x) = false)
    (hpkts : (s.bdl (s.bundleOf x)).rxPkts = p :: ps) (hown : ¬ BridgeOwn s x p) : exec (.bridgeForward x true) s =
      .next (forwardBridged (s.bundleOf x) p (takeBridged (s.bundleOf x) p ps s)) := by
  have hgo : ¬ (s.bundleOf x ≠ x.val ∨ s.baseR x = true) := by
    rw [hf] at hbase
    simp [hf, hbase]
  rw [exec_bridgeForward, execBridgeForward, if_neg hgo]
  dsimp only
  rw [hpkts]
  refine (if_neg hown).trans ?_
  unfold forwardBridged takeBridged
  generalize returnCredit _ p _ = u
  by_cases hall : p.dev = 0xFFFFF
  · rw [if_pos hall, if_pos hall]
    split <;> rfl
  · rw [if_neg hall, if_neg hall]
    cases u.exitBundle p.dev with
    | none => rfl
    | some k =>
      dsimp only
      split <;> rfl

end

/-! ## Stream positions -/

section

variable {x : Fin 96} (hup : s.flag (R.LINK_STAT.LINK_UP (s.bundleOf x)) = true) (hbase : s.baseR (s.bundleOf x) = false)
  (hturn : x.val = s.bundleOf x + (s.bdl (s.bundleOf x)).txPos % (s.bundleLanes (s.bundleOf x)).length)

include hup hbase hturn in
theorem streamPositionTx_acts : ¬ ((!s.flag (R.LINK_STAT.LINK_UP (s.bundleOf x)) || s.baseR (s.bundleOf x) ||
    x.val != s.bundleOf x + (s.bdl (s.bundleOf x)).txPos % (s.bundleLanes (s.bundleOf x)).length) = true) := by
  have hne : (x.val != s.bundleOf x + (s.bdl (s.bundleOf x)).txPos % (s.bundleLanes (s.bundleOf x)).length) = false := by
    rw [bne_eq_false_iff_eq]
    exact hturn
  simp [hup, hbase, hne]

include hup hbase hturn

theorem next_streamPositionTx_timing {c v : Nat} {ts : List (Nat × Nat)}
    (htiming : (s.bdl (s.bundleOf x)).timing = (c, v) :: ts) : exec (.streamPositionTx x) s =
      .next (sendStream (s.bundleOf x) [(2, 0x5A + 2 ^ 8 * c + 2 ^ 12 * v)] (s.modBdl (s.bundleOf x) fun b =>
        { b with timing := ts, lastKind := 1, lastVal := c + 16 * v })) := by
  rw [exec_streamPositionTx, execStreamPositionTx, if_neg (streamPositionTx_acts hup hbase hturn)]
  dsimp only
  rw [htiming]

theorem next_streamPositionTx_ack (htiming : (s.bdl (s.bundleOf x)).timing = []) (hack : (s.bdl (s.bundleOf x)).ackDue = true)
    {v : Nat} (hv : (s.bdl (s.bundleOf x)).rxSeq + (if (s.bdl (s.bundleOf x)).nakDue then 4096 else 0) +
      2 ^ 16 * ofLeBytes (s.bdl (s.bundleOf x)).giveBack = v) : exec (.streamPositionTx x) s =
      .next (sendStream (s.bundleOf x) [(2, 0x4B + 2 ^ 8 * v)] (s.modBdl (s.bundleOf x) fun b =>
        { b with ackDue := false, nakDue := false, giveBack := [0, 0, 0, 0], lastKind := 2, lastVal := v })) := by
  rw [exec_streamPositionTx, execStreamPositionTx, if_neg (streamPositionTx_acts hup hbase hturn)]
  dsimp only
  rw [htiming]
  dsimp only
  rw [if_pos hack, hv]

theorem next_streamPositionTx_idle (htiming : (s.bdl (s.bundleOf x)).timing = []) (hack : (s.bdl (s.bundleOf x)).ackDue = false)
    (hdigest : (s.bdl (s.bundleOf x)).digest = none) (hmgmt : (s.bdl (s.bundleOf x)).mgmt = [])
    (hpkt : s.nextPacket (s.bundleOf x) = none) (hmode : s.mode ≠ mSafe) : exec (.streamPositionTx x) s =
      .next (sendStream (s.bundleOf x) [(2, 0x2D)] (s.modBdl (s.bundleOf x) fun b => { b with lastKind := 6, lastVal := 0 })) := by
  rw [exec_streamPositionTx, execStreamPositionTx, if_neg (streamPositionTx_acts hup hbase hturn)]
  dsimp only
  rw [htiming]
  dsimp only
  rw [if_neg (by simp [hack]), hdigest]
  dsimp only
  rw [hmgmt]
  dsimp only
  rw [hpkt]
  exact if_neg hmode

end

/-- Settles O38: each event is its own step, and what follows it (refused packets, records, a pairing) keeps what the
clause names. -/
theorem linkEventsComplete : Obligations.LinkEventsComplete := by
  intro s x l f
  refine ⟨?_, ?_, ?_, ?_, ?_, ?_, ?_, ?_, ?_, ?_, ?_, ?_, ?_, ?_⟩
  · intro tick crc skew hold hup hbase
    obtain ⟨t, hexec, htaken, hmis⟩ := tickMarkerRx_taken (tick := tick) (crc := crc) (skew := skew) (hold := hold) hup hbase
    exact ⟨t, hexec, htaken.tick, htaken.hold, htaken.bad, htaken.fresh, htaken.err, htaken.skew, hmis⟩
  · intro slot td tv hup hone hle word u
    have hexec := next_triggerSlotTx (u := u) (td := td) (tv := tv) hup hone hle rfl
    have hclk : u.clk = s.clk := (sendSlot_frame _ _ _ _ _ _).1
    have hdig : u.flag (R.LINK_CFG.DIG_EN x) = s.flag (R.LINK_CFG.DIG_EN x) := by
      rw [State.flag, State.get, (sendSlot_frame _ _ _ _ _ _).2]
      rfl
    rw [hclk, hdig] at hexec
    clear_value u
    refine ⟨fun hsafe => ?_, fun hsafe hword => ?_, fun hsafe hword => ?_⟩
    · rw [hexec, if_pos hsafe]
    · rw [hexec, if_neg hsafe, if_pos (show slotSends s x tv = true from hword)]
    · rw [hexec, if_neg hsafe, if_neg (by rw [show slotSends s x tv = word from rfl, hword]; exact Bool.false_ne_true)]
  · intro slot b hup hone hle
    have htrg := presented_trg (s.fab.cutLanes.contains l) (s.lst l).trgEmpty l slot b s
    refine ⟨_, next_triggerSlotRx hup hone hle, ?_⟩
    rw [htrg]
    refine ⟨presentSlot_slot _ _ _ _, rfl, ?_, fun hb => presentSlot_noWord _ _ hb rfl rfl, ?_, ?_⟩
    · rintro w rfl
      exact presentSlot_word _ _ w rfl rfl
    · exact presentSlot_error _ _ b rfl
    · rintro d c hcut rfl
      rw [hcut]
      rfl
  · intro sender cause on hup hbase
    exact safeBlockRx_shows hup hbase
  · intro qs qe n vc bad pcrc flits hopen good p
    exact ⟨pktRx_good hopen, pktRx_bad hopen⟩
  · intro next nak credits hopen hblocked kept u
    exact next_ackRx hopen hblocked rfl rfl
  · intro hup hreplay
    exact ⟨(next_ackTimeout hup hreplay).trans (if_pos rfl), (next_ackTimeout hup hreplay).trans (if_neg Bool.false_ne_true)⟩
  · exact next_bundleDownTimeout
  · intro epoch dev role hopen
    exact initRx_exchanged hopen
  · intro p hf hbase hhead
    exact next_bridgeForward_out hf hbase hhead
  · intro p ps hf hbase hpkts u own
    have hon (hown : ¬ own) : exec (.bridgeForward x true) s = .next (forwardBridged f p u) :=
      next_bridgeForward_on hf hbase hpkts hown
    refine ⟨next_bridgeForward_own hf hbase hpkts, fun hown hall htyp => ?_, fun hown hall htyp => ?_,
      fun hown hall k hk hne hspaif => ?_, fun hown hall hk => ?_⟩
    · rw [hon hown, forwardBridged, if_pos hall, if_neg (by simp [htyp])]
    · rw [hon hown, forwardBridged, if_pos hall, if_pos htyp]
      rfl
    · rw [hon hown, forwardBridged, if_neg hall, show u.exitBundle p.dev = some k from hk]
      exact congrArg _ (if_neg (by simp [hne, show u.isSpaif k = true from hspaif]))
    · rw [hon hown, forwardBridged, if_neg hall, show u.exitBundle p.dev = none from hk]
      rfl
  · intro hup hbase hturn
    exact ⟨fun c v ts => next_streamPositionTx_timing hup hbase hturn,
      fun htiming hack => next_streamPositionTx_ack hup hbase hturn htiming hack rfl,
      fun htiming hack hdigest hmgmt hpkt hmode =>
        next_streamPositionTx_idle hup hbase hturn htiming hack hdigest hmgmt hpkt hmode⟩
  · intro rd rc h hup hbase hsync
    rw [exec_baseRRxBlock, execBaseRRxBlock, if_pos ⟨hup, hbase, by rw [hsync]; rfl⟩]
  · intro td tc hup hbase hwrites
    rw [exec_baseRTxBlock, execBaseRTxBlock, if_pos ⟨hup, hbase, hwrites⟩]

end Sys2Proof.Machine
end
